-- ==== Sys2Proof/Word.lean ====
section
/-! DEFINITION. Word types, the sparse table type, and the enumerations that fields of the manual carry. -/

namespace Sys2Proof

abbrev Byte := BitVec 8
abbrev Word := BitVec 32
/-- A vector register of a tile (12 R307). -/
abbrev Vec := BitVec 128
/-- A slot word's bundle (12 R310). -/
abbrev Bundle := BitVec 128

/-- A sparse table: keys strictly rising, no entry equal to the value an unlisted key has. -/
abbrev Tab (α : Type) := List (Nat × α)

/-- Operating modes (02 R34, Table 2.1). -/
inductive Mode where
  | off | boot | standby | service | degraded | silent | lastGasp | safe
  deriving DecidableEq, Repr

/-- Shared status codes (00 R10, Table 0.5). -/
inductive Status where
  | ok | refused | asleep | timeout | poison | access | range | busy | late | noCredit
  | exhausted | deferred | bad | incomplete | aborted | unknown | locked
  deriving DecidableEq, Repr

/-- Verdict classes (07 R197, Table 7.13). -/
inductive VClass where
  | accept | duplicate | passThrough | rejectCrc | rejectAuth | rejectReplay | rejectUnknown
  | rejectLength | incomplete | rejectExhausted
  deriving DecidableEq, Repr

/-- Refusal causes of a detection (06 R162, Table 6.2). -/
inductive Refuse where
  | mode | shed | history | queue | ceiling | binFull | capacity
  deriving DecidableEq, Repr

/-- Entry status (08 R204, Table 8.2). -/
inductive EStatus where
  | free | active | suspended | exhausted
  deriving DecidableEq, Repr

/-- Origin of a downlink attempt (09 R236). -/
inductive Origin where
  | ack | station | carried | reply
  deriving DecidableEq, Repr

/-- Burst status (09 R265, Table 9.8). -/
inductive BurstState where
  | none | placed | inAir | sent | notSent | aborted
  deriving DecidableEq, Repr

/-- Outcome of an attempt (09 R265, Table 9.8). -/
inductive DlOutcome where
  | pending | served | deferred | refused
  deriving DecidableEq, Repr

/-- Severity of an error record (15 R396, Table 15.3). -/
inductive Severity where
  | info | minor | major | safe
  deriving DecidableEq, Repr

/-- Error codes (15 R396, Table 15.4). -/
inductive ErrCode where
  | eccRate | eccUncorr | hostTrap | lockstep | mesh | lane | bist | pace | thermal | holdup
  | restore | account | timing | cage | cipher | store | ageing | watchdog | handler
  deriving DecidableEq, Repr

/-- State of a tile (12 R342, Table 12.11). -/
inductive TileState where
  | reset | loading | host | task | halted | fenced
  deriving DecidableEq, Repr

/-- State of a key-store slot (10 R280). -/
inductive KeyState where
  | empty | loaded | bound
  deriving DecidableEq, Repr

/-- State of a power domain (14 R385, Table 14.7). -/
inductive DomState where
  | run | recess | sleep | transition
  deriving DecidableEq, Repr

/-- Port of a domain (13 R355; 14 Table 14.7). -/
inductive PortState where
  | opened | closing | closed
  deriving DecidableEq, Repr

/-- State of an operation record (11 R292, Table 11.2). -/
inductive OpState where
  | free | ready | inService | doneHeld | trapped
  deriving DecidableEq, Repr

/-- State of an Office pair (17 R447, Table 17.8). -/
inductive OfficeState where
  | active | standby | fenced | starting
  deriving DecidableEq, Repr

/-- State of a firmware update or package (16 R436, Table 16.6). -/
inductive UpdState where
  | idle | staging | verified | bad | probation | committed | rotating | installed
  deriving DecidableEq, Repr

/-- State of a stack transfer (18 R463, Table 18.4). -/
inductive XferState where
  | none | prepared | ready | committed | aborted | inDoubt
  deriving DecidableEq, Repr

end Sys2Proof
end

