-- ==== Sys2Proof/Syntax.lean ====
section
/-! DEFINITION. The commands of the QX-192: one constructor of Instr for each row of the opcode table, and the data their
operands hold. -/
namespace Sys2Proof

/-- A tile image (12 R341): instruction memory by bundles from address 0, the first data memory by 32-bit words from
0x0010_0000, and the values of TVEC, TBASE, TLIMIT, GSEG and of the bits CXEH, CXET and TGLOBAL. -/
structure Image where
  code : List Bundle := []
  data : List Word := []
  tvec : Word := 0
  tbase : Word := 0
  tlimit : Word := 0
  gseg : Word := 0
  cxeh : Bool := false
  cxet : Bool := false
  tglobal : Bool := false
  deriving DecidableEq, Repr

/-- What BOOT finds (02 R46, R47): the outcome of steps 3, 4 and 6 of Table 2.5. -/
structure BootFacts where
  /-- the unit in which an uncorrectable fault lies that no substitute or spare can cover -/
  fatal : Option Nat := none
  /-- unit identities whose test fails and that a substitute or spare covers -/
  failed : List Nat := []
  /-- flash images A and B pass their check -/
  imageA : Bool := true
  imageB : Bool := true
  /-- the key store can be restored -/
  keyStore : Bool := true
  /-- the seal record in MRAM is not poisoned, and the account snapshots match ACCCRC -/
  sealReadable : Bool := true
  snapshotsMatch : Bool := true
  /-- the bulk stage has reached 90 % of its working voltage -/
  bulkUp : Bool := true
  /-- journal records that fail their CRC or read POISON: account of 01 Table 1.5 (0 to 7) and the first and last JSEQ -/
  lost : List (Nat × Nat × Nat) := []
  deriving DecidableEq, Repr

/-- What the Caretaker measures beside the hottest junction (03 R76, R78). -/
structure Readings where
  /-- baseplate, 0.1 degree C -/
  base : Int
  /-- input voltage, 0.1 V rms -/
  voltage : Nat := 0
  /-- input power, 0.1 W -/
  power : Nat := 0
  /-- hold-up energy, mJ -/
  holdup : Nat := 0
  deriving DecidableEq, Repr

/-- The rest of a tile's bundle beside the operation a command names (12 R310): whether a scalar operation stands in S1,
the raw words of the slots (NOP where nothing else is held), and a mesh load's response where it came back TIMEOUT or
POISON instead of the target's (13 R349, R352). -/
structure Beside where
  second : Bool := false
  s0 : Word := 0
  s1 : Word := 0
  v : Word := 0
  m : Word := 0
  resp : Option Status := none
  deriving DecidableEq, Repr

/-- What profile code, Decoder and Marker know of a capture's frame (07). -/
structure FrameInfo where
  /-- 1 bit | 07 R181 | 0 | SFD accepted -/
  sfd : Bool := false
  /-- 1 bit | 07 R183 | 0 | header block, PHR or L-field decoded -/
  headed : Bool := false
  /-- 1 bit | 07 R188 | 0 | TAG and FCNT committed -/
  tagged : Bool := false
  /-- 24 bits | 07 R177 | 0 | header word as decoded -/
  header : Nat := 0
  /-- 1 bit | 07 R177 | 0 | HCRC, or the published profile's header check, holds -/
  headerOk : Bool := false
  /-- 1 bit | 07 R185 | 0 | the frame asks for an option the profile lacks -/
  unsupported : Bool := false
  /-- count | 07 R196 | 0 | LEN: payload or PSDU octets -/
  len : Nat := 0
  /-- 1 bit | 07 Table 7.4 check 6 | 0 | body CRC, FCS or block CRCs hold -/
  bodyOk : Bool := false
  /-- 1 bit | 07 Table 7.10 | 0 | an invalid line-code word was met -/
  codeBad : Bool := false
  /-- 32 bits | 07 R178 | 0 | TAG -/
  tag : Nat := 0
  /-- 32 bits | 07 R178 | 0 | FCNT -/
  fcnt : Nat := 0
  /-- octets | 07 R178 | none | PAYLOAD as received (ciphertext), or PSDU -/
  payload : List Nat := []
  /-- octets | 07 R178 | none | MIC -/
  mic : List Nat := []
  /-- 16 bits | 07 R178 | 0 | CRC -/
  crc : Nat := 0
  /-- count | 07 R176 | 0 | symbols of the air frame, repetitions included -/
  symbols : Nat := 0
  /-- I16 | 07 R180 | 0 | Es/N0, 0.1 dB -/
  snr : Int := 0
  /-- I16 | 07 R180 | 0 | carrier offset, Hz -/
  cfo : Int := 0
  /-- 64 bits | 09 R248 | 0 | meter address of a T2 or C2 frame; 0 none -/
  meter : Nat := 0
  deriving DecidableEq, Repr

/-- What profile code has decided of a capture's combined stream since it last said (07 R180, R181): these are the outcome
of package code, whose estimators the spec leaves to it. -/
structure Decisions where
  /-- the SFD search has run: the 16 sign decisions at each end position of the window, in 1/16 ticks after PEAK_AT -/
  search : Option (List (Int × Nat)) := none
  /-- soft decisions of the coded bits, bits or chips behind the SFD, in the order of the air: -128 to 127, positive for 1,
  an erasure 0 -/
  soft : List Int := []
  /-- carrier offset in Hz and Es/N0 in 0.1 dB -/
  cfo : Int := 0
  snr : Int := 0
  /-- the FEC of a SUN FSK frame is the recursive one -/
  rsc : Bool := false
  /-- a raw frame of a customer package with its END_AT, once the package has decoded it (07 R186) -/
  raw : Option (FrameInfo × Nat) := none
  deriving DecidableEq, Repr

/-- Decided symbols of a capture (06 R166): the combined sample the last one stands at, and the words of the assigned branches
over them. -/
structure Decided where
  symbols : List (Int × Int)
  last : Nat
  branches : List (List Nat)
  deriving DecidableEq, Repr

/-- Where an event of a Mover channel comes from (13 R361). -/
inductive EventSource where
  | kick | timer (t : Fin 16) | channel (c : Fin 64)
  deriving DecidableEq, Repr

/-- An event on its way to a Mover channel (13 R361). -/
structure MoverSignal where
  channel : Fin 64
  source : EventSource
  deriving DecidableEq, Repr

/-- The packet a router discards for its header flit (13 R349): a READ or a WRITE on its way to its node, or a response or a
PWRITE. -/
inductive LostPacket where
  | read (tid : Nat) | write (tid : Nat) | response (tid : Nat)
  deriving DecidableEq, Repr

/-- Kind of a node (11 R287). -/
inductive NodeKind where
  | source | task | accel | join
  deriving DecidableEq, Repr

/-- A node of the node table (11 R287). -/
structure Node where
  /-- 2 bits | 11 R287 | SOURCE | kind -/
  kind : NodeKind := .source
  /-- 8 bits | 11 R287 | 0 | package (profile identifier) -/
  package : Nat := 0
  /-- 6 bits | 11 R287 | 0 | graph of the package, of at most 64 -/
  graph : Nat := 0
  /-- 4 bits | 11 R287 | 0 | level -/
  level : Nat := 0
  /-- 6 bits | 11 R287 | 0 | flow class -/
  cls : Nat := 0
  /-- 52 bits | 11 R287 | 0 | target: mask of logical units -/
  target : Nat := 0
  /-- 8 bits | 11 R287 | none | port a SOURCE is bound to -/
  port : Option Nat := none
  /-- list | 11 R287 | none | successors -/
  succ : List Nat := []
  /-- node | 11 R299 | none | fault successor -/
  fault : Option Nat := none
  /-- count | 11 R287 JOIN | 0 | inputs of a JOIN, at most 8 -/
  inputs : Nat := 0
  /-- 1 bit | 11 R301 check 2 | 0 | the node's class holds capture keys -/
  captureKeys : Bool := false
  deriving DecidableEq, Repr

/-- What a profile package holds (11 R287, R288, R297; 12 R341; 16 R429; 01 R25; 05 R133; 07 Table 7.11): its nodes by
index of the node table, its ORDERED flow classes, frame format, buffer-state format, required pace, loop time constant,
the logical tiles of its pool with their images. -/
structure Package where
  /-- 14-bit index and node | 11 R287 | none | nodes -/
  nodes : List (Nat × Node) := []
  /-- flow classes | 11 R297 | none | classes in ORDERED mode -/
  ordered : List Nat := []
  /-- 1 bit | 07 Table 7.11 0x4020:04 | 0 vendor | frame format raw -/
  raw : Bool := false
  /-- format | 16 R429 | 0 | buffer-state format -/
  bufFormat : Nat := 0
  /-- 1/16 cycle per tick | 01 R25 | 0 | required pace of a tile island -/
  pace : Nat := 0
  /-- stream samples | 05 R133 | 0 none | loop time constant of the package's bin groups -/
  tau : Nat := 0
  /-- logical tile and image | 12 R341 | none | pool -/
  images : List (Nat × Image) := []
  deriving DecidableEq, Repr

/-- A datagram or service-port frame as it reaches the module (16 R413): port 0 or 1 an Ethernet lane, 2 the RS-485 service
port; source address and UDP port, VLAN (0 untagged), octets of the Molfen message. -/
structure Datagram where
  /-- 2 bits | 16 R413 | - | port -/
  port : Fin 3
  /-- 18 octets | 16 R413 | 0 | source address and UDP port, as a collector is written -/
  src : Nat := 0
  /-- 12 bits | 16 R414 | 0 | VLAN -/
  vlan : Nat := 0
  /-- octets | 16 Table 16.1 | none | the message -/
  octets : List Nat
  deriving DecidableEq, Repr

/-- What the module finds while it applies a request: whether a unit released passes its test (15 R405), the BOOT of a reset
(02 R46) and the contents of a package verified (16 R429). -/
structure Aid where
  pass : Bool := true
  boot : BootFacts := {}
  package : Package := {}
  deriving DecidableEq, Repr

/-- A forwarded frame at its home member (18 R458): the frame, and the capture's readings that go into the record. -/
structure Forwarded where
  frame : FrameInfo
  profile : Nat
  dseq : Nat := 0
  beam : Nat := 0
  bin : Nat := 0
  mcode : Nat := 0
  capClass : Nat := 0
  ant : Nat := 0
  refresh : Nat := 0
  margin : Int := 0
  endAt : Nat := 0
  latency : Nat := 0
  rap : Bool := false
  stacked : Bool := false
  weights : List (Nat × Nat) := []
  deriving DecidableEq, Repr

/-- The commands of the block: one constructor for each row of the opcode table. -/
inductive Instr where
  /-- AUXILIARY_RAIL_VALID: 02 R46 -/
  | auxiliaryRailValid (f : BootFacts)
  /-- BOOT_PASS: 02 R47 -/
  | bootPass (mJ : Nat) (slow : Bool)
  /-- HOLDUP_CHARGE_TIMEOUT: 02 R47 -/
  | holdupChargeTimeout (mJ : Nat)
  /-- MAINS_DIP: 03 R68 -/
  | mainsDip
  /-- MAINS_LOSS: 03 R68 -/
  | mainsLoss
  /-- MAINS_LOSS_BEFORE_STEP_7: 02 R48 -/
  | mainsLossBeforeStep7
  /-- SEAL_COMPLETE: 03 R70 -/
  | sealComplete (mains : Bool) (energy : Nat) (duration : Nat) (f : BootFacts)
  /-- HOLDUP_EXHAUSTED: 03 R75 -/
  | holdupExhausted
  /-- HOLDUP_CAPACITY_TEST: 03 R64 -/
  | holdupCapacityTest (mJ : Nat)
  /-- THERMAL_LIMIT: 03 R78 -/
  | thermalLimit (m : Readings) (junction : Int)
  /-- MODE_REQUEST_STANDBY: 02 R39 -/
  | modeRequestStandby (vi : Fin 16)
  /-- MODE_REQUEST_SERVICE: 02 R39 -/
  | modeRequestService (vi : Fin 16)
  /-- MODE_REQUEST_SAFE: 02 R55 -/
  | modeRequestSafe (vi : Fin 16)
  /-- SERVICE_ENTRY: 02 R49 -/
  | serviceEntry
  /-- QUIET_SET: 02 R42 -/
  | quietSet (vi : Fin 16)
  /-- QUIET_RELEASE: 02 R43 -/
  | quietRelease (vi : Fin 16)
  /-- ESCALATION_TO_SAFE: 15 R400 -/
  | escalationToSafe (cause : Fin 8) (unit : Nat)
  /-- REFERENCE_LOST: 14 R371 -/
  | referenceLost
  /-- REFERENCE_QUALIFIED: 14 R372 -/
  | referenceQualified
  /-- TIMEBASE_VALID: 14 R373 -/
  | timebaseValid
  /-- TIMEBASE_RESTART: 14 R374 -/
  | timebaseRestart (vi : Fin 16) (v : Nat)
  /-- BELL_FIRE: 14 R375 -/
  | bellFire (b : Fin 64) (airTime : Nat)
  /-- BELL_WRITE: 14 R375 -/
  | bellWrite (vi : Fin 16) (phase : Bool) (b : Nat) (v : Nat)
  /-- PACE_TIMER_FIRE: 13 R362 -/
  | paceTimerFire (t : Fin 16) (airTime : Nat)
  /-- PACE_TIMER_WRITE: 13 R362 -/
  | paceTimerWrite (vi : Fin 16) (phase : Bool) (t : Nat) (v : Nat)
  /-- PACE_WINDOW_END: 14 R383 -/
  | paceWindowEnd (counts : List Nat)
  /-- LEDGER_SECOND: 08 R219 -/
  | ledgerSecond
  /-- UNPOWERED_INTERVAL_WRITE: 08 R219 -/
  | unpoweredIntervalWrite (vi : Fin 16) (v : Nat)
  /-- LANE_ENABLE: 04 R101 -/
  | laneEnable (l : Fin 20)
  /-- LANE_FRAME_SEND: 04 R86 -/
  | laneFrameSend (l : Fin 20) (airTime : Nat)
  /-- CLOCK_RECOVERED: 04 R108 -/
  | clockRecovered (l : Fin 20)
  /-- COMMA_LOCK: 04 R102 -/
  | commaLock (l : Fin 20)
  /-- LANE_FRAME_RECEIVED: 04 R85 -/
  | laneFrameReceived (l : Fin 20) (codes : List Nat) (arr16 : Nat)
  /-- LOSS_OF_FRAME: 04 R103 -/
  | lossOfFrame (l : Fin 20)
  /-- LOSS_OF_SIGNAL: 04 R108 -/
  | lossOfSignal (l : Fin 20) (los : Bool) (lol : Bool)
  /-- SIGNAL_RESTORED: 04 R108 -/
  | signalRestored (l : Fin 20)
  /-- HEADID: 04 R95 -/
  | headid (l : Fin 16) (body : Nat)
  /-- HEADSTAT: 04 R95 -/
  | headstat (l : Fin 16) (body : Nat)
  /-- ALIGN: 04 R97 -/
  | align (l : Fin 20) (q u : Fin 256) (delta : Fin 3072) (airTime : Nat)
  /-- TIME: 18 R453 -/
  | time (l : Fin 20) (airTime d since16 : Nat)
  /-- REPLY: 05 R137 -/
  | reply (l : Fin 20) (ty seq : Fin 256) (status : Status) (airTime : Nat)
  /-- TAPREQ: 04 R105 -/
  | tapreq (l : Fin 20) (seq : Fin 256) (post : Bool) (up : Bool)
  /-- TAPREP: 04 R105 -/
  | taprep (l : Fin 20) (seq result value : Fin 256)
  /-- TAP_ADAPTATION: 04 R105 -/
  | tapAdaptation (l : Fin 20) (post : Bool) (up : Bool)
  /-- TAPREQ_ABANDONED: 04 R105 -/
  | tapreqAbandoned (l : Fin 20)
  /-- COMMAND_RESEND: 04 R93 -/
  | commandResend (l : Fin 16) (seq : Fin 256)
  /-- CRC_ALARM_EVALUATION: 04 R107 -/
  | crcAlarmEvaluation (l : Fin 20)
  /-- SWITCHOVER_DEADLINE: 04 R112 -/
  | switchoverDeadline (h : Fin 12)
  /-- SPARE_REVERT: 04 R112 -/
  | spareRevert (vi : Fin 16) (j : Nat) (v : Nat)
  /-- BACKED_HEAD_WRITE: 04 R110 -/
  | backedHeadWrite (vi : Fin 16) (j : Nat) (v : Nat)
  /-- CAGE_INSERTION: 04 R113 -/
  | cageInsertion (c : Fin 22) (ok : Bool) (identity : Nat)
  /-- CAGE_REMOVAL: 04 R113 -/
  | cageRemoval (c : Fin 22)
  /-- CAGE_DIAGNOSTICS_READ: 04 R113 -/
  | cageDiagnosticsRead (c : Fin 22) (diag : Nat)
  /-- CALIBRATION_SWAP_ARM: 05 R120 -/
  | calibrationSwapArm (vi : Fin 16) (v : Nat)
  /-- CALIBRATION_COPY_DONE: 05 R120 -/
  | calibrationCopyDone (t : Fin 10)
  /-- BIN_SAMPLE: 05 R123 -/
  | binSample (n airTime : Nat) (poison : List (Nat × Nat × Nat))
  /-- DETECTION_RAISED: 06 R154 -/
  | detectionRaised (p : Fin 2) (beam : Fin 32) (bin : Fin 512) (peakAt airTime : Nat)
  /-- ADMISSION_ROUND: 06 R156 -/
  | admissionRound (r : Nat)
  /-- CAPTURE_WEIGHTS_READY: 06 R164 -/
  | captureWeightsReady (c : Fin 4096) (poison : List (Nat × Nat × Nat)) (branches : List (List Nat)) (airTime : Nat)
  /-- CAPTURE_BLOCK_COMPLETE: 07 R179 -/
  | captureBlockComplete (c : Fin 4096) (poison : List (Nat × Nat × Nat)) (branches : List (List Nat))
  /-- CAPTURE_RING_OVERRUN: 07 R179 -/
  | captureRingOverrun (c : Fin 4096)
  /-- WEIGHT_RECOMPUTE: 06 R166 -/
  | weightRecompute (c : Fin 4096) (x : Decided)
  /-- CAPTURE_CLOSE: 07 R183 -/
  | captureClose (c : Fin 4096) (abandoned : Bool) (d : Decisions) (airTime : Nat)
  /-- LIFE_LIMIT: 06 R171 -/
  | lifeLimit (c : Fin 4096) (airTime : Nat)
  /-- HISTORY_OVERWRITTEN: 06 R171 -/
  | historyOverwritten (pending : Bool) (id : Nat)
  /-- TAG_AND_FCNT_COMMITTED: 07 R188 -/
  | tagAndFcntCommitted (c : Fin 4096) (d : Decisions) (airTime : Nat)
  /-- VERDICT_ISSUED: 07 R189 -/
  | verdictIssued (c : Fin 4096) (latency : Nat) (crowd : Bool)
  /-- VERDICT_BATCH_SEND: 07 R200 -/
  | verdictBatchSend (vi : Fin 16) (c : Fin 4)
  /-- VACK: 07 R200 -/
  | vack (d : Datagram)
  /-- RESEND_INTERVAL: 07 R200 -/
  | resendInterval (vi : Fin 16) (c : Fin 4)
  /-- COLLECTOR_WRITE: 07 R200 -/
  | collectorWrite (vi : Fin 16) (c : Nat) (v : Nat)
  /-- HEAD_GAIN_WINDOW: 05 R136 -/
  | headGainWindow (airTime : Nat)
  /-- FLOOR_PERIOD_END: 05 R143 -/
  | floorPeriodEnd (first count airTime : Nat)
  /-- AVERAGING_PERIOD_WRITE: 05 R144 -/
  | averagingPeriodWrite (vi : Fin 16) (v : Nat)
  /-- LOOP_SETTING_WRITE: 05 R146 -/
  | loopSettingWrite (vi : Fin 16) (which : Fin 5) (el : Nat) (v : Nat)
  /-- ENROL: 08 R210 -/
  | enrol (vi : Fin 16) (slot : Nat) (v : Nat)
  /-- RETIRE: 08 R212 -/
  | retire (vi : Fin 16) (slot : Nat) (v : Nat)
  /-- REPLACE: 08 R213 -/
  | replace (vi : Fin 16) (slot : Nat) (v : Nat)
  /-- REKEY: 08 R217 -/
  | rekey (vi : Fin 16) (slot : Nat) (v : Nat)
  /-- REKEY_SHADOW_RELEASE: 08 R218 -/
  | rekeyShadowRelease (slot : Fin 262144)
  /-- STATUS_WRITE: 08 R211 -/
  | statusWrite (vi : Fin 16) (slot : Nat) (v : Nat)
  /-- CHARGE_SET: 08 R222 -/
  | chargeSet (vi : Fin 16) (slot : Nat) (v : Nat)
  /-- UPLINK_COUNTER_RAISE: 08 R216 -/
  | uplinkCounterRaise (vi : Fin 16) (slot : Nat) (v : Nat)
  /-- CHARGE_MODEL_ASSIGN: 08 R235 -/
  | chargeModelAssign (vi : Fin 16) (slot : Nat) (v : Nat)
  /-- CREDIT_PLAN_ASSIGN: 08 R235 -/
  | creditPlanAssign (vi : Fin 16) (slot : Nat) (v : Nat)
  /-- GRANT: 08 R225 -/
  | grant (vi : Fin 16) (slot : Nat) (v : Nat)
  /-- GRANT_BUDGET_ADD: 08 R231 -/
  | grantBudgetAdd (vi : Fin 16) (target : Nat) (v : Nat)
  /-- SLICE_WRITE: 08 R207 -/
  | sliceWrite (vi : Fin 16) (items : List (Bool × Nat × Nat))
  /-- DAILY_SWEEP: 08 R221 -/
  | dailySweep
  /-- JOURNAL_APPLY: 08 R226 -/
  | journalApply (n : Nat)
  /-- ROLL_POISON_REPAIR: 15 R395 -/
  | rollPoisonRepair (slot : Fin 262144) (w : Fin 8) (readable : Bool)
  /-- DOWNLINK_REQUEST: 09 R238 -/
  | downlinkRequest (vi : Fin 16) (len : Nat) (v : Nat)
  /-- STAGED_REPLY_WRITE: 09 R248 -/
  | stagedReplyWrite (vi : Fin 16) (i : Nat) (v : Nat)
  /-- BUILD_DEADLINE: 09 R246 -/
  | buildDeadline (rqid : Nat)
  /-- BURST_START: 09 R244 -/
  | burstStart (rqid : Nat) (airTime : Nat)
  /-- BURST_END: 09 R239 -/
  | burstEnd (rqid : Nat)
  /-- MASK_BLOCK_END: 09 R259 -/
  | maskBlockEnd (r airTime : Nat)
  /-- RAMP_PROFILE_WRITE: 09 R255 -/
  | rampProfileWrite (vi : Fin 16) (slot : Nat) (v : Nat)
  /-- COEFFICIENT_SET_WRITE: 09 R251 -/
  | coefficientSetWrite (vi : Fin 16) (selection : Bool) (el : Nat) (v : Nat)
  /-- DUTY_BUCKET_WRITE: 09 R261 -/
  | dutyBucketWrite (vi : Fin 16) (depth : Bool) (h : Nat) (v : Nat)
  /-- HALL_PASS_READ: 10 R275 -/
  | hallPassRead (e : Fin 8) (who : Nat)
  /-- HALL_PASS_RELEASE: 10 R276 -/
  | hallPassRelease (e : Fin 8) (who : Nat) (v : Nat)
  /-- FORCED_RELEASE: 10 R278 -/
  | forcedRelease (e : Fin 8) (who : Nat)
  /-- HOLD_LIMIT_EXPIRY: 10 R278 -/
  | holdLimitExpiry (e : Fin 8)
  /-- CCM_DOWNLINK_BUILD: 10 R273 -/
  | ccmDownlinkBuild (e : Fin 8) (who : Nat) (tlen : Nat) (evt : Bool)
  /-- CCM_UPLINK_VERIFY: 10 R273 -/
  | ccmUplinkVerify (e : Fin 8) (who : Nat) (tlen : Nat) (evt : Bool)
  /-- CTR: 10 R274 -/
  | ctr (e : Fin 8) (who : Nat) (tlen : Nat) (evt : Bool)
  /-- CIPHER_CMAC: 10 R268 -/
  | cipherCmac (e : Fin 8) (who : Nat) (tlen : Nat) (evt : Bool)
  /-- CIPHER_OPERATION_COMPLETE: 10 R271 -/
  | cipherOperationComplete (e : Fin 8)
  /-- KEY_LOAD: 10 R282 -/
  | keyLoad (vi : Fin 16) (len : Nat) (v : Nat)
  /-- KEY_ERASE: 10 R282 -/
  | keyErase (vi : Fin 16) (handle : Nat) (v : Nat)
  /-- VI_LOAD_KEY: 10 R283 -/
  | viLoadKey (vi : Fin 16) (el : Nat) (len : Nat) (v : Nat)
  /-- VI_MANAGEMENT_KEY: 10 R283 -/
  | viManagementKey (vi : Fin 16) (el : Nat) (len : Nat) (v : Nat)
  /-- BLOCK_OWNER_WRITE: 10 R281 -/
  | blockOwnerWrite (vi : Fin 16) (blk : Nat) (v : Nat)
  /-- TOKEN_ARRIVAL: 11 R290 -/
  | tokenArrival (port : Fin 256) (flow : Nat) (arg : Nat)
  /-- DISPATCH: 11 R293 -/
  | dispatch (u : Fin 60)
  /-- EMIT: 11 R301 -/
  | emit (t : Fin 52)
  /-- DONE: 11 R301 -/
  | done (t : Fin 52)
  /-- BUFALLOC: 11 R302 -/
  | bufalloc (t : Fin 52)
  /-- BUFFREE: 11 R302 -/
  | buffree (t : Fin 52) (h : Nat)
  /-- HOSTCTL_WRITE: 11 R300 -/
  | hostctlWrite (t : Fin 52) (v : Word)
  /-- DISPATCH_MAP_WRITE: 11 R303 -/
  | dispatchMapWrite (vi : Fin 16) (l : Nat) (v : Nat)
  /-- SUBSTITUTION: 11 R303 -/
  | substitution (l : Fin 48) (failed : List Nat) (airTime : Nat)
  /-- DRAIN_LIMIT_EXPIRY: 11 R303 -/
  | drainLimitExpiry (l : Fin 52)
  /-- ADD: 12 R314 -/
  | add (t : Fin 52) (b : Beside) (sd : Fin 32) (sa : Fin 32) (sb : Fin 32)
  /-- SUB: 12 R314 -/
  | sub (t : Fin 52) (b : Beside) (sd : Fin 32) (sa : Fin 32) (sb : Fin 32)
  /-- AND: 12 R314 -/
  | and (t : Fin 52) (b : Beside) (sd : Fin 32) (sa : Fin 32) (sb : Fin 32)
  /-- OR: 12 R314 -/
  | or (t : Fin 52) (b : Beside) (sd : Fin 32) (sa : Fin 32) (sb : Fin 32)
  /-- XOR: 12 R314 -/
  | xor (t : Fin 52) (b : Beside) (sd : Fin 32) (sa : Fin 32) (sb : Fin 32)
  /-- SHL: 12 R314 -/
  | shl (t : Fin 52) (b : Beside) (sd : Fin 32) (sa : Fin 32) (sb : Fin 32)
  /-- SHR: 12 R314 -/
  | shr (t : Fin 52) (b : Beside) (sd : Fin 32) (sa : Fin 32) (sb : Fin 32)
  /-- SRA: 12 R314 -/
  | sra (t : Fin 52) (b : Beside) (sd : Fin 32) (sa : Fin 32) (sb : Fin 32)
  /-- MUL: 12 R314 -/
  | mul (t : Fin 52) (b : Beside) (sd : Fin 32) (sa : Fin 32) (sb : Fin 32)
  /-- QMUL: 12 R314 -/
  | qmul (t : Fin 52) (b : Beside) (sd : Fin 32) (sa : Fin 32) (sb : Fin 32)
  /-- MIN: 12 R314 -/
  | min (t : Fin 52) (b : Beside) (sd : Fin 32) (sa : Fin 32) (sb : Fin 32)
  /-- MAX: 12 R314 -/
  | max (t : Fin 52) (b : Beside) (sd : Fin 32) (sa : Fin 32) (sb : Fin 32)
  /-- SLT: 12 R314 -/
  | slt (t : Fin 52) (b : Beside) (sd : Fin 32) (sa : Fin 32) (sb : Fin 32)
  /-- SLTU: 12 R314 -/
  | sltu (t : Fin 52) (b : Beside) (sd : Fin 32) (sa : Fin 32) (sb : Fin 32)
  /-- ADDS: 12 R319 -/
  | adds (t : Fin 52) (b : Beside) (sd : Fin 32) (sa : Fin 32) (sb : Fin 32)
  /-- SUBS: 12 R319 -/
  | subs (t : Fin 52) (b : Beside) (sd : Fin 32) (sa : Fin 32) (sb : Fin 32)
  /-- NSB: 12 R314 -/
  | nsb (t : Fin 52) (b : Beside) (sd : Fin 32) (sa : Fin 32) (sb : Fin 32)
  /-- RSHR: 12 R314 -/
  | rshr (t : Fin 52) (b : Beside) (sd : Fin 32) (sa : Fin 32) (sb : Fin 32)
  /-- ADDI: 12 R313 -/
  | addi (t : Fin 52) (b : Beside) (sd : Fin 32) (sa : Fin 32) (imm : BitVec 16)
  /-- ANDI: 12 R313 -/
  | andi (t : Fin 52) (b : Beside) (sd : Fin 32) (sa : Fin 32) (imm : BitVec 16)
  /-- ORI: 12 R313 -/
  | ori (t : Fin 52) (b : Beside) (sd : Fin 32) (sa : Fin 32) (imm : BitVec 16)
  /-- XORI: 12 R313 -/
  | xori (t : Fin 52) (b : Beside) (sd : Fin 32) (sa : Fin 32) (imm : BitVec 16)
  /-- SHLI: 12 R313 -/
  | shli (t : Fin 52) (b : Beside) (sd : Fin 32) (sa : Fin 32) (imm : BitVec 16)
  /-- SHRI: 12 R313 -/
  | shri (t : Fin 52) (b : Beside) (sd : Fin 32) (sa : Fin 32) (imm : BitVec 16)
  /-- SRAI: 12 R313 -/
  | srai (t : Fin 52) (b : Beside) (sd : Fin 32) (sa : Fin 32) (imm : BitVec 16)
  /-- MOVI: 12 R313 -/
  | movi (t : Fin 52) (b : Beside) (sd : Fin 32) (imm : BitVec 16)
  /-- MOVHI: 12 R313 -/
  | movhi (t : Fin 52) (b : Beside) (sd : Fin 32) (sa : Fin 32) (imm : BitVec 16)
  /-- PADD: 12 R313 -/
  | padd (t : Fin 52) (b : Beside) (pd : Fin 8) (pa : Fin 8) (imm : BitVec 16)
  /-- MOVX: 12 R313 -/
  | movx (t : Fin 52) (b : Beside) (dst : Fin 32) (src : Fin 32) (dk : Fin 8) (sk : Fin 8)
  /-- BR: 12 R313 -/
  | br (t : Fin 52) (b : Beside) (sa : Fin 32) (sb : Fin 32) (cond : Fin 8) (off : BitVec 13)
  /-- JAL: 12 R313 -/
  | jal (t : Fin 52) (b : Beside) (sd : Fin 32) (off : BitVec 13)
  /-- JR: 12 R313 -/
  | jr (t : Fin 52) (b : Beside) (sa : Fin 32)
  /-- LOOP: 12 R324 -/
  | loop (t : Fin 52) (b : Beside) (level : Bool) (rot : BitVec 2) (sc : Fin 32) (len : Fin 4096)
  /-- LOOP_END: 12 R325 -/
  | loopEnd (t : Fin 52) (b : Beside)
  /-- CSRR: 12 R308 -/
  | csrr (t : Fin 52) (b : Beside) (sd : Fin 32) (csr : Fin 4096)
  /-- CSRW: 12 R308 -/
  | csrw (t : Fin 52) (b : Beside) (sa : Fin 32) (csr : Fin 4096)
  /-- RTE: 12 R332 -/
  | rte (t : Fin 52) (b : Beside)
  /-- WAITOP: 12 R332 -/
  | waitop (t : Fin 52) (b : Beside) (sd : Fin 32)
  /-- FENCE: 12 R339 -/
  | fence (t : Fin 52) (b : Beside) (sd : Fin 32)
  /-- YIELD: 12 R332 -/
  | yield (t : Fin 52) (b : Beside)
  /-- HALT: 12 R314 -/
  | halt (t : Fin 52) (b : Beside)
  /-- VADD: 12 R314 -/
  | vadd (t : Fin 52) (b : Beside) (vd : Fin 32) (va : Fin 32) (vb : Fin 32) (ew : Fin 4) (sat : Bool)
  /-- VSUB: 12 R314 -/
  | vsub (t : Fin 52) (b : Beside) (vd : Fin 32) (va : Fin 32) (vb : Fin 32) (ew : Fin 4) (sat : Bool)
  /-- VMUL: 12 R314 -/
  | vmul (t : Fin 52) (b : Beside) (vd : Fin 32) (va : Fin 32) (vb : Fin 32) (ew : Fin 4) (sat : Bool)
  /-- VAND: 12 R314 -/
  | vand (t : Fin 52) (b : Beside) (vd : Fin 32) (va : Fin 32) (vb : Fin 32) (ew : Fin 4) (sat : Bool)
  /-- VOR: 12 R314 -/
  | vor (t : Fin 52) (b : Beside) (vd : Fin 32) (va : Fin 32) (vb : Fin 32) (ew : Fin 4) (sat : Bool)
  /-- VXOR: 12 R314 -/
  | vxor (t : Fin 52) (b : Beside) (vd : Fin 32) (va : Fin 32) (vb : Fin 32) (ew : Fin 4) (sat : Bool)
  /-- VMIN: 12 R314 -/
  | vmin (t : Fin 52) (b : Beside) (vd : Fin 32) (va : Fin 32) (vb : Fin 32) (ew : Fin 4) (sat : Bool)
  /-- VMAX: 12 R314 -/
  | vmax (t : Fin 52) (b : Beside) (vd : Fin 32) (va : Fin 32) (vb : Fin 32) (ew : Fin 4) (sat : Bool)
  /-- VABS: 12 R314 -/
  | vabs (t : Fin 52) (b : Beside) (vd : Fin 32) (va : Fin 32) (ew : Fin 4) (sat : Bool)
  /-- VNEG: 12 R314 -/
  | vneg (t : Fin 52) (b : Beside) (vd : Fin 32) (va : Fin 32) (ew : Fin 4) (sat : Bool)
  /-- VSHL: 12 R314 -/
  | vshl (t : Fin 52) (b : Beside) (vd : Fin 32) (va : Fin 32) (vb : Fin 32) (ew : Fin 4) (sat : Bool)
  /-- VSRA: 12 R314 -/
  | vsra (t : Fin 52) (b : Beside) (vd : Fin 32) (va : Fin 32) (vb : Fin 32) (ew : Fin 4) (sat : Bool)
  /-- VRSRA: 12 R314 -/
  | vrsra (t : Fin 52) (b : Beside) (vd : Fin 32) (va : Fin 32) (vb : Fin 32) (ew : Fin 4) (sat : Bool)
  /-- VCMPEQ: 12 R314 -/
  | vcmpeq (t : Fin 52) (b : Beside) (vd : Fin 32) (va : Fin 32) (vb : Fin 32) (ew : Fin 4) (sat : Bool)
  /-- VCMPLT: 12 R314 -/
  | vcmplt (t : Fin 52) (b : Beside) (vd : Fin 32) (va : Fin 32) (vb : Fin 32) (ew : Fin 4) (sat : Bool)
  /-- VAVG: 12 R314 -/
  | vavg (t : Fin 52) (b : Beside) (vd : Fin 32) (va : Fin 32) (vb : Fin 32) (ew : Fin 4) (sat : Bool)
  /-- CMUL: 12 R320 -/
  | cmul (t : Fin 52) (b : Beside) (vd : Fin 32) (va : Fin 32) (vb : Fin 32) (ew : Fin 4) (sat : Bool)
  /-- CMULJ: 12 R320 -/
  | cmulj (t : Fin 52) (b : Beside) (vd : Fin 32) (va : Fin 32) (vb : Fin 32) (ew : Fin 4) (sat : Bool)
  /-- VCONJ: 12 R320 -/
  | vconj (t : Fin 52) (b : Beside) (vd : Fin 32) (va : Fin 32) (ew : Fin 4) (sat : Bool)
  /-- VBEXP: 12 R322 -/
  | vbexp (t : Fin 52) (b : Beside) (va : Fin 32) (ew : Fin 4) (sat : Bool)
  /-- VSEL: 12 R314 -/
  | vsel (t : Fin 52) (b : Beside) (vd : Fin 32) (va : Fin 32) (vb : Fin 32) (ew : Fin 4) (sat : Bool)
  /-- VSHLI: 12 R314 -/
  | vshli (t : Fin 52) (b : Beside) (vd : Fin 32) (va : Fin 32) (count : Fin 32) (ew : Fin 4) (sat : Bool)
  /-- VSHRI: 12 R314 -/
  | vshri (t : Fin 52) (b : Beside) (vd : Fin 32) (va : Fin 32) (count : Fin 32) (ew : Fin 4) (sat : Bool)
  /-- VSRAI: 12 R314 -/
  | vsrai (t : Fin 52) (b : Beside) (vd : Fin 32) (va : Fin 32) (count : Fin 32) (ew : Fin 4) (sat : Bool)
  /-- VRSRAI: 12 R314 -/
  | vrsrai (t : Fin 52) (b : Beside) (vd : Fin 32) (va : Fin 32) (count : Fin 32) (ew : Fin 4) (sat : Bool)
  /-- VMAC: 12 R321 -/
  | vmac (t : Fin 52) (b : Beside) (ad : Fin 4) (va : Fin 32) (vb : Fin 32)
  /-- VMSU: 12 R321 -/
  | vmsu (t : Fin 52) (b : Beside) (ad : Fin 4) (va : Fin 32) (vb : Fin 32)
  /-- CMAC: 12 R321 -/
  | cmac (t : Fin 52) (b : Beside) (ad : Fin 4) (va : Fin 32) (vb : Fin 32)
  /-- CMACJ: 12 R321 -/
  | cmacj (t : Fin 52) (b : Beside) (ad : Fin 4) (va : Fin 32) (vb : Fin 32)
  /-- VMACB: 12 R321 -/
  | vmacb (t : Fin 52) (b : Beside) (ad : Fin 4) (va : Fin 32) (vb : Fin 32) (sk : Fin 32)
  /-- VMULA: 12 R321 -/
  | vmula (t : Fin 52) (b : Beside) (ad : Fin 4) (va : Fin 32) (vb : Fin 32)
  /-- CMULA: 12 R321 -/
  | cmula (t : Fin 52) (b : Beside) (ad : Fin 4) (va : Fin 32) (vb : Fin 32)
  /-- VEXTA: 12 R321 -/
  | vexta (t : Fin 52) (b : Beside) (vd : Fin 32) (acc : Fin 4) (shift : Fin 32) (sat : Bool)
  /-- VCLRA: 12 R321 -/
  | vclra (t : Fin 52) (b : Beside) (acc : Fin 4)
  /-- VBCAST: 12 R318 -/
  | vbcast (t : Fin 52) (b : Beside) (vd : Fin 32) (sa : Fin 32) (ew : Fin 4)
  /-- LD: 12 R316 -/
  | ld (t : Fin 52) (b : Beside) (r : Fin 32) (p : Fin 8) (am : Fin 4) (f : BitVec 16)
  /-- LDH: 12 R316 -/
  | ldh (t : Fin 52) (b : Beside) (r : Fin 32) (p : Fin 8) (am : Fin 4) (f : BitVec 16)
  /-- LDHU: 12 R316 -/
  | ldhu (t : Fin 52) (b : Beside) (r : Fin 32) (p : Fin 8) (am : Fin 4) (f : BitVec 16)
  /-- LDB: 12 R316 -/
  | ldb (t : Fin 52) (b : Beside) (r : Fin 32) (p : Fin 8) (am : Fin 4) (f : BitVec 16)
  /-- LDBU: 12 R316 -/
  | ldbu (t : Fin 52) (b : Beside) (r : Fin 32) (p : Fin 8) (am : Fin 4) (f : BitVec 16)
  /-- ST: 12 R316 -/
  | st (t : Fin 52) (b : Beside) (r : Fin 32) (p : Fin 8) (am : Fin 4) (f : BitVec 16)
  /-- STH: 12 R316 -/
  | sth (t : Fin 52) (b : Beside) (r : Fin 32) (p : Fin 8) (am : Fin 4) (f : BitVec 16)
  /-- STB: 12 R316 -/
  | stb (t : Fin 52) (b : Beside) (r : Fin 32) (p : Fin 8) (am : Fin 4) (f : BitVec 16)
  /-- VLD: 12 R316 -/
  | vld (t : Fin 52) (b : Beside) (v : Fin 32) (p : Fin 8) (am : Fin 4) (f : BitVec 16)
  /-- VST: 12 R316 -/
  | vst (t : Fin 52) (b : Beside) (v : Fin 32) (p : Fin 8) (am : Fin 4) (f : BitVec 16)
  /-- VLDFF16: 12 R323 -/
  | vldff16 (t : Fin 52) (b : Beside) (v : Fin 32) (p : Fin 8) (am : Fin 4) (f : BitVec 16)
  /-- VLDFF32: 12 R323 -/
  | vldff32 (t : Fin 52) (b : Beside) (v : Fin 32) (p : Fin 8) (am : Fin 4) (f : BitVec 16)
  /-- VSTF: 12 R323 -/
  | vstf (t : Fin 52) (b : Beside) (v : Fin 32) (p : Fin 8) (am : Fin 4) (f : BitVec 16)
  /-- PMOD: 12 R316 -/
  | pmod (t : Fin 52) (b : Beside) (p : Fin 8) (am : Fin 4) (f : BitVec 16)
  /-- MOVC: 12 R327 -/
  | movc (t : Fin 52) (b : Beside) (r : Fin 32) (c : Fin 8) (dir : Fin 4) (kind : Bool)
  /-- CXPHASE: 12 R327 -/
  | cxphase (t : Fin 52) (b : Beside) (cd : Fin 8) (ca : Fin 8)
  /-- CXDIV: 12 R327 -/
  | cxdiv (t : Fin 52) (b : Beside) (cd : Fin 8) (ca : Fin 8) (cb : Fin 8)
  /-- CXRECIP: 12 R327 -/
  | cxrecip (t : Fin 52) (b : Beside) (cd : Fin 8) (ca : Fin 8)
  /-- CXRSQRT: 12 R327 -/
  | cxrsqrt (t : Fin 52) (b : Beside) (cd : Fin 8) (ca : Fin 8)
  /-- CXLOG2: 12 R327 -/
  | cxlog2 (t : Fin 52) (b : Beside) (cd : Fin 8) (ca : Fin 8)
  /-- CXEXP2: 12 R327 -/
  | cxexp2 (t : Fin 52) (b : Beside) (cd : Fin 8) (ca : Fin 8)
  /-- CX_RESULT: 12 R328 -/
  | cxResult (t : Fin 52) (k : Fin 4)
  /-- TRAP: 12 R334 -/
  | trap (t : Fin 52) (b : Beside) (ecc : Bool)
  /-- POSTED_STORE_RESPONSE: 12 R339 -/
  | postedStoreResponse (t : Fin 52) (tid : Nat)
  /-- TILE_IMAGE_LOAD: 12 R341 -/
  | tileImageLoad (t : Fin 52) (img : Image)
  /-- MOVER_CTRL_WRITE: 13 R361 -/
  | moverCtrlWrite (c : Fin 64) (who : Nat) (w : Nat)
  /-- KICK: 13 R361 -/
  | kick (c : Fin 64) (who : Nat) (w : Nat)
  /-- MOVER_EVENT: 13 R361 -/
  | moverEvent (x : MoverSignal)
  /-- DESCRIPTOR_START: 13 R364 -/
  | descriptorStart (c : Fin 64)
  /-- DESCRIPTOR_COMPLETE: 13 R366 -/
  | descriptorComplete (c : Fin 64)
  /-- OWNER_WRITE: 13 R360 -/
  | ownerWrite (c : Fin 64) (who : Nat) (w : Nat)
  /-- MESH_REQUEST: 13 R347 -/
  | meshRequest (type : Fin 8) (init : Nat) (tid : Nat) (addr : Nat) (len : Fin 256) (age : Fin 64) (data : List Nat) (dataErr : Bool) (fixed : List Nat)
  /-- MESH_RESPONSE: 13 R347 -/
  | meshResponse (init : Nat) (tid : Nat) (dataErr : Bool) (elem : Nat) (fixed : List Nat)
  /-- MESH_TIMEOUT: 13 R352 -/
  | meshTimeout (init : Nat) (tid : Nat) (elem : Nat) (isWrite : Bool)
  /-- QUARANTINE_EXPIRY: 13 R353 -/
  | quarantineExpiry (init : Nat) (tid : Nat)
  /-- HEADER_FLIT_UNCORRECTABLE: 13 R349 -/
  | headerFlitUncorrectable (router : Fin 72) (init : Nat) (packet : LostPacket)
  /-- COLUMN_SWITCHOVER: 13 R356 -/
  | columnSwitchover (f : Fin 9) (lost : List (Nat × Nat × Nat)) (credits : Nat)
  /-- PROBE_CONFIGURATION_WRITE: 13 R358 -/
  | probeConfigurationWrite (vi : Fin 16) (i : Nat) (v : Nat)
  /-- TRACE_MODE_WRITE: 13 R359 -/
  | traceModeWrite (vi : Fin 16) (v : Nat)
  /-- DOMAIN_VOTE: 14 R385 -/
  | domainVote (d : Fin 65) (client : Fin 5) (v : Bool)
  /-- IDLE_DELAY_EXPIRY: 14 R386 -/
  | idleDelayExpiry (d : Fin 65)
  /-- PORT_CLOSED: 13 R355 -/
  | portClosed (d : Fin 65)
  /-- WAKE_COMPLETE: 14 R387 -/
  | wakeComplete (d : Fin 65) (poison : Bool) (airTime : Nat)
  /-- SCRUB: 15 R393 -/
  | scrub (unit : Nat) (alwaysOn : Bool) (corrected : Nat) (bad : List Nat)
  /-- ERROR_RECORD_HANDLING_LIMIT: 15 R398 -/
  | errorRecordHandlingLimit (eseq : Nat)
  /-- ERROR_ACKNOWLEDGE: 15 R399 -/
  | errorAcknowledge (vi : Fin 16) (v : Nat)
  /-- OFFICE_HEARTBEAT_LOSS: 15 R401 -/
  | officeHeartbeatLoss
  /-- LOCKSTEP_MISMATCH: 15 R401 -/
  | lockstepMismatch (p : Fin 2)
  /-- OFFICE_FAILOVER: 15 R403 -/
  | officeFailover
  /-- SUBSTITUTE_TEST: 15 R402 -/
  | substituteTest (p : Fin 52) (pass : Bool)
  /-- FENCE_RELEASE: 15 R405 -/
  | fenceRelease (vi : Fin 16) (v : Nat) (pass : Bool)
  /-- CLEAR_BAD_DESCRIPTORS: 15 R406 -/
  | clearBadDescriptors (vi : Fin 16) (v : Nat)
  /-- REPORT_CARD_UPDATE: 15 R407 -/
  | reportCardUpdate (life : List (Nat × Nat)) (airTime : Nat)
  /-- PREFECT_WATCHDOG: 15 R400 -/
  | prefectWatchdog
  /-- RELAY_TEST: 15 R412 -/
  | relayTest (vi : Fin 16) (v : Nat)
  /-- RELAY_TEST_END: 15 R412 -/
  | relayTestEnd
  /-- ACCOUNT_MARK_ACKNOWLEDGE: 17 R445 -/
  | accountMarkAcknowledge (vi : Fin 16) (acct : Nat) (v : Nat)
  /-- REQUEST: 16 R417 -/
  | request (d : Datagram) (cut : Option Nat) (aid : Aid)
  /-- RS485_FRAME_RECEIVED: 16 R433 -/
  | rs485FrameReceived (octets : List Nat)
  /-- RS485_FRAME_TIMEOUT: 16 R433 -/
  | rs485FrameTimeout
  /-- ADDRESS_CHANGE_EFFECTIVE: 16 R432 -/
  | addressChangeEffective (l : Fin 2)
  /-- FIRMWARE_OPEN: 16 R428 -/
  | firmwareOpen (vi : Fin 16)
  /-- FIRMWARE_CHUNK: 16 R428 -/
  | firmwareChunk (vi : Fin 16) (offset : Nat) (len : Nat) (v : Nat)
  /-- FIRMWARE_VERIFY: 16 R428 -/
  | firmwareVerify (vi : Fin 16)
  /-- FIRMWARE_ACTIVATE: 16 R428 -/
  | firmwareActivate (vi : Fin 16) (pass : Bool)
  /-- FIRMWARE_COMMIT: 16 R428 -/
  | firmwareCommit (vi : Fin 16)
  /-- FIRMWARE_ABANDON: 16 R430 -/
  | firmwareAbandon (vi : Fin 16)
  /-- PROBATION_EXPIRY: 16 R428 -/
  | probationExpiry
  /-- PACKAGE_OPEN: 16 R429 -/
  | packageOpen (vi : Fin 16) (id : Nat)
  /-- PACKAGE_CHUNK: 16 R429 -/
  | packageChunk (vi : Fin 16) (el : Nat) (len : Nat) (v : Nat)
  /-- PACKAGE_VERIFY: 16 R429 -/
  | packageVerify (vi : Fin 16) (id : Nat) (found : Package)
  /-- PACKAGE_ACTIVATE: 16 R429 -/
  | packageActivate (vi : Fin 16) (id : Nat)
  /-- PACKAGE_ABANDON: 16 R430 -/
  | packageAbandon (vi : Fin 16) (id : Nat)
  /-- PACKAGE_ROTATION_STEP: 16 R429 -/
  | packageRotationStep (id : Fin 256)
  /-- EMERGENCY_STATUS_READ: 17 R447 -/
  | emergencyStatusRead (token : Fin 65536)
  /-- FORCE_SILENT: 17 R448 -/
  | forceSilent (vi : Fin 16) (v : Nat) (cnt : Nat) (token : Fin 65536)
  /-- EMERGENCY_RESET: 17 R448 -/
  | emergencyReset (vi : Fin 16) (v : Nat) (cnt : Nat) (token : Fin 65536) (f : BootFacts)
  /-- BEAT: 18 R453 -/
  | beat (east : Bool) (src : Fin 256) (dst : Fin 256) (head : Bool) (epoch : Nat)
  /-- HEAD_LOSS: 18 R461 -/
  | headLoss
  /-- HEADSET: 18 R450 -/
  | headset (east : Bool) (src : Fin 256) (dst : Fin 256) (seq : Fin 256) (head : Fin 8) (deputies : Nat) (airTime : Nat)
  /-- HEAD_CHANGE_EFFECTIVE: 18 R450 -/
  | headChangeEffective
  /-- BRANCHMAP: 18 R455 -/
  | branchmap (east : Bool) (src : Fin 256) (dst : Fin 256) (capid : Fin 4096) (owner : Fin 8) (bin : Fin 512) (mcode : Fin 6) (peakAt : Nat) (positions : List Nat)
  /-- GAINS: 18 R456 -/
  | gains (east : Bool) (src : Fin 256) (dst : Fin 256) (bin : Fin 481) (gains : List Int)
  /-- DIRUPD: 18 R457 -/
  | dirupd (east : Bool) (src : Fin 256) (dst : Fin 256) (tag : BitVec 32) (home : Fin 256) (seq : BitVec 32)
  /-- FWDFRAME: 18 R458 -/
  | fwdframe (east : Bool) (src : Fin 256) (dst : Fin 256) (capid : Fin 4096) (part : Fin 2) (x : Forwarded)
  /-- FWDVERDICT: 18 R458 -/
  | fwdverdict (east : Bool) (src : Fin 256) (dst : Fin 256) (record : Nat)
  /-- TRANSFER_WRITE: 18 R459 -/
  | transferWrite (vi : Fin 16) (slot : Nat) (v : Nat)
  /-- XFER_PREPARE: 18 R459 -/
  | xferPrepare (east : Bool) (src : Fin 256) (dst : Fin 256) (slot : Fin 262144) (dest : Fin 262144) (vi : Fin 16) (keyh : Nat)
  /-- XFER_READY: 18 R459 -/
  | xferReady (east : Bool) (src : Fin 256) (dst : Fin 256) (slot : Fin 262144) (dest : Fin 262144)
  /-- XFER_COMMIT: 18 R459 -/
  | xferCommit (east : Bool) (src : Fin 256) (dst : Fin 256) (slot : Fin 262144) (dest : Fin 262144) (atK : Nat) (entry : Nat)
  /-- XFER_ABORT: 18 R459 -/
  | xferAbort (east : Bool) (src : Fin 256) (dst : Fin 256) (slot : Fin 262144) (dest : Fin 262144)
  /-- XFER_QUERY: 18 R460 -/
  | xferQuery (east : Bool) (src : Fin 256) (dst : Fin 256) (slot : Fin 262144) (dest : Fin 262144)
  /-- XFER_AT_K: 18 R459 -/
  | xferAtK (slot : Fin 262144) (airTime : Nat)
  /-- MEMBER_DRAIN: 18 R462 -/
  | memberDrain (vi : Fin 16) (p : Nat) (v : Nat)
  /-- ACCEL_OPERATION_DONE: 11 R297 -/
  | accelOperationDone (u : Fin 8) (out : List (Nat × Nat × Nat))
  /-- WIPE_COMPLETE: 10 R277 -/
  | wipeComplete (e : Fin 8)
  /-- NOP: 12 R310 -/
  | nop (t : Fin 52)
  /-- ETHERNET_FRAME_RECEIVED: 16 R432 -/
  | ethernetFrameReceived (l : Fin 2) (kind : Fin 5) (src : Nat) (dport : Nat) (vlan : Nat) (fragmented : Bool) (octets : List Nat)
  /-- ETHERNET_LINK_DOWN: 16 R427 -/
  | ethernetLinkDown (l : Fin 2)
  /-- ETHERNET_LINK_UP: 16 R432 -/
  | ethernetLinkUp (l : Fin 2)
  /-- STAGING_BUFFER_DRAIN: 03 R69 -/
  | stagingBufferDrain
  /-- OFFICE_PAIR_RELOAD_AND_TEST: 15 R403 -/
  | officePairReloadAndTest (p : Fin 2) (pass : Bool)
  deriving DecidableEq, Repr

end Sys2Proof
end

