-- ==== Sys2Proof/Config.lean ====
section
/-! DEFINITION. What the spec leaves to the implementation, to packages or to no one: opaque constants, so that no
proof can know a value of them (notes/assumptions/5.md lists each with the words of the spec that leave it open). -/

namespace Sys2Proof.Config

/-- The n-th free value drawn by the module: a value the spec calls undefined (12 R329 c registers and CXERR,
13 R347 bytes of RDATA outside the span). -/
opaque freeNat : Nat → Nat

/-- Whether the tag index can place a tag beside the tags it holds (08 R208: the hash key is set at manufacture). -/
opaque tagPlaceable : Nat → List Nat → Bool

/-- CX results within the error bounds of 12 Table 12.8, as a function of FN and the operand values: the deviation
(or, for CXPHASE, the value) that the hardware chooses; the machine clamps it to the bound. -/
opaque cxChoice : Nat → BitVec 64 → BitVec 64 → Int

/-- Symbol rate in symbols per second declared by a customer profile's package (09 R256, 07 R171). -/
opaque customerRate : Nat → Nat
/-- Merge width declared by a customer profile's package (07 R175). -/
opaque customerM : Nat → Nat
/-- Longest air frame in ticks declared by a customer profile's package (06 R171). -/
opaque customerLongest : Nat → Nat
/-- Bits per symbol (1 or 2) of a customer profile in the vendor frame format. -/
opaque customerFour : Nat → Bool

/-- Which of two survivors of equal metric the Decoder keeps, by step and state (07 R184). -/
opaque decoderTie : Nat → Nat → Bool
/-- Generators of the two convolutional FEC options of SUN FSK (07 Table 7.5: IEEE 802.15.4 fixes them), recursive or not. -/
opaque sunGenerators : Bool → Nat × Nat
/-- The place in the air of coded bit i of n of a SUN FSK frame with FEC. -/
opaque sunInterleaver : Nat → Nat → Nat

/-- Gaussian taps of the coefficient sets that vendor packages load at delivery (09 R251), 64 I16 as 128 octets. -/
opaque vendorTaps : Nat → Nat
/-- Reply response delay in us that a published package sets (09 Table 9.9, 0x5030:03 "package"). -/
opaque replyDelay : Nat → Nat

/-- Chips, as symbols of 1 and -1, of a T2 or C2 reply of a profile with the octets of a frame (09 R248: EN 13757-4 fixes
the coding). -/
opaque replySymbols : Nat → List Nat → List Int
/-- The Shaper's interpolation (09 R251): from phase points, 16 a symbol, in 2^-64 turns, the phase at a place in 2^-32
points after the first. -/
opaque shaperPhase : List Int → Int → Int

/-- Transmit latency of a lane above 300 ns, in ps (04 Table 4.6: from 300 to 320 ns, fixed). -/
opaque txLatency : Nat → Nat
/-- Taps of the interpolator of 05 R118 in 2^-30, by the fraction of a tick in 1/768 and the head sample, 16 before the one
at or before the sampling time being 0. -/
opaque interpolator : Nat → Nat → Int
/-- The channelizer's prototype from its outermost tap to its middle one, taps 0 to 4,096 (05 R124). -/
opaque prototype : Nat → Int
/-- Taps of the bin merger in 2^-30 (05 R124): merge width, phase of the merged sample, and bin sample, the newest being 0. -/
opaque mergeTap : Nat → Nat → Nat → Int
/-- The preamble reference of a profile at a merge width (06 R147: as its package defines it), by stream sample. -/
opaque preamble : Nat → Nat → Nat → Int × Int
/-- Weights in 2^-32, by element, where the covariance has no inverse or takes up nothing of r (06 R164). -/
opaque singularWeight : Nat → Int × Int
/-- The level of a power of zero in 0.1 dBFS, which has no logarithm (05 R132, R136, R141). -/
opaque zeroLevel : Int

/-- The factory curve of an island (15 Table 15.7 AGEMV): supply in mV for a pace in 1/16 cycle per tick at a junction
temperature in 0.1 degree C. -/
opaque factoryCurve : Nat → Nat → Int → Int

/-- Whether an image's CRC-32 and ECDSA signature hold (16 R428), from the staged octets and their length. -/
opaque firmwareGood : List (Nat × Nat × Nat) → Nat → Bool
/-- Version word of a staged firmware image (17 R442). -/
opaque firmwareVersion : List (Nat × Nat × Nat) → Nat → Nat
/-- Whether a package's signature holds under the verification key given (16 R429). -/
opaque packageGood : Nat → List (Nat × Nat × Nat) → Nat → Nat → Bool
/-- Version of a staged package (16 R429). -/
opaque packageVersion : Nat → List (Nat × Nat × Nat) → Nat

end Sys2Proof.Config
end

