-- ==== Sys2Proof/Machine/State.lean ====
section
/-! DEFINITION. The state of the block: every piece of state the spec gives the machine, as plain data.
Each field's comment reads: width | rule and file of spec/ (or object of the dictionary) | reset value | meaning.
Values without a reset value in the spec: notes/assumptions/1.md. -/

namespace Sys2Proof.Machine

/-! ### Answers and emissions (what the module gives out) -/

/-- The answer of the last write, request or access. -/
structure Answer where
  /-- 8 bits | 00 R10 | OK (DESIGN CHOICE, log 1) | the model's own: status the last command was answered with -/
  status : Status := .ok
  /-- a value | 09 R237, 10 R275, 16 R420 | 0 (DESIGN CHOICE, log 1) | the model's own: value returned with it (RQID, PASS, BUFALLOC, read data) -/
  data : Nat := 0
  deriving DecidableEq, Repr

/-- What leaves the module at a port. -/
inductive Emission where
  /-- control message on a lane (04 R90): lane, TYPE, SEQ, body octets as a number, body length -/
  | laneMsg (lane type seq : Nat) (body : Nat) (len : Nat)
  /-- lane frame started: lane, sequence, flags, valid mask, and its 3,072 codes of ten bits in order (04 R83, R85) -/
  | laneFrame (lane seq flags mask : Nat) (codes : List Nat)
  /-- Molfen reply on a port (0, 1 Ethernet lanes, 2 RS-485) to an address and VLAN: VI, CNT, TOKEN, GSTATUS, TSEQ, per item
  STATUS, LEN and DATA (16 R413, R420); and the octets as sent, on RS-485 those of the frame (R433) -/
  | reply (port dst vlan vi cnt token gstatus tseq : Nat) (items : List (Status × Nat × Nat)) (octets : List Nat)
  /-- VERDICTS notification: VI, collector, Ethernet lane, first VSEQ, count, and its octets (16 R413, R427) -/
  | verdicts (vi c lane first count : Nat) (octets : List Nat)
  /-- DISCARD notification: VI, collector, Ethernet lane, first and last VSEQ, octets -/
  | discard (vi c lane first last : Nat) (octets : List Nat)
  /-- EVENT notification: VI, collector, Ethernet lane, KIND, data, octets -/
  | event (vi c lane kind data : Nat) (octets : List Nat)
  /-- cascade message: lane direction (true east), TYPE, DST, body octets as a number, body length -/
  | cascade (east : Bool) (type dst body len : Nat)
  /-- ramp-down of a burst at a head with DOWN NOW (09 R258) -/
  | rampDown (rqid head : Nat)
  /-- samples of a burst begin at a head (09 R244) -/
  | burst (rqid head : Nat)
  /-- STOP raised on a tile by the Caretaker (12 R337) -/
  | stop (tile : Nat)
  /-- supply of an island, in mV, and the band of its body bias and memory assist, in the order they change (14 R384) -/
  | supply (island mv : Nat)
  | bias (island band : Nat)
  /-- Ethernet answer of kind: 0 ARP, 1 neighbour discovery, 2 ICMP echo (16 R432) -/
  | ethernet (lane kind : Nat)
  deriving DecidableEq, Repr

/-! ### Modes (02) -/

structure ModeUnit where
  /-- 4 bits | 02 R34, 0x2000:01 | OFF | current mode -/
  mode : Mode := .off
  /-- 4 bits | 02 R44 | OFF (DESIGN CHOICE, log 1) | mode from which SILENT was entered -/
  silentFrom : Mode := .off
  /-- 1 bit | 02 R41 Table 2.4 bit 0 | 0 | REF -/
  causeRef : Bool := false
  /-- 1 bit | 02 R41 Table 2.4 bit 1, persists R57 | 0 | QUIET -/
  causeQuiet : Bool := false
  /-- 1 bit | 02 R49 | 0 (DESIGN CHOICE, log 1) | STANDBY was reached from BOOT, so automatic entry applies -/
  fromBoot : Bool := false
  /-- 1 bit | 02 R39 | 0 | a SERVICE request is DEFERRED -/
  serviceDeferred : Bool := false
  /-- 8 bits | 02 R37, 0x2000:05 | 0 (DESIGN CHOICE, log 1) | last mode request written -/
  request : Nat := 0
  /-- 32 bits | 02 R37, 0x2000:08 | 0 (DESIGN CHOICE, log 1) | last transition word -/
  lastTransition : Nat := 0
  /-- count | 02 R46 Table 2.5 | 0 | last completed BOOT step (0: no BOOT under way) -/
  bootStep : Nat := 0
  /-- 1 bit | 02 R49 | 0 | the BOOT under way is warm -/
  bootWarm : Bool := false
  /-- 64 bits | 02 R37 | 0 | Caretaker us at the start of BOOT (seconds since BOOT) -/
  bootAtUs : Nat := 0
  /-- 1 bit | 02 R53 | 0 | an escalation arose in LAST_GASP: the next BOOT ends in SAFE -/
  safeAtBoot : Bool := false
  /-- 1 bit | 03 R75 | 0 | the transition with cause 0x12 is still to be written -/
  exhaustedAtLoss : Bool := false
  /-- lanes | 02 R56 Table 2.8 | none | lanes that were up as SAFE was entered: they alone are enabled in SAFE -/
  upBeforeSafe : List Nat := []
  deriving DecidableEq, Repr

/-! ### Mains and energy (03) -/

/-- Seal record (03 R73, Table 3.5). -/
structure Seal where
  /-- 32 bits | 03 R73 | 0 (DESIGN CHOICE, log 1) | SEALMARK -/
  mark : Nat := 0
  /-- 64 bits | 03 R73 | 0 (DESIGN CHOICE, log 1) | LOSS_AT -/
  lossAt : Nat := 0
  /-- 32 bits | 03 R73 | 0 (DESIGN CHOICE, log 1) | CARETIME, ms -/
  careMs : Nat := 0
  /-- 32 bits | 03 R73 | 0 (DESIGN CHOICE, log 1) | JSEQ of the last journal record -/
  jseq : Nat := 0
  /-- 32 bits | 03 R73 | 0 (DESIGN CHOICE, log 1) | ACCCRC over the snapshots -/
  accCrc : Nat := 0
  /-- 16 bits | 03 R73 | 0 (DESIGN CHOICE, log 1) | ENERGY, mJ -/
  energy : Nat := 0
  /-- 16 bits | 03 R73 | 0 (DESIGN CHOICE, log 1) | DURATION, 10 us -/
  duration : Nat := 0
  /-- 8 bits | 03 R73 | 0 (DESIGN CHOICE, log 1) | CAUSE -/
  cause : Nat := 0
  deriving DecidableEq, Repr

structure PowerUnit where
  /-- 1 bit | 03 R68 | 0 | mains is present -/
  mains : Bool := false
  /-- 1 bit | 03 R61 | 1 | inrush limiter engaged -/
  inrush : Bool := true
  /-- 16 bits | 03 R76, 0x2020:01 | 0 (DESIGN CHOICE, log 1) | input voltage, 0.1 V -/
  voltage : Nat := 0
  /-- 16 bits | 03 R76, 0x2020:02 | 0 (DESIGN CHOICE, log 1) | input power, 0.1 W -/
  powerDrawn : Nat := 0
  /-- 16 bits | 03 R76, 0x2020:03 | 0 (DESIGN CHOICE, log 1) | hold-up energy, mJ -/
  holdup : Nat := 0
  /-- 16 bits | 03 R64, 0x2020:04 | 0 (DESIGN CHOICE, log 1) | hold-up usable capacity, last test, mJ -/
  capacity : Nat := 0
  /-- 32 bits | 03 R68, 0x2020:05, persists | 0 | dips ridden through -/
  dips : Nat := 0
  /-- 32 bits | 03 R76, 0x2020:06, persists | 0 | mains losses -/
  losses : Nat := 0
  /-- 8 bits | 03 R76, 0x2020:07 | 2 (no previous loss) | last seal result -/
  sealResult : Nat := 2
  /-- 32 octets | 03 R73, MRAM | zeros | the seal record in MRAM -/
  sealRec : Seal := {}
  /-- 32 octets | 03 R76, 0x2020:08 | zeros (DESIGN CHOICE, log 1) | last seal record found at BOOT -/
  lastSeal : Seal := {}
  /-- 64 bits | 03 R74, 0x2020:09 | 0 | discrepancy window start -/
  winStart : Nat := 0
  /-- 64 bits | 03 R74, 0x2020:0A | 0 | discrepancy window end -/
  winEnd : Nat := 0
  /-- 8 bits | 03 R74, 0x2020:0B | 0 | window time base: 1 Caretaker ms -/
  winCare : Bool := false
  /-- 64 bits | 03 R68 | 0 | air time at t_l -/
  lossAt : Nat := 0
  /-- 64 bits | 03 R73 | 0 | Caretaker us at t_l -/
  lossUs : Nat := 0
  /-- 8 bits | 03 R73 CAUSE | 0 | cause the seal will carry -/
  lossCause : Nat := 0
  /-- 1 bit | 03 R70 step 6 | 0 | steps 1 to 6 of Table 3.4 are done, step 7 is not -/
  gaspOpen : Bool := false
  /-- 1 bit | 03 R74, R75 | 0 | a mains loss occurred since the last seal check -/
  lossSinceCheck : Bool := false
  /-- 64-bit words | 03 R70 step 6 | none | account snapshots in MRAM -/
  accSnap : List Nat := []
  /-- I16 | 03 R76, 0x2020:10 | 0 (DESIGN CHOICE, log 1) | baseplate temperature, 0.1 C -/
  baseplate : Int := 0
  /-- I16 | 03 R76, 0x2020:11 | 0 (DESIGN CHOICE, log 1) | hottest junction, 0.1 C -/
  junction : Int := 0
  /-- 0.1 C x s | 03 R76, 0x2020:12, persists | 0 | sum of the baseplate temperature over the powered seconds since manufacture -/
  baseplateSum : Int := 0
  /-- seconds | 03 R76, 0x2020:12, persists | 0 | powered seconds in that sum -/
  baseplateSeconds : Nat := 0
  /-- 32 bits | 17 R442, 0x1000:09, persists | 0 | powered seconds (hours x 3600) -/
  poweredSeconds : Nat := 0
  deriving DecidableEq, Repr

/-! ### Reference, air time, bells, pace timers, ledger clock (14, 08 R219) -/

/-- A bell (14 R375). -/
structure Bell where
  /-- 32 bits | 14 R375, 0x2030:01 | Table 14.3 | period, 0 stopped -/
  period : Nat := 0
  /-- 32 bits | 14 R375, 0x2030:02 | Table 14.3 | phase -/
  phase : Nat := 0
  /-- 32 bits | 14 R375 | none | period written, in force after the next firing -/
  newPeriod : Option Nat := none
  /-- 32 bits | 14 R375 | none | phase written, in force after the next firing -/
  newPhase : Option Nat := none
  /-- 64 bits | 14 R389, 0x2030:03 | 0 | one-shot armed at; 0 none -/
  armed : Nat := 0
  /-- 32 bits | 14 R376, 0x2030:04 | 0 | one-shot firings missed -/
  missed : Nat := 0
  deriving DecidableEq, Repr

/-- A pace timer (13 R362). -/
structure PaceTimer where
  /-- 32 bits | 13 R362, 0x8051:01 | 0 | period -/
  period : Nat := 0
  /-- 32 bits | 13 R362, 0x8051:02 | 0 | phase -/
  phase : Nat := 0
  /-- 32 bits | 13 R362 | none | period written, in force after the next firing -/
  newPeriod : Option Nat := none
  /-- 32 bits | 13 R362 | none | phase written, in force after the next firing -/
  newPhase : Option Nat := none
  deriving DecidableEq, Repr

structure TimeUnit where
  /-- AT | 14 R375; 13 R362 | 0 | air time of the firings in `fired` -/
  firedAt : Nat := 0
  /-- list | 14 R375; 13 R362 | none | periodic bells, and 64 + t for pace timers, fired at that air time -/
  fired : List Nat := []
  /-- 1 bit | 14 R389 0x2010:02 bit 0, R466 | 1 | REF_LOST -/
  refLost : Bool := true
  /-- 1 bit | 14 R389 bit 1 | 0 | VALID -/
  valid : Bool := false
  /-- 1 bit | 14 R373, R389 bit 2 | 0 | EXTRAP -/
  extrap : Bool := false
  /-- 1 bit | 14 R389 bit 3 | 0 | LOOPLOCK -/
  loopLock : Bool := false
  /-- 1 bit | 14 R389 bit 4, R466 | 1 | RIMSTOP -/
  rimStop : Bool := true
  /-- 1 bit | 14 R372 step 4 | 0 | t_q reached -/
  qualified : Bool := false
  /-- 1 bit | 14 R374 | 0 | the loss under way is a restart (1 ms qualification) -/
  restart : Bool := false
  /-- 64 bits | 14 R373, 0x2010:03 | 0 | air time, ticks (frozen while invalid) -/
  airTime : Nat := 0
  /-- 64 bits | 14 R373 | 0 | AT_x: air time at which the timebase last became invalid -/
  atX : Nat := 0
  /-- 64 bits | 14 R373 | 0 | Caretaker us at that instant -/
  usX : Nat := 0
  /-- 1 bit | 14 R373 | 0 | the Caretaker count has run since the timebase was last valid -/
  careSince : Bool := false
  /-- 64 bits | 14 R373, MRAM | 0 | persisted air time -/
  persistedAt : Nat := 0
  /-- 64 bits | 14 R465 | 0 | Caretaker monotonic count, us -/
  careUs : Nat := 0
  /-- 5 bits | 14 R465 | 0 | fraction of it in 1/32 us (one tick is 5/32 us) -/
  careFrac : Nat := 0
  /-- 64 bits | 14 R465, MRAM | 0 | persisted Caretaker count -/
  carePersisted : Nat := 0
  /-- 64 bits | 14 R373, 0x2010:04 | 0 | pending epoch -/
  pendingEpoch : Nat := 0
  /-- I32 | 14 R389, 0x2010:06 | 0 (DESIGN CHOICE, log 1) | reference offset, 0.01 ppm -/
  refOffset : Int := 0
  /-- 32 bits | 14 R389, 0x2010:07 | 0 | reference losses -/
  refLosses : Nat := 0
  /-- 64 bells | 14 R375 | Table 14.3 | bells -/
  bells : Tab Bell := []
  /-- 16 timers | 13 R362 | stopped | pace timers -/
  paceTimers : Tab PaceTimer := []
  /-- 32 bits | 08 R219, 0x6001:01 | 0 (DESIGN CHOICE, log 1) | ledger clock -/
  ledger : Nat := 0
  /-- 32 bits | 08 R219, MRAM | 0 | persisted ledger clock -/
  ledgerPersisted : Nat := 0
  /-- 1 bit | 08 R219, 0x6001:03 | 0 | GAP -/
  gap : Bool := false
  /-- list | 14 R380 | none | first posted write held per loop-timed rim node: (node, offset, data) -/
  rimHeld : List (Nat × Nat × Nat) := []
  /-- 64 bits | 01 R30, 14 Table 14.3 | 0 | air time of the last snapshot (bell 9) -/
  snapshotAt : Nat := 0
  deriving DecidableEq, Repr

/-! ### Lanes, heads, spares, cages (04); cascade lanes are lanes 16 to 19 -/

/-- A command sent on a lane and not yet answered (04 R93). -/
structure LaneCmd where
  /-- 8 bits | 04 R90 | - | TYPE -/
  type : Nat
  /-- 8 bits | 04 R90 | - | SEQ -/
  seq : Nat
  /-- octets | 04 R90 | - | body -/
  body : Nat
  /-- count | 04 R90 | - | LEN -/
  len : Nat
  /-- count | 04 R93 | 0 | lane frames since it was last sent -/
  waited : Nat := 0
  /-- count | 04 R93 | 0 | resends so far, at most 2 -/
  resends : Nat := 0
  deriving DecidableEq, Repr

/-- An outstanding TAPREQ of the module (04 R105). -/
structure TapReq where
  /-- 8 bits | 04 R105 | - | SEQ -/
  seq : Nat
  /-- 8 bits | 04 R105 | - | tap -/
  tap : Nat
  /-- I8 | 04 R105 | - | step -/
  step : Int
  /-- count | 04 R105 | 0 | lane frames waited -/
  waited : Nat := 0
  deriving DecidableEq, Repr

structure Lane where
  /-- 1 bit | 04 R101 | 0 | lane enabled (optical transmit on, frames sent) -/
  enabled : Bool := false
  /-- 1 bit | 04 R107 bit 0 | 1 | LOS -/
  los : Bool := true
  /-- 1 bit | 04 R107 bit 1 | 1 | LOL -/
  lol : Bool := true
  /-- 1 bit | 04 R107 bit 2 | 0 | LOCKED -/
  locked : Bool := false
  /-- 1 bit | 04 R107 bit 3 | 0 | REMLOCK -/
  remLock : Bool := false
  /-- 1 bit | 04 R107 bit 4 | 0 | HEADID -/
  headId : Bool := false
  /-- 1 bit | 04 R107 bit 5 | 0 | ACTIVE -/
  active : Bool := false
  /-- 1 bit | 04 R107 bit 7 | 0 | CRCALARM -/
  crcAlarm : Bool := false
  /-- 1 bit | 04 R107 bit 9 | 1 | CAGEEMPTY -/
  cageEmpty : Bool := true
  /-- 1 bit | 04 R107 bit 10 | 0 | CAGEBAD -/
  cageBad : Bool := false
  /-- count | 04 R102 | 0 | K28.5 found in HUNT at 3,072-character spacing -/
  commas : Nat := 0
  /-- count | 04 R103 | 0 | consecutive frames without the comma -/
  missed : Nat := 0
  /-- 8 bits | 04 R86 | 0 (DESIGN CHOICE, log 1) | sequence of the next frame sent -/
  txFrame : Nat := 0
  /-- 8 bits | 04 R86 | 0 (DESIGN CHOICE, log 1) | sequence of the last frame received -/
  rxFrame : Nat := 0
  /-- 1 bit | 04 R86 | 0 | a frame has been received since LOCKED -/
  rxSeen : Bool := false
  /-- 8 bits | 04 R90 | 0 (DESIGN CHOICE, log 1) | SEQ of the next control message -/
  txSeq : Nat := 0
  /-- 32 bits | 04 R97, 0x3010:02 | 0 (DESIGN CHOICE, log 1) | one-way delay d, 1/16 tick -/
  delay : Nat := 0
  /-- 64 bits | 04 R111 | 0 (DESIGN CHOICE, log 1) | serial of the latest HEADID received on this lane -/
  serial : Nat := 0
  /-- 1 bit | 04 R95 | 0 | d is known since LOCKED -/
  delayKnown : Bool := false
  /-- 1 bit | 04 R95 | 0 | the first TIME has been sent since LOCKED -/
  timeSent : Bool := false
  /-- 32 bits | 04 R100, 0x3010:03 | 0 (DESIGN CHOICE, log 1) | transmit latency, ps -/
  txLatency : Nat := 0
  /-- 8 bits | 04 R106, 0x3010:04 | 0 | module pre-cursor -/
  pre : Nat := 0
  /-- 8 bits | 04 R106, 0x3010:04 | 4 | module post-cursor -/
  post : Nat := 4
  /-- 16 bits | 04 Table 4.8, 0x3010:05 | 0 (DESIGN CHOICE, log 1) | far-end taps -/
  farTaps : Nat := 0
  /-- Table 4.7 bit 8 | 04 R105 | none | outstanding TAPREQ (TAPWAIT) -/
  tapReq : Option TapReq := none
  /-- count | 04 R105 | 0 | lane frames since LOCKED -/
  sinceLock : Nat := 0
  /-- count | 04 R105 | 64 | lane frames since the last TAPREQ, up to 64 -/
  sinceTap : Nat := 64
  /-- I8 | 04 R105 | none | last tap step applied at the far end (tap, step), for the opposite step after a relock -/
  lastStep : Option (Nat × Int) := none
  /-- 1 bit | 04 R105 | 0 | a step was followed by loss of frame: request the opposite one after relock -/
  undoStep : Bool := false
  /-- list | 04 R93 | none | commands not yet answered -/
  cmds : List LaneCmd := []
  /-- octets | 04 R91 | none | octets of a message in progress, newest first -/
  msg : Option (List Nat) := none
  /-- 16 bits | 04 R88 | 0 | antenna valid mask of the last frame -/
  validMask : Nat := 0
  /-- 8 bits | 04 R87 | 0 | flags of the last frame received -/
  rxFlags : Nat := 0
  /-- 32 bits each | 04 Table 4.8, 0x3010:10 to 19 | 0 | counters: 0 code, 1 disparity, 2 CRC, 3 header, 4 misplaced comma, 5 loss of frame, 6 bad message, 7 K30.7, 8 tap requests abandoned, 9 frames -/
  counters : Tab Nat := []
  /-- 32 bits | 04 R107 | 0 | CRC errors since the last CRC_ALARM_EVALUATION -/
  crcSecond : Nat := 0
  /-- list | 04 R105 | none | tap step to apply at a frame boundary: (SEQ, tap, step) of a received TAPREQ -/
  tapPending : Option (Nat × Nat × Int) := none
  /-- count | 04 R105 | 64 | lane frames since a TAPREP of result 0, up to 64 -/
  sinceStep : Nat := 64
  /-- 64 bits each | 04 R97 | none | arrival of character 0 of the latest uplink frame of each sequence, 1/16 tick -/
  arrivals : Tab Nat := []
  /-- list | 04 R91, R100 | none | messages received whole and not yet delivered to the Office: TYPE, SEQ, LEN, body -/
  inbox : List (Nat × Nat × Nat × Nat) := []
  /-- 1 bit | 04 R83 | none (the first code after LOCKED sets it) | running disparity of the receiver, positive or not -/
  rxDisp : Option Bool := none
  /-- 1 bit | 04 R83 | 0 (negative) | running disparity of the transmitter -/
  txDisp : Bool := false
  /-- list | 04 R90 | none | control-channel characters still to be sent, each an octet and whether it is a K character -/
  txQueue : List (Nat × Bool) := []
  /-- count | 04 R97 | 0 | lane frames received since LOCKED -/
  rxCount : Nat := 0
  /-- count and 1/96 tick | 04 R97 | none | the uplink frame of the latest ALIGN, by rxCount, and the air time at which its
  character 0 left the head port -/
  anchor : Option (Nat × Nat) := none
  /-- 15 bits | 04 R102 | none | bit position of the candidate comma of HUNT -/
  hunt : Option Nat := none
  deriving DecidableEq, Repr

/-- A radio head as the module knows it (04 R109). -/
structure Head where
  /-- 25 octets | 04 R109, 0x3020:01 | zeros | latest HEADID body -/
  identity : Nat := 0
  /-- 23 octets | 04 R109, 0x3020:02 | zeros | latest HEADSTAT body -/
  headStat : Nat := 0
  /-- 8 bits | 04 Table 4.8, 0x3020:03 | 0xFF | serving lane -/
  serving : Nat := 0xFF
  /-- 4 bits | 09 R255 | 0 | ramp slots whose last RAMPDEF was answered other than OK -/
  rampBad : Nat := 0
  /-- 1 bit | 04 R111 | 0 | a switchover of this head is between steps 1 and 5 -/
  switching : Bool := false
  /-- 8 bits | 04 R111 | 0xFF | lane the switchover moves to -/
  target : Nat := 0xFF
  /-- 2 bits | 04 R111 Table 4.9 | 0 | steps of the switchover done on the target: bit 0 REPLY OK (step 3) -/
  switchOk : Bool := false
  /-- 1 bit | 04 R112 | 0 | HEADMISS by a missed switchover deadline -/
  lateSwitch : Bool := false
  deriving DecidableEq, Repr

/-- A cage (04 R113). -/
structure Cage where
  /-- 1 bit | 04 R113 | 0 | transceiver present -/
  present : Bool := false
  /-- 1 bit | 04 R113 | 0 | transmit disable asserted -/
  txDisable : Bool := false
  /-- 256 octets | 04 Table 4.8, 0x3040:01 | 0 (DESIGN CHOICE, log 1) | SFF-8472 A0h -/
  identity : Nat := 0
  /-- 10 octets | 04 Table 4.8, 0x3040:02 | 0 (DESIGN CHOICE, log 1) | SFF-8472 A2h 96 to 105 -/
  diag : Nat := 0
  deriving DecidableEq, Repr

structure LaneUnit where
  /-- 16 radio lanes, 4 cascade lanes | 04 R80, 18 R451 | reset lanes | lanes 0 to 19 -/
  lanes : Tab Lane := []
  /-- 12 heads | 04 R80 | reset heads | heads 0 to 11 -/
  heads : Tab Head := []
  /-- 22 cages | 04 R80 | empty | cages 0 to 21 -/
  cages : Tab Cage := []
  deriving DecidableEq, Repr
/-! ### Receive chain (05) -/

/-- A doubly buffered table with an armed swap (05 R120, R129; 09 R250). -/
structure SwapTable where
  /-- entries | 05 R119, 5001 | stored (0, DESIGN CHOICE, log 1) | shadow table -/
  shadow : Tab Nat := []
  /-- entries | 05 R120 | stored (0, DESIGN CHOICE, log 1) | active table -/
  active : Tab Nat := []
  /-- 4 bits | 05 R128 | 4 | shadow shift (beam sets only) -/
  shiftShadow : Nat := 4
  /-- 4 bits | 05 R128 | 4 | active shift (beam sets only) -/
  shiftActive : Nat := 4
  /-- 8 bits | 05 R120, 0x4001:04 | 0 | swap state: 0 idle, 1 armed, 2 copying -/
  swapState : Nat := 0
  /-- 64 bits | 05 R120, 0x4001:05 | 0 | last swap -/
  last : Nat := 0
  /-- entries | 05 R120, MRAM | stored (0, DESIGN CHOICE, log 1) | MRAM copy of the active table at the last swap -/
  mram : Tab Nat := []
  /-- 4 bits | 05 R129, MRAM | 4 | MRAM copy of the shift -/
  shiftMram : Nat := 4
  /-- entries | 05 R120, R121, R129 | none | the table active before the last swap, for the samples from before it -/
  prior : Tab Nat := []
  /-- 4 bits | 05 R129 | 4 | the shift active before the last swap -/
  priorShift : Nat := 4
  deriving DecidableEq, Repr

/-- One bin sample period in the history store (05 R125): the number, the causes of each antenna, and the words of the
antennas that carry none, by 512a + b. A flagged antenna's words all read as Table 5.1 says. -/
structure HistRow where
  /-- 64 bits | 05 R125 | - | n -/
  n : Nat := 0
  /-- 5 bits each | 05 R115, Table 5.1 | 0 | causes by antenna -/
  causes : Tab Nat := []
  /-- 98,304 words | 05 R116, R125 | 0 | ordinary sample words -/
  words : Tab Nat := []
  /-- list | 05 R126 | none | words found to hold an uncorrectable error, by 512a + b -/
  poison : List Nat := []
  /-- complex | 05 R127 | 0 | beam-set former output, by 32b + k -/
  beams : Tab (Int × Int) := []
  deriving DecidableEq, Repr

/-- Samples of a head in one lane frame (04 R85, R97; 05 R118), as calibration takes them. -/
structure HeadBlock where
  /-- 4 bits | 04 R80 | - | head -/
  head : Nat
  /-- 1/96 tick | 04 R97 | - | sampling time of slot 0 -/
  t96 : Nat
  /-- 512 samples | 04 R85, R88 | - | by 16 x slot + antenna; none: an erasure -/
  samples : List (Option (Int × Int))
  deriving DecidableEq, Repr

/-- A settled change of a head antenna's gain (05 R137). -/
structure GainStep where
  /-- 8 bits | 05 R136 | - | antenna port -/
  antenna : Nat
  /-- 64 bits | 05 R137 | - | AT_g -/
  atG : Nat
  /-- I8 | 05 R137 | - | gain from AT_g on, 0.5 dB -/
  gain : Int
  /-- 0.5 dB | 05 R137 | - | compensation from AT_g on -/
  comp : Int
  deriving DecidableEq, Repr

/-- Bin samples in a row that the floor engine met alike (05 R142). -/
structure FloorRun where
  /-- 64 bits | 05 R142 | - | number of the first -/
  first : Nat
  /-- 192 bits | 05 R142 | - | flagged antennas -/
  flagged : Nat
  /-- 512 bits | 05 R142 | - | bins with a detection or a capture -/
  busy : Nat
  /-- list | 05 R115, R142 | - | words flagged POISON: 512 antenna + bin -/
  poison : List Nat := []
  /-- count | 05 R142 | 1 | how many -/
  count : Nat := 1
  deriving DecidableEq, Repr

/-- A gain loop of the Sweep (05 R132): one per beam-bin, one per merged beam-bin of a preamble slot. -/
structure Stream where
  /-- I16 | 05 R132, 0x4004:05 | 0 (DESIGN CHOICE, log 1) | loop gain, 0.1 dB -/
  gain : Int := 0
  /-- count | 05 R134, 0x4004:06 | 0 | detections that hold the loop frozen -/
  frozen : Nat := 0
  /-- 0.1 dB / 65,536 | 05 R132 | 0 | what the loop has integrated; the gain is its nearest 0.1 dB -/
  fine : Int := 0
  /-- complex in 2^-16 | 06 R148 | none | outputs of the loop, newest first, as many as the preamble reference is long -/
  out : List (Int × Int) := []
  deriving DecidableEq, Repr

/-- A head gain change under way (05 R137). -/
structure GainChange where
  /-- 8 bits | 05 R136 | - | antenna port -/
  antenna : Nat
  /-- I8 | 05 R136 | - | new gain, 0.5 dB -/
  gain : Int
  /-- 64 bits | 05 R137 | - | AT_g -/
  atG : Nat
  /-- 8 bits | 04 R90 | - | SEQ of the GAIN -/
  seq : Nat
  /-- 8 bits | 04 R90 | - | lane -/
  lane : Nat
  deriving DecidableEq, Repr

/-- An interval of air time whose antenna samples are erased (05 R114). -/
structure Erasure where
  /-- 8 bits | 05 R114 | - | antenna -/
  antenna : Nat
  /-- 64 bits | 05 R114 | - | first erased tick -/
  lo : Nat
  /-- 64 bits | 05 R114 | - | last erased tick; none: until settled -/
  hi : Option Nat
  /-- 5 bits | 05 Table 5.1 | - | cause bit: 0 LANE, 1 GAINSTEP, 2 CALSWAP, 3 BLANK, 4 POISON -/
  cause : Nat
  deriving DecidableEq, Repr

/-- A setting written that takes effect at a later bell (05 R146; 06 R174; 16 R423). -/
structure Staged where
  /-- 6 bits | 05 R146 | - | bell; 8 stands for the next admission round -/
  bell : Nat
  /-- settings key | 17 R437 | - | object and element -/
  key : Nat
  /-- value | 17 R439 | - | written value -/
  value : Nat
  deriving DecidableEq, Repr

structure RxUnit where
  /-- 1 bit | 02 Table 2.1 | 0 | receive chain running -/
  running : Bool := false
  /-- 192 entries | 05 R119, R120 | stored | receive calibration -/
  cal : SwapTable := {}
  /-- 8 beam sets of 6,144 weights | 05 R128, R129 | stored | beam sets by group -/
  beams : Tab SwapTable := []
  /-- 1,000 slots | 05 R125 | empty | history store by n modulo 1,000 -/
  history : Tab HistRow := []
  /-- 64 bits | 05 R126 | 0 | first bin sample since the last restart of the receive chain -/
  histFrom : Nat := 0
  /-- 64 bits | 05 R126 | 0 | next bin sample to be produced -/
  histNext : Nat := 0
  /-- 32 bits | 05 Table 5.5, 0x4000:04 | 0 | history POISON reads -/
  histPoison : Nat := 0
  /-- loops | 05 R132 | empty | by loopKey: beam-bins, then merged streams of each preamble slot -/
  streams : Tab Stream := []
  /-- ratios | 06 R148, R149 | none | margins at the last two stream samples, newest first, by streamKey -/
  margins : Tab (List (Nat × Nat)) := []
  /-- list | 05 R118 | none | head samples of the last lane frames -/
  head : List HeadBlock := []
  /-- complex | 05 R127 | 0 | beam-set former output at the newest bin sample, by 32b + k -/
  beamOut : Tab (Int × Int) := []
  /-- complex | 05 R137 | 0 dB | head gain compensation per antenna, 0.5 dB, before the steps of gainSteps -/
  comp : Tab Int := []
  /-- list | 05 R137 | none | settled gain changes, in order of AT_g -/
  gainSteps : List GainStep := []
  /-- I8 | 05 Table 5.5, 0x4005:01 | 0 (DESIGN CHOICE, log 1) | head gain applied, before the steps of gainSteps -/
  headGain : Tab Int := []
  /-- 32 bits | 05 Table 5.5, 0x4005:05 | 0 | head gain changes -/
  gainChanges : Tab Nat := []
  /-- list | 05 R137 | none | gain changes under way -/
  gainPending : List GainChange := []
  /-- I16 | 05 Table 5.5, 0x4006:06 | 0 (DESIGN CHOICE, log 1) | wideband level -/
  wideband : Tab Int := []
  /-- count and power | 05 R136 | 0 | head samples of the window in progress, by antenna -/
  wideSum : Tab (Nat × Nat) := []
  /-- 64 bits | 05 R136 | 0 | air time at which the window in progress began -/
  wideFrom : Nat := 0
  /-- I16 | 05 R141, 0x4006:02 | 0 (DESIGN CHOICE, log 1) | antenna-bin floor by 512a + b -/
  antFloor : Tab Int := []
  /-- I16 | 05 R141, 0x4006:03 | 0 (DESIGN CHOICE, log 1) | beam-bin floor by 32b + k -/
  beamFloor : Tab Int := []
  /-- 1 bit | 05 R143, R144 | 0 (STALE) | STALE of an antenna-bin floor is clear, by 512a + b -/
  antFresh : Tab Bool := []
  /-- 1 bit | 05 R143, R144 | 0 (STALE) | STALE of a beam-bin floor is clear, by 32b + k -/
  beamFresh : Tab Bool := []
  /-- 1 bit | 05 R143, 06 R149 | 0 | an antenna-bin floor has taken a value since the last restart, by 512a + b -/
  antTaken : Tab Bool := []
  /-- 1 bit | 05 R143, 06 R149 | 0 | a beam-bin floor has taken a value since the last restart, by 32b + k -/
  beamTaken : Tab Bool := []
  /-- 1 bit | 02 R49 Table 2.6, 05 R143 | 0 | the first noise-floor average since the last restart is complete -/
  firstFloor : Bool := false
  /-- 8 bits | 05 Table 5.5, 0x4006:04 | 0 (DESIGN CHOICE, log 1) | qualifying fraction, % -/
  fraction : Tab Nat := []
  /-- 64 bits | 05 R143 | 0 | first bin sample of the averaging period -/
  periodFrom : Nat := 0
  /-- list | 05 R142 | none | bin samples of the period that the floor engine has processed, newest first -/
  floorRuns : List FloorRun := []
  /-- power | 05 R141 | 0 | sum over the qualifying samples of the period, by 512a + b -/
  antSum : Tab Nat := []
  /-- power | 05 R141 | 0 | the same for the beams, by 32b + k -/
  beamSum : Tab Nat := []
  /-- 64 bits | 05 R144 | 0 | first bin sample since every floor restarted -/
  floorsFrom : Nat := 0
  /-- 64 bits each | 05 R144 | 0 | first bin sample since the beam-bin floors of a group restarted -/
  beamsFrom : Tab Nat := []
  /-- list | 05 R142 | none | detections of the last 20 ms: lowest bin, number of bins, air time raised -/
  raised : List (Nat × Nat × Nat) := []
  /-- list | 05 R142 | none | captures released in the last 20 ms: lowest bin, number of bins, start of the preamble window,
  air time of the release -/
  captured : List (Nat × Nat × Nat × Nat) := []
  /-- list | 05 R114 | none | erasures in force -/
  erasures : List Erasure := []
  /-- list | 05 R115 | none | air times of calibration swaps -/
  calSwaps : List Nat := []
  /-- 32 bits | 05 R139, 0x4007:02 | 0 | blanked ticks by head -/
  blanked : Tab Nat := []
  /-- 32 bits | 05 Table 5.5, 0x4007:03 | 0 | erased samples by antenna -/
  erased : Tab Nat := []
  /-- 32 bits | 05 R118, 0x4007:04 | 0 | clipped samples by antenna -/
  clipped : Tab Nat := []
  /-- 32 bits | 05 R116, 0x4007:05 | 0 | saturated bin samples by antenna -/
  saturated : Tab Nat := []
  /-- list | 05 R146, 06 R174, 16 R423 | none | settings waiting for their bell -/
  staged : List Staged := []
  deriving DecidableEq, Repr

/-! ### Sweep and captures (06) -/

/-- A hit of the Sweep waiting for its suppression window (06 R149, R152). -/
structure Hit where
  /-- 1 bit | 06 R147 | - | preamble slot -/
  p : Nat
  /-- 3 bits | 05 R122 | - | bin group -/
  g : Nat
  /-- 9 bits | 06 Table 6.1 | - | lowest bin of the span -/
  bin : Nat
  /-- 3 bits | 06 Table 6.1 | - | log2 of M -/
  mcode : Nat
  /-- 5 bits | 06 Table 6.1 | - | beam -/
  beam : Nat
  /-- 64 bits | 06 R149 | - | PEAK_AT -/
  peakAt : Nat
  /-- ratio | 06 R148 | - | margin -/
  margin : Nat × Nat
  /-- I16 | 06 Table 6.1 | 0 | floor in use, 0.1 dBFS -/
  floor : Int := 0
  /-- 1 bit | 06 Table 6.1 | - | RAP -/
  rap : Bool
  /-- 1 bit | 06 R149 | - | STALE -/
  stale : Bool
  /-- count | 06 R152 | 0 | hits suppressed into it -/
  nbHits : Nat := 0
  /-- 64 bits | 06 R152 | - | segment: swaps and width changes of the group seen so far -/
  epoch : Nat := 0
  /-- 1 bit | 06 R152 | 0 | it became a detection, or was counted as suppressed -/
  done : Bool := false
  /-- 32 bits | 06 R155 | none | DSEQ of the detection it became -/
  dseq : Option Nat := none
  deriving DecidableEq, Repr

/-- Detection record (06 R155, Table 6.1). -/
structure Detection where
  /-- 32 bits | 06 Table 6.1 | - | DSEQ -/
  dseq : Nat
  /-- 64 bits | 06 Table 6.1 | - | PEAK_AT -/
  peakAt : Nat
  /-- 5 bits | 06 Table 6.1 | - | BEAM -/
  beam : Nat
  /-- 1 bit | 06 Table 6.1 | - | SLOT -/
  slot : Nat
  /-- 1 bit | 06 Table 6.1 | - | RAP -/
  rap : Bool
  /-- 1 bit | 06 Table 6.1 | - | STALE -/
  stale : Bool
  /-- 9 bits | 06 Table 6.1 | - | BIN -/
  bin : Nat
  /-- 3 bits | 06 Table 6.1 | - | MCODE -/
  mcode : Nat
  /-- 2 bits | 06 Table 6.1 | - | CLASS -/
  cls : Nat
  /-- 8 bits | 06 Table 6.1 | - | PROFILE -/
  profile : Nat
  /-- 16 bits | 06 Table 6.1 | - | MARGIN -/
  margin : Int
  /-- I16 | 06 Table 6.1 | - | FLOOR -/
  floor : Int
  /-- I16 | 06 Table 6.1 | - | LOOPGAIN -/
  loopGain : Int
  /-- 16 bits | 06 Table 6.1 | - | NBHITS -/
  nbHits : Nat
  /-- 16 bits | 06 Table 6.1 | 0xFFFF | CAPID -/
  capid : Nat := 0xFFFF
  /-- 8 bits | 06 Table 6.1 | 0 | OUTCOME: 0 pending, 1 granted, 2 refused -/
  outcome : Nat := 0
  /-- 8 bits | 06 Table 6.1 | 0 | CAUSE -/
  cause : Nat := 0
  /-- 32 bits | 06 Table 6.1 | 0 | ROUND -/
  round : Nat := 0
  /-- 4 bits | 06 R158, R18 | - | the model's own: VI that owned the group when the detection was raised -/
  vi : Nat := 0
  /-- 32 bits | 06 R157 | - | first round that ranks the request -/
  firstRound : Nat := 0
  /-- ratio | 06 R156 | - | margin as measured, by which requests rank -/
  measured : Nat × Nat := (0, 1)
  deriving DecidableEq, Repr

/-- A capture (06 R168, R172). -/
structure Capture where
  /-- 8 bits | 06 Table 6.4 | 0 FREE | STATE: 0 FREE, 1 WEIGHTS, 2 COMBINING, 3 CLOSING -/
  stage : Nat := 0
  /-- 8 bits | 06 Table 6.4 | 0 | ANT -/
  ant : Nat := 0
  /-- 64 bits | 06 Table 6.4 | 0 | GRANT_AT -/
  grantAt : Nat := 0
  /-- 8 bits | 06 Table 6.4 | 0 | REFRESH -/
  refresh : Nat := 0
  /-- record | 06 R155 | none | its detection -/
  det : Option Detection := none
  /-- count | 06 R166 | 0 | combined stream samples so far -/
  samples : Nat := 0
  /-- count | 06 R166 | none | combined sample count at the last recompute -/
  lastRecompute : Option Nat := none
  /-- 512 words | 07 R179 | 0 | combined-sample ring -/
  ring : Tab Nat := []
  /-- count | 07 R179 | 0 | blocks of 16 written, and of these released by profile code -/
  blocks : Nat := 0
  released : Nat := 0
  /-- 1 bit | 06 R170 | 0 | an antenna was excluded, or a combined sample drew on a flagged one -/
  rap : Bool := false
  /-- weights | 06 R164, R167 | none | w by antenna, in 2^-32 -/
  weights : Tab (Int × Int) := []
  /-- weights | 18 R456 | none | w of the branches combined, in 2^-32; none for one that is excluded -/
  branchW : List (Option (Int × Int)) := []
  /-- bits | 06 R164 | 0 | excluded antennas, bit a -/
  excluded : Nat := 0
  /-- frame | 07 | empty | decoded frame -/
  frame : FrameInfo := {}
  /-- 1 bit | 07 Table 7.4 check 1 | 0 | closed with a decoded frame -/
  closed : Bool := false
  /-- detail | 07 Table 7.10 | 0 | INCOMPLETE detail when forced to end -/
  forced : Nat := 0
  /-- 64 bits | 07 R183 | none | END_AT as predicted -/
  predicted : Option Nat := none
  /-- 64 bits | 07 R183 | 0 | END_AT of the closed capture -/
  endAt : Nat := 0
  /-- list | 07 R180, R184 | none | soft decisions behind the SFD -/
  soft : List Int := []
  /-- record | 07 R181 | none | the SFD search: not run, no position accepted, or the end position in 1/16 ticks after
  PEAK_AT and whether the frame is coded -/
  search : Option (Option (Int × Bool)) := none
  /-- 1 bit | 07 R188 | 0 | TAG and FCNT are committed -/
  tagDone : Bool := false
  /-- 64 bits | 07 R188 | none | slot and identity found by the early lookup, and whether the early counter check fails -/
  early : Option (Nat × Nat × Bool) := none
  /-- list | 08 R218 | none | slots whose re-key happened after the grant and may cover this capture -/
  covers : List Nat := []
  /-- 1 bit | 07 R198 | 0 | branches of other members combined -/
  stacked : Bool := false
  /-- 1 bit | 18 R458 | 0 | the home member judges the frame; its verdict is awaited -/
  forwarded : Bool := false
  deriving DecidableEq, Repr

structure SweepUnit where
  /-- list | 06 R152 | none | hits waiting -/
  hits : List Hit := []
  /-- count | 06 R152 | 0 | swaps and merge-width changes per group -/
  epochs : Tab Nat := []
  /-- 32 bits | 06 R151, 0x4010:06 | 0 (DESIGN CHOICE, log 1) | neighbour masks by 32g + k -/
  masks : Tab Nat := []
  /-- list | 06 R156 | none | open requests in order of DSEQ -/
  requests : List Detection := []
  /-- 65,536 records | 06 R155 | none | detection ring in DRAM -/
  ring : Tab (Option Detection) := []
  /-- count | 06 R155 | 0 | detections written since BOOT (newest index = count - 1 modulo 65,536) -/
  ringCount : Nat := 0
  /-- 32 bits | 00 R468 | 1 | next DSEQ -/
  nextDseq : Nat := 1
  /-- 32 bits | 00 R468, MRAM | 1 (nothing reserved yet) | end of the DSEQ block reserved in MRAM -/
  dseqReserved : Nat := 1
  /-- 4,096 captures | 06 R168 | FREE | captures -/
  captures : Tab Capture := []
  /-- 32 bits | 06 R156 | 0 | last admission round -/
  lastRound : Nat := 0
  /-- 1 bit | 06 R158, 03 Table 3.4 | 0 | ceiling forced to zero by the last gasp -/
  gaspZero : Bool := false
  /-- 32 bits | 06 Table 6.5, 0x4012:01 | 0 | detections by bin -/
  cDet : Tab Nat := []
  /-- 32 bits | 0x4012:02 | 0 | granted by bin -/
  cGrant : Tab Nat := []
  /-- 32 bits | 0x4012:03 | 0 | refused by bin -/
  cRefuse : Tab Nat := []
  /-- 32 bits | 0x4012:04 | 0 | refused by 8c + cause -/
  cCause : Tab Nat := []
  /-- 32 bits | 0x4012:05 | 0 | hits suppressed by bin -/
  cSuppress : Tab Nat := []
  /-- 32 bits | 0x4012:06 | 0 | captures ended by life limit by group -/
  cLife : Tab Nat := []
  /-- 64 bits each | 06 R173, 0x9053:01 | 0 | frame account by 16g + term: 0 detections, 1 refused, 3 granted, 5 + v verdicts of class v -/
  account : Tab Nat := []
  deriving DecidableEq, Repr

/-! ### Verdicts and their delivery (07) -/

/-- Verdict record (07 R196, Table 7.8). -/
structure Verdict where
  vseq : Nat
  dseq : Nat
  cls : VClass
  vi : Nat
  detail : Nat
  /-- 16 bits | 07 R198 Table 7.9 | - | FLAGS -/
  flags : Nat
  profile : Nat
  bin : Nat
  mcode : Nat
  capClass : Nat
  ant : Nat
  endAt : Nat
  identity : Nat
  slot : Nat
  fcnt : Nat
  charge : Nat
  credits : Nat
  margin : Int
  snr : Int
  cfo : Int
  latency : Nat
  len : Nat
  ftype : Nat
  refresh : Nat
  capid : Nat
  deriving DecidableEq, Repr

/-- A verdict held for delivery (07 R201; 03 R72). -/
structure Held where
  /-- 64 octets | 07 R196 | - | record -/
  record : Verdict
  /-- octets | 07 R191 | - | delivered octets -/
  octets : List Nat
  /-- 1 bit | 07 R201 | 0 | sent at least once -/
  sent : Bool := false
  deriving DecidableEq, Repr

structure VerdictUnit where
  /-- 32 bits per VI | 00 R468 | 1 | next VSEQ -/
  nextVseq : Tab Nat := []
  /-- 1 bit per VI | 00 R468 | 0 | VSEQ has continued at 1 after 0xFFFF_FFFE -/
  vseqWrapped : Tab Bool := []
  /-- 64 MiB ring per VI | 07 R201 | none | verdicts held, oldest first -/
  held : Tab (List Held) := []
  /-- 4 MiB MRAM ring | 03 R72 | none | verdict journal, oldest first -/
  journal : List Held := []
  /-- 32 bits | 07 Table 7.11, 0x4040:04 | 0 (DESIGN CHOICE, log 1) | acknowledged VSEQ by 4vi + c -/
  acked : Tab Nat := []
  /-- 32 bits | 07 R200 | 0 | next VSEQ to send by 4vi + c; 0 none -/
  cursor : Tab Nat := []
  /-- list | 07 R201 | none | discard notices still to send: VI, first, last -/
  notices : List (Nat × Nat × Nat) := []
  /-- 32 bits | 0x4030:01 | 0 | verdict counts by 256vi + 16v + d -/
  counts : Tab Nat := []
  /-- 32 bits | 0x4030:02 | 0 | LATE verdicts by VI -/
  late : Tab Nat := []
  /-- 32 bits | 0x4030:03 | 0 | CROWD verdicts by VI -/
  crowd : Tab Nat := []
  /-- list | 0x4030:05 | none | latencies of the last 1 s with the Caretaker time of each, newest first -/
  latencies : List (Nat × Nat) := []
  /-- 32 bits | 0x4030:06 | 0 | combined-ring overruns -/
  overruns : Nat := 0
  /-- 32 bits | 0x4040:06 | 0 | verdicts discarded by VI -/
  discarded : Tab Nat := []
  deriving DecidableEq, Repr
/-! ### The Roll (08) -/

/-- Roll entry (08 R203, Table 8.1). -/
structure Entry where
  /-- 64 bits | 08 Table 8.1 | 0 | IDENTITY -/
  identity : Nat := 0
  /-- 32 bits | 08 Table 8.1 | 0 | TAG -/
  tag : Nat := 0
  /-- 4 bits | 08 Table 8.2 | FREE | STATUS -/
  status : EStatus := .free
  /-- 4 bits | 08 Table 8.1 | 0 | VI -/
  vi : Nat := 0
  /-- 8 bits | 08 Table 8.1 | 0 | PROFILE -/
  profile : Nat := 0
  /-- 20 bits | 08 Table 8.1 | 0 | KEYH -/
  keyh : Nat := 0
  /-- 6 bits | 08 Table 8.1 | 0 | CMODEL -/
  cmodel : Nat := 0
  /-- 6 bits | 08 Table 8.1 | 0 | CPLAN -/
  cplan : Nat := 0
  /-- 32 bits | 08 Table 8.1 | 0 | UCNT -/
  ucnt : Nat := 0
  /-- 32 bits | 08 Table 8.1 | 0 | DCNT -/
  dcnt : Nat := 0
  /-- 64 bits | 08 Table 8.1 | 0 | LAST_AT -/
  lastAt : Nat := 0
  /-- 32 bits | 08 Table 8.1 | 0 | TOUCH -/
  touch : Nat := 0
  /-- 32 bits | 08 Table 8.1 | 0 | CHARGE -/
  charge : Nat := 0
  /-- 16 bits | 08 Table 8.1 | 0 | CHFRAC -/
  chfrac : Nat := 0
  /-- 16 bits | 08 Table 8.1 | 0 | CREDITS -/
  credits : Nat := 0
  /-- 16 bits | 08 Table 8.1 | 0 | HELD -/
  held : Nat := 0
  /-- 24 bits | 08 Table 8.1 | 0 | CRFRAC -/
  crfrac : Nat := 0
  /-- 5 bits | 08 Table 8.1 | 0 | SIGBEAM -/
  sigBeam : Nat := 0
  /-- 9 bits | 08 Table 8.1 | 0 | LASTBIN -/
  lastBin : Nat := 0
  /-- 3 bits | 08 Table 8.1 | 0 | LASTMCODE -/
  lastMcode : Nat := 0
  /-- 4 bits | 08 Table 8.1 | 0 | DEFER -/
  defer : Nat := 0
  /-- 16 bits | 08 Table 8.1 | 0 | MARGIN -/
  margin : Int := 0
  /-- 12 bits | 08 Table 8.1 | 0 | SIGHEADS -/
  sigHeads : Nat := 0
  /-- 16 bits | 08 Table 8.1 | 0 | GEN -/
  gen : Nat := 0
  /-- 1 bit | 08 Table 8.3 bit 0 | 0 | FRESH -/
  fresh : Bool := false
  /-- 1 bit | 08 Table 8.3 bit 1 | 0 | SIGSTORE -/
  sigStore : Bool := false
  /-- 1 bit | 08 Table 8.3 bit 2 | 0 | LOWCHARGE -/
  lowCharge : Bool := false
  /-- 1 bit | 08 Table 8.3 bit 3 | 0 | OVERDRAWN -/
  overdrawn : Bool := false
  /-- 1 bit | 08 Table 8.3 bit 5 | 0 | REKEYSHADOW -/
  rekeyShadow : Bool := false
  /-- 1 bit | 08 Table 8.3 bit 6 | 0 | MIGRATING -/
  migrating : Bool := false
  deriving DecidableEq, Repr

/-- Endpoint account record (08 R229, Table 8.8). -/
structure Account where
  /-- U48 | 08 Table 8.8 | 0 | INIT -/
  init : Nat := 0
  /-- I48 | 08 Table 8.8 | 0 | ADJ -/
  adj : Int := 0
  /-- U48 | 08 Table 8.8 | 0 | AIR -/
  air : Nat := 0
  /-- U48 | 08 Table 8.8 | 0 | RX -/
  rx : Nat := 0
  /-- U48 | 08 Table 8.8 | 0 | DL -/
  dl : Nat := 0
  /-- U48 | 08 Table 8.8 | 0 | SLEEP -/
  sleep : Nat := 0
  /-- U48 | 08 Table 8.8 | 0 | UNFUNDED -/
  unfunded : Nat := 0
  /-- U32 | 08 Table 8.8 | 0 | EARNED -/
  earned : Nat := 0
  /-- U32 | 08 Table 8.8 | 0 | GRANTED -/
  granted : Nat := 0
  /-- U32 | 08 Table 8.8 | 0 | XIN -/
  xin : Nat := 0
  /-- U32 | 08 Table 8.8 | 0 | FORFEIT -/
  forfeit : Nat := 0
  /-- U32 | 08 Table 8.8 | 0 | SPENT -/
  spent : Nat := 0
  /-- U32 | 08 Table 8.8 | 0 | XOUT -/
  xout : Nat := 0
  /-- U32 | 08 Table 8.8 | 0 | RESERVED -/
  reserved : Nat := 0
  /-- U32 | 08 Table 8.8 | 0 | REFUNDED -/
  refunded : Nat := 0
  /-- U16 | 08 Table 8.8 | 0 | GEN -/
  gen : Nat := 0
  deriving DecidableEq, Repr

/-- BODY of a Roll journal record (08 R226, Table 8.9). -/
inductive JBody where
  | state (e : Entry)
  | enrol (e : Entry) (charge : Nat)
  | retire (e : Entry)
  | account (part : Nat) (a : Account)
  | rekey (oldKeyh ucnt dcnt : Nat) (fresh : Bool) (newKeyh newDcnt : Nat)
  | clock (gap : Nat)
  deriving DecidableEq, Repr

/-- Roll journal record (08 R226, Table 8.9). -/
structure JRec where
  /-- 32 bits | 08 Table 8.9 | - | JSEQ -/
  jseq : Nat
  /-- 4 bits | 08 Table 8.9 | - | VI -/
  vi : Nat
  /-- 4 bits | 08 Table 8.9 | - | CAUSE -/
  cause : Nat
  /-- 16 bits | 08 Table 8.9 | - | GEN -/
  gen : Nat
  /-- 32 bits | 08 Table 8.9 | - | SLOT -/
  slot : Nat
  /-- 32 bits | 08 Table 8.9 | - | LCLK -/
  lclk : Nat
  /-- 44 octets | 08 Table 8.9 | - | KIND and BODY; the effect that the applier copies is the commit's whole one (log entry
  61) -/
  body : JBody
  /-- 32 bits | 08 Table 8.9 | - | CRC -/
  crc : Nat
  deriving DecidableEq, Repr

/-- What a staging-buffer record is (03 R69, R71). -/
inductive StagedItem where
  | roll (r : JRec)
  | verdict (h : Held)
  | conservation (kind data : Nat)
  /-- a term of the frame account (false) or of the downlink account (true), with its value -/
  | account (downlink : Bool) (key value : Nat)
  deriving DecidableEq, Repr

/-- A re-key shadow (08 R218). -/
structure Shadow where
  /-- 20 bits | 08 R218 | - | old key handle -/
  keyh : Nat
  /-- 32 bits | 08 R218 | - | old UCNT -/
  ucnt : Nat
  /-- 1 bit | 08 R218 | - | old FRESH -/
  fresh : Bool
  /-- list | 08 R218 | - | DSEQs of captures granted before the commit and not yet settled -/
  covered : List Nat
  deriving DecidableEq, Repr

/-- Terms of a VI's retired occupancies (08 R231). -/
structure Retired where
  /-- U64 each | 08 R231 | 0 | sums of the account records of retired occupancies -/
  sum : Account := {}
  /-- U64 | 08 R231 | 0 | RETURNED -/
  returned : Nat := 0
  /-- U64 | 08 R231 | 0 | RETCHARGE -/
  retCharge : Nat := 0
  deriving DecidableEq, Repr

structure RollUnit where
  /-- 262,144 entries of 64 octets | 08 R203 | FREE | Roll SRAM -/
  entries : Tab Entry := []
  /-- 262,144 entries | 08 R226, MRAM | FREE | Roll image -/
  image : Tab Entry := []
  /-- 262,144 records of 80 octets | 08 R229, MRAM | zeros | account records -/
  accounts : Tab Account := []
  /-- 768 octets per slot | 08 R206, DRAM | none | signature weights: by 192 x slot + antenna, Q1.15 pair -/
  signature : Tab Nat := []
  /-- at most 4,096 | 08 R218 | none | re-key shadows by slot -/
  shadows : Tab (Option Shadow) := []
  /-- list | 03 R69, always-on SRAM | none | staging buffer: class of R71 (0 to 5) and record, oldest first -/
  staging : List (Nat × StagedItem) := []
  /-- 8 MiB ring | 08 R226, MRAM | none | Roll journal records not yet in the image, oldest first -/
  backlog : List JRec := []
  /-- list | 03 R69, MRAM | none | conservation journal: kind and data, oldest first -/
  conservation : List (Nat × Nat) := []
  /-- 32 bits | 00 R468 | 1 | next JSEQ -/
  nextJseq : Nat := 1
  /-- 32 bits | 00 R468, 03 Table 3.5 JSEQ | 0 (none issued yet) | newest JSEQ issued -/
  newestJseq : Nat := 0
  /-- 32 bits | 08 Table 8.10, 0x6000:06 | 0 | tag placements refused -/
  placeRefused : Nat := 0
  /-- 32 bits per VI | 08 R231 | 0 | grant budget added -/
  budgetAdded : Tab Nat := []
  /-- 32 bits per VI | 08 R225, 0x6000:04 | 0 | grant budget left -/
  budgetLeft : Tab Nat := []
  /-- per VI | 08 R231 | 0 | retired terms -/
  retired : Tab Retired := []
  /-- 32 bits each | 08 R232, 0x9043:01 | 0 | by 8vi + term: 0 VIOLATIONS, 1 REFUSED_LOWER, 2 REKEYS, 3 REPLACEMENTS, 5 EXHAUSTED_EVER, 6 EXHAUSTED_CLEARED -/
  monotone : Tab Nat := []
  deriving DecidableEq, Repr

/-! ### Downlink (09) -/

/-- Request record (09 R265, Table 9.8). -/
structure ReqRec where
  rqid : Nat
  slot : Nat
  origin : Origin
  vi : Nat
  outcome : DlOutcome := .pending
  status : Status := .ok
  burst : BurstState := .none
  start : Nat := 0
  frac : Nat := 0
  heads : Nat := 0
  profile : Nat := 0
  cost : Nat := 0
  endAt : Nat := 0
  prev : Nat := 0xFFFFFFFF
  clamped : Bool := false
  headLost : Bool := false
  fallback : Bool := false
  mask : Bool := false
  dlpend : Bool := false
  level : Int := 0
  deriving DecidableEq, Repr

/-- A burst on the transmit timeline (09 R243 to R246). -/
structure Burst where
  /-- 32 bits | 09 R265 | - | RQID -/
  rqid : Nat
  /-- 32 bits | 09 R265 | - | roll slot; 0xFFFF_FFFF for REPLY -/
  slot : Nat
  /-- S in 1/16 tick | 09 R243 | - | start -/
  s16 : Nat
  /-- 12 bits | 09 R249 | - | transmit heads -/
  heads : Nat
  /-- ticks | 09 R257 | - | ramp time T_r -/
  ramp : Nat
  /-- ramp slot and spacing | 09 R246 | - | -/
  rampSlot : Nat
  spacing : Nat
  /-- count | 09 R243 | - | symbols -/
  symbols : Nat
  /-- 1/16 tick | 09 R243 | - | end of the last symbol -/
  symEnd16 : Nat
  /-- 1/16 tick | 09 R243 | - | end of the ramp-down -/
  end16 : Nat
  /-- ticks | 09 R262 | - | tokens taken from each transmit head -/
  tokens : Nat
  /-- 1 bit | 09 R265 | 0 | in the air -/
  inAir : Bool := false
  /-- 1/7,500,000 tick | 09 R244 | 0 | earliest t_s(h): its first ramp sample leaves the Shaper -/
  shaper : Int := 0
  /-- 1/7,500,000 tick each | 09 R244 | none | t_s(h) + L_sc of each transmit head: its first ramp sample reaches the cage -/
  starts : Tab Int := []
  /-- 4 bits | 09 R265 | 0 | owning VI -/
  vi : Nat := 0
  /-- credits | 08 R224, 09 R265 | 0 | held for it -/
  cost : Nat := 0
  /-- 12 bits | 09 R262 | 0 | heads whose buckets gave its tokens -/
  taken : Nat := 0
  /-- octets | 09 R242, R246 | none (not built) | the frame built, from the header on; a reply's octets -/
  frame : Option (List Nat) := none
  /-- 136 octets | 09 R251, R263 | 0 | coefficient set it is built with -/
  coef : Nat := 0
  /-- 66 octets | 09 R255 | 0 | ramp profile -/
  rampPoints : Nat := 0
  /-- 16 x 6 octets | 09 R259, R263 | none | mask it is judged by -/
  maskSegs : List Nat := []
  /-- ticks | 05 R139 | 0 | guard of its blanking, once in the air -/
  guard : Nat := 0
  /-- 1/16 tick, count | 09 R258 | none | a stop: its first descending sample, and the ramp points it descends -/
  stop : Option (Nat × Nat) := none
  /-- octets | 09 R237 | - | payload and MICL -/
  payload : List Nat := []
  micl : Bool := false
  dlpend : Bool := false
  /-- weights | 09 R250 | - | |v_a| x 10^(P/20) by antenna, in 2^-16 -/
  amps : Tab Nat := []
  /-- weights | 09 R250, R253 | - | v_a x 10^(P/20) by antenna, in 2^-32 -/
  drive : Tab (Int × Int) := []
  /-- weights | 09 R249, R250 | - | source weights of the transmit heads' antennas, Q1.15 pairs -/
  weights : Tab Nat := []
  /-- I16 each | 09 R253 | 0 | LEVEL of its coefficient set, and the lower of that and the channel power limits -/
  level : Int := 0
  top : Int := 0
  /-- 9 bits and 3 bits | 09 R247 | - | span: lowest bin, log2 of M -/
  bin : Nat := 0
  mcode : Nat := 0
  /-- I16 | 09 R247 | 0 | carrier offset of the verdict -/
  cfo : Int := 0
  /-- list | 18, 05 R139 | - | the profile -/
  profile : Nat := 0
  /-- 32 bits | 09 R248 | none | staged reply entry it answers -/
  replyIdx : Option Nat := none
  deriving DecidableEq, Repr

/-- A DEFERRED downlink request (09 R240, R241). -/
structure Deferred where
  rqid : Nat
  slot : Nat
  vi : Nat
  cost : Nat
  isAck : Bool
  payload : List Nat
  micl : Bool
  deriving DecidableEq, Repr

structure TxUnit where
  /-- 192 entries | 09 R250 | stored | transmit calibration -/
  cal : SwapTable := {}
  /-- 64 places | 09 R238 check 10 | none | bursts placed or in the air -/
  bursts : Tab (Option Burst) := []
  /-- 32 bits | 00 R468 | 1 | next RQID -/
  nextRqid : Nat := 1
  /-- 32 bits | 00 R468, MRAM | 1 (nothing reserved yet) | end of the RQID block reserved in MRAM -/
  rqidReserved : Nat := 1
  /-- 65,536 records | 09 R265, DRAM | none | request records by RQID modulo 65,536 -/
  records : Tab (Option ReqRec) := []
  /-- 32 bits per VI | 09 Table 9.9, 0x5040:02 | 0 (DESIGN CHOICE, log 1) | newest RQID of a VI since BOOT -/
  newest : Tab Nat := []
  /-- list | 09 R240, DRAM | none | DEFERRED requests, oldest first -/
  deferred : List Deferred := []
  /-- 2^-16 ticks per head | 09 R260 | 0 (empty) | duty tokens -/
  tokens : Tab Nat := []
  /-- 64 bits per head | 09 R260 | 0 | air time at which the bucket was last filled -/
  filledAt : Tab Nat := []
  /-- bursts | 09 R258, R259 | none | bursts ended or stopped not long ago, whose last samples a lane frame or a mask block may hold -/
  descents : List Burst := []
  /-- counts | 09 R259 | 0 | consecutive exceeded blocks by 16 x antenna + segment -/
  maskRun : Tab Nat := []
  /-- 64 bits | 09 R259 | none | number r of the block last judged -/
  maskLast : Option Nat := none
  /-- 32 bits | 0x5021:02 | 0 | blocks exceeded by segment -/
  maskBlocks : Tab Nat := []
  /-- 32 bits | 0x5021:03 | 0 | mask aborts -/
  maskAborts : Nat := 0
  /-- 64 bits each | 09 R266, 0x5041:01 | 0 | downlink account by 32vi + term: 0 new, 1 carried, 2 served, 3 deferred, 4 pending, 5 placed, 6 on_timeline, 8 + status code refused -/
  account : Tab Nat := []
  deriving DecidableEq, Repr

/-! ### Cipher engines and key store (10) -/

/-- An operation running on an engine (10 R271, R272). -/
structure CipherOp where
  /-- 4 bits | 10 Table 10.3 | - | OP -/
  op : Nat
  /-- 4 bits | 10 Table 10.3 | - | TLEN -/
  tlen : Nat
  /-- 1 bit | 10 Table 10.3 | - | EVT -/
  evt : Bool
  /-- octets | 10 R271 | - | output for DST -/
  out : List Nat
  /-- octets | 10 R271 | - | tag for TAGOUT -/
  tag : List Nat
  /-- 8 bits | 10 R271 | - | status at completion -/
  result : Status
  /-- 32 bits and octets | 09 R242, R246 | none | the placed burst that an OP 1 builds, and its header octets H0, H1 -/
  build : Option (Nat × List Nat) := none
  deriving DecidableEq, Repr

structure Engine where
  /-- 16 bits | 10 Table 10.2 PASS | 0 | hall pass owner -/
  pass : Nat := 0
  /-- 8 bits | 10 Table 10.2 STATUS | 0 | status of the last operation -/
  status : Status := .ok
  /-- bit 8 of STATUS | 10 R271 | none | operation running (BUSY) -/
  run : Option CipherOp := none
  /-- 32 bits | 10 Table 10.2 | 0 | KEYSEL -/
  keysel : Nat := 0
  /-- 32 bits | 10 Table 10.2 | 0 | LEN -/
  len : Nat := 0
  /-- 40 bits | 10 Table 10.2 | 0 | SRC -/
  src : Nat := 0
  /-- 40 bits | 10 Table 10.2 | 0 | DST -/
  dst : Nat := 0
  /-- 16 octets | 10 Table 10.2 | zeros | IV, first octet first -/
  iv : List Nat := []
  /-- 16 octets | 10 Table 10.2 | zeros | TAGOUT -/
  tagOut : List Nat := []
  /-- 32 bits | 10 Table 10.2 | 0 | EVTPORT -/
  evtPort : Nat := 0
  /-- 32 bits | 10 Table 10.2 | 0 | CNTUSED -/
  cntUsed : Nat := 0
  /-- 1 bit | 10 R276, 00 R6 | 0 | refused-write flag -/
  refusedWrite : Bool := false
  /-- 1 bit | 10 R277 | 0 | wipe running -/
  wiping : Bool := false
  /-- 1 bit | 10 Table 10.7 state 4 | 0 | fenced -/
  fenced : Bool := false
  /-- 32 bits | 10 Table 10.7, 0x7001:03 | 0 | forced releases -/
  forcedCount : Nat := 0
  /-- 1 bit | 10 R278 | 0 | CMD written since the pass was taken -/
  cmdWritten : Bool := false
  deriving DecidableEq, Repr

/-- A key-store slot (10 R280). -/
structure KeySlot where
  /-- state | 10 R280 | EMPTY | -/
  kstate : KeyState := .empty
  /-- 1 bit | 10 R282 | 0 | AES-256 -/
  wide : Bool := false
  /-- 32 octets | 10 R280 | wiped | key octets -/
  key : List Nat := []
  /-- 1 bit | 10 R272 | 0 | slot poisoned -/
  poison : Bool := false
  deriving DecidableEq, Repr

structure CipherUnit where
  /-- 8 engines | 10 R270 | reset engines | engines; 0 to 3 are held by the Marker (R187) -/
  engines : Tab Engine := []
  /-- 327,680 slots | 10 R280 | EMPTY, but VI 0's load and management key are set at manufacture | key store -/
  keys : Tab KeySlot := []
  /-- 32 bits per VI | 10 Table 10.7, 0x7012:01 | 0 | unwrap failures -/
  unwrapFails : Tab Nat := []
  deriving DecidableEq, Repr
/-! ### Prefect (11) -/

/-- A token (11 R289). -/
structure Token where
  /-- 16 bits | 11 R289 | - | flow key -/
  flow : Nat
  /-- 14 bits | 11 R289 | - | destination node -/
  dest : Nat
  /-- 64 bits | 11 R289 | - | argument -/
  arg : Nat
  /-- 16 bits | 11 R289 | 0xFFFF | buffer handle -/
  buf : Nat := 0xFFFF
  /-- node | 11 R287 JOIN | - | node the token comes from -/
  from_ : Nat := 0
  deriving DecidableEq, Repr

/-- Operation record (11 R292, Table 11.2). -/
structure OpRec where
  /-- 32 bits | 11 Table 11.2 | - | OPSEQ -/
  opseq : Nat
  /-- 14 bits | 11 Table 11.2 | - | NODE -/
  node : Nat
  /-- 4 bits | 11 Table 11.2 | - | LEVEL -/
  level : Nat
  /-- 3 bits | 11 Table 11.2 | READY | STATE -/
  stage : OpState := .ready
  /-- 6 bits | 11 Table 11.2 | - | CLASS -/
  cls : Nat
  /-- 16 bits | 11 Table 11.2 | - | FLOW -/
  flow : Nat
  /-- 16 bits | 11 Table 11.2 | 0xFFFF | BUF -/
  buf : Nat := 0xFFFF
  /-- 64 bits | 11 Table 11.2 | - | ARG -/
  arg : Nat
  /-- 6 bits | 11 Table 11.2 | 0 | LUNIT -/
  lunit : Nat := 0
  /-- 6 bits | 11 Table 11.2 | 0 | PUNIT -/
  punit : Nat := 0
  /-- 10 bits | 11 Table 11.2 | 0 | ORDPOS -/
  ordpos : Nat := 0
  /-- 8 bits | 11 Table 11.2 | 0 | EMITS -/
  emits : Nat := 0
  /-- list | 11 R301, R302 | empty | references to buffers the operation holds -/
  held : List Nat := []
  /-- list | 11 R297, R298 | none | tokens held until release, in emission order -/
  out : List Token := []
  deriving DecidableEq, Repr

/-- Decision trace record (11 R304, Table 11.6). -/
structure TraceRec where
  opseq : Nat
  kind : Nat
  level : Nat
  timeOk : Bool
  node : Nat
  unit : Nat
  flow : Nat
  time : Nat
  deriving DecidableEq, Repr

structure PrefectUnit where
  /-- 16,384 nodes | 11 R287 | empty | node table -/
  nodes : Tab (Option Node) := []
  /-- 1 bit per class | 11 R297, 0x8010:01 | 0 ATOMIC (package) | ORDERED -/
  ordered : Tab Bool := []
  /-- at most 65,536 | 11 R291 | none | operation records that are not FREE, in OPSEQ order -/
  ops : List OpRec := []
  /-- 32 bits | 11 Table 11.2 | 1 (DESIGN CHOICE, log 1) | next OPSEQ (0 means none in CUR_OPSEQ) -/
  nextOpseq : Nat := 1
  /-- 16 tokens per port | 11 R291 | empty | port FIFOs -/
  portFifo : Tab (List Token) := []
  /-- 16 tokens per tile | 11 R291 | empty | emitting tiles' FIFOs -/
  tileFifo : Tab (List Token) := []
  /-- list | 11 R287 | none | tokens held at JOIN inputs -/
  joins : List Token := []
  /-- 10 bits per class | 11 R298 | 0 | next ORDPOS -/
  nextOrd : Tab Nat := []
  /-- 16,384 counts | 11 R302 | 0 | frame buffer reference counts -/
  bufRefs : Tab Nat := []
  /-- 52 entries | 11 R303 Table 11.5 | identity map | PHYS of each logical unit -/
  phys : Tab Nat := []
  /-- 52 bits | 11 Table 11.5 | 0 | DRAIN -/
  drain : Tab Bool := []
  /-- 52 bits | 11 Table 11.5 VALID clear | 0 | logical unit without a physical unit in service -/
  invalid : Tab Bool := []
  /-- 1 bit | 00 R6 | 0 | refused-write flag of the dispatch map -/
  refusedWrite : Bool := false
  /-- unit identity per logical unit | 15 R404 | 0 none | fenced unit that the holder of PHYS stands in for -/
  standFor : Tab Nat := []
  /-- 32 bits | 0x8010:05 | 0 | dropped tokens by port; 256 + tile for tile FIFOs -/
  dropped : Tab Nat := []
  /-- 32 bits | 0x8010:06 | 0 | unbound tokens by port -/
  unbound : Tab Nat := []
  /-- 32 bits | 0x8010:07 | 0 | window blocks by class -/
  winBlocks : Tab Nat := []
  /-- 32 bits | 0x8020:03 | 0 | operations ended by drain by logical unit -/
  drainEnded : Tab Nat := []
  /-- DRAM ring | 11 R304 | empty | decision trace, newest first -/
  trace : List TraceRec := []
  /-- 32 bits | 0x8030:04 | 0 | trace records overwritten -/
  traceLost : Nat := 0
  /-- BLOCK cause last traced | 11 R304 | none | by OPSEQ -/
  blockSeen : Tab Nat := []
  /-- 64 bits each | 11 R305, 0x9050:01 | 0 | 0 rec_alloc, 1 rec_freed, 3 buf_alloc, 4 buf_freed, 6 tokens_in, 7 tokens_to_records, 9 dropped, 10 unbound -/
  account : Tab Nat := []
  /-- list | 15 R402 | none | logical tiles waiting for a substitute, oldest first: (l, 0), or (l, p + 1) once p is loaded -/
  subst : List (Nat × Nat) := []
  deriving DecidableEq, Repr

/-! ### Taica tiles (12) -/

/-- A CX operation in flight (12 R328). -/
structure CxOp where
  /-- 4 bits | 12 Table 12.8 | - | FN -/
  fn : Nat
  /-- 3 bits | 12 R327 | - | cd -/
  cd : Nat
  /-- 64 bits | 12 R327 | - | ca's value -/
  a : BitVec 64
  /-- 64 bits | 12 R327 | - | cb's value -/
  b : BitVec 64
  deriving DecidableEq, Repr

/-- One hardware loop (12 R324, Table 12.2). -/
structure HwLoop where
  /-- 32 bits | 12 Table 12.2 LSTART | 0 | first bundle -/
  start : Word := 0
  /-- 32 bits | 12 Table 12.2 LEND | 0 | last bundle -/
  end_ : Word := 0
  /-- 32 bits | 12 Table 12.2 LCNT | 0 | iterations left -/
  count : Word := 0
  /-- 1 bit | 12 Table 12.2 LCTL ACT | 0 | active -/
  act : Bool := false
  /-- 2 bits | 12 Table 12.2 LCTL ROT | 0 | rotation step code -/
  rot : BitVec 2 := 0
  deriving DecidableEq, Repr

structure Tile where
  /-- state | 12 Table 12.11, 0x8040:01 | reset | -/
  tstate : TileState := .reset
  /-- 32 x 32 bits | 12 R307 | 0 | s registers; s0 has no entry -/
  s : Tab Word := []
  /-- 8 x 32 bits | 12 R307 | 0 | p registers -/
  p : Tab Word := []
  /-- 8 x 32 bits | 12 R307 | 0 | m registers -/
  m : Tab Word := []
  /-- 32 x 128 bits | 12 R307 | 0 | physical v registers -/
  v : Tab Vec := []
  /-- 4 x 8 x 40 bits | 12 R307 | 0 | accumulator lanes by 8a + j, as signed numbers -/
  acc : Tab Int := []
  /-- 8 x 64 bits | 12 R307, R329 | 0 (DESIGN CHOICE, log 1; undefined at release: free values, log 5) | c registers -/
  c : Tab (BitVec 64) := []
  /-- 8 bits | 12 CSR 0x018 | 0xFF | ffm -/
  ffm : BitVec 8 := 0xFF
  /-- 5 bits | 12 CSR 0x019 | 31 | bexp -/
  bexp : Nat := 31
  /-- 32 bits | 12 R331, R334 | 0 | address of the next bundle -/
  pc : Word := 0
  /-- 1 bit | 12 Table 12.3 LEVEL | 0 Host | Task level -/
  task : Bool := false
  /-- 1 bit | 12 Table 12.3 PLEVEL | 0 | -/
  ptask : Bool := false
  /-- 1 bit | 12 Table 12.3 CXEH | 0 | -/
  cxeh : Bool := false
  /-- 1 bit | 12 Table 12.3 CXET | 0 | -/
  cxet : Bool := false
  /-- 1 bit | 12 Table 12.3 TGLOBAL | 0 | -/
  tglobal : Bool := false
  /-- 1 bit | 12 Table 12.3 ASAT | 0 | -/
  asat : Bool := false
  /-- 1 bit | 12 Table 12.3 VSAT | 0 | -/
  vsat : Bool := false
  /-- 32 bits | 12 CSR 0x001 | image | TVEC -/
  tvec : Word := 0
  /-- 32 bits | 12 CSR 0x002 | 0 | TCAUSE -/
  tcause : Word := 0
  /-- 32 bits | 12 CSR 0x003 | 0 | TPC -/
  tpc : Word := 0
  /-- 32 bits | 12 CSR 0x004 | 0 | TADDR -/
  taddr : Word := 0
  /-- 32 bits | 12 CSR 0x005 | 0 | TSTAT -/
  tstat : Word := 0
  /-- 32 bits | 12 CSR 0x008 | image | TBASE -/
  tbase : Word := 0
  /-- 32 bits | 12 CSR 0x009 | image | TLIMIT -/
  tlimit : Word := 0
  /-- 10 bits | 12 CSR 0x00A | image | GSEG -/
  gseg : Word := 0
  /-- loop | 12 CSR 0x010 to 0x012, 0x016 | 0 | L0 -/
  l0 : HwLoop := {}
  /-- loop | 12 CSR 0x013 to 0x015, 0x016 | 0 | L1 -/
  l1 : HwLoop := {}
  /-- 4 bits | 12 CSR 0x017 | 0 | RRB -/
  rrb : BitVec 4 := 0
  /-- list | 12 CSR 0x01A CXSB | none | CX operations in flight -/
  cx : List CxOp := []
  /-- 1 bit | 12 CSR 0x01A CXERR | 0 | -/
  cxerr : Bool := false
  /-- 64 bits | 12 CSR 0x020, 0x021 | 0 | bundles issued since load -/
  bundles : Nat := 0
  /-- 6 bits | 12 CSR 0x030 | 0x3F none | logical tile -/
  logical : Nat := 0x3F
  /-- 64 KiB | 12 R338 | image | instruction memory -/
  imem : List Host.Cell := []
  /-- 256 KiB | 12 R338 | image | data memory, by local address -/
  dmem : List Host.Cell := []
  /-- list | 12 R340, 15 R392 | none | local 64-bit words that are poisoned, by address / 8 -/
  poison : Tab Bool := []
  /-- count | 12 R339 | 0 | posted mesh stores outstanding, at most 8 -/
  posted : Nat := 0
  /-- 32 bits | 11 Table 11.4 CUR_OPSEQ | 0 | operation in service -/
  curOpseq : Nat := 0
  /-- 32 bits | 11 Table 11.4 EMIT_DST | 0 | -/
  emitDst : Word := 0
  /-- 16 bits | 11 Table 11.4 EMIT_BUF | 0xFFFF | -/
  emitBuf : Nat := 0xFFFF
  /-- 64 bits | 11 Table 11.4 EMIT_ARG | 0 | -/
  emitArg : Nat := 0
  /-- 8 bits | 11 Table 11.4 PSTATUS | OK | -/
  pstatus : Status := .ok
  /-- 1 bit | 11 Table 11.4 HOSTCTL.ACCEPT | 0 | -/
  accept : Bool := false
  /-- 1 bit | 12 R332 | 0 | the tile executes WAITOP and waits; sd in waitSd -/
  waiting : Bool := false
  /-- 5 bits | 12 R332 | 0 | sd of the waiting WAITOP -/
  waitSd : Nat := 0
  /-- 1 bit | 12 R332 | 0 | DONE has been written for the operation in service -/
  done : Bool := false
  /-- 32 bits | 0x8040:02 | 0 | traps by code -/
  traps : Tab Nat := []
  /-- 128 bits | 0x8040:03 | zeros | TCAUSE, TPC, TADDR and TSTAT of the last trap -/
  lastTrap : Nat := 0
  /-- image | 12 R341 | empty | the image loaded last: a wake or a substitution loads it again -/
  image : Image := {}
  /-- 48 bits | 0x8040:04 | 0 | bundles issued since BOOT -/
  bundlesAll : Nat := 0
  /-- 32 bits | 0x8040:05 | 0 | posted store failures -/
  storeFails : Nat := 0
  /-- 32 bits | 0x8040:06 | 0 | corrected ECC errors -/
  corrected : Nat := 0
  deriving DecidableEq, Repr

/-! ### Movers and mesh (13) -/

/-- A Mover descriptor as read at its start (13 R363, Table 13.7). -/
structure Desc where
  index : Nat
  addr : Nat
  kind : Nat
  idx32 : Bool
  scale : Nat
  esize : Nat
  nelem : Nat
  src : Nat
  dst : Nat
  idx : Nat
  /-- 256 bits | 13 R366 | - | the descriptor as read -/
  raw : Nat
  /-- 8 bits | 13 R367 | OK | CLASS when it ends BAD -/
  cls : Status := .ok
  /-- 32 bits | 13 R367 | 0 | FAILIDX -/
  failIdx : Nat := 0
  /-- 1 bit | 13 R367 | false | the failing response answered a write -/
  failWrite : Bool := false
  deriving DecidableEq, Repr

structure Channel where
  /-- 1 bit | 13 Table 13.6 CTRL.ENABLE | 0 | -/
  enable : Bool := false
  /-- 3 bits | 13 Table 13.6 CTRL.EVKIND | 0 | -/
  evkind : Nat := 0
  /-- 6 bits | 13 Table 13.6 CTRL.EVSRC | 0 | -/
  evsrc : Nat := 0
  /-- 1 bit | 13 Table 13.6 CTRL.PORTEN | 0 | -/
  porten : Bool := false
  /-- 40 bits | 13 Table 13.6 RINGLO, RINGHI | 0 | ring base -/
  ring : Nat := 0
  /-- 32 bits | 13 Table 13.6 RINGSIZE | 1 | -/
  ringSize : Nat := 1
  /-- 32 bits | 13 Table 13.6 NEXT | 0 | -/
  next : Nat := 0
  /-- 8 bits | 13 Table 13.6 PENDING | 0 | -/
  pending : Nat := 0
  /-- 32 bits | 13 Table 13.6 STARTED | 0 | -/
  started : Nat := 0
  /-- 32 bits | 13 Table 13.6 GOOD | 0 | -/
  good : Nat := 0
  /-- 32 bits | 13 Table 13.6 BADCNT | 0 | -/
  bad : Nat := 0
  /-- 32 bits | 13 Table 13.6 OVERRUN | 0 | -/
  overrun : Nat := 0
  /-- 6 bits | 13 Table 13.6 OWNER | 0x3F | -/
  owner : Nat := 0x3F
  /-- 1 bit | 13 Table 13.6 STATE 2 | 0 | waits for READY -/
  waitReady : Bool := false
  /-- descriptor | 13 Table 13.6 STATE 3 | none | running descriptor -/
  run : Option Desc := none
  /-- 1 bit | 13 R361, 00 R6 | 0 | refused-write flag -/
  refusedWrite : Bool := false
  deriving DecidableEq, Repr

/-- A response on its way (13 R347). -/
structure Resp where
  init : Nat
  tid : Nat
  addr : Nat
  len : Nat
  isRead : Bool
  status : Status
  data : List (BitVec 8) := []
  deriving DecidableEq, Repr

structure MeshUnit where
  /-- 40-bit space | 13 R344, R345 | 0 (log 3) | bytes of frame buffers, MRAM, flash and DRAM by global address -/
  mem : List Host.Cell := []
  /-- list | 15 R392 | none | poisoned 64-bit words by global address / 8 -/
  poison : Tab Bool := []
  /-- list | 13 R347 | none | responses not yet delivered -/
  responses : List Resp := []
  /-- at most 256 per initiator | 13 R352 | none | outstanding requests: (INIT, TID, isRead) -/
  outstanding : List (Nat × Nat × Bool) := []
  /-- list | 13 R353 | none | quarantined (INIT, TID) -/
  quarantine : List (Nat × Nat) := []
  /-- 8 bits | 13 Table 13.8, 0x8060:04 | 0xFF | failed column -/
  failedColumn : Nat := 0xFF
  /-- 32 bits | 0x8060:05 | 0 | timeouts by node -/
  timeouts : Tab Nat := []
  /-- 32 bits | 0x8060:06 | 0 | late responses discarded by node -/
  late : Tab Nat := []
  /-- 32 bits | 0x8060:07 | 0 | link errors corrected by router -/
  linkErrors : Tab Nat := []
  /-- 32 bits | 0x8060:08 | 0 | packets discarded by router -/
  discards : Tab Nat := []
  /-- 64 bits each | 13 R357, 0x9052:01 | 0 | sent, returned, retired (in_flight is the difference) -/
  sent : Nat := 0
  /-- 64 bits | 13 R357 | 0 | returned -/
  returned : Nat := 0
  /-- 64 bits | 13 R357 | 0 | retired -/
  retired : Nat := 0
  /-- 64 bits | 13 Table 13.8, 0x8061:02 | 0 | probe counts -/
  probeCount : Tab Nat := []
  /-- 4,096 entries | 13 R359, DRAM | empty | trace: header flit, time with TIMEOK, probe; newest last -/
  trace : List (Nat × Nat × Nat) := []
  /-- 32 bits | 0x8061:05 | 0 | trace entries written -/
  traceWritten : Nat := 0
  /-- 64 channels | 13 R360 | reset channels | Mover channels -/
  channels : Tab Channel := []
  deriving DecidableEq, Repr

/-! ### Pace and power domains (14) -/

structure Island where
  /-- mV | 14 R383, 0x2040:04 | 850 (log 6) | supply -/
  supply : Nat := 850
  /-- 1/16 cycle per tick | 14 R382, 0x2040:03 | 0 (DESIGN CHOICE, log 1) | measured pace -/
  measured : Nat := 0
  /-- 1/16 cycle per tick | 14 R381, 0x2040:02 | 0 (DESIGN CHOICE, log 1) | required pace -/
  required : Nat := 0
  /-- counts | 14 Table 14.5 | 0 | consecutive windows: below target at 0.85 V -/
  lowRun : Nat := 0
  /-- count | 14 Table 14.5 rule 4 | 0 | consecutive windows at or above required x 1.05 -/
  reqRun : Nat := 0
  /-- count | 14 Table 14.5 rule 5 | 0 | consecutive windows at or above target x 1.05 -/
  highRun : Nat := 0
  /-- count | 14 Table 14.5 rule 6 | 0 | consecutive windows at or above target -/
  okRun : Nat := 0
  /-- count | 14 Table 14.5 rule 7 | 0 | consecutive windows above target x 1.06 -/
  fastRun : Nat := 0
  /-- list | 14 Table 14.5 | none | levels shed, most recent first -/
  shed : List Nat := []
  /-- 1 bit | 14 Table 14.5 | 0 | PACE -/
  pace : Bool := false
  /-- 1 bit | 14 Table 14.5 | 0 | ADMIT0 -/
  admit0 : Bool := false
  /-- 32 bits | 0x2040:06 | 0 | windows below target -/
  below : Nat := 0
  /-- 1 bit | 15 R400 | 0 | the regulator cannot reach the supply set -/
  regFault : Bool := false
  deriving DecidableEq, Repr

structure Domain where
  /-- 1 bit | 14 Table 14.7 bit 0 | 0 | vote PREFECT -/
  vPrefect : Bool := false
  /-- 1 bit | 14 Table 14.7 bit 1 | 0 | vote MOVERS -/
  vMovers : Bool := false
  /-- 1 bit | 14 Table 14.7 bit 2 | 1 | vote OFFICE -/
  vOffice : Bool := true
  /-- 1 bit | 14 Table 14.7 bit 3 | 1 | vote CARETAKER -/
  vCaretaker : Bool := true
  /-- 1 bit | 14 Table 14.7 bit 4 | 1 | vote SELF -/
  vSelf : Bool := true
  /-- 2 bits | 14 Table 14.7 | 1 RECESS | IDLE -/
  idle : Nat := 1
  /-- 2 bits | 14 Table 14.7 | RUN | STATE -/
  dstate : DomState := .run
  /-- 2 bits | 14 Table 14.7 | OPEN | PORT -/
  port : PortState := .opened
  /-- 1 bit | 14 R386 | 0 | the idle delay is running -/
  delay : Bool := false
  /-- 1 bit | 14 R387 | 0 | a wake is due once the entry completes -/
  wake : Bool := false
  /-- 32 bits | 0x2050:03 | 0 | entries -/
  entries : Nat := 0
  /-- 32 bits | 0x2050:04 | 0 | ASLEEP answers -/
  asleep : Nat := 0
  /-- 32 bits | 0x2050:05 | 0 | posted writes dropped -/
  dropped : Nat := 0
  /-- saved list of Table 14.8 | 14 R386 | none | TVEC, TBASE, TLIMIT, GSEG, STATUS 4:2, HOSTCTL of a tile -/
  saved : Option (List Nat) := none
  deriving DecidableEq, Repr

structure PaceUnit where
  /-- 19 islands | 14 R381 | reset islands | -/
  islands : Tab Island := []
  /-- 65 domains | 14 R385 | reset domains | -/
  domains : Tab Domain := []
  deriving DecidableEq, Repr

/-! ### Faults (15) -/

/-- Error record (15 R396, Table 15.3). -/
structure ErrRec where
  eseq : Nat
  time : Nat
  timeOk : Bool
  unit : Nat
  code : ErrCode
  severity : Severity
  /-- 2 bits | 15 Table 15.3 | 0 open | STATE: 0 open, 1 handled, 2 escalated -/
  handled : Nat := 0
  status : Status := .ok
  parent : Nat := 0xFFFFFFFF
  addr : Nat := 0
  detail : Nat := 0
  deriving DecidableEq, Repr

/-- Detention list entry (15 R406, Table 15.6). -/
inductive Detained where
  | unit (unit ref : Nat)
  | desc (channel ref : Nat) (cls : Status) (failIdx : Nat)
  deriving DecidableEq, Repr

/-- Report card (15 R407, Table 15.7). -/
structure Card where
  /-- 8 bits | 15 Table 15.7 | 0 in service | STATE -/
  cstate : Nat := 0
  /-- 8 bits | 15 Table 15.7 | 0 good | GRADE -/
  grade : Nat := 0
  /-- 32 bits | 15 Table 15.7 | 0 | HOURS -/
  hours : Nat := 0
  /-- 32 bits | 15 Table 15.7 | 0 | CORR -/
  corr : Nat := 0
  /-- 32 bits | 15 Table 15.7 | 0 | UNCORR -/
  uncorr : Nat := 0
  /-- 16 bits | 15 Table 15.7 | 0 | FENCES -/
  fences : Nat := 0
  /-- 16 bits | 15 Table 15.7 | 0 | EVENTS -/
  events : Nat := 0
  /-- I16 | 15 Table 15.7 | 0 | AGEMV -/
  ageMv : Int := 0
  /-- I16 | 15 Table 15.7 | 0 | SLACK -/
  slack : Int := 0
  /-- 32 bits | 15 Table 15.7 | 0xFFFF_FFFF | LASTFAULT -/
  lastFault : Nat := 0xFFFFFFFF
  /-- 16 bits | 15 Table 15.7 | 0 | LIFEUSED -/
  lifeUsed : Nat := 0
  /-- 24 counts | 17 Table 17.6, 0x9010:02 | none | corrections of each of the last 24 hours, newest first; 0x9010:02 is their sum -/
  corrHours : List Nat := []
  /-- 64 bits each | 15 Table 15.5 | none | Caretaker us of the ECC_RATE records of the last 7 days -/
  rateAt : List Nat := []
  /-- count | 15 R408 | 0 | consecutive days at 0.85 V below 55 C -/
  days : Nat := 0
  /-- 0.1 % | 15 Table 15.7 SLACK | none | lowest slack of the hour under way, and of each of the last 24 hours, newest first -/
  slackNow : Option Int := none
  slackHours : List (Option Int) := []
  /-- 1 bit each | 15 R408 | 0 | this day had a window below 55 C, and one of these in which the island needed 0.85 V -/
  cool : Bool := false
  need : Bool := false
  deriving DecidableEq, Repr

structure FaultUnit where
  /-- 64 records | 15 R396, MRAM mirror | empty | error queue, oldest first -/
  queue : List ErrRec := []
  /-- 32 bits | 00 R468 | 1 | next ESEQ -/
  nextEseq : Nat := 1
  /-- 32 bits | 0x9000:03 | 0 | newest ESEQ -/
  newest : Nat := 0
  /-- 32 bits | 0x9000:05, persists | 0 | records not stored -/
  notStored : Nat := 0
  /-- 32 bits | 15 R412 | 0 | 0x9000:05 at the last acknowledgement -/
  notStoredAck : Nat := 0
  /-- 32 bits | 0x9000:06, persists | 0 | last ESEQ acknowledged -/
  lastAck : Nat := 0
  /-- list | 15 R55 (02), R400 | none | ESEQs of SAFE-causing records not yet acknowledged -/
  safeCause : List Nat := []
  /-- 256 entries | 15 R406, fenced units persist | empty | detention list, oldest first -/
  detention : List Detained := []
  /-- 32 bits | 0x9020:05 | 0 | bad-descriptor entries overwritten -/
  overwritten : Nat := 0
  /-- 16 bits | 0x9020:03 | 0xFFFF | last released unit -/
  released : Nat := 0xFFFF
  /-- report cards by unit identity | 15 R407, MRAM | fresh cards | -/
  cards : Tab Card := []
  /-- 0 to 23 | 15 R407, R408 | 0 | hourly updates since the day began -/
  hour : Nat := 0
  /-- 1 bit | 15 R411 | 0 de-energised | MAJOR relay energised -/
  major : Bool := false
  /-- 1 bit | 15 R411 | 0 de-energised | MINOR relay energised -/
  minor : Bool := false
  /-- 8 bits | 0x9030:02 | 0 | relay test seconds left -/
  relayTest : Nat := 0
  /-- 32 bits | 0x9030:03 | 0 | poison cleared by full writes -/
  poisonCleared : Nat := 0
  /-- 1 bit per account | 0x9061:01 bit 0 | 0 | UNSEALED -/
  unsealed : Tab Bool := []
  /-- 1 bit per account | 0x9061:01 bit 1 | 0 | UNVERIFIED -/
  unverified : Tab Bool := []
  /-- 2 x 32 bits per account | 0x9061:02 | zeros | lost journal range, first x 2^32 + last -/
  lost : Tab Nat := []
  /-- state | 17 Table 17.8 | starting (DESIGN CHOICE, log 1) | Office pair A -/
  officeA : OfficeState := .starting
  /-- state | 17 Table 17.8 | starting (DESIGN CHOICE, log 1) | Office pair B -/
  officeB : OfficeState := .starting
  /-- 64 bits each | 15 R403 | 0 | 1 + Caretaker us of the latest fence of an Office pair; key 2 + p: 1 if it came within 24 h of the one before -/
  officeTwice : Tab Nat := []
  /-- 1 bit | 15 R400 | 0 | Caretaker fault: no further escalation while SAFE -/
  dramFenced : Bool := false
  deriving DecidableEq, Repr

/-! ### Management (16, 17) -/

/-- Transaction journal record (16 R425, Table 16.5). -/
structure TxRec where
  tseq : Nat
  /-- 8 bits | 16 Table 16.5 | - | KIND: 1 write group, 2 mode transition, 3 update stage -/
  kind : Nat
  vi : Nat
  /-- 4 bits | 16 Table 16.5 | - | STATE: 0 OPEN, 1 APPLIED, 2 NOT_APPLIED, 3 PARTIAL -/
  gstate : Nat
  items : Nat := 0
  done : Nat := 0
  failStat : Status := .ok
  failItem : Nat := 0xFF
  cnt : Nat := 0
  time : Nat := 0
  timeOk : Bool := false
  token : Nat := 0
  detail : Nat := 0
  deriving DecidableEq, Repr

/-- A firmware image or package in update (16 R428, R429). -/
structure Update where
  /-- 8 bits | 16 Table 16.6 | 0 idle | state -/
  ustate : UpdState := .idle
  /-- octets | 16 R428 | none | staged chunks by offset: (length, octets) -/
  chunks : Tab (Nat × Nat) := []
  /-- 32 bits | 16 Table 16.6, 0x8080:02 (07) | 0 | version installed -/
  version : Nat := 0
  /-- 1 bit | 16 R430 | 0 | the package was installed before the ACTIVATE -/
  wasInstalled : Bool := false
  /-- list | 16 R429 | none | logical tiles of the pool still to rotate -/
  toRotate : List Nat := []
  /-- list | 16 R430 | none | logical tiles already on the new image -/
  rotated : List Nat := []
  /-- 1 bit | 16 R430 | 0 | a rotation back is running -/
  back : Bool := false
  /-- contents | 16 R429, 07 Table 7.11 (0x4020:04), 01 R25, 11 R287 | empty | the package installed -/
  inst : Package := {}
  /-- contents | 16 R429 | empty | the package found in the staged chunks at VERIFY -/
  staged : Package := {}
  deriving DecidableEq, Repr

structure MolfenUnit where
  /-- U48 per VI | 16 R415, always-on and MRAM | 0 | highest accepted station CNT -/
  rxCnt : Tab Nat := []
  /-- 64 bits per VI | 16 R415 | 0 | bit k: CNT highest - k accepted (k from 0 to 63) -/
  rxWindow : Tab Nat := []
  /-- U48 per VI | 16 R415 | 0 | module CNT last sent -/
  txCnt : Tab Nat := []
  /-- U48 per VI | 16 R415, MRAM | 0 | end of the block of 1,024 reserved -/
  txReserved : Tab Nat := []
  /-- 32 bits | 0x1040:01 | 0 | messages accepted by VI -/
  accepted : Tab Nat := []
  /-- 32 bits | 0x1040:02 | 0 | messages discarded by VI -/
  discarded : Tab Nat := []
  /-- 32 bits | 0x1040:04 | 0 | VACKs ignored by VI -/
  vackIgnored : Tab Nat := []
  /-- list | 16 R421, R417 check 5 | none | elements written by groups open on VIs: (vi, settings key) -/
  openGroups : List (Nat × Nat) := []
  /-- 16,384 records | 16 R425, MRAM | none | transaction journal by TSEQ modulo 16,384 -/
  journal : Tab (Option TxRec) := []
  /-- 32 bits | 00 R468 | 1 | next TSEQ -/
  nextTseq : Nat := 1
  /-- 32 bits | 0x9060:02 | 0 (DESIGN CHOICE, log 1) | newest TSEQ -/
  newestTseq : Nat := 0
  /-- 32 bits | 0x1030:02 | 0 | RS-485 frames discarded -/
  serviceDiscards : Nat := 0
  /-- addresses | 16 R432 | none | address changes waiting 5 s: (lane, address) -/
  addrPending : List (Nat × Nat) := []
  /-- address in force per Ethernet lane | 16 R432, 0x1020:01 | zeros | -/
  addr : Tab Nat := []
  /-- 1 bit per Ethernet lane | 16 R432 | 0 | link up -/
  linkUp : Tab Bool := []
  /-- firmware | 16 R428 | idle | -/
  firmware : Update := {}
  /-- 1 bit | 16 R428, 0x8070:05 | 0 bank A | running bank -/
  bank : Nat := 0
  /-- 1 bit | 02 R46, MRAM | 0 bank A | bank named by the image-selection record -/
  selected : Nat := 0
  /-- version of each bank | 17 R442, 0x1000:06, 07 | 0x01000000 (log 7) | -/
  versions : Tab Nat := []
  /-- packages by profile identifier | 16 R429 | idle | -/
  packages : Tab Update := []
  /-- 8 bits | 17 R442, 0x1000:05 | 1 (-S; DESIGN CHOICE, log 7) | profile licence -/
  licence : Nat := 1
  /-- list | 16 R421 | none | datagrams that reached a port and wait for the Office or the Caretaker, oldest first -/
  inbox : List Datagram := []
  /-- list | 16 R422 FIRST, 0x1001:81 | none | VIs that hold a site label other than the default, earliest first -/
  labelOrder : List Nat := []
  /-- 32 bits | 0xF000:04 | 0 | emergency requests answered -/
  emergAnswered : Nat := 0
  /-- 32 bits | 0xF000:05 | 0 | emergency requests refused -/
  emergRefused : Nat := 0
  deriving DecidableEq, Repr

/-! ### Stack (18) -/

/-- One transfer of an entry (18 R459). -/
structure Xfer where
  /-- 8 bits | 18 Table 18.4, 0xA020:02 | none | state -/
  xstate : XferState := .none
  /-- 1 bit | 18 R459 | 0 | this member receives -/
  receiver : Bool := false
  /-- position of the other member | 18 R459 | 0 | -/
  peer : Nat := 0
  /-- 32 bits | 18 R459 | 0 | slot at the other member -/
  otherSlot : Nat := 0
  /-- 20 bits | 18 R459 | 0 | KEYH at the receiver -/
  keyh : Nat := 0
  /-- 4 bits | 18 Table 18.3 step 2 | 0 | VI of the entry -/
  vi : Nat := 0
  /-- 1 bit | 18 Table 18.3 step 1 | 0 | PREPARE waits until no attempt of the entry is pending -/
  waiting : Bool := false
  /-- 64 bits | 18 R459 | 0 | AT_k -/
  atK : Nat := 0
  /-- entry | 18 R459 | none | final entry of the COMMIT -/
  entry : Option Entry := none
  deriving DecidableEq, Repr

/-- A branch this member sends to a capture of another (18 R455). -/
structure Sending where
  /-- 8 bits | 18 Table 18.1 | - | owner -/
  owner : Nat
  /-- 16 bits | 18 Table 18.1 | - | CAPID -/
  capid : Nat
  /-- list | 18 Table 18.1 | - | ring positions, M of them -/
  positions : List Nat
  /-- 16 bits | 18 Table 18.1 | - | bin -/
  bin : Nat
  /-- 8 bits | 18 Table 18.1 | - | MCODE -/
  mcode : Nat
  /-- weights | 06 R164 | - | w by antenna, in 2^-32 -/
  weights : Tab (Int × Int)
  deriving DecidableEq, Repr

structure StackUnit where
  /-- 8 bits | 18 R463, 0xA000:01 | 0xFF alone | position -/
  position : Nat := 0xFF
  /-- 8 bits | 18 R463, 0xA000:02 | 0 | members -/
  members : Nat := 0
  /-- 8 bits | 18 R463, 0xA000:04 | 0 | head -/
  head : Nat := 0
  /-- 8 octets | 18 R463, 0xA000:05 | 1, 2, ... 7, 0 | deputy order -/
  deputies : List Nat := [1, 2, 3, 4, 5, 6, 7, 0]
  /-- 8 bits | 18 R463, 0xA000:06 | 0 | functions -/
  functions : Nat := 0
  /-- 1 bit | 18 R450 | 0 | JOINING: another member reports the same position -/
  joining : Bool := false
  /-- 32 bits | 18 R463, 0xA000:07 | 0 | head losses -/
  headLosses : Nat := 0
  /-- 1 bit | 18 R461 | 0 | a BEAT from the head has been received -/
  beatSeen : Bool := false
  /-- 64 bits | 18 R453 | 0 | epoch of the last BEAT -/
  epoch : Nat := 0
  /-- 8 bits | 18 R461 | 0xFF | head lost last, whose unanswered DIRUPDs are answered REFUSED -/
  lostHead : Nat := 0xFF
  /-- bits | 18 R462 | 0 | members drained, bit p -/
  drained : Nat := 0
  /-- bits | 18 R450, R461 | 0 | members present (their messages arrived), bit p -/
  present : Nat := 0
  /-- head, deputies, AT | 18 R450 | none | HEADSET waiting for its effective AT -/
  headset : Option (Nat × List Nat × Nat) := none
  /-- directory | 18 R457, DRAM | none | home position by tag -/
  directory : Tab (Option Nat) := []
  /-- 32 bits | 18 Table 18.1 | 0 (DESIGN CHOICE, log 1) | sequence of the next DIRUPD this member sends -/
  nextDir : Nat := 0
  /-- list | 18 R457 | none | DIRUPDs broadcast by the head and not yet acknowledged by all: tag, home, sequence, acknowledgements missing, source -/
  dirPending : List (Nat × Nat × Nat × Nat × Nat) := []
  /-- I16 x 512 | 05 R135, 18 R456 | 0 | fixed gains received in GAINS by bin -/
  gains : Tab Int := []
  /-- lists | 18 R455 | none | branch assignments: (owner, CAPID, positions) -/
  branches : List (Nat × Nat × List Nat) := []
  /-- 32 bits each | 18 R451 | 0 | branch words received last, by 4,096 where they travel east, and position -/
  words : Tab Nat := []
  /-- records | 18 R455 | none | captures of other members this member sends a branch of -/
  sending : List Sending := []
  /-- 32 bits | 18 R463, 0xA040:02 | 0 | branches not assigned -/
  notAssigned : Nat := 0
  /-- transfers by slot | 18 R459 | none | -/
  xfers : Tab Xfer := []
  deriving DecidableEq, Repr

/-! ### The whole machine -/

/-- The snapshot taken at a bell boundary (01 R30; 08 R233; 16 R419): the parts of the module that counters,
accounts and Roll objects are read from. -/
structure Snap where
  /-- copy | 01 R30 | as settings | settings at the snapshot -/
  settings : Tab Nat := []
  /-- copy | 01 R30, 08 R219, 14 Table 14.3 | as time | ledger clock and time counters at the snapshot -/
  time : TimeUnit := {}
  /-- copy | 01 R30, 14 Table 14.3 | as fault | fault counters at the snapshot -/
  fault : FaultUnit := {}
  /-- copy | 01 R30 | as power | mains counters at the snapshot -/
  power : PowerUnit := {}
  /-- copy | 01 R30 | as lane | lane counters at the snapshot -/
  lane : LaneUnit := {}
  /-- copy | 01 R30 | as rx | receive-chain counters at the snapshot -/
  rx : RxUnit := {}
  /-- copy | 01 R30 | as sweep | frame account and counters at the snapshot -/
  sweep : SweepUnit := {}
  /-- copy | 01 R30 | as verdict | verdict counters at the snapshot -/
  verdict : VerdictUnit := {}
  /-- copy | 01 R30, 08 R233 | as roll | Roll and its accounts at the snapshot -/
  roll : RollUnit := {}
  /-- copy | 01 R30 | as tx | downlink account at the snapshot -/
  tx : TxUnit := {}
  /-- copy | 01 R30 | as cipher | cipher counters at the snapshot -/
  cipher : CipherUnit := {}
  /-- copy | 01 R30 | as prefect | buffer pool account at the snapshot -/
  prefect : PrefectUnit := {}
  /-- copy | 01 R30 | as tiles | tile counters at the snapshot -/
  tiles : Tab Tile := []
  /-- copy | 01 R30 | as mesh | mesh credit audit and Mover accounts at the snapshot -/
  mesh : MeshUnit := {}
  /-- copy | 01 R30 | as pace | domain and island counters at the snapshot -/
  pace : PaceUnit := {}
  /-- copy | 01 R30 | as molfen | message counters at the snapshot -/
  molfen : MolfenUnit := {}
  /-- copy | 01 R30 | as stack | stack counters at the snapshot -/
  stack : StackUnit := {}
  deriving DecidableEq, Repr

/-- What MRAM and the always-on memory hold at the start of a BOOT: restored when mains is lost before step 7 (02 R48:
nothing is written). -/
structure Saved where
  /-- copy | 02 R48 | as mode | the escalation and the transition that wait for a BOOT -/
  mode : ModeUnit := {}
  /-- copy | 02 R48 | as power | the seal state -/
  power : PowerUnit := {}
  /-- copy | 02 R48, 15 R396, R401 | as fault | error queue, detention list, report cards and account marks -/
  fault : FaultUnit := {}
  /-- copy | 02 R48, 00 R468 | as sweep | the reserved block of DSEQ and the frame account -/
  sweep : SweepUnit := {}
  /-- copy | 02 R48 | as roll | the Roll image, journals and accounts -/
  roll : RollUnit := {}
  /-- copy | 02 R48 | as tx | the downlink account and DEFERRED requests -/
  tx : TxUnit := {}
  /-- copy | 02 R48 | as cipher | the key store -/
  cipher : CipherUnit := {}
  /-- copy | 02 R48 | as verdict | the verdict journal -/
  verdict : VerdictUnit := {}
  deriving DecidableEq, Repr

/-- What stops the model (no rule of the spec stops the block). -/
inductive Fault where
  /-- Raised by a command whose operands no hardware can present (WellFormed fails in a way that leaves the
  command without a reading). Safe: the module cannot be given such a command. -/
  | illFormed
  deriving DecidableEq, Repr

/-- A command without a meaning. -/
inductive Refusal where
  /-- Raised by an arm of exec that has no meaning yet. Safe: nothing is claimed of it. -/
  | notModelled (mnemonic : String)
  deriving DecidableEq, Repr

/-- The state of the block. -/
structure State where
  /-- queue | model's own | empty | commands waiting, first in, first out -/
  pending : List Instr := []
  /-- counter | model's own (free values) | 0 (DESIGN CHOICE, log 5) | number of free values drawn -/
  freeCount : Nat := 0
  /-- answer | model's own | OK | answer of the last command -/
  answer : Answer := {}
  /-- list | model's own | empty (DESIGN CHOICE, log 1) | everything sent, newest first -/
  outbox : List Emission := []
  /-- settings by ((vi x 2^16 + index) x 2^8 + sub) x 2^32 + element | 17 R464 | the dictionary's defaults | every RW, RWA, RWQ object of INVENTORY's dictionary that no unit below holds itself -/
  settings : Tab Nat := []
  mode : ModeUnit := {}
  power : PowerUnit := {}
  time : TimeUnit := {}
  lane : LaneUnit := {}
  rx : RxUnit := {}
  sweep : SweepUnit := {}
  verdict : VerdictUnit := {}
  roll : RollUnit := {}
  tx : TxUnit := {}
  cipher : CipherUnit := {}
  prefect : PrefectUnit := {}
  /-- 52 tiles | 12 R307 | reset tiles | -/
  tiles : Tab Tile := []
  mesh : MeshUnit := {}
  pace : PaceUnit := {}
  fault : FaultUnit := {}
  molfen : MolfenUnit := {}
  stack : StackUnit := {}
  /-- copy | 01 R30, 14 Table 14.3 bell 9 | as delivered | the last snapshot -/
  snap : Snap := {}
  /-- copy | 02 R48 | none | MRAM at the start of the BOOT under way, before its step 7 -/
  saved : Option Saved := none
  deriving DecidableEq, Repr

/-- VI 0's load key and management key (10 R283): LOADED at manufacture, their values zeros (DESIGN CHOICE, log 7). -/
def factoryKeys : Tab KeySlot :=
  [(326656, { kstate := .loaded, key := List.replicate 16 0 }), (326672, { kstate := .loaded, key := List.replicate 16 0 })]
/-- The module as delivered, without mains: mode OFF, nothing pending, every table at its default. -/
def State.reset : State := { cipher := { keys := factoryKeys } }

end Sys2Proof.Machine
end

