-- ==== Sys2Proof/Machine/Ops.lean ====
section
/-! DEFINITION. The named operations every meaning uses: sparse tables, bit fields, checks, clocks, sequence numbers,
answers and emissions. -/

namespace Sys2Proof.Machine

/-- What a command answers. -/
abbrev Out := Host.Outcome State Fault Refusal

/-! ### Sparse tables -/

/-- Value of key k; unlisted keys read d. -/
def tabGet {α : Type} (d : α) : Tab α → Nat → α
  | [], _ => d
  | (k', v) :: t, k => if k = k' then v else tabGet d t k

/-- Put v at key k, before the first greater key. -/
def tabPut {α : Type} : Tab α → Nat → α → Tab α
  | [], k, v => [(k, v)]
  | (k', v') :: t, k, v =>
    if k < k' then (k, v) :: (k', v') :: t else if k = k' then (k, v) :: t else (k', v') :: tabPut t k v
/-- Write v at key k; writing what an unlisted key reads removes the entry. -/
def tabSet {α : Type} [DecidableEq α] (d : α) (t : Tab α) (k : Nat) (v : α) : Tab α :=
  if v = d then t.filter (fun p => p.1 ≠ k) else tabPut t k v

def tabMod {α : Type} [DecidableEq α] (d : α) (t : Tab α) (k : Nat) (f : α → α) : Tab α :=
  tabSet d t k (f (tabGet d t k))

/-- Canonical form: keys strictly rising from lo on, no entry equal to the unlisted value of its key. -/
def tabWfFrom {α : Type} [DecidableEq α] (d : Nat → α) : Nat → Tab α → Bool
  | _, [] => true
  | lo, (k, v) :: t => decide (lo ≤ k) && decide (v ≠ d k) && tabWfFrom d (k + 1) t

def tabWf {α : Type} [DecidableEq α] (d : Nat → α) (t : Tab α) : Bool := tabWfFrom d 0 t

/-- Canonical form of a byte memory whose unlisted bytes read zero. -/
def memWf (m : List Host.Cell) : Bool := tabWf (fun _ => (0 : BitVec 8)) m

/-- A U32 counter rises by n, modulo 2^32 (the counters of 04 R109 and of every object table). -/
def bumpBy (t : Tab Nat) (k n : Nat) : Tab Nat := tabMod 0 t k (fun v => (v + n) % 2 ^ 32)
def bump (t : Tab Nat) (k : Nat) : Tab Nat := bumpBy t k 1
/-- A U64 account term rises by n. -/
def accBy (t : Tab Nat) (k n : Nat) : Tab Nat := tabMod 0 t k (fun v => (v + n) % 2 ^ 64)
/-- An account term falls by n (a held amount such as pending). -/
def accDown (t : Tab Nat) (k n : Nat) : Tab Nat := tabMod 0 t k (fun v => v - n)
def inc32 (v : Nat) : Nat := (v + 1) % 2 ^ 32

/-! ### Bits, octets, signed fields -/

/-- Bits hi:lo of x. -/
def bitsOf (x hi lo : Nat) : Nat := (x >>> lo) % 2 ^ (hi + 1 - lo)
/-- 1 or 0. -/
def b2n (b : Bool) : Nat := if b then 1 else 0
def n2b (n : Nat) : Bool := n % 2 = 1
/-- Two's complement reading of a w-bit field. -/
def toSigned (w n : Nat) : Int :=
  if n % 2 ^ w < 2 ^ (w - 1) then (n % 2 ^ w : Nat) else (n % 2 ^ w : Nat) - (2 ^ w : Nat)
/-- Two's complement image of an integer in w bits. -/
def ofSigned (w : Nat) (i : Int) : Nat := (i % (2 ^ w : Nat)).toNat
/-- Fields (width, value), lowest first, as one number. -/
def pack : List (Nat × Nat) → Nat
  | [] => 0
  | (w, v) :: t => v % 2 ^ w + 2 ^ w * pack t
/-- n octets of x, highest first. -/
def octetsBE : Nat → Nat → List Nat
  | 0, _ => []
  | n + 1, x => (x >>> (8 * n)) % 256 :: octetsBE n x
/-- The number whose octets are given highest first. -/
def fromBE (l : List Nat) : Nat := l.foldl (fun a o => a * 256 + o % 256) 0
/-- Body octets from fields (octets, value), high byte first: the number they spell. -/
def bodyOf (l : List (Nat × Nat)) : Nat := l.foldl (fun a p => a * 256 ^ p.1 + p.2 % 256 ^ p.1) 0
/-- n octets of x, lowest first. -/
def octetsLE : Nat → Nat → List Nat
  | 0, _ => []
  | n + 1, x => x % 256 :: octetsLE n (x / 256)
def fromLE : List Nat → Nat
  | [] => 0
  | o :: t => o % 256 + 256 * fromLE t
/-- A little-endian 32-bit word of an image at offset w0, with the bytes written at offset off in place of its own. -/
def mergeWord (img off w0 : Nat) (bs : List (BitVec 8)) : Nat :=
  fromLE ((List.range 4).map (fun k =>
    let o := w0 + k
    if off ≤ o ∧ o < off + bs.length then ((bs[o - off]?).getD 0).toNat else (img >>> (8 * o)) % 256))
/-- Whether n bytes at an offset touch the 32-bit register at w0. -/
def touches (off n w0 : Nat) : Bool := decide (off < w0 + 4) && decide (w0 < off + n)
/-- Octet i (from the first sent) of an n-octet value. -/
def octAt (n x i : Nat) : Nat := (x >>> (8 * (n - 1 - i))) % 256
/-- Octets first to last (as sent) of an n-octet value. -/
def octField (n x first last : Nat) : Nat := (x >>> (8 * (n - 1 - last))) % 256 ^ (last + 1 - first)
/-- Positions i < n of set bits of m, ascending. -/
def bitList (n m : Nat) : List Nat := (List.range n).filter (fun i => m.testBit i)
def ceilDiv (a b : Nat) : Nat := (a + b - 1) / b
/-- a / b, an exact half to the even neighbour (12 R319; 14 R373). -/
def roundHalfEven (a : Int) (b : Nat) : Int :=
  let q := a / (b : Int)
  let r := a % (b : Int)
  if 2 * r < b then q else if 2 * r > b then q + 1 else if q % 2 = 0 then q else q + 1
def clampInt (lo hi v : Int) : Int := if v < lo then lo else if hi < v then hi else v

/-- 0x2020:12: the mean baseplate temperature since manufacture, 0.1 degree C (03 R76). -/
def baseplateMean (p : PowerUnit) : Int :=
  if p.baseplateSeconds = 0 then p.baseplate else roundHalfEven p.baseplateSum p.baseplateSeconds

/-! ### Check codes (04 R89, R90; 07 R177) -/

def crc32Bit (c : Nat) : Nat := if c % 2 = 1 then (c / 2) ^^^ 0xEDB88320 else c / 2
def crc32Step (c o : Nat) : Nat :=
  let x := c ^^^ (o % 256)
  crc32Bit (crc32Bit (crc32Bit (crc32Bit (crc32Bit (crc32Bit (crc32Bit (crc32Bit x)))))))
/-- CRC-32 of IEEE 802.3 over octets (04 R89). -/
def crc32 (l : List Nat) : Nat := (l.foldl crc32Step 0xFFFFFFFF) ^^^ 0xFFFFFFFF

def crc16Bit (c : Nat) : Nat := if c.testBit 15 then ((c * 2) ^^^ 0x1021) % 65536 else (c * 2) % 65536
def crc16Step (c o : Nat) : Nat :=
  let x := c ^^^ ((o % 256) * 256)
  crc16Bit (crc16Bit (crc16Bit (crc16Bit (crc16Bit (crc16Bit (crc16Bit (crc16Bit x)))))))
/-- CRC-16, polynomial 0x1021, initial 0xFFFF (04 R90). -/
def crc16 (l : List Nat) : Nat := l.foldl crc16Step 0xFFFF

def crc8Bit (c : Nat) : Nat := if c.testBit 7 then ((c * 2) ^^^ 0x07) % 256 else (c * 2) % 256
def crc8Step (c o : Nat) : Nat :=
  crc8Bit (crc8Bit (crc8Bit (crc8Bit (crc8Bit (crc8Bit (crc8Bit (crc8Bit (c ^^^ (o % 256)))))))))
/-- CRC-8 of the vendor header (07 R177). -/
def crc8 (l : List Nat) : Nat := l.foldl crc8Step 0

/-! ### Codes of enumerations -/

def modeCode : Mode → Nat
  | .off => 0 | .boot => 1 | .standby => 2 | .service => 3 | .degraded => 4 | .silent => 5 | .lastGasp => 6 | .safe => 7
def statusCode : Status → Nat
  | .ok => 0 | .refused => 1 | .asleep => 2 | .timeout => 3 | .poison => 4 | .access => 5 | .range => 6 | .busy => 7
  | .late => 8 | .noCredit => 9 | .exhausted => 10 | .deferred => 11 | .bad => 12 | .incomplete => 13
  | .aborted => 14 | .unknown => 15 | .locked => 16
/-- The status of a code; reserved codes read REFUSED (they are never sent, 00 R10). -/
def statusOf (n : Nat) : Status :=
  match n with
  | 0 => .ok | 2 => .asleep | 3 => .timeout | 4 => .poison | 5 => .access | 6 => .range | 7 => .busy
  | 8 => .late | 9 => .noCredit | 10 => .exhausted | 11 => .deferred | 12 => .bad | 13 => .incomplete
  | 14 => .aborted | 15 => .unknown | 16 => .locked | _ => .refused
def vclassCode : VClass → Nat
  | .accept => 0 | .duplicate => 1 | .passThrough => 2 | .rejectCrc => 3 | .rejectAuth => 4 | .rejectReplay => 5
  | .rejectUnknown => 6 | .rejectLength => 7 | .incomplete => 8 | .rejectExhausted => 9
def refuseCode : Refuse → Nat
  | .mode => 1 | .shed => 2 | .history => 3 | .queue => 4 | .ceiling => 5 | .binFull => 6 | .capacity => 7
def estatusCode : EStatus → Nat
  | .free => 0 | .active => 1 | .suspended => 2 | .exhausted => 3
def originCode : Origin → Nat
  | .ack => 0 | .station => 1 | .carried => 2 | .reply => 3
def burstCode : BurstState → Nat
  | .none => 0 | .placed => 1 | .inAir => 2 | .sent => 3 | .notSent => 4 | .aborted => 5
def dlOutcomeCode : DlOutcome → Nat
  | .pending => 0 | .served => 1 | .deferred => 2 | .refused => 3
def severityCode : Severity → Nat
  | .info => 0 | .minor => 1 | .major => 2 | .safe => 3
def errCodeOf : ErrCode → Nat
  | .eccRate => 1 | .eccUncorr => 2 | .hostTrap => 3 | .lockstep => 4 | .mesh => 5 | .lane => 6 | .bist => 7
  | .pace => 8 | .thermal => 9 | .holdup => 10 | .restore => 11 | .account => 12 | .timing => 13 | .cage => 14
  | .cipher => 15 | .store => 16 | .ageing => 17 | .watchdog => 18 | .handler => 19
def tileStateCode : TileState → Nat
  | .reset => 0 | .loading => 1 | .host => 2 | .task => 3 | .halted => 4 | .fenced => 5
def keyStateCode : KeyState → Nat
  | .empty => 0 | .loaded => 1 | .bound => 2
def domStateCode : DomState → Nat
  | .run => 0 | .recess => 1 | .sleep => 2 | .transition => 3
def portCode : PortState → Nat
  | .opened => 0 | .closing => 1 | .closed => 2
def opStateCode : OpState → Nat
  | .free => 0 | .ready => 1 | .inService => 2 | .doneHeld => 3 | .trapped => 4
def officeCode : OfficeState → Nat
  | .active => 0 | .standby => 1 | .fenced => 2 | .starting => 3
def fwStateCode : UpdState → Nat
  | .idle => 0 | .staging => 1 | .verified => 2 | .bad => 3 | .probation => 4 | .committed => 5 | _ => 0
def pkgStateCode : UpdState → Nat
  | .idle => 0 | .staging => 1 | .verified => 2 | .bad => 3 | .rotating => 4 | .installed => 5 | _ => 0
def xferCode : XferState → Nat
  | .none => 0 | .prepared => 1 | .ready => 2 | .committed => 3 | .aborted => 4 | .inDoubt => 5

/-! ### Answers, emissions, free values -/

def answerOf (st : Status) (data : Nat) (s : State) : State := { s with answer := ⟨st, data⟩ }
/-- The answer of a write: its status. -/
def answering (st : Status) (s : State) : State := answerOf st 0 s
def emit (e : Emission) (s : State) : State := { s with outbox := e :: s.outbox }
def emitAll (es : List Emission) (s : State) : State := { s with outbox := es.reverse ++ s.outbox }
/-- The next free value, and the state that has drawn it. -/
def drawFree (s : State) : Nat × State :=
  (Config.freeNat s.freeCount, { s with freeCount := s.freeCount + 1 })
/-- Run a write: its state with its status as the answer. -/
def answered (r : State × Status) : Out := .next (answering r.2 r.1)

/-! ### Clocks -/

/-- Caretaker count and its fraction after n ticks (one tick is 5/32 us; 14 R465). -/
def careAfter (t : TimeUnit) (ticks : Nat) : TimeUnit :=
  let f := t.careFrac + 5 * ticks
  { t with careUs := t.careUs + f / 32, careFrac := f % 32 }
/-- Time passes up to air time n (no step backwards; nothing while the timebase is invalid). -/
def advanceTo (n : Nat) (s : State) : State :=
  if s.time.valid ∧ s.time.airTime < n then
    { s with time := { careAfter s.time (n - s.time.airTime) with airTime := n } }
  else s
/-- A periodic bell k, or pace timer k - 64, has fired at an air time: it fires once at it (14 R375; 13 R362). -/
def hasFired (k n : Nat) (s : State) : Bool := s.time.firedAt == n && s.time.fired.contains k
def markFired (k n : Nat) (s : State) : State :=
  { s with time := { s.time with firedAt := n, fired := if s.time.firedAt = n then k :: s.time.fired else [k] } }
/-- One tick on an empty queue (log entry 2). -/
def tick (s : State) : State :=
  { s with time := { careAfter s.time 1 with airTime := if s.time.valid then s.time.airTime + 1 else s.time.airTime } }
/-- The TIME and TIMEOK pair of records (11 Table 11.6, 15 Table 15.3, 16 Table 16.5). -/
def stamp (s : State) : Nat × Bool :=
  if s.time.valid then (s.time.airTime, true) else (s.time.careUs, false)
/-- Seconds since BOOT. -/
def bootSeconds (s : State) : Nat := (s.time.careUs - s.mode.bootAtUs) / 1000000
/-- The next number of a sequence (00 R468). -/
def seqNext (n : Nat) : Nat := if n ≥ 0xFFFFFFFE then 1 else n + 1
/-- A sequence number k places on, for the blocks of 65,536 that DSEQ and RQID reserve (00 R468). -/
def seqAdd (n k : Nat) : Nat := (n - 1 + k) % 0xFFFFFFFE + 1

/-! ### Accessors of unit tables -/

def laneOf (s : State) (l : Nat) : Lane := tabGet {} s.lane.lanes l
def setLane (s : State) (l : Nat) (x : Lane) : State :=
  { s with lane := { s.lane with lanes := tabSet {} s.lane.lanes l x } }
def modLane (s : State) (l : Nat) (f : Lane → Lane) : State := setLane s l (f (laneOf s l))
def headOf (s : State) (h : Nat) : Head := tabGet {} s.lane.heads h
def setHead (s : State) (h : Nat) (x : Head) : State :=
  { s with lane := { s.lane with heads := tabSet {} s.lane.heads h x } }
def modHead (s : State) (h : Nat) (f : Head → Head) : State := setHead s h (f (headOf s h))
def cageOf (s : State) (c : Nat) : Cage := tabGet {} s.lane.cages c
def setCage (s : State) (c : Nat) (x : Cage) : State :=
  { s with lane := { s.lane with cages := tabSet {} s.lane.cages c x } }
def entryOf (s : State) (slot : Nat) : Entry := tabGet {} s.roll.entries slot
def setEntry (s : State) (slot : Nat) (e : Entry) : State :=
  { s with roll := { s.roll with entries := tabSet {} s.roll.entries slot e } }
def accountOf (s : State) (slot : Nat) : Account := tabGet {} s.roll.accounts slot
def setAccount (s : State) (slot : Nat) (a : Account) : State :=
  { s with roll := { s.roll with accounts := tabSet {} s.roll.accounts slot a } }
def captureOf (s : State) (c : Nat) : Capture := tabGet {} s.sweep.captures c
def setCapture (s : State) (c : Nat) (x : Capture) : State :=
  { s with sweep := { s.sweep with captures := tabSet {} s.sweep.captures c x } }
def modCapture (s : State) (c : Nat) (f : Capture → Capture) : State := setCapture s c (f (captureOf s c))
def engineOf (s : State) (e : Nat) : Engine := tabGet {} s.cipher.engines e
def setEngine (s : State) (e : Nat) (x : Engine) : State :=
  { s with cipher := { s.cipher with engines := tabSet {} s.cipher.engines e x } }
def keyOf (s : State) (h : Nat) : KeySlot := tabGet {} s.cipher.keys h
def setKey (s : State) (h : Nat) (x : KeySlot) : State :=
  { s with cipher := { s.cipher with keys := tabSet {} s.cipher.keys h x } }
def tileOf (s : State) (t : Nat) : Tile := tabGet {} s.tiles t
def setTile (s : State) (t : Nat) (x : Tile) : State := { s with tiles := tabSet {} s.tiles t x }
def modTile (s : State) (t : Nat) (f : Tile → Tile) : State := setTile s t (f (tileOf s t))
def channelOf (s : State) (c : Nat) : Channel := tabGet {} s.mesh.channels c
def setChannel (s : State) (c : Nat) (x : Channel) : State :=
  { s with mesh := { s.mesh with channels := tabSet {} s.mesh.channels c x } }
def islandOf (s : State) (i : Nat) : Island := tabGet {} s.pace.islands i
def setIsland (s : State) (i : Nat) (x : Island) : State :=
  { s with pace := { s.pace with islands := tabSet {} s.pace.islands i x } }
/-- Supply band (14 Table 14.6): 0 forward bias 150 mV, write and read assist; 1 forward bias 50 mV, write assist; 2 none. -/
def supplyBand (mv : Nat) : Nat := if mv ≤ 745 then 0 else if mv ≤ 795 then 1 else 2
/-- An island's supply changes: on the way up the voltage settles first and bias and assist follow it, on the way down they
go first (14 R384). -/
def moveSupply (i mv : Nat) (s : State) : State :=
  let x := islandOf s i
  let a := supplyBand x.supply
  let b := supplyBand mv
  if x.supply = mv then s
  else emitAll (if a < b then [.supply i mv, .bias i b] else if b < a then [.bias i b, .supply i mv] else [.supply i mv])
    (setIsland s i { x with supply := mv })
def domainOf (s : State) (d : Nat) : Domain := tabGet {} s.pace.domains d
def setDomain (s : State) (d : Nat) (x : Domain) : State :=
  { s with pace := { s.pace with domains := tabSet {} s.pace.domains d x } }
def cardOf (s : State) (u : Nat) : Card := tabGet {} s.fault.cards u
def setCard (s : State) (u : Nat) (x : Card) : State :=
  { s with fault := { s.fault with cards := tabSet {} s.fault.cards u x } }
def packageOf (s : State) (id : Nat) : Update := tabGet {} s.molfen.packages id
def setPackage (s : State) (id : Nat) (x : Update) : State :=
  { s with molfen := { s.molfen with packages := tabSet {} s.molfen.packages id x } }
def streamOf (s : State) (k : Nat) : Stream := tabGet {} s.rx.streams k
def setStream (s : State) (k : Nat) (x : Stream) : State :=
  { s with rx := { s.rx with streams := tabSet {} s.rx.streams k x } }
def beamsOf (s : State) (g : Nat) : SwapTable := tabGet {} s.rx.beams g
def setBeams (s : State) (g : Nat) (x : SwapTable) : State :=
  { s with rx := { s.rx with beams := tabSet {} s.rx.beams g x } }
def physOf (s : State) (l : Nat) : Nat := tabGet (if l < 48 then l else l - 48) s.prefect.phys l
def setPhys (s : State) (l p : Nat) : State :=
  { s with prefect := { s.prefect with phys := tabSet (if l < 48 then l else l - 48) s.prefect.phys l p } }
/-- Key of a stream: preamble slot, beam, lowest bin of the span. -/
def streamKey (p beam bin : Nat) : Nat := (p * 32 + beam) * 512 + bin
/-- Key of a stream's gain loop (05 R132): a beam-bin's loop where M is 1, else the merged stream's own. -/
def loopKey (p mcode beam bin : Nat) : Nat := streamKey (if mcode = 0 then 0 else 1 + p) beam bin
/-- log2 of a merge width. -/
def mcodeOf (m : Nat) : Nat := Nat.log2 m
/-- Module antenna ports of a head mask, a bit per port (04 R80). -/
def antennasOf (h : Nat) : List Nat := (List.range 16).map (fun a => 16 * h + a)

end Sys2Proof.Machine
end

