-- ==== Sys2Proof/Machine/Aes.lean ====
section
/-! DEFINITION. The ciphers the spec names and leaves to their standards: AES-128 and AES-256 (10 R268), CCM (NIST SP
800-38C), CTR (SP 800-38A), CMAC (SP 800-38B, RFC 4493) and AES Key Wrap (RFC 3394). PRESUMED: the standards
themselves stand outside the spec (log entry 9); 10 gives their parameters and one worked example. -/

namespace Sys2Proof.Machine

/-- The substitution box, octet x at bits 8x + 7 to 8x. -/
def sboxBits : Nat :=
  0x16bb54b00f2d99416842e6bf0d89a18cdf2855cee9871e9b948ed9691198f8e19e1dc186b95735610ef6034866b53e708a8bbd4b1f74dde8c6b4a61c2e2578ba08ae7a65eaf4566ca94ed58d6d37c8e779e4959162acd3c25c2406490a3a32e0db0b5ede14b8ee4688902a22dc4f816073195d643d7ea7c41744975fec130ccdd2f3ff1021dab6bcf5389d928f40a351a89f3c507f02f94585334d43fbaaefd0cf584c4a39becb6a5bb1fc20ed00d153842fe329b3d63b52a05a6e1b1a2c830975b227ebe28012079a059618c323c7041531d871f1e5a534ccf73f362693fdb7c072a49cafa2d4adf04759fa7dc982ca76abd7fe2b670130c56f6bf27b777c63
/-- Its inverse. -/
def invSboxBits : Nat :=
  0x7d0c2155631469e126d677ba7e042b17619953833cbbebc8b0f52aae4d3be0a0ef9cc9939f7ae52d0d4ab519a97f51605fec8027591012b131c7078833a8dd1ff45acd78fec0db9a2079d2c64b3e56fc1bbe18aa0e62b76f89c5291d711af1476edf751ce837f9e28535ade72274ac9673e6b4f0cecff297eadc674f4111913a6b8a130103bdafc1020f3fca8f1e2cd00645b3b80558e4f70ad3bc8c00abd890849d8da75746155edab9edfd5048706c92b6655dcc5ca4d41698688664f6f87225d18b6d49a25b76b224d92866a12e084ec3fa420b954cee3d23c2a632947b54cbe9dec444438e3487ff2f9b8239e37cfbd7f3819ea340bf38a53630d56a0952

def sbox (x : Nat) : Nat := (sboxBits >>> (8 * (x % 256))) % 256
def invSbox (x : Nat) : Nat := (invSboxBits >>> (8 * (x % 256))) % 256
def xtime (x : Nat) : Nat := if x < 128 then 2 * x else (2 * x) ^^^ 0x11B
/-- Product by 9, 11, 13 or 14 and the like in the field of AES. -/
def gfMul (c x : Nat) : Nat :=
  let x2 := xtime x
  let x4 := xtime x2
  let x8 := xtime x4
  (if c.testBit 0 then x else 0) ^^^ (if c.testBit 1 then x2 else 0) ^^^ (if c.testBit 2 then x4 else 0)
    ^^^ (if c.testBit 3 then x8 else 0)
def xorOctets (a b : List Nat) : List Nat := (a.zip b).map (fun p => p.1 ^^^ p.2)

/-! ### Key schedule -/

def rotWord : List Nat → List Nat
  | [] => []
  | a :: t => t ++ [a]
/-- Word i of the schedule from the words before it, newest first; nk is 4 or 8. -/
def nextWord (nk i rcon : Nat) (ws : List (List Nat)) : List Nat :=
  let temp := ws.headD []
  let temp :=
    if i % nk = 0 then xorOctets ((rotWord temp).map sbox) [rcon, 0, 0, 0]
    else if nk = 8 ∧ i % 8 = 4 then temp.map sbox
    else temp
  xorOctets (ws.getD (nk - 1) []) temp
def expandWords : Nat → Nat → Nat → Nat → List (List Nat) → List (List Nat)
  | 0, _, _, _, ws => ws
  | n + 1, nk, i, rcon, ws =>
    expandWords n nk (i + 1) (if i % nk = 0 then xtime rcon else rcon) (nextWord nk i rcon ws :: ws)
def fourWords (k : List Nat) : Nat → List (List Nat)
  | 0 => []
  | n + 1 => k.take 4 :: fourWords (k.drop 4) n
def joinRounds : List (List Nat) → List (List Nat)
  | a :: b :: c :: d :: t => (a ++ b ++ c ++ d) :: joinRounds t
  | _ => []
/-- Round keys of a key of 16 or 32 octets, first round first. -/
def roundKeys (key : List Nat) : List (List Nat) :=
  let nk := if key.length = 32 then 8 else 4
  joinRounds (expandWords (4 * (nk + 7) - nk) nk nk 1 (fourWords key nk).reverse).reverse

/-! ### Rounds -/

def pickOctets (ix : List Nat) (st : List Nat) : List Nat := ix.map (fun i => st.getD i 0)
def shiftRows (st : List Nat) : List Nat := pickOctets [0, 5, 10, 15, 4, 9, 14, 3, 8, 13, 2, 7, 12, 1, 6, 11] st
def invShiftRows (st : List Nat) : List Nat := pickOctets [0, 13, 10, 7, 4, 1, 14, 11, 8, 5, 2, 15, 12, 9, 6, 3] st
def mixBy (c0 c1 c2 c3 : Nat) : List Nat → List Nat
  | a :: b :: c :: d :: t =>
    (gfMul c0 a ^^^ gfMul c1 b ^^^ gfMul c2 c ^^^ gfMul c3 d) ::
    (gfMul c3 a ^^^ gfMul c0 b ^^^ gfMul c1 c ^^^ gfMul c2 d) ::
    (gfMul c2 a ^^^ gfMul c3 b ^^^ gfMul c0 c ^^^ gfMul c1 d) ::
    (gfMul c1 a ^^^ gfMul c2 b ^^^ gfMul c3 c ^^^ gfMul c0 d) :: mixBy c0 c1 c2 c3 t
  | _ => []
def encryptRounds : List (List Nat) → List Nat → List Nat
  | [], st => st
  | [k], st => xorOctets (shiftRows (st.map sbox)) k
  | k :: rest, st => encryptRounds rest (xorOctets (mixBy 2 3 1 1 (shiftRows (st.map sbox))) k)
/-- AES of one block of 16 octets. -/
def aesEncrypt (key block : List Nat) : List Nat :=
  match roundKeys key with
  | k :: rest => encryptRounds rest (xorOctets block k)
  | [] => block
def decryptRounds : List (List Nat) → List Nat → List Nat
  | [], st => st
  | [k], st => xorOctets ((invShiftRows st).map invSbox) k
  | k :: rest, st => decryptRounds rest (mixBy 14 11 13 9 (xorOctets ((invShiftRows st).map invSbox) k))
/-- The inverse cipher. -/
def aesDecrypt (key block : List Nat) : List Nat :=
  match (roundKeys key).reverse with
  | k :: rest => decryptRounds rest (xorOctets block k)
  | [] => block

/-! ### Modes -/

def zeros (n : Nat) : List Nat := List.replicate n 0
/-- Pad with zero octets to whole blocks. -/
def padBlock (l : List Nat) : List Nat := l ++ zeros ((16 - l.length % 16) % 16)
def blocksOf : Nat → List Nat → List (List Nat)
  | 0, _ => []
  | n + 1, l => if l.isEmpty then [] else l.take 16 :: blocksOf n (l.drop 16)
def cbcMac (key : List Nat) (blocks : List (List Nat)) : List Nat :=
  blocks.foldl (fun x b => aesEncrypt key (xorOctets x b)) (zeros 16)
/-- Keystream XOR data, counter blocks given by a function of the block's number. -/
def ctrWith (key : List Nat) (ctr : Nat → List Nat) : Nat → List (List Nat) → List Nat
  | _, [] => []
  | i, b :: t => xorOctets b (aesEncrypt key (ctr i)) ++ ctrWith key ctr (i + 1) t

/-- CCM with a 13-octet nonce and a 2-octet length: tag of tlen octets before encryption of the tag. -/
def ccmMac (key nonce aad msg : List Nat) (tlen : Nat) : List Nat :=
  let b0 := (0x40 * (if aad.isEmpty then 0 else 1) + 8 * ((tlen - 2) / 2) + 1) :: (nonce ++ octetsBE 2 msg.length)
  let a := if aad.isEmpty then [] else padBlock (octetsBE 2 aad.length ++ aad)
  cbcMac key (blocksOf 300 (b0 ++ a ++ padBlock msg))
def ccmCtr (nonce : List Nat) (i : Nat) : List Nat := 1 :: (nonce ++ octetsBE 2 i)
def ccmCrypt (key nonce data : List Nat) : List Nat := ctrWith key (ccmCtr nonce) 1 (blocksOf 300 data)
def ccmTag (key nonce aad msg : List Nat) (tlen : Nat) : List Nat :=
  (xorOctets (ccmMac key nonce aad msg tlen) (aesEncrypt key (ccmCtr nonce 0))).take tlen

/-- CTR with the low 32 bits of the counter block incremented once a block (10 R274). -/
def ctrCrypt (key iv data : List Nat) : List Nat :=
  let low := fromBE (iv.drop 12)
  ctrWith key (fun i => iv.take 12 ++ octetsBE 4 ((low + i) % 2 ^ 32)) 0 (blocksOf 300 data)

def doubleBlock (b : List Nat) : List Nat :=
  let n := fromBE b
  octetsBE 16 (if n.testBit 127 then ((2 * n) % 2 ^ 128) ^^^ 0x87 else 2 * n)
def xorLast (blocks : List (List Nat)) (k : List Nat) : List (List Nat) :=
  match blocks.reverse with
  | b :: t => (xorOctets b k :: t).reverse
  | [] => [k]
/-- AES-CMAC, 16 octets. -/
def aesCmac (key msg : List Nat) : List Nat :=
  let k1 := doubleBlock (aesEncrypt key (zeros 16))
  let whole := !msg.isEmpty && decide (msg.length % 16 = 0)
  if whole then cbcMac key (xorLast (blocksOf 300 msg) k1)
  else cbcMac key (xorLast (blocksOf 300 (padBlock (msg ++ [0x80]))) (doubleBlock k1))

def unwrapSteps (kek : List Nat) (n : Nat) : Nat → List Nat × List (List Nat) → List Nat × List (List Nat)
  | 0, r => r
  | t + 1, r =>
    let i := t % n
    let a := octetsBE 8 (fromBE r.1 ^^^ (t + 1))
    let b := aesDecrypt kek (a ++ r.2.getD i [])
    unwrapSteps kek n t (b.take 8, r.2.set i (b.drop 8))
def eights : Nat → List Nat → List (List Nat)
  | 0, _ => []
  | n + 1, l => l.take 8 :: eights n (l.drop 8)
/-- AES Key Wrap, unwrapping 24 or 40 octets: the key, where the initial value is the default one. -/
def aesUnwrap (kek wrapped : List Nat) : Option (List Nat) :=
  let n := wrapped.length / 8 - 1
  let r := unwrapSteps kek n (6 * n) (wrapped.take 8, eights n (wrapped.drop 8))
  if r.1 = List.replicate 8 0xA6 then some r.2.flatten else none

/-- The CCM nonce of 10 Table 10.5; level 1 for a 4-octet MIC, 2 for an 8-octet MIC. -/
def ccmNonce (identity counter : Nat) (down : Bool) (tlen : Nat) : List Nat :=
  octetsBE 8 identity ++ octetsBE 4 counter ++ [(if down then 128 else 0) + (if tlen = 8 then 2 else 1)]

end Sys2Proof.Machine
end

