-- ==== Sys2Proof/Machine/Dictionary.lean ====
section
/-! DEFINITION. The object dictionary (17): every object with its type, access code, scope, selector, default and
permitted range, as the chapters' tables list them; and the settings kept in State.settings. -/

namespace Sys2Proof.Machine

/-- Access codes (00 R8). -/
inductive Acc where
  | ro | rw | rwa | rwq | wo
  deriving DecidableEq, Repr

/-- What an element selector ranges over (17 R441): one element, indexes below a bound, a profile identifier, a unit
identity of 15 Table 15.1, or any 32-bit value. -/
inductive SelKind where
  | one | below | prof | unit | any
  deriving DecidableEq, Repr

/-- One object: index, subindex, access, VI scope, least and greatest LEN, signed, selector, default, permitted range. -/
structure ObjRow where
  idx : Nat
  sub : Nat
  acc : Acc
  vi : Bool
  lenLo : Nat
  lenHi : Nat
  signed : Bool
  sel : SelKind
  selN : Nat
  dflt : Nat
  lo : Int
  hi : Int
  deriving DecidableEq, Repr

/-- Rows 0 to 39 of the dictionary, in the order of the chapters' tables. -/
def dictRows0 : List ObjRow := [
  ⟨0x2000, 0x01, .ro, false, 1, 1, false, .one, 1, 0, 0, 255⟩,
  ⟨0x2000, 0x02, .ro, false, 2, 2, false, .one, 1, 0, 0, 65535⟩,
  ⟨0x2000, 0x03, .ro, false, 1, 1, false, .one, 1, 0, 0, 255⟩,
  ⟨0x2000, 0x04, .rwa, false, 1, 1, false, .one, 1, 2, 2, 3⟩,
  ⟨0x2000, 0x05, .rwa, false, 1, 1, false, .one, 1, 0, 0, 255⟩,
  ⟨0x2000, 0x06, .rwa, false, 1, 1, false, .one, 1, 0, 0, 1⟩,
  ⟨0x2000, 0x07, .ro, false, 1, 1, false, .one, 1, 0, 0, 255⟩,
  ⟨0x2000, 0x08, .ro, false, 4, 4, false, .one, 1, 0, 0, 4294967295⟩,
  ⟨0x2020, 0x01, .ro, false, 2, 2, false, .one, 1, 0, 0, 65535⟩,
  ⟨0x2020, 0x02, .ro, false, 2, 2, false, .one, 1, 0, 0, 65535⟩,
  ⟨0x2020, 0x03, .ro, false, 2, 2, false, .one, 1, 0, 0, 65535⟩,
  ⟨0x2020, 0x04, .ro, false, 2, 2, false, .one, 1, 0, 0, 65535⟩,
  ⟨0x2020, 0x05, .ro, false, 4, 4, false, .one, 1, 0, 0, 4294967295⟩,
  ⟨0x2020, 0x06, .ro, false, 4, 4, false, .one, 1, 0, 0, 4294967295⟩,
  ⟨0x2020, 0x07, .ro, false, 1, 1, false, .one, 1, 0, 0, 255⟩,
  ⟨0x2020, 0x08, .ro, false, 32, 32, false, .one, 1, 0, 0, 256 ^ 32 - 1⟩,
  ⟨0x2020, 0x09, .ro, false, 8, 8, false, .one, 1, 0, 0, 256 ^ 8 - 1⟩,
  ⟨0x2020, 0x0A, .ro, false, 8, 8, false, .one, 1, 0, 0, 256 ^ 8 - 1⟩,
  ⟨0x2020, 0x0B, .ro, false, 1, 1, false, .one, 1, 0, 0, 255⟩,
  ⟨0x2020, 0x10, .ro, false, 2, 2, true, .one, 1, 0, -32768, 32767⟩,
  ⟨0x2020, 0x11, .ro, false, 2, 2, true, .one, 1, 0, -32768, 32767⟩,
  ⟨0x2020, 0x12, .ro, false, 2, 2, true, .one, 1, 0, -32768, 32767⟩,
  ⟨0x3000, 0x01, .rwa, false, 2, 2, false, .one, 1, 4095, 0, 4095⟩,
  ⟨0x3000, 0x02, .rwa, false, 2, 2, false, .one, 1, 16, 0, 65535⟩,
  ⟨0x3000, 0x03, .rwa, false, 1, 1, false, .one, 1, 1, 0, 1⟩,
  ⟨0x3010, 0x01, .ro, false, 2, 2, false, .below, 16, 0, 0, 65535⟩,
  ⟨0x3010, 0x02, .ro, false, 4, 4, false, .below, 16, 0, 0, 4294967295⟩,
  ⟨0x3010, 0x03, .ro, false, 4, 4, false, .below, 16, 0, 0, 4294967295⟩,
  ⟨0x3010, 0x04, .ro, false, 2, 2, false, .below, 16, 4, 0, 65535⟩,
  ⟨0x3010, 0x05, .ro, false, 2, 2, false, .below, 16, 0, 0, 65535⟩,
  ⟨0x3010, 0x10, .ro, false, 4, 4, false, .below, 16, 0, 0, 4294967295⟩,
  ⟨0x3010, 0x11, .ro, false, 4, 4, false, .below, 16, 0, 0, 4294967295⟩,
  ⟨0x3010, 0x12, .ro, false, 4, 4, false, .below, 16, 0, 0, 4294967295⟩,
  ⟨0x3010, 0x13, .ro, false, 4, 4, false, .below, 16, 0, 0, 4294967295⟩,
  ⟨0x3010, 0x14, .ro, false, 4, 4, false, .below, 16, 0, 0, 4294967295⟩,
  ⟨0x3010, 0x15, .ro, false, 4, 4, false, .below, 16, 0, 0, 4294967295⟩,
  ⟨0x3010, 0x16, .ro, false, 4, 4, false, .below, 16, 0, 0, 4294967295⟩,
  ⟨0x3010, 0x17, .ro, false, 4, 4, false, .below, 16, 0, 0, 4294967295⟩,
  ⟨0x3010, 0x18, .ro, false, 4, 4, false, .below, 16, 0, 0, 4294967295⟩,
  ⟨0x3010, 0x19, .ro, false, 4, 4, false, .below, 16, 0, 0, 4294967295⟩]

/-- Rows 40 to 79 of the dictionary, in the order of the chapters' tables. -/
def dictRows1 : List ObjRow := [
  ⟨0x3020, 0x01, .ro, false, 25, 25, false, .below, 12, 0, 0, 256 ^ 25 - 1⟩,
  ⟨0x3020, 0x02, .ro, false, 23, 23, false, .below, 12, 0, 0, 256 ^ 23 - 1⟩,
  ⟨0x3020, 0x03, .ro, false, 1, 1, false, .below, 12, 255, 0, 255⟩,
  ⟨0x3030, 0x01, .rwa, false, 1, 1, false, .below, 4, 255, 0, 255⟩,
  ⟨0x3030, 0x02, .rwa, false, 1, 1, false, .below, 4, 0, 1, 1⟩,
  ⟨0x3040, 0x01, .ro, false, 256, 256, false, .below, 22, 0, 0, 256 ^ 256 - 1⟩,
  ⟨0x3040, 0x02, .ro, false, 10, 10, false, .below, 22, 0, 0, 256 ^ 10 - 1⟩,
  ⟨0x4000, 0x01, .ro, false, 2, 2, false, .one, 1, 1000, 0, 65535⟩,
  ⟨0x4000, 0x02, .ro, false, 2, 2, false, .one, 1, 56, 0, 65535⟩,
  ⟨0x4000, 0x03, .ro, false, 2, 2, false, .one, 1, 455, 0, 65535⟩,
  ⟨0x4000, 0x04, .ro, false, 4, 4, false, .one, 1, 0, 0, 4294967295⟩,
  ⟨0x4001, 0x01, .rwa, false, 8, 8, false, .below, 192, 0, 0, 256 ^ 8 - 1⟩,
  ⟨0x4001, 0x02, .ro, false, 8, 8, false, .below, 192, 0, 0, 256 ^ 8 - 1⟩,
  ⟨0x4001, 0x03, .rwa, false, 8, 8, false, .one, 1, 0, 0, 256 ^ 8 - 1⟩,
  ⟨0x4001, 0x04, .ro, false, 1, 1, false, .one, 1, 0, 0, 255⟩,
  ⟨0x4001, 0x05, .ro, false, 8, 8, false, .one, 1, 0, 0, 256 ^ 8 - 1⟩,
  ⟨0x4002, 0x01, .rwa, false, 4, 4, false, .below, 49152, 0, 0, 4294967295⟩,
  ⟨0x4002, 0x02, .ro, false, 4, 4, false, .below, 49152, 0, 0, 4294967295⟩,
  ⟨0x4002, 0x03, .rwa, false, 1, 1, false, .below, 8, 4, 0, 15⟩,
  ⟨0x4002, 0x04, .ro, false, 1, 1, false, .below, 8, 4, 0, 255⟩,
  ⟨0x4002, 0x05, .rwa, false, 8, 8, false, .below, 8, 0, 0, 256 ^ 8 - 1⟩,
  ⟨0x4002, 0x06, .ro, false, 1, 1, false, .below, 8, 0, 0, 255⟩,
  ⟨0x4002, 0x07, .ro, false, 8, 8, false, .below, 8, 0, 0, 256 ^ 8 - 1⟩,
  ⟨0x4003, 0x01, .rwa, false, 1, 1, false, .below, 16, 1, 0, 255⟩,
  ⟨0x4004, 0x01, .rwa, false, 1, 1, false, .below, 8, 0, 0, 1⟩,
  ⟨0x4004, 0x02, .rwa, false, 2, 2, true, .below, 8, 65416, -240, -60⟩,
  ⟨0x4004, 0x03, .rwa, false, 1, 1, false, .below, 8, 10, 1, 255⟩,
  ⟨0x4004, 0x04, .rwa, false, 2, 2, true, .below, 512, 0, -300, 600⟩,
  ⟨0x4004, 0x05, .ro, false, 2, 2, true, .below, 16384, 0, -32768, 32767⟩,
  ⟨0x4004, 0x06, .ro, false, 1, 1, false, .below, 16384, 0, 0, 255⟩,
  ⟨0x4005, 0x01, .ro, false, 1, 1, true, .below, 192, 0, -128, 127⟩,
  ⟨0x4005, 0x02, .rwa, false, 1, 1, false, .one, 1, 1, 0, 1⟩,
  ⟨0x4005, 0x03, .rwa, false, 2, 2, true, .one, 1, 65356, -300, -60⟩,
  ⟨0x4005, 0x04, .rwa, false, 1, 1, true, .below, 192, 0, -128, 127⟩,
  ⟨0x4005, 0x05, .ro, false, 4, 4, false, .below, 192, 0, 0, 4294967295⟩,
  ⟨0x4006, 0x01, .rwa, false, 1, 1, false, .one, 1, 4, 1, 64⟩,
  ⟨0x4006, 0x02, .ro, false, 2, 2, true, .below, 98304, 0, -32768, 32767⟩,
  ⟨0x4006, 0x03, .ro, false, 2, 2, true, .below, 16384, 0, -32768, 32767⟩,
  ⟨0x4006, 0x04, .ro, false, 1, 1, false, .below, 512, 0, 0, 255⟩,
  ⟨0x4006, 0x05, .ro, false, 1, 1, false, .below, 8, 0, 0, 255⟩]

/-- Rows 80 to 119 of the dictionary, in the order of the chapters' tables. -/
def dictRows2 : List ObjRow := [
  ⟨0x4006, 0x06, .ro, false, 2, 2, true, .below, 192, 0, -32768, 32767⟩,
  ⟨0x4007, 0x01, .rwa, false, 2, 2, false, .one, 1, 64, 0, 1024⟩,
  ⟨0x4007, 0x02, .ro, false, 4, 4, false, .below, 12, 0, 0, 4294967295⟩,
  ⟨0x4007, 0x03, .ro, false, 4, 4, false, .below, 192, 0, 0, 4294967295⟩,
  ⟨0x4007, 0x04, .ro, false, 4, 4, false, .below, 192, 0, 0, 4294967295⟩,
  ⟨0x4007, 0x05, .ro, false, 4, 4, false, .below, 192, 0, 0, 4294967295⟩,
  ⟨0x4010, 0x01, .rwa, false, 1, 1, false, .below, 16, 0, 0, 255⟩,
  ⟨0x4010, 0x02, .rwa, false, 2, 2, false, .below, 16, 130, 30, 300⟩,
  ⟨0x4010, 0x04, .rwa, false, 1, 1, false, .below, 8, 30, 0, 100⟩,
  ⟨0x4010, 0x05, .rwa, false, 1, 1, false, .below, 8, 2, 1, 8⟩,
  ⟨0x4010, 0x06, .ro, false, 4, 4, false, .below, 256, 0, 0, 4294967295⟩,
  ⟨0x4011, 0x01, .rwa, false, 1, 1, false, .below, 8, 2, 0, 3⟩,
  ⟨0x4011, 0x02, .rwa, false, 2, 2, false, .one, 1, 4096, 0, 4096⟩,
  ⟨0x4011, 0x03, .ro, false, 2, 2, false, .one, 1, 0, 0, 65535⟩,
  ⟨0x4011, 0x04, .rwa, false, 1, 1, false, .below, 4, 25, 0, 255⟩,
  ⟨0x4011, 0x05, .ro, false, 2, 2, false, .one, 1, 0, 0, 65535⟩,
  ⟨0x4011, 0x06, .ro, false, 1, 1, false, .below, 512, 0, 0, 255⟩,
  ⟨0x4011, 0x07, .rwa, false, 4, 4, false, .below, 8, 0, 0, 4294967295⟩,
  ⟨0x4011, 0x08, .ro, false, 1, 1, false, .below, 8, 0, 0, 255⟩,
  ⟨0x4011, 0x09, .rwa, false, 2, 2, false, .one, 1, 256, 0, 65535⟩,
  ⟨0x4011, 0x0A, .ro, false, 2, 2, false, .one, 1, 0, 0, 65535⟩,
  ⟨0x4012, 0x01, .ro, false, 4, 4, false, .below, 512, 0, 0, 4294967295⟩,
  ⟨0x4012, 0x02, .ro, false, 4, 4, false, .below, 512, 0, 0, 4294967295⟩,
  ⟨0x4012, 0x03, .ro, false, 4, 4, false, .below, 512, 0, 0, 4294967295⟩,
  ⟨0x4012, 0x04, .ro, false, 4, 4, false, .below, 32, 0, 0, 4294967295⟩,
  ⟨0x4012, 0x05, .ro, false, 4, 4, false, .below, 512, 0, 0, 4294967295⟩,
  ⟨0x4012, 0x06, .ro, false, 4, 4, false, .below, 8, 0, 0, 4294967295⟩,
  ⟨0x4013, 0x01, .ro, true, 32, 32, false, .below, 65536, 0, 0, 256 ^ 32 - 1⟩,
  ⟨0x4013, 0x02, .ro, true, 2, 2, false, .one, 1, 0, 0, 65535⟩,
  ⟨0x4014, 0x01, .ro, true, 16, 16, false, .below, 4096, 0, 0, 256 ^ 16 - 1⟩,
  ⟨0x9053, 0x01, .ro, true, 120, 120, false, .below, 9, 0, 0, 256 ^ 120 - 1⟩,
  ⟨0x4020, 0x01, .ro, false, 1, 1, false, .prof, 0, 0, 0, 255⟩,
  ⟨0x4020, 0x02, .ro, false, 4, 4, false, .prof, 0, 0, 0, 4294967295⟩,
  ⟨0x4020, 0x03, .rwa, false, 2, 2, false, .prof, 0, 1000, 100, 5000⟩,
  ⟨0x4020, 0x04, .ro, false, 1, 1, false, .prof, 0, 0, 0, 255⟩,
  ⟨0x4020, 0x05, .rwa, false, 1, 1, false, .below, 8, 0, 0, 1⟩,
  ⟨0x4030, 0x01, .ro, true, 4, 4, false, .below, 160, 0, 0, 4294967295⟩,
  ⟨0x4030, 0x02, .ro, true, 4, 4, false, .one, 1, 0, 0, 4294967295⟩,
  ⟨0x4030, 0x03, .ro, true, 4, 4, false, .one, 1, 0, 0, 4294967295⟩,
  ⟨0x4030, 0x04, .ro, true, 4, 4, false, .one, 1, 0, 0, 4294967295⟩]

/-- Rows 120 to 159 of the dictionary, in the order of the chapters' tables. -/
def dictRows3 : List ObjRow := [
  ⟨0x4030, 0x05, .ro, false, 2, 2, false, .one, 1, 0, 0, 65535⟩,
  ⟨0x4030, 0x06, .ro, false, 4, 4, false, .one, 1, 0, 0, 4294967295⟩,
  ⟨0x4040, 0x01, .rw, true, 18, 18, false, .below, 4, 0, 0, 256 ^ 18 - 1⟩,
  ⟨0x4040, 0x02, .rw, true, 2, 2, false, .one, 1, 1000, 100, 10000⟩,
  ⟨0x4040, 0x03, .rw, true, 2, 2, false, .one, 1, 200, 10, 10000⟩,
  ⟨0x4040, 0x04, .ro, true, 4, 4, false, .below, 4, 0, 0, 4294967295⟩,
  ⟨0x4040, 0x05, .ro, true, 4, 4, false, .one, 1, 0, 0, 4294967295⟩,
  ⟨0x4040, 0x06, .ro, true, 4, 4, false, .one, 1, 0, 0, 4294967295⟩,
  ⟨0x6000, 0x01, .rwa, false, 2, 2, false, .below, 16, 0, 0, 256⟩,
  ⟨0x6000, 0x02, .rwa, false, 2, 2, false, .below, 16, 0, 0, 256⟩,
  ⟨0x6000, 0x03, .rwa, false, 4, 4, false, .below, 16, 0, 0, 4294967295⟩,
  ⟨0x6000, 0x04, .ro, true, 4, 4, false, .below, 16, 0, 0, 4294967295⟩,
  ⟨0x6000, 0x05, .ro, true, 4, 4, false, .one, 1, 0, 0, 4294967295⟩,
  ⟨0x6000, 0x06, .ro, false, 4, 4, false, .one, 1, 0, 0, 4294967295⟩,
  ⟨0x6001, 0x01, .ro, false, 4, 4, false, .one, 1, 0, 0, 4294967295⟩,
  ⟨0x6001, 0x02, .rwa, false, 4, 4, false, .one, 1, 0, 0, 16777215⟩,
  ⟨0x6001, 0x03, .ro, false, 1, 1, false, .one, 1, 0, 0, 255⟩,
  ⟨0x6010, 0x01, .ro, true, 64, 64, false, .below, 262144, 0, 0, 256 ^ 64 - 1⟩,
  ⟨0x6010, 0x02, .rw, true, 1, 1, false, .below, 262144, 0, 0, 3⟩,
  ⟨0x6010, 0x03, .ro, true, 4, 4, false, .below, 262144, 0, 0, 4294967295⟩,
  ⟨0x6010, 0x04, .wo, true, 4, 4, false, .below, 262144, 0, 0, 4294967295⟩,
  ⟨0x6010, 0x05, .wo, true, 4, 4, false, .below, 262144, 0, 0, 4294967295⟩,
  ⟨0x6010, 0x06, .rw, true, 1, 1, false, .below, 262144, 0, 0, 63⟩,
  ⟨0x6010, 0x07, .rw, true, 1, 1, false, .below, 262144, 0, 0, 63⟩,
  ⟨0x6010, 0x08, .ro, true, 768, 768, false, .below, 262144, 0, 0, 256 ^ 768 - 1⟩,
  ⟨0x6010, 0x09, .ro, true, 4, 4, false, .any, 0, 0, 0, 4294967295⟩,
  ⟨0x6011, 0x01, .wo, true, 32, 32, false, .below, 262144, 0, 0, 256 ^ 32 - 1⟩,
  ⟨0x6011, 0x02, .wo, true, 1, 1, false, .below, 262144, 0, 1, 1⟩,
  ⟨0x6011, 0x03, .wo, true, 32, 32, false, .below, 262144, 0, 0, 256 ^ 32 - 1⟩,
  ⟨0x6011, 0x04, .wo, true, 8, 8, false, .below, 262144, 0, 0, 256 ^ 8 - 1⟩,
  ⟨0x6011, 0x05, .wo, true, 2, 2, false, .below, 262144, 0, 0, 65535⟩,
  ⟨0x6020, 0x01, .rwa, false, 16, 16, false, .below, 64, 0, 0, 256 ^ 16 - 1⟩,
  ⟨0x6021, 0x01, .rwa, false, 8, 8, false, .below, 64, 0, 0, 256 ^ 8 - 1⟩,
  ⟨0x9040, 0x01, .ro, true, 80, 80, false, .below, 262144, 0, 0, 256 ^ 80 - 1⟩,
  ⟨0x9041, 0x01, .ro, true, 88, 88, false, .below, 17, 0, 0, 256 ^ 88 - 1⟩,
  ⟨0x9042, 0x01, .ro, true, 72, 72, false, .below, 17, 0, 0, 256 ^ 72 - 1⟩,
  ⟨0x9043, 0x01, .ro, true, 28, 28, false, .below, 17, 0, 0, 256 ^ 28 - 1⟩,
  ⟨0x9044, 0x01, .ro, false, 4, 4, false, .one, 1, 0, 0, 4294967295⟩,
  ⟨0x9044, 0x02, .ro, false, 4, 4, false, .one, 1, 0, 0, 4294967295⟩,
  ⟨0x9044, 0x03, .ro, false, 2, 2, false, .one, 1, 0, 0, 65535⟩]

/-- Rows 160 to 199 of the dictionary, in the order of the chapters' tables. -/
def dictRows4 : List ObjRow := [
  ⟨0x5000, 0x01, .rwa, false, 1, 1, false, .prof, 0, 1, 1, 12⟩,
  ⟨0x5000, 0x02, .rwa, false, 4, 4, false, .prof, 0, 6400, 1024, 6400000⟩,
  ⟨0x5000, 0x03, .rwa, false, 1, 1, false, .prof, 0, 0, 0, 3⟩,
  ⟨0x5000, 0x04, .rwa, false, 1, 1, false, .prof, 0, 0, 1, 255⟩,
  ⟨0x5001, 0x01, .rwa, false, 8, 8, false, .below, 192, 0, 0, 256 ^ 8 - 1⟩,
  ⟨0x5001, 0x02, .ro, false, 8, 8, false, .below, 192, 0, 0, 256 ^ 8 - 1⟩,
  ⟨0x5001, 0x03, .rwa, false, 8, 8, false, .one, 1, 0, 0, 256 ^ 8 - 1⟩,
  ⟨0x5001, 0x04, .ro, false, 1, 1, false, .one, 1, 0, 0, 255⟩,
  ⟨0x5010, 0x01, .rwa, false, 136, 136, false, .below, 16, 0, 0, 256 ^ 136 - 1⟩,
  ⟨0x5010, 0x02, .rwa, false, 1, 1, false, .prof, 0, 0, 0, 15⟩,
  ⟨0x5010, 0x03, .rwa, false, 2, 2, true, .below, 512, 0, -600, 0⟩,
  ⟨0x5020, 0x01, .rwa, false, 66, 66, false, .below, 4, 0, 0, 256 ^ 66 - 1⟩,
  ⟨0x5021, 0x01, .rwa, false, 6, 6, false, .below, 16, 0, 0, 256 ^ 6 - 1⟩,
  ⟨0x5021, 0x02, .ro, false, 4, 4, false, .below, 16, 0, 0, 4294967295⟩,
  ⟨0x5021, 0x03, .ro, false, 4, 4, false, .one, 1, 0, 0, 4294967295⟩,
  ⟨0x5022, 0x01, .rwa, false, 2, 2, false, .below, 12, 6554, 0, 65535⟩,
  ⟨0x5022, 0x02, .rwa, false, 4, 4, false, .below, 12, 23040000, 0, 4294967295⟩,
  ⟨0x5022, 0x03, .ro, false, 4, 4, false, .below, 12, 0, 0, 4294967295⟩,
  ⟨0x5030, 0x01, .wo, true, 16, 112, false, .one, 1, 0, 0, 256 ^ 112 - 1⟩,
  ⟨0x5030, 0x02, .rw, true, 265, 265, false, .below, 4096, 0, 0, 256 ^ 265 - 1⟩,
  ⟨0x5030, 0x03, .rwa, false, 2, 2, false, .prof, 0, 0, 100, 5000⟩,
  ⟨0x5040, 0x01, .ro, true, 40, 40, false, .any, 0, 0, 0, 256 ^ 40 - 1⟩,
  ⟨0x5040, 0x02, .ro, true, 4, 4, false, .one, 1, 0, 0, 4294967295⟩,
  ⟨0x5041, 0x01, .ro, true, 120, 120, false, .below, 17, 0, 0, 256 ^ 120 - 1⟩,
  ⟨0x7000, 0x01, .rwa, false, 1, 1, false, .below, 319, 0, 0, 15⟩,
  ⟨0x7001, 0x01, .ro, false, 2, 2, false, .below, 8, 0, 0, 65535⟩,
  ⟨0x7001, 0x02, .rwa, false, 2, 2, false, .one, 1, 100, 10, 10000⟩,
  ⟨0x7001, 0x03, .ro, false, 4, 4, false, .below, 8, 0, 0, 4294967295⟩,
  ⟨0x7001, 0x04, .ro, false, 1, 1, false, .below, 8, 0, 0, 255⟩,
  ⟨0x7010, 0x01, .wo, true, 32, 48, false, .one, 1, 0, 0, 256 ^ 48 - 1⟩,
  ⟨0x7010, 0x02, .wo, true, 1, 1, false, .below, 327680, 0, 1, 1⟩,
  ⟨0x7010, 0x03, .ro, true, 1, 1, false, .below, 327680, 0, 0, 255⟩,
  ⟨0x7010, 0x04, .ro, true, 4, 4, false, .below, 327680, 0, 0, 4294967295⟩,
  ⟨0x7011, 0x01, .wo, false, 32, 48, false, .below, 16, 0, 0, 256 ^ 48 - 1⟩,
  ⟨0x7011, 0x02, .wo, true, 32, 48, false, .below, 16, 0, 0, 256 ^ 48 - 1⟩,
  ⟨0x7012, 0x01, .ro, true, 4, 4, false, .one, 1, 0, 0, 4294967295⟩,
  ⟨0x8010, 0x01, .ro, false, 1, 1, false, .below, 64, 0, 0, 255⟩,
  ⟨0x8010, 0x02, .rwa, false, 2, 2, false, .below, 256, 0, 0, 61439⟩,
  ⟨0x8010, 0x03, .ro, false, 4, 4, false, .below, 16, 0, 0, 4294967295⟩,
  ⟨0x8010, 0x04, .ro, false, 2, 2, false, .one, 1, 0, 0, 65535⟩]

/-- Rows 200 to 239 of the dictionary, in the order of the chapters' tables. -/
def dictRows5 : List ObjRow := [
  ⟨0x8010, 0x05, .ro, false, 4, 4, false, .below, 256, 0, 0, 4294967295⟩,
  ⟨0x8010, 0x06, .ro, false, 4, 4, false, .below, 256, 0, 0, 4294967295⟩,
  ⟨0x8010, 0x07, .ro, false, 4, 4, false, .below, 64, 0, 0, 4294967295⟩,
  ⟨0x8020, 0x01, .rwa, false, 4, 4, false, .below, 52, 0, 0, 4294967295⟩,
  ⟨0x8020, 0x02, .rwa, false, 2, 2, false, .one, 1, 500, 10, 10000⟩,
  ⟨0x8020, 0x03, .ro, false, 4, 4, false, .below, 52, 0, 0, 4294967295⟩,
  ⟨0x8030, 0x01, .rwq, false, 1, 1, false, .one, 1, 16, 1, 64⟩,
  ⟨0x8030, 0x02, .rwa, false, 1, 1, false, .one, 1, 240, 0, 255⟩,
  ⟨0x8030, 0x03, .rwa, false, 2, 2, false, .one, 1, 65535, 0, 65535⟩,
  ⟨0x8030, 0x04, .ro, false, 4, 4, false, .one, 1, 0, 0, 4294967295⟩,
  ⟨0x9050, 0x01, .ro, false, 80, 80, false, .one, 1, 0, 0, 256 ^ 80 - 1⟩,
  ⟨0x8040, 0x01, .ro, false, 1, 1, false, .below, 52, 0, 0, 255⟩,
  ⟨0x8040, 0x02, .ro, false, 4, 4, false, .below, 832, 0, 0, 4294967295⟩,
  ⟨0x8040, 0x03, .ro, false, 16, 16, false, .below, 52, 0, 0, 256 ^ 16 - 1⟩,
  ⟨0x8040, 0x04, .ro, false, 4, 4, false, .below, 52, 0, 0, 4294967295⟩,
  ⟨0x8040, 0x05, .ro, false, 4, 4, false, .below, 52, 0, 0, 4294967295⟩,
  ⟨0x8040, 0x06, .ro, false, 4, 4, false, .below, 52, 0, 0, 4294967295⟩,
  ⟨0x8050, 0x01, .ro, false, 64, 64, false, .below, 64, 0, 0, 256 ^ 64 - 1⟩,
  ⟨0x8051, 0x01, .rwa, false, 4, 4, false, .below, 16, 0, 0, 16777216⟩,
  ⟨0x8051, 0x02, .rwa, false, 4, 4, false, .below, 16, 0, 0, 4294967295⟩,
  ⟨0x8060, 0x01, .rwa, false, 2, 2, false, .one, 1, 20, 2, 1000⟩,
  ⟨0x8060, 0x02, .rwa, false, 2, 2, false, .one, 1, 50, 2, 1000⟩,
  ⟨0x8060, 0x03, .rwa, false, 2, 2, false, .one, 1, 200, 10, 10000⟩,
  ⟨0x8060, 0x04, .ro, false, 1, 1, false, .one, 1, 255, 0, 255⟩,
  ⟨0x8060, 0x05, .ro, false, 4, 4, false, .below, 128, 0, 0, 4294967295⟩,
  ⟨0x8060, 0x06, .ro, false, 4, 4, false, .below, 128, 0, 0, 4294967295⟩,
  ⟨0x8060, 0x07, .ro, false, 4, 4, false, .below, 72, 0, 0, 4294967295⟩,
  ⟨0x8060, 0x08, .ro, false, 4, 4, false, .below, 72, 0, 0, 4294967295⟩,
  ⟨0x8061, 0x01, .rwa, false, 36, 36, false, .below, 16, 0, 0, 256 ^ 36 - 1⟩,
  ⟨0x8061, 0x02, .ro, false, 8, 8, false, .below, 16, 0, 0, 256 ^ 8 - 1⟩,
  ⟨0x8061, 0x03, .rwa, false, 1, 1, false, .one, 1, 0, 0, 2⟩,
  ⟨0x8061, 0x04, .ro, false, 32, 32, false, .below, 4096, 0, 0, 256 ^ 32 - 1⟩,
  ⟨0x8061, 0x05, .ro, false, 4, 4, false, .one, 1, 0, 0, 4294967295⟩,
  ⟨0x9051, 0x01, .ro, false, 48, 48, false, .below, 65, 0, 0, 256 ^ 48 - 1⟩,
  ⟨0x9052, 0x01, .ro, false, 32, 32, false, .one, 1, 0, 0, 256 ^ 32 - 1⟩,
  ⟨0x2010, 0x01, .rwa, false, 1, 1, false, .one, 1, 0, 0, 3⟩,
  ⟨0x2010, 0x02, .ro, false, 1, 1, false, .one, 1, 0, 0, 255⟩,
  ⟨0x2010, 0x03, .ro, false, 8, 8, false, .one, 1, 0, 0, 256 ^ 8 - 1⟩,
  ⟨0x2010, 0x04, .rwa, false, 8, 8, false, .one, 1, 0, 0, 256 ^ 8 - 1⟩,
  ⟨0x2010, 0x05, .wo, false, 1, 1, false, .one, 1, 0, 1, 1⟩]

/-- Rows 240 to 279 of the dictionary, in the order of the chapters' tables. -/
def dictRows6 : List ObjRow := [
  ⟨0x2010, 0x06, .ro, false, 4, 4, true, .one, 1, 0, -2147483648, 2147483647⟩,
  ⟨0x2010, 0x07, .ro, false, 4, 4, false, .one, 1, 0, 0, 4294967295⟩,
  ⟨0x2030, 0x01, .rwa, false, 4, 4, false, .below, 64, 0, 0, 4294967295⟩,
  ⟨0x2030, 0x02, .rwa, false, 4, 4, false, .below, 64, 0, 0, 4294967295⟩,
  ⟨0x2030, 0x03, .ro, false, 8, 8, false, .below, 64, 0, 0, 256 ^ 8 - 1⟩,
  ⟨0x2030, 0x04, .ro, false, 4, 4, false, .below, 64, 0, 0, 4294967295⟩,
  ⟨0x2040, 0x01, .rwa, false, 1, 1, false, .one, 1, 15, 5, 50⟩,
  ⟨0x2040, 0x02, .ro, false, 4, 4, false, .below, 19, 0, 0, 4294967295⟩,
  ⟨0x2040, 0x03, .ro, false, 4, 4, false, .below, 19, 0, 0, 4294967295⟩,
  ⟨0x2040, 0x04, .ro, false, 2, 2, false, .below, 19, 0, 0, 65535⟩,
  ⟨0x2040, 0x05, .ro, false, 1, 1, false, .below, 19, 0, 0, 255⟩,
  ⟨0x2040, 0x06, .ro, false, 4, 4, false, .below, 19, 0, 0, 4294967295⟩,
  ⟨0x2050, 0x01, .rwa, false, 2, 2, false, .below, 65, 0, 0, 65535⟩,
  ⟨0x2050, 0x02, .rwa, false, 2, 2, false, .one, 1, 20, 0, 1000⟩,
  ⟨0x2050, 0x03, .ro, false, 4, 4, false, .below, 65, 0, 0, 4294967295⟩,
  ⟨0x2050, 0x04, .ro, false, 4, 4, false, .below, 65, 0, 0, 4294967295⟩,
  ⟨0x2050, 0x05, .ro, false, 4, 4, false, .below, 65, 0, 0, 4294967295⟩,
  ⟨0x1010, 0x01, .rwa, false, 1, 1, false, .below, 16, 0, 0, 1⟩,
  ⟨0x1010, 0x02, .rwa, false, 1, 1, false, .below, 8, 0, 0, 15⟩,
  ⟨0x1010, 0x03, .rwa, false, 2, 2, false, .below, 16, 0, 0, 4095⟩,
  ⟨0x1010, 0x04, .rwa, false, 1, 1, false, .below, 16, 64, 0, 64⟩,
  ⟨0x1010, 0x05, .rwa, false, 2, 2, false, .below, 16, 0, 0, 4094⟩,
  ⟨0x1020, 0x01, .rwa, false, 16, 16, false, .below, 2, 0, 0, 256 ^ 16 - 1⟩,
  ⟨0x1020, 0x02, .rwa, false, 1, 1, false, .below, 2, 64, 0, 128⟩,
  ⟨0x1020, 0x03, .rwa, false, 16, 16, false, .below, 2, 0, 0, 256 ^ 16 - 1⟩,
  ⟨0x1020, 0x04, .rwa, false, 2, 2, false, .one, 1, 4871, 0, 65535⟩,
  ⟨0x1020, 0x05, .ro, false, 6, 6, false, .below, 2, 0, 0, 256 ^ 6 - 1⟩,
  ⟨0x1030, 0x01, .rwa, false, 1, 1, false, .one, 1, 3, 1, 6⟩,
  ⟨0x1030, 0x02, .ro, false, 4, 4, false, .one, 1, 0, 0, 4294967295⟩,
  ⟨0x1040, 0x01, .ro, false, 4, 4, false, .below, 16, 0, 0, 4294967295⟩,
  ⟨0x1040, 0x02, .ro, false, 4, 4, false, .below, 16, 0, 0, 4294967295⟩,
  ⟨0x1040, 0x03, .ro, false, 12, 12, false, .below, 16, 0, 0, 256 ^ 12 - 1⟩,
  ⟨0x1040, 0x04, .ro, false, 4, 4, false, .below, 16, 0, 0, 4294967295⟩,
  ⟨0x8070, 0x01, .rwa, false, 1, 1, false, .one, 1, 0, 1, 5⟩,
  ⟨0x8070, 0x02, .ro, false, 1, 1, false, .one, 1, 0, 0, 255⟩,
  ⟨0x8070, 0x03, .rwa, false, 1, 1024, false, .any, 0, 0, 0, 256 ^ 1024 - 1⟩,
  ⟨0x8070, 0x04, .rwa, false, 4, 4, false, .one, 1, 0, 0, 536870912⟩,
  ⟨0x8070, 0x05, .ro, false, 1, 1, false, .one, 1, 0, 0, 255⟩,
  ⟨0x8070, 0x06, .rwa, false, 4, 4, false, .one, 1, 600, 60, 86400⟩,
  ⟨0x8080, 0x01, .rwa, false, 1, 1, false, .prof, 0, 0, 1, 5⟩]

/-- Rows 280 to 319 of the dictionary, in the order of the chapters' tables. -/
def dictRows7 : List ObjRow := [
  ⟨0x8080, 0x02, .ro, false, 1, 1, false, .prof, 0, 0, 0, 255⟩,
  ⟨0x8080, 0x03, .rwa, false, 1, 1024, false, .any, 0, 0, 0, 256 ^ 1024 - 1⟩,
  ⟨0x8080, 0x04, .rwa, false, 4, 4, false, .prof, 0, 0, 0, 4294967295⟩,
  ⟨0x8080, 0x05, .rwa, false, 64, 64, false, .one, 1, 0, 0, 256 ^ 64 - 1⟩,
  ⟨0x9060, 0x01, .ro, true, 32, 32, false, .below, 16384, 0, 0, 256 ^ 32 - 1⟩,
  ⟨0x9060, 0x02, .ro, true, 4, 4, false, .one, 1, 0, 0, 4294967295⟩,
  ⟨0x9060, 0x03, .ro, true, 32, 32, false, .any, 0, 0, 0, 256 ^ 32 - 1⟩,
  ⟨0x1000, 0x01, .ro, false, 16, 16, false, .one, 1, 108125306390442469911438075645688545280, 0, 256 ^ 16 - 1⟩,
  ⟨0x1000, 0x02, .ro, false, 2, 2, false, .one, 1, 16689, 0, 65535⟩,
  ⟨0x1000, 0x03, .ro, false, 8, 8, false, .one, 1, 0, 0, 256 ^ 8 - 1⟩,
  ⟨0x1000, 0x04, .ro, false, 16, 16, false, .one, 1, 0, 0, 256 ^ 16 - 1⟩,
  ⟨0x1000, 0x05, .ro, false, 1, 1, false, .one, 1, 0, 0, 255⟩,
  ⟨0x1000, 0x06, .ro, false, 4, 4, false, .one, 1, 0, 0, 4294967295⟩,
  ⟨0x1000, 0x07, .ro, false, 4, 4, false, .one, 1, 0, 0, 4294967295⟩,
  ⟨0x1000, 0x08, .ro, false, 4, 4, false, .one, 1, 0, 0, 4294967295⟩,
  ⟨0x1000, 0x09, .ro, false, 4, 4, false, .one, 1, 0, 0, 4294967295⟩,
  ⟨0x1001, 0x01, .rw, false, 32, 32, false, .one, 1, 0, 0, 256 ^ 32 - 1⟩,
  ⟨0x9000, 0x01, .ro, false, 32, 32, false, .below, 64, 0, 0, 256 ^ 32 - 1⟩,
  ⟨0x9000, 0x02, .ro, false, 1, 1, false, .one, 1, 0, 0, 255⟩,
  ⟨0x9000, 0x03, .ro, false, 4, 4, false, .one, 1, 0, 0, 4294967295⟩,
  ⟨0x9000, 0x04, .ro, false, 1, 1, false, .one, 1, 255, 0, 255⟩,
  ⟨0x9000, 0x05, .ro, false, 4, 4, false, .one, 1, 0, 0, 4294967295⟩,
  ⟨0x9000, 0x06, .rwa, false, 4, 4, false, .one, 1, 0, 0, 4294967295⟩,
  ⟨0x9010, 0x01, .ro, false, 32, 32, false, .unit, 0, 0, 0, 256 ^ 32 - 1⟩,
  ⟨0x9010, 0x02, .ro, false, 4, 4, false, .unit, 0, 0, 0, 4294967295⟩,
  ⟨0x9010, 0x03, .ro, false, 4, 4, false, .unit, 0, 0, 0, 4294967295⟩,
  ⟨0x9010, 0x04, .rwa, false, 4, 4, false, .one, 1, 64, 1, 65535⟩,
  ⟨0x9020, 0x01, .ro, false, 16, 16, false, .below, 256, 0, 0, 256 ^ 16 - 1⟩,
  ⟨0x9020, 0x02, .ro, false, 2, 2, false, .one, 1, 0, 0, 65535⟩,
  ⟨0x9020, 0x03, .rwa, false, 2, 2, false, .one, 1, 65535, 0, 65535⟩,
  ⟨0x9020, 0x04, .rwa, false, 1, 1, false, .one, 1, 0, 1, 1⟩,
  ⟨0x9020, 0x05, .ro, false, 4, 4, false, .one, 1, 0, 0, 4294967295⟩,
  ⟨0x9030, 0x01, .ro, false, 1, 1, false, .one, 1, 3, 0, 255⟩,
  ⟨0x9030, 0x02, .rwa, false, 1, 1, false, .one, 1, 0, 1, 60⟩,
  ⟨0x9030, 0x03, .ro, false, 4, 4, false, .one, 1, 0, 0, 4294967295⟩,
  ⟨0x9061, 0x01, .ro, false, 1, 1, false, .below, 8, 0, 0, 255⟩,
  ⟨0x9061, 0x02, .ro, false, 8, 8, false, .below, 8, 0, 0, 256 ^ 8 - 1⟩,
  ⟨0x9061, 0x03, .rwa, false, 1, 1, false, .below, 8, 0, 1, 1⟩,
  ⟨0xF000, 0x01, .ro, false, 32, 32, false, .one, 1, 0, 0, 256 ^ 32 - 1⟩,
  ⟨0xF000, 0x02, .rwa, false, 1, 1, false, .one, 1, 0, 1, 1⟩]

/-- Rows 320 to 348 of the dictionary, in the order of the chapters' tables. -/
def dictRows8 : List ObjRow := [
  ⟨0xF000, 0x03, .rwa, false, 2, 2, false, .one, 1, 0, 165, 165⟩,
  ⟨0xF000, 0x04, .ro, false, 4, 4, false, .one, 1, 0, 0, 4294967295⟩,
  ⟨0xF000, 0x05, .ro, false, 4, 4, false, .one, 1, 0, 0, 4294967295⟩,
  ⟨0xA000, 0x01, .rwa, false, 1, 1, false, .one, 1, 255, 0, 255⟩,
  ⟨0xA000, 0x02, .rwa, false, 1, 1, false, .one, 1, 0, 0, 255⟩,
  ⟨0xA000, 0x03, .ro, false, 1, 1, false, .one, 1, 0, 0, 255⟩,
  ⟨0xA000, 0x04, .rwa, false, 1, 1, false, .one, 1, 0, 0, 7⟩,
  ⟨0xA000, 0x05, .rwa, false, 8, 8, false, .one, 1, 72623859790382848, 0, 256 ^ 8 - 1⟩,
  ⟨0xA000, 0x06, .rwa, false, 1, 1, false, .one, 1, 0, 0, 7⟩,
  ⟨0xA000, 0x07, .ro, false, 4, 4, false, .one, 1, 0, 0, 4294967295⟩,
  ⟨0xA000, 0x08, .wo, false, 1, 1, false, .below, 8, 0, 1, 1⟩,
  ⟨0xA010, 0x01, .ro, false, 2, 2, false, .below, 4, 0, 0, 65535⟩,
  ⟨0xA010, 0x02, .ro, false, 4, 4, false, .below, 4, 0, 0, 4294967295⟩,
  ⟨0xA010, 0x10, .ro, false, 4, 4, false, .below, 4, 0, 0, 4294967295⟩,
  ⟨0xA010, 0x11, .ro, false, 4, 4, false, .below, 4, 0, 0, 4294967295⟩,
  ⟨0xA010, 0x12, .ro, false, 4, 4, false, .below, 4, 0, 0, 4294967295⟩,
  ⟨0xA010, 0x13, .ro, false, 4, 4, false, .below, 4, 0, 0, 4294967295⟩,
  ⟨0xA010, 0x14, .ro, false, 4, 4, false, .below, 4, 0, 0, 4294967295⟩,
  ⟨0xA010, 0x15, .ro, false, 4, 4, false, .below, 4, 0, 0, 4294967295⟩,
  ⟨0xA010, 0x16, .ro, false, 4, 4, false, .below, 4, 0, 0, 4294967295⟩,
  ⟨0xA010, 0x17, .ro, false, 4, 4, false, .below, 4, 0, 0, 4294967295⟩,
  ⟨0xA010, 0x18, .ro, false, 4, 4, false, .below, 4, 0, 0, 4294967295⟩,
  ⟨0xA010, 0x19, .ro, false, 4, 4, false, .below, 4, 0, 0, 4294967295⟩,
  ⟨0xA020, 0x01, .wo, true, 12, 12, false, .below, 262144, 0, 0, 256 ^ 12 - 1⟩,
  ⟨0xA020, 0x02, .ro, true, 1, 1, false, .below, 262144, 0, 0, 255⟩,
  ⟨0xA030, 0x01, .ro, true, 1, 1, false, .any, 0, 255, 0, 255⟩,
  ⟨0xA030, 0x02, .ro, false, 4, 4, false, .one, 1, 0, 0, 4294967295⟩,
  ⟨0xA040, 0x01, .ro, false, 2, 2, false, .one, 1, 0, 0, 65535⟩,
  ⟨0xA040, 0x02, .ro, false, 4, 4, false, .one, 1, 0, 0, 4294967295⟩]

/-- Every object of the dictionary (17 R437, R438). -/
def dictRows : List ObjRow :=
  dictRows0 ++ dictRows1 ++ dictRows2 ++ dictRows3 ++ dictRows4 ++ dictRows5 ++ dictRows6 ++ dictRows7 ++ dictRows8

/-- The object INDEX and SUB name (17 R437, R440), subindex 0 apart. -/
def findObj (idx sub : Nat) : Option ObjRow := dictRows.find? (fun r => r.idx == idx && r.sub == sub)

/-- Highest subindex defined at an index; none where no object stands (17 R440). -/
def highestSub (idx : Nat) : Option Nat :=
  match dictRows.filter (fun r => r.idx == idx) with
  | [] => none
  | l => some (l.foldl (fun m r => max m r.sub) 0)

/-! ### Profiles (07 R175, Table 7.1; R185; R469) -/

def isVendor (id : Nat) : Bool := decide (1 ≤ id ∧ id ≤ 5)
def isPublished (id : Nat) : Bool := [0x10, 0x11, 0x12, 0x20, 0x21].contains id
def isCustomer (id : Nat) : Bool := decide (0x80 ≤ id ∧ id ≤ 0xFF)
def isProfile (id : Nat) : Bool := isVendor id || isPublished id || isCustomer id
/-- Symbol (or chip) rate, per second. -/
def profileRate (id : Nat) : Nat :=
  match id with
  | 1 => 2400 | 2 => 2400 | 3 => 4800 | 4 => 9600 | 5 => 50000
  | 0x10 => 50000 | 0x11 => 100000 | 0x12 => 100000 | 0x20 => 100000 | 0x21 => 100000
  | _ => max 1 (Config.customerRate id)
/-- Merge width M of a profile. -/
def profileM (id : Nat) : Nat :=
  match id with
  | 1 => 1 | 2 => 1 | 3 => 1 | 4 => 2 | 5 => 8 | 0x10 => 8 | 0x11 => 16 | 0x12 => 16 | 0x20 => 32 | 0x21 => 32
  | _ => max 1 (Config.customerM id)
/-- 4-GFSK (two bits a symbol). -/
def profileFour (id : Nat) : Bool :=
  match id with
  | 1 => false | 2 => false | 3 => true | 4 => true | 5 => true | 0x12 => true
  | 0x10 => false | 0x11 => false | 0x20 => false | 0x21 => false
  | _ => Config.customerFour id
/-- Longest air frame, in ticks (Table 7.1 and R469; 6,400 ticks are 1 ms). -/
def profileLongest (id : Nat) : Nat :=
  match id with
  | 1 => 5248000 | 2 => 20608000 | 3 => 1344000 | 4 => 672000 | 5 => 129024
  | 0x10 => 2112000 | 0x11 => 1056000 | 0x12 => 531200 | 0x20 => 224000 | 0x21 => 153600
  | _ => Config.customerLongest id
/-- Symbol period in ticks, rounded up. -/
def symbolTicks (id : Nat) : Nat := ceilDiv 6400000 (profileRate id)
/-- Default ramp spacing (09 R256); 0 for a customer profile, whose package gives it (customerSpacing). -/
def defaultSpacing (id : Nat) : Nat :=
  if isVendor id then (match id with | 1 => 83 | 2 => 83 | 3 => 42 | 4 => 21 | _ => 4)
  else if id = 0x20 ∨ id = 0x21 then 2
  else if isCustomer id then 0
  else 1
/-- Default ramp spacing of a customer profile whose package has a downlink, by its symbol period (09 R256). -/
def customerSpacing (id : Nat) : Nat := max 1 ((2 * 6400000 + 32 * profileRate id) / (64 * profileRate id))

/-- The raised cosine of 09 R256 for N = 32: P[i] = round(65,535 x (1 - cos(pi (i + 1) / 32)) / 2). -/
def defaultRampPoints : List Nat := [158, 630, 1411, 2494, 3869, 5522, 7438, 9597, 11980, 14563, 17321, 20228, 23256, 26375, 29556, 32768, 35979, 39160, 42279, 45307, 48214, 50972, 53555, 55938, 58097, 60013, 61666, 63041, 64124, 64905, 65377, 65535]
/-- A ramp profile as the 66 octets of 09 Table 9.5. -/
def rampOctets (pts : List Nat) : Nat :=
  fromBE (pts.length :: 0 :: (pts ++ List.replicate (32 - pts.length) 0).flatMap (octetsBE 2))
/-- 64 taps that a vendor package loads: those free in Config where they sum to 32,768 (09 R251), else an even 512 each. -/
def vendorSet (set : Nat) : Nat :=
  let v := Config.vendorTaps set % 256 ^ 128
  if ((List.range 64).map (fun i => toSigned 16 (octField 128 v (2 * i) (2 * i + 1)))).sum = 32768 then v
  else fromBE ((List.replicate 64 512).flatMap (octetsBE 2))
/-- DEV of the sets loaded at delivery (09 R251). -/
def vendorDev (set : Nat) : Nat := match set with | 0 => 12000 | 1 => 12000 | 2 => 4800 | 3 => 9600 | _ => 50000

/-- The value an object's element reads before anything is written (17 R464). -/
def dictDefault (idx sub el : Nat) : Nat :=
  match idx, sub with
  | 0x6000, 0x02 => if el = 0 then 256 else 0
  | 0x1010, 0x01 => if el = 0 then 1 else 0
  | 0x1010, 0x03 => if el = 0 then 0x0FFF else 0
  | 0x5000, 0x04 => defaultSpacing el
  | 0x5010, 0x01 => if el < 5 then
      vendorSet el * 256 ^ 8 + vendorDev el * 256 ^ 4 + (65536 - 120) * 65536 else 0
  | 0x5010, 0x02 => if isVendor el then el - 1 else 0
  | 0x5020, 0x01 => rampOctets defaultRampPoints
  | 0x5021, 0x01 => match el with
      | 0 => (65536 - 128) * 2 ^ 32 + (65536 - 101) * 65536 + (65536 - 500)
      | 1 => 101 * 2 ^ 32 + 127 * 65536 + (65536 - 500)
      | _ => 1 * 2 ^ 32
  | 0x5030, 0x03 => Config.replyDelay el
  | _, _ => match findObj idx sub with
      | some r => r.dflt
      | none => 0

/-- Key of an object's element in State.settings. -/
def skey (vi idx sub el : Nat) : Nat := ((vi * 65536 + idx) * 256 + sub) * 2 ^ 32 + el
/-- The setting of a device-scope object (17 R443: the value of VI 0). -/
def setting (s : State) (idx sub el : Nat) : Nat := tabGet (dictDefault idx sub el) s.settings (skey 0 idx sub el)
/-- The setting of an object of VI scope, for one VI. -/
def settingVi (s : State) (vi idx sub el : Nat) : Nat :=
  tabGet (dictDefault idx sub el) s.settings (skey vi idx sub el)
def putSetting (s : State) (vi idx sub el v : Nat) : State :=
  { s with settings := tabSet (dictDefault idx sub el) s.settings (skey vi idx sub el) v }
/-- A setting that waits for a bell (05 R146; 06 R174; 16 R423). -/
def stageSetting (s : State) (bell idx sub el v : Nat) : State :=
  { s with rx := { s.rx with staged := (s.rx.staged.filter (fun x => x.key ≠ skey 0 idx sub el)) ++
      [⟨bell, skey 0 idx sub el, v⟩] } }
/-- What a read of a setting returns: the value last written. -/
def readSetting (s : State) (vi idx sub el : Nat) : Nat :=
  match s.rx.staged.find? (fun x => x.key == skey vi idx sub el) with
  | some x => x.value
  | none => settingVi s vi idx sub el

/-- Whether a selector value names an element (17 R441). -/
def unitRange (kind : Nat) : Nat :=
  match kind with
  | 1 => 52 | 2 => 8 | 3 => 8 | 4 => 9 | 5 => 16 | 6 => 4 | 7 => 2 | 8 => 2 | 9 => 19 | 10 => 4 | 11 => 1
  | 12 => 2 | 13 => 1 | 14 => 1 | 15 => 1 | 16 => 64 | 17 => 1 | _ => 0
/-- Whether a unit identity exists (15 R390, Table 15.1). -/
def isUnit (u : Nat) : Bool := decide (u < 65536) && decide (u % 256 < unitRange (u / 256))
/-- Selectors of chunks: an offset of 1,024 octets' multiples, below the profile identifier for a package (16 R428, R429). -/
def chunkSel (idx el : Nat) : Bool :=
  if idx = 0x8070 then decide (el % 1024 = 0) && decide (el < 536870912)
  else if idx = 0x8080 then decide (el % 1024 = 0) && isProfile (el / 2 ^ 24)
  else true
def selOk (r : ObjRow) (el : Nat) : Bool :=
  match r.sel with
  | .one => el == 0
  | .below => decide (el < r.selN)
  | .prof => isProfile el
  | .unit => isUnit el
  | .any => decide (el < 2 ^ 32) && chunkSel r.idx el

/-- Value of an object's written octets as the number its range speaks of. -/
def objValue (r : ObjRow) (v : Nat) : Int := if r.signed then toSigned (8 * r.lenHi) v else v
def poweroftwo (v : Nat) : Bool := [1, 2, 4, 8, 16, 32].contains v
/-- IDLE of a domain's control word: 1 RECESS, 2 SLEEP, which the domains of engines 4 to 7 lack; 0 and 3 are reserved (14
Table 14.7). -/
def idleOk (d v : Nat) : Bool := bitsOf v 6 5 == 1 || (bitsOf v 6 5 == 2 && !(decide (60 ≤ d) && decide (d < 64)))
/-- A wrapped key block: TYPE, reserved octets and length agree (10 Table 10.6). -/
def blockForm (len v : Nat) : Bool :=
  let ty := octAt len v 4
  octField len v 5 7 == 0 && ((ty == 1 && len == 32) || (ty == 2 && len == 48))
/-- Permitted sets that are no interval (00 R7), beside the range of the row. -/
def valueExtra (idx sub el len v : Nat) : Bool :=
  match idx, sub with
  | 0x2000, 0x05 => [2, 3, 7].contains v
  | 0x2050, 0x01 => idleOk el v
  | 0x7010, 0x01 => blockForm len v
  | 0x7011, _ => blockForm len v
  | 0x3030, 0x01 => decide (v ≤ 11) || v == 0xFF
  | 0x4003, 0x01 => poweroftwo v
  | 0x4010, 0x01 => v == 0 || isProfile v
  | 0x6021, 0x01 => decide (v % 65536 = 0) && decide ((v / 65536) % 65536 ≤ 65534)
  | 0x5010, 0x01 => decide (v % 65536 = 0)
  | 0x5030, 0x03 => el == 0x20 || el == 0x21
  | 0x8080, 0x01 => v != 4
  | 0x2010, 0x04 => decide (v % 32 = 0)
  | 0xA000, 0x01 => decide (v ≤ 7) || v == 0xFF
  | 0xA000, 0x05 => (octetsBE 8 v).all (fun o => decide (o ≤ 7))
  | 0x8061, 0x01 => decide (octAt 36 v 0 ≤ 3) && decide (octAt 36 v 1 < 64) && decide (octAt 36 v 2 < 32)
      && decide (octAt 36 v 2 % 8 ≤ 5) && octAt 36 v 3 == 0
  | 0x9020, 0x03 => isUnit v
  | _, _ => true
def valueOk (r : ObjRow) (el len v : Nat) : Bool :=
  decide (r.lo ≤ objValue r v) && decide (objValue r v ≤ r.hi) && valueExtra r.idx r.sub el len v

end Sys2Proof.Machine
end

