-- ==== Sys2Proof/Machine/Report.lean ====
section
/-! DEFINITION. What the module says of itself: notifications to collectors (16 R427), error records (15 R396 to
R399), the transaction journal (16 R425), the staging buffer's journals (03 R69) and mode transitions (02 R50). -/

namespace Sys2Proof.Machine

/-! ### Virtual interfaces and collectors -/

def viEnabled (s : State) (vi : Nat) : Bool := setting s 0x1010 1 vi == 1
/-- Owner of a bin group (16 Table 16.4). -/
def groupOwner (s : State) (g : Nat) : Nat := setting s 0x1010 2 g
/-- Address and port of collector c of a VI; 0 unconfigured (07 R200). -/
def collector (s : State) (vi c : Nat) : Nat := settingVi s vi 0x4040 1 c
def collectors (s : State) (vi : Nat) : List Nat := (List.range 4).filter (fun c => collector s vi c ≠ 0)

def officeInService (s : State) : Bool := s.fault.officeA == .active || s.fault.officeB == .active
/-- A standby pair can take over (02 Table 2.3 OFFICE; 15 R404). -/
def standbyPresent (s : State) : Bool := s.fault.officeA == .standby || s.fault.officeB == .standby
def officePair (s : State) (p : Nat) : OfficeState := if p = 0 then s.fault.officeA else s.fault.officeB
def setOffice (s : State) (p : Nat) (x : OfficeState) : State :=
  if p = 0 then { s with fault := { s.fault with officeA := x } }
  else { s with fault := { s.fault with officeB := x } }
def activePair (s : State) : Option Nat :=
  if s.fault.officeA = .active then some 0 else if s.fault.officeB = .active then some 1 else none

/-- Ethernet lanes run in these modes (02 Table 2.8). -/
def ethernetUp (s : State) (l : Nat) : Bool :=
  (match s.mode.mode with
   | .off => false | .boot => false | .lastGasp => false | _ => true) && tabGet false s.molfen.linkUp l
/-- Whether lane l's prefix covers an address (16 R427, R432): with no address configured the lane has only its
link-local prefix. -/
def laneCovers (s : State) (l addr : Nat) : Bool :=
  let own := tabGet 0 s.molfen.addr l
  let n := if own = 0 then 64 else min 128 (setting s 0x1020 2 l)
  let base := if own = 0 then 0xFE80 * 2 ^ 112 else own
  addr / 2 ^ (128 - n) == base / 2 ^ (128 - n)
/-- The Ethernet lane a notification leaves on (16 R427). -/
def notifyLane (s : State) (addr : Nat) : Option Nat :=
  match (List.range 2).find? (fun l => ethernetUp s l && laneCovers s l addr) with
  | some l => some l
  | none => (List.range 2).find? (fun l => ethernetUp s l)

/-- The module's own counter of a VI at its end (16 R415). -/
def txLimit : Nat := 2 ^ 48 - 2 ^ 16
def txCntOf (s : State) (vi : Nat) : Nat := tabGet 0 s.molfen.txCnt vi
/-- One more message sent for a VI: its counter rises by one, and a further block of 1,024 is reserved in MRAM before
the reserved one is used up (16 R415). -/
def countSent (s : State) (vi : Nat) : State :=
  let n := txCntOf s vi + 1
  let r := tabGet 0 s.molfen.txReserved vi
  { s with molfen := { s.molfen with
      txCnt := tabSet 0 s.molfen.txCnt vi n
      txReserved := if r < n then tabSet 0 s.molfen.txReserved vi (r + 1024) else s.molfen.txReserved } }

/-- Handle of a VI's management key (10 R281). -/
def managementKeyOf (v : Nat) : Nat := 326672 + v
def managementKey (s : State) (vi : Nat) : List Nat := (keyOf s (managementKeyOf vi)).key
/-- The octets of a message the module sends: header, body, and the leading 8 octets of the AES-CMAC under a key (16 Table
16.1; 10 R285). -/
def molfenMsg (key : List Nat) (type vi cnt : Nat) (body : List Nat) : List Nat :=
  let o := [1, type, vi, 0] ++ octetsBE 6 cnt ++ octetsBE 2 body.length ++ body
  o ++ (aesCmac key o).take 8
/-- One notification of a TYPE to one collector, with its body (16 R427). -/
def notifyOne (s : State) (vi c type : Nat) (body : List Nat) (mk : Nat → List Nat → Emission) : State :=
  match notifyLane s (collector s vi c / 65536) with
  | none => s
  | some l =>
    if txCntOf s vi < txLimit then
      emit (mk l (molfenMsg (managementKey s vi) type vi (txCntOf s vi + 1) body)) (countSent s vi)
    else s
/-- A notification to every configured collector of an enabled VI. -/
def notifyVi (s : State) (vi type : Nat) (body : List Nat) (mk : Nat → Nat → List Nat → Emission) : State :=
  if viEnabled s vi && officeInService s then
    (collectors s vi).foldl (fun t c => notifyOne t vi c type body (mk c)) s
  else s
/-- Body of an EVENT: KIND and its data, a record of 32 octets or the 0x2000:08 word, high byte first (16
R427; 00 R4). -/
def eventBody (kind data : Nat) : List Nat := kind :: (if kind = 2 then octetsBE 4 data else octetsBE 32 data)
/-- EVENT notification (16 R427). -/
def event (s : State) (vi kind data : Nat) : State :=
  notifyVi s vi 0x13 (eventBody kind data) (fun c l => .event vi c l kind data)
def eventAll (s : State) (kind data : Nat) : State := (List.range 16).foldl (fun t vi => event t vi kind data) s

/-! ### Error records -/

/-- The 256 bits of an error record (15 Table 15.3). -/
def packErr (r : ErrRec) : Nat :=
  pack [(32, r.eseq), (63, r.time), (1, b2n r.timeOk), (16, r.unit), (8, errCodeOf r.code), (2, severityCode r.severity),
    (2, r.handled), (4, 0), (8, statusCode r.status), (32, r.parent), (40, r.addr), (32, r.detail), (16, 0)]

/-- What an error record says beside its number and time. -/
structure ErrBody where
  unit : Nat
  code : ErrCode
  severity : Severity
  status : Status := .ok
  parent : Nat := 0xFFFFFFFF
  addr : Nat := 0
  detail : Nat := 0
  /-- handling continues after the command (15 R398) -/
  open_ : Bool := false

/-- Remove the newest record of the lowest severity held (15 R399). -/
def dropLowest (q : List ErrRec) : List ErrRec :=
  let low := q.foldl (fun m r => min m (severityCode r.severity)) 3
  let rec go : List ErrRec → List ErrRec
    | [] => []
    | r :: t => if severityCode r.severity = low then t else r :: go t
  (go q.reverse).reverse

/-- A fault is recorded (15 R396 to R399): its ESEQ, its place in the queue of 64, the unit's report card, the relay its
severity drops (R412), and the EVENT to VI 0 for a stored record. -/
def errRecord (b : ErrBody) (s : State) : State :=
  let (t, ok) := stamp s
  let n := s.fault.nextEseq
  let r : ErrRec := { eseq := n, time := t, timeOk := ok, unit := b.unit, code := b.code, severity := b.severity,
                      handled := if b.open_ then 0 else 1, status := b.status, parent := b.parent, addr := b.addr,
                      detail := b.detail }
  let c := cardOf s b.unit
  let s := setCard s b.unit { c with lastFault := n,
                                      uncorr := if b.code = .eccUncorr then inc32 c.uncorr else c.uncorr }
  let full := decide (64 ≤ s.fault.queue.length)
  let stored := !full || b.severity == .safe
  let s := { s with fault := { s.fault with
      nextEseq := seqNext n
      newest := n
      queue := if full then (if stored then dropLowest s.fault.queue ++ [r] else s.fault.queue)
               else s.fault.queue ++ [r]
      notStored := if full then inc32 s.fault.notStored else s.fault.notStored
      safeCause := if b.severity = .safe ∧ stored then s.fault.safeCause ++ [n] else s.fault.safeCause
      major := s.fault.major && !(stored && (b.severity == .major || b.severity == .safe))
      minor := s.fault.minor && !(full || b.severity == .minor) } }
  if stored then event s 0 1 (packErr r) else s

/-- The ESEQ the next record takes. -/
def nextEseq (s : State) : Nat := s.fault.nextEseq
/-- A record's handling ends (15 R398). -/
def closeErr (s : State) (eseq st : Nat) : State :=
  { s with fault := { s.fault with
      queue := s.fault.queue.map (fun r => if r.eseq = eseq then { r with handled := st } else r) } }

/-! ### Fences (15 R401, R406) -/

def isFenced (s : State) (unit : Nat) : Bool :=
  s.fault.detention.any (fun d => match d with
    | .unit u _ => u == unit
    | .desc _ _ _ _ => false)
/-- Remove the oldest bad-descriptor entry. -/
def dropOldestDesc : List Detained → List Detained
  | [] => []
  | .desc _ _ _ _ :: t => t
  | d :: t => d :: dropOldestDesc t
/-- An entry joins the detention list of 256: bad descriptors give way, fenced units never do (15 R406). -/
def detain (d : Detained) (s : State) : State :=
  if s.fault.detention.length < 256 then
    { s with fault := { s.fault with detention := s.fault.detention ++ [d] } }
  else if (dropOldestDesc s.fault.detention).length < 256 then
    { s with fault := { s.fault with detention := dropOldestDesc s.fault.detention ++ [d],
                                     overwritten := inc32 s.fault.overwritten } }
  else s
/-- A unit goes onto the detention list, with the ESEQ of the fencing record, and its card reads fenced. -/
def listFence (unit ref : Nat) (s : State) : State :=
  if isFenced s unit then s
  else
    let s := detain (.unit unit ref) s
    let c := cardOf s unit
    setCard s unit { c with cstate := 2, grade := 3, fences := (c.fences + 1) % 65536 }

/-! ### Transaction journal and staging buffer -/

def nextJseqOf (s : State) : Nat := s.roll.nextJseq
/-- A record enters the staging buffer in its class of 03 R71, taking the next JSEQ (08 R226). -/
def stageJournal (cls : Nat) (mk : Nat → StagedItem) (s : State) : State :=
  { s with roll := { s.roll with
      nextJseq := seqNext s.roll.nextJseq
      newestJseq := s.roll.nextJseq
      staging := s.roll.staging ++ [(cls, mk s.roll.nextJseq)] } }
/-- A conservation journal append (15 Table 15.8; 03 R71 class 1). -/
def conserve (kind data : Nat) (s : State) : State := stageJournal 0 (fun _ => .conservation kind data) s

/-- A term of the frame account (false) or of the downlink account (true) as it now stands (03 R71 class 5). -/
def accountRecord (downlink : Bool) (key value : Nat) (s : State) : State :=
  stageJournal 4 (fun _ => .account downlink key value) s

/-- A term of the frame account rises by one (06 R173); the change is journaled. -/
def frameBump (key : Nat) (s : State) : State :=
  let v := (tabGet 0 s.sweep.account key + 1) % 2 ^ 64
  accountRecord false key v { s with sweep := { s.sweep with account := tabSet 0 s.sweep.account key v } }

/-- The 256 bits of a transaction journal record (16 Table 16.5). -/
def packTx (r : TxRec) : Nat :=
  pack [(32, r.tseq), (8, r.kind), (4, r.vi), (4, r.gstate), (8, r.items), (8, r.done), (8, statusCode r.failStat),
    (8, r.failItem), (48, r.cnt), (64, r.time), (1, b2n r.timeOk), (15, 0), (16, r.token), (32, r.detail)]
/-- A record joins the transaction journal under the next TSEQ. -/
def journalPut (mk : Nat → TxRec) (s : State) : State :=
  let n := s.molfen.nextTseq
  conserve 1 n { s with molfen := { s.molfen with
      nextTseq := seqNext n
      newestTseq := n
      journal := tabSet none s.molfen.journal (n % 16384) (some (mk n)) } }
/-- Change a record that the journal still holds. -/
def journalMod (tseq : Nat) (f : TxRec → TxRec) (s : State) : State :=
  match tabGet none s.molfen.journal (tseq % 16384) with
  | some r => if r.tseq = tseq then
      { s with molfen := { s.molfen with journal := tabSet none s.molfen.journal (tseq % 16384) (some (f r)) } }
    else s
  | none => s
/-- A KIND 3 record with its EVENT to VI 0 (16 R425, R427, R430). -/
def journalStage (cmd st : Nat) (s : State) : State :=
  let (t, ok) := stamp s
  let n := s.molfen.nextTseq
  let r : TxRec := { tseq := n, kind := 3, vi := 0, gstate := 1, time := t, timeOk := ok, detail := cmd * 256 + st }
  event (journalPut (fun _ => r) s) 0 3 (packTx r)

/-! ### Mode transitions -/

/-- The word of 0x2000:08 (02 Table 2.2). -/
def transitionWord (old new cause secs : Nat) : Nat :=
  old * 2 ^ 28 + new * 2 ^ 24 + cause * 2 ^ 16 + min 65535 (secs / 4)
/-- A transition is written to 0x2000:08 and the journal, and announced to every enabled VI (02 R50; 16 R427). -/
def recordTransition (old new : Mode) (cause : Nat) (s : State) : State :=
  let w := transitionWord (modeCode old) (modeCode new) cause (bootSeconds s)
  let (t, ok) := stamp s
  let s := { s with mode := { s.mode with lastTransition := w } }
  let s := journalPut (fun n => { tseq := n, kind := 2, vi := 0, gstate := 1, time := t, timeOk := ok, detail := w }) s
  eventAll s 2 w
/-- A transition of 02 Table 2.7. -/
def transition (cause : Nat) (m : Mode) (s : State) : State :=
  recordTransition s.mode.mode m cause { s with mode := { s.mode with mode := m } }

end Sys2Proof.Machine
end

