-- ==== Sys2Proof/Machine/Ledger.lean ====
section
/-! DEFINITION. The charge ledger and credits of an endpoint: touches, debits, accruals, the hold of a downlink's cost,
and the commit that journals them (08 R221 to R226). -/

namespace Sys2Proof.Machine

/-! ### Slices (08 R207) -/

def sliceBase (s : State) (vi : Nat) : Nat := setting s 0x6000 1 vi
def sliceSize (s : State) (vi : Nat) : Nat := setting s 0x6000 2 vi
/-- Whether a slot lies in a VI's slice. -/
def inSlice (s : State) (vi slot : Nat) : Bool :=
  decide (sliceBase s vi * 1024 ≤ slot) && decide (slot < (sliceBase s vi + sliceSize s vi) * 1024)
/-- The slots of a VI's slice that are not FREE, with their entries. -/
def liveEntries (s : State) (vi : Nat) : List (Nat × Entry) :=
  s.roll.entries.filter (fun p => p.2.status ≠ .free && inSlice s vi p.1)

/-! ### Charge models and credit plans (08 Table 8.6, R223) -/

structure Model where
  sleep : Nat
  upfix : Nat
  upsym : Nat
  rxwin : Nat
  dlsym : Nat
def modelOf (s : State) (m : Nat) : Model :=
  let v := setting s 0x6020 1 m
  ⟨octField 16 v 0 3, octField 16 v 4 7, octField 16 v 8 9, octField 16 v 10 13, octField 16 v 14 15⟩
def planRate (s : State) (p : Nat) : Nat := octField 8 (setting s 0x6021 1 p) 0 3
def planCap (s : State) (p : Nat) : Nat := octField 8 (setting s 0x6021 1 p) 4 5

/-! ### Debits and touches -/

/-- Charge in cu (08 R203). -/
def chargeCu (e : Entry) : Nat := e.charge * 65536 + e.chfrac
def setCu (e : Entry) (cu : Nat) : Entry := { e with charge := cu / 65536, chfrac := cu % 65536 }

/-- The account term a debit goes to (08 Table 8.8). -/
inductive Term where
  | air | rx | dl | sleep
  deriving DecidableEq, Repr
def addTerm (t : Term) (n : Nat) (a : Account) : Account :=
  match t with
  | .air => { a with air := a.air + n }
  | .rx => { a with rx := a.rx + n }
  | .dl => { a with dl := a.dl + n }
  | .sleep => { a with sleep := a.sleep + n }

/-- A debit takes at most what the charge holds; the shortfall goes to UNFUNDED and sets OVERDRAWN (08 R221). -/
def debit (t : Term) (n : Nat) (p : Entry × Account) : Entry × Account :=
  let cu := chargeCu p.1
  let short := n - cu
  let e := setCu p.1 (cu - n)
  (if short = 0 then e else { e with overdrawn := true },
   { addTerm t n p.2 with unfunded := p.2.unfunded + short })

/-- Credit accrual over dt seconds (08 R223). -/
def accrue (rate cap dt : Nat) (p : Entry × Account) : Entry × Account :=
  let total := p.1.crfrac + rate * dt
  let whole := total / 2 ^ 24
  let kept := min whole (cap - (p.1.credits + p.1.held))
  ({ p.1 with crfrac := total % 2 ^ 24, credits := p.1.credits + kept },
   { p.2 with earned := p.2.earned + whole, forfeit := p.2.forfeit + (whole - kept) })

/-- Order 1 of 08 Table 8.7 at ledger second now. -/
def touchBase (m : Model) (rate cap now : Nat) (p : Entry × Account) : Entry × Account :=
  let dt := (now + 2 ^ 32 - p.1.touch % 2 ^ 32) % 2 ^ 32
  let q := accrue rate cap dt (debit .sleep (m.sleep * dt) p)
  ({ q.1 with touch := now }, q.2)

/-- LOWCHARGE: charge below 5 % of INIT + ADJ (08 Table 8.3), re-evaluated at every commit. -/
def markLow (p : Entry × Account) : Entry × Account :=
  ({ p.1 with lowCharge := decide ((20 * chargeCu p.1 : Int) < (p.2.init : Int) + p.2.adj) }, p.2)

/-! ### Entries as the Roll SRAM holds them (08 Table 8.1) -/

def entryFlags (e : Entry) : Nat :=
  b2n e.fresh + 2 * b2n e.sigStore + 4 * b2n e.lowCharge + 8 * b2n e.overdrawn + 16 * b2n (decide (e.defer ≠ 0))
    + 32 * b2n e.rekeyShadow + 64 * b2n e.migrating
/-- The 512 bits of a Roll entry. -/
def packEntry (e : Entry) : Nat :=
  pack [(64, e.identity), (32, e.tag), (4, estatusCode e.status), (4, e.vi), (8, e.profile), (20, e.keyh), (6, e.cmodel),
    (6, e.cplan), (32, e.ucnt), (32, e.dcnt), (64, e.lastAt), (32, e.touch), (32, e.charge), (16, e.chfrac),
    (16, e.credits), (16, e.held), (24, e.crfrac), (5, e.sigBeam), (9, e.lastBin), (3, e.lastMcode), (4, e.defer),
    (3, 0), (16, ofSigned 16 e.margin), (12, e.sigHeads), (4, 0), (16, entryFlags e), (16, e.gen), (16, 0)]

/-- Endpoint account record (08 Table 8.8). -/
def packAccount (a : Account) : Nat :=
  bodyOf [(6, a.init), (6, ofSigned 48 a.adj), (6, a.air), (6, a.rx), (6, a.dl), (6, a.sleep), (6, a.unfunded), (4, a.earned),
    (4, a.granted), (4, a.xin), (4, a.forfeit), (4, a.spent), (4, a.xout), (4, a.reserved), (4, a.refunded), (2, a.gen), (4, 0)]

/-! ### Roll journal records (Table 8.9) -/

def jkind : JBody → Nat
  | .state _ => 1
  | .enrol _ _ => 2
  | .retire _ => 3
  | .account _ _ => 4
  | .rekey _ _ _ _ _ _ => 5
  | .clock _ => 6
/-- BODY, the lowest octet first. Handles and counters of a REKEY take 4 octets each and FRESH one, GAP four (DESIGN CHOICE,
log entry 61). -/
def jbodyOctets : JBody → List Nat
  | .state e => octetsLE 42 (packEntry e / 2 ^ 144)
  | .enrol e charge => octetsLE 18 (packEntry e) ++ octetsLE 4 charge
  | .retire e => octetsLE 42 (packEntry e / 2 ^ 144)
  | .account part a => [part, 0, 0, 0] ++ ((octetsBE 80 (packAccount a)).drop (40 * part)).take 40
  | .rekey oldKeyh ucnt dcnt fresh newKeyh newDcnt =>
    octetsLE 4 oldKeyh ++ octetsLE 4 ucnt ++ octetsLE 4 dcnt ++ [b2n fresh] ++ octetsLE 4 newKeyh ++ octetsLE 4 newDcnt
  | .clock gap => octetsLE 4 gap
/-- The 60 octets of a record before its CRC, little-endian. -/
def jrecOctets (jseq vi cause gen slot lclk : Nat) (b : JBody) : List Nat :=
  (octetsLE 16 (pack [(32, jseq), (8, jkind b), (4, vi), (4, cause), (16, gen), (32, slot), (32, lclk)]) ++ jbodyOctets b
    ++ List.replicate 44 0).take 60
/-- A record's CRC-32 holds (R227). -/
def jrecGood (r : JRec) : Bool := crc32 (jrecOctets r.jseq r.vi r.cause r.gen r.slot r.lclk r.body) == r.crc

/-! ### Commits -/

/-- Causes of a Roll journal record (08 Table 8.9). -/
def causeVerdict : Nat := 0
def causeDownlink : Nat := 1
def causeStation : Nat := 2
def causeSweep : Nat := 3
def causeHandover : Nat := 4
def causeBoot : Nat := 5

/-- The drain class of a Roll journal record (03 R71): ENROL and REKEY records serve counter monotonicity, the second
part of an account holds its credit terms, CLOCK belongs to the others, the rest to the charge ledger. -/
def jclass : JBody → Nat
  | .account 1 _ => 3
  | .enrol _ _ => 1
  | .rekey _ _ _ _ _ _ => 1
  | .clock _ => 5
  | _ => 2
/-- A Roll journal record enters the staging buffer (08 R226). -/
def journalRoll (cause slot : Nat) (e : Entry) (body : JBody) (s : State) : State :=
  stageJournal (jclass body) (fun n => .roll { jseq := n, vi := e.vi, cause := cause, gen := e.gen, slot := slot
                                               lclk := s.time.ledger, body := body
                                               crc := crc32 (jrecOctets n e.vi cause e.gen slot s.time.ledger body) }) s

/-- A commit on an entry: the entry and its account take their values together, and the commit is journaled. -/
def commit (cause slot : Nat) (p : Entry × Account) (s : State) : State :=
  let q := markLow p
  journalRoll cause slot q.1 (.state q.1) (setAccount (setEntry s slot q.1) slot q.2)

/-- The touched entry and account of a slot (08 R221 order 1), not yet committed. -/
def touchedPair (s : State) (slot : Nat) : Entry × Account :=
  let e := entryOf s slot
  touchBase (modelOf s e.cmodel) (planRate s e.cplan) (planCap s e.cplan) s.time.ledger (e, accountOf s slot)
/-- A touch in a commit of its own; an entry that is FREE is never touched. -/
def touch (cause slot : Nat) (s : State) : State :=
  if (entryOf s slot).status = .free then s else commit cause slot (touchedPair s slot) s

/-! ### Credits of a downlink attempt (08 R224) -/

/-- 1 credit plus 1 for each 16 payload octets or part of 16. -/
def requestCost (len : Nat) : Nat := 1 + (len + 15) / 16
/-- The cost moves from CREDITS to HELD and is added to RESERVED. -/
def holdCredits (c : Nat) (p : Entry × Account) : Entry × Account :=
  ({ p.1 with credits := p.1.credits - c, held := p.1.held + c }, { p.2 with reserved := p.2.reserved + c })
/-- The cost moves from HELD to SPENT. -/
def spendCredits (c : Nat) (p : Entry × Account) : Entry × Account :=
  ({ p.1 with held := p.1.held - c }, { p.2 with spent := p.2.spent + c })
/-- The cost returns from HELD to CREDITS and is added to REFUNDED. -/
def refundCredits (c : Nat) (p : Entry × Account) : Entry × Account :=
  ({ p.1 with held := p.1.held - c, credits := p.1.credits + c }, { p.2 with refunded := p.2.refunded + c })

/-! ### The tag index (08 R208) -/

/-- The slot whose entry holds a tag. -/
def slotByTag (s : State) (tag : Nat) : Option Nat :=
  (s.roll.entries.find? (fun p => p.2.status ≠ .free && p.2.tag == tag)).map (·.1)
/-- Whether a tag finds a place beside others: the two buckets of a tag have 16 ways, so below 16 other tags it always does
(DEDUCED, log entry 5). -/
def placesTag (tag : Nat) (others : List Nat) : Bool := decide (others.length < 16) || Config.tagPlaceable tag others
/-- Whether a tag can be placed beside those the index holds. -/
def placeable (s : State) (tag : Nat) : Bool :=
  placesTag tag ((s.roll.entries.filter (fun p => p.2.status ≠ .free)).map (·.2.tag))

/-! ### Key handles (10 R280, R281) -/

/-- The VI a handle's block is assigned to; block 319 belongs to the module. -/
def keyAssigned (s : State) (vi h : Nat) : Bool :=
  decide (h / 1024 < 319) && setting s 0x7000 1 (h / 1024) == vi
/-- A handle held by an entry that is not FREE, or by a re-key shadow. -/
def boundToOther (s : State) (slot h : Nat) : Bool :=
  s.roll.entries.any (fun p => p.2.status ≠ .free && p.2.keyh == h && p.1 ≠ slot)
def inShadow (s : State) (h : Nat) : Bool :=
  s.roll.shadows.any (fun p => match p.2 with
    | some x => x.keyh == h
    | none => false)
def setKeyState (s : State) (h : Nat) (k : KeyState) : State := setKey s h { keyOf s h with kstate := k }
/-- A slot is wiped and becomes EMPTY. -/
def wipeKey (s : State) (h : Nat) : State := setKey s h {}

/-- A term of the counter monotonicity account rises (08 R232). -/
def monoBump (vi term n : Nat) (s : State) : State :=
  { s with roll := { s.roll with monotone := bumpBy s.roll.monotone (8 * vi + term) n } }

end Sys2Proof.Machine
end

