-- ==== Sys2Proof/Machine/Access.lean ====
section
/-! DEFINITION. The item checks every write of an object passes before its owning rule (16 R417, Table 16.3; 17 R439,
R441), shared by the write commands and by REQUEST. -/

namespace Sys2Proof.Machine

/-- Whether handle h lies in a block of a VI, VI 0 and block 319 included (10 R281, R286). -/
def handleOf (s : State) (vi h : Nat) : Bool := keyAssigned s vi h
/-- VI rule of the owning chapter for the element of a WRITE: slots of the caller's slice (08 R207), handles of its
blocks (10 R286), load keys from VI 0 alone and management keys of its own VI or from VI 0 (10 R283). -/
def writeRule (s : State) (vi idx sub el : Nat) : Bool :=
  if idx = 0x6010 ∨ idx = 0x6011 ∨ idx = 0xA020 then inSlice s vi el
  else if idx = 0x7010 ∧ sub = 2 then handleOf s vi el
  else if idx = 0x7011 then (if sub = 1 then vi == 0 else vi == 0 || vi == el)
  else true
def writeAccess (r : ObjRow) (vi : Nat) : Bool :=
  match r.acc with
  | .ro => false
  | .rwa => vi == 0
  | _ => true
/-- LEN fits the type; the key blocks take one of two lengths (17 Table 17.3). -/
def lenOk (r : ObjRow) (len : Nat) : Bool :=
  if r.idx = 0x7010 ∧ r.sub = 1 ∨ r.idx = 0x7011 then len == 32 || len == 48
  else decide (r.lenLo ≤ len) && decide (len ≤ r.lenHi)
def isServing (s : State) : Bool := s.mode.mode == .service || s.mode.mode == .degraded
/-- The element is written by an open group of another VI. -/
def lockedBy (s : State) (vi idx sub el : Nat) : Bool :=
  s.molfen.openGroups.any (fun g => g.1 ≠ vi && g.2 == skey 0 idx sub el)
/-- A port serves the object: none in OFF, none but the emergency status read in LAST_GASP, and the Caretaker alone where
no Office pair is in service (02 Table 2.8; 16 R434; 17 R448). In SAFE the whole dictionary is served, as Table 2.8 gives it full
Molfen, where Table 2.1 gives it management alone (R34; DESIGN CHOICE, log entry 58). -/
def portsServe (s : State) (idx : Nat) : Bool :=
  match s.mode.mode with
  | .off => false
  | .lastGasp => false
  | _ => decide (0xF000 ≤ idx) || officeInService s
/-- Table 16.3 for a WRITE: the status of the first failing check. -/
def writeCheck (s : State) (vi idx sub el len v : Nat) : Option Status :=
  if !portsServe s idx then some .access
  else match findObj idx sub with
  | none => if (sub = 0 ∧ (highestSub idx).isSome) ∨ (idx = 0x1001 ∧ sub = 0x81) then some .access else some .unknown
  | some r =>
    if !writeAccess r vi then some .access
    else if selOk r el && !writeRule s vi idx sub el then some .access
    else if idx = 0x7010 ∧ sub = 1 ∧ 4 ≤ len ∧ handleOf s vi (octField len v 0 3) = false then some .access
    else if !(selOk r el && lenOk r len && decide (v < 256 ^ len) && valueOk r el len v) then some .range
    else if r.acc = .rwq ∧ isServing s then some .refused
    else if lockedBy s vi idx sub el then some .locked
    else none

/-- Objects of the loop-timed rim blocks (01 Table 1.1): bells and their one-shot times, pace timers, lanes, timeline,
Shaper and mask. -/
def rimObject (idx sub : Nat) : Bool :=
  idx == 0x2030 || idx == 0x8051 || idx == 0x3000 || idx == 0x3030 || idx == 0x5010 || idx == 0x5020 || idx == 0x5021
  || (idx == 0x4001 && sub == 3) || (idx == 0x4002 && sub == 5) || (idx == 0x5001 && sub == 3)
/-- A write's own rule, BUSY while the loop-timed rim is stopped (14 R380), but for what the rule answers RANGE (00 R11). -/
def ownRule (idx sub : Nat) (f : State → State × Status) (s : State) : State × Status :=
  if s.time.rimStop && rimObject idx sub then (s, if (f s).2 = .range then .range else .busy) else f s
/-- A station's write: the item checks, then its owning rule. -/
def checkedWrite (vi idx sub el len v : Nat) (f : State → State × Status) (s : State) : State × Status :=
  match writeCheck s vi idx sub el len v with
  | some st => (s, st)
  | none => ownRule idx sub f s
/-- A write that only sets its setting. -/
def plainWrite (vi idx sub el v : Nat) (s : State) : State × Status := (putSetting s vi idx sub el v, .ok)

end Sys2Proof.Machine
end

