-- ==== Sys2Proof/Machine/MeshOps.lean ====
section
/-! DEFINITION. The global address space behind the mesh: nodes, the memories that lie in their windows, poison, and the
port states of power domains (13 R344 to R355; 15 R392). -/

namespace Sys2Proof.Machine

/-! ### Addresses and identities (13 R344, R346) -/

def nodeNum (addr : Nat) : Nat := addr / 2 ^ 33 % 128
def nodeOff (addr : Nat) : Nat := addr % 2 ^ 33
/-- Node numbers of 13 Table 13.1. -/
def nodePrefect : Nat := 60
def nodeCipher : Nat := 63
def nodeKeyStore : Nat := 64
def nodeMarker : Nat := 65
def nodeBuffers : Nat := 80
def nodeRoll : Nat := 81
def nodeCaretaker : Nat := 84
def nodeMram : Nat := 85
/-- Positions that hold a node. -/
def nodeExists (n : Nat) : Bool := decide (n ≤ 71) || decide (80 ≤ n ∧ n ≤ 88) || decide (96 ≤ n ∧ n ≤ 99)
/-- Node number and SUB of an initiator identity. -/
def initNode (who : Nat) : Nat := who / 256 % 128
def initSub (who : Nat) : Nat := who % 256
def identityOf (node sub : Nat) : Nat := 0x8000 + 256 * node + sub
/-- SUB at a node: 0 for tiles, the channel for Movers, the engine for cipher engines, else below 255 (13 R346). -/
def subOk (node sub : Nat) : Bool :=
  if node < 52 then sub == 0
  else if node = 61 then decide (sub < 32)
  else if node = 62 then decide (32 ≤ sub ∧ sub < 64)
  else if node = nodeCipher then decide (sub < 8)
  else decide (sub < 255)
def isIdentity (who : Nat) : Bool := decide (0x8000 ≤ who ∧ who < 0x10000) && subOk (initNode who) (initSub who)
def isOffice (who : Nat) : Bool := initNode who == 82 || initNode who == 83
def isCaretaker (who : Nat) : Bool := initNode who == nodeCaretaker
def isMarker (who : Nat) : Bool := initNode who == nodeMarker
/-- The identity under which the Marker holds cipher engines 0 to 3 (07 R187). -/
def markerIdentity : Nat := identityOf nodeMarker 0
/-- A tile at Host level. -/
def isHostTile (s : State) (who : Nat) : Bool := decide (initNode who < 52) && !(tileOf s (initNode who)).task

/-! ### Power domains of nodes (14 R385) -/

/-- The domain that holds an address: tiles 0 to 51, Decoder units 52 to 59, engines 4 to 7 as 60 to 63, the probe unit
64; none for units always in RUN. -/
def domainAt (addr : Nat) : Option Nat :=
  let n := nodeNum addr
  let e := nodeOff addr / 256
  if n < 60 then some n
  else if n = nodeCipher ∧ 4 ≤ e ∧ e < 8 then some (56 + e)
  else if n = 88 then some 64
  else none
def portClosedAt (s : State) (addr : Nat) : Bool :=
  match domainAt addr with
  | some d => (domainOf s d).port ≠ .opened
  | none => false
/-- A request refused ASLEEP is counted for its domain (14 R388). -/
def countAsleep (addr : Nat) (s : State) : State :=
  match domainAt addr with
  | some d => setDomain s d { domainOf s d with asleep := inc32 (domainOf s d).asleep }
  | none => s
def countDropped (addr : Nat) (s : State) : State :=
  match domainAt addr with
  | some d => setDomain s d { domainOf s d with dropped := inc32 (domainOf s d).dropped }
  | none => s

/-! ### Memories -/

/-- Whether n bytes from an address lie in a memory that requests read and write. -/
def inMemory (addr n : Nat) : Bool :=
  let d := nodeNum addr
  let o := nodeOff addr
  if d < 52 then decide (0x100000 ≤ o ∧ o + n ≤ 0x140000)
  else if d = nodeBuffers then decide (o + n ≤ 512 * 16384)
  else if d = nodeMram then decide (o + n ≤ 2 ^ 26)
  else if d = 86 ∨ d = 87 then decide (o + n ≤ 2 ^ 29)
  else decide (96 ≤ d ∧ d ≤ 99) && decide (o + n ≤ 2 ^ 32)
def memByte (m : List Host.Cell) (a : Nat) : BitVec 8 := tabGet 0 m a
def memPut (m : List Host.Cell) (a : Nat) (b : BitVec 8) : List Host.Cell := tabSet 0 m a b
/-- One byte of the global space: a tile's data memory, or the memory of another node. -/
def gByte (s : State) (addr : Nat) : BitVec 8 :=
  if nodeNum addr < 52 then memByte (tileOf s (nodeNum addr)).dmem (nodeOff addr) else memByte s.mesh.mem addr
def gPut (addr : Nat) (b : BitVec 8) (s : State) : State :=
  if nodeNum addr < 52 then modTile s (nodeNum addr) (fun t => { t with dmem := memPut t.dmem (nodeOff addr) b })
  else { s with mesh := { s.mesh with mem := memPut s.mesh.mem addr b } }
def gBytes (s : State) (addr n : Nat) : List (BitVec 8) := (List.range n).map (fun i => gByte s (addr + i))
def gPutAll : List (BitVec 8) → Nat → State → State
  | [], _, s => s
  | b :: t, addr, s => gPutAll t (addr + 1) (gPut addr b s)

/-- Poison of the 64-bit word at 8 w (15 R392). -/
def wordPoison (s : State) (w : Nat) : Bool :=
  if nodeNum (8 * w) < 52 then tabGet false (tileOf s (nodeNum (8 * w))).poison (nodeOff (8 * w) / 8)
  else tabGet false s.mesh.poison w
def setWordPoison (w : Nat) (p : Bool) (s : State) : State :=
  if nodeNum (8 * w) < 52 then
    modTile s (nodeNum (8 * w)) (fun t => { t with poison := tabSet false t.poison (nodeOff (8 * w) / 8) p })
  else { s with mesh := { s.mesh with poison := tabSet false s.mesh.poison w p } }
/-- The 64-bit words that n bytes from an address touch. -/
def wordsOf (addr n : Nat) : List Nat :=
  if n = 0 then [] else (List.range ((addr + n - 1) / 8 + 1 - addr / 8)).map (fun i => addr / 8 + i)
def fullWord (addr n w : Nat) : Bool := decide (addr ≤ 8 * w ∧ 8 * w + 8 ≤ addr + n)
/-- A read meets poison where any word it touches is poisoned. -/
def readPoison (s : State) (addr n : Nat) : Bool := (wordsOf addr n).any (wordPoison s)
/-- A write meets poison where it would merge into a poisoned word. -/
def writePoison (s : State) (addr n : Nat) : Bool :=
  (wordsOf addr n).any (fun w => wordPoison s w && !fullWord addr n w)
/-- Bytes are written; whole words lose their poison, and each such clearing is counted. -/
def memWrite (addr : Nat) (bs : List (BitVec 8)) (s : State) : State :=
  let cleared := (wordsOf addr bs.length).filter (wordPoison s)
  let s := cleared.foldl (fun t w => setWordPoison w false t) s
  let s := { s with fault := { s.fault with poisonCleared := (s.fault.poisonCleared + cleared.length) % 2 ^ 32 } }
  gPutAll bs addr s

/-! ### Accesses that end at a memory -/

/-- Where a request that no memory takes ends (13 R345; 10 R280): other offsets of a tile and the key store answer
ACCESS, everything unmapped RANGE. Writes to the Roll SRAM are ACCESS (DEDUCED, log entry 12). -/
def unmapped (addr : Nat) : Status :=
  if nodeNum addr < 52 ∨ nodeNum addr = nodeKeyStore ∨ nodeNum addr = nodeRoll then .access else .range
/-- A read of n bytes at a node: its bytes, or the status that refuses it. -/
def meshRead (addr n : Nat) (s : State) : State × Status × List (BitVec 8) :=
  if portClosedAt s addr then (countAsleep addr s, .asleep, [])
  else if inMemory addr n then
    (if readPoison s addr n then (s, .poison, []) else (s, .ok, gBytes s addr n))
  else if nodeNum addr = nodeRoll ∧ nodeOff addr + n ≤ 2 ^ 24 then
    (s, .ok, (List.range n).map (fun i =>
      let o := nodeOff addr + i
      BitVec.ofNat 8 (packEntry (entryOf s (o / 64)) >>> (8 * (o % 64)))))
  else (s, unmapped addr, [])
/-- The unit that names a memory in an error record (15 Table 15.1); memories without a kind of their own are the
Caretaker's to report (log entry 21). -/
def memUnit (addr : Nat) : Nat :=
  let d := nodeNum addr
  if d < 52 then 0x0100 + d
  else if d = nodeMram then 0x0B00
  else if d = 86 ∨ d = 87 then 0x0C00 + (d - 86)
  else if 96 ≤ d ∧ d ≤ 99 then 0x0A00 + (d - 96)
  else 0x0F00
/-- A partial write refused POISON has its record (15 Table 15.4). -/
def recordPoison (addr : Nat) (s : State) : State :=
  errRecord { unit := memUnit addr, code := .eccUncorr, severity := .minor, status := .poison, addr := addr } s
/-- A write of bytes at a node. -/
def meshWrite (addr : Nat) (bs : List (BitVec 8)) (s : State) : State × Status :=
  if portClosedAt s addr then (countAsleep addr s, .asleep)
  else if inMemory addr bs.length then
    (if writePoison s addr bs.length then (recordPoison addr s, .poison) else (memWrite addr bs s, .ok))
  else (s, unmapped addr)

end Sys2Proof.Machine
end

