-- ==== Sys2Proof/Machine/LaneOps.lean ====
section
/-! DEFINITION. What the module does with a lane: messages out, lock and loss, the heads a lane serves, and the spare
switchover (04 R90 to R112). Lanes 0 to 15 are radio lanes, 16 to 19 the cascade lanes 0 to 3 (04 R80). -/

namespace Sys2Proof.Machine

/-! ### The stack this member stands in (18) -/

/-- This member belongs to a stack. -/
def stacked (s : State) : Bool := s.stack.position ≠ 0xFF
/-- Whether this member is the stack's head. -/
def isHead (s : State) : Bool := stacked s && s.stack.head == s.stack.position
/-- Whether this member takes its air time from a head (14 R374; 18 R453). -/
def followsHead (s : State) : Bool := stacked s && s.stack.position ≠ s.stack.head
def stackFunction (s : State) (bit : Nat) : Bool := stacked s && s.stack.functions.testBit bit
def memberCount (s : State) : Nat := max 1 (bitList 8 s.stack.members).length

/-! ### Messages (04 R90, Table 4.5) -/

def bodyLen (l : List (Nat × Nat)) : Nat := (l.map (·.1)).sum
/-- Types the far end answers, so that the module resends them (04 R93). -/
def isCommand (type : Nat) : Bool := [0x01, 0x02, 0x03, 0x04, 0x31, 0x32].contains type
/-- The characters of a message: K28.0, TYPE, SEQ, LEN, body, CRC-16, K28.4. -/
def msgChars (type seq body n : Nat) : List (Nat × Bool) :=
  let o := type :: seq :: n :: octetsBE n body
  (0x1C, true) :: (o ++ octetsBE 2 (crc16 o)).map (fun x => (x, false)) ++ [(0x9C, true)]
/-- A message joins the characters that wait for the lane's control channel. -/
def queueMsg (l type seq body n : Nat) (s : State) : State :=
  emit (.laneMsg l type seq body n) (modLane s l (fun x => { x with txQueue := x.txQueue ++ msgChars type seq body n }))
/-- The member at the far end of a cascade lane (18 R449). -/
def neighbour (s : State) (l : Nat) : Nat :=
  let n := memberCount s
  if l < 18 then (s.stack.position + 1) % n else (s.stack.position + n - 1) % n
/-- A message leaves on a lane that sends frames; its SEQ is the lane's next. On a cascade lane SRC and DST come first. -/
def sendMsg (l type : Nat) (fields : List (Nat × Nat)) (s : State) : State :=
  let x := laneOf s l
  if x.enabled then
    let fields := if l < 16 then fields else (1, s.stack.position) :: (1, neighbour s l) :: fields
    let b := bodyOf fields
    let n := bodyLen fields
    queueMsg l type x.txSeq b n (setLane s l { x with
      txSeq := (x.txSeq + 1) % 256
      cmds := if isCommand type then x.cmds ++ [{ type := type, seq := x.txSeq, body := b, len := n }] else x.cmds })
  else s
def sendTxen (l mask at_ : Nat) (s : State) : State := sendMsg l 0x02 [(2, mask), (8, at_)] s
/-- RAMPDEF of a ramp slot, from its profile of 66 octets (04 Table 4.5; 09 Table 9.5). -/
def sendRampdef (l slot profile : Nat) (s : State) : State :=
  let n := octAt 66 profile 0
  sendMsg l 0x03 ((1, slot) :: (1, n) :: (List.range n).map (fun i => (2, octField 66 profile (2 + 2 * i) (3 + 2 * i)))) s
def sendParamp (l mask slot : Nat) (down now : Bool) (spacing at_ : Nat) (s : State) : State :=
  sendMsg l 0x04 [(2, mask), (1, slot), (1, b2n down + 2 * b2n now), (1, spacing), (8, at_)] s
def sendRole (l role : Nat) (s : State) : State := sendMsg l 0x32 [(1, role)] s
def sendTime (l seq at_ d : Nat) (s : State) : State := sendMsg l 0x30 [(1, seq), (8, at_), (4, d)] s
def sendTapreq (l tap : Nat) (step : Int) (s : State) : State :=
  let x := laneOf s l
  let t := sendMsg l 0x10 [(1, tap), (1, ofSigned 8 step)] s
  if x.enabled then modLane t l (fun y => { y with tapReq := some { seq := x.txSeq, tap := tap, step := step }, sinceTap := 0 })
  else t

/-! ### Heads and their lanes -/

/-- The serving lane of a head, if one is ACTIVE. -/
def activeLane (s : State) (h : Nat) : Option Nat :=
  let v := (headOf s h).serving
  if v < 16 && (laneOf s v).active then some v else none
/-- The spare lane that backs a head (04 R110). -/
def spareOf (s : State) (h : Nat) : Option Nat :=
  ((List.range 4).find? (fun j => setting s 0x3030 1 j == h)).map (fun j => 12 + j)
/-- The head a radio lane belongs to: the one it serves or is to serve, else the working lane's own, or a spare's backed
head. -/
def headOfLane (s : State) (l : Nat) : Option Nat :=
  match (List.range 12).find? (fun h => (headOf s h).serving == l || (headOf s h).target == l) with
  | some h => some h
  | none =>
    if l < 12 then some l
    else if l < 16 then (let h := setting s 0x3030 1 (l - 12); if h < 12 then some h else none)
    else none
/-- A GAIN for antennas of the head of a lane: its outcome is pending until the reply (04 R90; 05 R137). -/
def sendGain (l mask : Nat) (gain : Int) (at_ : Nat) (s : State) : State :=
  let x := laneOf s l
  match x.enabled, headOfLane s l with
  | true, some h =>
    sendMsg l 0x01 [(2, mask), (1, ofSigned 8 gain), (8, at_)] { s with rx := { s.rx with
      gainPending := s.rx.gainPending ++ (bitList 16 mask).map (fun a => ⟨16 * h + a, gain, at_, x.txSeq, l⟩) } }
  | _, _ => s
/-- Fields of the HEADID body (25 octets; 04 Table 4.5). -/
def hidSerial (id : Nat) : Nat := octField 25 id 4 11
def hidRxLatency (id : Nat) : Nat := octField 25 id 17 18
def hidTxLatency (id : Nat) : Nat := octField 25 id 19 20
def hidGainMin (id : Nat) : Int := toSigned 8 (octAt 25 id 21)
def hidGainMax (id : Nat) : Int := toSigned 8 (octAt 25 id 22)

/-! ### Erasures (05 R114) -/

/-- Cause bits of 05 Table 5.1. -/
def causeLane : Nat := 1
def causeGain : Nat := 2
def causeCal : Nat := 4
def causeBlank : Nat := 8
def causePoison : Nat := 16
/-- An antenna's samples are erased from air time lo on, to hi or until settled. -/
def addErasure (antenna lo : Nat) (hi : Option Nat) (cause : Nat) (s : State) : State :=
  { s with rx := { s.rx with erasures := s.rx.erasures ++ [⟨antenna, lo, hi, cause⟩] } }

/-- A head's samples are erased LANE from now on (04 R104; 05 R114). -/
def openErasure (h : Nat) (s : State) : State :=
  (antennasOf h).foldl (fun t a => addErasure a t.time.airTime none causeLane t) s
/-- A lane carries the head again: the erasure ends now. -/
def closeErasure (h : Nat) (s : State) : State :=
  { s with rx := { s.rx with erasures := s.rx.erasures.map (fun x =>
      if x.antenna / 16 = h ∧ x.cause = causeLane ∧ x.hi = none then { x with hi := some s.time.airTime } else x) } }

/-! ### Transmit enables (04 R98; 09 R246) -/

def ceil16 (n : Nat) : Nat := ceilDiv n 16
/-- Antennas of head h that a burst uses, as a 16-bit mask. -/
def burstMask (b : Burst) (h : Nat) : Nat :=
  (List.range 16).foldl (fun m a => if tabGet 0 b.amps (16 * h + a) ≠ 0 then m + 2 ^ a else m) 0
/-- First air time at which a burst's enables stand: two ticks before its start. -/
def enableFrom (b : Burst) : Nat := b.s16 / 16 - 2
/-- Air time at which a burst's enables clear: one tick after its ramp-down, rounded up. -/
def enableTo (b : Burst) : Nat := ceil16 b.end16 + 1
def inEffect (b : Burst) (h t : Nat) : Bool := b.heads.testBit h && decide (enableFrom b ≤ t) && decide (t < enableTo b)
def burstList (s : State) : List Burst := s.tx.bursts.filterMap (·.2)
/-- The union of the head's antennas that every burst in effect at air time t uses. -/
def enableMask (s : State) (h t : Nat) : Nat :=
  (burstList s).foldl (fun m b => if inEffect b h t then m ||| burstMask b h else m) 0
/-- A TXEN of the module for a head, on the lane that serves it. -/
def txenFor (h t : Nat) (s : State) : State :=
  match activeLane s h with
  | some l => sendTxen l (enableMask s h t) t s
  | none => s

/-! ### Gains of head antennas and of bins (05 R135 to R138) -/

/-- The stack has five members or more, whose loops are all in mode 1 (05 R135). -/
def bigStack (s : State) : Bool := stacked s && decide (5 ≤ (bitList 8 s.stack.members).length)
/-- The fixed gain of a bin: the head's own, received in GAINS, at another member of a big stack. -/
def fixedGain (s : State) (bin : Nat) : Int :=
  if bigStack s && followsHead s then tabGet 0 s.stack.gains bin else toSigned 16 (setting s 0x4004 4 bin)
/-- The settled gain changes of an antenna that are in effect at air time n, the latest last. -/
def stepsAt (s : State) (a n : Nat) : List GainStep := s.rx.gainSteps.filter (fun g => g.antenna == a && decide (g.atG ≤ n))
/-- Head gain of an antenna, and the compensation of its calibrated samples, at air time n. -/
def gainAt (s : State) (a n : Nat) : Int := (((stepsAt s a n).getLast?).map (·.gain)).getD (tabGet 0 s.rx.headGain a)
def compAt (s : State) (a n : Nat) : Int := (((stepsAt s a n).getLast?).map (·.comp)).getD (tabGet 0 s.rx.comp a)
/-- The gain the head was last told OK, in effect or still to come. -/
def gainToCome (s : State) (a : Nat) : Int :=
  (((s.rx.gainSteps.filter (fun g => g.antenna == a)).getLast?).map (·.gain)).getD (tabGet 0 s.rx.headGain a)
/-- Settled changes in order of AT_g. -/
def insertStep (g : GainStep) : List GainStep → List GainStep
  | [] => [g]
  | x :: t => if x.atG ≤ g.atG then x :: insertStep g t else g :: x :: t
/-- A change of gain is settled OK: head gain and compensation change together at AT_g, so that their sum stays. -/
def addStep (g : GainChange) (s : State) : State :=
  let comp := tabGet 0 s.rx.comp g.antenna + tabGet 0 s.rx.headGain g.antenna - g.gain
  { s with rx := { s.rx with gainSteps := insertStep ⟨g.antenna, g.atG, g.gain, comp⟩ s.rx.gainSteps } }
/-- Steps that no sample still to be formed comes before are folded into the antenna's own gain and compensation. -/
def foldSteps (before : Nat) (s : State) : State :=
  { s with rx := { s.rx with
      headGain := (s.rx.gainSteps.filter (fun g => g.atG < before)).foldl (fun t g => tabSet 0 t g.antenna g.gain) s.rx.headGain
      comp := (s.rx.gainSteps.filter (fun g => g.atG < before)).foldl (fun t g => tabSet 0 t g.antenna g.comp) s.rx.comp
      gainSteps := s.rx.gainSteps.filter (fun g => before ≤ g.atG) } }

/-! ### Blanking intervals (05 R138, R139) -/

/-- First and last blanked tick of a burst: 2 ticks before the start of its first PARAMP, and the guard after the last
ramp point ends. -/
def blankFrom (b : Burst) : Nat := b.s16 / 16 - 2
def blankTo (guard end16 : Nat) : Nat := end16 / 16 + guard
/-- The guard of a burst's blanking: the one it went into the air with, or the setting (0x4007:01). -/
def guardOf (s : State) (b : Burst) : Nat := if b.inAir then b.guard else setting s 0x4007 1 0
/-- Blanking intervals of the bursts on the timeline on a head. -/
def plannedBlanks (s : State) (h : Nat) : List (Nat × Nat) :=
  ((burstList s).filter (fun b => b.heads.testBit h)).map (fun b => (blankFrom b, blankTo (guardOf s b) b.end16))
/-- The first air time from t on that no interval covers. -/
def clearOfBlanks (spans : List (Nat × Nat)) : Nat → Nat → Nat
  | 0, t => t
  | k + 1, t => match spans.find? (fun x => decide (x.1 ≤ t) && decide (t ≤ x.2)) with
    | some x => clearOfBlanks spans k (x.2 + 1)
    | none => t
/-- AT_g of a GAIN sent now: 1,024 ticks ahead at least, in no blanking interval on the timeline (05 R137, R138). -/
def gainTime (s : State) (h : Nat) : Nat :=
  let spans := plannedBlanks s h
  clearOfBlanks spans (spans.length + 1) (s.time.airTime + 1024)

/-! ### Bring-up (04 R101) -/

/-- A GAIN for every antenna of a head (04 R101 step 6, Table 4.9 step 4; 05 R136): the fixed gain, or the gain held. -/
def holdGains (l h : Nat) (s : State) : State :=
  (antennasOf h).foldl (fun t a =>
      let g : Int := if setting t 0x4005 2 0 = 0 then toSigned 8 (setting t 0x4005 4 a) else gainToCome t a
      sendGain l (2 ^ (a % 16)) g (gainTime t h) t) s
/-- Step 6 of R101 for a lane whose receiver is LOCKED: RAMPDEF of every slot, a GAIN for every antenna, and the role. Which
slots are in use the spec does not say: all four are (DESIGN CHOICE, log entry 64). -/
def bringUpCommands (l h role : Nat) (s : State) : State :=
  let s := (List.range 4).foldl (fun t r => sendRampdef l r (setting s 0x5020 1 r) t) s
  let s := holdGains l h s
  sendRole l role s
/-- A lane starts blind frames with its taps reset (04 R101, R106). Its transmit latency is fixed from here on, at a value
from 300 to 320 ns that is free (04 Table 4.6; log entry 5). -/
def enableLane (l : Nat) (s : State) : State :=
  modLane s l (fun x => { x with enabled := true, pre := 0, post := 4, commas := 0, missed := 0, msg := none, cmds := [],
                                 tapReq := none, sinceLock := 0, sinceTap := 64, rxSeen := false, rxCount := 0,
                                 tapPending := none, sinceStep := 64, undoStep := false, inbox := [], hunt := none,
                                 anchor := none, txQueue := [], txLatency := 300000 + Config.txLatency l % 20001 })

/-- Gain changes under way on a lane that is lost are given up; one past its AT_g keeps its erasure up to now (05 R137). -/
def dropGains (l : Nat) (s : State) : State :=
  let mine := s.rx.gainPending.filter (fun g => g.lane == l && decide (g.atG ≤ s.time.airTime))
  let s := { s with rx := { s.rx with gainPending := s.rx.gainPending.filter (fun g => g.lane ≠ l) } }
  mine.foldl (fun t g => addErasure g.antenna (g.atG - 2) (some t.time.airTime) causeGain t) s
/-- A lane ceases to be LOCKED: its control channel is ignored, the message in progress is a bad message (R91), ACTIVE
clears, and its head's samples are erasures (04 R103, R104). A tap step that a loss of frame followed within 64 lane frames
is to be undone (R105). -/
def unlockLane (lossOfFrame : Bool) (l : Nat) (s : State) : State :=
  let x := laneOf s l
  let s := match x.active, headOfLane s l with
    | true, some h => openErasure h s
    | _, _ => s
  let s := setLane s l { x with
    locked := false, remLock := false, headId := false, active := false, delayKnown := false, timeSent := false,
    commas := 0, missed := 0, msg := none, cmds := [], inbox := [], rxSeen := false, rxDisp := none, rxCount := 0,
    anchor := none, hunt := none, arrivals := []
    undoStep := x.undoStep || (lossOfFrame && x.lastStep.isSome && decide (x.sinceStep < 64)),
    sinceLock := 0, validMask := 0,
    counters := if x.msg.isSome then bump x.counters 6 else x.counters }
  let s := dropGains l s
  match headOfLane s l with
  | some h => modHead s h (fun y => { y with
      serving := if y.serving = l then 0xFF else y.serving
      target := if y.target = l then 0xFF else y.target })
  | none => s

/-- The first step of bring-up that makes a lane ACTIVE: it is LOCKED, a TIME has been sent, and its role is to carry the
head (04 R95, R101; 02 Table 2.8). -/
def activateLane (l : Nat) (s : State) : State :=
  let x := laneOf s l
  match headOfLane s l with
  | some h =>
    if x.locked && x.timeSent && x.rxFlags.testBit 0 && x.validMask ≠ 0 && (headOf s h).serving == 0xFF
        && decide ((l < 12 ∧ (headOf s h).target = 0xFF) ∨ (headOf s h).target = l) then
      closeErasure h (modHead (modLane s l (fun y => { y with active := true })) h
        (fun y => { y with serving := l, switching := false, target := 0xFF, switchOk := false, lateSwitch := false }))
    else s
  | none => s

/-! ### Spare switchover (04 R111, Table 4.9) -/

/-- Whether a head can move from lane l to lane m: m is LOCKED with HEADID and the serial of the port on l. -/
def canSwitch (s : State) (l m : Nat) : Bool :=
  let x := laneOf s m
  x.locked && x.headId && x.serial == (laneOf s l).serial
/-- Steps 1 and 2 of Table 4.9: roles are exchanged from lane l to lane m. -/
def startSwitch (h l m : Nat) (s : State) : State :=
  let s := if (laneOf s l).active then openErasure h s else s
  let s := modLane s l (fun x => { x with active := false })
  let s := modHead s h (fun y => { y with serving := 0xFF, switching := true, target := m, switchOk := false })
  let s := if (laneOf s l).locked then sendRole l 0 s else s
  sendRole m 1 s

/-! ### Cascade messages out (18 R449, R452) -/

/-- Lanes 0 and 1 face east, lanes 2 and 3 west. -/
def linkUp (s : State) (east : Bool) : Bool :=
  if east then (laneOf s 16).locked || (laneOf s 17).locked else (laneOf s 18).locked || (laneOf s 19).locked
/-- Whether a message for a position leaves east: the way with fewer hops, or the link that is up. -/
def goesEast (s : State) (dst : Nat) : Bool :=
  let n := memberCount s
  let hops := (dst + 8 * n - s.stack.position) % n
  if !linkUp s true then false
  else if !linkUp s false then true
  else dst == 0x80 || decide (2 * hops < n)
/-- The cascade lane that carries the messages of a direction: the first of its two that is LOCKED. -/
def cascadeLane (s : State) (east : Bool) : Nat :=
  let l := if east then 16 else 18
  if (laneOf s l).locked then l else l + 1
/-- A message leaves east or west. -/
def cascadeOut (east : Bool) (type dst body n : Nat) (s : State) : State :=
  let l := cascadeLane s east
  let q := (laneOf s l).txSeq
  emit (.cascade east type dst body n) (modLane s l (fun x =>
    { x with txSeq := (x.txSeq + 1) % 256, txQueue := x.txQueue ++ msgChars type q body n }))
/-- A message for a position; a broadcast leaves on every link that is up. -/
def cascadeSend (dst type : Nat) (fields : List (Nat × Nat)) (s : State) : State :=
  let b := bodyOf fields
  let n := bodyLen fields
  if dst = 0x80 && linkUp s true && linkUp s false then cascadeOut false type dst b n (cascadeOut true type dst b n s)
  else cascadeOut (goesEast s dst) type dst b n s

/-- A transfer's PREPARE leaves once no attempt of its entry is pending (18 Table 18.3 step 1). -/
def sendPrepare (slot : Nat) (s : State) : State :=
  let x : Xfer := tabGet {} s.stack.xfers slot
  let busy := (burstList s).any (fun b => b.slot == slot)
  if x.waiting && !busy then
    let s := { s with stack := { s.stack with
      xfers := tabSet {} s.stack.xfers slot { x with waiting := false, xstate := .prepared } } }
    cascadeSend x.peer 0x43 [(1, s.stack.position), (1, x.peer), (1, 1), (4, slot), (4, x.otherSlot), (8, 0)] s
  else s

end Sys2Proof.Machine
end

