-- ==== Sys2Proof/Machine/Numeric.lean ====
section
/-! DEFINITION. Arithmetic of the signal path: square roots, levels in dB, angles, and complex numbers. Levels are compared
exactly, by powers; what has no finite form (10^x, cos, sin) is taken in 2^-64, whose error lies far below every step the
spec rounds to (log entry 62). -/

namespace Sys2Proof.Machine

/-! ### Roots and fixed point -/

/-- Greatest r whose square is at most n, its bits found from bit k - 1 down. -/
def rootFrom : Nat → Nat → Nat → Nat
  | 0, _, r => r
  | k + 1, n, r => rootFrom k n (if (r + 2 ^ k) * (r + 2 ^ k) ≤ n then r + 2 ^ k else r)
def natRoot (n : Nat) : Nat := rootFrom (n.log2 / 2 + 1) n 0
/-- One, in 2^-64. -/
def fxOne : Int := 2 ^ 64
def fxMul (a b : Int) : Int := a * b / fxOne
/-- e^x of x in 2^-64 with |x| at most 3. -/
def fxExp (x : Int) : Int :=
  ((List.range 60).foldl (fun (p : Int × Int) i =>
    let t := fxMul p.2 x / ((i : Int) + 1)
    (p.1 + t, t)) (fxOne, fxOne)).1
/-- 10^(p / d) in 2^-64. -/
def fxPow10 (p : Int) (d : Nat) : Int :=
  let q := p / (d : Int)
  let m := fxExp (42475197918399869019 * (p % (d : Int)) / (d : Int))
  if 0 ≤ q then m * 10 ^ q.toNat else m / 10 ^ (-q).toNat
/-- cos and sin of an angle in turns, in 2^-64. -/
def fxTurn (turns : Int) : Int × Int :=
  let t := (turns + fxOne / 2) % fxOne - fxOne / 2
  let y := fxMul 115904311329233965478 t
  let r := (List.range 60).foldl (fun (p : Int × Int × Int) i =>
    let c := if i % 4 = 0 then p.1 + p.2.2 else if i % 4 = 2 then p.1 - p.2.2 else p.1
    let s := if i % 4 = 1 then p.2.1 + p.2.2 else if i % 4 = 3 then p.2.1 - p.2.2 else p.2.1
    (c, s, fxMul p.2.2 y / ((i : Int) + 1))) (0, 0, fxOne)
  (r.1, r.2.1)

/-! ### Levels -/

/-- Greatest L from `l` up, in n steps, with 10^L at most a / b. -/
def climbTen : Nat → Int → Nat → Nat → Int
  | 0, l, _, _ => l
  | n + 1, l, a, b =>
    let next := l + 1
    let fits := if 0 ≤ next then decide (b * 10 ^ next.toNat ≤ a) else decide (b ≤ a * 10 ^ (-next).toNat)
    if fits then climbTen n next a b else l
/-- The whole part of log10 (a / b), for a and b not zero. -/
def floorLog10 (a b : Nat) : Int :=
  climbTen 6 (((a.log2 : Int) - (b.log2 : Int) - 1) * 30103 / 100000 - 2) a b
/-- 10 log10 (a / b) in 0.1 dB, rounded to the nearest. -/
def tenthsDb (a b : Nat) : Int := (floorLog10 (a ^ 200) (b ^ 200) + 1) / 2
/-- Whether a / b is at least 10^(t / 100), t in 0.1 dB. -/
def atLeastDb (a b : Nat) (t : Int) : Bool :=
  if 0 ≤ t then decide (b ^ 100 * 10 ^ t.toNat ≤ a ^ 100) else decide (b ^ 100 ≤ a ^ 100 * 10 ^ (-t).toNat)

/-! ### Complex numbers -/

/-- A complex number of integers, re and im. -/
abbrev Cx := Int × Int
def cxAdd (x y : Cx) : Cx := (x.1 + y.1, x.2 + y.2)
def cxSub (x y : Cx) : Cx := (x.1 - y.1, x.2 - y.2)
def cxMul (x y : Cx) : Cx := (x.1 * y.1 - x.2 * y.2, x.1 * y.2 + x.2 * y.1)
def cxConj (x : Cx) : Cx := (x.1, -x.2)
def cxPower (x : Cx) : Nat := (x.1 * x.1 + x.2 * x.2).toNat
/-- A pair of 16-bit halves, re in the low half, as the model's tables of weights and samples hold it. -/
def cxOf16 (w : Nat) : Cx := (toSigned 16 (w % 65536), toSigned 16 (w / 65536))

end Sys2Proof.Machine
end

