-- ==== Sys2Proof/Machine/PrefectOps.lean ====
section
/-! DEFINITION. The Prefect's shared operations: tokens, operation records, blocking, release, buffers and the decision
trace (11 R287 to R305). -/

namespace Sys2Proof.Machine

/-! ### Shed levels (01 R26; 14 Table 14.5) -/

/-- Whether any island sheds a level. -/
def isShed (s : State) (level : Nat) : Bool := s.pace.islands.any (fun p => p.2.shed.contains level)
def shedMask (s : State) : Nat := (List.range 16).foldl (fun m n => if isShed s n then m + 2 ^ n else m) 0

/-! ### Nodes -/

def nodeOf (s : State) (n : Nat) : Option Node := tabGet none s.prefect.nodes n
/-- SOURCE nodes bound to a port, by index. -/
def sourcesOf (s : State) (port : Nat) : List (Nat × Node) :=
  s.prefect.nodes.filterMap (fun p => match p.2 with
    | some n => if n.kind = .source ∧ n.port = some port then some (p.1, n) else none
    | none => none)
/-- Level of the first operation a package runs for a port's tokens. -/
def portLevel (s : State) (package port : Nat) : Option Nat :=
  ((sourcesOf s port).filter (fun p => p.2.package == package)).findSome? (fun p =>
    p.2.succ.findSome? (fun m => match nodeOf s m with
      | some x => if x.kind = .task ∨ x.kind = .accel then some x.level else none
      | none => none))
/-- The capture level of a bin group: the level of its package's capture graph (06 R160); 4 while none is installed. -/
def captureLevel (s : State) (g : Nat) : Nat :=
  let p0 := setting s 0x4010 1 (2 * g)
  let p1 := setting s 0x4010 1 (2 * g + 1)
  ((portLevel s p0 200).orElse (fun _ => portLevel s p1 200)).getD 4
/-- The level of a profile's build graph, bound to the timeline's ports (09 R246). -/
def buildLevel (s : State) (profile : Nat) : Option Nat :=
  (List.range 64).findSome? (fun i => portLevel s profile (64 + i))

/-! ### Decision trace (11 R304) -/

/-- The 16 octets of a trace record (11 Table 11.6). -/
def packTrace (r : TraceRec) : List Nat :=
  octetsLE 16 (pack [(32, r.opseq), (3, r.kind), (4, r.level), (1, b2n r.timeOk), (14, r.node), (6, r.unit), (4, 0),
    (16, r.flow), (48, r.time)])
def trace (kind opseq level node unit flow : Nat) (s : State) : State :=
  if (setting s 0x8030 2 0).testBit kind && (setting s 0x8030 3 0).testBit level then
    let (t, ok) := stamp s
    let r : TraceRec := ⟨opseq, kind, level, ok, node, unit, flow, t % 2 ^ 48⟩
    let cap := setting s 0x8030 1 0 * 65536
    let full := decide (cap ≤ s.prefect.trace.length)
    { s with prefect := { s.prefect with
        trace := r :: (if full then s.prefect.trace.take (cap - 1) else s.prefect.trace)
        traceLost := if full then inc32 s.prefect.traceLost else s.prefect.traceLost } }
  else s

/-! ### Account (11 R305) -/

def pfBump (term : Nat) (s : State) : State :=
  { s with prefect := { s.prefect with account := accBy s.prefect.account term 1 } }

/-! ### Buffers (11 R302) -/

def bufAddRef (h : Nat) (s : State) : State :=
  if h = 0xFFFF then s
  else { s with prefect := { s.prefect with bufRefs := tabMod 0 s.prefect.bufRefs h (· + 1) } }
/-- One reference falls; at zero the buffer is freed. -/
def bufDrop (h : Nat) (s : State) : State :=
  let n := tabGet 0 s.prefect.bufRefs h
  if h = 0xFFFF ∨ n = 0 then s
  else
    let s := { s with prefect := { s.prefect with bufRefs := tabSet 0 s.prefect.bufRefs h (n - 1) } }
    if n = 1 then pfBump 4 s else s

/-! ### Blocking (11 R296 to R298, R303) -/

def isCaptureKey (flow : Nat) : Bool := decide (0xF000 ≤ flow)
def isOrdered (s : State) (cls : Nat) : Bool := tabGet false s.prefect.ordered cls
/-- An operation runs in order: its class is ORDERED; a capture's flow belongs to an ATOMIC class (07 R179). -/
def runsInOrder (s : State) (o : OpRec) : Bool := isOrdered s o.cls && !isCaptureKey o.flow
def windowUse (s : State) (cls : Nat) : Nat :=
  ((s.prefect.ops.filter (fun o => o.cls == cls && (o.stage == .inService || o.stage == .doneHeld))).map
    (fun o => (tabGet 0 s.prefect.nextOrd cls + 1023 - o.ordpos) % 1024 + 1)).foldl max 0
def drained (s : State) (l : Nat) : Bool := tabGet false s.prefect.drain l || tabGet false s.prefect.invalid l
/-- Logical units of a node's target: tiles 0 to 47, Decoder units 48 to 51. -/
def targetsOf (n : Node) : List Nat := bitList 52 n.target
/-- BLOCK of a READY operation: 0 none, 1 ATOMIC, 2 WINDOW, 3 SHED, 4 DRAIN; the lowest that applies. -/
def blockCause (s : State) (o : OpRec) : Nat :=
  let ordered := runsInOrder s o
  if !ordered && s.prefect.ops.any (fun x => x.stage == .inService && x.cls == o.cls && x.flow == o.flow) then 1
  else if ordered && decide (1024 ≤ windowUse s o.cls) then 2
  else if isShed s o.level && !(isCaptureKey o.flow && (captureOf s (o.flow - 0xF000)).stage ≠ 0) then 3
  else match nodeOf s o.node with
    | some n => if (targetsOf n).all (drained s) then 4 else 0
    | none => 0

/-- A READY operation that meets a cause, or whose cause changed, is traced (11 R304); window blocks are counted. -/
def noteBlock (o : OpRec) (s : State) : State :=
  let c := blockCause s o
  if o.stage ≠ .ready ∨ tabGet 0 s.prefect.blockSeen o.opseq = c then s
  else
    let s := { s with prefect := { s.prefect with
      blockSeen := tabSet 0 s.prefect.blockSeen o.opseq c
      winBlocks := if c = 2 then bump s.prefect.winBlocks o.cls else s.prefect.winBlocks } }
    if c = 0 then s else trace 4 o.opseq o.level o.node c o.flow s
def noteBlocks (s : State) : State := s.prefect.ops.foldl (fun t o => noteBlock o t) s

/-! ### Records and tokens (11 R289 to R292) -/

/-- The 32 octets of an operation record (11 Table 11.2), little-endian. -/
def packOp (s : State) (o : OpRec) : List Nat :=
  octetsLE 32 (pack [(32, o.opseq), (14, o.node), (4, o.level), (3, opStateCode o.stage),
    (3, if o.stage = .ready then blockCause s o else 0), (6, o.cls), (2, 0), (16, o.flow), (16, o.buf), (64, o.arg),
    (6, o.lunit), (6, o.punit), (10, o.ordpos), (2, 0), (8, o.emits)])

def liveOps (s : State) : List OpRec := s.prefect.ops
def findOp (s : State) (opseq : Nat) : Option OpRec := s.prefect.ops.find? (fun o => o.opseq == opseq)
def modOp (opseq : Nat) (f : OpRec → OpRec) (s : State) : State :=
  { s with prefect := { s.prefect with ops := s.prefect.ops.map (fun o => if o.opseq = opseq then f o else o) } }
/-- A record that an operation of a level may use: 1,024 of the 65,536 are kept for levels 0 to 3. -/
def recordFree (s : State) (level : Nat) : Bool :=
  let low := (s.prefect.ops.filter (fun o => o.level < 4)).length
  let high := s.prefect.ops.length - low
  if level < 4 then decide (low + high < 65536) else decide (high + (low - 1024) < 64512)
/-- A token becomes a READY operation. -/
def newOp (t : Token) (n : Node) (s : State) : State :=
  let q := s.prefect.nextOpseq
  let o : OpRec := { opseq := q, node := t.dest, level := n.level, cls := n.cls, flow := t.flow, buf := t.buf, arg := t.arg,
                     held := if t.buf = 0xFFFF then [] else [t.buf] }
  let s := { s with prefect := { s.prefect with nextOpseq := (q + 1) % 2 ^ 32, ops := s.prefect.ops ++ [o] } }
  noteBlock o (trace 0 q n.level t.dest 0 t.flow (pfBump 7 (pfBump 0 s)))
/-- Key of the FIFO a token waits in: a port, or 256 + the emitting tile. -/
def fifoOf (s : State) (k : Nat) : List Token :=
  if k < 256 then tabGet [] s.prefect.portFifo k else tabGet [] s.prefect.tileFifo (k - 256)
def setFifo (k : Nat) (l : List Token) (s : State) : State :=
  if k < 256 then { s with prefect := { s.prefect with portFifo := tabSet [] s.prefect.portFifo k l } }
  else { s with prefect := { s.prefect with tileFifo := tabSet [] s.prefect.tileFifo (k - 256) l } }
/-- A capture whose token is dropped is forced to end, detail 4 (11 R291). -/
def forceEnd (c detail : Nat) (s : State) : State :=
  let x := captureOf s c
  if x.stage = 0 ∨ x.forced ≠ 0 then s else setCapture s c { x with stage := 3, forced := detail }
/-- A token with no room anywhere is counted DROPPED. -/
def dropToken (k : Nat) (t : Token) (level : Nat) (s : State) : State :=
  let s := { s with prefect := { s.prefect with dropped := bump s.prefect.dropped k } }
  let s := trace 6 0 level t.dest 0 t.flow (pfBump 9 (pfBump 6 s))
  let s := bufDrop t.buf s
  if isCaptureKey t.flow then forceEnd (t.flow - 0xF000) 4 s else s
/-- A token at a TASK or ACCEL node: a record, the FIFO, or DROPPED. -/
def intoRecord (k : Nat) (t : Token) (n : Node) (s : State) : State :=
  if recordFree s n.level && (fifoOf s k).isEmpty then newOp t n (pfBump 6 s)
  else if (fifoOf s k).length < 16 then pfBump 6 (setFifo k (fifoOf s k ++ [t]) s)
  else dropToken k t n.level s

/-- The JOIN a token stands at, once every input holds a token of its flow key. -/
def joinReady (s : State) (j : Nat) (n : Node) (flow : Nat) : Bool :=
  decide (n.inputs ≤ ((s.prefect.joins.filter (fun t => t.dest == j && t.flow == flow)).map (·.from_)).dedup.length)
/-- Which of the tokens a JOIN passes on is not stated: a free choice (log 5). -/
def pickToken (l : List Token) (t : Token) (n : Nat) : Token := (l[n % (l.length + 1)]?).getD t

/-- Deliver tokens to their destination nodes (11 R287), at most `fuel` of them one behind another. -/
def deliver : Nat → Nat → List Token → State → State
  | 0, _, _, s => s
  | _, _, [], s => s
  | fuel + 1, k, t :: rest, s =>
    match nodeOf s t.dest with
    | none => deliver fuel k rest (bufDrop t.buf s)
    | some n =>
      match n.kind with
      | .source => deliver fuel k (n.succ.map (fun m => { t with dest := m, from_ := t.dest }) ++ rest) s
      | .join =>
        let s := { s with prefect := { s.prefect with joins := s.prefect.joins ++ [t] } }
        if joinReady s t.dest n t.flow then
          let mine := s.prefect.joins.filter (fun x => x.dest == t.dest && x.flow == t.flow)
          let first := (mine.map (·.from_)).dedup.filterMap (fun f => mine.find? (fun x => x.from_ == f))
          let (r, s) := drawFree s
          let out := pickToken first t r
          let s := { s with prefect := { s.prefect with joins := first.foldl (fun l x => l.erase x) s.prefect.joins } }
          let s := (first.erase out).foldl (fun u x => bufDrop x.buf u) s
          deliver fuel k (n.succ.map (fun m => { out with dest := m, from_ := t.dest }) ++ rest) s
        else deliver fuel k rest s
      | _ => deliver fuel k rest (intoRecord k t n s)

/-- A port raises a token (11 R290): ports 0 to 127 raise nothing while the timebase is invalid; without a bound SOURCE
node the token is UNBOUND. Capture ports serve the graphs of the capture's own package. -/
def raiseToken (port flow arg : Nat) (s : State) : State :=
  if port < 128 ∧ s.time.valid = false then s
  else
    let src := (sourcesOf s port).filter (fun p =>
      if port = 200 ∨ port = 201 then
        (match (captureOf s (flow - 0xF000)).det with
         | some d => p.2.package == d.profile
         | none => true)
      else true)
    if src.isEmpty then
      let s := { s with prefect := { s.prefect with unbound := bump s.prefect.unbound port } }
      trace 7 0 0 0 0 flow (pfBump 10 (pfBump 6 s))
    else
      deliver 4096 port (src.flatMap (fun p => p.2.succ.map (fun m =>
        ({ flow := flow, dest := m, arg := arg % 2 ^ 64, from_ := p.1 } : Token)))) s
/-- A port whose flow key is configured (11 Table 11.1). -/
def raisePort (port arg : Nat) (s : State) : State := raiseToken port (setting s 0x8010 2 port) arg s

/-- Tokens waiting in FIFOs enter records that have become free: port FIFOs in ascending order, then tile FIFOs. -/
def refill : Nat → State → State
  | 0, s => s
  | fuel + 1, s =>
    let keys := (s.prefect.portFifo.map (·.1)) ++ (s.prefect.tileFifo.map (fun p => p.1 + 256))
    let go := keys.findSome? (fun k => match fifoOf s k with
      | t :: rest => (match nodeOf s t.dest with
          | some n => if recordFree s n.level then some (k, t, rest, n) else none
          | none => none)
      | [] => none)
    match go with
    | some (k, t, rest, n) => refill fuel (newOp t n (setFifo k rest s))
    | none => s

/-! ### Ends of an operation (11 R297 to R299) -/

def freeRecord (opseq : Nat) (s : State) : State :=
  pfBump 1 { s with prefect := { s.prefect with
    ops := s.prefect.ops.filter (fun o => o.opseq ≠ opseq)
    blockSeen := tabSet 0 s.prefect.blockSeen opseq 0 } }
/-- The tokens of an operation are released (trace RELEASE) and its record freed. -/
def releaseOp (o : OpRec) (s : State) : State :=
  let s := trace 3 o.opseq o.level o.node 0 o.flow (freeRecord o.opseq s)
  deliver 4096 (256 + o.punit) o.out s
/-- Operations before this one in arrival order, of its class and flow key, that are not released. -/
def earlierHeld (s : State) (o : OpRec) : Bool :=
  (s.prefect.ops.takeWhile (fun x => x.opseq ≠ o.opseq)).any (fun x => x.cls == o.cls && x.flow == o.flow)
/-- DONE_HELD operations whose predecessors have gone are released in order. -/
def releaseHeld : Nat → Nat → Nat → State → State
  | 0, _, _, s => s
  | fuel + 1, cls, flow, s =>
    match s.prefect.ops.find? (fun o => o.cls == cls && o.flow == flow) with
    | some o => if o.stage = .doneHeld then releaseHeld fuel cls flow (releaseOp o s) else s
    | none => s
/-- Profile code releases the oldest block of a capture's ring when the operation that its token started ends (07 R179;
DESIGN CHOICE, log entry 60). -/
def releaseBlock (o : OpRec) (s : State) : State :=
  let c := o.flow - 0xF000
  let x := captureOf s c
  if isCaptureKey o.flow && (sourcesOf s 200).any (fun p => p.2.succ.contains o.node) && x.stage == 2
      && decide (x.released < x.blocks) && o.arg % 32 == x.released % 32 then
    setCapture s c { x with released := x.released + 1 }
  else s
/-- DONE of an operation (11 R297, R298, R301): the references it holds drop; its tokens go, or wait in DONE_HELD. -/
def completeOp (opseq : Nat) (s : State) : State :=
  match findOp s opseq with
  | none => s
  | some o =>
    let s := releaseBlock o (trace 2 o.opseq o.level o.node 0 o.flow (o.held.foldl (fun u h => bufDrop h u) s))
    let s := if runsInOrder s o && earlierHeld s o then modOp opseq (fun x => { x with stage := .doneHeld, held := [] }) s
             else releaseHeld 65536 o.cls o.flow (releaseOp o s)
    noteBlocks (refill 65536 s)
/-- An operation ends TRAPPED (11 R299): its key or window position frees, none of its tokens goes, its fault successor
gets one token with bit 63 of the argument set, a capture it served is forced to end, and later operations of its flow
are released as if it had completed. -/
def trapOp (opseq : Nat) (s : State) : State :=
  match findOp s opseq with
  | none => s
  | some o =>
    let s := trace 5 o.opseq o.level o.node 0 o.flow (freeRecord opseq s)
    let s := o.out.foldl (fun u t => bufDrop t.buf u) s
    let s := match (nodeOf s o.node).bind (·.fault) with
      | some f =>
        let keeps := o.held.contains o.buf
        let s := (o.held.erase o.buf).foldl (fun u h => bufDrop h u) s
        deliver 4096 (256 + o.punit) [{ flow := o.flow, dest := f, arg := o.arg ||| 2 ^ 63,
                                        buf := if keeps then o.buf else 0xFFFF, from_ := o.node }] s
      | none => o.held.foldl (fun u h => bufDrop h u) s
    let s := if isCaptureKey o.flow then forceEnd (o.flow - 0xF000) 5 s else s
    noteBlocks (refill 65536 (releaseHeld 65536 o.cls o.flow s))

end Sys2Proof.Machine
end

