-- ==== Sys2Proof/Machine/TxOps.lean ====
section
/-! DEFINITION. The downlink's shared operations: request records and their account, credits at an attempt's end, duty
tokens, transmit weights and level, placement on the timeline, and stops (09). -/

namespace Sys2Proof.Machine

/-! ### Request records and the downlink account (09 R265, R266) -/

/-- Terms of the downlink account: 0 new, 1 carried, 2 served, 3 deferred, 4 pending, 5 placed, 6 on_timeline,
8 + status code refused. -/
def setDlTerm (key v : Nat) (s : State) : State :=
  accountRecord true key v { s with tx := { s.tx with account := tabSet 0 s.tx.account key v } }
def dlBump (vi term : Nat) (s : State) : State :=
  setDlTerm (32 * vi + term) ((tabGet 0 s.tx.account (32 * vi + term) + 1) % 2 ^ 64) s
def dlDrop (vi term : Nat) (s : State) : State :=
  setDlTerm (32 * vi + term) (tabGet 0 s.tx.account (32 * vi + term) - 1) s
/-- The record the ring holds under an RQID. -/
def reqOf (s : State) (rqid : Nat) : Option ReqRec :=
  match tabGet none s.tx.records (rqid % 65536) with
  | some r => if r.rqid = rqid then some r else none
  | none => none
def putReq (r : ReqRec) (s : State) : State :=
  { s with tx := { s.tx with records := tabSet none s.tx.records (r.rqid % 65536) (some r) } }
/-- The record of a new attempt. -/
def openReq (r : ReqRec) (s : State) : State :=
  let s := putReq r s
  { s with tx := { s.tx with newest := tabSet 0 s.tx.newest r.vi r.rqid } }
def modReq (rqid : Nat) (f : ReqRec → ReqRec) (s : State) : State :=
  match reqOf s rqid with
  | some r => putReq (f r) s
  | none => s
/-- The next RQID; a block of 65,536 is reserved in MRAM ahead of use (00 R468). -/
def takeRqid (s : State) : Nat × State :=
  let n := s.tx.nextRqid
  (n, { s with tx := { s.tx with
      nextRqid := seqNext n
      rqidReserved := if s.tx.rqidReserved = seqNext n then seqAdd s.tx.rqidReserved 65536 else s.tx.rqidReserved } })

/-! ### Ends of an attempt (09 R239, R224) -/

/-- The credits of an attempt move and its entry is touched (08 R221, R224): an outcome of the entry. -/
def settleCredits (cause slot : Nat) (f : Entry × Account → Entry × Account) (s : State) : State :=
  if (entryOf s slot).status = .free then s else commit cause slot (f (touchedPair s slot)) s
/-- An attempt that never was placed ends REFUSED: its record and the account. -/
def refuseReq (rqid vi : Nat) (st : Status) (s : State) : State :=
  dlDrop vi 4 (dlBump vi (8 + statusCode st) (modReq rqid (fun r => { r with outcome := .refused, status := st }) s))

/-! ### Transmit weights (09 R249, R250, R253) -/

def re16 (w : Nat) : Int := toSigned 16 (w % 65536)
def im16 (w : Nat) : Int := toSigned 16 (w / 65536)
def power16 (w : Nat) : Nat := (re16 w * re16 w + im16 w * im16 w).toNat
/-- Source weights of an entry, by antenna, and whether the beam was used for want of a signature. -/
def sourceWeights (s : State) (slot : Nat) : (Nat → Nat) × Bool :=
  let e := entryOf s slot
  if e.sigStore then (fun a => tabGet 0 s.roll.signature (192 * slot + a), false)
  else (fun a => tabGet 0 (beamsOf s (e.lastBin / 64)).active (192 * e.sigBeam + a), true)
def headPower (w : Nat → Nat) (h : Nat) : Nat := ((antennasOf h).map (fun a => power16 (w a))).sum
/-- Heads that qualify: named, with an ACTIVE lane, and every ramp slot answered OK (09 R249, R255). -/
def qualifies (s : State) (named h : Nat) : Bool :=
  named.testBit h && (activeLane s h).isSome && (headOf s h).rampBad == 0
/-- Heads of most weight power first, ties to the lower head number. -/
def insertHead (w : Nat → Nat) (h : Nat) : List Nat → List Nat
  | [] => [h]
  | x :: t => if headPower w x < headPower w h then h :: x :: t else x :: insertHead w h t
def transmitHeads (s : State) (named profile : Nat) (w : Nat → Nat) : List Nat :=
  let q := (List.range 12).filter (qualifies s named)
  (q.foldl (fun l h => insertHead w h l) []).take (setting s 0x5000 1 profile)
def maskOf (l : List Nat) : Nat := l.foldl (fun m h => m + 2 ^ h) 0

/-- |v_a|^2 of antenna a as a fraction num/den: |u_a|^2 / (sum over the transmit heads) x |T_a|^2 with T_a in Q2.14;
an antenna whose transmit ENABLE is clear takes 0. -/
def ampSquare (s : State) (w : Nat → Nat) (heads : List Nat) (a : Nat) : Nat × Nat :=
  let total := (heads.map (headPower w)).sum
  let t := tabGet 0 s.tx.cal.active a
  if total = 0 ∨ t.testBit 46 = false then (0, 1) else (power16 (w a) * power16 (t % 2 ^ 32), total * 2 ^ 28)
/-- Largest level p <= top (0.1 dBFS, at most 600 steps down) at which the square num/den x 10^(p/100) is at most 1. -/
def levelFit (num den : Nat) : Nat → Int → Int
  | 0, p => p
  | n + 1, p =>
    let ok := if 0 ≤ p then decide (num ^ 100 * 10 ^ p.toNat ≤ den ^ 100)
              else decide (num ^ 100 ≤ den ^ 100 * 10 ^ (-p).toNat)
    if ok then p else levelFit num den n (p - 1)
/-- Least n with (n / 2^16)^2 at least num/den x 10^(p/100), found bit by bit; at most 65,536. -/
def ampOf (num den : Nat) (p : Int) : Nat :=
  let big (n : Nat) : Bool :=
    if 0 ≤ p then decide (num ^ 100 * 10 ^ p.toNat * (2 ^ 32) ^ 100 ≤ den ^ 100 * (n * n) ^ 100)
    else decide (num ^ 100 * (2 ^ 32) ^ 100 ≤ den ^ 100 * (n * n) ^ 100 * 10 ^ (-p).toNat)
  let rec down : Nat → Nat → Nat
    | 0, n => n
    | k + 1, n => if 2 ^ k ≤ n ∧ big (n - 2 ^ k) then down k (n - 2 ^ k) else down k n
  if num = 0 then 0 else down 17 65536
/-- v_a x 10^(P/20) of antenna a, in 2^-32: conj(u_a) x T_a (09 R250), at level p in 0.1 dBFS (09 R253). -/
def driveOf (s : State) (w : Nat → Nat) (heads : List Nat) (a : Nat) (p : Int) : Cx :=
  let total := (heads.map (headPower w)).sum
  let t := tabGet 0 s.tx.cal.active a
  let root := natRoot (total * 2 ^ 108)
  if root = 0 ∨ t.testBit 46 = false then (0, 0)
  else
    let v := cxMul (cxConj (cxOf16 (w a))) (cxOf16 (t % 2 ^ 32))
    let f := fxPow10 p 200 * 256
    (roundHalfEven (v.1 * f) root, roundHalfEven (v.2 * f) root)
/-- LEVEL of the profile's coefficient set, 0.1 dBFS (09 Table 9.4). -/
def setLevel (s : State) (profile : Nat) : Int :=
  toSigned 16 (octField 136 (setting s 0x5010 1 (setting s 0x5010 2 profile)) 132 133)
/-- The channel power limits of a span's bins. -/
def channelLimit (s : State) (bin m : Nat) : Int :=
  (List.range m).foldl (fun p i => min p (toSigned 16 (setting s 0x5010 3 (bin + i)))) 32767

/-! ### Timing (09 R243, R244, R257) -/

def rampProfile (s : State) (slot : Nat) : Nat := setting s 0x5020 1 slot
/-- Default spacing of a ramp, or the setting (09 R256). -/
def spacingOf (s : State) (id : Nat) : Nat :=
  let v := setting s 0x5000 4 id
  if v ≠ 0 then v
  else if ((packageOf s id).ustate == .installed || (packageOf s id).wasInstalled) && !(packageOf s id).inst.raw then
    customerSpacing id
  else 1
def rampCount (s : State) (slot : Nat) : Nat := octAt 66 (rampProfile s slot) 0
/-- Symbols of a vendor air frame of n body octets on a profile (07 R176). -/
def frameSymbols (profile bodyOctets : Nat) : Nat :=
  let b := ceilDiv (16 * bodyOctets + 12) 64
  let c := (if profileFour profile then 32 else 64) * (1 + b)
  48 + (if profile = 2 then 4 * c else c)
/-- Duration of symbols in 1/16 tick, rounded up (one tick is 1/6,400,000 s). -/
def symbols16 (profile n : Nat) : Nat := ceilDiv (n * 16 * 6400000) (profileRate profile)
/-- Units of exact start times: 1/7,500,000 tick holds a sixteenth of a tick, a character and a picosecond exactly. -/
def tickUnit : Nat := 7500000
/-- t_s(h) = S - tx_h - d_h - L_sc (09 R244), in units of 1/7,500,000 tick. -/
def shaperStart (s : State) (s16 h : Nat) : Int :=
  let x := laneOf s (headOf s h).serving
  ((468750 * s16 : Nat) : Int) - (78125 * hidTxLatency (headOf s h).identity + 468750 * x.delay + 48 * x.txLatency : Nat)
/-- The earliest t_s(h) of a burst's transmit heads. -/
def earliestStart (s : State) (s16 : Nat) (heads : List Nat) : Int :=
  heads.foldl (fun m h => min m (shaperStart s s16 h)) ((468750 * s16 : Nat) : Int)
/-- When the first ramp sample reaches the cage of every transmit head: t_s(h) + L_sc. -/
def headStarts (s : State) (s16 : Nat) (heads : List Nat) : Tab Int :=
  heads.foldl (fun t h =>
    tabSet 0 t h (shaperStart s s16 h + ((48 * (laneOf s (headOf s h).serving).txLatency : Nat) : Int))) []
/-- The tick in which a burst's first ramp sample leaves the Shaper. -/
def startTick (b : Burst) : Int := b.shaper / (tickUnit : Int)
/-- LATE (09 R245): the earliest t_s(h) lies less than 64 ticks ahead. -/
def isLate (s : State) (s16 : Nat) (heads : List Nat) : Bool :=
  decide (earliestStart s s16 heads < ((s.time.airTime + 64) * tickUnit : Nat))

/-! ### Duty tokens (09 R260 to R262) -/

def dutyDepth (s : State) (h : Nat) : Nat := setting s 0x5022 2 h * 65536
/-- Tokens of head h now, in 2^-16 ticks: the bucket fills with air time up to its depth. -/
def tokensNow (s : State) (h : Nat) : Nat :=
  let held := tabGet 0 s.tx.tokens h
  if s.time.valid then
    min (dutyDepth s h) (held + setting s 0x5022 1 h * (s.time.airTime - tabGet 0 s.tx.filledAt h))
  else min (dutyDepth s h) held
/-- The bucket takes stock at this air time. -/
def fillBucket (h : Nat) (s : State) : State :=
  { s with tx := { s.tx with tokens := tabSet 0 s.tx.tokens h (tokensNow s h)
                             filledAt := if s.time.valid then tabSet 0 s.tx.filledAt h s.time.airTime else s.tx.filledAt } }
def takeTokens (h n : Nat) (s : State) : State :=
  let t := fillBucket h s
  { t with tx := { t.tx with tokens := tabMod 0 t.tx.tokens h (fun v => v - n * 65536) } }
/-- Tokens return, counted in sixteenths of a tick. -/
def giveTokens (h n16 : Nat) (s : State) : State :=
  let t := fillBucket h s
  { t with tx := { t.tx with tokens := tabMod 0 t.tx.tokens h (fun v => min (dutyDepth t h) (v + n16 * 4096)) } }

/-! ### Ends of a burst (09 R239, R258, R262, R264) -/

def findBurst (s : State) (rqid : Nat) : Option Burst := (burstList s).find? (fun b => b.rqid == rqid)
/-- The place of a burst on the timeline. -/
def placeOf (s : State) (rqid : Nat) : Option Nat :=
  (s.tx.bursts.find? (fun p => match p.2 with
    | some b => b.rqid == rqid
    | none => false)).map (·.1)
/-- A burst leaves the timeline, whose port raises the end of the burst (11 Table 11.1). -/
def dropBurst (rqid : Nat) (s : State) : State :=
  match placeOf s rqid with
  | some i => raisePort (64 + i) (rqid + 2 ^ 63) { s with tx := { s.tx with bursts := tabSet none s.tx.bursts i none } }
  | none => s
/-- The place of the timeline a new burst takes: the lowest free of 64. -/
def freePlace (s : State) : Option Nat := (List.range 64).find? (fun i => tabGet none s.tx.bursts i == none)
def putBurst (i : Nat) (b : Burst) (s : State) : State :=
  { s with tx := { s.tx with bursts := tabSet none s.tx.bursts i (some b) } }
def modBurst (rqid : Nat) (f : Burst → Burst) (s : State) : State :=
  { s with tx := { s.tx with bursts := s.tx.bursts.map (fun p => (p.1, p.2.map (fun b => if b.rqid = rqid then f b else b))) } }

/-- A placed attempt ends: its record, the account, the credits and the touch (09 R239; 08 Table 8.7 orders 4, 5). A
record that later attempts have overwritten takes nothing; the rest moves all the same. -/
def endAttempt (b : Burst) (o : DlOutcome) (st : Status) (bs : BurstState) (endAt symbolsHeard : Nat) (mask : Bool)
    (s : State) : State :=
  let s := modReq b.rqid (fun r => { r with outcome := o, status := st, burst := bs, endAt := endAt, mask := r.mask || mask }) s
  let s := dlDrop b.vi 6 (dlDrop b.vi 4 (dlBump b.vi (if o = .served then 2 else 8 + statusCode st) s))
  let e := entryOf s b.slot
  if b.replyIdx.isSome || e.status == .free then s
  else
    let p := debit .dl ((modelOf s e.cmodel).dlsym * symbolsHeard) (touchedPair s b.slot)
    sendPrepare b.slot (commit causeDownlink b.slot (if o = .served then spendCredits b.cost p else refundCredits b.cost p) s)

/-! ### Transmit enables formed anew (09 R246) -/

/-- Air times from lo to before hi, still ahead, at which a TXEN of a burst on a head takes effect. -/
def txenTimes (s : State) (h lo hi : Nat) : List Nat :=
  ((((burstList s).filter (fun b => b.heads.testBit h)).flatMap (fun b => [enableFrom b, enableTo b])).filter
    (fun t => decide (lo ≤ t ∧ t < hi ∧ s.time.airTime < t))).dedup
/-- TXENs of a head for air times, each mask the union of the bursts in effect then. A head that holds a TXEN for the same
air time takes the later one (DESIGN CHOICE, log entry 62). -/
def txensFor (h : Nat) (times : List Nat) (s : State) : State := times.foldl (fun t a => txenFor h a t) s

/-- A burst placed and not started leaves the timeline NOT_SENT: all its tokens return, and a clearing TXEN takes effect
before its own would, which it forms anew with those of other bursts that counted on it (09 R239, R246, R262). -/
def removeBurst (b : Burst) (s : State) : State :=
  let s := (bitList 12 b.taken).foldl (fun t h => giveTokens h (16 * b.tokens) t) s
  let s := dropBurst b.rqid s
  let s := (bitList 12 b.heads).foldl (fun t h =>
    txensFor h ((enableFrom b - 1) :: enableFrom b :: (txenTimes t h (enableFrom b) (enableTo b)).filter (· ≠ enableFrom b)) t) s
  endAttempt b .refused .incomplete .notSent 0 0 false s

/-- Whole ticks of a burst that have left the Shaper, the one in use among them: the first is its first ramp sample. -/
def samplesOut (s : State) (b : Burst) : Nat :=
  (((s.time.airTime * tickUnit : Nat) : Int) - b.shaper).toNat / tickUnit + 1
/-- The first descending sample of a stop, in 1/16 tick at the antennas (09 R258): the next Shaper sample of the burst. -/
def stopStart (s : State) (b : Burst) : Nat := b.s16 + 16 * samplesOut s b
/-- Ramp points a stop still descends (09 R258): from the point in use, one tick per point. -/
def stopPoints (s : State) (b : Burst) : Nat :=
  let n := octAt 66 b.rampPoints 0
  let now := stopStart s b - 16
  let one := 16 * max 1 b.spacing
  if now < b.s16 + 16 * b.ramp then min n ((now - b.s16) / one + 1)
  else if now < b.symEnd16 then n
  else max 1 (n - (now - b.symEnd16) / one)
/-- The end of a descent, in 1/16 tick at the antennas. -/
def descentEnd (b : Burst) : Nat :=
  match b.stop with
  | some x => x.1 + 16 * x.2
  | none => b.end16
/-- Bursts ended less than 4,096 ticks ago, whose samples a frame or a block to be judged may still hold. -/
def keepTails (s : State) : List Burst :=
  s.tx.descents.filter (fun d => decide (16 * s.time.airTime ≤ descentEnd d + 65536))
/-- The end of a stop's ramp-down, in 1/16 tick at the antennas. -/
def stopEnd (s : State) (b : Burst) : Nat := stopStart s b + 16 * stopPoints s b
/-- Symbols whose start left the antennas before an abort, a symbol partly emitted counted whole (08 Table 8.7). -/
def symbolsBefore (b : Burst) (at16 : Nat) : Nat :=
  let first := b.s16 + 16 * b.ramp
  if at16 ≤ first then 0 else min b.symbols (ceilDiv ((at16 - first) * profileRate b.profile) (16 * 6400000))
/-! ### Blanking (05 R139) -/

/-- Ticks from lo to hi that none of the intervals covers. -/
def uncovered (lo hi : Nat) : List (Nat × Nat) → Nat
  | [] => hi + 1 - lo
  | (l, h) :: t =>
    if h < lo ∨ hi < l then uncovered lo hi t
    else (if lo < l then uncovered lo (l - 1) t else 0) + (if h < hi then uncovered (h + 1) hi t else 0)
/-- Blanking intervals in force on a head, read on its first antenna. -/
def blankSpans (s : State) (h : Nat) : List (Nat × Nat) :=
  s.rx.erasures.filterMap (fun x =>
    if x.antenna = 16 * h ∧ x.cause = causeBlank then x.hi.map (fun e => (x.lo, e)) else none)
def countBlank (h n : Nat) (s : State) : State :=
  { s with rx := { s.rx with blanked := bumpBy s.rx.blanked h n } }
/-- Every antenna of a head is blanked for a burst; intervals that meet form one union. -/
def blankHead (h lo hi : Nat) (s : State) : State :=
  let n := uncovered lo hi (blankSpans s h)
  countBlank h n ((antennasOf h).foldl (fun t a => addErasure a lo (some hi) causeBlank t) s)
/-- A burst's blanking on a head ends earlier than planned. -/
def trimBlank (h lo hi hi' : Nat) (s : State) : State :=
  if hi ≤ hi' then s
  else
    let rest := (blankSpans s h).erase (lo, hi)
    let n := uncovered (hi' + 1) hi rest
    { s with rx := { s.rx with
        blanked := tabMod 0 s.rx.blanked h (fun v => v - n)
        erasures := s.rx.erasures.map (fun x =>
          if x.antenna / 16 = h ∧ x.cause = causeBlank ∧ x.lo = lo ∧ x.hi = some hi then { x with hi := some hi' } else x) } }

/-- A burst in the air is stopped (09 R258): the digital ramp-down begins with the next Shaper sample, PARAMP DOWN NOW
goes to each transmit head, and the attempt ends ABORTED. -/
def stopBurst (b : Burst) (mask : Bool) (s : State) : State :=
  let first := stopStart s b
  let last := stopEnd s b
  let s := (bitList 12 b.taken).foldl (fun t h => giveTokens h (b.end16 - last) t) s
  let s := (bitList 12 b.heads).foldl (fun t h =>
      let t := match activeLane t h with
        | some l => sendParamp l (burstMask b h) b.rampSlot true true 1 0 t
        | none => t
      let t := trimBlank h (blankFrom b) (blankTo b.guard b.end16) (blankTo b.guard last) t
      emit (.rampDown b.rqid h) t) s
  let s := dropBurst b.rqid { s with tx := { s.tx with
    descents := keepTails s ++ [{ b with stop := some (first, stopPoints s b) }] } }
  let s := (bitList 12 b.heads).foldl (fun t h =>
    txensFor h ((ceil16 last + 1) :: txenTimes t h (ceil16 last + 2) (enableTo b)) t) s
  endAttempt b .refused .aborted .aborted (first / 16) (symbolsBefore b first) mask s

/-- Every burst placed and not started reads NOT_SENT. -/
def clearTimeline (s : State) : State :=
  (burstList s).foldl (fun t b => if b.inAir then t else removeBurst b t) s
/-- Every burst in the air is stopped. -/
def stopAir (s : State) : State := (burstList s).foldl (fun t b => if b.inAir then stopBurst b false t else t) s
/-- Bursts of an entry end before a retirement commits (09 Table 9.7). -/
def endBurstsOf (slot : Nat) (s : State) : State :=
  (burstList s).foldl (fun t b => if b.slot = slot then (if b.inAir then stopBurst b false t else removeBurst b t) else t) s

/-- A transmit head drops out of the bursts that use it (09 Table 9.7, spare switchover and loss of LOCKED): a burst in
the air goes on with the others and carries HEADLOST, or is stopped; one placed keeps its other heads or reads
NOT_SENT. -/
def dropHead (h : Nat) (s : State) : State :=
  (burstList s).foldl (fun t b =>
    if b.heads.testBit h then
      let rest := b.heads - 2 ^ h
      let t := modReq b.rqid (fun r => { r with headLost := true }) t
      if b.inAir then
        let t := if (laneOf t (headOf t h).serving).locked then
            sendParamp (headOf t h).serving (burstMask b h) b.rampSlot true true 1 0 t else t
        if rest = 0 then stopBurst b false t
        else
          modBurst b.rqid (fun x => { x with heads := rest })
            (trimBlank h (blankFrom b) (blankTo b.guard b.end16) (blankTo b.guard (stopEnd t b)) t)
      else if rest = 0 then removeBurst b t
      else modReq b.rqid (fun r => { r with heads := rest }) (modBurst b.rqid (fun x => { x with heads := rest }) t)
    else t) s

/-! ### DEFERRED requests (09 R266) -/

/-- A DEFERRED request ends outside a window, through a CARRIED attempt that skips every check (09 R266). -/
def endDeferred (d : Deferred) (st : Status) (s : State) : State :=
  let (n, s) := takeRqid s
  let s := { s with tx := { s.tx with deferred := s.tx.deferred.filter (fun x => x.rqid ≠ d.rqid) } }
  let s := openReq { rqid := n, slot := d.slot, origin := .carried, vi := d.vi, outcome := .refused, status := st,
                     profile := (entryOf s d.slot).profile, cost := d.cost, prev := d.rqid } s
  let s := dlBump d.vi (8 + statusCode st) (dlBump d.vi 1 s)
  settleCredits causeDownlink d.slot
    (fun p => refundCredits d.cost ({ p.1 with defer := p.1.defer - 1 }, p.2)) s
def endDeferredOf (slot : Nat) (st : Status) (s : State) : State :=
  (s.tx.deferred.filter (fun d => d.slot == slot)).foldl (fun t d => endDeferred d st t) s

/-- Transmission is permitted: SERVICE or DEGRADED (02 Table 2.1), and QUIET clear. -/
def mayTransmit (s : State) : Bool :=
  (s.mode.mode == .service || s.mode.mode == .degraded) && !s.mode.causeQuiet

end Sys2Proof.Machine
end

