-- ==== Sys2Proof/Machine/Cipher.lean ====
section
/-! DEFINITION. The cipher engines and the key store: hall pass, wipes, forced release, the four operations, key loads
and block owners (10). -/

namespace Sys2Proof.Machine

/-! ### Engine state -/

/-- State of an engine as 0x7001:04 reads it (10 Table 10.7). -/
def engineState (x : Engine) : Nat :=
  if x.fenced then 4 else if x.wiping then 3 else if x.run.isSome then 2 else if x.pass ≠ 0 then 1 else 0
/-- A wipe begins: key copy, cipher state, IV and TAGOUT clear (10 R277). -/
def beginWipe (x : Engine) : Engine := { x with wiping := true, iv := [], tagOut := [], run := none }
/-- A forced release: the operation reads ABORTED, the engine is wiped, the pass freed, the release counted and
recorded (10 R278). -/
def forceRelease (e : Nat) (s : State) : State :=
  let x := engineOf s e
  let s := setEngine s e { beginWipe x with
    status := if x.run.isSome then .aborted else x.status
    pass := 0, cmdWritten := false, forcedCount := inc32 x.forcedCount }
  errRecord { unit := 0x0300 + e, code := .cipher, severity := .info, detail := x.pass } s
/-- Engines whose pass an identity holds. -/
def passesOf (s : State) (who : Nat) : List Nat := (List.range 8).filter (fun e => (engineOf s e).pass == who && who != 0)
/-- Every pass of an owner that is fenced, reset, substituted or trapped is force-released (10 R278). -/
def releasePassesOf (who : Nat) (s : State) : State := (passesOf s who).foldl (fun t e => forceRelease e t) s

/-- A read of PASS by an initiator: the value read (10 R275, R277). A fenced engine gives its pass to no one (DESIGN CHOICE,
log entry 60). -/
def readPass (who e : Nat) (s : State) : State × Nat :=
  let x := engineOf s e
  if x.wiping || x.fenced then (s, 0xFFFF)
  else if x.pass = 0 then (setEngine s e { x with pass := who, cmdWritten := false }, 0)
  else (s, x.pass)
/-- A write of PASS (10 R276); the Marker never releases its own (07 R187). -/
def writePass (who e v : Nat) (s : State) : State × Status :=
  let x := engineOf s e
  if x.pass = 0 ∨ who ≠ x.pass ∨ v % 65536 ≠ x.pass ∨ x.pass = markerIdentity then (setEngine s e { x with refusedWrite := true }, .ok)
  else if x.run.isSome then (s, .busy)
  else (setEngine s e { beginWipe x with pass := 0, cmdWritten := false }, .ok)

/-! ### Operations (10 R271 to R274) -/

def octetsOf (l : List (BitVec 8)) : List Nat := l.map BitVec.toNat
def bytesOf (l : List Nat) : List (BitVec 8) := l.map (BitVec.ofNat 8)

/-- 10 Table 10.4, with the word's OP and TLEN: the first failure. -/
def cmdCheck (s : State) (who e w : Nat) : Option Status :=
  let x := engineOf s e
  let op := w % 16
  let tlen := w / 16 % 16
  let block319 := decide (x.keysel / 1024 = 319)
  if x.pass ≠ who ∨ who = 0 then some .locked
  else if (op = 2 && !isMarker who) || ((op = 3 || op = 4) && !(isOffice who || isHostTile s who))
      || ((op = 3 || op = 4) && block319 && !isOffice who) then some .access
  else if !((decide (op = 1 ∨ op = 2) && decide (tlen = 1 ∨ tlen = 2) && decide (x.len ≤ 96))
      || (op == 3 && decide (1 ≤ x.len ∧ x.len ≤ 4096))
      || (op == 4 && decide (1 ≤ tlen ∧ tlen ≤ 4) && decide (1 ≤ x.len ∧ x.len ≤ 4096))) then some .range
  else if x.run.isSome then some .busy
  else if op = 1 ∨ op = 2 then
    (if 262144 ≤ x.keysel ∨ (entryOf s x.keysel).status = .free then some .unknown
     else if op = 1 ∧ (entryOf s x.keysel).dcnt = 0xFFFFFFFF then some .exhausted else none)
  else if 327680 ≤ x.keysel ∨ (keyOf s x.keysel).kstate = .empty then some .unknown
  else if op = 3 ∧ 2 ^ 32 < fromBE ((x.iv ++ zeros 16).take 16 |>.drop 12) + ceilDiv x.len 16 then some .exhausted
  else none

/-- A CMD word with a reserved OP, or with a TLEN reserved for its OP (10 Table 10.3): the write is refused (00 R6). -/
def cmdReserved (w : Nat) : Bool :=
  let op := w % 16
  let tlen := w / 16 % 16
  !(decide (1 ≤ op ∧ op ≤ 4)) || (decide (op ≤ 2) && !(decide (1 ≤ tlen ∧ tlen ≤ 2))) || (op == 4 && !(decide (1 ≤ tlen ∧ tlen ≤ 4)))

/-- DCNT is taken for a downlink frame (10 R273; 08 R215): it rises by one in one commit, and at its maximum the entry
becomes EXHAUSTED and its DEFERRED requests end. -/
def takeDcnt (slot : Nat) (s : State) : State :=
  let e := entryOf s slot
  let last := decide (e.dcnt + 1 = 0xFFFFFFFF)
  let newly := last && e.status ≠ .exhausted
  let s := commit causeDownlink slot
    ({ e with dcnt := e.dcnt + 1, status := if last then .exhausted else e.status }, accountOf s slot) s
  let s := if newly then monoBump e.vi 5 1 s else s
  if last then endDeferredOf slot .exhausted s else s

/-! ### Downlink frames (09 R242, R246) -/

/-- H0 and H1 of a burst's frame: LEN, MICL, FTYPE 3, DLPEND and VER 0. -/
def downHeader (b : Burst) : List Nat :=
  let h := (b.payload.length * 2 + b2n b.micl) * 256 + 3 * 32 + 16 * b2n b.dlpend
  [h / 256 % 256, h % 256]
/-- The frame of header octets and what OP 1 wrote: HCRC after the header, CRC at the end (07 R177, R178). -/
def downFrame (head out : List Nat) : List Nat := head ++ [crc8 head] ++ out ++ octetsBE 2 (crc16 (head ++ out))
/-- TAG, FCNT, ciphertext and MIC of a downlink frame under its entry's counter and key, and the MIC (10 R273). -/
def ccmDownlink (s : State) (slot tlen : Nat) (head data : List Nat) : List Nat × List Nat :=
  let r := entryOf s slot
  let key := (keyOf s r.keyh).key
  let nonce := ccmNonce r.identity r.dcnt true (4 * tlen)
  let tag := ccmTag key nonce (head ++ octetsBE 4 r.tag ++ octetsBE 4 r.dcnt) data (4 * tlen)
  (octetsBE 4 r.tag ++ octetsBE 4 r.dcnt ++ ccmCrypt key nonce data ++ tag, tag)
/-- A burst that an engine builds. -/
def claimed (s : State) (rqid : Nat) : Bool :=
  (List.range 8).any (fun e => match (engineOf s e).run with
    | some r => (r.build.map (·.1)) == some rqid
    | none => false)
/-- A placed burst of an entry that still has to be built. -/
def unbuilt (s : State) (slot : Nat) (b : Burst) : Bool :=
  b.slot == slot && b.frame.isNone && b.replyIdx.isNone && !claimed s b.rqid
/-- The burst that OP 1 on one of the engines 4 to 7 builds: the first placed of the entry with this header, payload and
MIC (DESIGN CHOICE, log entry 62). -/
def buildsFor (s : State) (e slot tlen : Nat) (head data : List Nat) : Option Nat :=
  if e < 4 then none
  else ((burstList s).find? (fun b => unbuilt s slot b && b.payload == data && downHeader b == head
    && tlen == (if b.micl then 2 else 1))).map (·.rqid)

/-- What an operation that starts will write: output for DST, tag, and the status at its completion. -/
def cipherResult (s : State) (e op tlen : Nat) (data : List Nat) : List Nat × List Nat × Status :=
  let x := engineOf s e
  let iv := (x.iv ++ zeros 16).take 16
  if op = 1 then
    let r := ccmDownlink s x.keysel tlen (iv.take 2) data
    (r.1, r.2, .ok)
  else if op = 2 then
    let r := entryOf s x.keysel
    let key := (keyOf s r.keyh).key
    let body := (data.drop 8).take x.len
    let nonce := ccmNonce r.identity (fromBE ((data.drop 4).take 4)) false (4 * tlen)
    let plain := ccmCrypt key nonce body
    let tag := ccmTag key nonce (iv.take 2 ++ data.take 8) plain (4 * tlen)
    if tag = (data.drop (8 + x.len)).take (4 * tlen) then (plain, tag, .ok) else ([], [], .bad)
  else if op = 3 then (ctrCrypt (keyOf s x.keysel).key iv data, [], .ok)
  else ([], (aesCmac (keyOf s x.keysel).key data).take (4 * tlen), .ok)

/-- Octets an operation reads at SRC: for OP 2 TAG, FCNT, ciphertext and MIC, as OP 1 writes them. -/
def sourceLen (x : Engine) (op tlen : Nat) : Nat := if op = 2 then 8 + x.len + 4 * tlen else x.len

/-- A write of CMD (10 R271): the checks, then the operation starts. -/
def writeCmd (who e w : Nat) (s : State) : State :=
  let x := engineOf s e
  match cmdCheck s who e w with
  | some st =>
    setEngine s e { x with status := if x.run.isSome then x.status else st, refusedWrite := x.refusedWrite || cmdReserved w,
                           cmdWritten := x.cmdWritten || (x.pass == who && who != 0) }
  | none =>
    let op := w % 16
    let tlen := w / 16 % 16
    let h := if op = 1 ∨ op = 2 then (entryOf s x.keysel).keyh else x.keysel
    let dcnt := (entryOf s x.keysel).dcnt
    let (s, st, bs) := meshRead x.src (sourceLen x op tlen) s
    let data := octetsOf bs
    let poisoned := (keyOf s h).poison
    let (out, tag, res) :=
      if poisoned then ([], [], Status.poison)
      else if st ≠ .ok then ([], [], st)
      else cipherResult s e op tlen data
    let s := if poisoned then errRecord { unit := 0x0300 + e, code := .eccUncorr, severity := .minor, status := .poison,
                                          detail := h } s else s
    let head := ((x.iv ++ zeros 16).take 2)
    let build := if op = 1 then (buildsFor s e x.keysel tlen head data).map (fun n => (n, head)) else none
    let s := if op = 1 then takeDcnt x.keysel s else s
    setEngine s e { x with
      cmdWritten := true
      cntUsed := if op = 1 then dcnt else if op = 2 then fromBE ((data.drop 4).take 4) else x.cntUsed
      run := some { op := op, tlen := tlen, evt := w.testBit 8, out := out, tag := tag, result := res, build := build } }

/-- The operation of an engine completes (10 R271): its output goes to DST, STATUS reads its outcome, and with EVT set
its port raises a token. -/
def completeCipher (e : Nat) (s : State) : State :=
  let x := engineOf s e
  match x.run with
  | none => s
  | some r =>
    let (s, st) := if r.out.isEmpty then (s, Status.ok) else meshWrite x.dst (bytesOf r.out) s
    let res := if r.result ≠ .ok then r.result else st
    let s := match r.build with
      | some (n, head) =>
        if res = .ok then modBurst n (fun b => { b with frame := some (downFrame head r.out) }) s else s
      | none => s
    let s := setEngine s e { x with
      status := res, run := none
      tagOut := if r.tag.isEmpty then x.tagOut else r.tag ++ zeros (16 - r.tag.length) }
    if r.evt && decide (192 ≤ x.evtPort ∧ x.evtPort ≤ 199) then raisePort x.evtPort (e + 256 * statusCode res) s else s

/-! ### Registers on the mesh (10 Table 10.2) -/

/-- Octet i of the window an engine shows to a read; PASS is read apart. -/
def engineImage (x : Engine) : List Nat :=
  octetsLE 4 x.pass ++ zeros 8 ++ octetsLE 4 (statusCode x.status + 256 * b2n x.run.isSome) ++ octetsLE 4 x.keysel
    ++ octetsLE 4 x.len ++ octetsLE 8 x.src ++ octetsLE 8 x.dst ++ (x.iv ++ zeros 16).take 16
    ++ (x.tagOut ++ zeros 16).take 16 ++ octetsLE 4 x.evtPort ++ octetsLE 4 x.cntUsed ++ zeros 176
/-- Replace octets of a little-endian value. -/
def patchOctets (w old : Nat) (i : Nat) (v : Nat) : Nat := fromLE ((octetsLE w old).set i v)
/-- One octet of an RW register below 0x50 changes. -/
def putEngineOctet (off v : Nat) (x : Engine) : Engine :=
  if 0x10 ≤ off ∧ off < 0x14 then { x with keysel := patchOctets 4 x.keysel (off - 0x10) v }
  else if 0x14 ≤ off ∧ off < 0x18 then { x with len := patchOctets 4 x.len (off - 0x14) v }
  else if 0x18 ≤ off ∧ off < 0x20 then { x with src := patchOctets 8 x.src (off - 0x18) v % 2 ^ 40 }
  else if 0x28 > off ∧ off ≥ 0x20 then { x with dst := patchOctets 8 x.dst (off - 0x20) v % 2 ^ 40 }
  else if 0x28 ≤ off ∧ off < 0x38 then { x with iv := ((x.iv ++ zeros 16).take 16).set (off - 0x28) v }
  else if 0x48 ≤ off ∧ off < 0x4C then { x with evtPort := patchOctets 4 x.evtPort (off - 0x48) v }
  else x
def putEngineOctets : List Nat → Nat → Engine → Engine
  | [], _, x => x
  | v :: t, off, x => putEngineOctets t (off + 1) (putEngineOctet off v x)
/-- A read of a span of an engine's window: CMD and FORCE read zero (00 R5), and a read that covers PASS takes a free
pass. -/
def engineRead (who e off n : Nat) (s : State) : State × Status × List (BitVec 8) :=
  if off < 4 then
    let (s, v) := readPass who e s
    (s, .ok, bytesOf (((octetsLE 4 v ++ (engineImage (engineOf s e)).drop 4).drop off).take n))
  else (s, .ok, bytesOf (((engineImage (engineOf s e)).drop off).take n))
/-- A write of a span of an engine's window, register by register in rising offset (log entry 20): PASS, FORCE and CMD
act, of a register written in part the other octets stand as a read returns them; read-only and RZ octets are ignored (00
R5). A span that touches FORCE is the Caretaker's alone. -/
def engineWrite (who e off : Nat) (bs : List (BitVec 8)) (s : State) : State × Status :=
  let on := touches off bs.length
  if on 4 && !isCaretaker who then (s, .access)
  else
    let r := if on 0 then writePass who e (mergeWord (engineOf s e).pass off 0 bs) s else (s, .ok)
    let s := if on 4 && mergeWord 0 off 4 bs == 1 then forceRelease e r.1 else r.1
    let s := if on 8 then writeCmd who e (mergeWord 0 off 8 bs) s else s
    (setEngine s e (putEngineOctets (octetsOf bs) off (engineOf s e)), r.2)

/-! ### Key loads (10 R281 to R283) -/

def loadKeyOf (v : Nat) : Nat := 326656 + v
def wrappedOf (len v : Nat) : List Nat := (List.range (len - 8)).map (fun i => octAt len v (8 + i))
/-- Checks 2 to 5 of R282 for a target handle, and the load. -/
def loadInto (vi target len v : Nat) (s : State) : State × Status :=
  if (keyOf s (loadKeyOf vi)).kstate = .empty then (s, .unknown)
  else if (keyOf s target).kstate = .bound then (s, .locked)
  else match aesUnwrap (keyOf s (loadKeyOf vi)).key (wrappedOf len v) with
    | none => ({ s with cipher := { s.cipher with unwrapFails := bump s.cipher.unwrapFails vi } }, .bad)
    | some k => (setKey s target { kstate := .loaded, wide := decide (k.length = 32), key := k }, .ok)
/-- 0x7010:01. -/
def writeKeyLoad (vi len v : Nat) (s : State) : State × Status :=
  let h := octField len v 0 3
  if !keyAssigned s vi h then (s, .access) else loadInto vi h len v s
/-- 0x7010:02 (10 R282). -/
def writeKeyErase (h : Nat) (s : State) : State × Status :=
  match (keyOf s h).kstate with
  | .bound => (s, .locked)
  | _ => (wipeKey s h, .ok)
/-- 0x7011:01: the load key of a VI, under VI 0's own. -/
def writeViLoadKey (el len v : Nat) (s : State) : State × Status := loadInto 0 (loadKeyOf el) len v s
/-- 0x7011:02: a management key; both replay counters of its VI restart (10 R283). -/
def writeManagementKey (vi el len v : Nat) (s : State) : State × Status :=
  match loadInto vi (managementKeyOf el) len v s with
  | (s, .ok) => ({ s with molfen := { s.molfen with
      rxCnt := tabSet 0 s.molfen.rxCnt el 0, rxWindow := tabSet 0 s.molfen.rxWindow el 0
      txCnt := tabSet 0 s.molfen.txCnt el 0, txReserved := tabSet 0 s.molfen.txReserved el 0 } }, .ok)
  | r => r
/-- 0x7000:01: a block that holds a slot not EMPTY keeps its owner (10 R281). -/
def writeBlockOwner (blk v : Nat) (s : State) : State × Status :=
  if s.cipher.keys.any (fun p => p.1 / 1024 == blk && p.2.kstate ≠ .empty) && v ≠ setting s 0x7000 1 blk then (s, .refused)
  else plainWrite 0 0x7000 1 blk v s

/-! ### Commands -/

/-- HALL_PASS_READ (10 R275): initiator `who` reads PASS of engine e; the value read is answered. -/
def execHallPassRead (e : Fin 8) (who : Nat) (s : State) : Out :=
  if isIdentity who then
    let r := readPass who e s
    .next (answerOf .ok r.2 r.1)
  else .next s
/-- HALL_PASS_RELEASE (10 R276). -/
def execHallPassRelease (e : Fin 8) (who v : Nat) (s : State) : Out := answered (writePass who e v s)
/-- FORCED_RELEASE (10 R278): a write of FORCE by an initiator. -/
def execForcedRelease (e : Fin 8) (who : Nat) (s : State) : Out :=
  if isCaretaker who then answered (forceRelease e s, .ok) else answered (s, .access)
/-- HOLD_LIMIT_EXPIRY (10 R278): engines 4 to 7 only. -/
def execHoldLimitExpiry (e : Fin 8) (s : State) : Out :=
  let x := engineOf s e
  if 4 ≤ e.val ∧ x.pass ≠ 0 ∧ x.cmdWritten = false then .next (forceRelease e s) else .next s
/-- The CMD word of an operation (10 Table 10.3). -/
def cmdWord (op tlen : Nat) (evt : Bool) : Nat := op + 16 * (tlen % 16) + 256 * b2n evt
/-- A write of CMD by an initiator, answered with what STATUS reads then. -/
def runCmd (e who w : Nat) (s : State) : Out :=
  let t := writeCmd who e w s
  .next (answering (match cmdCheck s who e w with | some st => st | none => .ok) t)
/-- CCM_DOWNLINK_BUILD (10 R273). -/
def execCcmDownlinkBuild (e : Fin 8) (who tlen : Nat) (evt : Bool) (s : State) : Out := runCmd e who (cmdWord 1 tlen evt) s
/-- CCM_UPLINK_VERIFY (10 R273). -/
def execCcmUplinkVerify (e : Fin 8) (who tlen : Nat) (evt : Bool) (s : State) : Out := runCmd e who (cmdWord 2 tlen evt) s
/-- CTR (10 R274). -/
def execCtr (e : Fin 8) (who tlen : Nat) (evt : Bool) (s : State) : Out := runCmd e who (cmdWord 3 tlen evt) s
/-- CIPHER_CMAC (10 R268). -/
def execCipherCmac (e : Fin 8) (who tlen : Nat) (evt : Bool) (s : State) : Out := runCmd e who (cmdWord 4 tlen evt) s
/-- CIPHER_OPERATION_COMPLETE (10 R271). -/
def execCipherOperationComplete (e : Fin 8) (s : State) : Out := .next (completeCipher e s)
/-- WIPE_COMPLETE (10 R277). -/
def execWipeComplete (e : Fin 8) (s : State) : Out := .next (setEngine s e { engineOf s e with wiping := false })
/-- KEY_LOAD (10 R282). -/
def execKeyLoad (vi : Fin 16) (len v : Nat) (s : State) : Out :=
  answered (checkedWrite vi 0x7010 1 0 len v (writeKeyLoad vi len v) s)
/-- KEY_ERASE (10 R282). -/
def execKeyErase (vi : Fin 16) (handle v : Nat) (s : State) : Out :=
  answered (checkedWrite vi 0x7010 2 handle 1 v (writeKeyErase handle) s)
/-- VI_LOAD_KEY (10 R283). -/
def execViLoadKey (vi : Fin 16) (el len v : Nat) (s : State) : Out :=
  answered (checkedWrite vi 0x7011 1 el len v (writeViLoadKey el len v) s)
/-- VI_MANAGEMENT_KEY (10 R283). -/
def execViManagementKey (vi : Fin 16) (el len v : Nat) (s : State) : Out :=
  answered (checkedWrite vi 0x7011 2 el len v (writeManagementKey vi el len v) s)
/-- BLOCK_OWNER_WRITE (10 R281). -/
def execBlockOwnerWrite (vi : Fin 16) (blk v : Nat) (s : State) : Out :=
  answered (checkedWrite vi 0x7000 1 blk 1 v (writeBlockOwner blk v) s)

end Sys2Proof.Machine
end

