-- ==== Sys2Proof/Machine/Messages.lean ====
section
/-! DEFINITION. The form of Molfen messages: header, items, bodies and the emergency requests of RS-485 (16 R413, R414,
R416, R434). -/

namespace Sys2Proof.Machine

/-! ### Messages (R413, R416) -/

/-- A message that passes the checks of form: TYPE, VI, CNT, body (R414; length of Table 16.1 at most 1,452). -/
structure Msg where
  type : Nat
  vi : Nat
  cnt : Nat
  body : List Nat
  deriving DecidableEq, Repr
/-- An item of a REQUEST (Table 16.2). -/
structure Item where
  op : Nat
  idx : Nat
  sub : Nat
  el : Nat
  len : Nat
  v : Nat
  /-- the reserved octets are zero -/
  zero : Bool
  deriving DecidableEq, Repr

/-- VI a message names in octet 2. -/
def namedVi (o : List Nat) : Option Nat := (o[2]?).map (fun x => x % 16)
/-- Octets a to b - 1 of a message as a number. -/
def fieldBE (o : List Nat) (a n : Nat) : Nat := fromBE ((o.drop a).take n)
/-- VER, TYPE for the direction and LEN of R414. -/
def readMsg (o : List Nat) : Option Msg :=
  let n := o.length
  let t := o.getD 1 0
  if 20 ≤ n ∧ n ≤ 1452 ∧ o.getD 0 0 = 1 ∧ (t = 0x01 ∨ t = 0x12) ∧ 20 + fieldBE o 10 2 = n then
    some ⟨t, o.getD 2 0 % 16, fieldBE o 4 6, (o.drop 12).take (n - 20)⟩
  else none
/-- n items that fill the octets exactly. -/
def readItems : Nat → List Nat → Option (List Item)
  | 0, o => if o.isEmpty then some [] else none
  | n + 1, o =>
    let len := fieldBE o 10 2
    if o.length < 12 + len then none
    else
      let i : Item := { op := o.getD 0 0, idx := fieldBE o 2 2, sub := o.getD 4 0, el := fieldBE o 6 4, len := len,
                        v := fieldBE o 12 len, zero := o.getD 1 0 == 0 && o.getD 5 0 == 0 }
      (readItems n (o.drop (12 + len))).map (fun t => i :: t)
/-- TOKEN and items of a REQUEST body (R416). -/
def readBody (b : List Nat) : Option (Nat × List Item) :=
  let n := b.getD 2 0
  if 4 ≤ b.length ∧ 1 ≤ n ∧ n ≤ 64 ∧ b.getD 3 0 = 0 then (readItems n (b.drop 4)).map (fun l => (fieldBE b 0 2, l)) else none

/-- A RS-485 REQUEST whose items all name emergency objects (R434, R446). -/
def emergencyOf (d : Datagram) (m : Msg) : Option (Nat × List Item) :=
  match readBody m.body with
  | some (t, l) => if d.port = 2 ∧ m.type = 0x01 ∧ l.all (fun i => i.idx == 0xF000) then some (t, l) else none
  | none => none

end Sys2Proof.Machine
end

