-- ==== Sys2Proof/Machine/Frame.lean ====
section
/-! DEFINITION. The coding of air frames: the vendor air frame (07 R176 to R178), the Decoder (07 R184), the SFD search
(07 R181), and the frames of the published profiles (07 R185, R469), whose coding the spec leaves to IEEE 802.15.4 and
EN 13757-4 (PRESUMED where written out here, free in Config where not: log entry 59). -/

namespace Sys2Proof.Machine

/-! ### Bits of octets -/

/-- Bits of octets, most significant first. -/
def bitsMsb (l : List Nat) : List Bool := l.flatMap (fun o => (List.range 8).map (fun i => o.testBit (7 - i)))
def fromBits (l : List Bool) : Nat := l.foldl (fun a b => 2 * a + b2n b) 0
/-- Groups of n items; a last group that is not complete is left out. -/
def groupsOf {α : Type} (n : Nat) : Nat → List α → List (List α)
  | 0, _ => []
  | fuel + 1, l => if n = 0 ∨ l.length < n then [] else l.take n :: groupsOf n fuel (l.drop n)
def octetsMsb (l : List Bool) : List Nat := (groupsOf 8 l.length l).map fromBits
/-- Octets of bits sent least significant first. -/
def octetsLsb (l : List Bool) : List Nat := (groupsOf 8 l.length l).map (fun g => fromBits g.reverse)

/-! ### Convolutional codes of rate 1/2 (07 R176 step 1, R184) -/

/-- A code the Decoder takes: constraint length, the two generators, and whether it is recursive systematic, its first
generator then the feedback. -/
structure Code where
  k : Nat
  g0 : Nat
  g1 : Nat
  recursive : Bool := false
  deriving DecidableEq, Repr
/-- The vendor code. -/
def vendorCode : Code := ⟨7, 0o171, 0o133, false⟩
def parity (n : Nat) : Bool := (List.range 8).foldl (fun p i => p != n.testBit i) false
/-- The register contents for an input bit b in a state: the newest bit is the highest. -/
def codeReg (c : Code) (st : Nat) (b : Bool) : Nat :=
  let top := 2 ^ (c.k - 1)
  if c.recursive then st + top * b2n (b != parity (Nat.land c.g0 st)) else st + top * b2n b
/-- The two coded bits of a register. -/
def codeOut (c : Code) (reg : Nat) : Bool × Bool :=
  (if c.recursive then parity (Nat.land c.g0 reg) else parity (Nat.land c.g0 reg), parity (Nat.land c.g1 reg))
/-- The input bit that a register holds. -/
def codeIn (c : Code) (reg : Nat) : Bool :=
  if c.recursive then parity (Nat.land c.g0 reg) else reg.testBit (c.k - 1)
/-- Coded bits of input bits from a state. -/
def convEncode (c : Code) : Nat → List Bool → List Bool
  | _, [] => []
  | st, b :: t =>
    let reg := codeReg c st b
    (codeOut c reg).1 :: (codeOut c reg).2 :: convEncode c (reg / 2) t

/-! ### The Decoder (07 R184) -/

/-- A state's survivor: its metric and its bits, newest first. -/
abbrev Survivor := Option (Int × List Bool)
/-- The gain of a coded bit for a soft decision, positive for 1. -/
def soften (b : Bool) (v : Int) : Int := if b then v else -v
/-- The better of two survivors; which of two equal ones is taken is not stated (log entry 5). -/
def better (tie : Bool) : Survivor → Survivor → Survivor
  | none, y => y
  | x, none => x
  | some x, some y => some (max x.1 y.1, if x.1 < y.1 ∨ (x.1 = y.1 ∧ tie) then y.2 else x.2)
/-- A survivor carried through a register with the soft decisions of its two coded bits. -/
def extend (c : Code) (v0 v1 : Int) (reg : Nat) (x : Survivor) : Survivor :=
  x.map (fun p => (p.1 + soften (codeOut c reg).1 v0 + soften (codeOut c reg).2 v1, codeIn c reg :: p.2))
/-- One step of the trellis. -/
def trellis (c : Code) (n : Nat) (v0 v1 : Int) (l : List Survivor) : List Survivor :=
  (List.range (2 ^ (c.k - 1))).map (fun ns =>
    let top := 2 ^ (c.k - 1)
    let from_ (reg : Nat) : Survivor := extend c v0 v1 reg ((l[reg % top]?).getD none)
    better (Config.decoderTie n ns) (from_ (2 * ns)) (from_ (2 * ns + 1)))
/-- The survivors before the first bit: the zero state alone. -/
def firstSurvivors (c : Code) : List Survivor :=
  (List.range (2 ^ (c.k - 1))).map (fun st => if st = 0 then some (0, []) else none)
/-- The survivor with the best metric. -/
def bestOf (n : Nat) (l : List Survivor) : Survivor := l.foldl (fun a x => better (Config.decoderTie n 64) a x) none
/-- Bits that step n commits: once 48 later ones are processed. -/
def commitAt (n : Nat) (l : List Survivor) : List Bool :=
  if n < 48 then [] else match bestOf n l with
    | some p => (p.2[48]?).toList
    | none => []
/-- Committed bits of a block from soft decisions of its coded bits, two a step; at the block's end, `total` steps on, the
remaining bits come from the zero state. -/
def decodeFrom (c : Code) (total : Nat) : Nat → List Survivor → List Bool → List Int → List Bool
  | n, l, done, v0 :: v1 :: t =>
    let l := trellis c n v0 v1 l
    let done := done ++ commitAt n l
    if n + 1 = total then
      match (l.head?).getD none with
      | some p => done ++ p.2.reverse.drop done.length
      | none => done
    else decodeFrom c total (n + 1) l done t
  | _, _, done, _ => done
def decodeBlock (c : Code) (total : Nat) (soft : List Int) : List Bool :=
  decodeFrom c total 0 (firstSurvivors c) [] soft

/-! ### The vendor air frame (07 R176) -/

/-- A group of 64 written by rows of 8 and read by columns; the same order undoes it. -/
def interleave {α : Type} (l : List α) : List α :=
  (List.range 8).flatMap (fun k => (List.range 8).filterMap (fun r => l[8 * r + k]?))
/-- A block: encoder, six tail bits, padding to groups of 64, interleaver. -/
def codedBlock (octets : List Nat) : List Bool :=
  let c := convEncode vendorCode 0 (bitsMsb octets ++ List.replicate 6 false)
  let c := c ++ List.replicate (64 * ceilDiv c.length 64 - c.length) false
  (groupsOf 64 c.length c).flatMap interleave
/-- Symbols of interleaved bits: -1 and 1, or -3 to 3. -/
def symbolsOf (four : Bool) (l : List Bool) : List Int :=
  if four then (groupsOf 2 l.length l).map (fun g => match g with
    | [false, true] => 3
    | [false, false] => 1
    | [true, false] => -1
    | _ => -3)
  else l.map (fun b => if b then 1 else -1)
/-- Symbols of an air frame with a header word and the body's octets (Table 7.2). -/
def vendorSymbols (id header : Nat) (body : List Nat) : List Int :=
  let four := profileFour id
  let outer : Int := if four then 3 else 1
  let coded := symbolsOf four (codedBlock (octetsBE 3 header) ++ codedBlock body)
  (List.range 32).map (fun i => if i % 2 = 0 then outer else -outer)
    ++ (bitsMsb [0xE5, 0xB8]).map (fun b => if b then outer else -outer)
    ++ (if id = 2 then coded.flatMap (List.replicate 4) else coded)
/-- Committed bits of a block of so many input bits, from the soft decisions of its groups in the order of the air. -/
def committedBits (bits : Nat) (soft : List Int) : List Bool :=
  decodeBlock vendorCode (bits + 6) (((groupsOf 64 soft.length soft).flatMap interleave).take (2 * (bits + 6)))
/-- Coded bits of a block of n octets. -/
def blockBits (n : Nat) : Nat := 64 * ceilDiv (16 * n + 12) 64
/-- The header word, once the Decoder has committed it. -/
def vendorHeader (soft : List Int) : Option Nat :=
  let l := committedBits 24 (soft.take 64)
  if l.length < 24 then none else some (fromBits (l.take 24))
/-- Body octets of a header: TAG, FCNT, PAYLOAD, MIC and CRC (07 R176). -/
def bodyOctets (header : Nat) : Nat := 10 + header / 2 ^ 17 % 128 + (if header.testBit 16 then 8 else 4)
/-- Octets of the body committed so far. -/
def vendorBody (header : Nat) (soft : List Int) : List Nat :=
  octetsMsb ((committedBits (8 * bodyOctets header) ((soft.drop 64).take (blockBits (bodyOctets header)))).take
    (8 * bodyOctets header))

/-! ### The SFD search (07 R181) -/

/-- Signs in which two 16-bit patterns differ. -/
def mismatches (a b : Nat) : Nat := ((List.range 16).filter (fun i => a.testBit i != b.testBit i)).length
/-- SFD patterns of a profile, each with whether the frame behind it is coded; for SUN FSK by the set of 0x4020:05, and for
EN 13757-4 the last 16 chips of the synchronisation word (PRESUMED, log entry 59). -/
def sfdPatterns (id set : Nat) : List (Nat × Bool) :=
  if id = 0x10 ∨ id = 0x11 ∨ id = 0x12 then
    (if set = 0 then [(0x904E, false), (0x6F4E, true)] else [(0x7A0E, false), (0x632D, true)])
  else if id = 0x20 ∨ id = 0x21 then [(0x543D, false)]
  else [(0xE5B8, false)]
/-- An end position, in 1/16 ticks after PEAK_AT, lies in the window of 14 to 18 symbol periods. -/
def inSfdWindow (id : Nat) (pos : Int) : Bool :=
  decide ((14 * 16 * 6400000 : Int) ≤ pos * profileRate id) && decide (pos * profileRate id ≤ 18 * 16 * 6400000)
/-- Candidates with at most 2 mismatches: mismatches, position, coded. -/
def sfdCandidates (id set : Nat) (windowed : Bool) (l : List (Int × Nat)) : List (Nat × Int × Bool) :=
  l.flatMap (fun p => (sfdPatterns id set).filterMap (fun q =>
    if mismatches p.2 q.1 ≤ 2 ∧ (!windowed || inSfdWindow id p.1) then some (mismatches p.2 q.1, p.1, q.2) else none))
/-- The accepted end position: fewest mismatches, the earlier of equals. -/
def sfdAccept (id set : Nat) (windowed : Bool) (l : List (Int × Nat)) : Option (Int × Bool) :=
  (((sfdCandidates id set windowed l).foldl (fun (a : Option (Nat × Int × Bool)) x =>
    match a with
    | none => some x
    | some y => if x.1 < y.1 ∨ (x.1 = y.1 ∧ x.2.1 < y.2.1) then some x else a) none)).map (·.2)

/-! ### SUN FSK (07 Table 7.5) -/

def hardBits (soft : List Int) : List Bool := soft.map (fun v => decide (0 ≤ v))
/-- Bits behind the SFD: as they stand, or the committed bits of the FEC, its generators and interleaver free. -/
def sunBits (coded rsc : Bool) (total : Nat) (soft : List Int) : List Bool :=
  if coded then
    decodeBlock ⟨4, (Config.sunGenerators rsc).1, (Config.sunGenerators rsc).2, rsc⟩ total
      ((List.range soft.length).map (fun i => (soft[Config.sunInterleaver soft.length i]?).getD 0))
  else hardBits soft
/-- PHR of a SUN FSK frame: mode switch, FCS of two octets, whitening, PSDU length. -/
structure Phr where
  modeSwitch : Bool
  fcs2 : Bool
  whitened : Bool
  len : Nat
  deriving DecidableEq, Repr
def phrOf (bits : List Bool) : Option Phr :=
  if bits.length < 16 then none
  else
    let w := fromBits (bits.take 16)
    some ⟨w.testBit 15, w.testBit 12, w.testBit 11, w % 2048⟩
/-- Coded bits, or bits, of PHR and PSDU: with FEC three tail and five padding bits are coded with them. -/
def sunLength (coded : Bool) (len : Nat) : Nat := if coded then 2 * (24 + 8 * len) else 16 + 8 * len
/-- The PN9 sequence: x[n] = x[n - 9] + x[n - 4], from nine ones; `l` holds the last nine, newest first. -/
def pn9 : Nat → List Bool → List Bool
  | 0, _ => []
  | n + 1, l =>
    let b := ((l[8]?).getD true) != ((l[3]?).getD true)
    b :: pn9 n (b :: l.take 8)
/-- The PSDU's octets, unwhitened. -/
def psduOf (p : Phr) (bits : List Bool) : List Nat :=
  let l := (bits.drop 16).take (8 * p.len)
  octetsLsb (if p.whitened then List.zipWith (· != ·) l (pn9 l.length (List.replicate 9 true)) else l)
def fcs16Step (c o : Nat) : Nat := (List.range 8).foldl (fun c i =>
  if (c % 2 = 1) != o.testBit i then (c / 2) ^^^ 0x8408 else c / 2) c
/-- The 2- or 4-octet FCS at the end of a PSDU holds. -/
def fcsHolds (p : Phr) (psdu : List Nat) : Bool :=
  let n := psdu.length - (if p.fcs2 then 2 else 4)
  if p.fcs2 then decide (2 ≤ psdu.length) && fromLE (psdu.drop n) == (psdu.take n).foldl fcs16Step 0
  else decide (4 ≤ psdu.length) && fromLE (psdu.drop n) == crc32 (psdu.take n)

/-! ### EN 13757-4 (07 Table 7.5) -/

def threeOfSix : List Nat :=
  [0b010110, 0b001101, 0b001110, 0b001011, 0b011100, 0b011001, 0b011010, 0b010011,
   0b101100, 0b100101, 0b100110, 0b100011, 0b110100, 0b110001, 0b110010, 0b101001]
/-- Octets of 3-out-of-6 chips up to the first invalid word, and whether one was met. -/
def threeOctets : List Nat → List Nat × Bool
  | a :: b :: t =>
    match threeOfSix.findIdx? (· == a), threeOfSix.findIdx? (· == b) with
    | some x, some y => let r := threeOctets t; ((16 * x + y) :: r.1, r.2)
    | _, _ => ([], true)
  | _ => ([], false)
def crcEnBit (c : Nat) : Nat := if c.testBit 15 then ((c * 2) ^^^ 0x3D65) % 65536 else (c * 2) % 65536
def crcEn (l : List Nat) : Nat :=
  (l.foldl (fun c o => (List.range 8).foldl (fun c _ => crcEnBit c) (c ^^^ (o * 256))) 0) ^^^ 0xFFFF
/-- Octets of a frame with an L-field, block CRCs included: format A has one after 10 octets and after each 16 that
follow; the L-field of format B counts its own. -/
def enOctets (formatB : Bool) (lField : Nat) : Nat :=
  if formatB then lField + 1 else lField + 1 + 2 * (1 + ceilDiv (lField + 1 - 10) 16)
/-- Blocks of a frame, each with its CRC. -/
def enBlocks (formatB : Bool) (l : List Nat) : List (List Nat) :=
  if formatB then (if l.length ≤ 128 then [l] else [l.take 128, l.drop 128])
  else l.take 12 :: (let t := l.drop 12
                     groupsOf 18 t.length t ++ (if t.length % 18 = 0 then [] else [t.drop (18 * (t.length / 18))]))
def enBlockOk (l : List Nat) : Bool := decide (2 ≤ l.length) && fromBE (l.drop (l.length - 2)) == crcEn (l.take (l.length - 2))

end Sys2Proof.Machine
end

