-- ==== Sys2Proof/Machine/Shaper.lean ====
section
/-! DEFINITION. The Shaper and the mask monitor: the samples a burst puts on an antenna, and the spectrum they are judged by
(09 R250 to R254, R257 to R259, R263). -/

namespace Sys2Proof.Machine

/-! ### The waveform (09 R251, R252) -/

/-- Symbols of a burst: of the vendor air frame built, or of a reply, whose coding the spec leaves to EN 13757-4. -/
def burstSymbols (b : Burst) : List Int :=
  match b.frame with
  | some f => if b.replyIdx.isSome then Config.replySymbols b.profile f else vendorSymbols b.profile (fromBE (f.take 3)) (f.drop 3)
  | none => []
/-- Sum of taps times the last 64 samples of the run, the newest first. -/
def tapped (coef : Nat) (l : List Int) : Int :=
  ((List.range 64).map (fun j => toSigned 16 (octField 136 coef (2 * j) (2 * j + 1)) * (l[j]?).getD 0)).sum
/-- Phase points, 16 a symbol, in 2^-64 turns: each advances by the filtered frequency over one point. -/
def phasesFrom (coef rate : Nat) : List Int → List Int → Int → List Int
  | [], _, _ => []
  | x :: t, last, p =>
    let last := x :: last.take 63
    let p := p + tapped coef last * (octField 136 coef 128 131 : Nat) * fxOne / ((32768 * 160 * rate : Nat) : Int)
    p :: phasesFrom coef rate t last p
def phasePoints (b : Burst) : List Int :=
  phasesFrom b.coef (profileRate b.profile) ((burstSymbols b).flatMap (List.replicate 16) ++ List.replicate 64 0) [] 0
/-- Offset of a burst's carrier from the head's RF centre, in Hz: its span's centre and the verdict's offset (05 R122, R130;
09 R247). -/
def carrierOffset (b : Burst) : Int := (2 * (b.bin : Int) + (2 ^ b.mcode : Nat) - 513) * 6250 + b.cfo
/-- Phase of the waveform at a time after the first ramp sample, before that sample's own is taken off: the phase points
interpolated (free in Config, log entry 5) and the carrier. -/
def rawPhase (b : Burst) (points : List Int) (u : Int) : Int :=
  Config.shaperPhase points ((u - ((b.ramp * tickUnit : Nat) : Int)) * (16 * profileRate b.profile * 2 ^ 32 : Nat)
      / ((6400000 * tickUnit : Nat) : Int))
    + carrierOffset b * u * fxOne / ((6400000 * tickUnit : Nat) : Int)
/-- Time since the first ramp sample that the sample in a head's lane at air time n stands for; it left the Shaper L_sc before,
and the fraction is the head's own fractional delay. -/
def sinceStart (b : Burst) (h n : Nat) : Int := ((n * tickUnit : Nat) : Int) - tabGet 0 b.starts h
/-- First air time of a head's ramp at the cage. -/
def firstTick (b : Burst) (h : Nat) : Int := -(-(tabGet 0 b.starts h) / (tickUnit : Int))
/-- The unit-modulus waveform, at phase 0 at its first ramp sample. -/
def waveAt (b : Burst) (points : List Int) (h n : Nat) : Cx :=
  fxTurn (rawPhase b points (sinceStart b h n) - rawPhase b points (sinceStart b h (firstTick b h).toNat))

/-! ### Ramps (09 R257, R258) -/

def rampPoint (b : Burst) (i : Int) : Nat :=
  if 0 ≤ i ∧ i < (octAt 66 b.rampPoints 0 : Nat) then octField 66 b.rampPoints (2 + 2 * i.toNat) (3 + 2 * i.toNat) else 0
/-- Ramp amplitude (65,535 full) at a time after the first ramp sample. -/
def rampAt (b : Burst) (u : Int) : Nat :=
  let n : Nat := octAt 66 b.rampPoints 0
  let since (at16 : Nat) : Int := 16 * u - (((at16 - b.s16) * tickUnit : Nat) : Int)
  let ticks (v : Int) : Int := v / ((16 * tickUnit : Nat) : Int)
  let step (v : Int) : Int := ticks v / ((max 1 b.spacing : Nat) : Int)
  let plain := if u < 0 then 0
    else if u < ((b.ramp * tickUnit : Nat) : Int) then rampPoint b (step (16 * u))
    else if since b.symEnd16 < 0 then 65535
    else rampPoint b (n - 1 - step (since b.symEnd16))
  match b.stop with
  | some x => if since x.1 < 0 then plain else rampPoint b ((x.2 : Int) - 1 - ticks (since x.1))
  | none => plain

/-! ### Samples (09 R253, R254) -/

/-- The sample of a burst for an antenna that stands in its lane at air time n. -/
def burstSample (b : Burst) (points : List Int) (a n : Nat) : Cx :=
  let u := sinceStart b (a / 16) n
  let r := rampAt b u
  if u < 0 ∨ r = 0 ∨ b.heads.testBit (a / 16) = false then (0, 0)
  else
    let v := cxMul (tabGet (0, 0) b.drive a) (waveAt b points (a / 16) n)
    let den := 2 ^ 96 * 65535
    (roundHalfEven (v.1 * 32767 * r) den, roundHalfEven (v.2 * 32767 * r) den)
/-- Bursts whose samples may leave the Shaper: in the air, or ended not long ago. -/
def emitting (s : State) : List Burst := (burstList s).filter (·.inAir) ++ s.tx.descents
/-- The sample for an antenna that stands in its lane at air time n: the sum over the bursts (R254); zero outside them (R263). -/
def txSample (s : State) (a n : Nat) : Cx :=
  (emitting s).foldl (fun v b => if b.heads.testBit (a / 16) then cxAdd v (burstSample b (phasePoints b) a n) else v) (0, 0)

/-! ### The mask monitor (09 R259) -/

/-- LO, HI and LIMIT of a mask segment. -/
def segmentOf (v : Nat) : Int × Int × Int :=
  (toSigned 16 (octField 6 v 0 1), toSigned 16 (octField 6 v 2 3), toSigned 16 (octField 6 v 4 5))
/-- Ticks from the Shaper to a lane, rounded up (04 Table 4.6). -/
def shaperLag (s : State) (l : Nat) : Nat := ceilDiv (48 * (laneOf s l).txLatency) tickUnit
/-- Samples of an antenna in block r, which leave the Shaper at ticks 256r to 256r + 255, under the Hann window. -/
def hannBlock (s : State) (a r : Nat) : List Cx :=
  let first := 256 * r + shaperLag s (headOf s (a / 16)).serving
  let l := (emitting s).filter (fun b => b.heads.testBit (a / 16)) |>.map (fun b => (b, phasePoints b))
  (List.range 256).map (fun i =>
    let v := l.foldl (fun v p => cxAdd v (burstSample p.1 p.2 a (first + i))) ((0, 0) : Cx)
    let w := (fxOne - (fxTurn (fxOne * i / 256)).1) / 2 ^ 33
    (v.1 * w, v.2 * w))
/-- Analysis bin k of a windowed block. -/
def analysisBin (block : List Cx) (k : Int) : Cx :=
  (block.zipIdx).foldl (fun v p =>
    let t := fxTurn (-(k * p.2) % 256 * (fxOne / 256))
    cxAdd v (cxMul p.1 (t.1 / 2 ^ 32, t.2 / 2 ^ 32))) (0, 0)
/-- Whether bin k lies above a level: a full-scale tone at a bin's centre stands at 0 dBFS (log entry 62). -/
def binAbove (block : List Cx) (k limit : Int) : Bool :=
  let p := cxPower (analysisBin block k)
  let full := (128 * 32767 * 2 ^ 64) ^ 2
  p ≠ 0 && !(atLeastDb full p (-limit))
/-- Segments of an antenna exceeded in a block: those of the masks its bursts were placed under (R263). -/
def exceededSegments (s : State) (a r : Nat) : List Nat :=
  let masks := ((emitting s).filter (fun b => b.heads.testBit (a / 16))).map (·.maskSegs)
  let block := if masks.isEmpty then [] else hannBlock s a r
  if block.all (fun v => v == (0, 0)) then []
  else (List.range 16).filter (fun i => masks.any (fun m =>
    let g := segmentOf ((m[i]?).getD (2 ^ 32))
    (List.range 256).any (fun j =>
      let k : Int := (j : Int) - 128
      decide (g.1 ≤ k ∧ k ≤ g.2.1) && binAbove block k g.2.2)))

end Sys2Proof.Machine
end

