-- ==== Sys2Proof/Machine/Downlink.lean ====
section
/-! DEFINITION. Downlink attempts: the checks of 09 Table 9.2, placement on the timeline, acknowledgements with their
follow-ons, staged replies, and the downlink's commands and object writes (09 R236 to R262). -/

namespace Sys2Proof.Machine

/-- What an attempt asks for. -/
structure Ask where
  /-- 09 R236 -/
  origin : Origin
  slot : Nat := 0xFFFFFFFF
  vi : Nat
  profile : Nat
  payload : List Nat := []
  micl : Bool := false
  /-- MODE 0: at the endpoint's next receive window -/
  window : Bool := false
  /-- S in 1/16 tick -/
  s16 : Nat
  /-- lowest bin and MCODE of the span, and carrier offset (09 R247) -/
  bin : Nat
  mcode : Nat
  cfo : Int := 0
  cost : Nat := 0
  isAck : Bool := false
  prev : Nat := 0xFFFFFFFF
  dlpend : Bool := false
  symbols : Nat
  /-- a REPLY's staged entry, the heads of its capture and its weights -/
  replyIdx : Option Nat := none
  named : Nat := 0
  weights : Tab Nat := []

/-- How an attempt stands after the checks. -/
inductive Tried where
  | placed (b : Burst)
  | waiting
  /-- refused at checks 8 to 10 -/
  | stopped
  /-- refused earlier -/
  | refused
/-- A place on the timeline that checks 8 to 10 allow: the place, the burst, its level, CLAMPED and FALLBACK. -/
structure Placing where
  place : Nat
  burst : Burst
  level : Int
  clamped : Bool
  fallback : Bool

/-- Source weights, named heads and the FALLBACK flag of an attempt (09 R249). -/
def askWeights (s : State) (a : Ask) : (Nat → Nat) × Nat × Bool :=
  if a.origin = .reply then (fun i => tabGet 0 a.weights i, a.named, false)
  else
    let w := sourceWeights s a.slot
    (w.1, (entryOf s a.slot).sigHeads, w.2)

/-- P and the amplitudes of a burst's antennas under the active transmit calibration, P at most top (09 R250, R253). -/
def burstLevel (s : State) (w : Nat → Nat) (heads : List Nat) (top : Int) : Int × Tab Nat × Tab Cx :=
  let ants := heads.flatMap antennasOf
  let p := ants.foldl (fun p i => let q := ampSquare s w heads i; levelFit q.1 q.2 1200 p) top
  (p, ants.foldl (fun t i => let q := ampSquare s w heads i; tabSet 0 t i (ampOf q.1 q.2 p)) [],
   ants.foldl (fun t i => tabSet (0, 0) t i (driveOf s w heads i p)) [])
/-- The burst an attempt would place, with its level and whether it is clamped (09 R243, R250, R253). -/
def askBurst (s : State) (rqid : Nat) (a : Ask) (heads : List Nat) (w : Nat → Nat) : Burst × Int × Bool :=
  let rampSlot := setting s 0x5000 3 a.profile
  let spacing := spacingOf s a.profile
  let ramp := rampCount s rampSlot * spacing
  let symEnd := a.s16 + 16 * ramp + symbols16 a.profile a.symbols
  let end16 := symEnd + 16 * ramp
  let level := setLevel s a.profile
  let top := min level (channelLimit s a.bin (2 ^ a.mcode))
  let x := burstLevel s w heads top
  ({ rqid := rqid, slot := a.slot, s16 := a.s16, heads := maskOf heads, ramp := ramp, rampSlot := rampSlot,
     spacing := spacing, symbols := a.symbols, symEnd16 := symEnd, end16 := end16,
     tokens := ceilDiv (end16 - a.s16) 16, payload := a.payload, micl := a.micl, dlpend := a.dlpend, amps := x.2.1, drive := x.2.2,
     shaper := earliestStart s a.s16 heads, starts := headStarts s a.s16 heads, vi := a.vi, cost := a.cost
     taken := maskOf heads, frame := if a.origin = .reply then some a.payload else none
     coef := setting s 0x5010 1 (setting s 0x5010 2 a.profile), rampPoints := rampProfile s rampSlot
     maskSegs := (List.range 16).map (setting s 0x5021 1)
     weights := (heads.flatMap antennasOf).foldl (fun t i => tabSet 0 t i (w i)) [], level := level, top := top,
     bin := a.bin, mcode := a.mcode, cfo := a.cfo, profile := a.profile, replyIdx := a.replyIdx }, x.1, decide (x.1 < level))
/-- A swap of the transmit calibration applies to the bursts whose first sample leaves the Shaper at or after it (09 R250). -/
def recalibrate (at_ : Nat) (s : State) : State :=
  (burstList s).foldl (fun t b =>
    if !b.inAir && decide (((at_ * tickUnit : Nat) : Int) ≤ b.shaper) then
      let x := burstLevel t (fun i => tabGet 0 b.weights i) (bitList 12 b.heads) b.top
      modReq b.rqid (fun r => { r with level := x.1, clamped := decide (x.1 < b.level) })
        (modBurst b.rqid (fun y => { y with amps := x.2.1, drive := x.2.2 }) t)
    else t) s

/-- The sum of amplitudes on an antenna over the bursts that overlap an interval (09 R254). -/
def amplitudeSum (s : State) (b : Burst) (i : Nat) : Nat :=
  ((burstList s).map (fun x => if x.s16 < b.end16 ∧ b.s16 < x.end16 then tabGet 0 x.amps i else 0)).sum
def amplitudeOk (s : State) (b : Burst) : Bool :=
  b.amps.all (fun p => decide (amplitudeSum s b p.1 + p.2 ≤ 65536))
/-- Bursts of a VI placed or in the air (16 R424). -/
def burstsOfVi (s : State) (vi : Nat) : Nat :=
  ((burstList s).filter (fun b => b.vi == vi)).length

/-- The lane commands a placement queues on each transmit head, and the TXENs of other bursts in whose course it falls
(09 R246). -/
def queueBurst (b : Burst) (s : State) : State :=
  (bitList 12 b.heads).foldl (fun t h =>
    match activeLane t h with
    | some l =>
      let t := txenFor h (enableFrom b) t
      let t := sendParamp l (burstMask b h) b.rampSlot false false b.spacing (b.s16 / 16) t
      let t := sendParamp l (burstMask b h) b.rampSlot true false b.spacing (ceil16 b.symEnd16) t
      txensFor h (enableTo b :: (txenTimes t h (enableFrom b) (enableTo b)).filter (· ≠ enableFrom b)) t
    | none => t) s

/-- A burst goes onto the timeline: its tokens, its place, its record, its lane commands and the placement token
(09 R243, R246, R262; 11 Table 11.1). -/
def placeBurst (p : Placing) (s : State) : State :=
  let b := p.burst
  let s := (bitList 12 b.heads).foldl (fun t h => takeTokens h b.tokens t) s
  let s := putBurst p.place b s
  let s := modReq b.rqid (fun r => { r with
    burst := .placed, start := b.s16 / 16, frac := b.s16 % 16, heads := b.heads, clamped := p.clamped,
    fallback := p.fallback, dlpend := b.dlpend, level := p.level }) s
  raisePort (64 + p.place) b.rqid (queueBurst b (dlBump b.vi 6 (dlBump b.vi 5 s)))

/-- Checks 8 to 10 of 09 Table 9.2, in order: the status of the one that fails, or the place. -/
def placeChecks (s : State) (rqid : Nat) (a : Ask) : Status ⊕ Placing :=
  let (w, named, fallback) := askWeights s a
  let heads := transmitHeads s named a.profile w
  let (b, level, clamped) := askBurst s rqid a heads w
  if heads.isEmpty then .inl .busy
  else if isLate s a.s16 heads then .inl .late
  else if heads.any (fun h => decide (tokensNow s h < b.tokens * 65536)) then .inl .noCredit
  else if decide (setting s 0x1010 4 a.vi ≤ burstsOfVi s a.vi) || !amplitudeOk s b then .inl .busy
  else match freePlace s with
    | none => .inl .busy
    | some i => .inr ⟨i, b, level, clamped, fallback⟩

/-- Check 7 of 09 Table 9.2. -/
def wouldDefer (s : State) (a : Ask) : Bool :=
  (a.window && a.origin ≠ .carried) || !mayTransmit s ||
  (match buildLevel s a.profile with
   | some l => isShed s l
   | none => false)
/-- Checks 4 to 6 of 09 Table 9.2; a CARRIED attempt skips the last two. -/
def entryChecks (s : State) (a : Ask) : Option Status :=
  let e := entryOf s a.slot
  if e.status = .free ∨ e.status = .suspended ∨ e.lastAt = 0 then some .range
  else if e.status = .exhausted then some .exhausted
  else if e.migrating then some .locked
  else if a.origin = .carried then none
  else if wouldDefer s a && e.defer == 15 then some .busy
  else if e.credits < a.cost then some .noCredit
  else none

/-- The one commit of an attempt on its entry (09 R238; 08 R221, R224): the touch of an outcome, DEFER falling for a
CARRIED attempt, whose credits are held already, or the cost being held, and then what its result moves. -/
def attemptCommit (a : Ask) (outcome hold : Bool) (f : Entry × Account → Entry × Account) (s : State) : State :=
  if (entryOf s a.slot).status = .free then s
  else
    let p := if outcome then touchedPair s a.slot else (entryOf s a.slot, accountOf s a.slot)
    let p := if a.origin = .carried then ({ p.1 with defer := p.1.defer - 1 }, p.2)
             else if hold then holdCredits a.cost p else p
    commit causeDownlink a.slot (f p) s
/-- An attempt becomes DEFERRED: its credits stay held, DEFER rises, and its request waits (09 R240; 08 R224). -/
def deferReq (rqid : Nat) (a : Ask) (s : State) : State :=
  let s := modReq rqid (fun r => { r with outcome := .deferred, status := .deferred }) s
  let s := dlBump a.vi 3 (dlDrop a.vi 4 s)
  { s with tx := { s.tx with
    deferred := s.tx.deferred ++ [⟨rqid, a.slot, a.vi, a.cost, a.isAck, a.payload, a.micl⟩] } }

/-- Checks 8 to 10 of an attempt and what follows from them, its commit `done` apart. -/
def tryPlace (rqid : Nat) (a : Ask) (refused placed : State → State) (s : State) : State × Nat × Tried :=
  match placeChecks s rqid a with
  | .inl st => (refused (refuseReq rqid a.vi st s), rqid, .stopped)
  | .inr p => (placeBurst p (placed s), rqid, .placed p.burst)
/-- One attempt through checks 4 to 10 (09 R238, R248). -/
def attempt (a : Ask) (s : State) : State × Nat × Tried :=
  let (n, s) := takeRqid s
  let carried := a.origin == .carried
  let s := openReq { rqid := n, slot := a.slot, origin := a.origin, vi := a.vi, profile := a.profile, prev := a.prev,
                     cost := if carried then a.cost else 0 } s
  let s := dlBump a.vi 4 (dlBump a.vi (if carried then 1 else 0) s)
  if a.origin = .reply then
    if wouldDefer s a then (refuseReq n a.vi .refused s, n, .refused) else tryPlace n a id id s
  else match entryChecks s a with
    | some st =>
      (attemptCommit a true false (if carried then refundCredits a.cost else id) (refuseReq n a.vi st s), n, .refused)
    | none =>
      let s := modReq n (fun r => { r with cost := a.cost }) s
      if wouldDefer s a then
        (attemptCommit a true true (fun p => ({ p.1 with defer := p.1.defer + 1 }, p.2)) (deferReq n a s), n, .waiting)
      else tryPlace n a (attemptCommit a true true (refundCredits a.cost)) (attemptCommit a false true id) s

/-! ### Acknowledgements and follow-ons (09 R240, R241, R247) -/

def pendingOf (s : State) (slot : Nat) (ack : Bool) : List Deferred :=
  s.tx.deferred.filter (fun d => d.slot == slot && d.isAck == ack)
/-- Symbols of a downlink frame to an endpoint: TAG, FCNT, payload, MIC and CRC (07 R176; 09 R242). -/
def downlinkSymbols (profile len : Nat) (micl : Bool) : Nat :=
  frameSymbols profile (10 + len + if micl then 8 else 4)

/-- The chain of follow-ons behind a placed burst: each DEFERRED request becomes a CARRIED attempt S_f after the end of
the burst before it; a refusal at checks 8 to 10 ends the chain. -/
def followOns (bin mcode : Nat) (cfo : Int) : List Deferred → Nat → State → State
  | [], _, s => s
  | d :: rest, end16, s =>
    let e := entryOf s d.slot
    let s := { s with tx := { s.tx with deferred := s.tx.deferred.filter (fun x => x.rqid ≠ d.rqid) } }
    let a : Ask := {
      origin := .carried, slot := d.slot, vi := d.vi, profile := e.profile, payload := d.payload, micl := d.micl,
      s16 := end16 + 16 * setting s 0x5000 2 e.profile, bin := bin, mcode := mcode, cfo := cfo, cost := d.cost,
      prev := d.rqid, dlpend := !(pendingOf s d.slot false).isEmpty,
      symbols := downlinkSymbols e.profile d.payload.length d.micl }
    match attempt a s with
    | (s, _, .placed b) => followOns bin mcode cfo rest b.end16 s
    | (s, _, .stopped) => s
    | (s, _, _) => followOns bin mcode cfo rest end16 s

/-- The Marker raises an acknowledgement (07 R193; 09 R240, R241, R247): the attempt itself, the end of acknowledgements
deferred before it, and its follow-ons, at most four. -/
def raiseAck (slot s16 : Nat) (alarm : Bool) (bin mcode : Nat) (cfo : Int) (s : State) : State :=
  let e := entryOf s slot
  let old := pendingOf s slot true
  let next := pendingOf s slot false
  let a : Ask := {
    origin := .ack, slot := slot, vi := e.vi, profile := e.profile, s16 := s16, bin := bin, mcode := mcode, cfo := cfo,
    cost := if alarm then 0 else 1, isAck := true, dlpend := !next.isEmpty,
    symbols := downlinkSymbols e.profile 0 false }
  let (s, _, t) := attempt a s
  let s := old.foldl (fun u d => endDeferred d .late u) s
  match t with
  | .placed b => followOns bin mcode cfo (next.take 4) b.end16 s
  | _ => s

/-! ### Staged replies (09 R248) -/

def stagedReply (s : State) (vi i : Nat) : Nat := settingVi s vi 0x5030 2 i
def replyMeter (v : Nat) : Nat := octField 265 v 0 7
def replyLength (v : Nat) : Nat := octField 265 v 8 9
def replyFrame (v : Nat) : List Nat := (List.range (replyLength v)).map (fun i => octAt 265 v (10 + i))
/-- The lowest staged entry of a VI for a meter address. -/
def findReply (s : State) (vi meter : Nat) : Option Nat :=
  (s.settings.find? (fun p => p.1 / 2 ^ 32 == skey vi 0x5030 2 0 / 2 ^ 32 && replyMeter p.2 == meter
    && decide (1 ≤ replyLength p.2))).map (fun p => p.1 % 2 ^ 32)
/-- Ticks of a delay in us, in 1/16 tick rounded up (6.4 ticks a us). -/
def delay16 (us : Nat) : Nat := ceilDiv (us * 512) 5
/-- Heads that carry weight. -/
def weightHeads (w : Tab Nat) : Nat :=
  (List.range 12).foldl (fun m h => if headPower (fun a => tabGet 0 w a) h ≠ 0 then m + 2 ^ h else m) 0
/-- A T2 or C2 frame, of profile 0x20 or 0x21, whose address matches a staged reply raises a REPLY attempt. -/
def raiseReply (vi profile meter endAt bin mcode : Nat) (cfo : Int) (w : Tab Nat) (s : State) : State :=
  match if profile = 0x20 ∨ profile = 0x21 then findReply s vi meter else none with
  | none => s
  | some i =>
    let v := stagedReply s vi i
    (attempt {
      origin := .reply, vi := vi, profile := profile, payload := replyFrame v,
      s16 := 16 * endAt + delay16 (setting s 0x5030 3 profile), bin := bin, mcode := mcode, cfo := cfo,
      symbols := (Config.replySymbols profile (replyFrame v)).length, replyIdx := some i, named := weightHeads w, weights := w } s).1

/-! ### Object writes -/

/-- 0x5030:01: Table 9.1 through checks 1 to 3 and the attempt; the RQID comes back with the status (09 R237, R238). -/
def downlinkRequest (vi len v : Nat) (s : State) : State × Status × Nat :=
  let slot := octField len v 0 3
  let mode := octAt len v 4
  let flags := octAt len v 5
  let n := octAt len v 6
  let frac := octAt len v 7
  let start := octField len v 8 15
  let e := entryOf s slot
  if !inSlice s vi slot then (s, .access, 0)
  else if 1 < mode ∨ 1 < flags ∨ 96 < n ∨ 15 < frac ∨ len ≠ 16 + n ∨ (mode = 0 ∧ (frac ≠ 0 ∨ start ≠ 0)) then (s, .range, 0)
  else if e.status = .free then (s, .unknown, 0)
  else if !(isVendor e.profile || (isCustomer e.profile && !(packageOf s e.profile).inst.raw)) then (s, .range, 0)
  else
    let a : Ask := {
      origin := .station, slot := slot, vi := e.vi, profile := e.profile,
      payload := (List.range n).map (fun i => octAt len v (16 + i)), micl := flags = 1, window := mode = 0,
      s16 := 16 * start + frac, bin := e.lastBin, mcode := e.lastMcode, cost := requestCost n,
      symbols := downlinkSymbols e.profile n (flags = 1) }
    let (s, rqid, _) := attempt a s
    match reqOf s rqid with
    | some r => (s, r.status, rqid)
    | none => (s, .ok, rqid)

/-- 0x5030:02: octets beyond the length are ignored and read back as zero (09 R248). -/
def writeReply (vi i v : Nat) (s : State) : State × Status :=
  let n := replyLength v
  if n = 0 ∨ 255 < n then (s, .range)
  else (putSetting s vi 0x5030 2 i (v - v % 256 ^ (255 - n)), .ok)

/-- Whether a placed or airborne burst uses a ramp slot (09 R255). -/
def rampBusy (s : State) (slot : Nat) : Bool := (burstList s).any (fun b => b.rampSlot == slot)
/-- Table 9.5: N from 2 to 32, the reserved octet and the points beyond N zero, the last point full. -/
def rampOk (v : Nat) : Bool :=
  let n := octAt 66 v 0
  decide (2 ≤ n ∧ n ≤ 32) && octAt 66 v 1 == 0 && octField 66 v (2 * n) (2 * n + 1) == 65535
    && decide (v % 256 ^ (64 - 2 * n) = 0)
/-- 0x5020:01 (09 R255): RAMPDEF goes to every LOCKED head after each write. -/
def writeRamp (slot v : Nat) (s : State) : State × Status :=
  if !rampOk v then (s, .range)
  else if rampBusy s slot then (s, .busy)
  else
    let s := putSetting s 0 0x5020 1 slot v
    ((List.range 12).foldl (fun t h => match activeLane t h with
      | some l => sendRampdef l slot v t
      | none => if (laneOf t h).locked then sendRampdef h slot v t else t) s, .ok)

/-- Sum of the 64 taps of a coefficient set. -/
def tapSum (v : Nat) : Int := ((List.range 64).map (fun i => toSigned 16 (octField 136 v (2 * i) (2 * i + 1)))).sum
/-- 0x5010:01 and :02 (09 R251). -/
def writeCoefficients (sub el v : Nat) (s : State) : State × Status :=
  if sub = 1 then (if tapSum v = 32768 then plainWrite 0 0x5010 1 el v s else (s, .range))
  else if tapSum (setting s 0x5010 1 v) = 32768 then plainWrite 0 0x5010 2 el v s
  else (s, .range)

/-- 0x5022:01 and :02 (09 R261): the bucket takes stock first, and a smaller DEPTH cuts what it holds. -/
def writeDuty (sub h v : Nat) (s : State) : State × Status :=
  let s := putSetting (fillBucket h s) 0 0x5022 sub h v
  ({ s with tx := { s.tx with tokens := tabMod 0 s.tx.tokens h (fun n => min n (dutyDepth s h)) } }, .ok)

/-! ### Commands -/

/-- DOWNLINK_REQUEST (09 R237, R238). -/
def execDownlinkRequest (vi : Fin 16) (len v : Nat) (s : State) : Out :=
  match writeCheck s vi 0x5030 1 0 len v with
  | some st => .next (answering st s)
  | none => let r := downlinkRequest vi len v s; .next (answerOf r.2.1 r.2.2 r.1)
/-- STAGED_REPLY_WRITE (09 R248). -/
def execStagedReplyWrite (vi : Fin 16) (i v : Nat) (s : State) : Out :=
  answered (checkedWrite vi 0x5030 2 i 265 v (writeReply vi i v) s)
/-- RAMP_PROFILE_WRITE (09 R255). -/
def execRampProfileWrite (vi : Fin 16) (slot v : Nat) (s : State) : Out :=
  answered (checkedWrite vi 0x5020 1 slot 66 v (writeRamp slot v) s)
/-- COEFFICIENT_SET_WRITE (09 R251): a set, or a profile's set selection. -/
def execCoefficientSetWrite (vi : Fin 16) (selection : Bool) (el v : Nat) (s : State) : Out :=
  answered (if selection then checkedWrite vi 0x5010 2 el 1 v (writeCoefficients 2 el v) s
            else checkedWrite vi 0x5010 1 el 136 v (writeCoefficients 1 el v) s)
/-- DUTY_BUCKET_WRITE (09 R261): RATE or DEPTH of a head. -/
def execDutyBucketWrite (vi : Fin 16) (depth : Bool) (h v : Nat) (s : State) : Out :=
  answered (if depth then checkedWrite vi 0x5022 2 h 4 v (writeDuty 2 h v) s
            else checkedWrite vi 0x5022 1 h 2 v (writeDuty 1 h v) s)

/-- BUILD_DEADLINE (09 R246): 64 ticks before its earliest t_s(h) a burst that is not built is removed. -/
def execBuildDeadline (rqid : Nat) (s : State) : Out :=
  match findBurst s rqid with
  | some b =>
    if b.inAir || b.frame.isSome then .next s else .next (removeBurst b (advanceTo ((startTick b).toNat - 64) s))
  | none => .next s
/-- A burst goes into the air: from each head's t_s(h) its samples leave the Shaper, and the head is blanked. -/
def startBurst (b : Burst) (s : State) : State :=
  let guard := setting s 0x4007 1 0
  let s := modBurst b.rqid (fun x => { x with inAir := true, guard := guard }) s
  let s := modReq b.rqid (fun r => { r with burst := .inAir }) s
  (bitList 12 b.heads).foldl (fun t h =>
    blankHead h (blankFrom b) (blankTo guard b.end16) (emit (.burst b.rqid h) t)) s
/-- BURST_START (09 R244; 01 R20; 05 R139): in the tick of its earliest t_s(h) a built burst goes into the air; before it
nothing happens, and after it, or not built, the burst is not sent at all. -/
def execBurstStart (rqid airTime : Nat) (s : State) : Out :=
  let s := advanceTo airTime s
  match findBurst s rqid with
  | some b =>
    if b.inAir || !s.time.valid || decide ((s.time.airTime : Int) < startTick b) then .next s
    else if b.frame.isNone || decide (startTick b < (s.time.airTime : Int)) then .next (removeBurst b s)
    else .next (startBurst b s)
  | none => .next s
/-- BURST_END (09 R239): the ramp-down ends; SENT, SERVED; a reply's staged entry is cleared. -/
def execBurstEnd (rqid : Nat) (s : State) : Out :=
  match findBurst s rqid with
  | some b =>
    if b.inAir then
      let s := advanceTo (ceil16 b.end16) s
      let s := dropBurst rqid { s with tx := { s.tx with descents := keepTails s ++ [b] } }
      let s := match b.replyIdx with
        | some i => putSetting s b.vi 0x5030 2 i 0
        | none => s
      .next (endAttempt b .served .ok .sent (b.end16 / 16) b.symbols false s)
    else .next s
  | none => .next s

/-- Antennas of heads that a burst emits on. -/
def emittingAntennas (s : State) : List Nat :=
  (List.range 192).filter (fun a => (emitting s).any (fun b => b.heads.testBit (a / 16)))
/-- Block r is judged: the runs of exceeded blocks, which go on only from the block before, the counts, and the stops. -/
def judgeBlock (r : Nat) (follows : Bool) (s : State) : State :=
  let keys := (emittingAntennas s).flatMap (fun a => (exceededSegments s a r).map (fun i => 16 * a + i))
  let run := keys.foldl (fun t k => tabSet 0 t k ((if follows then tabGet 0 s.tx.maskRun k else 0) + 1)) []
  let segs := (keys.map (fun k => k % 16)).dedup
  let s := { s with tx := { s.tx with
    maskRun := run, maskLast := some r, maskBlocks := segs.foldl (fun t i => bump t i) s.tx.maskBlocks } }
  let bad := (keys.filter (fun k => decide (4 ≤ tabGet 0 run k))).map (fun k => k / 256)
  let hit := (burstList s).filter (fun b => b.inAir && bad.any (fun h => b.heads.testBit h))
  let s := hit.foldl (fun t b => stopBurst b true t) s
  { s with tx := { s.tx with
    maskAborts := (s.tx.maskAborts + hit.length) % 2 ^ 32
    maskRun := run.filter (fun p => !bad.contains (p.1 / 256)) } }
/-- MASK_BLOCK_END (09 R259): block r, ticks 256r to 256r + 255, is judged once; after 4 exceeded blocks in succession every
burst emitting on that antenna's head stops. -/
def execMaskBlockEnd (r airTime : Nat) (s : State) : Out :=
  let s := advanceTo (max (256 * (r + 1)) airTime) s
  match s.tx.maskLast with
  | some n => if r ≤ n then .next s else .next (judgeBlock r (decide (r = n + 1)) s)
  | none => .next (judgeBlock r false s)

end Sys2Proof.Machine
end

