-- ==== Sys2Proof/Machine/VerdictOps.lean ====
section
/-! DEFINITION. The Marker: the checks of 07 Table 7.4, the effect of each verdict class on the Roll and its ledgers,
the verdict record, the release of the capture, and the hand-over to delivery (07 R188 to R201). -/

namespace Sys2Proof.Machine

/-! ### Frame facts (07 R176 to R178) -/

/-- Preamble length L in stream samples at merge width m (06 R147). -/
def preambleL (id m : Nat) : Nat := (2 * 800000 * m + profileRate id) / (2 * profileRate id)
/-- A frame of the vendor format: vendor profiles, and customer profiles whose package declares format 0 (07 R186). -/
def vendorFormat (s : State) (id : Nat) : Bool := isVendor id || (isCustomer id && !(packageOf s id).inst.raw)
/-- Fields of the header word (07 Table 7.3). -/
def hdrLen (h : Nat) : Nat := h / 2 ^ 17 % 128
def hdrMicl (h : Nat) : Bool := h.testBit 16
def hdrType (h : Nat) : Nat := h / 2 ^ 13 % 8
def hdrDlpend (h : Nat) : Bool := h.testBit 12
def hdrVer (h : Nat) : Nat := h / 256 % 16
def hdrOctets (h : Nat) : List Nat := [h / 65536 % 256, h / 256 % 256]
/-- HCRC, or the published header check (07 Table 7.4 check 3). -/
def headerHolds (s : State) (id : Nat) (f : FrameInfo) : Bool :=
  if vendorFormat s id then decide (crc8 (hdrOctets f.header) = f.header % 256) else f.headerOk
/-- Check 6: the body CRC of a vendor frame, or the checks the package reports. -/
def bodyHolds (s : State) (id : Nat) (f : FrameInfo) : Bool :=
  if vendorFormat s id then
    decide (crc16 (hdrOctets f.header ++ octetsBE 4 f.tag ++ octetsBE 4 f.fcnt ++ f.payload ++ f.mic) = f.crc % 65536)
  else f.bodyOk && !f.codeBad
def frameLen (s : State) (id : Nat) (f : FrameInfo) : Nat := if vendorFormat s id then hdrLen f.header else f.len
/-- Check 5. -/
def lengthOk (s : State) (id : Nat) (f : FrameInfo) : Bool :=
  if vendorFormat s id then decide (hdrLen f.header ≤ 96)
  else if id = 0x10 ∨ id = 0x11 ∨ id = 0x12 then decide (f.len ≤ 1024)
  else true
/-- Check 4. -/
def optionsOk (s : State) (id : Nat) (f : FrameInfo) : Bool :=
  if vendorFormat s id then
    decide (hdrType f.header ≤ 2) && decide (hdrVer f.header = 0) && !hdrDlpend f.header && !f.unsupported
  else !f.unsupported
/-! ### What profile code and the Decoder have of a capture (07 R181 to R185) -/

/-- The frame of a vendor-format profile as committed so far. -/
def vendorFrame (id : Nat) (soft : List Int) : FrameInfo :=
  match vendorHeader soft with
  | none => { sfd := true }
  | some h =>
    let b := vendorBody h soft
    let n := hdrLen h
    let m := if hdrMicl h then 8 else 4
    let f : FrameInfo := { sfd := true, headed := true, header := h, len := n
                           symbols := 48 + (64 + blockBits (bodyOctets h)) / (if profileFour id then 2 else 1) }
    if b.length < 8 then f
    else { f with tagged := true, tag := fromBE (b.take 4), fcnt := fromBE ((b.drop 4).take 4)
                  payload := (b.drop 8).take n, mic := (b.drop (8 + n)).take m, crc := fromBE ((b.drop (8 + n + m)).take 2) }
/-- The frame of a SUN FSK profile. -/
def sunFrame (coded rsc : Bool) (soft : List Int) : FrameInfo :=
  match phrOf (sunBits coded rsc 0 soft) with
  | none => { sfd := true }
  | some p =>
    let bits := sunBits coded rsc (24 + 8 * p.len) (soft.take (sunLength coded p.len))
    let psdu := psduOf p bits
    { sfd := true, headed := true, headerOk := true, unsupported := p.modeSwitch, len := p.len, payload := psdu
      bodyOk := fcsHolds p psdu }
/-- The frame of an EN 13757-4 profile: octets, whether an invalid word was met, format B. The delivered octets are the
frame's as received, block CRCs included (DESIGN CHOICE, log entry 59). -/
def enFrame (octets : List Nat) (bad formatB : Bool) : FrameInfo :=
  match octets with
  | [] => { sfd := true, headed := bad, headerOk := true, codeBad := bad }
  | l :: _ =>
    let o := octets.take (enOctets formatB l)
    { sfd := true, headed := true, headerOk := true, codeBad := bad, len := o.length, payload := o
      bodyOk := (enBlocks formatB o).all enBlockOk, meter := fromBE ((o.drop 2).take 8) }
/-- Format B of mode C: the second half of its synchronisation word says so. -/
def formatB (soft : List Int) : Bool :=
  let w := fromBits (hardBits (soft.take 16))
  decide (mismatches w 0x543D < mismatches w 0x54CD)
/-- The frame of a capture as decoded so far. -/
def decodedFrame (s : State) (id : Nat) (coded rsc : Bool) (soft : List Int) : FrameInfo :=
  if vendorFormat s id then vendorFrame id soft
  else if id = 0x20 then
    let r := threeOctets ((groupsOf 6 soft.length (hardBits soft)).map fromBits)
    enFrame r.1 r.2 false
  else if id = 0x21 then enFrame (octetsMsb (hardBits (soft.drop 16))) false (formatB soft)
  else if isPublished id then sunFrame coded rsc soft else { sfd := true }
/-- Soft decisions of the whole frame behind its SFD, once its header is decoded. -/
def softTotal (s : State) (id : Nat) (coded : Bool) (soft : List Int) (f : FrameInfo) : Nat :=
  if vendorFormat s id then 64 + blockBits (bodyOctets f.header)
  else if id = 0x20 then 12 * enOctets false (f.payload.headD 0)
  else if id = 0x21 then 16 + 8 * enOctets (formatB soft) (f.payload.headD 0)
  else sunLength coded f.len
/-- Symbols that soft decisions stand for. -/
def softSymbols (id n : Nat) : Nat := (if profileFour id then ceilDiv n 2 else n) * (if id = 2 then 4 else 1)
/-- END_AT from the SFD's end and the symbols behind it, rounded to a tick (07 R183, R469). -/
def predictEnd (id : Nat) (peakAt : Nat) (pos : Int) (symbols : Nat) : Nat :=
  (roundHalfEven (((16 * peakAt : Nat) + pos) * profileRate id + (symbols * 16 * 6400000 : Nat)) (16 * profileRate id)).toNat
/-- The header of a frame is accepted (07 Table 7.4 checks 3 to 5). -/
def headerAccepted (s : State) (id : Nat) (f : FrameInfo) : Bool :=
  f.headed && headerHolds s id f && optionsOk s id f && lengthOk s id f && !(f.codeBad && f.payload.isEmpty)
/-- A capture takes in what profile code has decided. -/
def takeDecisions (s : State) (x : Capture) (d : Detection) (q : Decisions) : Capture :=
  let search := x.search.orElse (fun _ => q.search.map (fun l =>
    sfdAccept d.profile (setting s 0x4020 5 (d.bin / 64)) (vendorFormat s d.profile) l))
  let soft := x.soft ++ q.soft
  match q.raw, search.join with
  | some (f, n), _ =>
    if vendorFormat s d.profile ∨ isPublished d.profile then { x with search := search, soft := soft }
    else { x with search := search, soft := soft, frame := { f with sfd := true, headed := true }, predicted := some (n % 2 ^ 64) }
  | none, some (pos, coded) =>
    let f := { decodedFrame s d.profile coded q.rsc soft with snr := q.snr, cfo := q.cfo }
    { x with search := search, soft := soft, frame := f
             predicted := if headerAccepted s d.profile f then
               some (predictEnd d.profile d.peakAt pos (softSymbols d.profile (softTotal s d.profile coded soft f)) % 2 ^ 64)
               else none }
  | none, none => { x with search := search, soft := soft, frame := { x.frame with snr := q.snr, cfo := q.cfo } }
/-- Profile code closes the capture: no SFD in the window, a header that fails or asks for what the profile lacks, or the
last symbol decided (07 R181, R183). -/
def closes (s : State) (x : Capture) (d : Detection) : Bool :=
  match x.search with
  | none => x.predicted.isSome
  | some none => true
  | some (some (_, coded)) =>
    x.frame.headed && (!headerAccepted s d.profile x.frame
      || !(vendorFormat s d.profile || isPublished d.profile)
      || decide (softTotal s d.profile coded x.soft x.frame ≤ x.soft.length))

/-- Symbols of the air frame: R176 for vendor profiles, as the package reports for others (08 Table 8.7). -/
def uplinkSymbols (id : Nat) (f : FrameInfo) : Nat :=
  if isVendor id then frameSymbols id (10 + hdrLen f.header + if hdrMicl f.header then 8 else 4) else f.symbols

/-! ### The checks (07 Table 7.4) -/

/-- What the Marker finds. -/
structure Judged where
  cls : VClass
  detail : Nat := 0
  slot : Option Nat := none
  plain : List Nat := []
  /-- judged under a re-key shadow (08 R218) -/
  shadow : Bool := false

/-- The shadow that covers a capture's detection on a slot. -/
def coveringShadow (s : State) (slot dseq : Nat) : Option Shadow :=
  match tabGet none s.roll.shadows slot with
  | some x => if (entryOf s slot).rekeyShadow && x.covered.contains dseq then some x else none
  | none => none
/-- SAME: within 2 symbol periods of the last-heard air time (07 R190). -/
def nearLast (profile endAt lastAt : Nat) : Bool :=
  decide ((max endAt lastAt - min endAt lastAt) * profileRate profile ≤ 12800000)
/-- The plaintext where the CCM tag verifies (10 R273). -/
def verifyUplink (s : State) (identity keyh : Nat) (f : FrameInfo) : Option (List Nat) :=
  let k := keyOf s keyh
  let tlen := if hdrMicl f.header then 8 else 4
  let nonce := ccmNonce identity f.fcnt false tlen
  let plain := ccmCrypt k.key nonce f.payload
  let tag := ccmTag k.key nonce (hdrOctets f.header ++ octetsBE 4 f.tag ++ octetsBE 4 f.fcnt) plain tlen
  if k.kstate ≠ .empty ∧ k.poison = false ∧ tag = f.mic then some plain else none
/-- The slot of a tag at the commit: the one the early lookup found while it still holds the identity found there, else by a
lookup anew (07 R188). -/
def lookUp (s : State) (early : Option (Nat × Nat × Bool)) (tag : Nat) : Option Nat :=
  match early with
  | some (slot, id, _) =>
    if (entryOf s slot).status ≠ .free ∧ (entryOf s slot).identity = id then some slot else slotByTag s tag
  | none => slotByTag s tag
/-- The early counter check stands while its identity does (07 R188). -/
def earlyReplay (s : State) (early : Option (Nat × Nat × Bool)) : Bool :=
  match early with
  | some (slot, id, bad) => bad && (entryOf s slot).identity == id
  | none => false
/-- Check 12 for an entry, the shadow's counter where one covers the capture (08 R218). -/
def replays (s : State) (slot dseq fcnt : Nat) : Bool :=
  let sh := coveringShadow s slot dseq
  let e := entryOf s slot
  !((sh.map (·.fresh)).getD e.fresh) && decide (fcnt < (sh.map (·.ucnt)).getD e.ucnt)
/-- Checks 8 to 14 for a vendor-format frame. -/
def judgeEntry (s : State) (early : Option (Nat × Nat × Bool)) (dseq profile endAt : Nat) (f : FrameInfo) : Judged :=
  match lookUp s early f.tag with
  | none => { cls := .rejectUnknown, detail := 1 }
  | some slot =>
    let e := entryOf s slot
    let sh := coveringShadow s slot dseq
    let keyh := (sh.map (·.keyh)).getD e.keyh
    let ucnt := (sh.map (·.ucnt)).getD e.ucnt
    let fresh := (sh.map (·.fresh)).getD e.fresh
    if e.status = .suspended then { cls := .rejectUnknown, detail := 2, slot := some slot }
    else if e.profile ≠ profile then { cls := .rejectUnknown, detail := 3, slot := some slot }
    else if e.status = .exhausted then { cls := .rejectExhausted, detail := 1, slot := some slot }
    else if earlyReplay s early || replays s slot dseq f.fcnt then { cls := .rejectReplay, detail := 1, slot := some slot }
    else match verifyUplink s e.identity keyh f with
      | none => { cls := .rejectAuth, detail := 1, slot := some slot }
      | some plain =>
        if !fresh && f.fcnt == ucnt then
          { cls := .duplicate, detail := if nearLast profile endAt e.lastAt then 1 else 2, slot := some slot, plain := plain,
            shadow := sh.isSome }
        else { cls := .accept, slot := some slot, plain := plain, shadow := sh.isSome }
/-- Checks 1 to 14 for a capture that ends. -/
def judge (s : State) (x : Capture) (d : Detection) : Judged :=
  let f := x.frame
  if x.forced ≠ 0 then { cls := .incomplete, detail := x.forced }
  else if !x.closed then { cls := .incomplete, detail := 5 }
  else if !f.sfd then { cls := .rejectCrc, detail := 1 }
  else if !headerHolds s d.profile f then { cls := .rejectCrc, detail := 2 }
  else if !optionsOk s d.profile f then { cls := .rejectCrc, detail := 5 }
  else if !lengthOk s d.profile f then { cls := .rejectLength, detail := 1 }
  else if !bodyHolds s d.profile f then { cls := .rejectCrc, detail := if f.codeBad then 4 else 3 }
  else if !vendorFormat s d.profile then { cls := .passThrough, plain := f.payload }
  else judgeEntry s x.early d.dseq d.profile x.endAt f

/-! ### The signature (08 R206) -/

/-- Largest n below 2^k with n * n at most x. -/
def isqrtBits : Nat → Nat → Nat → Nat
  | 0, _, r => r
  | k + 1, x, r => isqrtBits k x (if (r + 2 ^ k) * (r + 2 ^ k) ≤ x then r + 2 ^ k else r)
/-- A component over the root of the total power, in Q1.15, rounded to nearest. -/
def unitPart (total : Nat) (v : Int) : Nat :=
  let n := (isqrtBits 18 (4 * v.natAbs * v.natAbs * 2 ^ 30 / total) 0 + 1) / 2
  if v < 0 then (65536 - min n 32768) % 65536 else min n 32767
/-- Weights normalised to unit total power. -/
def unitWeights (w : Tab (Int × Int)) : Tab Nat :=
  let total := (w.map (fun p => cxPower p.2)).sum
  if total = 0 then []
  else w.foldl (fun t p => tabSet 0 t p.1 (unitPart total p.2.1 + 65536 * unitPart total p.2.2)) []
/-- A capture's weights become the signature of a slot. -/
def storeSignature (slot : Nat) (w : Tab (Int × Int)) (s : State) : State :=
  let u := unitWeights w
  { s with roll := { s.roll with
      signature := (List.range 192).foldl (fun t a => tabSet 0 t (192 * slot + a) (tabGet 0 u a)) s.roll.signature } }
/-- The summary fields of the signature. -/
def signEntry (x : Capture) (d : Detection) (e : Entry) : Entry :=
  { e with sigStore := true, sigBeam := d.beam, lastBin := d.bin, lastMcode := d.mcode, margin := d.margin,
           sigHeads := weightHeads (unitWeights x.weights) }

/-! ### Effects (07 Table 7.6; 08 Table 8.7) -/

/-- The debits of an ACCEPT or a REPEAT. -/
def heardDebits (s : State) (e : Entry) (id : Nat) (f : FrameInfo) (p : Entry × Account) : Entry × Account :=
  let m := modelOf s e.cmodel
  let p := debit .air (m.upfix + m.upsym * uplinkSymbols id f) p
  if hdrType f.header = 1 ∨ hdrType f.header = 2 then debit .rx m.rxwin p else p
/-- The commit of a verdict on its entry. -/
def applyVerdict (j : Judged) (x : Capture) (d : Detection) (s : State) : State :=
  match j.slot with
  | none => s
  | some slot =>
    let e := entryOf s slot
    let f := x.frame
    match j.cls with
    | .accept =>
      let p := heardDebits s e d.profile f (touchedPair s slot)
      let n := { signEntry x d p.1 with lastAt := x.endAt }
      let last := decide (f.fcnt = 0xFFFFFFFF) && !j.shadow
      let n := if j.shadow then n
               else { n with ucnt := f.fcnt, fresh := false, status := if last then .exhausted else n.status }
      let s := commit causeVerdict slot (n, p.2) (storeSignature slot x.weights s)
      if last then monoBump e.vi 5 1 s else s
    | .duplicate =>
      if j.detail = 2 then
        let p := heardDebits s e d.profile f (touchedPair s slot)
        commit causeVerdict slot ({ signEntry x d p.1 with lastAt := x.endAt }, p.2) (storeSignature slot x.weights s)
      else if e.margin < d.margin then
        commit causeVerdict slot (signEntry x d e, accountOf s slot) (storeSignature slot x.weights s)
      else s
    | _ => s
/-- Whether the verdict raises an acknowledgement. -/
def acknowledges (j : Judged) (f : FrameInfo) : Bool :=
  (j.cls == .accept || (j.cls == .duplicate && j.detail == 2)) && (hdrType f.header == 1 || hdrType f.header == 2)
def delivers (j : Judged) : Bool :=
  j.cls == .accept || j.cls == .passThrough || (j.cls == .duplicate && j.detail == 2)

/-! ### Delivery (07 R200, R201; 03 R72) -/

/-- Room a held verdict takes in the delivery ring. -/
def heldSize (h : Held) : Nat := 64 + 64 * ceilDiv h.octets.length 64
def ringBytes : Nat := 64 * 1024 * 1024
def heldBytes (l : List Held) : Nat := (l.map heldSize).sum
/-- Drop the oldest until n more bytes fit. -/
def makeRoom (n : Nat) : List Held → List Held × List Held
  | [] => ([], [])
  | h :: t => if heldBytes (h :: t) + n ≤ ringBytes then ([], h :: t)
              else let r := makeRoom n t; (h :: r.1, r.2)
/-- A discard notice joins those still to send; ranges that meet become one. -/
def addNotice (vi first last : Nat) (l : List (Nat × Nat × Nat)) : List (Nat × Nat × Nat) :=
  if l.any (fun x => x.1 == vi && x.2.2 + 1 == first) then
    l.map (fun x => if x.1 = vi ∧ x.2.2 + 1 = first then (vi, x.2.1, last) else x)
  else l ++ [(vi, first, last)]
/-- A verdict joins the ring of its VI, and through the staging buffer the verdict journal. -/
def holdVerdict (vi : Nat) (h : Held) (s : State) : State :=
  let (gone, kept) := makeRoom (heldSize h) (tabGet [] s.verdict.held vi)
  let v := s.verdict
  let s := { s with verdict := { v with
    held := tabSet [] v.held vi (kept ++ [h])
    discarded := bumpBy v.discarded vi gone.length
    notices := match gone.head?, gone.getLast? with
      | some a, some b => addNotice vi a.record.vseq b.record.vseq v.notices
      | _, _ => v.notices
    cursor := (List.range 4).foldl (fun t c =>
        let k := tabGet 0 t (4 * vi + c)
        if k = 0 ∧ collector s vi c ≠ 0 then tabSet 0 t (4 * vi + c) h.record.vseq
        else if gone.any (fun x => x.record.vseq == k) then
          tabSet 0 t (4 * vi + c) (((kept ++ [h]).head?).elim 0 (fun x => x.record.vseq))
        else t) v.cursor } }
  { s with roll := { s.roll with staging := s.roll.staging ++ [(5, .verdict h)] } }

/-! ### Release of a capture (06 R134, R168) -/

/-- The stream of a detection gives up one hold on its loop. -/
def releaseLoop (d : Detection) (s : State) : State :=
  let k := loopKey d.slot d.mcode d.beam d.bin
  setStream s k { streamOf s k with frozen := (streamOf s k).frozen - 1 }
/-- A capture's detection no longer waits in any re-key shadow (08 R218). -/
def uncover (dseq : Nat) (s : State) : State :=
  { s with roll := { s.roll with shadows := s.roll.shadows.map (fun p =>
      (p.1, p.2.map (fun x => { x with covered := x.covered.filter (· ≠ dseq) }))) } }
/-- A committed TAG that names a slot, or none, settles the capture for the shadow of every other slot (08 R218). -/
def uncoverElsewhere (dseq : Nat) (slot : Option Nat) (s : State) : State :=
  { s with roll := { s.roll with shadows := s.roll.shadows.map (fun p =>
      (p.1, if some p.1 = slot then p.2 else p.2.map (fun x => { x with covered := x.covered.filter (· ≠ dseq) }))) } }
/-- Start of the preamble window: L + 8 stream samples before PEAK_AT (06 R163). -/
def windowStart (d : Detection) : Nat := d.peakAt - (preambleL d.profile (2 ^ d.mcode) + 8) * (256 / 2 ^ d.mcode)
/-- A capture ends with a verdict of a class: the frame account, the loop, port 201, and FREE. -/
def releaseCapture (c : Nat) (d : Detection) (cls : VClass) (s : State) : State :=
  let s := raiseToken 201 (0xF000 + c) (vclassCode cls) s
  let s := uncover d.dseq (releaseLoop d s)
  let s := { s with rx := { s.rx with captured := s.rx.captured ++ [(d.bin, 2 ^ d.mcode, windowStart d, s.time.airTime)] } }
  let s := { s with stack := { s.stack with
    branches := s.stack.branches.filter (fun b => !(b.1 == s.stack.position && b.2.1 == c)) } }
  setCapture (frameBump (16 * (d.bin / 64) + 5 + vclassCode cls) s) c {}

/-- Centre time of the last combined sample (07 Table 7.8): the window starts L + 8 stream samples before PEAK_AT. -/
def lastSampleAt (x : Capture) (d : Detection) : Nat :=
  let step := 256 / 2 ^ d.mcode
  d.peakAt + x.samples * step - (preambleL d.profile (2 ^ d.mcode) + 9) * step
/-- END_AT of a record: for INCOMPLETE the last combined sample, free where there is none (log entry 5). -/
def recordEnd (j : Judged) (x : Capture) (d : Detection) (s : State) : State × Nat :=
  if j.cls ≠ .incomplete then (s, x.endAt)
  else if x.samples = 0 then let r := drawFree s; (r.2, r.1 % 2 ^ 64)
  else (s, lastSampleAt x d)

/-- FLAGS of a record (07 Table 7.9). -/
def flagsOf (rap late crowd ackReq ackRaised alarm stacked : Bool) : Nat :=
  b2n rap + 2 * b2n late + 4 * b2n crowd + 8 * b2n ackReq + 16 * b2n ackRaised + 32 * b2n alarm + 64 * b2n stacked

/-- The record of a verdict, before its VSEQ (07 Table 7.8). -/
def verdictRecord (s : State) (c : Nat) (x : Capture) (d : Detection) (j : Judged) (vseq vi endAt latency : Nat)
    (crowd : Bool) : Verdict :=
  let f := x.frame
  let vendor := vendorFormat s d.profile
  let hdr := f.headed && headerHolds s d.profile f
  let ty := if vendor && hdr then hdrType f.header else 0
  let e := (j.slot.map (entryOf s))
  { vseq := vseq, dseq := d.dseq, cls := j.cls, vi := vi, detail := j.detail,
    flags := flagsOf (x.rap || d.rap) (decide (1000 < latency)) crowd (ty == 1 || ty == 2) (acknowledges j f) (ty == 2)
      x.stacked,
    profile := d.profile, bin := d.bin, mcode := d.mcode, capClass := d.cls, ant := x.ant, endAt := endAt,
    identity := (e.map (·.identity)).getD 0, slot := j.slot.getD 0xFFFFFFFF,
    fcnt := if vendor && f.tagged then f.fcnt else 0,
    charge := (e.map (·.charge)).getD 0xFFFFFFFF, credits := (e.map (·.credits)).getD 0xFFFF,
    margin := d.margin, snr := f.snr, cfo := f.cfo, latency := min latency 65535,
    len := if hdr then frameLen s d.profile f else 0, ftype := ty, refresh := x.refresh, capid := c }

/-- The 512 bits of a verdict record (07 Table 7.8). -/
def packVerdict (r : Verdict) : Nat :=
  pack [(32, r.vseq), (32, r.dseq), (4, vclassCode r.cls), (4, r.vi), (8, r.detail), (16, r.flags), (8, r.profile),
    (9, r.bin), (3, r.mcode), (2, r.capClass), (2, 0), (8, r.ant), (64, r.endAt), (64, r.identity), (32, r.slot),
    (32, r.fcnt), (32, r.charge), (16, r.credits), (16, ofSigned 16 r.margin), (16, ofSigned 16 r.snr),
    (16, ofSigned 16 r.cfo), (16, r.latency), (16, r.len), (3, r.ftype), (5, 0), (8, r.refresh), (16, r.capid), (32, 0)]
/-- The class a code of 07 Table 7.13 names; the codes 10 to 15 are never issued. -/
def vclassOf (n : Nat) : VClass :=
  match n with
  | 0 => .accept | 1 => .duplicate | 2 => .passThrough | 3 => .rejectCrc | 4 => .rejectAuth | 5 => .rejectReplay
  | 6 => .rejectUnknown | 7 => .rejectLength | 9 => .rejectExhausted | _ => .incomplete

/-- The VI a verdict goes to (01 R18): the entry's, or the owner of the detection's bin group for a class without an
owning entry. -/
def verdictVi (s : State) (d : Detection) (j : Judged) : Nat :=
  match j.slot, j.cls with
  | none, _ => d.vi
  | _, .rejectUnknown => d.vi
  | some slot, _ => (entryOf s slot).vi
/-- Ledger counters and the next VSEQ of a verdict. -/
def countVerdict (r : Verdict) (s : State) : State :=
  let v := s.verdict
  { s with verdict := { v with
    nextVseq := tabSet 1 v.nextVseq r.vi (seqNext r.vseq)
    counts := bump v.counts (256 * r.vi + 16 * vclassCode r.cls + r.detail)
    late := if r.flags.testBit 1 then bump v.late r.vi else v.late
    crowd := if r.flags.testBit 2 then bump v.crowd r.vi else v.crowd
    vseqWrapped := if r.vseq = 0xFFFFFFFE then tabSet false v.vseqWrapped r.vi true else v.vseqWrapped
    latencies := (s.time.careUs, r.latency) :: v.latencies.filter (fun p => decide (s.time.careUs ≤ p.1 + 1000000)) } }
/-- The maximum latency of the last 1 s (07 Table 7.11). -/
def maxLatency (s : State) : Nat :=
  ((s.verdict.latencies.filter (fun p => decide (s.time.careUs ≤ p.1 + 1000000))).map (·.2)).foldl max 0
/-- The sequence number of a VI before one: none before the first of all (00 R468). -/
def vseqBefore (s : State) (vi n : Nat) : Nat :=
  if n ≤ 1 then (if tabGet false s.verdict.vseqWrapped vi then 0xFFFFFFFE else 0) else n - 1
/-- Bit 7 of FLAGS: the verdict is delivered again after a failover or a BOOT (07 Table 7.9). -/
def redelivered (h : Held) : Held :=
  if h.sent then { h with record := { h.record with flags := h.record.flags ||| 128 } } else h

/-- A verdict is committed: effect on the Roll, record, acknowledgement or reply, delivery (07 R189 to R199). -/
def issueVerdict (c : Nat) (x : Capture) (d : Detection) (j : Judged) (latency : Nat) (crowd : Bool) (s : State) : State :=
  let s := applyVerdict j x d s
  let vi := verdictVi s d j
  let (s, endAt) := recordEnd j x d s
  let r := verdictRecord s c x d j (tabGet 1 s.verdict.nextVseq vi) vi endAt latency crowd
  let s := countVerdict r s
  let s := holdVerdict vi { record := r, octets := if delivers j then j.plain else [] } s
  match j.cls, j.slot with
  | .passThrough, _ => raiseReply (groupOwner s (d.bin / 64)) d.profile x.frame.meter x.endAt d.bin d.mcode x.frame.cfo
      (unitWeights x.weights) s
  | _, some slot =>
    if acknowledges j x.frame then
      raiseAck slot (16 * x.endAt + delay16 (setting s 0x4020 3 d.profile)) (hdrType x.frame.header == 2) d.bin d.mcode
        x.frame.cfo s
    else s
  | _, none => s

/-- A capture ends INCOMPLETE at once (06 R171). Its LATENCY has no t_c and is a free value (log entry 5). -/
def endCapture (c detail : Nat) (s : State) : State :=
  let x := captureOf s c
  match x.stage, x.det with
  | 0, _ => s
  | _, none => s
  | _, some d =>
    let (r, s) := drawFree s
    let j : Judged := { cls := .incomplete, detail := detail }
    releaseCapture c d .incomplete (issueVerdict c { x with forced := detail } d j (r % 1001) false s)
/-- Captures that are not FREE. -/
def runningCaptures (s : State) : List Nat := (s.sweep.captures.filter (fun p => p.2.stage ≠ 0)).map (·.1)
def endAllCaptures (detail : Nat) (s : State) : State := (runningCaptures s).foldl (fun t c => endCapture c detail t) s

end Sys2Proof.Machine
end

