-- ==== Sys2Proof/Machine/SweepOps.lean ====
section
/-! DEFINITION. Requests and captures as other units act on them: refusal, the effective ceiling, and the start and stop
of the receive chain (06 R150 to R162; 05 R126, R144; 01 Table 1.2). -/

namespace Sys2Proof.Machine

/-- The Sweep registers hits only in these modes (06 R150). -/
def sweepRuns (s : State) : Bool :=
  match s.mode.mode with
  | .service => true
  | .degraded => true
  | .silent => s.mode.causeQuiet && !s.mode.causeRef
  | _ => false
/-- ADMIT0 in any island (14 Table 14.5). -/
def admitZero (s : State) : Bool := s.pace.islands.any (fun p => p.2.admit0)
/-- The effective ceiling (06 R158). -/
def effectiveCeiling (s : State) : Nat :=
  if s.sweep.gaspZero || admitZero s || !sweepRuns s then 0 else setting s 0x4011 2 0

/-- Change the record a detection has in the ring (06 R155). -/
def modDetection (dseq : Nat) (f : Detection → Detection) (s : State) : State :=
  { s with sweep := { s.sweep with
      ring := s.sweep.ring.map (fun p => (p.1, p.2.map (fun d => if d.dseq = dseq then f d else d))) } }
/-- A request is refused with a cause (06 R162): its record, its loop, the counts and the frame account. -/
def refuseRequest (d : Detection) (cause : Refuse) (round : Nat) (s : State) : State :=
  let s := { s with sweep := { s.sweep with
      requests := s.sweep.requests.filter (fun x => x.dseq ≠ d.dseq)
      cRefuse := bump s.sweep.cRefuse d.bin
      cCause := bump s.sweep.cCause (8 * d.cls + refuseCode cause) } }
  let s := frameBump (16 * (d.bin / 64) + 1) s
  releaseLoop d (modDetection d.dseq
    (fun x => { x with outcome := 2, cause := refuseCode cause, round := round % 2 ^ 32 }) s)
/-- The admission round an air time falls in. -/
def roundAt (s : State) : Nat := s.time.airTime / 256
/-- Every open request is refused MODE (06 Table 6.2). -/
def stopRequests (s : State) : State :=
  s.sweep.requests.foldl (fun t d => refuseRequest d .mode (roundAt t) t) { s with sweep := { s.sweep with hits := [] } }

/-! ### The receive chain starts and stops -/

/-- The receive chain stops (01 Table 1.2; 02 R52): requests and captures end. -/
def stopReceive (s : State) : State :=
  let s := endAllCaptures 2 (stopRequests s)
  { s with rx := { s.rx with running := false, gainPending := [] } }
/-- Every floor restarts and reads STALE (05 R144): only bin samples still to come count from now on. -/
def staleFloors (s : State) : State :=
  { s with rx := { s.rx with antFresh := [], beamFresh := [], antSum := [], beamSum := [], floorsFrom := s.rx.histNext } }
/-- The beam-bin floors of a group restart (05 R144). -/
def staleBeams (g : Nat) (s : State) : State :=
  { s with rx := { s.rx with
      beamFresh := s.rx.beamFresh.filter (fun p => p.1 / 2048 ≠ g)
      beamSum := s.rx.beamSum.filter (fun p => p.1 / 2048 ≠ g)
      beamsFrom := tabSet 0 s.rx.beamsFrom g s.rx.histNext } }
/-- The next bin sample number at this air time (05 R123: one every 256 ticks). -/
def nextBinSample (s : State) : Nat := s.time.airTime / 256 + 1
/-- Cause of an antenna whose calibration entry has ENABLE clear: LANE, kept apart from a lane's own by bit 5. -/
def causeDisabled : Nat := 33
/-- Antennas whose active calibration entry has ENABLE clear are erased from now on (05 R114). -/
def disabledFrom (s : State) : List Erasure :=
  ((List.range 192).filter (fun a => !(tabGet 0 s.rx.cal.active a).testBit 46)).map
    (fun a => ⟨a, s.time.airTime, none, causeDisabled⟩)
/-- The receive chain restarts (05 R126, R143, R144; 08 R206): the history store is empty, streams and floors start
anew, and the signature store is lost. -/
def startReceive (s : State) : State :=
  let n := nextBinSample s
  let s := { s with
    rx := { s.rx with running := true, history := [], histFrom := n, histNext := n, streams := [], margins := [],
                      beamOut := [], antTaken := [], beamTaken := [], erasures := disabledFrom s, head := [],
                      wideSum := [], wideFrom := s.time.airTime, floorRuns := [], beamsFrom := [], raised := [], captured := [],
                      cal := { s.rx.cal with prior := s.rx.cal.active }
                      beams := s.rx.beams.map (fun p => (p.1, { p.2 with prior := p.2.active, priorShift := p.2.shiftActive }))
                      calSwaps := [], gainPending := [], firstFloor := false, periodFrom := n }
    sweep := { s.sweep with hits := [] }
    roll := { s.roll with signature := [], entries := s.roll.entries.map (fun p => (p.1, { p.2 with sigStore := false })) } }
  let s := (List.range 12).foldl (fun t h => if (activeLane t h).isNone then openErasure h t else t) s
  staleFloors s

end Sys2Proof.Machine
end

