-- ==== Sys2Proof/Machine/ModeOps.lean ====
section
/-! DEFINITION. Operating modes as every unit meets them: the reason bitmap, SERVICE conditions, the mode that the
recorded causes give, the alarm relays, entry into SILENT, STANDBY, SAFE and LAST_GASP, escalation (02; 15 R400, R412; 03
Table 3.4; 01 Table 1.2). -/

namespace Sys2Proof.Machine

/-! ### DEGRADED reasons (02 Table 2.3; 15 R404) -/

/-- Physical unit a logical unit stands for while nothing is substituted. -/
def homePhys (l : Nat) : Nat := if l < 48 then l else l - 48
def anySubst (s : State) : Bool := s.prefect.standFor.any (fun p => isFenced s p.2)
/-- Whether a fenced unit's function is covered by no stand-in (15 R404, Table 15.5). -/
def uncoveredFence (s : State) (u : Nat) : Bool :=
  let i := u % 256
  match u / 256 with
  | 1 => (List.range 48).any (fun l => physOf s l == i)
  | 2 => (List.range 4).any (fun l => physOf s (48 + l) == i)
  | 4 => i < 8 && s.mesh.failedColumn ≠ i
  | 5 => i < 12 && (activeLane s i).isNone
  | 8 => !officeInService s
  | 12 => false
  | _ => true
def anyUncovered (s : State) : Bool :=
  s.fault.detention.any (fun d => match d with
    | .unit u _ => uncoveredFence s u
    | .desc _ _ _ _ => false)
/-- A configured working head without an ACTIVE lane and without a switchover in progress, or whose switchover missed
its deadline (02 Table 2.3 bit 7; 04 R112). -/
def headMiss (s : State) : Bool :=
  (List.range 12).any (fun h => (setting s 0x3000 1 0).testBit h && (activeLane s h).isNone
    && (!(headOf s h).switching || (headOf s h).lateSwitch))
def degradedReasons (s : State) : Nat :=
  b2n (anySubst s) + 2 * b2n (decide (s.mesh.failedColumn ≠ 0xFF))
  + 4 * b2n ((List.range 12).any (fun h => match activeLane s h with | some l => decide (12 ≤ l) | none => false))
  + 8 * b2n (!standbyPresent s) + 16 * b2n (anyUncovered s) + 32 * b2n (s.pace.islands.any (fun p => p.2.pace))
  + 64 * b2n (admitZero s) + 128 * b2n (headMiss s)

/-! ### SERVICE entry (02 Table 2.6) -/

/-- A working radio lane in lock (02 R43, Table 2.6): lanes 0 to 11, and a spare that carries a head. -/
def workingLanes (s : State) : List Lane :=
  ((List.range 16).filter (fun l => l < 12 || (laneOf s l).active)).map (laneOf s)
def anyPackage (s : State) : Bool := s.molfen.packages.any (fun p => p.2.ustate == .installed || p.2.wasInstalled)
def serviceUnmet (s : State) : Nat :=
  b2n (!s.time.valid) + 2 * b2n (!(workingLanes s).any (fun x => x.locked && x.headId)) + 4 * b2n (!anyPackage s)
  + 8 * b2n (!s.rx.firstFloor) + 16 * b2n (s.mode.causeRef || s.mode.causeQuiet)

/-! ### The mode that the causes give (02 R35, R36, R40, R41, R44) -/

def silentCause (s : State) : Bool := s.mode.causeRef || s.mode.causeQuiet
/-- One transition the recorded causes call for, if any. -/
def settleOnce (s : State) : State :=
  match s.mode.mode with
  | .standby => if silentCause s then transition 0x09 .silent { s with mode := { s.mode with silentFrom := .standby } } else s
  | .service =>
    if silentCause s then transition 0x09 .silent { s with mode := { s.mode with silentFrom := .service } }
    else if degradedReasons s ≠ 0 then transition 0x06 .degraded s else s
  | .degraded =>
    if silentCause s then transition 0x09 .silent { s with mode := { s.mode with silentFrom := .degraded } }
    else if degradedReasons s = 0 then transition 0x07 .service s else s
  | .silent =>
    if silentCause s then s
    else transition 0x0A (if s.mode.silentFrom = .standby then .standby
                          else if degradedReasons s = 0 then .service else .degraded) s
  | _ => s

/-! ### Alarm relays (15 R411, R412; 02 Table 2.8) -/

def relaysHeld (s : State) : Bool :=
  match s.mode.mode with
  | .off => true | .boot => true | .lastGasp => true | .safe => true | _ => decide (s.fault.relayTest ≠ 0)
def majorAlarm (s : State) : Bool :=
  s.mode.causeRef || s.fault.queue.any (fun r => r.severity == .major || r.severity == .safe)
def minorAlarm (s : State) : Bool :=
  degradedReasons s ≠ 0 || s.fault.queue.any (fun r => r.severity == .minor) || s.fault.notStored ≠ s.fault.notStoredAck
def settleRelays (s : State) : State :=
  { s with fault := { s.fault with major := !relaysHeld s && !majorAlarm s, minor := !relaysHeld s && !minorAlarm s } }
/-- What every command of the control families ends with. -/
def settle (s : State) : State := settleRelays (settleOnce s)

/-! ### Stops -/

/-- A lane is dropped: it sends nothing and its receiver is not LOCKED. -/
def dropLane (l : Nat) (s : State) : State := modLane (unlockLane false l s) l (fun x => { x with enabled := false })
def dropLanes (s : State) : State := (List.range 20).foldl (fun t l => dropLane l t) s
/-- Radio lanes alone. -/
def dropRadioLanes (s : State) : State := (List.range 16).foldl (fun t l => dropLane l t) s
/-- Bursts in the air are stopped and those placed read NOT_SENT. -/
def stopBursts (s : State) : State := clearTimeline (stopAir s)

/-- REF is set by a reference loss (14 Table 14.2 steps 1 to 3; 01 Table 1.2). -/
def loseReference (s : State) : State :=
  let s := stopBursts s
  let s := { s with time := { s.time with refLost := true, valid := false, extrap := s.time.extrap, loopLock := false,
                                          qualified := false, atX := s.time.airTime, usX := s.time.careUs, careSince := true } }
  let s := dropLanes s
  let s := stopReceive s
  let s := { s with time := { s.time with rimStop := true } }
  (List.range 19).foldl (fun t i => moveSupply i 850 t) { s with mode := { s.mode with causeRef := true } }

/-- QUIET is set (02 R42). -/
def setQuiet (s : State) : State :=
  if s.mode.causeQuiet then s else stopBursts { s with mode := { s.mode with causeQuiet := true } }

/-- To STANDBY from SERVICE or DEGRADED (02 R51): grants and the timeline end; bursts in the air and captures go on. -/
def toStandby (cause : Nat) (s : State) : State :=
  let s := { s with mode := { s.mode with fromBoot := false, serviceDeferred := false } }
  clearTimeline (stopRequests (transition cause .standby s))

/-- Tiles stop: operations in service end TRAPPED (15 Table 15.9), and running tiles halt. -/
def stopTiles (s : State) : State :=
  let s := (s.prefect.ops.filter (fun o => o.stage == .inService)).foldl (fun t o => trapOp o.opseq t) s
  { s with tiles := s.tiles.map (fun p => (p.1,
      if p.2.tstate = .host ∨ p.2.tstate = .task then { p.2 with tstate := .halted, waiting := false } else p.2)) }

/-- Entry into SAFE (02 R52, R55). -/
def enterSafe (cause : Nat) (s : State) : State :=
  let s := { s with mode := { s.mode with upBeforeSafe := (List.range 20).filter (fun l => (laneOf s l).enabled), serviceDeferred := false, bootStep := 0 } }
  let s := stopBursts (transition cause .safe s)
  stopTiles (stopReceive s)
/-- Escalation by the Caretaker (15 R400; 02 R50, R53): during LAST_GASP it waits for the next BOOT. -/
def escalate (s : State) : State :=
  match s.mode.mode with
  | .off => s
  | .safe => s
  | .lastGasp => { s with mode := { s.mode with safeAtBoot := true } }
  | _ => enterSafe 0x0E s
/-- A record that causes SAFE is remembered until it is acknowledged (02 R55). -/
def markSafeCause (n : Nat) (s : State) : State :=
  if s.fault.queue.any (fun r => r.eseq == n) ∧ s.fault.safeCause.contains n = false then
    { s with fault := { s.fault with safeCause := s.fault.safeCause ++ [n] } }
  else s
/-- A fault that calls for SAFE: its record and the escalation. -/
def escalateWith (b : ErrBody) (s : State) : State := escalate (markSafeCause (nextEseq s) (errRecord b s))

/-! ### Journals at the end (03 R69 to R72) -/

/-- Bytes a verdict journal of 4 MiB takes. -/
def trimJournal : List Held → List Held
  | [] => []
  | h :: t => if heldBytes (h :: t) ≤ 4194304 then h :: t else trimJournal t
/-- The effect of a journal record on the Roll image. -/
def imageRecord (im : Tab Entry) (r : JRec) : Tab Entry :=
  match r.body with
  | .state e => tabSet {} im r.slot e
  | .enrol e _ => tabSet {} im r.slot e
  | .retire e => tabSet {} im r.slot { gen := e.gen }
  | _ => im
/-- Records that the Roll journal ring of 8 MiB holds (08 R226). -/
def journalRing : Nat := 131072
/-- A record joins the ring; at a full ring the applier takes the oldest first. -/
def ringRecord (r : JRec) (s : State) : State :=
  let full := s.roll.backlog.length + 1 - journalRing
  { s with roll := { s.roll with image := (s.roll.backlog.take full).foldl imageRecord s.roll.image
                                 backlog := s.roll.backlog.drop full ++ [r] } }
/-- One record of the staging buffer reaches MRAM. -/
def drainItem (x : StagedItem) (s : State) : State :=
  match x with
  | .roll r => ringRecord r s
  | .verdict h =>
    if (tabGet [] s.verdict.held h.record.vi).any (fun k => k.record.vseq == h.record.vseq) then
      { s with verdict := { s.verdict with journal := trimJournal (s.verdict.journal ++ [h]) } }
    else s
  | .conservation k d => { s with roll := { s.roll with conservation := s.roll.conservation ++ [(k, d)] } }
  | .account _ _ _ => s
/-- The staging buffer drains in the order of R71. -/
def drainStaging (s : State) : State :=
  let l := (List.range 6).flatMap (fun c => s.roll.staging.filter (fun p => p.1 == c))
  l.foldl (fun t p => drainItem p.2 t) { s with roll := { s.roll with staging := [] } }

def isOpenRec (r : TxRec) : Bool := r.kind == 1 && r.gstate == 0
/-- An open record closes NOT_APPLIED or PARTIAL (16 R426, Table 16.5). -/
def closedRec (s : State) (r : TxRec) : TxRec :=
  { r with gstate := if r.done = 0 then 2 else 3, time := (stamp s).1, timeOk := (stamp s).2 }
/-- The records of the open write groups. -/
def openRecs (s : State) : List TxRec := (s.molfen.journal.filterMap (·.2)).filter isOpenRec
/-- Open write groups close (16 R426). -/
def closeGroups (s : State) : State :=
  { s with molfen := { s.molfen with
      openGroups := []
      journal := s.molfen.journal.map (fun p => (p.1, p.2.map (fun r => if isOpenRec r then closedRec s r else r))) } }

/-- The Prefect is drained: no operation, token or FIFO is left, and every buffer is free. -/
def drainPrefect (s : State) : State :=
  let n := s.prefect.ops.length
  let b := (s.prefect.bufRefs.filter (fun p => p.2 ≠ 0)).length
  { s with prefect := { s.prefect with
      ops := [], portFifo := [], tileFifo := [], joins := [], bufRefs := [], blockSeen := []
      account := accBy (accBy s.prefect.account 1 n) 4 b } }

/-- The accounts of 01 Table 1.5 as 64-bit words, each with its key: frame, downlink, credit and charge per endpoint and per
VI, buffer pool, mesh, Mover and counter monotonicity. -/
def accountWords (s : State) : List Nat :=
  let tab (t : Tab Nat) : List Nat := t.flatMap (fun p => [p.1, p.2])
  let account (a : Account) : List Nat :=
    [a.init, ofSigned 64 a.adj, a.air, a.rx, a.dl, a.sleep, a.unfunded, a.earned, a.granted, a.xin, a.forfeit, a.spent,
      a.xout, a.reserved, a.refunded, a.gen]
  tab s.sweep.account ++ tab s.tx.account ++ s.roll.accounts.flatMap (fun p => p.1 :: account p.2)
    ++ s.roll.retired.flatMap (fun p => p.1 :: p.2.returned :: p.2.retCharge :: account p.2.sum)
    ++ tab s.prefect.account ++ [s.mesh.sent, s.mesh.returned, s.mesh.retired]
    ++ s.mesh.channels.flatMap (fun p => [p.1, p.2.started, p.2.good, p.2.bad]) ++ tab s.roll.monotone
/-- CRC-32 over account snapshots, little-endian (03 R70 step 6, R73; 00 R4). -/
def snapshotCrc (l : List Nat) : Nat := crc32 (l.flatMap (octetsLE 8))
/-- Islands of the receive chain, the Sweep, the captures and the tiles (14 R381). -/
def powerOffIslands (s : State) : State :=
  { s with pace := { s.pace with islands := (List.range 14).foldl (fun t i =>
      tabMod {} t i (fun x => { x with supply := 0 })) s.pace.islands } }

/-- Steps 1 to 6 of the last gasp (03 Table 3.4) with the entry into LAST_GASP. -/
def lastGasp (cause : Nat) (s : State) : State :=
  let s := { s with power := { s.power with
      mains := false, inrush := true, losses := inc32 s.power.losses, lossSinceCheck := true, gaspOpen := true
      lossAt := if s.time.valid then s.time.airTime else 0xFFFFFFFFFFFFFFFF
      lossUs := s.time.careUs, lossCause := cause } }
  let s := settleRelays (transition 0x0B .lastGasp { s with sweep := { s.sweep with gaspZero := true } })
  let s := dropRadioLanes (stopBursts s)
  let s := powerOffIslands (stopReceive s)
  let s := { s with
    tiles := [], mesh := { s.mesh with mem := s.mesh.mem.filter (fun p => nodeNum p.1 < 96)
                                       responses := [], outstanding := [], quarantine := [] } }
  let s := closeGroups (drainPrefect s)
  let s := match activePair s with
    | some p => if officePair s (1 - p) = .standby then setOffice s (1 - p) .starting else s
    | none => s
  let s := drainStaging s
  { s with
    power := { s.power with accSnap := accountWords s }
    time := { s.time with
      persistedAt := if s.time.valid then s.time.airTime else s.time.persistedAt
      carePersisted := s.time.careUs, ledgerPersisted := s.time.ledger } }

end Sys2Proof.Machine
end

