-- ==== Sys2Proof/Machine/FaultOps.lean ====
section
/-! DEFINITION. Fences, stand-ins and substitution as every family meets them: fencing a unit, choosing and loading a
substitute, and the dispatch map (11 R303; 12 R336, R341; 15 R401 to R405). -/

namespace Sys2Proof.Machine

/-! ### Units -/

def unitTile (p : Nat) : Nat := 0x0100 + p
def unitDecoder (u : Nat) : Nat := 0x0200 + u
def unitEngine (e : Nat) : Nat := 0x0300 + e
def unitColumn (f : Nat) : Nat := 0x0400 + f
def unitLane (l : Nat) : Nat := 0x0500 + l
def unitPair (p : Nat) : Nat := 0x0800 + p
def unitIsland (i : Nat) : Nat := 0x0900 + i
def unitDram (c : Nat) : Nat := 0x0A00 + c
def unitMram : Nat := 0x0B00
def unitFlash (b : Nat) : Nat := 0x0C00 + b
def unitHoldup : Nat := 0x0D00
def unitMains : Nat := 0x0E00
def unitCaretaker : Nat := 0x0F00
def unitChannel (c : Nat) : Nat := 0x1000 + c
def unitProbe : Nat := 0x1100

/-! ### Corrections of the last 24 h (15 R397) -/

/-- 0x9010:02: corrections of the last 24 h. -/
def corr24 (c : Card) : Nat := c.corrHours.sum
def addCorr (n : Nat) : List Nat → List Nat
  | [] => [n]
  | x :: t => (x + n) :: t

/-! ### The dispatch map (11 R303, Table 11.5) -/

def logicalUnits : List Nat := List.range 52
/-- The unit identity behind a logical unit's PHYS. -/
def physUnit (l p : Nat) : Nat := if l < 48 then unitTile p else unitDecoder p
/-- The logical tile a physical tile serves, the logical Decoder unit a physical Decoder unit serves. -/
def logicalOfTile (s : State) (p : Nat) : Option Nat :=
  (List.range 48).find? (fun l => physOf s l == p && !tabGet false s.prefect.invalid l)
def logicalOfDecoder (s : State) (u : Nat) : Option Nat :=
  ((List.range 4).find? (fun i => physOf s (48 + i) == u && !tabGet false s.prefect.invalid (48 + i))).map (48 + ·)
def setDrain (l : Nat) (b : Bool) (s : State) : State :=
  { s with prefect := { s.prefect with drain := tabSet false s.prefect.drain l b } }
def setInvalid (l : Nat) (b : Bool) (s : State) : State :=
  { s with prefect := { s.prefect with invalid := tabSet false s.prefect.invalid l b } }
/-! ### Report cards (15 R407, Table 15.7) -/

/-- Every unit of Table 15.1. -/
def allUnits : List Nat :=
  (List.range 18).flatMap (fun k => (List.range (unitRange k)).map (fun i => 256 * k + i))
/-- Units that stand by: a tile or Decoder unit that serves no logical unit, a spare lane without a head, the unused spare
column, the standby Office pair. -/
def standingBy (s : State) (u : Nat) : Bool :=
  let i := u % 256
  match u / 256 with
  | 1 => (logicalOfTile s i).isNone
  | 2 => (logicalOfDecoder s i).isNone
  | 4 => i == 8 && s.mesh.failedColumn == 0xFF
  | 5 => decide (12 ≤ i) && !(laneOf s i).active
  | 8 => officePair s i == .standby
  | _ => false
/-- A lane whose cage is empty is absent. -/
def absentUnit (s : State) (u : Nat) : Bool :=
  let i := u % 256
  match u / 256 with
  | 5 => !(cageOf s i).present
  | 6 => !(cageOf s (16 + i)).present
  | 7 => !(cageOf s (20 + i)).present
  | _ => false
def cardState (s : State) (u : Nat) : Nat :=
  if isFenced s u then 2 else if absentUnit s u then 3 else if standingBy s u then 1 else 0
def refreshCard (u : Nat) (s : State) : State := setCard s u { cardOf s u with cstate := cardState s u }

/-! ### Fences -/

/-- The record that fenced a unit. -/
def fenceRef (s : State) (u : Nat) : Nat :=
  ((s.fault.detention.findSome? (fun d => match d with
    | .unit x r => if x = u then some r else none
    | .desc _ _ _ _ => none))).getD 0xFFFFFFFF
/-- Tiles of an island that serve a logical tile (14 R381). -/
def islandTiles (s : State) (i : Nat) : List Nat :=
  (List.range 4).filterMap (fun k => if (logicalOfTile s (4 * i + k)).isSome then some (4 * i + k) else none)
/-- Required pace of the package that runs on a logical tile. -/
def tilePace (s : State) (l : Nat) : Nat :=
  s.molfen.packages.foldl (fun m p => if p.2.inst.images.any (fun i => i.1 == l) then max m p.2.inst.pace else m) 0
/-- The required paces of the tile islands follow the packages on their tiles (01 R25; 14 R381). -/
def refreshPaces (s : State) : State :=
  let pace (i : Nat) : Nat := (islandTiles s i).foldl (fun m p => max m (tilePace s ((logicalOfTile s p).getD 0))) 0
  (List.range 13).foldl (fun t i => setIsland t i { islandOf t i with required := pace i }) s
/-- PHYS takes a new unit and DRAIN clears in the same write; the stand-in keeps the name of the fenced unit, whose
record is handled then. -/
def bindUnit (l p : Nat) (s : State) : State :=
  let old := physUnit l (physOf s l)
  let s := if isFenced s old then closeErr s (fenceRef s old) 1 else s
  let s := { s with prefect := { s.prefect with
    standFor := if p = homePhys l then tabSet 0 s.prefect.standFor l 0
                else if isFenced s old then tabSet 0 s.prefect.standFor l old else s.prefect.standFor
    subst := s.prefect.subst.filter (fun x => x.1 ≠ l) } }
  refreshPaces (setInvalid l false (setDrain l false (setPhys s l p)))
/-- Physical tiles that serve no logical tile and are not fenced, the substitutes 48 to 51 first. -/
def freeTiles (s : State) : List Nat :=
  ([48, 49, 50, 51] ++ List.range 48).filter (fun p => !isFenced s (unitTile p) && (logicalOfTile s p).isNone)
/-- Spare Decoder units. -/
def freeDecoders (s : State) : List Nat :=
  ([4, 5, 6, 7, 0, 1, 2, 3]).filter (fun u => !isFenced s (unitDecoder u) && (logicalOfDecoder s u).isNone)

/-! ### CX registers become undefined (12 R329) -/

/-- The c registers and CXERR of a tile take free values. -/
def undefineCx (t : Nat) (s : State) : State :=
  let n := s.freeCount
  modTile { s with freeCount := n + 9 } t (fun x => { x with
    c := (List.range 8).foldl (fun u k => tabSet 0 u k (BitVec.ofNat 64 (Config.freeNat (n + k)))) []
    cxerr := n2b (Config.freeNat (n + 8)) })

/-! ### Tile images (12 R341) -/

/-- Bytes of a value of w bits from an address on, low byte first. -/
def putLE : Nat → Nat → Nat → List Host.Cell → List Host.Cell
  | 0, _, _, m => m
  | n + 1, a, v, m => putLE n (a + 1) (v / 256) (memPut m a (BitVec.ofNat 8 v))
def putCode : List Bundle → Nat → List Host.Cell → List Host.Cell
  | [], _, m => m
  | b :: t, a, m => putCode t (a + 16) (putLE 16 a b.toNat m)
def putData : List Word → Nat → List Host.Cell → List Host.Cell
  | [], _, m => m
  | w :: t, a, m => putData t (a + 4) (putLE 4 a w.toNat m)
/-- The image is loaded while the tile is held in reset, and the tile released at Host level at bundle 0: every register
zero, loops inactive, the c registers undefined. Counters over the tile's life since BOOT are kept; BUNDLES restarts. -/
def loadImage (p l : Nat) (img : Image) (s : State) : State :=
  let old := tileOf s p
  undefineCx p (setTile s p {
    tstate := .host
    tvec := img.tvec &&& 0xFFFFFFF0, tbase := img.tbase &&& 0xFFFFFFF0, tlimit := img.tlimit &&& 0xFFFFFFF0
    gseg := img.gseg &&& 0x3FF
    cxeh := img.cxeh, cxet := img.cxet, tglobal := img.tglobal
    imem := putCode (img.code.take 4096) 0 []
    dmem := putData (img.data.take 65536) 0x100000 []
    logical := l, image := img
    traps := old.traps, lastTrap := old.lastTrap, bundlesAll := old.bundlesAll, storeFails := old.storeFails, corrected := old.corrected })

/-! ### Fences (15 R401, Table 15.5) -/

/-- Every operation in service on a physical unit ends TRAPPED. -/
def trapServiceOf (decoder : Bool) (p : Nat) (s : State) : State :=
  (s.prefect.ops.filter (fun o => o.stage == .inService && o.punit == p && (decide (48 ≤ o.lunit)) == decoder)).foldl
    (fun t o => trapOp o.opseq t) s
/-- Hall passes of every identity of a node (10 R278). -/
def releasePassesOfNode (n : Nat) (s : State) : State :=
  (List.range 8).foldl (fun t e =>
    if (engineOf t e).pass ≠ 0 ∧ initNode (engineOf t e).pass = n then forceRelease e t else t) s
def closePort (d : Nat) (s : State) : State := setDomain s d { domainOf s d with port := .closed }
/-- The handling of a tile's fence goes on until its logical tile is bound to a substitute. -/
def staysOpen (s : State) (u : Nat) : Bool := u / 256 == 1 && !isFenced s u && (logicalOfTile s (u % 256)).isSome
/-- A tile is fenced: its operation ends TRAPPED, its passes are released, its port closes, and its logical tile waits
under DRAIN for a substitute (15 R402). -/
def fenceTile (p ref : Nat) (s : State) : State :=
  if isFenced s (unitTile p) then s
  else
    let s := emit (.stop p) (listFence (unitTile p) ref s)
    let s := releasePassesOfNode p (trapServiceOf false p s)
    let s := modTile s p (fun x => { x with tstate := .fenced, accept := false, waiting := false, curOpseq := 0 })
    let s := closePort p s
    match logicalOfTile s p with
    | some l =>
      let s := setInvalid l true (setDrain l true s)
      { s with prefect := { s.prefect with subst := s.prefect.subst.filter (fun x => x.1 ≠ l) ++ [(l, 0)] } }
    | none =>
      { s with prefect := { s.prefect with
        subst := s.prefect.subst.map (fun x => if x.2 = p + 1 then (x.1, 0) else x) } }
/-- A Decoder unit is fenced: its logical unit goes to a spare unit through the dispatch map. -/
def fenceDecoder (u ref : Nat) (s : State) : State :=
  if isFenced s (unitDecoder u) then s
  else
    let s := closePort (52 + u) (trapServiceOf true u (listFence (unitDecoder u) ref s))
    match logicalOfDecoder s u with
    | some l => (match freeDecoders s with
        | q :: _ => bindUnit l q s
        | [] => setInvalid l true (setDrain l true s))
    | none => s
/-- An engine is fenced (10 R279). -/
def fenceEngine (e ref : Nat) (s : State) : State :=
  if isFenced s (unitEngine e) then s
  else
    let s := forceRelease e (listFence (unitEngine e) ref s)
    let s := setEngine s e { engineOf s e with fenced := true }
    if 4 ≤ e then closePort (56 + e) s else s
/-- Microseconds of 24 h. -/
def dayUs : Nat := 86400000000
/-- A waiting message that the Caretaker answers itself (16 R434). -/
def emergencyDatagram (d : Datagram) : Bool :=
  match readMsg d.octets with
  | some m => (emergencyOf d m).isSome
  | none => false
/-- The messages that a failed active pair had taken but not answered receive no reply (15 R403). -/
def dropUnanswered (s : State) : State :=
  { s with molfen := { s.molfen with inbox := s.molfen.inbox.filter emergencyDatagram } }
/-- An Office pair is fenced (15 R401, R403). The last pair's loss escalates (15 R400). -/
def fencePair (p ref : Nat) (s : State) : State :=
  let before := tabGet 0 s.fault.officeTwice p
  let twice := decide (before ≠ 0 ∧ s.time.careUs + 1 < before + dayUs)
  let s := { s with fault := { s.fault with
    officeTwice := tabSet 0 (tabSet 0 s.fault.officeTwice p (s.time.careUs + 1)) (p + 2) (b2n twice) } }
  let s := if officePair s p = .active then dropUnanswered s else s
  let s := setOffice (listFence (unitPair p) ref s) p .fenced
  if officeInService s || officePair s (1 - p) == .standby then s else escalate (markSafeCause ref s)
/-- Any unit of 15 Table 15.1 is fenced as Table 15.5 says. -/
def fenceUnit (u ref : Nat) (s : State) : State :=
  match u / 256 with
  | 1 => fenceTile (u % 256) ref s
  | 2 => fenceDecoder (u % 256) ref s
  | 3 => fenceEngine (u % 256) ref s
  | 8 => fencePair (u % 256) ref s
  | 10 => escalate (markSafeCause ref { listFence u ref s with fault := { (listFence u ref s).fault with dramFenced := true } })
  | 11 => escalate (markSafeCause ref { listFence u ref s with fault := { (listFence u ref s).fault with dramFenced := true } })
  | _ => listFence u ref s
/-- A built-in test fails (15 Table 15.4 BIST): the record and the fence. -/
def failTest (u parent : Nat) (s : State) : State :=
  let n := nextEseq s
  fenceUnit u n (errRecord { unit := u, code := .bist, severity := .minor, parent := parent, open_ := staysOpen s u } s)

/-! ### Substitution (11 R303; 15 R402) -/

/-- An operation is in service for a logical unit. -/
def inServiceOf (s : State) (l : Nat) : Bool := s.prefect.ops.any (fun o => o.stage == .inService && o.lunit == l)
/-- Move the hall passes, channels and image of a logical tile to a substitute: the image is loaded, PHYS written, DRAIN
and VALID settled, and OWNER of the old tile's channels rewritten (13 R360). -/
def moveTile (l p : Nat) (img : Image) (s : State) : State :=
  let old := physOf s l
  let s := loadImage p l img s
  let s := if isFenced s (unitTile old) || old == p then s
           else modTile (releasePassesOfNode old s) old (fun x => { x with tstate := .reset, logical := 0x3F, accept := false, waiting := false })
  let s := { s with mesh := { s.mesh with channels := s.mesh.channels.map (fun c =>
    (c.1, if c.2.owner = old then { c.2 with owner := p } else c.2)) } }
  bindUnit l p s
/-- Substitutes that fail their test are fenced, each with its record under the fence being handled. -/
def failSubstitutes (parent : Nat) : List Nat → State → State
  | [], s => s
  | p :: t, s => failSubstitutes parent t
      (if (freeTiles s).contains p then failTest (unitTile p) parent s else s)

end Sys2Proof.Machine
end

