-- ==== Sys2Proof/Machine/MoverOps.lean ====
section
/-! DEFINITION. Packets of the mesh, the service of a request at its node, and the Mover channels (13). -/

namespace Sys2Proof.Machine

/-! ### Packets and probes (13 R347, R350, R357 to R359) -/

/-- What a header flit carries beside STATUS (13 Table 13.2). -/
structure Flit where
  addr : Nat
  init : Nat
  tid : Nat
  type : Nat
  age : Nat := 0
  /-- span in bytes, minus one -/
  len : Nat
  deriving DecidableEq, Repr
def packFlit (f : Flit) (st : Status) : Nat :=
  pack [(40, f.addr), (16, f.init), (8, f.tid), (3, f.type), (6, f.age), (8, f.len), (8, statusCode st)]
/-- Data flits of a span: one for each 16-byte-aligned unit. -/
def dataFlits (addr n : Nat) : Nat := if n = 0 then 0 else (addr + n - 1) / 16 + 1 - addr / 16
/-- Row, column and node port of a node number. -/
def meshRow (n : Nat) : Nat := n / 16
def colOf (n : Nat) : Nat := n / 2 % 8

/-- One passage of a header flit: router (8y + x), and the port with bit 3 set on the output side. -/
abbrev Hop := Nat × Nat
/-- Hops along a row from column x to column x', east or west. -/
def rowHops (y x' : Nat) : Nat → Nat → List Hop
  | 0, _ => []
  | n + 1, x => if x < x' then (8 * y + x, 9) :: (8 * y + x + 1, 3) :: rowHops y x' n (x + 1)
                else (8 * y + x, 11) :: (8 * y + x - 1, 1) :: rowHops y x' n (x - 1)
/-- Hops along a column from row y to row y'; north is the lower row (DESIGN CHOICE, log entry 20). -/
def colHops (x y' : Nat) : Nat → Nat → List Hop
  | 0, _ => []
  | n + 1, y => if y < y' then (8 * y + x, 10) :: (8 * (y + 1) + x, 0) :: colHops x y' n (y + 1)
                else (8 * y + x, 8) :: (8 * (y - 1) + x, 2) :: colHops x y' n (y - 1)
/-- The way of a packet from node a to node b: along the row, then along the column (13 R350). -/
def pathOf (a b : Nat) : List Hop :=
  (8 * meshRow a + colOf a, 4 + a % 2)
    :: rowHops (meshRow a) (colOf b) (max (colOf a) (colOf b) - min (colOf a) (colOf b)) (colOf a)
    ++ colHops (colOf b) (meshRow b) (max (meshRow a) (meshRow b) - min (meshRow a) (meshRow b)) (meshRow a)
    ++ [(8 * meshRow b + colOf b, 12 + b % 2)]

/-- The time of a trace entry, bit 63 set for air time. -/
def traceTime (s : State) : Nat := let (t, ok) := stamp s; t % 2 ^ 63 + 2 ^ 63 * b2n ok
/-- An entry joins the trace of 4,096 under the mode in force. -/
def traceFlit (i hdr : Nat) (s : State) : State :=
  let m := setting s 0x8061 3 0
  let full := decide (4096 ≤ s.mesh.trace.length)
  if m = 0 ∨ (m = 2 ∧ full) then s
  else { s with mesh := { s.mesh with
    trace := (if full then s.mesh.trace.drop 1 else s.mesh.trace) ++ [(hdr, traceTime s, i)]
    traceWritten := inc32 s.mesh.traceWritten } }
/-- The 128 bits of a field of 16 octets of a probe configuration, octets 19:4 or 35:20. -/
def probeField (cfg first : Nat) : Nat := octField 36 cfg first (first + 15)
/-- Probe i sees a header flit pass a port on a virtual channel (13 Table 13.5). -/
def probeHop (hdr vc : Nat) (h : Hop) (i : Nat) (s : State) : State :=
  let cfg := setting s 0x8061 1 i
  let act := octAt 36 cfg 0
  let mask := probeField cfg 20
  if act = 0 ∨ octAt 36 cfg 1 ≠ h.1 ∨ octAt 36 cfg 2 ≠ h.2 + 16 * vc
      ∨ Nat.land hdr mask ≠ Nat.land (probeField cfg 4) mask then s
  else
    let s := if act % 2 = 1 then
        { s with mesh := { s.mesh with probeCount := accBy s.mesh.probeCount i 1 } } else s
    if 2 ≤ act then traceFlit i hdr s else s
/-- The probe unit watches: its domain runs and a probe is on. -/
def anyProbe (s : State) : Bool := (domainOf s 64).dstate == .run && (List.range 16).any (fun i => octAt 36 (setting s 0x8061 1 i) 0 ≠ 0)
/-- A packet crosses its routers: probes see its header, and every link counts its flits and their credits. -/
def passPacket (path : List Hop) (hdr vc flits : Nat) (s : State) : State :=
  let links := (path.filter (fun h => h.2 < 8)).length
  let s := { s with mesh := { s.mesh with sent := (s.mesh.sent + flits * links) % 2 ^ 64
                                          returned := (s.mesh.returned + flits * links) % 2 ^ 64 } }
  if anyProbe s then
    path.foldl (fun t h => (List.range 16).foldl (fun u i => probeHop hdr vc h i u) t) s
  else s
/-- A request packet passes to its node; one the first router answers goes no further. -/
def passRequest (f : Flit) (good : Bool) (s : State) : State :=
  let path := pathOf (initNode f.init) (nodeNum f.addr)
  let flits := 1 + if f.type = 1 ∨ f.type = 2 then dataFlits f.addr (f.len + 1) else 0
  passPacket (if good then path else path.take 1) (packFlit f .ok) 0 flits s
/-- A response packet passes back: RDATA or WACK with the request's ADDR, INIT, TID and LEN. -/
def passResponse (f : Flit) (st : Status) (s : State) : State :=
  let rd := decide (f.type = 0)
  passPacket (pathOf (nodeNum f.addr) (initNode f.init)) (packFlit { f with type := if rd then 3 else 4 } st) 1
    (1 + if rd then dataFlits f.addr (f.len + 1) else 0) s

/-! ### Mover registers (13 R360, R361, Table 13.6) -/

def ctrlWord (x : Channel) : Nat := pack [(1, b2n x.enable), (3, x.evkind), (6, x.evsrc), (1, b2n x.porten)]
def channelState (x : Channel) : Nat :=
  if x.run.isSome then 3 else if !x.enable then 0 else if x.waitReady then 2 else 1
/-- The 64 bytes a read of a channel returns. -/
def channelImage (x : Channel) : Nat :=
  pack [(32, ctrlWord x), (32, 0), (32, x.ring), (32, x.ring / 2 ^ 32), (32, x.ringSize), (32, x.next),
    (32, channelState x), (32, x.pending), (32, x.started), (32, x.good), (32, x.bad), (32, x.overrun), (32, x.owner)]
def refuseChannel (c : Nat) (s : State) : State := setChannel s c { channelOf s c with refusedWrite := true }
/-- One event at a channel (13 R361). -/
def channelEvent (c : Nat) (s : State) : State :=
  let x := channelOf s c
  if !x.enable || decide (255 ≤ x.pending) then setChannel s c { x with overrun := inc32 x.overrun }
  else setChannel s c { x with pending := x.pending + 1 }
/-- A write of CTRL: refused whole for a reserved EVKIND, a channel naming itself, or while a descriptor runs, unless it
clears ENABLE alone. -/
def ctrlReserved (c w : Nat) : Bool :=
  let kind := bitsOf w 3 1
  let src := bitsOf w 9 4
  decide (2 < kind ∨ (kind = 1 ∧ 15 < src) ∨ (kind = 2 ∧ src = c))
def ctrlRefused (x : Channel) (c w : Nat) : Bool :=
  ctrlReserved c w || (x.run.isSome && !(x.enable && w % 2 ^ 11 + 1 == ctrlWord x))
def writeCtrl (c w : Nat) (s : State) : State :=
  let x := channelOf s c
  let kind := bitsOf w 3 1
  let src := bitsOf w 9 4
  if ctrlRefused x c w then refuseChannel c s
  else
    let on := n2b w
    setChannel s c { x with
      enable := on, evkind := kind, evsrc := src, porten := w.testBit 10
      pending := if on then x.pending else 0
      overrun := if on then x.overrun else (x.overrun + x.pending) % 2 ^ 32
      waitReady := on && x.waitReady }
/-- A write of OWNER by the Office. -/
def writeOwner (c w : Nat) (s : State) : State :=
  let v := w % 64
  if 51 < v ∧ v ≠ 63 then refuseChannel c s else setChannel s c { channelOf s c with owner := v }
/-- A write of one 32-bit register of a channel. -/
def writeChannelWord (c off w : Nat) (s : State) : State :=
  let x := channelOf s c
  match off with
  | 0x00 => writeCtrl c w s
  | 0x04 => if w = 1 then channelEvent c s else s
  | 0x08 => if w % 32 ≠ 0 then refuseChannel c s else setChannel s c { x with ring := x.ring / 2 ^ 32 * 2 ^ 32 + w }
  | 0x0C => setChannel s c { x with ring := w % 256 * 2 ^ 32 + x.ring % 2 ^ 32 }
  | 0x10 => if w = 0 ∨ 4096 < w then refuseChannel c s else setChannel s c { x with ringSize := w }
  | 0x30 => writeOwner c w s
  | _ => s
/-- Whether an event of a source is one of the channel's: a KICK always, a timer or a completion where EVKIND and EVSRC name
it (13 R361; 01 R22). -/
def takesEvent (x : Channel) : EventSource → Bool
  | .kick => true
  | .timer t => x.evkind == 1 && x.evsrc == t.val
  | .channel k => x.evkind == 2 && x.evsrc == k.val
/-- Whether a register refuses a value (13 Table 13.6; 00 R6). -/
def wordRefused (x : Channel) (c off w : Nat) : Bool :=
  match off with
  | 0x00 => ctrlRefused x c w
  | 0x08 => decide (w % 32 ≠ 0)
  | 0x10 => decide (w = 0 ∨ 4096 < w)
  | 0x30 => decide (51 < w % 64 ∧ w % 64 ≠ 63)
  | _ => false
/-- Who may write a channel (13 R360). -/
def mayWriteChannel (s : State) (who c : Nat) : Bool :=
  isOffice who || (decide (initNode who < 52) && (channelOf s c).owner == initNode who)
/-- The 32-bit words that n bytes at an offset touch. -/
def wordsAt (off n : Nat) : List Nat :=
  if n = 0 then [] else (List.range ((off + n - 1) / 4 + 1 - off / 4)).map (fun i => 4 * (off / 4 + i))
/-- A write of a span of a channel's window: word by word, of the words it covers; KICK and CTRL act. -/
def channelWrite (who c off : Nat) (bs : List (BitVec 8)) (s : State) : State × Status :=
  let ws := wordsAt off bs.length
  if !mayWriteChannel s who c || (ws.contains 0x30 && !isOffice who) then (s, .access)
  else
    let img := channelImage (channelOf s c)
    -- a value that one of the registers refuses refuses the write whole (00 R6)
    if ws.any (fun w => wordRefused (channelOf s c) c w (mergeWord img off w bs)) then (refuseChannel c s, .ok)
    else (ws.foldl (fun t w => writeChannelWord c w (mergeWord img off w bs) t) s, .ok)
def channelRead (s : State) (c off n : Nat) : List (BitVec 8) :=
  (List.range n).map (fun i => BitVec.ofNat 8 (channelImage (channelOf s c) >>> (8 * (off + i))))

/-! ### Service at the target node (13 R345, R348, R355) -/

/-- The span breaks the packet rule, or TYPE is reserved: answered by the first router. -/
def goodSpan (type addr n : Nat) : Bool := decide (type ≤ 2) && decide (addr % 256 + n ≤ 256)
/-- Channel of a Mover node's offset: a span touches the windows of four channels in a 256-byte block, served in turn. -/
def moverBase (node : Nat) : Nat := if node = 61 then 0 else 32
/-- Pieces of a span that fall into 64-byte windows: (offset, first index, bytes). -/
def pieces (w : Nat) : Nat → Nat → Nat → List (Nat × Nat × Nat)
  | 0, _, _ => []
  | fuel + 1, off, n =>
    if n = 0 then []
    else
      let k := min n (w - off % w)
      (off, 0, k) :: (pieces w fuel (off + k) (n - k)).map (fun p => (p.1, p.2.1 + k, p.2.2))
/-- A READ at its node. -/
def serveRead (who addr n : Nat) (s : State) : State × Status × List (BitVec 8) :=
  let d := nodeNum addr
  let o := nodeOff addr
  if portClosedAt s addr then (countAsleep addr s, .asleep, [])
  else if d = 61 ∨ d = 62 then
    (if o + n ≤ 0x40 * 32 then
      (s, .ok, (pieces 64 5 o n).flatMap (fun p => channelRead s (moverBase d + p.1 / 64) (p.1 % 64) p.2.2))
     else (s, .range, []))
  else if d = nodeCipher then
    (if o + n ≤ 0x800 then engineRead who (o / 256) (o % 256) n s else (s, .range, []))
  else meshRead addr n s
/-- A WRITE or PWRITE at its node. -/
def serveWrite (who addr : Nat) (bs : List (BitVec 8)) (s : State) : State × Status :=
  let d := nodeNum addr
  let o := nodeOff addr
  if portClosedAt s addr then (countAsleep addr s, .asleep)
  else if d = 61 ∨ d = 62 then
    (if o + bs.length ≤ 0x40 * 32 then
      (pieces 64 5 o bs.length).foldl (fun (r : State × Status) p =>
        if r.2 ≠ .ok then r
        else channelWrite who (moverBase d + p.1 / 64) (p.1 % 64) ((bs.drop p.2.1).take p.2.2) r.1) (s, .ok)
     else (s, .range))
  else if d = nodeCipher then
    (if o + bs.length ≤ 0x800 then engineWrite who (o / 256) (o % 256) bs s else (s, .range))
  else meshWrite addr bs s

/-- A TID an initiator may use: not outstanding, not quarantined (13 R353); which one is its own choice. -/
def pickTid (s : State) (init : Nat) : Nat → Nat → Option Nat
  | 0, _ => none
  | n + 1, k =>
    let t := k % 256
    if s.mesh.outstanding.any (fun x => x.1 == init && x.2.1 == t) || s.mesh.quarantine.contains (init, t)
    then pickTid s init n (k + 1) else some t
/-- The TID an initiator takes for a request: a free choice among those it may use (log entry 5). -/
def chooseTid (who : Nat) (s : State) : Nat × State :=
  let (k, s) := drawFree s
  ((pickTid s who 256 (k % 256)).getD 0, s)
/-- A whole read transaction of an initiator inside the module: request, service, response. -/
def readTxn (who addr n : Nat) (s : State) : State × Status × List (BitVec 8) :=
  let (a, s) := chooseTid who s
  let f : Flit := { addr := addr, init := who, tid := a, type := 0, len := n - 1 }
  let good := goodSpan 0 addr n
  let s := passRequest f good s
  let (s, st, bs) := if good then serveRead who addr n s else (s, .range, [])
  (passResponse f st s, st, bs)
/-- A whole write transaction with its WACK. -/
def writeTxn (who addr : Nat) (bs : List (BitVec 8)) (s : State) : State × Status :=
  let (a, s) := chooseTid who s
  let f : Flit := { addr := addr, init := who, tid := a, type := 1, len := bs.length - 1 }
  let good := goodSpan 1 addr bs.length
  let s := passRequest f good s
  let (s, st) := if good then serveWrite who addr bs s else (s, .range)
  (passResponse f st s, st)

/-! ### Descriptors (13 R363 to R367) -/

/-- Identity of a Mover channel (13 R346). -/
def channelIdentity (c : Nat) : Nat := identityOf (if c < 32 then 61 else 62) c
/-- The descriptor a channel reads at an index (13 Table 13.7). -/
def descOf (index addr raw : Nat) : Desc :=
  { index := index, addr := addr, kind := bitsOf raw 19 17, idx32 := raw.testBit 20, scale := bitsOf raw 24 21,
    esize := bitsOf raw 39 32 + 1, nelem := bitsOf raw 63 48, src := bitsOf raw 103 64, dst := bitsOf raw 167 128,
    idx := bitsOf raw 247 208, raw := raw }
/-- Malformed (13 R364): reserved KIND, SCALE above 12, NELEM 0, a misaligned IDX, a reserved field not zero. -/
def malformed (d : Desc) : Bool :=
  decide (2 < d.kind) || decide (12 < d.scale) || d.nelem == 0 || d.idx % (if d.idx32 then 4 else 2) ≠ 0
    || bitsOf d.raw 31 25 ≠ 0 || bitsOf d.raw 47 40 ≠ 0 || bitsOf d.raw 127 104 ≠ 0 || bitsOf d.raw 175 168 ≠ 0
    || bitsOf d.raw 255 248 ≠ 0
/-- An access split at 256-byte boundaries (13 R348). -/
def readSplit (who addr n : Nat) (s : State) : State × Status × List (BitVec 8) :=
  let k := min n (256 - addr % 256)
  let (s, st, a) := readTxn who (addr % 2 ^ 40) k s
  if st ≠ .ok ∨ n = k then (s, st, a)
  else
    let (s, st, b) := readTxn who ((addr + k) % 2 ^ 40) (n - k) s
    (s, st, a ++ b)
def writeSplit (who addr : Nat) (bs : List (BitVec 8)) (s : State) : State × Status :=
  let k := min bs.length (256 - addr % 256)
  let (s, st) := writeTxn who (addr % 2 ^ 40) (bs.take k) s
  if st ≠ .ok ∨ bs.length = k then (s, st) else writeTxn who ((addr + k) % 2 ^ 40) (bs.drop k) s
def valueLE (bs : List (BitVec 8)) : Nat := fromLE (bs.map BitVec.toNat)
/-- Source and destination address of element i, from its index entry. -/
def elemAddrs (d : Desc) (i off : Nat) : Nat × Nat :=
  ((if d.kind = 1 then d.src + off * 2 ^ d.scale else d.src + i * d.esize) % 2 ^ 40,
   (if d.kind = 2 then d.dst + off * 2 ^ d.scale else d.dst + i * d.esize) % 2 ^ 40)
/-- How a descriptor's moves end: the status, and whether a write failed. -/
abbrev MoveEnd := State × Status × Bool × Nat
/-- The read side of element i: its data and its destination. -/
def readElem (who : Nat) (d : Desc) (i : Nat) (s : State) : State × Status × Nat × List (BitVec 8) :=
  let w := if d.idx32 then 4 else 2
  let (s, st, e) := if d.kind = 0 then (s, Status.ok, []) else readTxn who ((d.idx + w * i) % 2 ^ 40) w s
  if st ≠ .ok then (s, st, 0, [])
  else
    let p := elemAddrs d i (valueLE e)
    let (s, st, bs) := readSplit who p.1 d.esize s
    (s, st, p.2, bs)
/-- Elements after a failed write that may have been written (13 R367): which of them is a free choice of bits. -/
def strayWrites (who : Nat) (d : Desc) (bits : Nat) : Nat → Nat → State → State
  | 0, _, s => s
  | n + 1, i, s =>
    if i < d.nelem ∧ bits.testBit n then
      let (s, st, dst, bs) := readElem who d i s
      strayWrites who d bits n (i + 1) (if st = .ok then (writeSplit who dst bs s).1 else s)
    else strayWrites who d bits n (i + 1) s
/-- The write of element i failed: element i itself is unknown after TIMEOUT, up to 15 more may be written. -/
def failedWrite (who : Nat) (d : Desc) (i : Nat) (st : Status) (s : State) : MoveEnd :=
  let (r, s) := drawFree s
  let s := strayWrites who d r 15 (i + 1) s
  let s := if st = .timeout ∧ r.testBit 15 then strayWrites who d 1 1 i s else s
  (s, st, true, i)
/-- Elements from i on, n of them; the descriptor's own failure, if a response already failed, stands at its element. -/
def moveElems (who : Nat) (d : Desc) : Nat → Nat → State → MoveEnd
  | 0, i, s => (s, .ok, false, i)
  | n + 1, i, s =>
    if d.cls ≠ .ok ∧ d.failIdx = i ∧ !d.failWrite then (s, d.cls, false, i)
    else
      let (s, st, dst, bs) := readElem who d i s
      if st ≠ .ok then (s, st, false, i)
      else if d.cls ≠ .ok ∧ d.failIdx = i then failedWrite who d i d.cls s
      else
        let (s, st) := writeSplit who dst bs s
        if st ≠ .ok then failedWrite who d i st s else moveElems who d n (i + 1) s
/-- The final word of a descriptor: STATUS, CLASS, READY and FAILIDX; the rest as read. -/
def finalDesc (raw : Nat) (st : Status) (failIdx : Nat) : Nat :=
  let ok := decide (st = .ok)
  let low := (if ok then 0 else 0x0C) + 256 * (if ok then bitsOf raw 15 8 else statusCode st)
  let mid := bitsOf raw 175 17 * 2 ^ 17 + low
  mid + (if ok then bitsOf raw 207 176 else failIdx) * 2 ^ 176 + bitsOf raw 255 208 * 2 ^ 208
/-- A completion pulse: the Prefect port with PORTEN, and an event at every channel whose EVSRC names this one. -/
def pulse (c index : Nat) (s : State) : State :=
  let s := if (channelOf s c).porten then raisePort (128 + c) index s else s
  ((List.range 64).filter (fun k => (channelOf s k).evkind = 2 && (channelOf s k).evsrc == c)).foldl
    (fun t k => channelEvent k t) s
/-- A descriptor ends: write-back, counts, the detention list for BAD, and the pulse (13 R366, R367). -/
def endDesc (c : Nat) (d : Desc) (writeBack : Bool) (st : Status) (failIdx : Nat) (s : State) : State :=
  let s := if writeBack then
      (writeTxn (channelIdentity c) d.addr ((octetsLE 32 (finalDesc d.raw st failIdx)).map (BitVec.ofNat 8)) s).1 else s
  let x := channelOf s c
  let s := setChannel s c { x with
    run := none, next := if x.ringSize ≤ d.index + 1 then 0 else d.index + 1
    good := if st = .ok then inc32 x.good else x.good
    bad := if st = .ok then x.bad else inc32 x.bad }
  let s := if st = .ok then s else detain (.desc c d.index st failIdx) s
  pulse c d.index s

/-! ### Timeouts at an initiator (13 R352) -/

/-- A response other than OK fails the running descriptor of a channel at an element. -/
def failDesc (init elem : Nat) (isWrite : Bool) (st : Status) (s : State) : State :=
  match (List.range 64).find? (fun c => channelIdentity c == init) with
  | none => s
  | some c =>
    let x := channelOf s c
    match x.run with
    | some d => if d.cls ≠ .ok ∨ d.nelem ≤ elem then s
                else setChannel s c { x with run := some { d with cls := st, failIdx := elem, failWrite := isWrite } }
    | none => s
/-- A tile's posted store has its response (12 R339): a status other than OK goes to TSTAT, is counted and recorded. -/
def postedResponse (t : Nat) (st : Status) (addr : Nat) (s : State) : State :=
  let x := tileOf s t
  let s := setTile s t { x with
    posted := x.posted - 1
    tstat := if st ≠ .ok ∧ x.tstat = 0 then BitVec.ofNat 32 (statusCode st) else x.tstat
    storeFails := if st ≠ .ok then inc32 x.storeFails else x.storeFails }
  if st = .ok then s
  else errRecord { unit := unitTile t, code := .store, severity := .info, status := st, addr := addr } s

end Sys2Proof.Machine
end

