-- ==== Sys2Proof/Machine/Domains.lean ====
section
/-! DEFINITION. Power domains: votes, the idle delay, the closing port, and the wake (14 R385 to R388; 13 R355). -/

namespace Sys2Proof.Machine

def anyVote (x : Domain) : Bool := x.vPrefect || x.vMovers || x.vOffice || x.vCaretaker || x.vSelf
/-- A vote bit of Table 14.7 by client: 0 PREFECT, 1 MOVERS, 2 OFFICE, 3 CARETAKER, 4 SELF. -/
def putVote (client : Nat) (v : Bool) (x : Domain) : Domain :=
  match client with
  | 0 => { x with vPrefect := v }
  | 1 => { x with vMovers := v }
  | 2 => { x with vOffice := v }
  | 3 => { x with vCaretaker := v }
  | _ => { x with vSelf := v }
/-- A vote is written (14 R386, R387): the last withdrawal starts the idle delay, a vote during it cancels it, and a vote
after the entry began brings the wake. -/
def castVote (d client : Nat) (v : Bool) (s : State) : State :=
  let x := putVote client v (domainOf s d)
  setDomain s d { x with
    delay := !anyVote x && x.dstate == .run && x.port == .opened
    wake := x.wake || (v && x.dstate ≠ .run) }
/-- DOMAIN_VOTE (14 R385): a client writes its own vote bit. -/
def execDomainVote (d : Fin 65) (client : Fin 5) (v : Bool) (s : State) : Out := .next (castVote d client v s)
/-- IDLE_DELAY_EXPIRY (14 R386): the entry begins and the port is CLOSING. -/
def execIdleDelayExpiry (d : Fin 65) (s : State) : Out :=
  let x := domainOf s d
  .next (if x.delay && !anyVote x && x.dstate == .run then
      setDomain s d { x with delay := false, dstate := .transition, port := .closing, entries := inc32 x.entries }
    else s)

/-- The saved register list of a tile (14 Table 14.8). -/
def savedList (x : Tile) : List Nat :=
  [x.tvec.toNat, x.tbase.toNat, x.tlimit.toNat, x.gseg.toNat, b2n x.cxeh + 2 * b2n x.cxet + 4 * b2n x.tglobal, b2n x.accept]
/-- SLEEP takes what its list does not save: a tile's registers and memories, the probe unit's trace. -/
def sleepDomain (d : Nat) (s : State) : State :=
  if d < 52 then
    let x := tileOf s d
    setDomain (setTile s d { tstate := .reset, logical := x.logical, traps := x.traps, lastTrap := x.lastTrap, image := x.image,
                             bundlesAll := x.bundlesAll, storeFails := x.storeFails, corrected := x.corrected })
      d { domainOf s d with saved := some (savedList x) }
  else if d = 64 then { s with mesh := { s.mesh with trace := [] } }
  else s
/-- Requests that a domain's units issued and that are not yet answered. -/
def domainInit (d init : Nat) : Bool :=
  if d < 60 then initNode init == d
  else if d < 64 then initNode init == nodeCipher && initSub init + 56 == d
  else initNode init == 88
/-- PORT_CLOSED (13 R355; 14 R386): every request the domain issued has its response or timed out, and those it accepted
have theirs. The domain then goes to RECESS or SLEEP. -/
def execPortClosed (d : Fin 65) (s : State) : Out :=
  let x := domainOf s d
  let busy := s.mesh.outstanding.any (fun p => domainInit d p.1)
  if x.port = .closing ∧ busy = false then
    let s := setDomain s d { x with port := .closed, dstate := if x.idle = 2 then .sleep else .recess }
    .next (if x.idle = 2 then sleepDomain d s else s)
  else .next s

/-- The saved list goes back into a reloaded tile. -/
def restoreTile (t : Nat) (l : List Nat) (s : State) : State :=
  let g (i : Nat) : Word := BitVec.ofNat 32 (l.getD i 0)
  modTile s t (fun x => { x with
    tvec := g 0, tbase := g 1, tlimit := g 2, gseg := g 3
    cxeh := (l.getD 4 0).testBit 0, cxet := (l.getD 4 0).testBit 1, tglobal := (l.getD 4 0).testBit 2
    accept := n2b (l.getD 5 0) })
/-- A wake from SLEEP: a tile's image is reloaded and its saved list restored. -/
def wakeDomain (d : Nat) (s : State) : State :=
  if d < 52 then
    let l := ((domainOf s d).saved).getD []
    let s := restoreTile d l (loadImage d (tileOf s d).logical (tileOf s d).image s)
    setDomain s d { domainOf s d with saved := none }
  else s
/-- The unit of a domain (15 Table 15.1). -/
def domainUnit (d : Nat) : Nat :=
  if d < 52 then unitTile d else if d < 60 then unitDecoder (d - 52) else if d < 64 then unitEngine (d - 56) else unitProbe
/-- WAKE_COMPLETE (14 R387, R388): the port opens; a poisoned saved word fences the unit instead. -/
def execWakeComplete (d : Fin 65) (poison : Bool) (airTime : Nat) (s : State) : Out :=
  let s := advanceTo airTime s
  let x := domainOf s d
  if x.wake && x.port == .closed && (x.dstate == .recess || x.dstate == .sleep) && !isFenced s (domainUnit d) then
    if poison && x.dstate == .sleep then
      let n := nextEseq s
      .next (settle (fenceUnit (domainUnit d) n
        (errRecord { unit := domainUnit d, code := .restore, severity := .major, status := .poison,
                     open_ := staysOpen s (domainUnit d) }
          (setDomain s d { x with wake := false }))))
    else
      let s := if x.dstate = .sleep then wakeDomain d s else s
      let y := domainOf s d
      let y : Domain := { y with wake := false, dstate := .run, port := .opened }
      .next (setDomain s d { y with delay := !anyVote y })
  else .next s

/-- A Molfen write of 0x2050:01 sets IDLE alone (14 Table 14.10). -/
def writeDomain (d v : Nat) (s : State) : State × Status :=
  (setDomain s d { domainOf s d with idle := bitsOf v 6 5 }, .ok)
/-- The control word of a domain (14 Table 14.7). -/
def domainWord (x : Domain) : Nat :=
  pack [(1, b2n x.vPrefect), (1, b2n x.vMovers), (1, b2n x.vOffice), (1, b2n x.vCaretaker), (1, b2n x.vSelf), (2, x.idle),
    (2, domStateCode x.dstate), (2, portCode x.port)]

end Sys2Proof.Machine
end

