-- ==== Sys2Proof/Machine/Power.lean ====
section
/-! DEFINITION. Mains, the hold-up store, BOOT and the seal (02 R46 to R48, R50; 03; 14 R466), with their commands. -/

namespace Sys2Proof.Machine

/-! ### The snapshot (01 R30) -/

/-- Counters, accounts and Roll objects are read from this copy from now on. -/
def takeSnap (s : State) : State :=
  { s with snap := { settings := s.settings, time := s.time, fault := s.fault, power := s.power, lane := s.lane, rx := s.rx,
                     sweep := s.sweep, verdict := s.verdict, roll := s.roll, tx := s.tx, cipher := s.cipher,
                     prefect := s.prefect, tiles := s.tiles, mesh := s.mesh, pace := s.pace, molfen := s.molfen,
                     stack := s.stack } }

/-! ### What a BOOT keeps (17 R464; 00 R468; 15 R396, R401; 16 R415) -/

/-- Settings that waited for a bell are in force after a BOOT. -/
def applyStaged (s : State) : State :=
  s.rx.staged.foldl (fun t x =>
    putSetting t (x.key / 2 ^ 56) (x.key / 2 ^ 40 % 65536) (x.key / 2 ^ 32 % 256) (x.key % 2 ^ 32) x.value)
    { s with rx := { s.rx with staged := [] } }
/-- A table restored from its MRAM copy, its shadow a copy of it (05 R120, R129). -/
def restoreTable (t : SwapTable) : SwapTable :=
  { shadow := t.mram, active := t.mram, mram := t.mram, shiftShadow := t.shiftMram, shiftActive := t.shiftMram,
    shiftMram := t.shiftMram }
/-- A bell's written period and phase are in force; an armed time is gone. -/
def bootBell (b : Bell) : Bell := { period := b.newPeriod.getD b.period, phase := b.newPhase.getD b.phase }
def bootTimer (t : PaceTimer) : PaceTimer := { period := t.newPeriod.getD t.period, phase := t.newPhase.getD t.phase }
/-- The error record of a missed one-shot bell (14 R376). -/
def missRecord (b : Nat) (s : State) : State :=
  errRecord { unit := unitCaretaker, code := .timing, severity := .minor, detail := b } s
/-- Armed swaps are cancelled by the BOOT, each counted and recorded (17 R464; 14 R376). -/
def cancelArmed (armed : List Nat) (s : State) : State :=
  armed.foldl (fun t b => missRecord b { t with time := { t.time with
    bells := t.time.bells.map (fun p => if p.1 = b then (p.1, { p.2 with missed := inc32 p.2.missed }) else p) } }) s

/-- The timebase is invalid from here on, and the Caretaker notes when it became so (14 R373, R466). -/
def dropTimebase (s : State) : State :=
  let t := s.time
  { s with time := { t with
      refLost := true, valid := false, loopLock := false, rimStop := true, qualified := false, restart := false
      atX := if t.valid then t.airTime else t.atX
      usX := if t.valid then t.careUs else t.usX
      careSince := t.careSince || t.valid } }

/-- The commands of 16 Table 16.6, whose written values do not persist (17 R464). -/
def acted (idxSub : Nat) : Bool := idxSub == 0x807001 || idxSub == 0x808001
/-- A package after a BOOT: one in rotation is what it was before its ACTIVATE, as after an ABANDON (16 R430). -/
def bootPackage (x : Update) : Update :=
  match x.ustate with
  | .rotating => { x with ustate := if x.wasInstalled then .installed else .idle, toRotate := [], rotated := [], back := false
                          inst := if x.wasInstalled then x.inst else {} }
  | _ => x
/-- The volatile parts of the units start anew; what persists stays. -/
def bootUnits (warm : Bool) (s : State) : State :=
  let s : State := applyStaged (dropTimebase s)
  let t := s.time
  let s : State := { s with
    settings := s.settings.filter (fun p => !acted (p.1 / 2 ^ 32 % 2 ^ 24))
    mode := { mode := s.mode.mode, causeQuiet := s.mode.causeQuiet,
              lastTransition := s.mode.lastTransition, bootWarm := warm, bootAtUs := s.mode.bootAtUs,
              safeAtBoot := s.mode.safeAtBoot, exhaustedAtLoss := s.mode.exhaustedAtLoss }
    time := { t with
      pendingEpoch := 0, refLosses := 0, extrap := false, rimHeld := [], snapshotAt := 0
      careSince := warm && t.careSince
      airTime := if warm then t.airTime else t.persistedAt
      bells := t.bells.map (fun p => (p.1, bootBell p.2))
      paceTimers := t.paceTimers.map (fun p => (p.1, bootTimer p.2)) }
    lane := { lanes := (List.range 20).foldl (fun u l =>
                let c := cageOf s l
                tabSet {} u l { cageEmpty := !c.present, cageBad := c.present && c.txDisable }) []
              cages := s.lane.cages }
    rx := { cal := restoreTable s.rx.cal, beams := s.rx.beams.map (fun p => (p.1, restoreTable p.2))
            antFloor := s.rx.antFloor, beamFloor := s.rx.beamFloor, fraction := s.rx.fraction, wideband := s.rx.wideband }
    sweep := { masks := s.sweep.masks, nextDseq := s.sweep.dseqReserved, dseqReserved := seqAdd s.sweep.dseqReserved 65536,
               account := s.sweep.account }
    tx := { cal := restoreTable s.tx.cal, nextRqid := s.tx.rqidReserved, rqidReserved := seqAdd s.tx.rqidReserved 65536,
            deferred := s.tx.deferred, account := s.tx.account }
    tiles := []
    stack := { s.stack with joining := false, headLosses := 0, beatSeen := false, present := 0, headset := none,
                            head := (s.stack.headset.map (·.1)).getD s.stack.head, lostHead := 0xFF,
                            dirPending := [], gains := [], branches := [], notAssigned := 0 } }
  let s : State := { s with
    verdict := { nextVseq := s.verdict.nextVseq, vseqWrapped := s.verdict.vseqWrapped, held := s.verdict.held,
                 journal := s.verdict.journal, acked := s.verdict.acked, notices := s.verdict.notices }
    cipher := { keys := s.cipher.keys
                engines := (List.range 8).foldl (fun u e =>
                  tabSet {} u e ({ fenced := (engineOf s e).fenced
                                   pass := if e < 4 ∧ (engineOf s e).fenced = false then markerIdentity else 0 } : Engine)) [] }
    prefect := { s.prefect with
      refusedWrite := false, dropped := [], unbound := [], winBlocks := [], drainEnded := [], trace := [], traceLost := 0
      nextOrd := [] }
    mesh := { mem := s.mesh.mem.filter (fun p => 85 ≤ nodeNum p.1 && nodeNum p.1 ≤ 87)
              poison := s.mesh.poison.filter (fun p => 85 ≤ nodeNum (8 * p.1) && nodeNum (8 * p.1) ≤ 87)
              failedColumn := s.mesh.failedColumn, sent := s.mesh.sent, returned := s.mesh.returned
              retired := s.mesh.sent - s.mesh.returned
              channels := s.mesh.channels.map (fun p => (p.1, { ({} : Channel) with owner := p.2.owner })) }
    pace := { islands := s.pace.islands.map (fun p => (p.1, ({ required := p.2.required } : Island))) }
    fault := { s.fault with overwritten := 0, relayTest := 0, poisonCleared := 0, officeA := .starting, officeB := .starting }
    molfen := { s.molfen with
      txCnt := s.molfen.txReserved, accepted := [], discarded := [], vackIgnored := [], openGroups := []
      serviceDiscards := 0, addrPending := [], linkUp := [], emergAnswered := 0, emergRefused := 0
      inbox := []
      firmware := if s.molfen.firmware.ustate = .probation then { s.molfen.firmware with ustate := .verified } else s.molfen.firmware
      packages := s.molfen.packages.map (fun p => (p.1, bootPackage p.2))
      addr := (List.range 2).foldl (fun u l => tabSet 0 u l (setting s 0x1020 1 l)) [] } }
  s.fault.detention.foldl (fun u d => match d with
    | .unit x _ =>
      if x / 256 = 1 then closePort (x % 256) (modTile u (x % 256) (fun t => { t with tstate := .fenced }))
      else if x / 256 = 2 then closePort (52 + x % 256) u
      else if x / 256 = 3 ∧ 4 ≤ x % 256 then closePort (56 + x % 256) u
      else u
    | .desc _ _ _ _ => u) s

/-- Clocks at a cold BOOT (14 R465; 08 R219). -/
def coldClocks (s : State) : State :=
  { s with time := { s.time with
      careUs := s.time.carePersisted + 1000000, careFrac := 0
      ledger := s.time.ledgerPersisted, gap := true } }

/-! ### Step 3: self-test (02 R46, R47) -/

/-- A warm BOOT makes no DRAM and tile tests (02 R49). -/
def tested (warm : Bool) (u : Nat) : Bool := !warm || (u / 256 ≠ 1 && u / 256 ≠ 10)
/-- Units whose test fails are fenced with their records; every card is updated (02 Table 2.5 step 3; 15 R407). -/
def selfTest (warm : Bool) (f : BootFacts) (s : State) : State :=
  let s := (f.failed.filter (tested warm)).foldl (fun t u =>
    if isUnit u ∧ isFenced t u = false then failTest u 0xFFFFFFFF t else t) s
  allUnits.foldl (fun t u => refreshCard u t) s

/-- BOOT ends in SAFE with the record of the failing step (02 R47). An escalation that waited for it is met (02 R53). -/
def bootFails (b : ErrBody) (s : State) : State :=
  let s := markSafeCause (nextEseq s) (errRecord b s)
  let s := if s.mode.mode = .boot then enterSafe 0x03 s else s
  { s with saved := none, mode := { s.mode with safeAtBoot := false } }

/-! ### Step 6: seal check, Roll, verdicts (03 R74, R75; 08 R227; 09 R470; 03 R72) -/

def sealMark : Nat := 0x5EA10001
/-- Sequence number of the last journal record. -/
def lastJseq (s : State) : Nat := s.roll.newestJseq
/-- Every account reads UNSEALED, with the window of possible discrepancy: 64 ms are 409,600 ticks. -/
def markUnsealed (s : State) : State :=
  let p := s.power
  let care := decide (p.lossAt = 0xFFFFFFFFFFFFFFFF)
  { s with
    power := { p with
      sealResult := 1, winCare := care
      winStart := if care then p.lossUs / 1000 - 64 else p.lossAt - 409600
      winEnd := if care then p.lossUs / 1000 else p.lossAt }
    fault := { s.fault with unsealed := (List.range 8).foldl (fun t a => tabSet false t a true) s.fault.unsealed } }
/-- The seal check against the last journal record found; on a pass SEALMARK is zeroed before the journals open (03 R74). A
BOOT that no mains loss preceded has no seal to check, and the last result stands (DEDUCED, log entry 58). -/
def sealCheck (f : BootFacts) (found : Nat) (s : State) : State :=
  if !s.power.lossSinceCheck then s
  else
    let r := s.power.sealRec
    let good := f.sealReadable && f.snapshotsMatch && r.mark == sealMark && r.accCrc == snapshotCrc s.power.accSnap && r.jseq == found
    let s := { s with power := { s.power with lastSeal := r, lossSinceCheck := false } }
    if good then { s with power := { s.power with
      sealResult := 0, winStart := 0, winEnd := 0, winCare := false, sealRec := { r with mark := 0 } } }
    else markUnsealed s

/-- Places from sequence number a on to b (00 R468). -/
def seqDist (a b : Nat) : Nat := (b + 0xFFFFFFFE - a) % 0xFFFFFFFE
/-- A journal record lies in a range of records found lost (01 R33). -/
def lostRecord (l : List (Nat × Nat × Nat)) (n : Nat) : Bool :=
  l.any (fun x => decide (seqDist x.2.1 n ≤ seqDist x.2.1 x.2.2))
/-- A record takes its place in JSEQ order, `last` the newest of them. -/
def insertJrec (last : Nat) (r : JRec) : List JRec → List JRec
  | [] => [r]
  | x :: t => if seqDist x.jseq last < seqDist r.jseq last then r :: x :: t else x :: insertJrec last r t
/-- The records a replay takes, in JSEQ order: those lost are not guessed at (08 R227; 01 R33). -/
def replayed (last : Nat) (lost : List (Nat × Nat × Nat)) (l : List JRec) : List JRec :=
  (l.filter (fun r => !lostRecord lost r.jseq && jrecGood r)).foldl (fun t r => insertJrec last r t) []
/-- The Roll restored: image, replay, tag index (computed), SIGSTORE clear, shadows discarded and their handles wiped. -/
def restoreRoll (lost : List (Nat × Nat × Nat)) (s : State) : State :=
  let old := s.roll.shadows.filterMap (fun p => p.2.map (·.keyh))
  let entries := ((replayed (lastJseq s) lost s.roll.backlog).foldl imageRecord s.roll.image).map (fun p =>
    (p.1, { p.2 with sigStore := false, rekeyShadow := false }))
  let s := { s with roll := { s.roll with entries := entries, signature := [], shadows := [], placeRefused := 0 } }
  old.foldl wipeKey s
/-- Accounts whose records are lost read UNVERIFIED with the range lost (01 R33). -/
def markLost (l : List (Nat × Nat × Nat)) (s : State) : State :=
  l.foldl (fun t x => { t with fault := { t.fault with
    unverified := tabSet false t.fault.unverified (x.1 % 8) true
    lost := tabSet 0 t.fault.lost (x.1 % 8) (x.2.1 % 2 ^ 32 * 2 ^ 32 + x.2.2 % 2 ^ 32) } }) s
/-- Every DEFERRED request ends INCOMPLETE (09 R470). -/
def endAllDeferred (s : State) : State := s.tx.deferred.foldl (fun t d => endDeferred d .incomplete t) s

/-- Verdicts of a VI awaiting delivery come back from the journal; those no longer in it are announced as discarded. -/
def restoreHeld (vi : Nat) (s : State) : State :=
  let before := tabGet [] s.verdict.held vi
  let kept := s.verdict.journal.filter (fun h => h.record.vi == vi && before.any (fun k => k.record.vseq == h.record.vseq))
  let gone := before.filter (fun k => !kept.any (fun h => h.record.vseq == k.record.vseq))
  let v := s.verdict
  { s with verdict := { v with
    held := tabSet [] v.held vi (kept.map (fun h =>
      redelivered { h with sent := before.any (fun k => k.record.vseq == h.record.vseq && k.sent) }))
    notices := gone.foldl (fun l h => addNotice vi h.record.vseq h.record.vseq l) v.notices
    cursor := (List.range 4).foldl (fun t c => match kept.head? with
      | some h => if collector s vi c ≠ 0 then tabSet 0 t (4 * vi + c) h.record.vseq else t
      | none => t) v.cursor } }
def restoreVerdicts (s : State) : State := (List.range 16).foldl (fun t vi => restoreHeld vi t) s

/-! ### BOOT to step 6 -/

/-- A flash bank that is not fenced and whose image passes its check. -/
def imageOk (f : BootFacts) (s : State) (b : Nat) : Bool := (if b = 0 then f.imageA else f.imageB) && !isFenced s (unitFlash b)
/-- Step 4: the running bank of a warm BOOT; the bank named in MRAM, or else the other, where its image passes. -/
def bootBank (warm : Bool) (f : BootFacts) (s : State) : Option Nat :=
  let b := s.molfen.selected
  if warm then some s.molfen.bank
  else if imageOk f s b then some b else if imageOk f s (1 - b) then some (1 - b) else none
/-- An image that step 4 of a cold BOOT finds bad fences its bank (15 Table 15.5): the bank named in MRAM, and the other where
it is tried too. -/
def fenceImages (warm : Bool) (f : BootFacts) (s : State) : State :=
  let b := s.molfen.selected
  let bad (k : Nat) (t : State) : State := if imageOk f t k || isFenced t (unitFlash k) then t else failTest (unitFlash k) 0xFFFFFFFF t
  if warm || imageOk f s b then s else if imageOk f s (1 - b) then bad b s else bad (1 - b) (bad b s)
/-- Step 5: the Office pairs that are not fenced start from the bank, one active and one standby. -/
def startPairs (b : Nat) (s : State) : State :=
  let s := { s with molfen := { s.molfen with bank := b } }
  let s := if isFenced s (unitPair 0) then setOffice s 0 .fenced else setOffice s 0 .active
  if isFenced s (unitPair 1) then setOffice s 1 .fenced
  else setOffice s 1 (if s.fault.officeA = .active then .standby else .active)

/-- The copy that a mains loss before step 7 goes back to (02 R48). -/
def savedOf (s : State) : Saved :=
  { mode := s.mode, power := s.power, fault := s.fault, sweep := s.sweep, roll := s.roll, tx := s.tx, cipher := s.cipher
    verdict := s.verdict }
/-- Steps 1 to 6 of Table 2.5 from a transition into BOOT. The inrush limiter is released once the bulk stage has reached
90 % (03 R61). The accounts that a station reads before the first bell 9 are those restored here (DESIGN CHOICE, log entry
58). -/
def startBoot (warm : Bool) (cause : Nat) (f : BootFacts) (s : State) : State :=
  let found := lastJseq s
  let armed := (s.time.bells.filter (fun p => p.2.armed ≠ 0)).map (·.1)
  let s := { s with saved := some (savedOf s) }
  let s := if warm then s else coldClocks s
  let s := { s with mode := { s.mode with bootAtUs := s.time.careUs }
                    power := { s.power with mains := true, inrush := !f.bulkUp, gaspOpen := false } }
  let s := bootUnits warm (transition cause .boot s)
  let s := settleRelays (cancelArmed armed s)
  let s := selfTest warm f s
  match f.fatal.filter (tested warm) with
  | some u =>
    let s := bootFails { unit := u, code := .bist, severity := .minor } s
    takeSnap (match bootBank warm f s with
      | some b => startPairs b s
      | none => s)
  | none =>
    match bootBank warm f s with
    | none => takeSnap (bootFails { unit := unitFlash s.molfen.selected, code := .restore, severity := .major } (fenceImages warm f s))
    | some b =>
      let s := startPairs b (fenceImages warm f s)
      if !f.keyStore then takeSnap (bootFails { unit := unitCaretaker, code := .restore, severity := .major, detail := 1 } s)
      else
        let s := restoreRoll f.lost s
        let s := sealCheck f found s
        let s := if s.mode.exhaustedAtLoss then
            let s := recordTransition .lastGasp .off 0x12 s
            { s with mode := { s.mode with exhaustedAtLoss := false } }
          else s
        let s := restoreVerdicts (endAllDeferred (markLost f.lost s))
        takeSnap (if s.mode.mode = .boot then { s with mode := { s.mode with bootStep := 6 } } else { s with saved := none })

/-! ### Steps 7 and 8 -/

/-- Populated radio and cascade cages enable their lanes; in SAFE those alone that were up before it (02 Table 2.8). -/
def enableLanes (s : State) : State :=
  (List.range 20).foldl (fun t l =>
    if (cageOf t l).present && !(cageOf t l).txDisable && (t.mode.mode ≠ .safe || t.mode.upBeforeSafe.contains l) then
      enableLane l t else t) s
/-- BOOT passes: the journals open, SEALMARK is zeroed, and the module reaches STANDBY, or SAFE where an escalation waits
(02 R45, R53). -/
def passBoot (s : State) : State :=
  let s := { s with saved := none
                    power := { s.power with sealRec := { s.power.sealRec with mark := 0 } } }
  let s := { s with mode := { s.mode with bootStep := 0 } }
  if s.mode.safeAtBoot then enterSafe 0x0E { s with mode := { s.mode with bootStep := 0, safeAtBoot := false, mode := .boot } }
  else
    let s := transition 0x02 .standby s
    let s := { s with mode := { s.mode with fromBoot := true } }
    if s.time.valid then settle (startReceive (enableLanes s))
    else settle { s with mode := { s.mode with causeRef := true } }

/-! ### Commands -/

/-- AUXILIARY_RAIL_VALID (02 R46 steps 1 to 6; 03 R61, R63). -/
def execAuxiliaryRailValid (f : BootFacts) (s : State) : Out :=
  if s.mode.mode = .off then .next (startBoot false 0x01 f s) else .next s
/-- The hold-up store has charged from the bulk stage, which step 2 has brought up (03 R61, R63). -/
def storeCharged (mJ : Nat) (s : State) : State :=
  { s with power := { s.power with holdup := min mJ 65535, inrush := false } }
/-- BOOT_PASS (02 R46, R47): the hold-up store holds mJ; a slow store is recorded. -/
def execBootPass (mJ : Nat) (slow : Bool) (s : State) : Out :=
  if s.mode.mode = .boot ∧ s.mode.bootStep = 6 ∧ 3500 ≤ mJ then
    let s := storeCharged mJ s
    .next (passBoot (if slow then
      refreshCard unitHoldup (errRecord { unit := unitHoldup, code := .holdup, severity := .minor, detail := mJ } s) else s))
  else .next s
/-- HOLDUP_CHARGE_TIMEOUT (02 R47): not 3.5 J by t_m + 10 s. -/
def execHoldupChargeTimeout (mJ : Nat) (s : State) : Out :=
  if s.mode.mode = .boot ∧ s.mode.bootStep = 6 then
    .next (bootFails { unit := unitHoldup, code := .holdup, severity := .major, detail := mJ } (storeCharged mJ s))
  else .next s
/-- MAINS_DIP (03 R68, R76). -/
def execMainsDip (s : State) : Out :=
  if s.power.mains then .next { s with power := { s.power with dips := inc32 s.power.dips } } else .next s
/-- Cause a seal record will carry (03 Table 3.5). -/
def sealCause (s : State) : Nat := if s.mode.mode = .boot then 3 else if s.time.refLost then 2 else 1
/-- A sequence number as MRAM holds it. -/
def seqHeld (n : Nat) : Nat := if 1 ≤ n ∧ n ≤ 0xFFFFFFFE then n else 1
/-- Mains is lost during BOOT before step 7 (02 R48): nothing is written, so all that MRAM holds stands as before the
start, but for the transition itself (02 R50). -/
def lossInBoot (s : State) : State :=
  let m := s.saved.getD (savedOf s)
  let s := { s with
    roll := { m.roll with nextJseq := seqHeld m.roll.nextJseq }
    tx := { m.tx with nextRqid := seqHeld m.tx.nextRqid, rqidReserved := seqHeld m.tx.rqidReserved }
    sweep := { m.sweep with nextDseq := seqHeld m.sweep.nextDseq, dseqReserved := seqHeld m.sweep.dseqReserved }
    fault := { m.fault with nextEseq := seqHeld m.fault.nextEseq }
    cipher := m.cipher, verdict := m.verdict, power := m.power }
  let s := dropTimebase (transition 0x04 .off s)
  { s with
    saved := none
    mode := { s.mode with bootStep := 0, safeAtBoot := m.mode.safeAtBoot, exhaustedAtLoss := m.mode.exhaustedAtLoss }
    fault := { s.fault with major := false, minor := false }
    power := { s.power with mains := false, inrush := true } }
/-- MAINS_LOSS (03 R68, R70 steps 1 to 6). A BOOT whose step 6 is complete is at step 7 (02 R48). -/
def execMainsLoss (s : State) : Out :=
  match s.mode.mode with
  | .off => .next s
  | .boot => if s.mode.bootStep = 6 then .next (lastGasp (sealCause s) { s with saved := none }) else .next (lossInBoot s)
  | .lastGasp => .next { s with power := { s.power with mains := false } }
  | _ => .next (lastGasp (sealCause s) s)
/-- MAINS_LOSS_BEFORE_STEP_7 (02 R48). -/
def execMainsLossBeforeStep7 (s : State) : Out :=
  if s.mode.mode = .boot then .next (lossInBoot s) else .next s
/-- The seal record of 03 Table 3.5 is written last. -/
def writeSeal (energy duration : Nat) (s : State) : State :=
  { s with power := { s.power with
      gaspOpen := false, holdup := s.power.holdup - energy
      sealRec := { mark := sealMark, lossAt := s.power.lossAt, careMs := s.power.lossUs / 1000 % 2 ^ 32, jseq := lastJseq s,
                   accCrc := snapshotCrc s.power.accSnap, energy := energy % 65536, duration := duration % 65536,
                   cause := s.power.lossCause } } }
/-- SEAL_COMPLETE (03 R70 steps 7 and 8; 02 R54): OFF, or a warm BOOT where mains is present. -/
def execSealComplete (mains : Bool) (energy duration : Nat) (f : BootFacts) (s : State) : Out :=
  if s.mode.mode = .lastGasp ∧ s.power.gaspOpen then
    let s := (List.range 20).foldl (fun t l => dropLane l t) s
    if mains then .next (startBoot true 0x0D f (writeSeal energy duration (drainStaging s)))
    else
      let s := writeSeal energy duration (drainStaging (transition 0x0C .off s))
      .next { dropTimebase s with power := { s.power with mains := false, inrush := true } }
  else .next s
/-- HOLDUP_EXHAUSTED (03 R75): OFF without a seal; the next BOOT writes the transition. -/
def execHoldupExhausted (s : State) : Out :=
  if s.mode.mode = .lastGasp ∧ s.power.gaspOpen then
    let s := dropTimebase ((List.range 20).foldl (fun t l => dropLane l t) s)
    .next { s with mode := { s.mode with mode := .off, exhaustedAtLoss := true }
                   power := { s.power with gaspOpen := false, mains := false, inrush := true, holdup := 0 } }
  else .next s
/-- HOLDUP_CAPACITY_TEST (03 R64). The record's DETAIL holds the capacity in mJ (DESIGN CHOICE, log entry 58). -/
def execHoldupCapacityTest (mJ : Nat) (s : State) : Out :=
  if s.mode.mode = .off then .next s
  else
    let s := { s with power := { s.power with capacity := min mJ 65535 } }
    if mJ < 4000 then
      .next (settle (refreshCard unitHoldup (errRecord { unit := unitHoldup, code := .holdup
                                                         severity := if mJ < 3500 then .major else .minor, detail := mJ } s)))
    else .next s
/-- THERMAL_LIMIT (03 R76, R78): what the Caretaker measures. The records name the Caretaker and hold the temperature in
0.1 degree C (DESIGN CHOICE, log entry 58). -/
def execThermalLimit (m : Readings) (junction : Int) (s : State) : Out :=
  if s.mode.mode = .off then .next s
  else
    let s := { s with power := { s.power with
        baseplate := m.base, junction := junction, voltage := min m.voltage 65535, powerDrawn := min m.power 65535
        holdup := min m.holdup 65535 } }
    let s := if 850 < m.base then
        errRecord { unit := unitCaretaker, code := .thermal, severity := .major, detail := ofSigned 32 m.base } s else s
    .next (settle (if 1100 < junction then
      escalateWith { unit := unitCaretaker, code := .thermal, severity := .safe, detail := ofSigned 32 junction } s else s))

end Sys2Proof.Machine
end

