-- ==== Sys2Proof/Machine/ModeCmds.lean ====
section
/-! DEFINITION. The commands of the mode objects (02 R39, R42 to R44, R49, R51, R52, R55; 15 R400). -/

namespace Sys2Proof.Machine

/-! ### SERVICE (02 R49) -/

/-- The module enters SERVICE, or DEGRADED while any reason bit is set. -/
def enterService (s : State) : State :=
  let s := { s with mode := { s.mode with serviceDeferred := false, fromBoot := false } }
  transition 0x05 (if degradedReasons s = 0 then .service else .degraded) s
/-- Whether an entry into SERVICE is wanted: a DEFERRED request, or the start mode after BOOT. -/
def serviceWanted (s : State) : Bool := s.mode.serviceDeferred || (s.mode.fromBoot && setting s 0x2000 4 0 == 3)

/-! ### Mode requests (02 R39) -/

/-- Any write cancels a DEFERRED request; one that is not refused is what 0x2000:05 then holds (00 R12). -/
def cancelDeferred (v : Nat) (s : State) : State :=
  { s with mode := { s.mode with serviceDeferred := false, request := v } }
/-- A request that the current mode has no transition for. -/
def refuseMode (s : State) : State × Status :=
  ({ s with mode := { s.mode with serviceDeferred := false } }, .refused)
/-- STANDBY: from SERVICE or DEGRADED, or from SAFE once every SAFE-causing record is acknowledged. -/
def requestStandby (s : State) : State × Status :=
  match s.mode.mode with
  | .service => (settle (toStandby 0x08 (cancelDeferred 2 s)), .ok)
  | .degraded => (settle (toStandby 0x08 (cancelDeferred 2 s)), .ok)
  | .safe =>
    if s.fault.safeCause.isEmpty then
      let s := cancelDeferred 2 s
      let s := transition 0x0F .standby { s with mode := { s.mode with upBeforeSafe := [], fromBoot := false } }
      let s := if s.time.valid then startReceive (enableLanes s) else { s with mode := { s.mode with causeRef := true } }
      (settle s, .ok)
    else refuseMode s
  | _ => refuseMode s
/-- SERVICE: from STANDBY alone; DEFERRED while a condition of Table 2.6 is unmet. -/
def requestService (s : State) : State × Status :=
  match s.mode.mode with
  | .standby =>
    let s := cancelDeferred 3 s
    if serviceUnmet s = 0 then (settle (enterService s), .ok)
    else ({ s with mode := { s.mode with serviceDeferred := true } }, .deferred)
  | _ => refuseMode s
/-- SAFE: from STANDBY, SERVICE, DEGRADED or SILENT. -/
def requestSafe (s : State) : State × Status :=
  match s.mode.mode with
  | .standby => (settle (enterSafe 0x11 (cancelDeferred 7 s)), .ok)
  | .service => (settle (enterSafe 0x11 (cancelDeferred 7 s)), .ok)
  | .degraded => (settle (enterSafe 0x11 (cancelDeferred 7 s)), .ok)
  | .silent => (settle (enterSafe 0x11 (cancelDeferred 7 s)), .ok)
  | _ => refuseMode s
/-- 0x2000:05. -/
def writeModeRequest (v : Nat) (s : State) : State × Status :=
  if v = 2 then requestStandby s else if v = 3 then requestService s else if v = 7 then requestSafe s else (s, .range)

/-! ### QUIET (02 R42, R43) -/

/-- 0x2000:06. -/
def writeQuiet (v : Nat) (s : State) : State × Status :=
  if v = 1 then (settle (setQuiet s), .ok)
  else (settle { s with mode := { s.mode with causeQuiet := false } }, .ok)

/-! ### Commands -/

/-- MODE_REQUEST_STANDBY (02 R39, R51, R55). -/
def execModeRequestStandby (vi : Fin 16) (s : State) : Out := answered (checkedWrite vi 0x2000 5 0 1 2 requestStandby s)
/-- MODE_REQUEST_SERVICE (02 R39, R49). -/
def execModeRequestService (vi : Fin 16) (s : State) : Out := answered (checkedWrite vi 0x2000 5 0 1 3 requestService s)
/-- MODE_REQUEST_SAFE (02 R39, R52). -/
def execModeRequestSafe (vi : Fin 16) (s : State) : Out := answered (checkedWrite vi 0x2000 5 0 1 7 requestSafe s)
/-- SERVICE_ENTRY (02 R49). -/
def execServiceEntry (s : State) : Out :=
  if s.mode.mode = .standby ∧ serviceUnmet s = 0 ∧ serviceWanted s then .next (settle (enterService s)) else .next s
/-- QUIET_SET (02 R42). -/
def execQuietSet (vi : Fin 16) (s : State) : Out := answered (checkedWrite vi 0x2000 6 0 1 1 (writeQuiet 1) s)
/-- QUIET_RELEASE (02 R43, R44). -/
def execQuietRelease (vi : Fin 16) (s : State) : Out := answered (checkedWrite vi 0x2000 6 0 1 0 (writeQuiet 0) s)
/-- Causes of 15 R400, with the record each one calls for. -/
def escalationBody (cause : Fin 8) : ErrBody :=
  match cause with
  | 0 => { unit := unitCaretaker, code := .handler, severity := .safe }
  | 1 => { unit := unitPair 0, code := .lockstep, severity := .major }
  | 2 => { unit := unitColumn 8, code := .mesh, severity := .minor }
  | 3 => { unit := unitMram, code := .eccUncorr, severity := .minor }
  | 4 => { unit := unitIsland 0, code := .pace, severity := .major }
  | 5 => { unit := unitCaretaker, code := .watchdog, severity := .safe }
  | 6 => { unit := unitCaretaker, code := .thermal, severity := .safe }
  | 7 => { unit := unitDram 0, code := .eccUncorr, severity := .minor }
/-- ESCALATION_TO_SAFE (15 R400, in the order of its list; 7 a DRAM channel): the unit named, the record, and SAFE. -/
def execEscalationToSafe (cause : Fin 8) (unit : Nat) (s : State) : Out :=
  if s.mode.mode = .off then .next s
  else
    let b := { escalationBody cause with unit := unit }
    let s := if cause = 3 ∨ cause = 7 then
        { listFence unit (nextEseq s) s with fault := { (listFence unit (nextEseq s) s).fault with dramFenced := true } } else s
    let s := if cause = 4 then
        { s with pace := { s.pace with islands := tabMod {} s.pace.islands (unit % 256) (fun x => { x with regFault := true }) } } else s
    .next (settle (escalateWith b s))

end Sys2Proof.Machine
end

