-- ==== Sys2Proof/Machine/Flags.lean ====
section
/-! DEFINITION. Rounding, saturation and the sticky flags of a tile, and the CX coprocessor's functions (12 R319 to R322,
R327). -/

namespace Sys2Proof.Machine

/-! ### Saturation (12 R319) -/

/-- Symmetric saturation to w bits: the nearer of the bounds, and whether it was needed. -/
def satSym (w : Nat) (v : Int) : Int × Bool :=
  let m : Int := 2 ^ (w - 1) - 1
  if m < v then (m, true) else if v < -m then (-m, true) else (v, false)
/-- A result of w bits: saturated with SAT, wrapped without. -/
def finish (sat : Bool) (w : Nat) (v : Int) : Int × Bool :=
  if sat then satSym w v else (toSigned w (ofSigned w v), false)
/-- Redundant sign bits of a w-bit value; 0 and -1 count w - 1 (12 R322). -/
def nsb (w : Nat) (v : Int) : Nat :=
  let m := if v < 0 then (-v - 1).toNat else v.toNat
  w - 1 - (if m = 0 then 0 else m.log2 + 1)
/-- An accumulator sum clamps at the 40-bit bound and sets ASAT (12 R321). -/
def clampAcc (v : Int) : Int × Bool := satSym 40 v
/-- Q1.31 product, rounded and saturated (12 Table 12.6 QMUL). -/
def qmul (a b : Int) : Int × Bool := satSym 32 (roundHalfEven (a * b) (2 ^ 31))
/-- a / 2^n, floor. -/
def sra (a : Int) (n : Nat) : Int := a / (2 ^ n : Nat)
/-- a / 2^n, rounded to the even neighbour at a half. -/
def rsra (a : Int) (n : Nat) : Int := roundHalfEven a (2 ^ n)

/-! ### CX functions (12 Table 12.8) -/

/-- Largest n of k bits above r with n * n at most x. -/
def sqrtBits : Nat → Nat → Nat → Nat
  | 0, _, r => r
  | k + 1, x, r => sqrtBits k x (if (r + 2 ^ k) * (r + 2 ^ k) ≤ x then r + 2 ^ k else r)
/-- The deviation the hardware chooses, within a bound (opaque; log entry 22). -/
def deviation (k : Nat) (a b : BitVec 64) (bound : Nat) : Int := clampInt (-(bound : Int)) bound (Config.cxChoice k a b)
def lowHalf (a : BitVec 64) : Int := toSigned 32 (a.toNat % 2 ^ 32)
def highHalf (a : BitVec 64) : Int := toSigned 32 (a.toNat / 2 ^ 32)
def pairOf (lo hi : Int) : BitVec 64 := BitVec.ofNat 64 (ofSigned 32 lo + 2 ^ 32 * ofSigned 32 hi)
/-- A value of 64 bits unsigned, saturated. -/
def u64Of (v : Int) : BitVec 64 × Bool :=
  let c := clampInt 0 (2 ^ 64 - 1) v
  (BitVec.ofNat 64 c.toNat, c ≠ v)

/-- atan(2^-k) / pi in units of 2^-48. -/
def atanSteps : List Int := [
  70368744177664, 41541095341030, 21949173906887, 11141743393723, 5592492416177, 2798972482057, 1399827773520,
  699956601769, 349983640994, 174992488033, 87496327459, 43748174160, 21874088384, 10937044355, 5468522198,
  2734261101, 1367130551, 683565276, 341782638, 170891319, 85445659, 42722830, 21361415, 10680707, 5340354,
  2670177, 1335088, 667544, 333772, 166886, 83443, 41722, 20861, 10430, 5215]
/-- Angle of (x, y) for x >= 0, in 2^-48 of pi. -/
def cordic : List Int → Nat → Int → Int → Int → Int
  | [], _, _, _, z => z
  | a :: t, k, x, y, z =>
    if 0 < y then cordic t (k + 1) (x + sra y k) (y - sra x k) (z + a)
    else cordic t (k + 1) (x - sra y k) (y + sra x k) (z - a)
/-- Phase of I + jQ as a fraction of pi in Q1.31. -/
def phaseOf (i q : Int) : Int :=
  let x := i * 2 ^ 24
  let y := q * 2 ^ 24
  let z := if q = 0 then (if i < 0 then (2 ^ 48 : Int) else 0)
           else if 0 ≤ i then cordic atanSteps 0 x y 0
           else cordic atanSteps 0 (-x) (-y) 0 + (if 0 < q then (2 ^ 48 : Int) else -(2 ^ 48))
  roundHalfEven z (2 ^ 17)
/-- CXPHASE. -/
def cxPhase (a b : BitVec 64) : BitVec 64 × Bool :=
  let i := lowHalf a
  let q := highHalf a
  let m0 := sqrtBits 33 ((i * i + q * q).toNat / 4) 0
  let mag : Int := m0 + deviation 1 a b (m0 / 2 ^ 28 + 1)
  let ph := if i = 0 ∧ q = 0 then (toSigned 32 (ofSigned 32 (Config.cxChoice 0 a b)), false)
            else satSym 32 (phaseOf i q + deviation 0 a b 9)
  (pairOf ph.1 (clampInt 0 (2 ^ 32 - 1) mag), ph.2)
/-- CXDIV. -/
def cxDiv (a b : BitVec 64) : BitVec 64 × Bool :=
  let x := lowHalf a
  let y := highHalf a
  let c := lowHalf b
  let d := highHalf b
  let n := (c * c + d * d).toNat
  if n = 0 then (pairOf (2 ^ 31 - 1) (2 ^ 31 - 1), true)
  else
    let re := satSym 32 (roundHalfEven ((x * c + y * d) * 2 ^ 31) n + deviation 2 a b 2)
    let im := satSym 32 (roundHalfEven ((y * c - x * d) * 2 ^ 31) n + deviation 3 a b 2)
    (pairOf re.1 im.1, re.2 || im.2)
def low32 (a : BitVec 64) : Nat := a.toNat % 2 ^ 32
/-- CXRECIP: exact rounding. -/
def cxRecip (a : BitVec 64) : BitVec 64 × Bool :=
  if low32 a = 0 then (BitVec.allOnes 64, true) else u64Of (roundHalfEven (2 ^ 63) (low32 a))
/-- CXRSQRT. -/
def cxRsqrt (a b : BitVec 64) : BitVec 64 × Bool :=
  if low32 a = 0 then (BitVec.allOnes 64, true)
  else u64Of ((sqrtBits 48 (2 ^ 94 / low32 a) 0 : Nat) + clampInt (-1) 2 (Config.cxChoice 6 a b))
/-- Fraction bits of log2 of m in [2^62, 2^63), by squaring. -/
def logBits : Nat → Nat → Nat → Nat
  | 0, _, r => r
  | n + 1, m, r =>
    let q := m * m / 2 ^ 62
    if 2 ^ 63 ≤ q then logBits n (q / 2) (2 * r + 1) else logBits n q (2 * r)
/-- CXLOG2: log2(x) x 2^27. -/
def cxLog2 (a b : BitVec 64) : BitVec 64 × Bool :=
  let x := low32 a
  if x = 0 then (BitVec.allOnes 64, true)
  else
    let e := x.log2
    let v : Int := (e * 2 ^ 27 + logBits 27 (x * 2 ^ (62 - e)) 0 : Nat)
    (BitVec.ofNat 64 (clampInt 0 (2 ^ 32 - 1) (v + deviation 8 a b 3)).toNat, false)
/-- 2^(f / 2^26) x 2^96, by square roots of 2: c is 2^(2^-k) x 2^96. -/
def expBits : Nat → Nat → Nat → Nat → Nat
  | 0, _, _, r => r
  | n + 1, f, c, r =>
    let c' := sqrtBits 98 (c * 2 ^ 96) 0
    expBits n f c' (if f.testBit n then r * c' / 2 ^ 96 else r)
/-- CXEXP2: 2^y x 2^31, y in Q6.26. -/
def cxExp2 (a b : BitVec 64) : BitVec 64 × Bool :=
  let y := lowHalf a
  let e := y / 2 ^ 26 + 31
  let m := expBits 26 (y % 2 ^ 26).toNat (2 ^ 97) (2 ^ 96)
  let v : Nat := m * 2 ^ e.toNat / 2 ^ 96 / 2 ^ (-e).toNat
  u64Of (v + deviation 10 a b (3 + v / 2 ^ 30))
/-- A CX operation's result and whether it sets CXERR. -/
def cxResult (fn : Nat) (a b : BitVec 64) : BitVec 64 × Bool :=
  match fn with
  | 0 => cxPhase a b
  | 1 => cxDiv a b
  | 2 => cxRecip a
  | 3 => cxRsqrt a b
  | 4 => cxLog2 a b
  | _ => cxExp2 a b

end Sys2Proof.Machine
end

