-- ==== Sys2Proof/Machine/Window.lean ====
section
/-! DEFINITION. The Prefect as a tile meets it: the window of 11 Table 11.4, EMIT, DONE and the frame buffers (11 R300 to
R302; 12 R335). -/

namespace Sys2Proof.Machine

/-! ### The operation in service -/

/-- The operation in service on a tile. -/
def serviceOf (s : State) (t : Nat) : Option OpRec :=
  (findOp s (tileOf s t).curOpseq).filter (fun o => o.stage == .inService && o.punit == t && decide (o.lunit < 48))
def setPstatus (t : Nat) (st : Status) (s : State) : State := modTile s t (fun x => { x with pstatus := st })
/-- Whether a class holds capture keys: some node of the class says so (11 R301). -/
def holdsCaptureKeys (s : State) (cls : Nat) : Bool :=
  s.prefect.nodes.any (fun p => match p.2 with
    | some n => n.cls == cls && n.captureKeys
    | none => false)
/-- The checks of an EMIT in their order (11 R301). -/
def emitCheck (s : State) (o : OpRec) (dest flow buf : Nat) : Status :=
  let n := nodeOf s o.node
  let good := match n, nodeOf s dest with
    | some a, some b => a.succ.contains dest && a.package == b.package
    | _, _ => false
  if !good then .access
  else if 8 ≤ o.emits ∨ (isCaptureKey flow && !holdsCaptureKeys s o.cls) then .range
  else if buf ≠ 0xFFFF ∧ o.held.contains buf = false then .unknown
  else .ok
/-- A token joins those the operation releases at its end; its buffer takes one more reference. -/
def emitInto (o : OpRec) (dest flow arg buf : Nat) (s : State) : State :=
  let s := bufAddRef buf s
  modOp o.opseq (fun x => { x with emits := x.emits + 1
                                   out := x.out ++ [{ flow := flow, dest := dest, arg := arg, buf := buf, from_ := o.node }] }) s
/-- EMIT from a tile (11 R301; R335: UNKNOWN with no operation in service). -/
def emitToken (t : Nat) (s : State) : State :=
  let x := tileOf s t
  let dest := x.emitDst.toNat % 2 ^ 14
  let flow := x.emitDst.toNat / 2 ^ 14 % 65536
  match serviceOf s t with
  | none => setPstatus t .unknown s
  | some o =>
    let st := emitCheck s o dest flow x.emitBuf
    setPstatus t st (if st = .ok then emitInto o dest flow x.emitArg x.emitBuf s else s)
/-- DONE from a tile. -/
def doneOp (t : Nat) (s : State) : State :=
  match serviceOf s t with
  | none => setPstatus t .unknown s
  | some o => completeOp o.opseq (modTile s t (fun x => { x with pstatus := .ok, curOpseq := 0, done := true }))

/-! ### Frame buffers (11 R302) -/

/-- The first free buffer from a handle on, round the pool. -/
def nextFree (refs : Tab Nat) : Nat → Nat → Option Nat
  | 0, _ => none
  | n + 1, h => if tabGet 0 refs (h % 16384) = 0 then some (h % 16384) else nextFree refs n (h + 1)
/-- BUFALLOC: a free buffer, which one is not stated (a free choice, log entry 5), with one reference to the operation. -/
def bufAlloc (t : Nat) (s : State) : State × Nat :=
  match serviceOf s t with
  | none => (s, 0xFFFF)
  | some o =>
    let (r, s) := drawFree s
    match nextFree s.prefect.bufRefs 16384 (r % 16384) with
    | none => (s, 0xFFFF)
    | some h => (pfBump 3 (modOp o.opseq (fun x => { x with held := x.held ++ [h] }) (bufAddRef h s)), h)
/-- BUFFREE: one reference falls, if the handle has any. -/
def bufFree (t h : Nat) (s : State) : State :=
  match serviceOf s t with
  | none => setPstatus t .unknown s
  | some o =>
    if 16384 ≤ h ∨ tabGet 0 s.prefect.bufRefs h = 0 then setPstatus t .unknown s
    else setPstatus t .ok (modOp o.opseq (fun x => { x with held := x.held.erase h }) (bufDrop h s))

/-! ### The window (11 Table 11.4; 12 R338) -/

/-- What a 32-bit read at an offset returns; BUFALLOC changes the state. -/
def windowRead (t off : Nat) (s : State) : State × Word :=
  let x := tileOf s t
  let o := serviceOf s t
  let w (n : Nat) : State × Word := (s, BitVec.ofNat 32 n)
  match off with
  | 0x00 => w ((o.map (·.opseq)).getD 0)
  | 0x04 => w ((o.map (fun r => pack [(14, r.node), (4, r.level), (6, r.cls)])).getD 0)
  | 0x08 => w ((o.map (fun r => pack [(16, r.flow), (16, r.buf)])).getD 0)
  | 0x10 => w ((o.map (fun r => r.arg)).getD 0)
  | 0x14 => w ((o.map (fun r => r.arg / 2 ^ 32)).getD 0)
  | 0x18 => (s, x.emitDst)
  | 0x1C => w x.emitBuf
  | 0x20 => w x.emitArg
  | 0x24 => w (x.emitArg / 2 ^ 32)
  | 0x30 => let r := bufAlloc t s; (r.1, BitVec.ofNat 32 r.2)
  | 0x38 => w (statusCode x.pstatus)
  | 0x3C => w (b2n x.accept)
  | _ => (s, 0)
/-- A 32-bit write at an offset; read-only and reserved offsets ignore it. -/
def windowWrite (t off : Nat) (v : Word) (s : State) : State :=
  let n := v.toNat
  match off with
  | 0x18 => modTile s t (fun x => { x with emitDst := v &&& 0x3FFFFFFF })
  | 0x1C => modTile s t (fun x => { x with emitBuf := n % 65536 })
  | 0x20 => modTile s t (fun x => { x with emitArg := x.emitArg / 2 ^ 32 * 2 ^ 32 + n })
  | 0x24 => modTile s t (fun x => { x with emitArg := n * 2 ^ 32 + x.emitArg % 2 ^ 32 })
  | 0x28 => if n = 1 then emitToken t s else s
  | 0x2C => if n = 1 then doneOp t s else s
  | 0x34 => bufFree t (n % 65536) s
  | 0x3C => modTile s t (fun x => { x with accept := n2b n })
  | _ => s

end Sys2Proof.Machine
end

