-- ==== Sys2Proof/Machine/Operands.lean ====
section
/-! DEFINITION. The operands of a tile: its registers, vector elements, control and status registers, addressing modes and
the regions of its address space (12 R307 to R309, R316 to R318, R338). -/

namespace Sys2Proof.Machine

/-! ### Registers (12 Table 12.1) -/

def sReg (x : Tile) (n : Nat) : Word := if n = 0 then 0 else tabGet 0 x.s n
/-- A write to s0 is discarded. -/
def setS (n : Nat) (v : Word) (x : Tile) : Tile := if n = 0 then x else { x with s := tabSet 0 x.s n v }
def pReg (x : Tile) (n : Nat) : Word := tabGet 0 x.p n
def setP (n : Nat) (v : Word) (x : Tile) : Tile := { x with p := tabSet 0 x.p n v }
def mReg (x : Tile) (n : Nat) : Word := tabGet 0 x.m n
def setM (n : Nat) (v : Word) (x : Tile) : Tile := { x with m := tabSet 0 x.m n v }
/-- Physical register behind a logical vector register (12 R325). -/
def physV (x : Tile) (n : Nat) : Nat := if n < 16 then n else 16 + (n - 16 + x.rrb.toNat) % 16
def vReg (x : Tile) (n : Nat) : Vec := tabGet 0 x.v (physV x n)
/-- Write under the rotation in force when the bundle issued. -/
def setV (phys : Nat) (v : Vec) (x : Tile) : Tile := { x with v := tabSet 0 x.v phys v }
def accLane (x : Tile) (a j : Nat) : Int := tabGet 0 x.acc (8 * a + j)
def setAcc (a j : Nat) (v : Int) (x : Tile) : Tile := { x with acc := tabSet 0 x.acc (8 * a + j) v }
def cReg (x : Tile) (n : Nat) : BitVec 64 := tabGet 0 x.c n
def setC (n : Nat) (v : BitVec 64) (x : Tile) : Tile := { x with c := tabSet 0 x.c n v }
/-- Keys for the rule that no two operations of a bundle write one register (12 R311). -/
def keyS (n : Nat) : Nat := n
def keyP (n : Nat) : Nat := 32 + n
def keyM (n : Nat) : Nat := 40 + n
def keyV (n : Nat) : Nat := 48 + n
def keyA (n : Nat) : Nat := 80 + n
def keyC (n : Nat) : Nat := 84 + n
def keyCsr (n : Nat) : Nat := 128 + n
def keyFfm : Nat := keyCsr 0x018
def keyBexp : Nat := keyCsr 0x019

/-! ### Elements (12 R318) -/

/-- Width and count of the elements of an EW code. -/
def ewWidth (ew : Nat) : Nat := match ew with | 1 => 32 | 2 => 8 | _ => 16
def ewCount (ew : Nat) : Nat := match ew with | 0 => 8 | 2 => 16 | _ => 4
/-- Elements as signed numbers, element 0 lowest. -/
def elems (ew : Nat) (v : Vec) : List Int :=
  (List.range (ewCount ew)).map (fun i => toSigned (ewWidth ew) (v.toNat >>> (ewWidth ew * i)))
/-- Elements packed, the rest of the register as it was under EW 3. -/
def packElems (ew : Nat) (l : List Int) (old : Vec) : Vec :=
  let n := pack (l.map (fun e => (ewWidth ew, ofSigned (ewWidth ew) e)))
  BitVec.ofNat 128 (if ew = 3 then n + old.toNat / 2 ^ 64 * 2 ^ 64 else n)

/-! ### Control and status registers (12 R308, Tables 12.2, 12.3) -/

def statusWord (x : Tile) : Nat :=
  b2n x.task + 2 * b2n x.ptask + 4 * b2n x.cxeh + 8 * b2n x.cxet + 16 * b2n x.tglobal + 32 * b2n x.asat + 64 * b2n x.vsat
def lctlWord (x : Tile) : Nat := pack [(1, b2n x.l0.act), (1, b2n x.l1.act), (2, x.l0.rot.toNat), (2, x.l1.rot.toNat)]
def cxsbWord (x : Tile) : Nat := (bitsOr (x.cx.map (·.cd))) + 256 * b2n x.cxerr
where bitsOr (l : List Nat) : Nat := (List.range 8).foldl (fun m k => if l.contains k then m + 2 ^ k else m) 0
def csrExists (n : Nat) : Bool :=
  [0x000, 0x001, 0x002, 0x003, 0x004, 0x005, 0x008, 0x009, 0x00A, 0x010, 0x011, 0x012, 0x013, 0x014, 0x015, 0x016, 0x017,
   0x018, 0x019, 0x01A, 0x020, 0x021, 0x030].contains n
/-- Marked Host only. -/
def csrHostOnly (n : Nat) : Bool := [0x001, 0x002, 0x003, 0x004, 0x005, 0x008, 0x009, 0x00A].contains n
/-- Writable at Task level. -/
def csrTaskWrites (n : Nat) : Bool := [0x017, 0x018, 0x019].contains n
def csrRead (t : Nat) (x : Tile) (n : Nat) : Word :=
  match n with
  | 0x000 => BitVec.ofNat 32 (statusWord x)
  | 0x001 => x.tvec
  | 0x002 => x.tcause
  | 0x003 => x.tpc
  | 0x004 => x.taddr
  | 0x005 => x.tstat
  | 0x008 => x.tbase
  | 0x009 => x.tlimit
  | 0x00A => x.gseg
  | 0x010 => x.l0.start
  | 0x011 => x.l0.end_
  | 0x012 => x.l0.count
  | 0x013 => x.l1.start
  | 0x014 => x.l1.end_
  | 0x015 => x.l1.count
  | 0x016 => BitVec.ofNat 32 (lctlWord x)
  | 0x017 => x.rrb.setWidth 32
  | 0x018 => x.ffm.setWidth 32
  | 0x019 => BitVec.ofNat 32 x.bexp
  | 0x01A => BitVec.ofNat 32 (cxsbWord x)
  | 0x020 => BitVec.ofNat 32 x.bundles
  | 0x021 => BitVec.ofNat 32 (x.bundles / 2 ^ 32)
  | 0x030 => BitVec.ofNat 32 (t + 256 * x.logical)
  | _ => 0
def csrWrite (n : Nat) (v : Word) (x : Tile) : Tile :=
  let b (i : Nat) : Bool := v.getLsbD i
  match n with
  | 0x000 => { x with ptask := b 1, cxeh := b 2, cxet := b 3, tglobal := b 4, asat := x.asat && !b 5, vsat := x.vsat && !b 6 }
  | 0x001 => { x with tvec := v &&& 0xFFFFFFF0 }
  | 0x002 => { x with tcause := v &&& 0xFFFF }
  | 0x003 => { x with tpc := v &&& 0xFFFFFFF0 }
  | 0x004 => { x with taddr := v }
  | 0x005 => { x with tstat := v }
  | 0x008 => { x with tbase := v &&& 0xFFFFFFF0 }
  | 0x009 => { x with tlimit := v &&& 0xFFFFFFF0 }
  | 0x00A => { x with gseg := v &&& 0x3FF }
  | 0x010 => { x with l0 := { x.l0 with start := v } }
  | 0x011 => { x with l0 := { x.l0 with end_ := v } }
  | 0x012 => { x with l0 := { x.l0 with count := v } }
  | 0x013 => { x with l1 := { x.l1 with start := v } }
  | 0x014 => { x with l1 := { x.l1 with end_ := v } }
  | 0x015 => { x with l1 := { x.l1 with count := v } }
  | 0x016 => { x with l0 := { x.l0 with act := b 0, rot := (v >>> 2).setWidth 2 }
                      l1 := { x.l1 with act := b 1, rot := (v >>> 4).setWidth 2 } }
  | 0x017 => { x with rrb := v.setWidth 4 }
  | 0x018 => { x with ffm := v.setWidth 8 }
  | 0x019 => { x with bexp := 31 }
  | 0x01A => { x with cxerr := false }
  | _ => x

/-! ### Addressing modes (12 R316, Table 12.7) -/

def signExt16 (f : BitVec 16) : Word := f.signExtend 32
/-- Modes 2 and 3 name an m register and keep bits 12:0 zero. -/
def amLegal (am : Nat) (f : BitVec 16) : Bool := decide (am < 2) || f.toNat % 2 ^ 13 == 0
def amAddr (x : Tile) (p am : Nat) (f : BitVec 16) : Word :=
  match am with
  | 0 => pReg x p + signExt16 f
  | 3 => pReg x p + mReg x (f.toNat / 2 ^ 13)
  | _ => pReg x p
def amPosts (am : Nat) : Bool := am == 1 || am == 2
def amPointer (x : Tile) (p am : Nat) (f : BitVec 16) : Word :=
  match am with
  | 1 => pReg x p + signExt16 f
  | 2 => pReg x p + mReg x (f.toNat / 2 ^ 13)
  | _ => pReg x p
/-- The pointer's post-modify. -/
def postModify (pre : Tile) (p am : Nat) (f : BitVec 16) (x : Tile) : Tile :=
  if amPosts am then setP p (amPointer pre p am f) x else x

/-! ### Regions (12 R331, Table 12.10) -/

inductive Region where
  | imem | dmem | window | mesh
  deriving DecidableEq, Repr
/-- The region an access of n bytes lies wholly in, open to the current level; the Prefect window takes 32-bit accesses. -/
def regionOf (x : Tile) (addr n : Nat) : Option Region :=
  if addr + n ≤ 0x10000 then (if x.task then none else some .imem)
  else if 0x100000 ≤ addr ∧ addr + n ≤ 0x140000 then
    (if x.task && !(decide (x.tbase.toNat ≤ addr) && decide (addr + n ≤ x.tlimit.toNat)) then none else some .dmem)
  else if 0x200000 ≤ addr ∧ addr + n ≤ 0x200100 then
    (if x.task && addr == 0x20003C then none else some .window)
  else if 0x40000000 ≤ addr ∧ addr + n ≤ 0x80000000 then
    (if x.task && !x.tglobal then none else some .mesh)
  else none
/-- Global address behind the mesh window. -/
def globalOf (x : Tile) (addr : Nat) : Nat := (x.gseg.toNat * 2 ^ 30 + (addr - 0x40000000)) % 2 ^ 40

/-! ### Local memories (12 R338, R340) -/

def localByte (x : Tile) (a : Nat) : BitVec 8 := if a < 0x10000 then memByte x.imem a else memByte x.dmem a
def localBytes (x : Tile) (a n : Nat) : List (BitVec 8) := (List.range n).map (fun i => localByte x (a + i))
def localPut (a : Nat) (b : BitVec 8) (x : Tile) : Tile :=
  if a < 0x10000 then { x with imem := memPut x.imem a b } else { x with dmem := memPut x.dmem a b }
def localPoison (x : Tile) (a n : Nat) : Bool := (wordsOf a n).any (fun w => tabGet false x.poison w)

end Sys2Proof.Machine
end

