-- ==== Sys2Proof/Machine/TileOps.lean ====
section
/-! DEFINITION. A tile's bundle: traps and entry to Host, loops, memory accesses, and the issue of one bundle (12 R310,
R311, R323 to R340). -/

namespace Sys2Proof.Machine

/-! ### Traps (12 R333 to R337) -/

/-- A trap cause: code of Table 12.9 (its priority too), slot, TADDR, and the memory status. -/
structure Trap where
  code : Nat
  slot : Nat := 0
  addr : Word := 0
  status : Status := .ok
  /-- a local word holds an uncorrectable error -/
  ecc : Bool := false
  deriving DecidableEq, Repr
/-- The trap of the highest priority; at equal priority the lowest slot, which stands first. -/
def worstTrap : List Trap → Option Trap
  | [] => none
  | x :: t => match worstTrap t with
    | some y => if y.code < x.code then some y else some x
    | none => some x
/-- TCAUSE at an entry to Host (12 Table 12.2). -/
def tcauseWord (code slot : Nat) (task : Bool) (st : Status) : Word :=
  BitVec.ofNat 32 (pack [(5, code), (2, slot), (1, b2n task), (8, statusCode st)])
/-- Entry to Host (12 R334), by a trap or STOP kept in 0x8040:03, or by YIELD: the pending CX results land first and are lost with the c registers (R329). -/
def enterHost (t : Nat) (w : Trap) (tpc : Word) (s : State) : State :=
  undefineCx t (modTile s t (fun x => { x with
    tcause := tcauseWord w.code w.slot x.task w.status, tpc := tpc, taddr := w.addr
    lastTrap := if w.code = 0 then x.lastTrap
                else bodyOf [(4, (tcauseWord w.code w.slot x.task w.status).toNat), (4, tpc.toNat), (4, w.addr.toNat),
                             (4, x.tstat.toNat)]
    ptask := x.task, task := false, tstate := .host, pc := x.tvec, cx := [], waiting := false }))
/-- The operation in service leaves the tile TRAPPED (12 R335; 11 R301). -/
def trapService (t : Nat) (s : State) : State :=
  match serviceOf s t with
  | some o => trapOp o.opseq (modTile s t (fun x => { x with curOpseq := 0 }))
  | none => modTile s t (fun x => { x with curOpseq := 0 })
def countTrap (t code : Nat) (s : State) : State :=
  let c := cardOf s (unitTile t)
  let s := setCard s (unitTile t) { c with events := (c.events + 1) % 65536 }
  modTile s t (fun x => { x with traps := bump x.traps code })
/-- STOP (12 R337): taken after the bundle in progress, so the tile resumes at its next bundle. -/
def takeStop (t : Nat) (s : State) : State :=
  let x := tileOf s t
  if x.tstate = .host ∨ x.tstate = .task then
    let s := enterHost t { code := 0x0F } x.pc (countTrap t 0x0F s)
    releasePassesOfNode t (trapService t s)
  else s
/-- An uncorrectable word in a tile's memories has its record and fences the tile (15 Tables 15.4, 15.5). -/
def fenceEcc (t : Nat) (addr : Word) (s : State) : State :=
  let n := nextEseq s
  settle (fenceTile t n (errRecord { unit := unitTile t, code := .eccUncorr, severity := .minor, status := .poison,
                                     addr := 2 ^ 33 * t + addr.toNat, open_ := staysOpen s (unitTile t) } s))
/-- A trap is taken: Task level ends the operation and enters Host; Host level halts the tile, which is recorded and
fenced (R334 to R336). -/
def takeTrap (t : Nat) (w : Trap) (s : State) : State :=
  let x := tileOf s t
  let s := enterHost t w x.pc (countTrap t w.code s)
  let s := releasePassesOfNode t (trapService t s)
  if x.task then (if w.ecc then fenceEcc t w.addr s else s)
  else
    let s := modTile s t (fun y => { y with tstate := .halted })
    let s := if w.ecc then errRecord { unit := unitTile t, code := .eccUncorr, severity := .minor, status := .poison,
                                       addr := 2 ^ 33 * t + w.addr.toNat } s else s
    let n := nextEseq s
    let d := (tcauseWord w.code w.slot false w.status).toNat + 65536 * (x.pc.toNat % 65536)
    settle (fenceTile t n (errRecord { unit := unitTile t, code := .hostTrap, severity := .minor, status := w.status,
                                       addr := w.addr.toNat, detail := d, open_ := staysOpen s (unitTile t) } s))

/-! ### Loops (12 R324 to R326) -/

def pc16 (x : Tile) (k : Nat) : Word := x.pc + BitVec.ofNat 32 (16 * k)
/-- The bundle at pc is the LEND bundle of an active loop. -/
def atLend (x : Tile) : Bool := (x.l0.act && x.l0.end_ == x.pc) || (x.l1.act && x.l1.end_ == x.pc)
def inBody (l : HwLoop) (a : Word) : Bool := decide (l.start.toNat ≤ a.toNat) && decide (a.toNat ≤ l.end_.toNat)
/-- RRB after one iteration. -/
def rotate (x : Tile) (rot : BitVec 2) : BitVec 4 :=
  match rot.toNat with
  | 0 => x.rrb
  | k => x.rrb - BitVec.ofNat 4 (2 ^ (k - 1))
/-- One iteration of a loop ends (12 R325). -/
def endIteration (level : Bool) (x : Tile) : Tile :=
  let l := if level then x.l1 else x.l0
  let n := l.count - 1
  let l' : HwLoop := { l with count := n, act := n ≠ 0 }
  let y : Tile := { x with rrb := rotate x l.rot, pc := if n = 0 then l.end_ + 16 else l.start }
  if level then { y with l1 := l' } else { y with l0 := l' }
/-- The next bundle after one without a taken branch, seen from the pc it issued at. -/
def advance (pre : Tile) (x : Tile) : Tile :=
  if pre.l0.act && pre.l0.end_ == pre.pc then endIteration false x
  else if pre.l1.act && pre.l1.end_ == pre.pc then endIteration true x
  else { x with pc := pc16 pre 1 }
/-- A taken branch: loops it leaves become inactive, an L1 body taking L0 with it. -/
def branchTo (pre : Tile) (target : Word) (x : Tile) : Tile :=
  let left (l : HwLoop) : Bool := l.act && inBody l pre.pc && !inBody l target
  let out1 := left pre.l1
  let out0 := left pre.l0 || out1
  { x with
    pc := target
    l0 := if out0 then { x.l0 with act := false } else x.l0
    l1 := if out1 then { x.l1 with act := false } else x.l1 }

/-! ### Memory accesses of the M slot (12 R317, R323, R331, R338 to R340) -/

/-- What an access finds: the state after it, its trap, the bytes read, and how many elements were good. -/
structure Access where
  state : State
  trap : Option Trap := none
  bytes : List (BitVec 8) := []
  good : Nat := 0
def tileIdentity (t : Nat) : Nat := identityOf t 0
def accessTrap (slot : Nat) (a : Word) : Trap := { code := 7, slot := slot, addr := a }
def memFault (a : Word) (st : Status) (ecc : Bool) : Trap := { code := 8, slot := 3, addr := a, status := st, ecc := ecc }
/-- A load through the mesh window; `resp` is a response that came back TIMEOUT, its TID quarantined (13 R353), or POISON
instead of the target's. -/
def meshLoad (t g n : Nat) (resp : Option Status) (s : State) : State × Status × List (BitVec 8) :=
  match resp with
  | some .timeout =>
    let (tid, s) := chooseTid (tileIdentity t) s
    let s := passRequest { addr := g, init := tileIdentity t, tid := tid, type := 0, len := n - 1 } true s
    ({ s with mesh := { s.mesh with timeouts := bump s.mesh.timeouts t
                                    quarantine := s.mesh.quarantine ++ [(tileIdentity t, tid)] } }, .timeout, [])
  | some .poison => let r := readSplit (tileIdentity t) g n s; (r.1, .poison, [])
  | _ => readSplit (tileIdentity t) g n s
/-- A load of n bytes at a local address, its alignment checked before. -/
def loadBytes (t : Nat) (a : Word) (n : Nat) (scalar : Bool) (resp : Option Status) (s : State) : Access :=
  let x := tileOf s t
  match regionOf x a.toNat n with
  | none => { state := s, trap := some (accessTrap 3 a) }
  | some .window =>
    if scalar && n == 4 then
      let r := windowRead t (a.toNat - 0x200000) s
      { state := r.1, bytes := (octetsLE 4 r.2.toNat).map (BitVec.ofNat 8), good := 1 }
    else { state := s, trap := some (accessTrap 3 a) }
  | some .mesh =>
    let r := meshLoad t (globalOf x a.toNat) n resp s
    if r.2.1 = .ok then { state := r.1, bytes := r.2.2, good := 1 }
    else { state := r.1, trap := some (memFault a r.2.1 false) }
  | _ =>
    if localPoison x a.toNat n then { state := s, trap := some (memFault a .poison true) }
    else { state := s, bytes := localBytes x a.toNat n, good := 1 }
/-- A first-fault load: elements of w bytes in ascending order up to the first bad one (12 R323); an uncorrectable word
found there has its record and fences the tile all the same (15 R397, Table 15.5). -/
def loadFirst (t w : Nat) (resp : Option Status) : Nat → Nat → Word → State → Access
  | 0, _, _, s => { state := s }
  | n + 1, i, a, s =>
    let r := loadBytes t a w false (if i = 0 then resp else none) s
    match r.trap with
    | some w => if i = 0 then r else { state := if w.ecc then fenceEcc t w.addr r.state else r.state, trap := none }
    | none =>
      let q := loadFirst t w resp n (i + 1) (a + BitVec.ofNat 32 w) r.state
      { state := q.state, bytes := r.bytes ++ q.bytes, good := q.good + 1 }

/-- Runs of bytes with their enables: what a store writes. -/
abbrev Run := Nat × List (BitVec 8)
/-- Split runs at 256-byte boundaries of the global space, for the packets of a posted store. -/
def splitRun (r : Run) : List Run :=
  let k := 256 - r.1 % 256
  if r.2.length ≤ k then [r] else [(r.1, r.2.take k), (r.1 + k, r.2.drop k)]
/-- Local words that a store covers only in part. -/
def covers (runs : List Run) (a : Nat) : Bool := runs.any (fun r => decide (r.1 ≤ a ∧ a < r.1 + r.2.length))
def storeWords (runs : List Run) : List Nat := (runs.flatMap (fun r => wordsOf r.1 r.2.length)).dedup
def wholeWord (runs : List Run) (w : Nat) : Bool := (List.range 8).all (fun i => covers runs (8 * w + i))
/-- A local store: poison refuses a partial word, and a whole word clears it (15 R392). -/
def storeLocal (t : Nat) (a : Word) (runs : List Run) (s : State) : Access :=
  let x := tileOf s t
  let ws := storeWords runs
  if ws.any (fun w => tabGet false x.poison w && !wholeWord runs w) then
    { state := s, trap := some (memFault a .poison true) }
  else
    let cleared := ws.filter (fun w => tabGet false x.poison w)
    let x := cleared.foldl (fun y w => { y with poison := tabSet false y.poison w false }) x
    let x := runs.foldl (fun y r => (r.2.foldl (fun (z : Tile × Nat) b => (localPut z.2 b z.1, z.2 + 1)) (y, r.1)).1) x
    { state := { setTile s t x with fault := { s.fault with
        poisonCleared := (s.fault.poisonCleared + cleared.length) % 2 ^ 32 } } }
/-- One posted store: it reaches its target, and its response is on its way (12 R339). -/
def postStore (t : Nat) (r : Run) (s : State) : State :=
  let who := tileIdentity t
  let (tid, s) := chooseTid who s
  let f : Flit := { addr := r.1, init := who, tid := tid, type := 1, len := r.2.length - 1 }
  let s := passRequest f true s
  let (s, st) := serveWrite who r.1 r.2 s
  let s := modTile s t (fun x => { x with posted := x.posted + 1 })
  { s with mesh := { s.mesh with
      outstanding := s.mesh.outstanding ++ [(who, tid, false)]
      responses := s.mesh.responses ++ [⟨who, tid, r.1, r.2.length - 1, false, st, []⟩] } }
/-- Packets a store through the mesh window issues. -/
def meshRuns (x : Tile) (runs : List Run) : List Run := runs.flatMap (fun r => splitRun (globalOf x r.1, r.2))
/-- A store of bytes at a local address, in runs. -/
def storeBytes (t : Nat) (a : Word) (n : Nat) (scalar : Bool) (runs : List Run) (s : State) : Access :=
  let x := tileOf s t
  match regionOf x a.toNat n with
  | none => { state := s, trap := some (accessTrap 3 a) }
  | some .window =>
    if scalar && n == 4 then
      { state := windowWrite t (a.toNat - 0x200000) (BitVec.ofNat 32 (valueLE (runs.flatMap (·.2)))) s }
    else { state := s, trap := some (accessTrap 3 a) }
  | some .mesh => { state := (meshRuns x runs).foldl (fun u r => postStore t r u) s }
  | _ => storeLocal t a runs s

/-- A store of some elements only (12 R323): what it accesses runs from its first to its last element. -/
def storeMasked (t : Nat) (a : Word) (span : Nat × Nat) (runs : List Run) (s : State) : Access :=
  let x := tileOf s t
  if span.2 = 0 then { state := s }
  else match regionOf x span.1 span.2 with
  | none => { state := s, trap := some (accessTrap 3 a) }
  | some .window => { state := s, trap := some (accessTrap 3 a) }
  | some .mesh => { state := (meshRuns x runs).foldl (fun u r => postStore t r u) s }
  | _ => storeLocal t a runs s

/-! ### Slots and the bundle (12 R310, R311, R315) -/

/-- What one slot of a bundle does. -/
structure SlotAct where
  /-- the encoding is excluded by a rule of the chapter (12 R315) -/
  illegal : Bool := false
  /-- keys of the registers it writes -/
  dst : List Nat := []
  /-- it cannot issue yet (12 R328, R339) -/
  waits : State → Tile → Bool := fun _ _ => false
  /-- causes of priority 3 to 7 that do not touch a memory -/
  traps : State → Tile → List Trap := fun _ _ => []
  /-- the memory access of the M slot -/
  access : State → Access := fun s => { state := s }
  /-- its writes to registers, its sources read from the tile before the bundle -/
  run : Tile → Access → Tile → Tile := fun _ _ x => x
  /-- a taken branch -/
  jump : Tile → Option Word := fun _ => none
  /-- what follows the whole bundle -/
  after : State → State → State := fun _ s => s
def nopAct : SlotAct := {}

/-- Two operations of a bundle write one register; s0 is exempt. -/
def clash : List (List Nat) → Bool
  | [] => false
  | l :: t => (l.any (fun k => k ≠ 0 && t.any (fun m => m.contains k))) || clash t
def cxTrap (x : Tile) (slot : Nat) : List Trap :=
  if (if x.task then x.cxet else x.cxeh) then [] else [{ code := 4, slot := slot }]
def privTrap (x : Tile) (slot : Nat) : List Trap := if x.task then [{ code := 3, slot := slot }] else []
/-- A taken branch in the LEND bundle of an active loop. -/
def branchTrap (x : Tile) (j : Option Word) : List Trap := if j.isSome && atLend x then [{ code := 5, slot := 0 }] else []
/-- FETCH: outside instruction memory, or an uncorrectable error in the bundle. -/
def fetchTrap (x : Tile) : Option Trap :=
  if ¬(x.pc.toNat + 16 ≤ 0x10000) then some { code := 1, addr := x.pc }
  else if localPoison x x.pc.toNat 16 then some { code := 1, addr := x.pc, ecc := true }
  else none
/-- The first slot that does not decode or is excluded; then two writers of one register. -/
def illegalTrap (acts : List (Option SlotAct)) : Option Trap :=
  match (acts.zipIdx).find? (fun p => match p.1 with
    | some a => a.illegal
    | none => true) with
  | some p => some { code := 2, slot := p.2 }
  | none =>
    if clash (acts.filterMap (fun a => a.map (·.dst))) then
      some { code := 2, slot := ((acts.zipIdx).findIdx (fun p => match p.1 with
        | some a => a.dst.any (fun k => k ≠ 0 && (acts.zipIdx).any (fun q => q.2 ≠ p.2 && match q.1 with
            | some b => b.dst.contains k
            | none => false))
        | none => false)) }
    else none
/-- Whether a tile executes. -/
def tileRuns (s : State) (t : Nat) : Bool :=
  let x := tileOf s t
  (x.tstate == .host || x.tstate == .task) && !x.waiting && (domainOf s t).dstate ≠ .sleep && (domainOf s t).dstate ≠ .recess

/-- A bundle issued is counted: BUNDLES (12 Table 12.2), and the count that 0x8040:04 reads. -/
def countBundle (z : Tile) : Tile :=
  { z with bundles := (z.bundles + 1) % 2 ^ 64, bundlesAll := (z.bundlesAll + 1) % 2 ^ 48 }
/-- What the issue of a bundle comes to. -/
inductive Issue where
  | stalled
  | trapped (s : State)
  | done (s : State)
/-- One bundle issues on a tile (12 R310, R311, R315, R325, R333). -/
def issue (t : Nat) (acts : List (Option SlotAct)) (s : State) : Issue :=
  if !tileRuns s t then .stalled
  else
    let x := tileOf s t
    match fetchTrap x with
    | some w => .trapped (takeTrap t w s)
    | none => match illegalTrap acts with
      | some w => .trapped (takeTrap t w s)
      | none =>
        let l := acts.filterMap id
        let jump := l.findSome? (fun a => a.jump x)
        match worstTrap (l.flatMap (fun a => a.traps s x) ++ branchTrap x jump) with
        | some w => .trapped (takeTrap t w s)
        | none =>
          if l.any (fun a => a.waits s x) then .stalled
          else
            let m := l.foldl (fun (r : Access) a => match r.trap with
              | some _ => r
              | none =>
                let q := a.access r.state
                if q.trap.isSome ∨ q.bytes ≠ [] then q else { q with bytes := r.bytes, good := max q.good r.good })
              { state := s }
            match m.trap with
            | some w => .trapped (takeTrap t w m.state)
            | none =>
              let y := tileOf m.state t
              let z := l.foldl (fun u a => a.run x m u) y
              let z := match jump with
                | some j => branchTo x j z
                | none => advance x z
              let s' := setTile m.state t (countBundle z)
              .done (l.foldl (fun u a => a.after s u) s')
/-- The state an issue leaves; a bundle that waits changes nothing. -/
def issued (s : State) : Issue → State
  | .stalled => s
  | .trapped u => u
  | .done u => u

end Sys2Proof.Machine
end

