-- ==== Sys2Proof/Machine/Prefect.lean ====
section
/-! DEFINITION. The commands of the Prefect: tokens, dispatch, the tile's window, the dispatch map and substitution (11;
15 R402). -/

namespace Sys2Proof.Machine

/-! ### Tokens (11 R289, R290) -/

/-- TOKEN_ARRIVAL (11 R290): a token raised at a port. Ports below 200 have configured keys; 200 and 201 take the key of
the capture, 202 to 255 what the Office supplies. -/
def execTokenArrival (port : Fin 256) (flow arg : Nat) (s : State) : Out :=
  .next (if port.val < 200 then raisePort port arg s
         else if port.val < 202 then raiseToken port (0xF000 + flow % 4096) arg s
         else raiseToken port (flow % 65536) arg s)

/-! ### Dispatch (11 R293, R294) -/

/-- The logical unit served by a free physical unit: tiles 0 to 51, Decoder units 52 to 59. -/
def freeUnit (s : State) (u : Nat) : Option Nat :=
  let up := (domainOf s u).dstate == .run && (domainOf s u).port == .opened
  if u < 52 then
    let x := tileOf s u
    if up && x.tstate == .host && x.accept && x.waiting then logicalOfTile s u else none
  else
    let d := u - 52
    if up && !isFenced s (unitDecoder d) && !s.prefect.ops.any (fun o => o.stage == .inService && decide (48 ≤ o.lunit) && o.punit == d)
    then logicalOfDecoder s d else none
/-- The operation the unit takes: READY, admitted, unblocked, of the lowest level, the earliest of it. -/
def chooseOp (s : State) (l : Nat) : Option OpRec :=
  let ok := s.prefect.ops.filter (fun o => o.stage == .ready && blockCause s o == 0 && (match nodeOf s o.node with
    | some n => (targetsOf n).contains l
    | none => false))
  let low := ok.foldl (fun m o => min m o.level) 16
  ok.find? (fun o => o.level == low)
/-- The operation goes into service; an ordered class gives it its position. -/
def serve (o : OpRec) (l p : Nat) (s : State) : State :=
  let pos := tabGet 0 s.prefect.nextOrd o.cls
  let ordered := runsInOrder s o
  let s := modOp o.opseq (fun x => { x with stage := .inService, lunit := l, punit := p, ordpos := if ordered then pos else 0 }) s
  let s := if ordered then
      { s with prefect := { s.prefect with nextOrd := tabSet 0 s.prefect.nextOrd o.cls ((pos + 1) % 1024) } } else s
  noteBlocks (trace 1 o.opseq o.level o.node p o.flow s)
/-- WAITOP completes: CUR_OPSEQ goes to sd and the window shows the operation (12 R332). -/
def completeWaitop (t opseq : Nat) (s : State) : State :=
  let s := modTile s t (fun x => setS x.waitSd (BitVec.ofNat 32 opseq)
    { x with waiting := false, curOpseq := opseq, done := false })
  castVote t 4 true s
/-- DISPATCH (11 R293): physical unit u is free. -/
def execDispatch (u : Fin 60) (s : State) : Out :=
  match freeUnit s u with
  | none => .next s
  | some l =>
    if drained s l then .next s
    else match chooseOp s l with
      | none => .next s
      | some o => if u.val < 52 then .next (completeWaitop u o.opseq (serve o l u s)) else .next (serve o l (u - 52) s)

/-! ### The tile's window (11 R300 to R302) -/

/-- A command of profile code needs a tile that executes. -/
def onTile (t : Nat) (s : State) (f : State → State) : Out := if tileRuns s t then .next (f s) else .next s
/-- EMIT (11 R301): the token held in 0x18 to 0x20 is emitted. -/
def execEmit (t : Fin 52) (s : State) : Out := onTile t s (emitToken t)
/-- DONE (11 R301). -/
def execDone (t : Fin 52) (s : State) : Out := onTile t s (doneOp t)
/-- BUFALLOC (11 R302): the handle read is the answer. -/
def execBufalloc (t : Fin 52) (s : State) : Out := onTile t s (fun u => let r := bufAlloc t u; answerOf .ok r.2 r.1)
/-- BUFFREE (11 R302). -/
def execBuffree (t : Fin 52) (h : Nat) (s : State) : Out := onTile t s (bufFree t (h % 65536))
/-- HOSTCTL_WRITE (11 R300): ACCESS at Task level. -/
def execHostctlWrite (t : Fin 52) (v : Word) (s : State) : Out :=
  if !tileRuns s t then .next s
  else if (tileOf s t).task then .next (answering .access s)
  else .next (answering .ok (windowWrite t 0x3C v s))
/-- ACCEL_OPERATION_DONE (11 R297): a Decoder unit emits its tokens (destination, argument, buffer), which take the checks
of EMIT, and completes. -/
def execAccelOperationDone (u : Fin 8) (out : List (Nat × Nat × Nat)) (s : State) : Out :=
  match s.prefect.ops.find? (fun o => o.stage == .inService && decide (48 ≤ o.lunit) && o.punit == u.val) with
  | none => .next s
  | some o =>
    let s := out.foldl (fun t x => match findOp t o.opseq with
      | some p => if emitCheck t p x.1 p.flow x.2.2 = .ok then emitInto p x.1 p.flow (x.2.1 % 2 ^ 64) x.2.2 t else t
      | none => t) s
    .next (completeOp o.opseq s)

/-! ### The dispatch map (11 R303, Table 11.5) -/

/-- The value 0x8020:01[l] reads. -/
def mapEntry (s : State) (l : Nat) : Nat :=
  physOf s l + 64 * b2n (tabGet false s.prefect.drain l)
    + 128 * b2n (!tabGet false s.prefect.invalid l && !isFenced s (physUnit l (physOf s l)))
/-- Another logical unit of the kind holds the physical unit. -/
def heldElsewhere (s : State) (l p : Nat) : Bool :=
  (List.range 52).any (fun k => k ≠ l && (decide (k < 48) == decide (l < 48)) && physOf s k == p && !tabGet false s.prefect.invalid k)
/-- A write of a map entry: PHYS and DRAIN together; a unit held or detained is rejected whole (00 R6). -/
def writeMap (l v : Nat) (s : State) : State × Status :=
  let p := v % 64
  if (l < 48 ∧ 51 < p) ∨ (48 ≤ l ∧ 7 < p) then (s, .range)
  else if heldElsewhere s l p ∨ isFenced s (physUnit l p) then
    ({ s with prefect := { s.prefect with refusedWrite := true } }, .refused)
  else
    let s := if p = physOf s l then s else bindUnit l p s
    (noteBlocks (setDrain l (v.testBit 6) s), .ok)
/-- DISPATCH_MAP_WRITE (11 R303): the Office writes the map for VI 0. -/
def execDispatchMapWrite (vi : Fin 16) (l v : Nat) (s : State) : Out :=
  let r := checkedWrite vi 0x8020 1 l 4 v (writeMap l v) s
  .next (settle (answering r.2 r.1))

/-! ### Substitution (11 R303; 15 R402) -/

/-- SUBSTITUTION (11 R303): a logical tile goes to a substitute with its image, one substitution at a time; `failed` are substitutes whose
test fails on the way. -/
def substitute (l : Nat) (failed : List Nat) (s : State) : State :=
  let img := (tileOf s (physOf s l)).image
  let s := noteBlocks (setDrain l true s)
  let listed := s.prefect.subst.any (fun x => x.1 == l)
  let s := if listed then s else { s with prefect := { s.prefect with subst := s.prefect.subst ++ [(l, 0)] } }
  if inServiceOf s l then s
  else match s.prefect.subst with
    | (k, p) :: _ =>
      if k ≠ l then s
      else
        let s := failSubstitutes (fenceRef s (physUnit l (physOf s l))) failed s
        let free := freeTiles s
        let target := if p ≠ 0 && free.contains (p - 1) then some (p - 1) else free.head?
        match target with
        | some q => noteBlocks (moveTile l q img s)
        | none => closeErr (setInvalid l (isFenced s (physUnit l (physOf s l))) s) (fenceRef s (physUnit l (physOf s l))) 1
    | [] => s
def execSubstitution (l : Fin 48) (failed : List Nat) (airTime : Nat) (s : State) : Out :=
  .next (settle (substitute l failed (advanceTo airTime s)))
/-- DRAIN_LIMIT_EXPIRY (11 R303; 12 R337): STOP is raised on the unit and its operation ends TRAPPED. -/
def execDrainLimitExpiry (l : Fin 52) (s : State) : Out :=
  match s.prefect.ops.find? (fun o => o.stage == .inService && o.lunit == l.val) with
  | none => .next s
  | some o =>
    if tabGet false s.prefect.drain l then
      let s := { s with prefect := { s.prefect with drainEnded := bump s.prefect.drainEnded l } }
      .next (if l.val < 48 then takeStop o.punit (emit (.stop o.punit) s) else trapOp o.opseq s)
    else .next s

end Sys2Proof.Machine
end

