-- ==== Sys2Proof/Machine/Characters.lean ====
section
/-! DEFINITION. The characters of a lane: the 8b/10b code of IEEE 802.3 clause 36, which the spec names and does not print
(04 R83; PRESUMED, log entry 63), and the search for a comma in bits (04 R84, R102). A 10-bit code is the number of its
bits abcdei fghj, a the highest and sent first; a disparity is true where it is positive. -/

namespace Sys2Proof.Machine

/-- The 6-bit code abcdei of a 5-bit value at negative disparity. -/
def sixOf (x : Nat) : Nat :=
  [0b100111, 0b011101, 0b101101, 0b110001, 0b110101, 0b101001, 0b011001, 0b111000,
   0b111001, 0b100101, 0b010101, 0b110100, 0b001101, 0b101100, 0b011100, 0b010111,
   0b011011, 0b100011, 0b010011, 0b110010, 0b001011, 0b101010, 0b011010, 0b111010,
   0b110011, 0b100110, 0b010110, 0b110110, 0b001110, 0b101110, 0b011110, 0b101011].getD x 0
/-- The 4-bit code fghj of a 3-bit value at negative disparity, the primary one for 7. -/
def fourOf (y : Nat) : Nat := [0b1011, 0b1001, 0b0101, 0b1100, 0b1101, 0b1010, 0b0110, 0b1110].getD y 0
/-- The 4-bit codes of K28.y at negative disparity before its 6-bit code. -/
def fourOfK28 (y : Nat) : Nat := [0b0100, 0b1001, 0b0101, 0b0011, 0b0010, 0b1010, 0b0110, 0b1000].getD y 0
def ones (w n : Nat) : Nat := (bitList w n).length
/-- Disparity after a block of w bits: more ones or more zeros decide; 000111 and 0011 leave it positive, 111000 and 1100
negative. -/
def disparityAfter (w n : Nat) (rd : Bool) : Bool :=
  if w < 2 * ones w n then true
  else if 2 * ones w n < w then false
  else if (w = 6 ∧ n = 0b000111) ∨ (w = 4 ∧ n = 0b0011) then true
  else if (w = 6 ∧ n = 0b111000) ∨ (w = 4 ∧ n = 0b1100) then false
  else rd
/-- A block that has two forms, at a disparity. -/
def atDisparity (w n : Nat) (rd : Bool) : Nat :=
  let two := 2 * ones w n ≠ w || n == (if w = 6 then 0b111000 else 0b1100)
  if two && rd then 2 ^ w - 1 - n else n
/-- The octets of K characters. -/
def isKOctet (o : Nat) : Bool := o % 32 == 28 || [0xF7, 0xFB, 0xFD, 0xFE].contains o
/-- The code of an octet, or of a K character, at a running disparity. -/
def encodeChar (rd : Bool) (o : Nat) (k : Bool) : Nat :=
  let x := o % 32
  let y := o / 32 % 8
  if k && x == 28 then
    let c := 0b001111 * 16 + fourOfK28 y
    if rd then 1023 - c else c
  else if k then
    let c := sixOf x * 16 + 0b1000
    if rd then 1023 - c else c
  else
    let six := atDisparity 6 (sixOf x) rd
    let mid := disparityAfter 6 six rd
    let alt := y == 7 && (if mid then x == 11 || x == 13 || x == 14 else x == 17 || x == 18 || x == 20)
    let four := if alt then (if mid then 0b1000 else 0b0111) else atDisparity 4 (fourOf y) mid
    six * 16 + four
/-- Disparity after a code. -/
def disparityOf (code : Nat) (rd : Bool) : Bool := disparityAfter 4 (code % 16) (disparityAfter 6 (code / 16) rd)
/-- The octets a code may stand for, data before K. -/
def codeCandidates (code : Nat) : List (Nat × Bool) :=
  let six := code / 16
  let xs := (List.range 32).filter (fun x => sixOf x == six || sixOf x == 63 - six)
  let data := xs.flatMap (fun x => (List.range 8).map (fun y => (32 * y + x, false)))
  let ks := if six = 0b001111 ∨ six = 0b110000 then (List.range 8).map (fun y => (32 * y + 28, true))
            else ([0xF7, 0xFB, 0xFD, 0xFE].filter (fun o => xs.contains (o % 32))).map (fun o => (o, true))
  data ++ ks
/-- What a code decodes to at a disparity. -/
def decodeAt (rd : Bool) (code : Nat) : Option (Nat × Bool) :=
  (codeCandidates code).find? (fun c => encodeChar rd c.1 c.2 == code)
/-- A received character: octet, whether it is a K character, whether its code is invalid, and whether it violates the
running disparity (R84). -/
structure LaneChar where
  octet : Nat
  k : Bool := false
  codeErr : Bool := false
  dispErr : Bool := false
  deriving DecidableEq, Repr
/-- A code at the receiver's disparity; with none yet, the first code settles it. -/
def decodeChar (rd : Option Bool) (code : Nat) : LaneChar :=
  let own := match rd with
    | some r => decodeAt r code
    | none => (decodeAt false code).or (decodeAt true code)
  match own with
  | some c => { octet := c.1, k := c.2 }
  | none =>
    match (decodeAt false code).or (decodeAt true code) with
    | some c => { octet := c.1, k := c.2, dispErr := true }
    | none => { octet := 0xFE, k := true, codeErr := true }
/-- The characters of codes in succession, and the disparity they leave. -/
def decodeChars : Option Bool → List Nat → List LaneChar × Option Bool
  | rd, [] => ([], rd)
  | rd, code :: t =>
    let start := rd.getD (decodeAt false code).isNone
    let r := decodeChars (some (disparityOf (code % 1024) start)) t
    (decodeChar rd (code % 1024) :: r.1, r.2)
/-- Codes of characters in succession, and the disparity they leave (R83). -/
def encodeChars : Bool → List (Nat × Bool) → List Nat × Bool
  | rd, [] => ([], rd)
  | rd, c :: t =>
    let code := encodeChar rd c.1 c.2
    let r := encodeChars (disparityOf code rd) t
    (code :: r.1, r.2)

/-! ### Commas at any bit position (R84, R102) -/

/-- Bits of codes, in the order received. -/
def codeBits (l : List Nat) : List Bool := l.flatMap (fun c => (List.range 10).map (fun i => c.testBit (9 - i)))
def isComma (w : Nat) : Bool := w == 0b0011111010 || w == 0b1100000101
/-- Bit positions at which a K28.5 begins; `w` holds the last ten bits and n counts those read. -/
def commasFrom : Nat → Nat → List Bool → List Nat
  | _, _, [] => []
  | w, n, b :: t =>
    let w := (2 * w + b2n b) % 1024
    let rest := commasFrom w (n + 1) t
    if 9 ≤ n ∧ isComma w then (n - 9) :: rest else rest
def commaPositions (codes : List Nat) : List Nat := commasFrom 0 0 (codeBits codes)

end Sys2Proof.Machine
end

