-- ==== Sys2Proof/Machine/Lanes.lean ====
section
/-! DEFINITION. The commands of the radio and cascade lanes: bring-up, lane frames received, control messages, tap
adaptation, spare switchover and cages (04). -/

namespace Sys2Proof.Machine

/-! ### Lane frames as received (04 R84 to R91, Table 4.3) -/

/-- A character as the receiver takes it: its octet, whether it is a K character, whether it was taken as K30.7. -/
structure Taken where
  octet : Nat
  k : Bool
  bad : Bool
  deriving DecidableEq, Repr
/-- Character i of a frame is a sample character. -/
def isSample (i : Nat) : Bool := decide (i % 96 < 64)
/-- Character i is one of the header's status characters behind the comma and the mark. -/
def isStatus (i : Nat) : Bool := decide (66 ≤ i) && decide (i ≤ 71)
/-- Character i belongs to the control channel. -/
def isControl (i : Nat) : Bool := decide (72 ≤ i) && decide (64 ≤ i % 96) && decide (i < 3068)
/-- Characters that a misplaced comma covers, in part or whole, by its bit position in the frame. -/
def strayChars (p : Nat) : List Nat := if p % 10 = 0 then [p / 10] else [p / 10, p / 10 + 1]
/-- R84: how character i is taken; `hit` holds the characters that misplaced commas cover. -/
def takeChar (hit : List Nat) (i : Nat) (c : LaneChar) : Taken :=
  let strange := c.k && (isSample i || isStatus i)
  if c.codeErr || (c.k && c.octet == 0xFE) || hit.contains i || strange then ⟨0xFE, true, true⟩ else ⟨c.octet, c.k, false⟩
def isCodeError (i : Nat) (c : LaneChar) : Bool := c.codeErr || (c.k && c.octet != 0xFE && (isSample i || isStatus i))
/-- R89: the octets the CRC covers. -/
def inCrc (i : Nat) (c : Taken) : Bool :=
  decide (i < 3068) && i != 64 && i != 65 && !(c.k && !c.bad && (c.octet == 0x1C || c.octet == 0x9C || c.octet == 0xDC))
def takenAt (l : List Taken) (i : Nat) : Taken := (l[i]?).getD ⟨0, false, false⟩

/-- A message in progress is judged at its K28.4 (R90, R91): TYPE, SEQ, LEN and body where it is good. -/
def judgeMsg (newestFirst : List Nat) : Option (Nat × Nat × Nat × Nat) :=
  match newestFirst.reverse with
  | t :: q :: n :: rest =>
    if rest.length = n + 2 ∧ n ≤ 200 ∧ newestFirst.all (· < 256) ∧ crc16 (t :: q :: n :: rest.take n) = fromBE (rest.drop n) then
      some (t, q, n, fromBE (rest.take n))
    else none
  | _ => none
/-- Where the control channel's parser stands: the message in progress, bad messages met, good ones in order. -/
structure Parser where
  msg : Option (List Nat)
  bad : Nat := 0
  good : List (Nat × Nat × Nat × Nat) := []
/-- One control-channel character (R90, R91). A character taken as K30.7, or any K character that has no place there,
spoils the message it stands in. -/
def parseChar (p : Parser) (c : Taken) : Parser :=
  if c.k && !c.bad && c.octet == 0x1C then
    { p with msg := some [], bad := if p.msg.isSome then p.bad + 1 else p.bad }
  else if c.k && !c.bad && c.octet == 0xDC then
    { p with msg := none, bad := if p.msg.isSome then p.bad + 1 else p.bad }
  else if c.k && !c.bad && c.octet == 0x9C then
    match p.msg with
    | none => p
    | some m => match judgeMsg m with
      | some g => { p with msg := none, good := p.good ++ [g] }
      | none => { p with msg := none, bad := p.bad + 1 }
  else match p.msg with
    | none => p
    | some m => { p with msg := some ((if c.k then 256 else c.octet) :: m) }
/-- The control channel of a frame. -/
def parseFrame (l : List Taken) (msg : Option (List Nat)) : Parser :=
  (l.mapIdx (fun i c => (i, c))).foldl (fun p x => if isControl x.1 then parseChar p x.2 else p) { msg := msg }

/-! ### Samples of a frame (04 R85, R88, R97; 05 R114, R118) -/

/-- Sampling time of slot 0 of the frame received c-th since LOCKED, in 1/96 tick (04 R97). -/
def sampleTime96 (anchor : Nat × Nat) (c rxLatency : Nat) : Nat := anchor.2 + 3072 * (c - anchor.1) - rxLatency
/-- The calibration entry of an antenna for the calibrated sample at air time n (05 R120). -/
def calEntry (s : State) (n a : Nat) : Nat := tabGet 0 (if n < s.rx.cal.last then s.rx.cal.prior else s.rx.cal.active) a
/-- Calibrated air times a head sample at sampling time t96 bears on, first and last (05 R118): the two next to it (DESIGN
CHOICE, log entry 64). -/
def calibratedTimes (s : State) (a t96 : Nat) : Nat × Nat :=
  let x := 8 * t96 - 3 * (calEntry s (t96 / 96) a / 2 ^ 32 % 2 ^ 14)
  (x / 768, ceilDiv x 768)
/-- Whether sample k of antenna a (0 to 15) holds a character taken as K30.7. -/
def sampleBad (l : List Taken) (k a : Nat) : Bool :=
  (List.range 4).any (fun i => (takenAt l (96 * k + 4 * a + i)).bad)
/-- I or Q of sample k of antenna a, as received. -/
def sampleHalf (l : List Taken) (k a q : Nat) : Int :=
  let o (i : Nat) := (takenAt l (96 * k + 4 * a + 2 * q + i)).octet
  toSigned 16 (o 0 * 256 + o 1)
/-- A calibrated sample of an antenna is erased, whatever the cause (05 R114). -/
def erasedAt (s : State) (a n : Nat) : Bool :=
  s.rx.erasures.any (fun x => x.antenna == a && decide (x.lo ≤ n) && x.hi.all (fun h => decide (n ≤ h)))
    || s.rx.gainPending.any (fun g => g.antenna == a && decide (g.atG - 2 ≤ n) && decide (g.atG ≤ s.time.airTime))
/-- One sample that arrived good: clipped (05 R117, R118), and the window of the wideband level (05 R136). -/
def tallySample (m : Nat) (i q : Int) (s : State) : State :=
  let s := if i = -32768 ∨ q = -32768 then { s with rx := { s.rx with clipped := bump s.rx.clipped m } } else s
  let i := max i (-32767)
  let q := max q (-32767)
  if setting s 0x4005 2 0 = 1 then
    { s with rx := { s.rx with wideSum := tabMod (0, 0) s.rx.wideSum m (fun p => (p.1 + 1, p.2 + (i * i + q * q).toNat)) } }
  else s
/-- The samples of one antenna in a frame of the head's ACTIVE lane: erasures (05 R114), and the tallies of the others. -/
def antennaSamples (l : List Taken) (valid h a t96 : Nat) (s : State) : State :=
  let m := 16 * h + a
  let times (k : Nat) := calibratedTimes s m (t96 + 96 * k)
  if valid.testBit a then
    (List.range 32).foldl (fun t k =>
      if sampleBad l k a then addErasure m (times k).1 (some (times k).2) causeLane t
      else if erasedAt t m (times k).1 then t
      else tallySample m (sampleHalf l k a 0) (sampleHalf l k a 1) t) s
  else addErasure m (times 0).1 (some (times 31).2) causeLane s
/-- The samples of a frame as calibration takes them: -32,768 as -32,767 (05 R118). -/
def headSamples (l : List Taken) (valid : Nat) : List (Option (Int × Int)) :=
  (List.range 512).map (fun i =>
    let k := i / 16
    let a := i % 16
    if valid.testBit a && !sampleBad l k a then some (max (sampleHalf l k a 0) (-32767), max (sampleHalf l k a 1) (-32767))
    else none)
/-- A frame's samples reach calibration; those of 16,384 ticks before are needed no more. -/
def takeSamples (l : List Taken) (valid h t96 : Nat) (s : State) : State :=
  let s := { s with rx := { s.rx with
    head := s.rx.head.filter (fun b => b.head ≠ h ∨ t96 ≤ b.t96 + 96 * 16384) ++ [⟨h, t96, headSamples l valid⟩] } }
  (List.range 16).foldl (fun t a => antennaSamples l valid h a t96 t) s

/-! ### Frames -/

/-- The words of branch positions that a cascade frame brings, one flagged LANE where it holds a bad character (18 R451);
what arrives on the lanes that face west travels east. -/
def takeWords (l : List Taken) (lane frame : Nat) (s : State) : State :=
  let base := (if 18 ≤ lane then 4096 else 0) + 512 * (frame % 8)
  { s with stack := { s.stack with words := (List.range 512).foldl (fun t p =>
      let at_ := 96 * (p / 16) + 4 * (p % 16)
      let o := (List.range 4).map (fun i => takenAt l (at_ + i))
      tabSet 0 t (base + p) (if o.any (·.bad) then 0x18000 else fromBE (o.map (·.octet)))) s.stack.words } }
/-- A lane frame received whole by a LOCKED lane: 3,072 codes of ten bits. -/
def receiveFrame (l : Nat) (codes : List Nat) (arr16 : Nat) (s : State) : State :=
  let x := laneOf s l
  let (chars, disp) := decodeChars x.rxDisp codes
  let strays := (commaPositions codes).filter (· ≠ 640)
  let hit := strays.flatMap strayChars
  let ix := chars.mapIdx (fun i c => (i, c))
  let tk := ix.map (fun p => takeChar hit p.1 p.2)
  let count (f : Nat → LaneChar → Bool) : Nat := (ix.filter (fun p => f p.1 p.2)).length
  let comma := (chars[64]?).any (fun c => c.k && !c.codeErr && c.octet == 0xBC)
  let mark := (chars[65]?).any (fun c => c.k && !c.codeErr && c.octet == 0x7C)
  let seq := (takenAt tk 66).octet
  let next := (x.rxFrame + 1) % 256
  let good := mark && !(takenAt tk 66).bad && !(takenAt tk 67).bad && seq + (takenAt tk 67).octet == 255
    && (!x.rxSeen || seq == next)
  let frame := if good then seq else next
  let maskBad := (takenAt tk 68).bad || (takenAt tk 69).bad
  let valid := if maskBad then 0 else (takenAt tk 68).octet * 256 + (takenAt tk 69).octet
  let flags := if (takenAt tk 70).bad then x.rxFlags else (takenAt tk 70).octet % 8
  let covered := ((tk.mapIdx (fun i c => (i, c))).filter (fun p => inCrc p.1 p.2)).map (·.2.octet)
  let crcOk := crc32 covered == fromBE ((List.range 4).map (fun i => (takenAt tk (3068 + i)).octet))
  let p := parseFrame tk x.msg
  let c := x.counters
  let c := bumpBy c 0 (count isCodeError)
  let c := bumpBy c 1 (count (fun _ y => y.dispErr))
  let c := if crcOk then c else bump c 2
  let c := if good then c else bump c 3
  let c := bumpBy c 4 strays.length
  let c := bumpBy c 6 p.bad
  let c := bumpBy c 7 (count (fun _ y => !y.codeErr && y.k && y.octet == 0xFE))
  let c := bump c 9
  let s := setLane s l { x with
    counters := c, crcSecond := if crcOk then x.crcSecond else x.crcSecond + 1, rxDisp := disp
    rxFrame := frame, rxSeen := true, rxFlags := flags, remLock := flags.testBit 2, validMask := valid
    missed := if comma then 0 else x.missed + 1
    msg := p.msg, inbox := x.inbox ++ p.good, rxCount := x.rxCount + 1
    arrivals := tabSet 0 x.arrivals frame arr16 }
  if l < 16 then
    let s := match x.active, headOfLane s l, x.anchor with
      | true, some h, some anchor =>
        takeSamples tk valid h (sampleTime96 anchor x.rxCount (hidRxLatency (headOf s h).identity)) s
      | _, _, _ => s
    activateLane l s
  else takeWords tk l frame s
/-- HUNT over 30,720 bits (04 R102): the first comma is the candidate; one comma, at the candidate's bit position, confirms
it; a missing or displaced one returns to HUNT. -/
def huntFrame (l : Nat) (codes : List Nat) (s : State) : State :=
  let found := commaPositions codes
  modLane s l (fun x =>
    match x.hunt with
    | some p => if found = [p] then { x with commas := min 3 (x.commas + 1) }
                else { x with hunt := none, commas := 0 }
    | none => { x with hunt := found.head?, commas := if found.isEmpty then 0 else 1 })

/-! ### Messages delivered -/

/-- Octets of a message's body as it stands in a lane's inbox: a cascade message has SRC and DST in front (18 R452). -/
def inboxLen (l len : Nat) : Nat := if l < 16 then len else len + 2
/-- The oldest message in a lane's inbox of a type, of the length Table 4.5 gives it, with the SEQ and the octets a command names
(log entry 34). -/
def oldestMsg (l type len : Nat) (named : Nat → Nat → Bool) (s : State) : Option (Nat × Nat × Nat × Nat) :=
  (laneOf s l).inbox.find? (fun m => m.1 == type && m.2.2.1 == inboxLen l len && named m.2.1 (m.2.2.2 % 256 ^ len))
/-- The state without that message; none where no such message waits. -/
def takeMsg (l type len : Nat) (named : Nat → Nat → Bool) (s : State) : Option State :=
  (oldestMsg l type len named s).map (fun m => modLane s l (fun x => { x with inbox := x.inbox.erase m }))
/-- A QUERY for this type is answered by the message itself. -/
def answerQuery (l type : Nat) (s : State) : State :=
  modLane s l (fun x => { x with cmds := x.cmds.filter (fun c => !(c.type == 0x31 && c.body % 256 == type)) })
def laneError (l : Nat) (s : State) : State :=
  errRecord { unit := unitLane l, code := .lane, severity := .minor } s
/-- Air time of the downlink frame with sequence q that last left before an arrival in 1/16 tick (04 R86, R97). -/
def frameTime (q arr16 : Nat) : Nat :=
  let f := arr16 / 512
  32 * (f - (f % 256 + 256 - q % 256) % 256)
/-- One-way delay in 1/16 tick (04 R97); what lies exactly between two takes the even one (DESIGN CHOICE, log entry 64). -/
def oneWay (q delta arr16 : Nat) : Nat :=
  (roundHalfEven (6 * ((arr16 : Int) - 16 * (frameTime q arr16 : Int)) - (delta : Int)) 12).toNat
/-- A TIME for the downlink frame in progress. -/
def sendTimeNow (l : Nat) (s : State) : State :=
  let n := s.time.airTime / 32
  modLane (sendTime l (n % 256) (32 * n) (laneOf s l).delay s) l (fun x => { x with timeSent := true })
/-- Hops from a position to the head over the whole ring, the fewer way (18 R453). -/
def hopsToHead (s : State) (p : Nat) : Nat :=
  let n := memberCount s
  let e := (s.stack.head + n - p % n) % n
  min e (n - e)
/-- The link this member takes its air time from faces east: the way with fewer hops, the west on a tie, the other way where
a link is down. -/
def pathEast (s : State) : Bool :=
  let n := memberCount s
  let e := (s.stack.head + n - s.stack.position % n) % n
  if !linkUp s true then false else if !linkUp s false then true else decide (2 * e < n)
/-- This member's end of a cascade link is nearer the head and acts as the module side (18 R451). -/
def moduleSide (s : State) (l : Nat) : Bool :=
  if !stacked s then false
  else if isHead s then true
  else
    let n := memberCount s
    let here := hopsToHead s s.stack.position
    if !(linkUp s true && linkUp s false) then false
    else if l < 18 then !pathEast s && decide (here ≤ hopsToHead s ((s.stack.position + 1) % n))
    else pathEast s && decide (here < hopsToHead s ((s.stack.position + n - 1) % n))
/-- The uplink frame of a sequence, by its count since LOCKED, where it is among the last 256 received. -/
def frameCount (x : Lane) (u : Nat) : Option Nat :=
  let back := (x.rxFrame + 256 - u % 256) % 256
  if back < x.rxCount then some (x.rxCount - 1 - back) else none
/-- The role a bring-up gives a lane (04 R101 step 6): active where it is to carry its head. -/
def roleOf (s : State) (h l : Nat) : Nat :=
  let y := headOf s h
  b2n (decide (y.target = l ∨ (y.target = 0xFF ∧ (y.serving = l ∨ (l < 12 ∧ y.serving = 0xFF)))))
/-- ALIGN of downlink frame q, uplink frame u and offset delta (04 R95, R97): d from the arrival of frame u, TIME where it is
the first or has changed, then step 6 of bring-up. An ALIGN that names a frame not received since LOCKED says nothing. -/
def takeAlign (l q u delta : Nat) (s : State) : State :=
  let x := laneOf s l
  match frameCount x u with
  | none => s
  | some c =>
    let arr16 := tabGet 0 x.arrivals u
    let d := oneWay q delta arr16
    let s := answerQuery l 0x22 (modLane s l (fun y => { y with
      delay := d, delayKnown := true, anchor := some (c, 96 * frameTime q arr16 + 6 * d + delta) }))
    if 16 ≤ l then (if moduleSide s l && (!x.timeSent || d ≠ x.delay) then sendTimeNow l s else s)
    else if !x.timeSent then
      let s := sendTimeNow l s
      activateLane l (match headOfLane s l with
        | some h => bringUpCommands l h (roleOf s h l) s
        | none => s)
    else if d ≠ x.delay then sendTimeNow l s
    else s

/-- A GAIN's outcome (05 R137). -/
def settleGain (l seq : Nat) (st : Status) (s : State) : State :=
  let mine := s.rx.gainPending.filter (fun g => g.lane == l && g.seq == seq)
  let s := { s with rx := { s.rx with gainPending := s.rx.gainPending.filter (fun g => !(g.lane == l && g.seq == seq)) } }
  let s := mine.foldl (fun t g =>
    let now := t.time.airTime
    if st = .ok then
      let t := if gainToCome t g.antenna = g.gain then t
               else { t with rx := { t.rx with gainChanges := bump t.rx.gainChanges g.antenna } }
      addErasure g.antenna (g.atG - 2) (some (if now < g.atG then g.atG + 2 else max (g.atG + 2) now)) causeGain (addStep g t)
    else if now < g.atG then t
    else addErasure g.antenna (g.atG - 2) (some now) causeGain t) s
  if st = .ok then s else laneError l s
/-- ROLE active is answered OK on the lane a switchover moves to: step 4 of Table 4.9. -/
def switchReplied (h l : Nat) (s : State) : State :=
  let s := modHead s h (fun y => { y with switchOk := true })
  let s := holdGains l h s
  (burstList s).foldl (fun t b => if b.heads.testBit h ∧ b.inAir = false then
    sendTxen l (enableMask t h (enableFrom b)) (enableFrom b) t else t) s
/-- A REPLY settles the command it echoes (04 R93; 05 R137; 09 R255). One to a GAIN given up after its last resend settles
the change all the same. -/
def takeReply (l type seq : Nat) (st : Status) (s : State) : State :=
  match (laneOf s l).cmds.find? (fun c => c.type == type && c.seq == seq) with
  | none => if type = 0x01 ∧ s.rx.gainPending.any (fun g => g.lane == l && g.seq == seq) then settleGain l seq st s else s
  | some c =>
    let s := modLane s l (fun x => { x with cmds := x.cmds.filter (fun y => !(y.type == type && y.seq == seq)) })
    match headOfLane s l with
    | none => s
    | some h =>
      if type = 0x01 then settleGain l seq st s
      else if type = 0x03 then
        let i := octAt c.len c.body 0
        let s := modHead s h (fun y => { y with rampBad :=
          if st = .ok then y.rampBad &&& (15 - 2 ^ i) else y.rampBad ||| 2 ^ i })
        if st = .ok then s else laneError l s
      else if type = 0x32 ∧ st = .ok ∧ c.body = 1 ∧ (headOf s h).target = l then switchReplied h l s
      else s

/-- The far end's TAPREQ is applied at a frame boundary and answered (04 R105, R106). -/
def applyTap (l : Nat) (s : State) : State :=
  let x := laneOf s l
  match x.tapPending with
  | none => s
  | some (seq, tap, step) =>
    let old := if tap = 0 then x.pre else x.post
    let new : Int := (old : Int) + step
    let fits := decide (0 ≤ new) && decide (new ≤ if tap = 0 then 7 else 15)
    let now := if fits then new.toNat else old
    let s := setLane s l { x with tapPending := none, pre := if tap = 0 then now else x.pre, post := if tap = 0 then x.post else now }
    sendMsg l 0x11 [(1, seq), (1, b2n (!fits)), (1, now)] s

/-! ### Failing lanes (04 R103, R104, R111) -/

/-- The module moves a head whose working lane fails to its spare, where it can, with the record of R111. -/
def switchToSpare (h l : Nat) (s : State) : State :=
  match (if l < 12 then spareOf s h else none) with
  | some m =>
    if canSwitch s l m then
      let n := nextEseq s
      let s := listFence (unitLane l) n (laneError l (startSwitch h l m s))
      setCard s (unitLane l) { cardOf s (unitLane l) with events := ((cardOf s (unitLane l)).events + 1) % 65536 }
    else s
  | none => s
/-- A lane loses LOCKED; an ACTIVE one takes its head from the bursts and from the receive chain. -/
def failLane (lossOfFrame : Bool) (l : Nat) (s : State) : State :=
  let x := laneOf s l
  let head := headOfLane s l
  let s := unlockLane lossOfFrame l s
  match x.active, head with
  | true, some h => switchToSpare h l (dropHead h s)
  | _, _ => s

/-- Modes in which a lane runs: in SAFE those alone that were up before it (02 Table 2.8). -/
def lanesRun (s : State) (l : Nat) : Bool :=
  s.time.valid && (match s.mode.mode with
    | .off => false | .boot => false | .lastGasp => false | .safe => s.mode.upBeforeSafe.contains l | _ => true)

/-! ### Commands -/

/-- LANE_ENABLE (04 R101, R106): a populated lane begins to send frames. -/
def execLaneEnable (l : Fin 20) (s : State) : Out :=
  let c := cageOf s l
  if lanesRun s l && c.present && !c.txDisable && !(laneOf s l).enabled then .next (enableLane l s) else .next s

/-- CLOCK_RECOVERED (04 R101 step 2, R108). -/
def execClockRecovered (l : Fin 20) (s : State) : Out :=
  if (laneOf s l).los then .next s else .next (modLane s l (fun x => { x with lol := false, commas := 0, hunt := none }))
/-- COMMA_LOCK (04 R102; 02 R43): the candidate comma was found twice more at the frame spacing. -/
def execCommaLock (l : Fin 20) (s : State) : Out :=
  let x := laneOf s l
  if x.enabled && !x.los && !x.lol && !x.locked && x.commas == 3 then
    let s := setLane s l { x with locked := true, missed := 0, rxSeen := false, rxCount := 0, rxDisp := none, hunt := none,
                                  anchor := none, arrivals := [], sinceLock := 0, msg := none, inbox := [] }
    let s := if l.val < 12 && s.time.valid then { s with mode := { s.mode with causeRef := false } } else s
    .next (settle s)
  else .next s
/-- Loss of frame is declared (04 R103). -/
def loseFrame (l : Nat) (s : State) : State :=
  failLane true l (modLane s l (fun x => { x with counters := bump x.counters 5 }))
/-- LANE_FRAME_RECEIVED (04 R84 to R91, R102, R103): 3,072 codes of ten bits as they arrive, the first at arr16 in 1/16
tick: a frame at the alignment of a LOCKED lane, or a stretch that a receiver in HUNT searches. -/
def execLaneFrameReceived (l : Fin 20) (codes : List Nat) (arr16 : Nat) (s : State) : Out :=
  let x := laneOf s l
  if codes.length ≠ 3072 ∨ x.los ∨ x.lol then .next s
  else
    let s := advanceTo (arr16 / 16) s
    if x.locked ∧ x.missed < 4 then .next (settle (receiveFrame l codes arr16 s))
    else if x.locked then .next (settle (huntFrame l codes (loseFrame l s)))
    else .next (huntFrame l codes s)
/-- LOSS_OF_FRAME (04 R103): four consecutive frames lacked the comma. -/
def execLossOfFrame (l : Fin 20) (s : State) : Out :=
  if (laneOf s l).locked ∧ 4 ≤ (laneOf s l).missed then .next (settle (loseFrame l s)) else .next s
/-- LOSS_OF_SIGNAL (04 R103, R108): LOS, LOL or both are set. -/
def execLossOfSignal (l : Fin 20) (los lol : Bool) (s : State) : Out :=
  if los || lol then
    let s := if (laneOf s l).locked then failLane false l s else s
    .next (settle (modLane s l (fun x => { x with los := x.los || los, lol := x.lol || lol, commas := 0, hunt := none })))
  else .next s
/-- SIGNAL_RESTORED (04 R108). -/
def execSignalRestored (l : Fin 20) (s : State) : Out :=
  if (cageOf s l).present then .next (modLane s l (fun x => { x with los := false })) else .next s
/-- HEADID (04 R95, R109), with its 25 octets. -/
def execHeadid (l : Fin 16) (body : Nat) (s : State) : Out :=
  match takeMsg l 0x20 25 (fun _ b => b == body) s with
  | some s =>
    let s := modLane (answerQuery l 0x20 s) l (fun x => { x with headId := true, serial := hidSerial body })
    .next (settle (match headOfLane s l with
      | some h => modHead s h (fun y => { y with identity := body })
      | none => s))
  | none => .next s
/-- HEADSTAT (04 R95, R109), with its 23 octets. -/
def execHeadstat (l : Fin 16) (body : Nat) (s : State) : Out :=
  match takeMsg l 0x21 23 (fun _ b => b == body) s with
  | some s =>
    let s := answerQuery l 0x21 s
    .next (match headOfLane s l with
      | some h => modHead s h (fun y => { y with headStat := body })
      | none => s)
  | none => .next s
/-- ALIGN (04 R95 to R97): downlink sequence, uplink sequence, offset in characters, delivered at an air time. -/
def execAlign (l : Fin 20) (q u : Fin 256) (delta : Fin 3072) (airTime : Nat) (s : State) : Out :=
  match takeMsg l 0x22 4 (fun _ b => octAt 4 b 0 == q.val && octAt 4 b 1 == u.val && octField 4 b 2 3 == delta.val)
      (advanceTo airTime s) with
  | some s => .next (settle (takeAlign l q u delta s))
  | none => .next s
/-- A member acknowledges the head's oldest DIRUPD broadcast; once every member has, the head answers OK (18 R457). -/
def ackDirectory (s : State) : State :=
  match s.stack.dirPending with
  | (_, _, seq, 1, src) :: t =>
    cascadeSend src 0x3D [(1, s.stack.position), (1, src), (1, 0x42), (1, seq % 256), (1, 0)]
      { s with stack := { s.stack with dirPending := t } }
  | (tag, home, seq, n, src) :: t =>
    { s with stack := { s.stack with dirPending := (tag, home, seq, n - 1, src) :: t } }
  | [] => s
/-- REPLY (04 R93; 05 R137; 09 R255; 18 R457): echoed TYPE and SEQ with a status, delivered at an air time. -/
def execReply (l : Fin 20) (ty seq : Fin 256) (status : Status) (airTime : Nat) (s : State) : Out :=
  match takeMsg l 0x3D 3 (fun _ b => octAt 3 b 0 == ty.val && octAt 3 b 1 == seq.val && statusOf (octAt 3 b 2) == status)
      (advanceTo airTime s) with
  | some s =>
    if 16 ≤ l.val then .next (if ty.val = 0x42 ∧ isHead s ∧ status = .ok then ackDirectory s else s)
    else .next (settle (takeReply l ty seq status s))
  | none => .next s
/-- TAPREQ (04 R105): the far end asks for a step of the pre-cursor or the post-cursor; it is applied at a frame boundary. -/
def execTapreq (l : Fin 20) (seq : Fin 256) (post up : Bool) (s : State) : Out :=
  let step : Int := if up then 1 else -1
  match takeMsg l 0x10 2 (fun q b => q == seq.val && octAt 2 b 0 == b2n post && toSigned 8 (octAt 2 b 1) == step) s with
  | some s => .next (modLane (applyTap l s) l (fun x => { x with tapPending := some (seq.val, b2n post, step) }))
  | none => .next s
/-- TAPREP (04 R105): echoed SEQ; result 0 applied, 1 at limit; the tap's value now. -/
def execTaprep (l : Fin 20) (seq result value : Fin 256) (s : State) : Out :=
  match takeMsg l 0x11 3 (fun _ b => octAt 3 b 0 == seq.val && octAt 3 b 1 == result.val && octAt 3 b 2 == value.val) s with
  | some s =>
    let x := laneOf s l
    (match x.tapReq with
     | some r =>
       if r.seq = seq.val then
         .next (setLane s l { x with
           tapReq := none
           farTaps := if r.tap = 0 then value * 256 + x.farTaps % 256 else x.farTaps / 256 * 256 + value
           lastStep := if result.val = 0 then some (r.tap, r.step) else x.lastStep
           sinceStep := if result.val = 0 then 0 else x.sinceStep })
       else .next s
     | none => .next s)
  | none => .next s
/-- TAP_ADAPTATION (04 R105, R106): the module asks for a step, or for the opposite of the step that cost the lock. -/
def execTapAdaptation (l : Fin 20) (post up : Bool) (s : State) : Out :=
  let x := laneOf s l
  if x.locked && x.tapReq.isNone && decide (64 ≤ x.sinceTap) && setting s 0x3000 3 0 == 1 then
    match x.undoStep, x.lastStep with
    | true, some (tap, step) =>
      .next (modLane (sendTapreq l tap (-step) s) l (fun y => { y with undoStep := false, lastStep := none }))
    | _, _ =>
      if 64 ≤ x.sinceLock then .next (sendTapreq l (b2n post) (if up then 1 else -1) s) else .next s
  else .next s
/-- TAPREQ_ABANDONED (04 R105). -/
def execTapreqAbandoned (l : Fin 20) (s : State) : Out :=
  let x := laneOf s l
  match x.tapReq with
  | some r => if 64 ≤ r.waited then .next (setLane s l { x with tapReq := none, counters := bump x.counters 8 }) else .next s
  | none => .next s
/-- COMMAND_RESEND (04 R93): a command unanswered after 8 frames is sent again, twice at most; then an error record. -/
def execCommandResend (l : Fin 16) (seq : Fin 256) (s : State) : Out :=
  let x := laneOf s l
  match x.cmds.find? (fun c => c.seq == seq.val && decide (8 ≤ c.waited)) with
  | none => .next s
  | some c =>
    if c.resends < 2 then
      .next (queueMsg l c.type c.seq c.body c.len (setLane s l { x with
        cmds := x.cmds.map (fun y => if y.seq = c.seq ∧ y.type = c.type then { y with waited := 0, resends := y.resends + 1 } else y) }))
    else
      .next (settle (laneError l (setLane s l { x with cmds := x.cmds.filter (fun y => !(y.seq == c.seq && y.type == c.type)) })))
/-- CRC_ALARM_EVALUATION (04 R107, R111): the second's CRC errors against the threshold. -/
def execCrcAlarmEvaluation (l : Fin 20) (s : State) : Out :=
  let x := laneOf s l
  let alarm := decide (setting s 0x3000 2 0 < x.crcSecond)
  let s := setLane s l { x with crcAlarm := alarm, crcSecond := 0 }
  match alarm && x.active, headOfLane s l with
  | true, some h =>
    (match (if l.val < 12 then spareOf s h else none) with
     | some m => if canSwitch s l m then .next (settle (switchToSpare h l (dropHead h s))) else .next (settle s)
     | none => .next (settle s))
  | _, _ => .next (settle s)
/-- SWITCHOVER_DEADLINE (04 R112): 100 us after t_f the switchover has not reached step 5. -/
def execSwitchoverDeadline (h : Fin 12) (s : State) : Out :=
  if (headOf s h).switching then .next (settle (modHead s h (fun y => { y with lateSwitch := true }))) else .next s
/-- 0x3030:02 (04 R112). -/
def writeRevert (j : Nat) (s : State) : State × Status :=
  match (List.range 12).find? (fun h => activeLane s h == some (12 + j)) with
  | some h => if canSwitch s (12 + j) h then (settle (startSwitch h (12 + j) h (dropHead h s)), .ok) else (s, .refused)
  | none => (s, .refused)
/-- SPARE_REVERT (04 R112). -/
def execSpareRevert (vi : Fin 16) (j v : Nat) (s : State) : Out :=
  answered (checkedWrite vi 0x3030 2 j 1 v (writeRevert j) s)
/-- A spare that runs when it comes to back a head takes step 6 of bring-up with role standby (04 R101, R110). -/
def startBacking (l h : Nat) (s : State) : State :=
  if (laneOf s l).timeSent && h < 12 then bringUpCommands l h 0 s else s
/-- 0x3030:01 (04 R110). -/
def writeBacked (j v : Nat) (s : State) : State × Status :=
  if v ≠ 0xFF ∧ (spareOf s v).isSome then (s, .range)
  else (startBacking (12 + j) v (putSetting s 0 0x3030 1 j v), .ok)
/-- BACKED_HEAD_WRITE (04 R110). -/
def execBackedHeadWrite (vi : Fin 16) (j v : Nat) (s : State) : Out :=
  answered (checkedWrite vi 0x3030 1 j 1 v (writeBacked j v) s)
/-- The unit that names a cage in an error record (15 Table 15.1). -/
def cageUnit (c : Nat) : Nat := if c < 16 then 0x0500 + c else if c < 20 then 0x0600 + (c - 16) else 0x0700 + (c - 20)
/-- CAGE_INSERTION (04 R113): the identity as read; ok where it is readable and the rate is enough. -/
def execCageInsertion (c : Fin 22) (ok : Bool) (identity : Nat) (s : State) : Out :=
  if (cageOf s c).present then .next s
  else
    let s := setCage s c { cageOf s c with present := true, txDisable := !ok, identity := identity % 256 ^ 256 }
    let s := if c.val < 20 then modLane s c (fun x => { x with cageEmpty := false, cageBad := !ok }) else s
    if ok then .next (if c.val < 20 ∧ lanesRun s c then enableLane c s else s)
    else .next (settle (errRecord { unit := cageUnit c, code := .cage, severity := .minor } s))
/-- CAGE_REMOVAL (04 R113). -/
def execCageRemoval (c : Fin 22) (s : State) : Out :=
  let s := setCage s c { cageOf s c with present := false, txDisable := false }
  if c.val < 20 then
    let s := if (laneOf s c).locked then failLane false c s else s
    .next (settle (modLane s c (fun x => { x with cageEmpty := true, cageBad := false, los := true, enabled := false })))
  else .next { s with molfen := { s.molfen with linkUp := tabSet false s.molfen.linkUp (c - 20) false } }
/-- CAGE_DIAGNOSTICS_READ (04 R113): bytes 96 to 105 of A2h. -/
def execCageDiagnosticsRead (c : Fin 22) (diag : Nat) (s : State) : Out :=
  if (cageOf s c).present then .next (setCage s c { cageOf s c with diag := diag % 256 ^ 10 }) else .next s

end Sys2Proof.Machine
end

