-- ==== Sys2Proof/Machine/TimeOps.lean ====
section
/-! DEFINITION. Bells and what hangs on them: double-buffered swaps, settings that wait for a bell, and the start of the
timebase (14 R372 to R376; 05 R120, R129, R131, R144, R146; 06 R151, R174; 09 R250). -/

namespace Sys2Proof.Machine

/-! ### Bells (14 Table 14.3) -/

def bellDefault (b : Nat) : Bell :=
  if b < 8 then { period := 32, phase := 4 * b }
  else if b = 8 then { period := 256 }
  else if b = 9 then { period := 640000 }
  else {}
def bellOf (s : State) (b : Nat) : Bell := tabGet (bellDefault b) s.time.bells b
def setBell (s : State) (b : Nat) (x : Bell) : State :=
  { s with time := { s.time with bells := tabSet (bellDefault b) s.time.bells b x } }
/-- Whether a periodic bell fires at an air time. -/
def periodicFires (x : Bell) (n : Nat) : Bool := x.period ≠ 0 && n % x.period == x.phase
/-- A firing brings a written period and phase into force (14 R375). -/
def afterFiring (x : Bell) : Bell :=
  { x with period := x.newPeriod.getD x.period, phase := x.newPhase.getD x.phase, newPeriod := none, newPhase := none }

/-! ### Double-buffered tables (05 R120, R129; 09 R250) -/

/-- The table a one-shot bell swaps: 10 receive calibration, 11 transmit calibration, 12 + g the beam set of group g. -/
def swapTable (s : State) (b : Nat) : SwapTable :=
  if b = 10 then s.rx.cal else if b = 11 then s.tx.cal else beamsOf s (b - 12)
def setSwapTable (b : Nat) (t : SwapTable) (s : State) : State :=
  if b = 10 then { s with rx := { s.rx with cal := t } }
  else if b = 11 then { s with tx := { s.tx with cal := t } }
  else setBeams s (b - 12) t
/-- The answer to a swap time written (05 R120): the receive calibration alone keeps 256,000 ticks between swaps. -/
def armSwap (b v : Nat) (s : State) : State × Status :=
  let t := swapTable s b
  let x := bellOf s b
  let near := decide (x.armed < s.time.airTime + 64)
  if b = 10 ∧ v ≠ 0 ∧ t.last ≠ 0 ∧ v < t.last + 256000 then (s, .range)
  else if t.swapState = 2 then (s, .busy)
  else if t.swapState = 1 ∧ near then (s, .busy)
  else if v = 0 then (setSwapTable b { t with swapState := 0 } (setBell s b { x with armed := 0 }), .ok)
  else if v < s.time.airTime + 64 then (s, .late)
  else (setSwapTable b { t with swapState := 1 } (setBell s b { x with armed := v }), .ok)
/-- A write to a shadow entry or shift while a swap is armed or copying is BUSY; the RZ bits of a calibration entry are
ignored (05 R119; 00 R5). -/
def writeShadow (b k v : Nat) (s : State) : State × Status :=
  let t := swapTable s b
  let v := if b = 10 ∨ b = 11 then v % 2 ^ 47 else v
  if t.swapState ≠ 0 then (s, .busy) else (setSwapTable b { t with shadow := tabSet 0 t.shadow k v } s, .ok)
def writeShift (g v : Nat) (s : State) : State × Status :=
  let t := beamsOf s g
  if t.swapState ≠ 0 then (s, .busy) else (setBeams s g { t with shiftShadow := v }, .ok)
/-- Shadow becomes active at the bell; the copy to MRAM and to the shadow begins. -/
def swapped (t : SwapTable) (at_ : Nat) : SwapTable :=
  { t with active := t.shadow, shiftActive := t.shiftShadow, swapState := 2, last := at_
           prior := t.active, priorShift := t.shiftActive }
/-- The copy is complete. When within it MRAM comes to hold the new table the spec does not say: at its end, so that a BOOT
before restores the table from before the swap (DESIGN CHOICE, log entry 64). -/
def copied (t : SwapTable) : SwapTable :=
  { t with shadow := t.active, shiftShadow := t.shiftActive, mram := t.active, shiftMram := t.shiftActive, swapState := 0 }

/-- w_j . w_k^H over the antennas of a set, real and imaginary part. -/
def beamProduct (w : Tab Nat) (j k : Nat) : Int × Int :=
  (List.range 192).foldl (fun p a =>
    let x := tabGet 0 w (192 * j + a)
    let y := tabGet 0 w (192 * k + a)
    (p.1 + re16 x * re16 y + im16 x * im16 y, p.2 + im16 x * re16 y - re16 x * im16 y)) (0, 0)
/-- |w_j . w_k^H| >= |w_j| |w_k| / 2 (06 R151), squared. -/
def beamNeighbour (w : Tab Nat) (j k : Nat) : Bool :=
  let p := beamProduct w j k
  j ≠ k && decide ((beamProduct w j j).1 * (beamProduct w k k).1 ≤ 4 * (p.1 * p.1 + p.2 * p.2))
/-- The neighbour masks of a group's active set. -/
def computeMasks (g : Nat) (s : State) : State :=
  let w := (beamsOf s g).active
  { s with sweep := { s.sweep with masks := (List.range 32).foldl (fun t k =>
    tabSet 0 t (32 * g + k) ((List.range 32).foldl (fun m j => if beamNeighbour w j k then m + 2 ^ j else m) 0)) s.sweep.masks } }
/-- A swap or a change of merge width separates the hits of a group before and after it (06 R152). -/
def newEpoch (g : Nat) (s : State) : State :=
  { s with sweep := { s.sweep with epochs := tabMod 0 s.sweep.epochs g (· + 1) } }
/-- Antennas that a calibration swap disables are erased from the swap on, those it enables no longer (05 R114, R120). -/
def swapEnables (at_ : Nat) (s : State) : State :=
  let on (a : Nat) : Bool := (tabGet 0 s.rx.cal.active a).testBit 46
  let ended := s.rx.erasures.map (fun x =>
    if x.cause = causeDisabled ∧ x.hi = none ∧ on x.antenna then { x with hi := some (at_ - 1) } else x)
  let open_ (a : Nat) : Bool := ended.any (fun x => x.antenna == a && x.cause == causeDisabled && x.hi.isNone)
  let new := ((List.range 192).filter (fun a => !on a && !open_ a)).map (fun a => (⟨a, at_, none, causeDisabled⟩ : Erasure))
  { s with rx := { s.rx with erasures := ended ++ new } }
/-- A weight of a running capture over the conjugate of the correction's ratio at its span's centre: with it a sample from before
the swap, taken times the ratio, combines to what it did (05 R121; DEDUCED, log entry 67). -/
def followSwap (t : SwapTable) (a bin m : Nat) (w : Int × Int) : Int × Int :=
  let old := tabGet 0 t.prior a
  let new := tabGet 0 t.active a
  let delay (e : Nat) : Int := (e / 2 ^ 32 % 2 ^ 14 : Nat)
  let turn := fxTurn ((2 * (bin : Int) + m - 513) * (delay new - delay old) % 262144 * (fxOne / 262144))
  let g := cxOf16 (new % 2 ^ 32)
  let v := cxMul (cxMul w (cxMul g (cxConj (cxOf16 (old % 2 ^ 32))))) turn
  let d : Nat := cxPower g * 2 ^ 64
  if d = 0 then w else (v.1 / (d : Int), v.2 / (d : Int))
/-- The weights of every capture that combines follow a calibration swap (05 R121). -/
def followSwaps (s : State) : State :=
  { s with sweep := { s.sweep with captures := s.sweep.captures.map (fun p =>
      match p.2.stage, p.2.det with
      | 2, some d => (p.1, { p.2 with weights := p.2.weights.map (fun w =>
          (w.1, followSwap s.rx.cal w.1 d.bin (2 ^ d.mcode) w.2)) })
      | _, _ => p) } }
/-- What the swap of a table brings with it: floors restart (05 R144), masks are computed anew. Hits registered before a swap
whose suppression window is judged after it are judged by the new masks (DESIGN CHOICE, log entry 65). -/
def afterSwap (b at_ : Nat) (s : State) : State :=
  if b = 10 then staleFloors { swapEnables at_ (followSwaps s) with rx := { s.rx with calSwaps := s.rx.calSwaps ++ [at_] } }
  else if b = 11 then recalibrate at_ s
  else
    let g := b - 12
    newEpoch g (computeMasks g (staleBeams g s))

/-! ### Settings at their bells (05 R131, R146; 06 R174) -/

/-- The gain loops of a group's streams in a preamble slot restart at their current fixed gain, and the merged streams of
another width go (05 R131). A width that becomes 1 resets the beam-bin loops, whatever slot else is searched through them
(DESIGN CHOICE, log entry 65). -/
def resetStreams (g p : Nat) (s : State) : State :=
  let m := setting s 0x4003 1 (2 * g + p)
  let mc := mcodeOf m
  let old := s.rx.streams
  let kept := old.filter (fun x => !(x.1 / 512 / 32 == 1 + p && x.1 % 512 / 64 == g))
  let fresh := (List.range 32).flatMap (fun k => (List.range (64 / max 1 m)).map (fun i =>
    let key := loopKey p mc k (64 * g + i * m)
    let gain := fixedGain s (64 * g + i * m)
    (key, ({ gain := gain, fine := gain * 65536, frozen := (tabGet {} old key).frozen } : Stream))))
  { s with rx := { s.rx with
      streams := fresh.foldl (fun t x => tabSet {} t x.1 x.2) kept
      margins := s.rx.margins.filter (fun x => !(x.1 / 512 / 32 == p && x.1 % 512 / 64 == g)) } }
/-- Staged settings of a bell take effect. -/
def applyBell (b : Nat) (s : State) : State :=
  let mine := s.rx.staged.filter (fun x => x.bell == b)
  let s := { s with rx := { s.rx with staged := s.rx.staged.filter (fun x => x.bell ≠ b) } }
  mine.foldl (fun t x =>
    let idx := x.key / 2 ^ 40 % 65536
    let sub := x.key / 2 ^ 32 % 256
    let el := x.key % 2 ^ 32
    let changed := setting t idx sub el ≠ x.value
    let t := putSetting t 0 idx sub el x.value
    if idx = 0x4003 ∧ changed then newEpoch (el / 2) (resetStreams (el / 2) (el % 2) t) else t) s

/-! ### The timebase becomes valid (14 R373, Table 14.2 step 5) -/

def ceil32 (n : Nat) : Nat := ceilDiv n 32 * 32
/-- Air time that the timebase takes, and whether it is an extrapolation or a persisted value. -/
def startAirTime (t : TimeUnit) : Nat × Bool :=
  if t.pendingEpoch ≠ 0 then (t.pendingEpoch, false)
  else if t.careSince then (ceil32 (t.atX + (64 * (t.careUs - t.usX) + 5) / 10), true)
  else (ceil32 t.persistedAt, true)
/-- One-shot bells whose air time passed are cancelled, counted and recorded (14 R376). -/
def missBells (s : State) : State :=
  (s.time.bells.filter (fun p => p.2.armed ≠ 0 && decide (p.2.armed < s.time.airTime))).foldl (fun t p =>
    let t := setBell t p.1 { p.2 with armed := 0, missed := inc32 p.2.missed }
    let t := if 10 ≤ p.1 ∧ p.1 < 20 then setSwapTable p.1 { swapTable t p.1 with swapState := 0 } t else t
    missRecord p.1 t) s
/-- Step 5 of Table 14.2 at an air time; lanes and receive chain wait for step 8 of a BOOT (14 R466). -/
def validTimebaseAt (n : Nat) (ex : Bool) (s : State) : State :=
  let s := { s with
    time := { s.time with valid := true, loopLock := true, refLost := false, rimStop := false, qualified := false,
                          restart := false, airTime := n, extrap := ex, pendingEpoch := 0, rimHeld := [], fired := [] }
    tx := { s.tx with filledAt := (List.range 12).foldl (fun t h => tabSet 0 t h n) s.tx.filledAt } }
  let s := missBells s
  match s.mode.mode with
  | .boot => s
  | .safe => enableLanes s
  | _ => startReceive (enableLanes s)
/-- The timebase becomes valid of itself (14 R373). -/
def validTimebase (s : State) : State := validTimebaseAt (startAirTime s.time).1 (startAirTime s.time).2 s

end Sys2Proof.Machine
end

