-- ==== Sys2Proof/Machine/Time.lean ====
section
/-! DEFINITION. The commands of the reference, the timebase, bells, pace and the ledger clock (14; 08 R219). -/

namespace Sys2Proof.Machine

/-! ### Reference and timebase -/

/-- A loss from a valid timebase: stops, lanes, rim clocks, supplies; REF, save during BOOT (14 R466). -/
def losing (s : State) : State :=
  let booting := s.mode.mode == .boot
  let t := loseReference ((List.range 12).foldl (fun u h => fillBucket h u) s)
  if booting then { t with mode := { t.mode with causeRef := s.mode.causeRef } } else t
/-- REFERENCE_LOST (14 R371, R372; 02 R45). -/
def execReferenceLost (s : State) : Out :=
  match s.mode.mode with
  | .off => .next s
  | .lastGasp => .next s
  | _ =>
    if s.time.valid then
      let s := losing s
      let s := { s with time := { s.time with refLosses := inc32 s.time.refLosses, restart := false } }
      .next (settle (errRecord { unit := unitCaretaker, code := .timing, severity := .minor } s))
    else .next { s with time := { s.time with qualified := false, restart := false } }
/-- REFERENCE_QUALIFIED (14 Table 14.2 step 4). -/
def execReferenceQualified (s : State) : Out :=
  if s.mode.mode ≠ .off ∧ s.time.refLost then .next { s with time := { s.time with qualified := true } } else .next s
/-- TIMEBASE_VALID (14 R373, Table 14.2 step 5). REF waits for a working lane in lock (02 R43). -/
def execTimebaseValid (s : State) : Out :=
  match s.mode.mode with
  | .off => .next s
  | .lastGasp => .next s
  | _ => if s.time.qualified && !followsHead s then .next (settle (validTimebase s)) else .next s
/-- 0x2010:04. -/
def writeEpoch (v : Nat) (s : State) : State × Status :=
  if followsHead s then (s, .refused) else ({ s with time := { s.time with pendingEpoch := v } }, .ok)
/-- 0x2010:05 (14 R374). -/
def writeRestart (v : Nat) (s : State) : State × Status :=
  if v ≠ 1 then (s, .range)
  else if isServing s || followsHead s then (s, .refused)
  else
    let s := if s.time.valid then losing s else { s with time := { s.time with qualified := false } }
    (settle { s with time := { s.time with restart := true } }, .ok)
/-- TIMEBASE_RESTART (14 R374). -/
def execTimebaseRestart (vi : Fin 16) (v : Nat) (s : State) : Out :=
  answered (checkedWrite vi 0x2010 5 0 1 v (writeRestart v) s)

/-! ### Bells -/

/-- A bell fires: swaps, settings, the snapshot, then its port (14 R375; 11 Table 11.1). -/
def fireBell (b at_ : Nat) (s : State) : State :=
  let x := bellOf s b
  if x.armed = at_ ∧ at_ ≠ 0 then
    let s := setBell s b { x with armed := 0 }
    let s := if 10 ≤ b ∧ b < 20 then afterSwap b at_ (setSwapTable b (swapped (swapTable s b) at_) s) else s
    raisePort b at_ s
  else if periodicFires x at_ && !hasFired b at_ s then
    let s := setBell (markFired b at_ s) b (afterFiring x)
    let s := if b < 8 then applyBell b s else s
    let s := if b = 9 then takeSnap { s with time := { s.time with snapshotAt := at_ } } else s
    raisePort b at_ s
  else s
/-- BELL_FIRE (14 R375, R376): none fires while the timebase is invalid, none in the past. -/
def execBellFire (b : Fin 64) (at_ : Nat) (s : State) : Out :=
  if s.time.valid ∧ s.time.airTime ≤ at_ then .next (settle (fireBell b at_ (advanceTo at_ s))) else .next s
/-- 0x2030:01 and :02 (14 R375). -/
def writeBell (b : Nat) (phase : Bool) (v : Nat) (s : State) : State × Status :=
  let x := bellOf s b
  if b = 9 ∧ !phase ∧ ¬(32 ≤ v ∧ v ≤ 64000000 ∧ v % 32 = 0) then (s, .range)
  else if phase ∧ x.newPeriod.getD x.period ≠ 0 ∧ x.newPeriod.getD x.period ≤ v then (s, .range)
  else if b < 9 ∨ (10 ≤ b ∧ b < 20) ∨ (b = 9 ∧ phase) then (s, .refused)
  else if x.period = 0 then (setBell s b (if phase then { x with phase := v } else { x with period := v }), .ok)
  else (setBell s b (if phase then { x with newPhase := some v } else { x with newPeriod := some v }), .ok)
/-- BELL_WRITE (14 R375). -/
def execBellWrite (vi : Fin 16) (phase : Bool) (b v : Nat) (s : State) : Out :=
  answered (checkedWrite vi 0x2030 (if phase then 2 else 1) b 4 v (writeBell b phase v) s)

/-! ### Pace (14 R383, Table 14.5) -/

/-- Levels 4 to 15 an island has not shed yet, from 15 down. -/
def nextShed (x : Island) : Option Nat := ((List.range 12).map (fun i => 15 - i)).find? (fun n => !x.shed.contains n)
/-- Levels 4 to 15 are all shed, by one island or another (01 R27). -/
def allShed (s : State) : Bool := (List.range 12).all (fun i => s.pace.islands.any (fun p => p.2.shed.contains (4 + i)))
/-- One island at the end of a window: its new state, and whether ADMIT0 has just been set. -/
def paceRule (all : Bool) (margin measured : Nat) (x : Island) : Island × Bool :=
  let req := x.required
  let target := req * (100 + margin)
  let at85 := decide (850 ≤ x.supply)
  let low := decide (measured * 100 < target)
  let x := { x with
    measured := measured
    below := if low then inc32 x.below else x.below
    lowRun := if low && at85 then x.lowRun + 1 else 0
    reqRun := if req * 105 ≤ measured * 100 then x.reqRun + 1 else 0
    highRun := if target * 105 ≤ measured * 10000 then x.highRun + 1 else 0
    okRun := if target ≤ measured * 100 then x.okRun + 1 else 0
    fastRun := if target * 106 < measured * 10000 then x.fastRun + 1 else 0 }
  if measured < req ∧ all then ({ x with admit0 := true }, !x.admit0)
  else if 4 ≤ x.lowRun then
    (match nextShed x with
     | some n => { x with pace := true, shed := n :: x.shed }
     | none => { x with pace := true }, false)
  else if measured * 10000 < target * 102 ∧ x.supply < 850 then ({ x with supply := x.supply + 5 }, false)
  else if x.admit0 ∧ 64 ≤ x.reqRun then ({ x with admit0 := false }, false)
  else if x.shed ≠ [] ∧ 64 ≤ x.highRun then ({ x with shed := x.shed.tail }, false)
  else if x.pace ∧ x.shed = [] ∧ 64 ≤ x.okRun then ({ x with pace := false }, false)
  else if 16 ≤ x.fastRun ∧ x.shed = [] ∧ 700 < x.supply then ({ x with supply := x.supply - 5 }, false)
  else (x, false)
/-- What a window tells an island's report card (15 R408, Table 15.7 SLACK): (measured - target) / target in 0.1 %, and
whether the island needs 0.85 V to hold its target, which it does where rule 7 of Table 14.5 would not lower it (DEDUCED, log
entry 69). -/
def noteAge (i : Nat) (old x : Island) (s : State) : State :=
  let target := x.required * (100 + setting s 0x2040 1 0)
  let c := cardOf s (unitIsland i)
  let cool := decide (s.power.baseplate < 550)
  let need := cool && decide (850 ≤ old.supply) && decide (x.measured * 10000 ≤ target * 106)
  if target = 0 then s
  else
    let slack := clampInt (-32768) 32767 (roundHalfEven (1000 * ((x.measured * 100 : Nat) - (target : Int))) target)
    setCard s (unitIsland i) { c with
      slackNow := some (match c.slackNow with
        | some m => min m slack
        | none => slack)
      cool := c.cool || cool, need := c.need || need }
/-- One island's window; R27's record as ADMIT0 is set. -/
def paceIsland (i count : Nat) (s : State) : State :=
  let old := islandOf s i
  let (x, late) := paceRule (allShed s) (setting s 0x2040 1 0) (count / 16) old
  let s := noteAge i old x (moveSupply i x.supply (setIsland s i { x with supply := old.supply }))
  if late then errRecord { unit := unitIsland i, code := .pace, severity := .major } s else s
/-- PACE_WINDOW_END (14 R383): the counts of islands 0 to 18 over the window that ends. -/
def execPaceWindowEnd (counts : List Nat) (s : State) : Out :=
  if s.time.valid = false ∨ s.mode.mode = .boot ∨ s.mode.mode = .off then .next s
  else .next (settle ((List.range 19).foldl (fun t i => match counts[i]? with
    | some c => paceIsland i c t
    | none => t) s))

/-! ### The ledger clock (08 R219; 14 R373, R465) -/

/-- LEDGER_SECOND: the Caretaker has counted at least one second since the last one; ledger clock, count and air time are
persisted. -/
def execLedgerSecond (s : State) : Out :=
  if s.mode.mode = .off then .next s
  else
    let c := max s.time.careUs (s.time.carePersisted + 1000000)
    let n := if s.time.valid then s.time.airTime + (c - s.time.careUs) * 32 / 5 else s.time.airTime
    .next { s with
      time := { s.time with careUs := c, airTime := n, ledger := inc32 s.time.ledger, ledgerPersisted := inc32 s.time.ledger
                            carePersisted := c, persistedAt := if s.time.valid then n else s.time.persistedAt }
      power := { s.power with
        poweredSeconds := inc32 s.power.poweredSeconds
        baseplateSum := s.power.baseplateSum + s.power.baseplate, baseplateSeconds := s.power.baseplateSeconds + 1 }
      fault := { s.fault with relayTest := if 1 < s.fault.relayTest then s.fault.relayTest - 1 else s.fault.relayTest } }
/-- 0x6001:02. -/
def writeInterval (v : Nat) (s : State) : State × Status :=
  if s.time.gap then
    let n := (s.time.ledger + v) % 2 ^ 32
    (journalRoll causeStation 0 {} (.clock v)
      { s with time := { s.time with ledger := n, ledgerPersisted := n, gap := false } }, .ok)
  else (s, .refused)
/-- UNPOWERED_INTERVAL_WRITE (08 R219). -/
def execUnpoweredIntervalWrite (vi : Fin 16) (v : Nat) (s : State) : Out :=
  answered (checkedWrite vi 0x6001 2 0 4 v (writeInterval v) s)

/-! ### Calibration swaps (05 R120) -/

/-- CALIBRATION_SWAP_ARM: a write of 0x4001:03. -/
def execCalibrationSwapArm (vi : Fin 16) (v : Nat) (s : State) : Out :=
  answered (checkedWrite vi 0x4001 3 0 8 v (armSwap 10 v) s)
/-- CALIBRATION_COPY_DONE, of the table a bell from 10 to 19 swapped. -/
def execCalibrationCopyDone (t : Fin 10) (s : State) : Out :=
  let x := swapTable s (10 + t)
  if x.swapState = 2 then .next (setSwapTable (10 + t) (copied x) s) else .next s

end Sys2Proof.Machine
end

