-- ==== Sys2Proof/Machine/Signal.lean ====
section
/-! DEFINITION. The receive chain's signal path: calibrated samples, the channelizer, flags, the history store, beams, bin
merging, gain loops and margins (05 R114 to R135; 06 R147, R148). Values between two roundings of the spec are held in
2^-16 of a sample's unit, which is 1/32,767 of full scale (log entry 66). -/

namespace Sys2Proof.Machine

/-! ### Calibrated samples (05 R118) -/

/-- The block of a head's samples that holds a sampling time in 1/96 tick. -/
def blockAt (s : State) (h t96 : Nat) : Option HeadBlock :=
  s.rx.head.reverse.find? (fun b => b.head == h && decide (b.t96 ≤ t96) && decide (t96 < b.t96 + 3072))
/-- The sample of a module antenna whose sampling time lies nearest to a time in 1/96 tick; none: an erasure. -/
def headSample (s : State) (m t96 : Nat) : Option Cx :=
  match blockAt s (m / 16) (t96 + 48) with
  | some b => (b.samples[16 * ((t96 + 48 - b.t96) / 96) + m % 16]?).join
  | none => none
/-- The head stream of an antenna interpolated at sampling time n + D_a, in 2^-30: 33 samples about it, an erased one zero. -/
def interpolated (s : State) (m n : Nat) : Cx :=
  let t := 768 * n + 3 * (calEntry s n m / 2 ^ 32 % 2 ^ 14)
  match blockAt s (m / 16) (t / 8) with
  | none => (0, 0)
  | some b =>
    let base := b.t96 + 96 * ((t / 8 - b.t96) / 96)
    (List.range 33).foldl (fun v j =>
      let x := (headSample s m (base + 96 * j - 1536)).getD (0, 0)
      let w := Config.interpolator (t - 8 * base) j
      (v.1 + w * x.1, v.2 + w * x.2)) (0, 0)
/-- The calibrated sample of antenna m at air time n: zero where it is erased (05 R114), else interpolated, times G_a, times
the head gain compensation. -/
def calSample (s : State) (m n : Nat) : Cx :=
  if erasedAt s m n then (0, 0)
  else
    let v := cxMul (interpolated s m n) (cxOf16 (calEntry s n m % 2 ^ 32))
    let k := fxPow10 (compAt s m n) 40
    (v.1 * k / 2 ^ 92, v.2 * k / 2 ^ 92)

/-! ### Channelizer (05 R122 to R124) -/

/-- Tap k of the prototype's 8,193, symmetric about the middle one: a delay of 4,096 ticks. -/
def protoTap (k : Nat) : Int := Config.prototype (min k (8192 - k))
/-- The prototype's gain at the centre of a bin, which Table 5.3 puts at 0 dB. -/
def protoSum : Nat := (((List.range 8193).map protoTap).sum).natAbs
/-- Bin sample n of bin b, from the 8,193 calibrated samples up to air time 256 n, the newest first. -/
def binOutput (xs : List Cx) (n b : Nat) : Cx :=
  let v := (xs.zipIdx).foldl (fun v p =>
    let turn : Int := (256 - (b : Int)) * (256 * (n : Int) - (p.2 : Int)) % 512
    let e := fxTurn (turn * (fxOne / 512))
    let w := protoTap p.2
    cxAdd v (cxMul (w * p.1.1, w * p.1.2) (e.1 / 2 ^ 32, e.2 / 2 ^ 32))) ((0, 0) : Cx)
  (roundHalfEven v.1 (protoSum * 2 ^ 48), roundHalfEven v.2 (protoSum * 2 ^ 48))
/-- Outputs of the channelizer for bin sample n before saturation, by 512a + b, of the antennas whose heads have brought
samples; all others are zero. -/
def binOutputs (s : State) (n : Nat) : List (Nat × Int × Int) :=
  ((List.range 192).filter (fun m => s.rx.head.any (fun b => b.head == m / 16))).flatMap (fun m =>
    let xs := (List.range 8193).map (fun k => calSample s m (256 * n - k))
    (List.range 512).map (fun b => (512 * m + b, binOutput xs n b)))

/-! ### Flags and words (05 R115, R116) -/

/-- Centre time of bin sample n. -/
def binCentre (n : Nat) : Nat := 256 * n - 4096
/-- Causes that bin sample n of antenna a carries: every erasure and every calibration swap within 512 ticks of its
centre, and a head gain change that no reply has settled (R137). -/
def binCauses (s : State) (n a : Nat) : Nat :=
  let lo := binCentre n - 512
  let hi := binCentre n + 512
  let e : Nat := s.rx.erasures.foldl (fun m x =>
    if x.antenna == a && decide (x.lo ≤ hi) && decide (lo ≤ x.hi.getD hi) then m ||| (x.cause &&& 31) else m) 0
  let g := if s.rx.gainPending.any (fun c => c.antenna == a && decide (c.atG - 2 ≤ hi) && decide (c.atG ≤ s.time.airTime))
           then causeGain else 0
  let c := if s.rx.calSwaps.any (fun t => decide (lo ≤ t) && decide (t ≤ hi)) then causeCal else 0
  e ||| g ||| c
/-- Word of Table 5.1 for an ordinary bin sample; the channelizer saturates at 32,767 (R116). -/
def sat16 (v : Int) : Int := clampInt (-32767) 32767 v
def iqWord (i q : Int) : Nat := ofSigned 16 (sat16 i) + 65536 * ofSigned 16 (sat16 q)
/-- Word of a flagged sample. -/
def flaggedWord (causes : Nat) : Nat := 0x8000 + 65536 * (causes % 32)
/-- A word is a flagged sample's. -/
def isFlagged (w : Nat) : Bool := w % 65536 == 0x8000
def saturates (i q : Int) : Bool := decide (sat16 i ≠ i) || decide (sat16 q ≠ q)

/-! ### History store (05 R125, R126) -/

/-- The row of a bin sample in the history store, before the beams are formed. -/
def histRow (s : State) (n : Nat) (samples : List (Nat × Int × Int)) : HistRow :=
  let causes : Tab Nat := (List.range 192).foldl (fun t a => tabSet 0 t a (binCauses s n a)) []
  { n := n, causes := causes
    words := samples.foldl (fun t x =>
      if x.1 < 98304 ∧ tabGet 0 causes (x.1 / 512) = 0 then tabSet 0 t x.1 (iqWord x.2.1 x.2.2) else t) [] }
/-- The row the ring holds for bin sample n. -/
def rowOf (s : State) (n : Nat) : Option HistRow :=
  let r := tabGet {} s.rx.history (n % 1000)
  if r.n = n ∧ s.rx.histFrom ≤ n ∧ n < s.rx.histNext then some r else none
/-- The word of antenna a and bin b of a row as it is delivered: POISON where it holds an uncorrectable error. -/
def rowWord (r : HistRow) (a b : Nat) : Nat :=
  let c := tabGet 0 r.causes a
  if r.poison.contains (512 * a + b) then flaggedWord (c ||| causePoison)
  else if c ≠ 0 then flaggedWord c
  else tabGet 0 r.words (512 * a + b)
/-- A read of the history store (R126): the word of antenna a and bin b of bin sample n. -/
def readHistory (s : State) (n a b : Nat) : Status × Nat :=
  if s.rx.histNext ≤ n then (.busy, 0)
  else match rowOf s n with
    | none => (.range, 0)
    | some r => (.ok, rowWord r a b)
/-- Words that a read finds to hold an uncorrectable error, each by bin sample, antenna and bin: they are flagged POISON from
then on and counted (R126). -/
def poisonWords (l : List (Nat × Nat × Nat)) (s : State) : State :=
  let l := l.dedup.filter (fun w => (rowOf s w.1).isSome && decide (w.2.1 < 192) && decide (w.2.2 < 512))
  l.foldl (fun t w => { t with rx := { t.rx with
    histPoison := inc32 t.rx.histPoison
    history := tabMod {} t.rx.history (w.1 % 1000) (fun r => { r with poison := (512 * w.2.1 + w.2.2) :: r.poison.erase (512 * w.2.1 + w.2.2) }) } }) s
/-- Calibrated samples of the period (256 (n - 1), 256 n] that are erased. -/
def erasedTicks (s : State) (n a : Nat) : Nat :=
  let lo := 256 * (n - 1) + 1
  256 - uncovered lo (256 * n) (s.rx.erasures.filterMap (fun x =>
      if x.antenna = a then some (x.lo, x.hi.getD (256 * n)) else none)
    ++ (s.rx.gainPending.filter (fun g => g.antenna == a && decide (g.atG ≤ s.time.airTime))).map (fun g =>
      (g.atG - 2, 256 * n)))

/-! ### Beams (05 R127, R129) -/

/-- Weights and shift of a group's beam set for bin sample n: a swap takes effect from the first time stamp at or after it. -/
def setFor (t : SwapTable) (n : Nat) : Tab Nat × Nat :=
  if 256 * n < t.last then (t.prior, t.priorShift) else (t.active, t.shiftActive)
/-- Output k of the beam-set former for one bin: flagged samples count as zero, and so do those not listed. -/
def beamSample (set : Tab Nat × Nat) (k : Nat) (xs : List (Nat × Int × Int)) : Cx :=
  let acc := xs.foldl (fun p x => cxAdd p (cxMul (cxOf16 (tabGet 0 set.1 (192 * k + x.1))) x.2)) ((0, 0) : Cx)
  let d := 2 ^ (15 + set.2)
  (sat16 (roundHalfEven acc.1 d), sat16 (roundHalfEven acc.2 d))
/-- The beams of every bin that holds a sample. -/
def formBeams (s : State) (r : HistRow) : Tab (Int × Int) :=
  let bins := (r.words.map (fun p => p.1 % 512)).eraseDups
  bins.foldl (fun t b =>
    let xs := r.words.filterMap (fun p => if p.1 % 512 = b then some (p.1 / 512, re16 p.2, im16 p.2) else none)
    (List.range 32).foldl (fun u k => tabSet (0, 0) u (32 * b + k) (beamSample (setFor (beamsOf s (b / 64)) r.n) k xs)) t) []
/-- The reduced-aperture mark of a bin sample period: some antenna is flagged. -/
def marked (r : HistRow) : Bool := !r.causes.isEmpty
/-- A bin sample period from lo to hi carries the mark. -/
def anyMarked (s : State) (lo hi : Nat) : Bool :=
  s.rx.history.any (fun p => decide (s.rx.histFrom ≤ p.2.n) && decide (lo ≤ p.2.n) && decide (p.2.n ≤ hi) && marked p.2)

/-! ### Bin merging (05 R130, R131) -/

/-- Bin sample periods before the newest that a merged sample draws on (05 R124: 512 ticks of delay either side). -/
def mergeReach (m : Nat) : Nat := if m = 1 then 0 else 4
/-- Ticks a merged sample draws on to either side of its centre. -/
def mergeSpan (m : Nat) : Nat := if m = 1 then 0 else 512
/-- Centre time of stream sample j at merge width m. -/
def streamCentre (m j : Nat) : Nat := 256 * j / m - (if m = 1 then 4096 else 4608)
/-- Stream sample j of a span of m bins, in 2^-16, from the bin samples `x i r` of its bins, r periods before the newest one
it draws on: each bin is interpolated to the stream rate and moved to its place about the span's centre. -/
def mergedSample (m j : Nat) (x : Nat → Nat → Cx) : Cx :=
  if m = 1 then ((x 0 0).1 * 2 ^ 16, (x 0 0).2 * 2 ^ 16)
  else
    let v := (List.range m).foldl (fun v i =>
      let y := (List.range 5).foldl (fun y r =>
        let w := Config.mergeTap m (j % m) r
        cxAdd y (w * (x i r).1, w * (x i r).2)) ((0, 0) : Cx)
      let turn : Int := (2 * (i : Int) - m + 1) * ((j : Int) - 18 * m) % (4 * m)
      let e := fxTurn (turn * fxOne / (4 * m))
      cxAdd v (cxMul y (e.1 / 2 ^ 32, e.2 / 2 ^ 32))) ((0, 0) : Cx)
    (v.1 / 2 ^ 46, v.2 / 2 ^ 46)
/-- Stream sample j of a beam and a span. -/
def beamStream (s : State) (beam bin m j : Nat) : Cx :=
  mergedSample m j (fun i r => match rowOf s (j / m - r) with
    | some x => tabGet (0, 0) x.beams (32 * (bin + i) + beam)
    | none => (0, 0))

/-! ### Gain loops (05 R132 to R135) -/

/-- Merge width of a preamble slot of a group. -/
def mergeWidth (s : State) (g p : Nat) : Nat := max 1 (setting s 0x4003 1 (2 * g + p))
def slotProfile (s : State) (g p : Nat) : Nat := setting s 0x4010 1 (2 * g + p)
def loopFixed (s : State) (g : Nat) : Bool := setting s 0x4004 1 g == 1 || bigStack s
/-- Power of one, in the 2^-32 of a sample held in 2^-16, at full scale. -/
def fullPower : Nat := 32767 ^ 2 * 2 ^ 32
/-- A level in 0.1 dBFS; that of zero is free (log entry 5). -/
def levelOf (power full : Nat) : Int := if power = 0 ∨ full = 0 then Config.zeroLevel else tenthsDb power full
/-- A gain in 0.1 dB. -/
def amplified (v : Cx) (gain : Int) : Cx :=
  let k := fxPow10 gain 200
  (v.1 * k / 2 ^ 64, v.2 * k / 2 ^ 64)
/-- Outputs of a group's loops that are kept: the longest preamble reference searched in it. -/
def outputsKept (s : State) (g : Nat) : Nat :=
  max (preambleL (slotProfile s g 0) (mergeWidth s g 0)) (preambleL (slotProfile s g 1) (mergeWidth s g 1))
/-- One stream sample through a loop: its output at the present gain, then the update, which closes 1/tau of the distance to
the target in dB (log entry 66). A frozen loop holds, and so does one whose sample carries the reduced-aperture mark; in
mode 1 the fixed gain applies, to a frozen loop too (05 R134 and R135 do not say which wins: DESIGN CHOICE, log entry 65). -/
def stepLoop (s : State) (bin : Nat) (v : Cx) (mark : Bool) (l : Stream) : Stream :=
  let g := bin / 64
  let fixed := loopFixed s g
  let l := if fixed then { l with gain := fixedGain s bin, fine := fixedGain s bin * 65536 } else l
  let l := { l with out := (amplified v l.gain :: l.out).take (outputsKept s g) }
  if fixed ∨ l.frozen ≠ 0 ∨ mark then l
  else
    let aim := toSigned 16 (setting s 0x4004 2 g) - levelOf (cxPower v) fullPower
    let tau : Int := max 1 (setting s 0x4004 3 g)
    let fine := clampInt (-300 * 65536) (600 * 65536) (l.fine + (aim * 65536 - l.fine) / tau)
    { l with fine := fine, gain := roundHalfEven fine 65536 }

/-! ### Margins (06 R148) -/

/-- Sum of the beam-bin floors of a span, as a power in 2^-64 of full scale. -/
def spanFloor (s : State) (beam bin m : Nat) : Nat :=
  ((List.range m).map (fun i => fxPow10 (tabGet 0 s.rx.beamFloor (32 * (bin + i) + beam)) 100)).sum.toNat
/-- The floor in use, in 0.1 dBFS. -/
def floorInUse (s : State) (beam bin m : Nat) : Int :=
  if m = 1 then tabGet 0 s.rx.beamFloor (32 * bin + beam) else clampInt (-32768) 32767 (levelOf (spanFloor s beam bin m) (2 ^ 64))
/-- |c|^2 / (e n) of the L newest outputs of a stream against the preamble of a profile, as numerator and denominator. -/
def marginOf (s : State) (id m beam bin : Nat) (l : Stream) (gain : Int) : Nat × Nat :=
  let len := preambleL id m
  let c := (List.range len).foldl (fun c k =>
    cxAdd c (cxMul ((l.out[k]?).getD (0, 0)) (cxConj (Config.preamble id m (len - 1 - k))))) ((0, 0) : Cx)
  let e := ((List.range len).map (fun k => cxPower (Config.preamble id m k))).sum
  (cxPower c * 2 ^ 128, e * fullPower * spanFloor s beam bin m * (fxPow10 gain 100).toNat)
/-- Order of two margins. -/
def ratioLt (a b : Nat × Nat) : Bool := decide (a.1 * b.2 < b.1 * a.2)

end Sys2Proof.Machine
end

