-- ==== Sys2Proof/Machine/Rx.lean ====
section
/-! DEFINITION. The receive chain at each bin sample: streams and hits, noise floors, head gain, and their commands (05; 06
R147 to R154). -/

namespace Sys2Proof.Machine

/-! ### Streams and hits (06 R147 to R154) -/

/-- The floors of a stream's span: all taken since the restart, and any STALE. -/
def spanTaken (s : State) (beam bin m : Nat) : Bool :=
  (List.range m).all (fun i => tabGet false s.rx.beamTaken (32 * (bin + i) + beam))
def spanStale (s : State) (beam bin m : Nat) : Bool :=
  (List.range m).any (fun i => !tabGet false s.rx.beamFresh (32 * (bin + i) + beam))
/-- Threshold of a stream in 0.1 dB (R149). -/
def hitThreshold (s : State) (g p : Nat) (stale : Bool) : Int :=
  (setting s 0x4010 2 (2 * g + p) : Int) + if stale then (setting s 0x4010 4 g : Int) else 0
/-- Margin `new` at stream sample j: the sample before it is a hit where its margin is a local peak at the threshold. -/
def takeMargin (p beam bin m j : Nat) (new : Nat × Nat) (s : State) : State :=
  let g := bin / 64
  let key := streamKey p beam bin
  let old := tabGet [] s.rx.margins key
  let stale := spanStale s beam bin m
  let s := { s with rx := { s.rx with margins := tabSet [] s.rx.margins key (new :: old.take 1) } }
  match old with
  | m1 :: m2 :: _ =>
    if sweepRuns s && spanTaken s beam bin m && atLeastDb m1.1 m1.2 (hitThreshold s g p stale) && ratioLt m2 m1 && ratioLt new m1
    then
      let len := preambleL (slotProfile s g p) m
      let h : Hit := { p := p, g := g, bin := bin, mcode := mcodeOf m, beam := beam, peakAt := streamCentre m (j - 1), margin := m1,
                       floor := floorInUse s beam bin m
                       rap := anyMarked s ((j - len) / m - mergeReach m) ((j - 1) / m), stale := stale,
                       epoch := tabGet 0 s.sweep.epochs g }
      { s with sweep := { s.sweep with hits := s.sweep.hits ++ [h] } }
    else s
  | _ => s
/-- Stream sample j of a beam and a span: through its loop, then the margins of the slots that search the stream. -/
def takeStream (slots : List Nat) (loopSlot beam bin m j : Nat) (s : State) : State :=
  let g := bin / 64
  let key := loopKey loopSlot (mcodeOf m) beam bin
  let v := beamStream s beam bin m j
  let old := streamOf s key
  let l := stepLoop s bin v (anyMarked s (j / m - mergeReach m) (j / m)) old
  let gain := if loopFixed s g then l.gain else old.gain
  (slots.filter (fun p => slotProfile s g p ≠ 0)).foldl (fun t p =>
    takeMargin p beam bin m j (marginOf s (slotProfile s g p) m beam bin l gain) t) (setStream s key l)
/-- The streams of a group over bin sample period n: every beam-bin, and the merged spans of each slot whose M exceeds 1. -/
def groupStreams (n g : Nat) (s : State) : State :=
  let single := (List.range 2).filter (fun p => mergeWidth s g p = 1)
  let s := (List.range 64).foldl (fun t i => (List.range 32).foldl (fun t k => takeStream single 0 k (64 * g + i) 1 n t) t) s
  ((List.range 2).filter (fun p => mergeWidth s g p ≠ 1)).foldl (fun t p =>
    let m := mergeWidth t g p
    (List.range (64 / m)).foldl (fun t i => (List.range 32).foldl (fun t k => (List.range m).foldl (fun t q =>
      takeStream [p] p k (64 * g + m * i) m (m * (n - 1) + 1 + q) t) t) t) t) s

/-- Whether two times lie within the suppression window of a hit's group. -/
def inWindow (s : State) (h : Hit) (a b : Nat) : Bool :=
  decide ((max a b - min a b) * profileRate (slotProfile s h.g h.p) ≤ setting s 0x4010 5 h.g * 6400000)
/-- The last stream sample of a hit's suppression window is available. -/
def windowDone (s : State) (h : Hit) : Bool :=
  let c := 256 * (s.rx.histNext - 1) - (if h.mcode = 0 then 4096 else 4608)
  decide (setting s 0x4010 5 h.g * 6400000 ≤ (c - h.peakAt) * profileRate (slotProfile s h.g h.p))
/-- R152's order between hits: greater margin, then earlier peak, lower bin, lower beam. -/
def hitBefore (a b : Hit) : Bool :=
  ratioLt b.margin a.margin || (!ratioLt a.margin b.margin && (decide (a.peakAt < b.peakAt) || (a.peakAt == b.peakAt &&
    (decide (a.bin < b.bin) || (a.bin == b.bin && decide (a.beam < b.beam))))))
/-- Two hits stand in a relation of R152: same group, slot and segment; same or adjacent span; same beam or neighbours. -/
def hitsRelated (s : State) (a b : Hit) : Bool :=
  let m := 2 ^ a.mcode
  a.g == b.g && a.p == b.p && a.epoch == b.epoch && a.mcode == b.mcode && inWindow s a a.peakAt b.peakAt
    && (a.bin == b.bin || a.bin + m == b.bin || b.bin + m == a.bin)
    && (a.beam == b.beam || ((tabGet 0 s.sweep.masks (32 * a.g + a.beam)).testBit b.beam
          && (tabGet 0 s.sweep.masks (32 * a.g + b.beam)).testBit a.beam))
/-- The strongest hit that suppresses a hit. -/
def suppressor (s : State) (h : Hit) : Option Hit :=
  (s.sweep.hits.filter (fun x => hitsRelated s h x && hitBefore x h)).foldl (fun m x => match m with
    | none => some x
    | some y => if hitBefore x y then some x else some y) none
/-- The surviving hit a suppressed one leads to. -/
def rootHit (s : State) : Nat → Hit → Hit
  | 0, h => h
  | n + 1, h => match suppressor s h with
    | some x => rootHit s n x
    | none => h
def modHit (h : Hit) (f : Hit → Hit) (s : State) : State :=
  { s with sweep := { s.sweep with hits := s.sweep.hits.map (fun x =>
    if x.p = h.p ∧ x.bin = h.bin ∧ x.beam = h.beam ∧ x.peakAt = h.peakAt then f x else x) } }
/-- A suppressed hit is counted against the bin of its detection, and into its NBHITS (R152). -/
def countSuppressed (h : Hit) (s : State) : State :=
  let r := rootHit s s.sweep.hits.length h
  let s := modHit h (fun x => { x with done := true })
    { s with sweep := { s.sweep with cSuppress := bump s.sweep.cSuppress r.bin } }
  match r.dseq with
  | some d => modDetection d (fun x => { x with nbHits := min 65535 (x.nbHits + 1) }) s
  | none => modHit r (fun x => { x with nbHits := x.nbHits + 1 }) s
/-- Suppressed hits whose window is complete are counted; hits that can bear on no later one go. -/
def settleHits (s : State) : State :=
  let s := (s.sweep.hits.filter (fun h => !h.done && windowDone s h && (suppressor s h).isSome)).foldl
    (fun t h => countSuppressed h t) s
  let last := 256 * (s.rx.histNext - 1)
  { s with sweep := { s.sweep with hits := s.sweep.hits.filter (fun h =>
      !(h.done && decide (3 * setting s 0x4010 5 h.g * 6400000 + 16384 * profileRate (slotProfile s h.g h.p)
        < (last - h.peakAt) * profileRate (slotProfile s h.g h.p)))) } }

/-! ### Settings (05 R146, R135; 06 R174) -/

/-- The head of a stack of five or more sends its fixed gains of the 32 bins around one in GAINS (18 R456). -/
def sendGains (bin : Nat) (s : State) : State :=
  if bigStack s && isHead s then
    let b := bin / 32 * 32
    cascadeSend 0x80 0x46 ([(1, s.stack.position), (1, 0x80), (2, b)]
      ++ (List.range 32).map (fun i => (2, setting s 0x4004 4 (b + i)))) s
  else s
/-- 0x4004:01 to :04 and 0x4003:01: the loop settings wait for the bell of their group; the fixed gain acts at once. -/
def writeLoop (idx sub el v : Nat) (s : State) : State × Status :=
  if idx = 0x4004 ∧ (sub = 1 ∨ sub = 4) ∧ bigStack s ∧ (followsHead s ∨ (sub = 1 ∧ v = 0)) then (s, .refused)
  else if idx = 0x4004 ∧ sub = 4 then (sendGains el (putSetting s 0 idx sub el v), .ok)
  else (stageSetting s (if idx = 0x4003 then el / 2 else el) idx sub el v, .ok)
/-- 0x4006:01 (05 R144): the period in progress is abandoned and every floor restarts; the new period begins with the next bin
sample the floor engine takes. -/
def writePeriod (v : Nat) (s : State) : State × Status :=
  let s := staleFloors (putSetting s 0 0x4006 1 0 v)
  ({ s with rx := { s.rx with floorRuns := [], periodFrom := max s.rx.histFrom (s.rx.histNext - 500) } }, .ok)

/-! ### Head gain (05 R136 to R138) -/

/-- The end of a window for one antenna: its level, and a GAIN of at most 6 dB where it lies more than 6 dB off the target. A
window in which no sample arrived good leaves the level and the gain. -/
def gainWindow (a : Nat) (s : State) : State :=
  let w := tabGet (0, 0) s.rx.wideSum a
  if w.1 = 0 then s
  else
    let level := clampInt (-32768) 32767 (levelOf w.2 (w.1 * 32767 ^ 2))
    let s := { s with rx := { s.rx with wideband := tabSet 0 s.rx.wideband a level } }
    let h := a / 16
    let target := toSigned 16 (setting s 0x4005 3 0)
    match activeLane s h with
    | some l =>
      if 60 < (level - target).natAbs then
        let id := (headOf s h).identity
        let old := gainToCome s a
        let new := clampInt (hidGainMin id) (hidGainMax id) (if target < level then old - 12 else old + 12)
        if new = old then s else sendGain l (2 ^ (a % 16)) new (gainTime s h) s
      else s
    | none => s

/-! ### Noise floors (05 R141 to R144) -/

/-- The first average of every bin group is complete (R143). -/
def allTaken (s : State) : Bool :=
  (List.range 512).all (fun b => (List.range 192).all (fun a => tabGet false s.rx.antTaken (512 * a + b))
    && (List.range 32).all (fun k => tabGet false s.rx.beamTaken (32 * b + k)))
/-- The first average of a bin group is complete. -/
def groupTaken (s : State) (g : Nat) : Bool :=
  (List.range 64).all (fun i => (List.range 192).all (fun a => tabGet false s.rx.antTaken (512 * a + 64 * g + i))
    && (List.range 32).all (fun k => tabGet false s.rx.beamTaken (32 * (64 * g + i) + k)))
/-- A detection in bin b is raised within 20 ms after bin sample n (R142). -/
def soonDetected (s : State) (n b : Nat) : Bool :=
  s.rx.raised.any (fun x => decide (x.1 ≤ b) && decide (b < x.1 + x.2.1) && decide (256 * n ≤ x.2.2)
    && decide (x.2.2 ≤ 256 * n + 128000))
/-- Bin sample n lies within the window of a capture of bin b, from its preamble window to its release (R142). -/
def insideCapture (s : State) (n b : Nat) : Bool :=
  s.sweep.captures.any (fun p => p.2.stage ≠ 0 && (match p.2.det with
      | some d => decide (d.bin ≤ b) && decide (b < d.bin + 2 ^ d.mcode) && decide (windowStart d ≤ binCentre n)
      | none => false))
    || s.rx.captured.any (fun x => decide (x.1 ≤ b) && decide (b < x.1 + x.2.1) && decide (x.2.2.1 ≤ binCentre n)
      && decide (binCentre n ≤ x.2.2.2))
/-- Bins that bin sample n may not count towards, bit b. -/
def busyBins (s : State) (n : Nat) : Nat :=
  (List.range 512).foldl (fun m b => if soonDetected s n b || insideCapture s n b then m + 2 ^ b else m) 0
/-- A bin sample joins the runs of the period, newest first; a restart of floors begins a run of its own. -/
def addRun (s : State) (n flagged busy : Nat) (poison : List Nat) : List FloorRun :=
  match s.rx.floorRuns with
  | r :: t =>
    if r.flagged = flagged ∧ r.busy = busy ∧ r.poison = poison ∧ r.first + r.count = n ∧ s.rx.floorsFrom ≠ n ∧ s.rx.beamsFrom.all (fun p => p.2 ≠ n)
    then { r with count := r.count + 1 } :: t
    else { first := n, flagged := flagged, busy := busy, poison := poison } :: r :: t
  | [] => [{ first := n, flagged := flagged, busy := busy, poison := poison }]
/-- The floor engine takes bin sample n (R142). A blanking interval that covers it flags it, so that the mark stands for it
with the beams. -/
def floorSample (n : Nat) (s : State) : State :=
  match rowOf s n with
  | none => s
  | some r =>
    if n < s.rx.periodFrom then s
    else
      let busy := busyBins s n
      let flagged := (List.range 192).foldl (fun m a => if tabGet 0 r.causes a ≠ 0 then m + 2 ^ a else m) 0
      let counts := decide (s.rx.floorsFrom ≤ n)
      { s with rx := { s.rx with
          floorRuns := addRun s n flagged busy r.poison
          antSum := if !counts then s.rx.antSum else r.words.foldl (fun t w =>
            if busy.testBit (w.1 % 512) || r.poison.contains w.1 then t else tabMod 0 t w.1 (· + power16 w.2)) s.rx.antSum
          beamSum := if !counts || marked r then s.rx.beamSum else r.beams.foldl (fun t w =>
            if busy.testBit (w.1 / 32) || decide (n < tabGet 0 s.rx.beamsFrom (w.1 / 2048)) then t
            else tabMod 0 t w.1 (· + cxPower w.2)) s.rx.beamSum } }
/-- Bin samples of the period from one on that qualify by a condition on their run. -/
def qualifying (s : State) (first : Nat) (ok : FloorRun → Bool) : Nat :=
  ((s.rx.floorRuns.filter ok).map (fun r => r.first + r.count - max r.first (min first (r.first + r.count)))).sum
def antQualifying (s : State) (a b : Nat) : Nat :=
  qualifying s s.rx.floorsFrom (fun r => !r.flagged.testBit a && !r.busy.testBit b && !r.poison.contains (512 * a + b))
def beamQualifying (s : State) (b : Nat) : Nat :=
  qualifying s (max s.rx.floorsFrom (tabGet 0 s.rx.beamsFrom (b / 64))) (fun r => r.flagged == 0 && !r.busy.testBit b)
/-- Bin samples of an averaging period. -/
def periodLength (s : State) : Nat := 25000 * setting s 0x4006 1 0
/-- The mean of a floor in 0.1 dBFS. -/
def meanLevel (sum count : Nat) : Int := clampInt (-32768) 32767 (levelOf sum (count * 32767 ^ 2))
/-- The keys whose floor takes its new mean: at least 10 % of the period's samples qualified. -/
def floorsTaken (total n : Nat) (count : Nat → Nat) : List Nat :=
  (List.range n).filter (fun k => decide (total ≤ 10 * count k))
/-- An averaging period ends (R143): a floor takes its mean and is fresh, or keeps its value and is STALE. The qualifying
fraction of a bin is that of its beam-bin floors, rounded down (DESIGN CHOICE, log entry 66). -/
def endFloorPeriod (s : State) : State :=
  let total := periodLength s
  let ant (k : Nat) : Nat := antQualifying s (k / 512) (k % 512)
  let beam (k : Nat) : Nat := beamQualifying s (k / 32)
  let as := floorsTaken total 98304 ant
  let bs := floorsTaken total 16384 beam
  let s := { s with rx := { s.rx with
    fraction := (List.range 512).foldl (fun t b => tabSet 0 t b (beamQualifying s b * 100 / total)) []
    antFloor := as.foldl (fun t k => tabSet 0 t k (meanLevel (tabGet 0 s.rx.antSum k) (ant k))) s.rx.antFloor
    antFresh := as.foldl (fun t k => tabSet false t k true) []
    antTaken := as.foldl (fun t k => tabSet false t k true) s.rx.antTaken
    beamFloor := bs.foldl (fun t k => tabSet 0 t k (meanLevel (tabGet 0 s.rx.beamSum k) (beam k))) s.rx.beamFloor
    beamFresh := bs.foldl (fun t k => tabSet false t k true) []
    beamTaken := bs.foldl (fun t k => tabSet false t k true) s.rx.beamTaken
    periodFrom := s.rx.periodFrom + total, floorRuns := [], antSum := [], beamSum := [] } }
  { s with rx := { s.rx with firstFloor := s.rx.firstFloor || allTaken s } }
/-- The period and the 500 bin samples the floor engine lags have passed (R143). -/
def periodOver (s : State) : Bool := decide (s.rx.periodFrom + periodLength s + 500 ≤ s.rx.histNext)

/-! ### Commands -/

/-- Bin sample n enters the history store and the beam-set former; erased, saturated and flagged samples are counted. -/
def storeBins (n : Nat) (s : State) : State :=
  let out := binOutputs s n
  let r := histRow s n out
  let r := { r with beams := formBeams s r }
  { s with rx := { s.rx with
      history := tabSet {} s.rx.history (n % 1000) r
      histNext := n + 1
      beamOut := r.beams
      erased := (List.range 192).foldl (fun t a => bumpBy t a (erasedTicks s n a)) s.rx.erased
      saturated := out.foldl (fun t x =>
        if tabGet 0 r.causes (x.1 / 512) = 0 ∧ saturates x.2.1 x.2.2 then bump t (x.1 / 512) else t) s.rx.saturated } }
/-- What no later bin sample needs any more goes. -/
def pruneReceive (n : Nat) (s : State) : State :=
  foldSteps (256 * n - 16384) { s with rx := { s.rx with
    erasures := s.rx.erasures.filter (fun x => match x.hi with
      | some h => decide (256 * n ≤ h + 8704)
      | none => true)
    calSwaps := s.rx.calSwaps.filter (fun t => decide (256 * n ≤ t + 4352))
    raised := s.rx.raised.filter (fun x => decide (256 * n ≤ x.2.2 + 128256))
    captured := s.rx.captured.filter (fun x => decide (256 * n ≤ x.2.2.2 + 133120)) } }
/-- BIN_SAMPLE (05 R114 to R132, R142; 06 R148, R149): bin sample n of every antenna and bin, which is in the store at an air
time; words that the floor engine, 500 bin samples behind, finds to hold an uncorrectable error (R126). -/
def execBinSample (n airTime : Nat) (poison : List (Nat × Nat × Nat)) (s : State) : Out :=
  if s.rx.running ∧ n = s.rx.histNext then
    let s := advanceTo (max (256 * n) airTime) s
    let s := storeBins n (if periodOver s then endFloorPeriod s else s)
    let s := (List.range 8).foldl (fun t g => groupStreams n g t) s
    .next (pruneReceive n (floorSample (n - 500) (poisonWords (poison.filter (fun w => w.1 + 500 == n)) (settleHits s))))
  else .next s
/-- HEAD_GAIN_WINDOW (05 R136 to R138): the 1 s window in progress has ended; its levels are judged at an air time. -/
def execHeadGainWindow (airTime : Nat) (s : State) : Out :=
  if s.rx.running ∧ setting s 0x4005 2 0 = 1 then
    let s := (List.range 192).foldl (fun t a => gainWindow a t) (advanceTo (max (s.rx.wideFrom + 6400000) airTime) s)
    .next { s with rx := { s.rx with wideSum := [], wideFrom := s.rx.wideFrom + 6400000 } }
  else .next s
/-- FLOOR_PERIOD_END (05 R142, R143): the period of count bin samples from the one numbered first ends. -/
def execFloorPeriodEnd (first count airTime : Nat) (s : State) : Out :=
  if s.rx.running ∧ first = s.rx.periodFrom ∧ count = periodLength s ∧ periodOver s then
    .next (endFloorPeriod (advanceTo airTime s))
  else .next s
/-- AVERAGING_PERIOD_WRITE (05 R144). -/
def execAveragingPeriodWrite (vi : Fin 16) (v : Nat) (s : State) : Out :=
  answered (checkedWrite vi 0x4006 1 0 1 v (writePeriod v) s)
/-- LOOP_SETTING_WRITE (05 R131, R135, R146): 0x4004:01 to :04 for which = 1 to 4, or 0x4003:01 for which = 0. -/
def execLoopSettingWrite (vi : Fin 16) (which : Fin 5) (el v : Nat) (s : State) : Out :=
  let idx := if which = 0 then 0x4003 else 0x4004
  let sub := if which = 0 then 1 else which.val
  let len := if which = 2 ∨ which = 4 then 2 else 1
  answered (checkedWrite vi idx sub el len v (writeLoop idx sub el v) s)

end Sys2Proof.Machine
end

