-- ==== Sys2Proof/Machine/Weights.lean ====
section
/-! DEFINITION. The arithmetic of a capture: its samples drawn from the history store, the covariance, the weights and the
combined sample (05 R121, R131; 06 R163 to R169; 18 R456). Sums and the inverse are exact, in rationals; weights are held in
2^-32 (log entry 67). -/

namespace Sys2Proof.Machine

/-! ### Complex rationals -/

abbrev CxQ := Rat × Rat
def qOf (x : Cx) : CxQ := ((x.1 : Rat), (x.2 : Rat))
def qAdd (x y : CxQ) : CxQ := (x.1 + y.1, x.2 + y.2)
def qSub (x y : CxQ) : CxQ := (x.1 - y.1, x.2 - y.2)
def qMul (x y : CxQ) : CxQ := (x.1 * y.1 - x.2 * y.2, x.1 * y.2 + x.2 * y.1)
def qConj (x : CxQ) : CxQ := (x.1, -x.2)
def qScale (k : Rat) (x : CxQ) : CxQ := (k * x.1, k * x.2)
def qInv (x : CxQ) : CxQ := qScale (1 / (x.1 * x.1 + x.2 * x.2)) (qConj x)
def qSum (l : List CxQ) : CxQ := l.foldl qAdd (0, 0)
/-- u^H v. -/
def qInner (u v : List CxQ) : CxQ := qSum ((u.zip v).map (fun p => qMul (qConj p.1) p.2))
def qAt (l : List CxQ) (i : Nat) : CxQ := (l[i]?).getD (0, 0)

/-- One step of Gauss-Jordan elimination: a row at or below place k with an entry in column k becomes row k, scaled to 1 there,
and is taken off every other row. None where no row has one: the matrix is singular. -/
def jordanStep (k : Nat) (rows : List (List CxQ)) : Option (List (List CxQ)) :=
  match (List.range rows.length).find? (fun r => decide (k ≤ r) && qAt ((rows[r]?).getD []) k != (0, 0)) with
  | none => none
  | some r =>
    let p := (rows[r]?).getD []
    let p := p.map (qMul (qInv (qAt p k)))
    let rest := (rows.eraseIdx r).map (fun q => (q.zip p).map (fun y => qSub y.1 (qMul (qAt q k) y.2)))
    some (rest.take k ++ [p] ++ rest.drop k)
/-- inverse(matrix) times r, by elimination of the rows extended by r. -/
def solve (rows : List (List CxQ)) (r : List CxQ) : Option (List CxQ) :=
  let n := rows.length
  let done := (List.range n).foldl (fun (m : Option (List (List CxQ))) k => m.bind (jordanStep k))
    (some ((rows.zip r).map (fun p => p.1 ++ [p.2])))
  done.map (fun m => m.map (fun row => qAt row n))

/-! ### Samples of a capture (05 R121, R131; 06 R163) -/

/-- Stream sample index of a centre time. -/
def streamIndex (m centre : Nat) : Nat := (centre + if m = 1 then 4096 else 4608) * m / 256
/-- Newest stream sample available of a span. -/
def newestSample (s : State) (m : Nat) : Nat := m * (s.rx.histNext - 1)
/-- The new correction of a calibration swap over the old one, at the centre frequency of a bin: G times the phase of the
delay. One over a G of zero is left out, with the sample that it made zero. -/
def swapRatio (s : State) (a b : Nat) : CxQ :=
  let old := tabGet 0 s.rx.cal.prior a
  let new := tabGet 0 s.rx.cal.active a
  let delay (e : Nat) : Int := (e / 2 ^ 32 % 2 ^ 14 : Nat)
  let turn := fxTurn (((b : Int) - 256) * (delay new - delay old) % 131072 * (fxOne / 131072))
  let g := cxOf16 (old % 2 ^ 32)
  if g = (0, 0) then (1, 0)
  else qScale (1 / (cxPower g * 2 ^ 64 : Nat)) (qOf (cxMul (cxMul (cxOf16 (new % 2 ^ 32)) (cxConj g)) turn))
/-- A word of the history store as a capture takes it: the bin sample in 2^-16, one from before a calibration swap times the
ratio of the corrections. -/
def captureWord (s : State) (n a b w : Nat) : Cx :=
  let v := cxOf16 w
  if binCentre n < s.rx.cal.last ∧ s.rx.histFrom ≤ n then
    let y := qMul (swapRatio s a b) (qOf v)
    ((y.1 * 65536).floor, (y.2 * 65536).floor)
  else (v.1 * 65536, v.2 * 65536)
/-- Stream sample j of a span at antenna a, in 2^-16, and the union of the causes of what it draws on. A row the ring does not
hold brings nothing. -/
def antStream (s : State) (bin m a j : Nat) : Cx × Nat :=
  let word (i r : Nat) : Option (Nat × Nat) := (rowOf s (j / m - r)).map (fun x => (x.n, rowWord x a (bin + i)))
  let causes := (List.range m).foldl (fun c i => (List.range (mergeReach m + 1)).foldl (fun c r =>
    match word i r with
    | some (_, w) => if isFlagged w then c ||| (w / 65536 % 32) else c
    | none => c) c) 0
  let v := mergedSample m j (fun i r => match word i r with
    | some (n, w) => if isFlagged w then (0, 0) else captureWord s n a (bin + i) w
    | none => (0, 0))
  ((v.1 / 65536, v.2 / 65536), causes)
/-- A word a branch brings, in 2^-16, with its causes; none where the word is missing. -/
def branchStream (words : List Nat) (i : Nat) : Cx × Nat :=
  match words[i]? with
  | some w => if isFlagged w then ((0, 0), w / 65536 % 32) else ((re16 w * 65536, im16 w * 65536), 0)
  | none => ((0, 0), causeLane)

/-! ### Weights (06 R164, R165) -/

/-- The elements of x: included antennas, then branches; each gives its sample and causes at sample i of a window. -/
abbrev Elements := List (Nat → Cx × Nat)
/-- Row a of the covariance over n samples, flagged ones left out of every sum. -/
def covRow (x : Elements) (n : Nat) (xa : Nat → Cx × Nat) : List CxQ :=
  x.map (fun xb => qScale (1 / (n : Rat)) (qOf ((List.range n).foldl (fun v i =>
    let p := xa i
    let q := xb i
    if p.2 = 0 ∧ q.2 = 0 then cxAdd v (cxMul p.1 (cxConj q.1)) else v) (0, 0))))
/-- cov with diag(load * floor) added; loads in the unit of |x|^2. -/
def covariance (x : Elements) (n : Nat) (loads : List Rat) : List (List CxQ) :=
  ((x.zip loads).zipIdx).map (fun p => ((covRow x n p.1.1).zipIdx).map (fun q =>
    if q.2 = p.2 then qAdd q.1 (p.1.2, 0) else q.1))
/-- r over a reference whose first sample falls on sample `first` of the window. -/
def crossOf (x : Elements) (first : Nat) (ref : List Cx) : List CxQ :=
  x.map (fun xa => qScale (1 / (ref.length : Rat)) (qOf ((ref.zipIdx).foldl (fun v p =>
    let y := xa (first + p.2)
    if y.2 = 0 then cxAdd v (cxMul y.1 (cxConj p.1)) else v) ((0, 0) : Cx))))
/-- A vector without its parts along vectors that are orthogonal to each other. -/
def rejectFrom (basis : List (List CxQ)) (v : List CxQ) : List CxQ :=
  basis.foldl (fun v u =>
    let k := qMul (qInner u v) (qInv (qInner u u))
    (v.zip u).map (fun p => qSub p.1 (qMul k p.2))) v
/-- An orthogonal basis of the span of vectors. -/
def orthogonal (vs : List (List CxQ)) : List (List CxQ) :=
  vs.foldl (fun basis v =>
    let u := rejectFrom basis v
    if u.all (· == (0, 0)) then basis else basis ++ [u]) []
/-- w in 2^-32, scaled so that the combined reference stands at power t (in 2^-64 of full scale); where cov has no inverse, or
w takes up nothing of r, the spec states no w: free weights (log entry 5). -/
def weightsOf (cov : List (List CxQ)) (r : List CxQ) (ref : List Cx) (t : Int) : List Cx :=
  let free := (List.range r.length).map Config.singularWeight
  match solve cov r with
  | none => free
  | some w =>
    let k := qInner w r
    if k = (0, 0) then free
    else
      let e := (ref.map cxPower).sum
      let root := natRoot (t.toNat * fullPower * e * 2 ^ 64 / max 1 ref.length)
      w.map (fun v =>
        let y := qScale ((root : Rat) / 2 ^ 32) (qMul v (qInv k))
        (y.1.floor, y.2.floor))
/-- Power of a group's loop target in 2^-64 of full scale. -/
def targetPower (s : State) (g : Nat) : Int := fxPow10 (toSigned 16 (setting s 0x4004 2 g)) 100
/-- Diagonal loading of an antenna for a span: 0x4011:09 in 1/256 times its antenna-bin floors, linear (06 R164). -/
def loadOf (s : State) (bin m a : Nat) : Rat :=
  let floor : Int := ((List.range m).map (fun i => fxPow10 (tabGet 0 s.rx.antFloor (512 * a + bin + i)) 100)).sum
  (setting s 0x4011 9 0 : Rat) / 256 * ((floor : Rat) / 2 ^ 64) * (fullPower : Rat)
/-- Conjugate weights of a detection's beam on some antennas: what the beam takes up is proportional to them. -/
def beamVector (s : State) (d : Detection) (ants : List Nat) : List CxQ :=
  ants.map (fun a => qOf (cxConj (cxOf16 (tabGet 0 (beamsOf s (d.bin / 64)).active (192 * d.beam + a)))))
/-- Detections of the other running captures of the span whose PEAK_AT lies within one symbol period (06 R165). -/
def rivals (s : State) (c : Nat) (d : Detection) : List Detection :=
  s.sweep.captures.filterMap (fun p => match p.2.det with
    | some y => if p.1 ≠ c ∧ p.2.stage ≠ 0 ∧ y.bin = d.bin ∧ y.mcode = d.mcode
          ∧ (max y.peakAt d.peakAt - min y.peakAt d.peakAt) * profileRate d.profile ≤ 6400000 then some y else none
    | none => none)

/-! ### The window of a capture (06 R163, R164) -/

/-- The preamble reference of a profile at a merge width. -/
def preambleRef (id m : Nat) : List Cx := (List.range (preambleL id m)).map (Config.preamble id m)
/-- First stream sample of the preamble window. -/
def firstSample (d : Detection) : Nat :=
  streamIndex (2 ^ d.mcode) d.peakAt - (preambleL d.profile (2 ^ d.mcode) + 8)
/-- Stream samples of the preamble window, and of the covariance window. -/
def preambleCount (d : Detection) : Nat := preambleL d.profile (2 ^ d.mcode) + 17
def covCount (s : State) (d : Detection) : Nat := newestSample s (2 ^ d.mcode) + 1 - firstSample d
/-- An element is excluded: more than 25 % of its samples in the preamble window are flagged. -/
def tooFlagged (d : Detection) (x : Nat → Cx × Nat) : Bool :=
  decide (preambleCount d < 4 * ((List.range (preambleCount d)).filter (fun i => (x i).2 ≠ 0)).length)
/-- Antenna a as an element, from stream sample `first` on. -/
def antElement (s : State) (d : Detection) (first a : Nat) : Nat → Cx × Nat :=
  fun i => antStream s d.bin (2 ^ d.mcode) a (first + i)
/-- Antennas that enter the combination. -/
def includedAntennas (s : State) (d : Detection) : List Nat :=
  (List.range 192).filter (fun a => !tooFlagged d (antElement s d (firstSample d) a))
/-- The loads of a capture's elements; a branch, which stands for a whole member, takes none. -/
def loadsOf (s : State) (d : Detection) (ants : List Nat) (branches : Nat) : List Rat :=
  ants.map (loadOf s d.bin (2 ^ d.mcode)) ++ List.replicate branches 0
/-- w of a detection by R164 and R165 over included antennas and branches, for capture c. -/
def captureWeights (s : State) (c : Nat) (d : Detection) (ants : List Nat) (branches : List (List Nat)) : List Cx :=
  let m := 2 ^ d.mcode
  let x : Elements := ants.map (antElement s d (firstSample d)) ++ branches.map branchStream
  let pad (v : List CxQ) : List CxQ := v ++ List.replicate branches.length (0, 0)
  let ref := preambleRef d.profile m
  let r := rejectFrom (orthogonal ((rivals s c d).map (fun y => pad (beamVector s y ants)))) (crossOf x 9 ref)
  weightsOf (covariance x (covCount s d) (loadsOf s d ants branches.length)) r ref (targetPower s (d.bin / 64))
/-- A combined sample w^H x as a word of Table 5.1, and whether it drew on a flagged sample (06 R169, R170). -/
def combined (w : List Cx) (x : List (Cx × Nat)) : Nat × Bool :=
  let causes := x.foldl (fun c y => c ||| y.2) 0
  if x.all (fun y => y.2 ≠ 0) then (flaggedWord causes, true)
  else
    let v := (w.zip x).foldl (fun v p => if p.2.2 = 0 then cxAdd v (cxMul (cxConj p.1) p.2.1) else v) ((0, 0) : Cx)
    (iqWord (roundHalfEven v.1 (2 ^ 48)) (roundHalfEven v.2 (2 ^ 48)), causes ≠ 0)

end Sys2Proof.Machine
end

