-- ==== Sys2Proof/Machine/Sweep.lean ====
section
/-! DEFINITION. Detections, admission and captures: the commands of 06 R152 to R173 and of 07 R179 and R183. -/

namespace Sys2Proof.Machine

/-! ### Detections (06 R154, R155) -/

/-- The next DSEQ; a block of 65,536 is reserved in MRAM ahead of use (00 R468). -/
def takeDseq (s : State) : Nat × State :=
  let n := s.sweep.nextDseq
  (n, { s with sweep := { s.sweep with
      nextDseq := seqNext n
      dseqReserved := if s.sweep.dseqReserved = seqNext n then seqAdd s.sweep.dseqReserved 65536 else s.sweep.dseqReserved } })
/-- Hits that lead to this one and are not yet counted. -/
def followers (s : State) (h : Hit) : List Hit :=
  s.sweep.hits.filter (fun x => !x.done && (suppressor s x).isSome &&
    (let r := rootHit s s.sweep.hits.length x
     r.p == h.p && r.bin == h.bin && r.beam == h.beam && r.peakAt == h.peakAt))
/-- A surviving hit becomes a detection: record, ring, frozen loop, request, counts. -/
def raiseDetection (h : Hit) (s : State) : State :=
  let s := (followers s h).foldl (fun t x => countSuppressed x t) s
  let nb := ((s.sweep.hits.find? (fun x => x.p == h.p && x.bin == h.bin && x.beam == h.beam && x.peakAt == h.peakAt)).map
    (·.nbHits)).getD 0
  let (n, s) := takeDseq s
  let key := loopKey h.p h.mcode h.beam h.bin
  let l := streamOf s key
  let d : Detection := {
    dseq := n, peakAt := h.peakAt, beam := h.beam, slot := h.p, rap := h.rap, stale := h.stale, bin := h.bin,
    mcode := h.mcode, cls := setting s 0x4011 1 h.g, profile := slotProfile s h.g h.p
    margin := clampInt 0 65535 (tenthsDb h.margin.1 h.margin.2), measured := h.margin, floor := h.floor
    loopGain := l.gain, nbHits := min 65535 nb, vi := groupOwner s h.g, firstRound := s.time.airTime / 256 + 1 }
  let s := setStream s key { l with frozen := l.frozen + 1 }
  let s := modHit h (fun x => { x with done := true, dseq := some n }) s
  let s := { s with rx := { s.rx with raised := s.rx.raised ++ [(h.bin, 2 ^ h.mcode, s.time.airTime)] } }
  frameBump (16 * h.g) { s with sweep := { s.sweep with
      requests := s.sweep.requests ++ [d]
      ring := tabSet none s.sweep.ring (s.sweep.ringCount % 65536) (some d)
      ringCount := s.sweep.ringCount + 1
      cDet := bump s.sweep.cDet d.bin } }
/-- DETECTION_RAISED (06 R152 to R155; 05 R134): the hit of a stream at a peak, its window complete, that no other hit
suppresses. -/
def execDetectionRaised (p : Fin 2) (beam : Fin 32) (bin : Fin 512) (peakAt airTime : Nat) (s : State) : Out :=
  match s.sweep.hits.find? (fun h => h.p == p.val && h.beam == beam.val && h.bin == bin.val && h.peakAt == peakAt) with
  | some h =>
    if sweepRuns s && !h.done && windowDone s h && (suppressor s h).isNone then .next (raiseDetection h (advanceTo airTime s)) else .next s
  | none => .next s

/-! ### Windows in the history store (06 R163) -/

/-- A stream sample of width 2^mcode with a centre time needs a bin sample that is overwritten or was never stored. -/
def sampleLost (s : State) (mcode centre : Nat) : Bool :=
  let first := (centre - mergeSpan (2 ^ mcode) + 4096) / 256
  decide (first < s.rx.histFrom) || decide (first + 1000 < s.rx.histNext)
def windowLost (s : State) (d : Detection) : Bool := sampleLost s d.mcode (windowStart d)
/-- Every bin sample the preamble window needs is available. -/
def windowReady (s : State) (d : Detection) : Bool :=
  decide (streamIndex (2 ^ d.mcode) d.peakAt + 8 ≤ newestSample s (2 ^ d.mcode))

/-! ### Admission (06 R156 to R162) -/

/-- R156's ranking, by the margin as measured. -/
def ranksBefore (a b : Detection) : Bool :=
  decide (a.cls < b.cls) || (a.cls == b.cls && (ratioLt b.measured a.measured || (!ratioLt a.measured b.measured &&
    (decide (a.peakAt < b.peakAt) || (a.peakAt == b.peakAt && (decide (a.bin < b.bin) || (a.bin == b.bin &&
      (decide (a.beam < b.beam) || (a.beam == b.beam && decide (a.slot < b.slot))))))))))
def insertRanked (d : Detection) : List Detection → List Detection
  | [] => [d]
  | x :: t => if ranksBefore d x then d :: x :: t else x :: insertRanked d t
def ranked (l : List Detection) : List Detection := l.foldl (fun t d => insertRanked d t) []
/-- Running captures whose span holds a bin. -/
def binHeld (s : State) (b : Nat) : Nat :=
  (s.sweep.captures.filter (fun p => p.2.stage ≠ 0 && (match p.2.det with
    | some d => decide (d.bin ≤ b) && decide (b < d.bin + 2 ^ d.mcode)
    | none => false))).length
def spanFull (s : State) (d : Detection) : Bool :=
  (List.range (2 ^ d.mcode)).any (fun i => decide (8 ≤ binHeld s (d.bin + i)))
def runningCount (s : State) : Nat := (runningCaptures s).length
/-- A free capture from one on; which one is taken is not stated (log entry 5). -/
def freeCapture (s : State) (k : Nat) : Option Nat :=
  ((List.range 4096).map (fun i => (k + i) % 4096)).find? (fun c => (captureOf s c).stage == 0)
/-- WIDEN is in force; under MULTIPLY no branches are assigned (18 Table 18.2). -/
def widens (s : State) : Bool := stackFunction s 0 && !stackFunction s 2
/-- The positions of the ring that no branch holds, from one on; which are taken is not stated (log entry 5). -/
def freePositions (s : State) (k : Nat) : List Nat :=
  let used := s.stack.branches.flatMap (fun b => b.2.2)
  ((List.range 4096).map (fun i => (k + i) % 4096)).filter (fun n => !used.contains n)
/-- The head assigns M ring positions to a capture and announces them; none where the ring has too few, or the capturing
member is drained (18 R455, R462). -/
def assignBranch (owner c bin mcode peakAt : Nat) (s : State) : State :=
  let s : State := { s with stack := { s.stack with
    branches := s.stack.branches.filter (fun b => !(b.1 == owner && b.2.1 == c)) } }
  let (k, s) := drawFree s
  let l := (freePositions s (k % 4096)).take (2 ^ mcode)
  if s.stack.drained.testBit owner ∨ l.length < 2 ^ mcode then
    { s with stack := { s.stack with notAssigned := inc32 s.stack.notAssigned } }
  else
    let s : State := { s with stack := { s.stack with branches := s.stack.branches ++ [(owner, c, l)] } }
    cascadeSend 0x80 0x41 ([(1, s.stack.position), (1, 0x80), (2, c), (1, owner), (2, bin), (1, mcode), (8, peakAt)]
      ++ l.map (fun n => (2, n))) s
/-- Under WIDEN a grant asks the head for branches: bin, MCODE and PEAK_AT (18 R455). -/
def branchRequest (c : Nat) (d : Detection) (s : State) : State :=
  if !widens s then s
  else if isHead s then assignBranch s.stack.position c d.bin d.mcode d.peakAt s
  else
    cascadeSend s.stack.head 0x41 [(1, s.stack.position), (1, s.stack.head), (2, c), (1, s.stack.position),
      (2, d.bin), (1, d.mcode), (8, d.peakAt)] s
/-- A request is granted a capture (06 R168 step 3). -/
def grantRequest (d : Detection) (round : Nat) (s : State) : State :=
  let (k, s) := drawFree s
  match freeCapture s (k % 4096) with
  | none => s
  | some c =>
    let f (x : Detection) : Detection := { x with capid := c, outcome := 1, round := round % 2 ^ 32 }
    let s := setCapture s c { stage := 1, grantAt := s.time.airTime, det := some (f d), rap := d.rap }
    let s := frameBump (16 * (d.bin / 64) + 3) (modDetection d.dseq f { s with sweep := { s.sweep with
      requests := s.sweep.requests.filter (fun x => x.dseq ≠ d.dseq)
      cGrant := bump s.sweep.cGrant d.bin } })
    branchRequest c d s
/-- Causes that refuse a request in the first round that ranks it. A ceiling of zero refuses every request CEILING, those
beyond 1,024 too (DESIGN CHOICE, log entry 65). -/
def refusedAtOnce (s : State) (d : Detection) : Option Refuse :=
  if !sweepRuns s then some .mode
  else if isShed s (captureLevel s (d.bin / 64)) then some .shed
  else if windowLost s d then some .history
  else if effectiveCeiling s = 0 then some .ceiling
  else none
/-- A request's hold limit ends with this round. -/
def holdEnded (s : State) (d : Detection) (round : Nat) : Bool := decide (d.firstRound + setting s 0x4011 4 d.cls ≤ round)
/-- The cause of a request whose hold limit ends. -/
def holdCause (s : State) (d : Detection) : Refuse :=
  if decide (effectiveCeiling s ≤ runningCount s) && decide (effectiveCeiling s < 4096) then .ceiling
  else if spanFull s d then .binFull
  else .capacity
/-- One admission round. Requests refused in it for another cause do not count towards the 1,024 that may stay pending (DESIGN
CHOICE, log entry 65). -/
def admissionRound (r : Nat) (s : State) : State :=
  let s := applyBell 8 { s with sweep := { s.sweep with lastRound := r % 2 ^ 32 } }
  let order := ranked s.sweep.requests
  let s := order.foldl (fun t d => match refusedAtOnce t d with
    | some c => refuseRequest d c r t
    | none => t) s
  let s := (ranked s.sweep.requests).foldl (fun t d =>
    if runningCount t < min 4096 (effectiveCeiling t) ∧ spanFull t d = false then grantRequest d r t else t) s
  let s := ((ranked s.sweep.requests).drop 1024).foldl (fun t d => refuseRequest d .queue r t) s
  (ranked s.sweep.requests).foldl (fun t d => if holdEnded t d r then refuseRequest d (holdCause t d) r t else t) s
/-- ADMISSION_ROUND (06 R156): round r at AT 256 r. -/
def execAdmissionRound (r : Nat) (s : State) : Out :=
  if s.time.valid ∧ s.time.airTime ≤ 256 * r then .next (admissionRound r (advanceTo (256 * r) s)) else .next s

/-! ### The life of a capture (06 R164 to R171; 07 R179, R183) -/

/-- The capture has branches assigned (18 R455). -/
def hasBranches (s : State) (c : Nat) : Bool :=
  s.stack.branches.any (fun b => b.1 == s.stack.position && b.2.1 == c && !b.2.2.isEmpty)
/-- A capture reads its preamble window and takes its weights (06 R163 to R165; 18 R456). -/
def takeWeights (c : Nat) (d : Detection) (branches : List (List Nat)) (s : State) : State :=
  let x := captureOf s c
  let ants := includedAntennas s d
  let used := branches.filter (fun b => !tooFlagged d (branchStream b))
  let w := captureWeights s c d ants used
  let slots := branches.foldl (fun (l : List (Option (Int × Int)) × Nat) b =>
    if tooFlagged d (branchStream b) then (l.1 ++ [none], l.2) else (l.1 ++ [w[ants.length + l.2]?], l.2 + 1)) ([], 0)
  setCapture s c { x with
    stage := 2, weights := (ants.zip w).foldl (fun t p => tabSet (0, 0) t p.1 p.2) [], branchW := slots.1
    excluded := (List.range 192).foldl (fun m a => if ants.contains a then m else m + 2 ^ a) 0, ant := ants.length
    rap := x.rap || decide (ants.length < 192), stacked := !used.isEmpty }
/-- CAPTURE_WEIGHTS_READY (06 R163 to R165, R168 step 5): the preamble window is available; words of it that the history store
delivered as POISON; the words that each assigned branch brought over the covariance window, none missing at its start. -/
def execCaptureWeightsReady (c : Fin 4096) (poison : List (Nat × Nat × Nat)) (branches : List (List Nat)) (airTime : Nat)
    (s : State) : Out :=
  let s := advanceTo airTime s
  match (captureOf s c).stage, (captureOf s c).det with
  | 1, some d =>
    if windowLost s d then .next (endCapture c 3 s)
    else if windowReady s d then
      .next (takeWeights c d (if hasBranches s c then branches else []) (poisonWords poison s))
    else .next s
  | _, _ => .next s
/-- The elements of a combined sample j with their weights. -/
def combinedAt (s : State) (x : Capture) (d : Detection) (branches : List (List Nat)) (i : Nat) : Nat × Bool :=
  let ants := (List.range 192).filter (fun a => !x.excluded.testBit a)
  let own := ants.map (fun a => (tabGet (0, 0) x.weights a,
    antStream s d.bin (2 ^ d.mcode) a (firstSample d + x.samples + i)))
  let far := (x.branchW.zipIdx).filterMap (fun p => p.1.map (fun w => (w, branchStream ((branches[p.2]?).getD []) i)))
  combined ((own ++ far).map (·.1)) ((own ++ far).map (·.2))
/-- Profile code has fallen 32 blocks behind (07 R179): the capture ends, counted. -/
def overrun (c : Nat) (s : State) : State :=
  endCapture c 4 { s with verdict := { s.verdict with overruns := inc32 s.verdict.overruns } }
/-- Sixteen combined samples enter the ring (07 R179; 06 R169, R170). -/
def takeBlock (c : Nat) (d : Detection) (branches : List (List Nat)) (s : State) : State :=
  let x := captureOf s c
  let l := (List.range 16).map (combinedAt s x d branches)
  let ring := (l.zipIdx).foldl (fun t p => tabSet 0 t ((16 * x.blocks + p.2) % 512) p.1.1) x.ring
  raiseToken 200 (0xF000 + c) (x.blocks % 32) (setCapture s c { x with
    ring := ring, blocks := x.blocks + 1, samples := x.samples + 16, rap := x.rap || l.any (·.2) })
/-- CAPTURE_BLOCK_COMPLETE (07 R179; 06 R168 steps 6 and 7): the next sixteen samples, once the history store holds all they
need; words of it delivered as POISON; the sixteen words of each branch. A block not yet released is never overwritten, and a
sample that is lost ends the capture (06 R171). -/
def execCaptureBlockComplete (c : Fin 4096) (poison : List (Nat × Nat × Nat)) (branches : List (List Nat)) (s : State) : Out :=
  let x := captureOf s c
  match x.stage, x.det with
  | 2, some d =>
    if newestSample s (2 ^ d.mcode) < firstSample d + x.samples + 15 then .next s
    else if sampleLost s d.mcode (windowStart d + x.samples * (256 / 2 ^ d.mcode)) then .next (endCapture c 3 s)
    else if x.released + 32 ≤ x.blocks then .next (overrun c s)
    else .next (takeBlock c d branches (poisonWords poison s))
  | _, _ => .next s
/-- CAPTURE_RING_OVERRUN (07 R179): a block not yet released would be overwritten. -/
def execCaptureRingOverrun (c : Fin 4096) (s : State) : Out :=
  let x := captureOf s c
  if x.stage = 2 ∧ x.released + 32 ≤ x.blocks then .next (overrun c s) else .next s
/-- The weights of a capture from decided symbols (06 R166): `first` is the combined sample the first symbol stands at. -/
def recomputed (s : State) (x : Capture) (d : Detection) (symbols : List Cx) (first : Nat) (branches : List (List Nat)) : Capture :=
  let ants := (List.range 192).filter (fun a => !x.excluded.testBit a)
  let used := (x.branchW.zipIdx).filterMap (fun p => if p.1.isSome then branches[p.2]? else none)
  let el : Elements := ants.map (antElement s d (firstSample d + first)) ++ used.map branchStream
  let w := weightsOf (covariance el symbols.length (loadsOf s d ants used.length)) (crossOf el 0 symbols) symbols
    (targetPower s (d.bin / 64))
  { x with
    weights := (ants.zip w).foldl (fun t p => tabSet (0, 0) t p.1 p.2) []
    branchW := (x.branchW.foldl (fun (l : List (Option (Int × Int)) × Nat) b =>
      if b.isSome then (l.1 ++ [(w[ants.length + l.2]?)], l.2 + 1) else (l.1 ++ [none], l.2)) ([], 0)).1
    refresh := min 255 (x.refresh + 1), lastRecompute := some x.samples }
/-- WEIGHT_RECOMPUTE (06 R166): decided symbols over stream samples that end with combined sample `last`, and the words of the
branches over them. BUSY within 256 stream samples of the last one; RANGE for a window of no sample, of more than 1,024, or
that ends later than the newest combined sample or begins before the first or in the history store's past. -/
def execWeightRecompute (c : Fin 4096) (q : Decided) (s : State) : Out :=
  let x := captureOf s c
  match x.stage, x.det with
  | 2, some d =>
    let n := q.symbols.length
    if x.lastRecompute.any (fun k => decide (x.samples < k + 256)) then .next (answering .busy s)
    else if n = 0 ∨ 1024 < n ∨ x.samples ≤ q.last ∨ q.last + 1 < n
        ∨ sampleLost s d.mcode (windowStart d + (q.last + 1 - n) * (256 / 2 ^ d.mcode)) then .next (answering .range s)
    else .next (answering .ok (setCapture s c (recomputed s x d q.symbols (q.last + 1 - n) q.branches)))
  | _, _ => .next s
/-- Octets of a forwarded frame beyond TAG and FCNT (18 R458). -/
def forwardRest (f : FrameInfo) : List Nat := octetsBE 3 f.header ++ f.payload ++ f.mic ++ octetsBE 2 f.crc
/-- FWDFRAME to the home member of a tag: CAPID, part, octets. -/
def forwardPart (c part home : Nat) (octets : List Nat) (s : State) : State :=
  cascadeSend home 0x44 ([(1, s.stack.position), (1, home), (2, c), (1, part)] ++ octets.map (fun o => (1, o))) s
/-- The position a tag is homed at, where another member holds it (18 R457, R458). -/
def homeOf (s : State) (tag : Nat) : Option Nat :=
  if stackFunction s 1 then
    match tabGet none s.stack.directory tag with
    | some p => if p = s.stack.position then none else some p
    | none => none
  else none
/-- The Marker's early work once TAG and FCNT are committed (07 R188; 18 R458): lookup and counter check, which change
nothing in the Roll; a tag that is missing here and homed elsewhere is sent to its home. -/
def earlyWork (c : Nat) (d : Detection) (s : State) : State :=
  let x := captureOf s c
  let f := x.frame
  if x.tagDone || !f.tagged || !vendorFormat s d.profile || !headerAccepted s d.profile f then s
  else
    let slot := slotByTag s f.tag
    let away := if slot.isNone then homeOf s f.tag else none
    let s := setCapture (uncoverElsewhere d.dseq slot s) c { x with
      tagDone := true, forwarded := away.isSome
      early := slot.map (fun i => (i, (entryOf s i).identity, replays s i d.dseq f.fcnt)) }
    match away with
    | some home => forwardPart c 0 home (octetsBE 4 f.tag ++ octetsBE 4 f.fcnt) s
    | none => s
/-- TAG_AND_FCNT_COMMITTED (07 R188): profile code's decisions bring the Decoder to the end of FCNT. -/
def execTagAndFcntCommitted (c : Fin 4096) (q : Decisions) (airTime : Nat) (s : State) : Out :=
  let s := advanceTo airTime s
  let x := captureOf s c
  match x.stage, x.det with
  | 2, some d => .next (earlyWork c d (setCapture s c (takeDecisions s x d q)))
  | _, _ => .next s
/-- A capture enters CLOSING: END_AT as predicted; of a frame that has none the spec states none, a free value (log entry
5). A frame judged at its home goes there whole. -/
def closeCapture (c : Nat) (abandoned : Bool) (s : State) : State :=
  let x := captureOf s c
  let (r, s) := drawFree s
  let s := setCapture s c { x with
    stage := 3, closed := !abandoned, forced := if abandoned then 5 else x.forced
    endAt := x.predicted.getD (r % 2 ^ 64) }
  match x.forwarded && !abandoned, tabGet none s.stack.directory x.frame.tag with
  | true, some home => forwardPart c 1 home (forwardRest x.frame) s
  | _, _ => s
/-- CAPTURE_CLOSE (07 R181, R183; 06 R168 step 8): with its last decisions profile code closes the capture, or traps or
abandons it. -/
def execCaptureClose (c : Fin 4096) (abandoned : Bool) (q : Decisions) (airTime : Nat) (s : State) : Out :=
  let s := advanceTo airTime s
  let x := captureOf s c
  match x.stage, x.det with
  | 2, some d =>
    let s := earlyWork c d (setCapture s c (takeDecisions s x d q))
    .next (if abandoned || closes s (captureOf s c) d then closeCapture c abandoned s else s)
  | _, _ => .next s
/-- Life limit of a capture, in ticks from PEAK_AT (R171). -/
def lifeLimit (s : State) (d : Detection) : Nat :=
  let v := setting s 0x4011 7 (d.bin / 64)
  if v = 0 then profileLongest d.profile * 11 / 10 else v
/-- LIFE_LIMIT (06 R171): a capture whose END_AT is predicted is followed to it (07 R183). -/
def execLifeLimit (c : Fin 4096) (airTime : Nat) (s : State) : Out :=
  let s := advanceTo airTime s
  let x := captureOf s c
  match x.det with
  | some d =>
    if (x.stage = 1 ∨ x.stage = 2) ∧ x.predicted = none ∧ d.peakAt + lifeLimit s d ≤ s.time.airTime then
      .next (endCapture c 1 { s with sweep := { s.sweep with cLife := bump s.sweep.cLife (d.bin / 64) } })
    else .next s
  | none => .next s
/-- HISTORY_OVERWRITTEN (06 R162, R171) of a capture: its preamble window, or the next sample of its replay, is lost; or of
the pending request with a DSEQ. -/
def execHistoryOverwritten (pending : Bool) (id : Nat) (s : State) : Out :=
  if pending then
    match s.sweep.requests.find? (fun d => d.dseq == id) with
    | some d => if windowLost s d then .next (refuseRequest d .history (roundAt s) s) else .next s
    | none => .next s
  else
    let x := captureOf s id
    match x.stage, x.det with
    | 1, some d => if windowLost s d then .next (endCapture id 3 s) else .next s
    | 2, some d =>
      if sampleLost s d.mcode (windowStart d + x.samples * (256 / 2 ^ d.mcode)) then .next (endCapture id 3 s) else .next s
    | _, _ => .next s

end Sys2Proof.Machine
end

