-- ==== Sys2Proof/Machine/Verdict.lean ====
section
/-! DEFINITION. Verdicts and their delivery to collectors: the commands of 07 R188, R189, R200, R201 and of 16 R427. -/

namespace Sys2Proof.Machine

/-! ### The Marker (07 R188, R189; 18 R458) -/

/-- The time stamp of the last bin sample or merged sample that a capture's closing sample needs (07 R194): t_c but for the
latencies that every capture shares. -/
def closingStamp (x : Capture) (d : Detection) : Nat :=
  let m := 2 ^ d.mcode
  let step := 256 / m
  let first := windowStart d
  let centre := first + (x.endAt - first) / step * step
  256 * ceilDiv (centre + (if m = 1 then 0 else mergeSpan m) + 4096) 256
/-- Another closed capture of the same entry comes first, in order of t_c and then of DSEQ (07 R192). -/
def comesAfter (s : State) (c : Nat) (x : Capture) (d : Detection) : Bool :=
  match (judge s x d).slot with
  | none => false
  | some slot => s.sweep.captures.any (fun p => p.1 ≠ c && p.2.stage == 3 && !p.2.forwarded && (match p.2.det with
      | some e => (judge s p.2 e).slot == some slot &&
          (decide (closingStamp p.2 e < closingStamp x d) || (closingStamp p.2 e == closingStamp x d && decide (e.dseq < d.dseq)))
      | none => false))
/-- VERDICT_ISSUED (07 R189 to R199; 06 R168 step 9): the capture's checks, effect, record and release; the latency from
t_c in ns, and whether more than 16 t_c fell within 1 us. A forwarded capture waits for the home member's verdict. -/
def execVerdictIssued (c : Fin 4096) (latency : Nat) (crowd : Bool) (s : State) : Out :=
  let x := captureOf s c
  match x.stage, x.det with
  | 3, some d =>
    if (x.forwarded && x.forced == 0) || comesAfter s c x d then .next s
    else
      let j := judge s x d
      .next (settle (releaseCapture c d j.cls (issueVerdict c x d j latency crowd s)))
  | _, _ => .next s

/-! ### Delivery (07 R200, R201; 16 R427) -/

def heldOf (s : State) (vi : Nat) : List Held := tabGet [] s.verdict.held vi
def setHeld (vi : Nat) (l : List Held) (s : State) : State :=
  { s with verdict := { s.verdict with held := tabSet [] s.verdict.held vi l } }
def cursorOf (s : State) (vi c : Nat) : Nat := tabGet 0 s.verdict.cursor (4 * vi + c)
def setCursor (vi c v : Nat) (s : State) : State :=
  { s with verdict := { s.verdict with cursor := tabSet 0 s.verdict.cursor (4 * vi + c) v } }
/-- Held verdicts from a VSEQ on. -/
def heldFrom (l : List Held) (vseq : Nat) : List Held := l.dropWhile (fun h => h.record.vseq != vseq)
/-- Octets a verdict takes in a notification. -/
def wireSize (h : Held) : Nat := 64 + h.octets.length
/-- The verdicts of one batch: at most 21, in at most 1,400 octets with the header, MAC and prefix of 28 (R200, R427). -/
def batchOf : Nat → Nat → List Held → List Held
  | 0, _, _ => []
  | n + 1, room, h :: t => if wireSize h ≤ room ∨ (n = 20 ∧ room = 1372) then h :: batchOf n (room - wireSize h) t else []
  | _, _, [] => []
/-- Whether notifications of a VI can leave now, in SAFE too where an Ethernet lane is up (02 R34, Table 2.8; DESIGN CHOICE, log
entry 58). -/
def canNotify (s : State) (vi c : Nat) : Bool :=
  viEnabled s vi && officeInService s && collector s vi c != 0 && (notifyLane s (collector s vi c / 65536)).isSome
    && decide (txCntOf s vi < txLimit)
/-- Discard notices of a VI leave before any later verdict (R201). -/
def sendNotices (vi : Nat) (s : State) : State :=
  let mine := s.verdict.notices.filter (fun x => x.1 == vi)
  let s := mine.foldl (fun t x => notifyVi t vi 0x11 (octetsBE 4 x.2.1 ++ octetsBE 4 x.2.2) (fun c l => .discard vi c l x.2.1 x.2.2)) s
  { s with verdict := { s.verdict with notices := s.verdict.notices.filter (fun x => x.1 != vi) } }
/-- Body of a VERDICTS notification: FIRST, COUNT, and each verdict's record, high byte first, with its delivered octets
(16 R427; 07 R196). -/
def verdictsBody (first : Nat) (b : List Held) : List Nat :=
  octetsBE 4 first ++ [b.length, 0, 0, 0] ++ b.flatMap (fun h => octetsBE 64 (packVerdict h.record) ++ h.octets)
/-- One VERDICTS notification to a collector, from its cursor on. -/
def sendBatch (vi c : Nat) (s : State) : State :=
  if canNotify s vi c then
    let s := sendNotices vi s
    let rest := heldFrom (heldOf s vi) (cursorOf s vi c)
    let b := batchOf 21 1372 rest
    match b.head? with
    | none => s
    | some h =>
      let s := notifyOne s vi c 0x10 (verdictsBody h.record.vseq b) (fun l => .verdicts vi c l h.record.vseq b.length)
      let s := setHeld vi ((heldOf s vi).map (fun x =>
        if b.any (fun y => y.record.vseq == x.record.vseq) then { x with sent := true } else x)) s
      setCursor vi c (((rest.drop b.length).head?).elim 0 (fun x => x.record.vseq)) s
  else s
/-- VERDICT_BATCH_SEND (07 R200). -/
def execVerdictBatchSend (vi : Fin 16) (c : Fin 4) (s : State) : Out := .next (sendBatch vi c s)

/-- Position of a VSEQ among the held verdicts. -/
def placeIn (l : List Held) (vseq : Nat) : Option Nat := l.findIdx? (fun h => h.record.vseq == vseq)
/-- Verdicts of a VI that collector c has acknowledged, counted from the oldest held. -/
def ackedCount (s : State) (vi c : Nat) : Nat :=
  match placeIn (heldOf s vi) (tabGet 0 s.verdict.acked (4 * vi + c)) with
  | some i => i + 1
  | none => 0
/-- Verdicts leave the verdict journal (03 R72). -/
def leaveJournal (l : List Held) (s : State) : State :=
  { s with verdict := { s.verdict with journal := s.verdict.journal.filter (fun h =>
      !l.any (fun x => x.record.vi == h.record.vi && x.record.vseq == h.record.vseq)) } }
/-- Verdicts that every configured collector has acknowledged leave the ring and the verdict journal. -/
def releaseAcked (vi : Nat) (s : State) : State :=
  match collectors s vi with
  | [] => s
  | l =>
    let n := l.foldl (fun m c => min m (ackedCount s vi c)) (heldOf s vi).length
    setHeld vi ((heldOf s vi).drop n) (leaveJournal ((heldOf s vi).take n) s)
/-- A cumulative acknowledgement from a collector's address and port. -/
def takeVack (vi addr vseq : Nat) (s : State) : State :=
  let cs := (collectors s vi).filter (fun c => collector s vi c == addr)
  match placeIn (heldOf s vi) vseq with
  | none => { s with molfen := { s.molfen with vackIgnored := bump s.molfen.vackIgnored vi } }
  | some i =>
    if cs.isEmpty then { s with molfen := { s.molfen with vackIgnored := bump s.molfen.vackIgnored vi } }
    else
      let rest := (heldOf s vi).drop (i + 1)
      let s := cs.foldl (fun t c =>
        if ackedCount t vi c ≤ i then
          let t := { t with verdict := { t.verdict with acked := tabSet 0 t.verdict.acked (4 * vi + c) vseq } }
          if (placeIn rest (cursorOf t vi c)).isSome ∨ cursorOf t vi c = 0 then t
          else setCursor vi c ((rest.head?).elim 0 (fun x => x.record.vseq)) t
        else t) s
      releaseAcked vi s
/-- Delivery to a collector goes back to its oldest unacknowledged verdict that was sent. -/
def rewind (vi c : Nat) (s : State) : State :=
  match ((heldOf s vi).drop (ackedCount s vi c)).head? with
  | some h => if h.sent then setCursor vi c h.record.vseq s else s
  | none => s
/-- RESEND_INTERVAL (07 R200). -/
def execResendInterval (vi : Fin 16) (c : Fin 4) (s : State) : Out := .next (sendBatch vi c (rewind vi c s))

/-- 0x4040:01 (07 R200). -/
def writeCollector (vi c v : Nat) (s : State) : State × Status :=
  if collector s vi c = v then (s, .ok)
  else
    let s := putSetting s vi 0x4040 1 c v
    let oldest := (heldOf s vi).head?
    let first := (oldest.map (·.record.vseq)).getD (tabGet 1 s.verdict.nextVseq vi)
    let s := { s with verdict := { s.verdict with acked := tabSet 0 s.verdict.acked (4 * vi + c) (vseqBefore s vi first) } }
    let s := setCursor vi c (if v = 0 then 0 else oldest.elim 0 (·.record.vseq)) s
    (releaseAcked vi s, .ok)
/-- COLLECTOR_WRITE (07 R200): an IPv6 address and a UDP port, 18 octets. -/
def execCollectorWrite (vi : Fin 16) (c v : Nat) (s : State) : Out :=
  answered (checkedWrite vi 0x4040 1 c 18 v (writeCollector vi c v) s)

end Sys2Proof.Machine
end

