-- ==== Sys2Proof/Machine/Roll.lean ====
section
/-! DEFINITION. The Roll: enrolment, retirement, replacement, re-keying, the station's writes to an entry, slices, the
daily sweep, the journal's applier and the repair of a poisoned entry (08). -/

namespace Sys2Proof.Machine

/-! ### The Roll directory (18 R457) -/

def setHome (tag home : Nat) (s : State) : State :=
  let v := if home = 0xFF then none else some home
  { s with stack := { s.stack with directory := tabSet none s.stack.directory tag v } }
/-- Under DEEPEN a tag's home is announced: by DIRUPD to the head, or by the head's own broadcast. -/
def dirUpdate (tag home : Nat) (s : State) : State :=
  if stackFunction s 1 then
    let dst := if isHead s then 0x80 else s.stack.head
    let s' := cascadeSend dst 0x42
      [(1, s.stack.position), (1, dst), (4, tag), (1, home), (4, s.stack.nextDir)] (setHome tag home s)
    { s' with stack := { s'.stack with nextDir := inc32 s'.stack.nextDir } }
  else s
/-- The head's answer to an enrolment's DIRUPD, as the directory stands: REFUSED where the tag is homed elsewhere. -/
def homedElsewhere (s : State) (tag : Nat) : Bool := (homeOf s tag).isSome

/-! ### Entries set up and ended (R210, R212) -/

/-- The enrolment block (Table 8.4). -/
structure Enrolment where
  identity : Nat
  tag : Nat
  profile : Nat
  cmodel : Nat
  cplan : Nat
  reserved : Nat
  keyh : Nat
  charge : Nat
  ufloor : Nat
  dstart : Nat
def enrolmentOf (v : Nat) : Enrolment :=
  ⟨octField 32 v 0 7, octField 32 v 8 11, octAt 32 v 12, octAt 32 v 13, octAt 32 v 14, octAt 32 v 15,
   octField 32 v 16 19, octField 32 v 20 23, octField 32 v 24 27, octField 32 v 28 31⟩
/-- A profile an endpoint can be enrolled with: a vendor profile, or an installed customer profile of frame format 0. -/
def enrolProfile (s : State) (id : Nat) : Bool :=
  isVendor id || (isCustomer id && !(packageOf s id).inst.raw
    && ((packageOf s id).ustate == .installed || (packageOf s id).wasInstalled))
/-- Check 2 of Table 8.5. -/
def enrolRange (s : State) (b : Enrolment) : Bool :=
  b.reserved == 0 && enrolProfile s b.profile && decide (b.cmodel < 64) && decide (b.cplan < 64) && b.dstart != 0xFFFFFFFF
/-- IDENTITY or TAG is held by an entry that is not FREE. -/
def heldAlready (s : State) (b : Enrolment) : Bool :=
  s.roll.entries.any (fun p => p.2.status ≠ .free && (p.2.identity == b.identity || p.2.tag == b.tag))
/-- Whether the tag index can place a tag beside those of every slot but one. -/
def placeableAt (s : State) (slot tag : Nat) : Bool :=
  placesTag tag ((s.roll.entries.filter (fun p => p.2.status ≠ .free && p.1 ≠ slot)).map (·.2.tag))
/-- A handle is bound to an entry, or freed by one: BOUND while an entry or a shadow holds it (10 R280). -/
def bindKey (h : Nat) (s : State) : State := setKeyState s h .bound
def unbindKey (h : Nat) (s : State) : State := if inShadow s h then s else setKeyState s h .loaded

/-- A new occupancy takes a slot (R210): the entry, its account and its key, journaled as ENROL and STATE. -/
def occupy (cause slot : Nat) (e : Entry) (a : Account) (charge : Nat) (s : State) : State :=
  let gen := ((entryOf s slot).gen + 1) % 65536
  let e := { e with gen := gen, touch := s.time.ledger, status := if e.status = .free then .active else e.status }
  let s := journalRoll cause slot e (.enrol e charge) s
  let s := bindKey e.keyh (commit cause slot (e, { a with gen := gen }) s)
  if cause = causeHandover then setHome e.tag s.stack.position s else dirUpdate e.tag s.stack.position s
/-- A successful enrolment. -/
def enrolEntry (vi slot : Nat) (b : Enrolment) (s : State) : State :=
  occupy causeStation slot
    { identity := b.identity, tag := b.tag, vi := vi, profile := b.profile, keyh := b.keyh, cmodel := b.cmodel,
      cplan := b.cplan, ucnt := b.ufloor, dcnt := b.dstart, charge := b.charge, fresh := b.ufloor == 0 }
    { init := b.charge * 65536 } b.charge s

/-- Sums of two account records (R231). -/
def sumAccounts (x y : Account) : Account :=
  { init := x.init + y.init, adj := x.adj + y.adj, air := x.air + y.air, rx := x.rx + y.rx, dl := x.dl + y.dl,
    sleep := x.sleep + y.sleep, unfunded := x.unfunded + y.unfunded, earned := x.earned + y.earned,
    granted := x.granted + y.granted, xin := x.xin + y.xin, forfeit := x.forfeit + y.forfeit, spent := x.spent + y.spent,
    xout := x.xout + y.xout, reserved := x.reserved + y.reserved, refunded := x.refunded + y.refunded }
/-- The retirement of an entry (R212): bursts and DEFERRED requests end, the touch, the refund, the final records, and
the slot reads FREE with GEN kept. A transfer's retirement sends out the credits that its COMMIT carries, which the receiver
takes as XIN; what the entry has formed since is RETURNED (R231; 01 R31; log entry 61). -/
def retireEntry (cause slot : Nat) (transfer : Bool) (s : State) : State :=
  let s := endDeferredOf slot .range (endBurstsOf slot s)
  let p := markLow (let q := touchedPair s slot; refundCredits q.1.held q)
  let e := p.1
  let out := if transfer then min e.credits (((tabGet {} s.stack.xfers slot : Xfer).entry.map (·.credits)).getD e.credits) else 0
  let a := { p.2 with xout := p.2.xout + out }
  let s := journalRoll cause slot e (.retire e) s
  let s := journalRoll cause slot e (.account 1 a) (journalRoll cause slot e (.account 0 a) s)
  let t := tabGet {} s.roll.retired e.vi
  let s := { s with roll := { s.roll with
    retired := tabSet {} s.roll.retired e.vi
      { sum := sumAccounts t.sum a
        returned := t.returned + (e.credits - out), retCharge := t.retCharge + chargeCu e } } }
  let s := setAccount (setEntry s slot { gen := e.gen }) slot a
  let s := if e.status = .exhausted then monoBump e.vi 6 1 s else s
  let s := unbindKey e.keyh s
  if transfer then dirUpdate e.tag (tabGet {} s.stack.xfers slot : Xfer).peer s else dirUpdate e.tag 0xFF s

/-! ### The enrolment family (R209 to R213, R217) -/

/-- The enrolment family's writes on a slot that is not FREE touch it first (R221). -/
def touchFirst (slot : Nat) (s : State) : State := touch causeStation slot s
/-- Checks 3 to 7 of Table 8.5; the placement that fails is counted. -/
def enrolCheck (vi slot : Nat) (replace : Bool) (b : Enrolment) (s : State) : Option (State × Status) :=
  let e := entryOf s slot
  if !(keyAssigned s vi b.keyh && (keyOf s b.keyh).kstate != .empty) then some (s, .unknown)
  else if (e.status == .free) == replace then some (s, .refused)
  else if heldAlready s b || homedElsewhere s b.tag then some (s, .refused)
  else if !placeableAt s slot b.tag then
    some ({ s with roll := { s.roll with placeRefused := inc32 s.roll.placeRefused } }, .refused)
  else if e.migrating then some (s, .locked)
  else if boundToOther s slot b.keyh || inShadow s b.keyh then some (s, .locked)
  else none
/-- 0x6011:01. -/
def writeEnrol (vi slot v : Nat) (s : State) : State × Status :=
  let b := enrolmentOf v
  if !enrolRange s b then (s, .range)
  else
    let s := touchFirst slot s
    match enrolCheck vi slot false b s with
    | some r => r
    | none => (enrolEntry vi slot b s, .ok)
/-- 0x6011:03: the old entry is retired and the new one enrolled in one commit. -/
def writeReplace (vi slot v : Nat) (s : State) : State × Status :=
  let b := enrolmentOf v
  if !enrolRange s b then (s, .range)
  else
    let s := touchFirst slot s
    match enrolCheck vi slot true b s with
    | some r => r
    | none => (monoBump vi 3 1 (enrolEntry vi slot b (retireEntry causeStation slot false s)), .ok)
/-- 0x6011:02. -/
def writeRetire (slot : Nat) (s : State) : State × Status :=
  if (entryOf s slot).status = .free then (s, .unknown)
  else
    let s := touchFirst slot s
    if (entryOf s slot).migrating then (s, .locked) else (retireEntry causeStation slot false s, .ok)

/-- Captures that the shadow of a re-key may cover (R218): granted before it, and their TAG not yet committed or naming
the slot. -/
def coveredBy (s : State) (tag : Nat) : List Nat :=
  s.sweep.captures.filterMap (fun p =>
    if p.2.stage ≠ 0 ∧ (p.2.tagDone = false ∨ p.2.frame.tag = tag) then p.2.det.map (·.dseq) else none)
def shadowCount (s : State) : Nat := (s.roll.shadows.filter (fun p => p.2.isSome)).length
/-- A placed burst that a re-key meets is built under the old key (09 Table 9.7); the instant is the module's (09 R246). -/
def buildBurst (b : Burst) (s : State) : State :=
  if (entryOf s b.slot).dcnt = 0xFFFFFFFF then s
  else
    let head := downHeader b
    let out := (ccmDownlink s b.slot (if b.micl then 2 else 1) head b.payload).1
    modBurst b.rqid (fun x => { x with frame := some (downFrame head out) }) (takeDcnt b.slot s)
/-- The re-key of an entry: the new key and counters, the old ones kept as the slot's shadow. -/
def rekeyEntry (slot keyh dstart : Nat) (s : State) : State :=
  let s := ((burstList s).filter (unbuilt s slot)).foldl (fun t b => buildBurst b t) s
  let e := entryOf s slot
  let x : Shadow := ⟨e.keyh, e.ucnt, e.fresh, coveredBy s e.tag⟩
  let s := { s with roll := { s.roll with shadows := tabSet none s.roll.shadows slot (some x) } }
  let n := { e with keyh := keyh, dcnt := dstart, ucnt := 0, fresh := true, lastAt := 0, rekeyShadow := true,
                    status := if e.status = .exhausted then .active else e.status }
  let s := journalRoll causeStation slot n (.rekey e.keyh e.ucnt e.dcnt e.fresh keyh dstart) s
  let s := monoBump e.vi 2 1 (bindKey keyh (commit causeStation slot (n, accountOf s slot) s))
  if e.status = .exhausted then monoBump e.vi 6 1 s else s
/-- 0x6011:04. -/
def writeRekey (vi slot v : Nat) (s : State) : State × Status :=
  let keyh := octField 8 v 0 3
  let dstart := octField 8 v 4 7
  if dstart = 0xFFFFFFFF then (s, .range)
  else
    let s := touchFirst slot s
    let e := entryOf s slot
    if !(keyAssigned s vi keyh && (keyOf s keyh).kstate != .empty) then (s, .unknown)
    else if e.status = .free then (s, .refused)
    else if e.migrating then (s, .locked)
    else if (keyOf s keyh).kstate == .bound || inShadow s keyh then (s, .locked)
    else if (tabGet none s.roll.shadows slot).isSome || decide (4096 ≤ shadowCount s) then (s, .busy)
    else (rekeyEntry slot keyh dstart s, .ok)
/-- A shadow that covers no capture any more is released: its handle is wiped and REKEYSHADOW clears (R218). -/
def releaseShadow (slot : Nat) (s : State) : State :=
  match tabGet none s.roll.shadows slot with
  | some x =>
    if x.covered.isEmpty then
      let s := wipeKey { s with roll := { s.roll with shadows := tabSet none s.roll.shadows slot none } } x.keyh
      if (entryOf s slot).rekeyShadow then
        commit causeVerdict slot ({ entryOf s slot with rekeyShadow := false }, accountOf s slot) s
      else s
    else s
  | none => s

/-! ### Writes to an entry (R211, R216, R222, R225, R235, R467) -/

/-- A write to an entry that is not FREE: UNKNOWN, or the touch and then the write's own rule. -/
def entryWrite (slot : Nat) (f : State → State × Status) (s : State) : State × Status :=
  if (entryOf s slot).status = .free then (s, .unknown) else f (touchFirst slot s)
/-- A change of an entry in a commit. -/
def changeEntry (slot : Nat) (f : Entry → Entry) (s : State) : State × Status :=
  (commit causeStation slot (f (entryOf s slot), accountOf s slot) s, .ok)
/-- 0x6010:02. -/
def writeStatus (slot v : Nat) : State → State × Status :=
  entryWrite slot (fun s =>
    if (entryOf s slot).status = .exhausted then (s, .refused)
    else if v = 1 then changeEntry slot (fun e => { e with status := .active }) s
    else if v = 2 then changeEntry slot (fun e => { e with status := .suspended }) s
    else (s, .refused))
/-- 0x6010:04. -/
def writeCharge (slot v : Nat) : State → State × Status :=
  entryWrite slot (fun s =>
    let e := entryOf s slot
    let a := accountOf s slot
    let n := setCu e (v * 65536)
    (commit causeStation slot ({ n with overdrawn := n.overdrawn && v == 0 },
      { a with adj := a.adj + (((v * 65536 : Nat) : Int) - ((chargeCu e : Nat) : Int)) }) s, .ok))
/-- 0x6010:05. -/
def writeRaise (slot v : Nat) : State → State × Status :=
  entryWrite slot (fun s =>
    let e := entryOf s slot
    if !e.fresh && decide (v ≤ e.ucnt) then (monoBump e.vi 1 1 s, .refused)
    else changeEntry slot (fun x => { x with ucnt := v, fresh := false }) s)
/-- 0x6010:06. -/
def writeModel (slot v : Nat) : State → State × Status :=
  entryWrite slot (changeEntry slot (fun e => { e with cmodel := v }))
/-- 0x6010:07. -/
def writePlan (slot v : Nat) : State → State × Status :=
  entryWrite slot (changeEntry slot (fun e => { e with cplan := v }))
def budgetLeft (s : State) (vi : Nat) : Nat := tabGet 0 s.roll.budgetLeft vi
/-- 0x6011:05. -/
def writeGrant (slot v : Nat) : State → State × Status :=
  entryWrite slot (fun s =>
    let e := entryOf s slot
    let a := accountOf s slot
    if 65534 < e.credits + e.held + v then (s, .range)
    else if budgetLeft s e.vi < v then (s, .noCredit)
    else
      let s := { s with roll := { s.roll with budgetLeft := tabSet 0 s.roll.budgetLeft e.vi (budgetLeft s e.vi - v) } }
      (commit causeStation slot ({ e with credits := e.credits + v }, { a with granted := a.granted + v }) s, .ok))
/-- 0x6000:03 (R225): a write adds to the budget. -/
def writeBudget (vi v : Nat) (s : State) : State × Status :=
  ({ s with roll := { s.roll with budgetAdded := bumpBy s.roll.budgetAdded vi v
                                  budgetLeft := bumpBy s.roll.budgetLeft vi v } }, .ok)

/-! ### Slices (R207) -/

/-- A write of a slice: its size (0x6000:02) or its base (0x6000:01), the VI, the units. -/
structure SliceItem where
  size : Bool
  vi : Nat
  units : Nat
/-- Base and size of a VI once a group's slice writes have been applied. -/
def sliceAfter (s : State) (l : List SliceItem) (vi : Nat) : Nat × Nat :=
  l.foldl (fun p w => if w.vi = vi then (if w.size then (p.1, w.units) else (w.units, p.2)) else p)
    (sliceBase s vi, sliceSize s vi)
def slicesMeet (p q : Nat × Nat) : Bool := p.2 != 0 && q.2 != 0 && decide (p.1 < q.1 + q.2) && decide (q.1 < p.1 + p.2)
def slotWithin (p : Nat × Nat) (slot : Nat) : Bool := decide (p.1 * 1024 ≤ slot) && decide (slot < (p.1 + p.2) * 1024)
/-- The check of the bounds a write group would leave, made before any of its writes. -/
def sliceCheck (s : State) (l : List SliceItem) : Option Status :=
  let b := sliceAfter s l
  let vis := List.range 16
  if vis.any (fun v => decide (256 < (b v).1 + (b v).2)) then some .range
  else if vis.any (fun v => vis.any (fun w => v != w && slicesMeet (b v) (b w))) then some .refused
  else if s.roll.entries.any (fun p => p.2.status ≠ .free && vis.any (fun v => inSlice s v p.1 && !slotWithin (b v) p.1)) then
    some .refused
  else none
/-- A group's slice writes are applied. -/
def applySlices (l : List SliceItem) (s : State) : State :=
  l.foldl (fun t w => putSetting t 0 0x6000 (if w.size then 2 else 1) w.vi w.units) s
/-- The first item check of a list of slice writes that fails (Table 16.3). -/
def sliceItemCheck (s : State) (vi : Nat) (l : List SliceItem) : Option Status :=
  l.findSome? (fun w => writeCheck s vi 0x6000 (if w.size then 2 else 1) w.vi 2 w.units)
/-- A write group of slice writes. -/
def writeSlices (vi : Nat) (l : List SliceItem) (s : State) : State × Status :=
  match sliceItemCheck s vi l with
  | some st => (s, st)
  | none => (match sliceCheck s l with
    | some st => (s, st)
    | none => (applySlices l s, .ok))

/-! ### The daily sweep, the applier and the repair (R221, R226; 15 R395) -/

/-- Seconds since an entry's last touch. -/
def sinceTouch (s : State) (e : Entry) : Nat := (s.time.ledger + 2 ^ 32 - e.touch % 2 ^ 32) % 2 ^ 32
def sweepDue (s : State) : List Nat :=
  (s.roll.entries.filter (fun p => p.2.status ≠ .free && decide (86400 ≤ sinceTouch s p.2))).map (·.1)
def dailySweep (s : State) : State := (sweepDue s).foldl (fun t slot => touch causeSweep slot t) s

/-- The applier copies the effect of the oldest n records into the Roll image; they leave the ring. -/
def applyJournal (n : Nat) (s : State) : State :=
  { s with roll := { s.roll with image := (s.roll.backlog.take n).foldl imageRecord s.roll.image
                                 backlog := s.roll.backlog.drop n } }

def rollRecord : StagedItem → Option JRec
  | .roll r => some r
  | _ => none
/-- Roll records not yet in the image, those staged included (R226, R234). -/
def pendingRecords (s : State) : List JRec := s.roll.backlog ++ s.roll.staging.filterMap (fun x => rollRecord x.2)
/-- JSEQ of the oldest of them; while there is none, the one that the next record will take. -/
def oldestPending (s : State) : Nat :=
  match pendingRecords s with
  | [] => s.roll.nextJseq
  | r :: t => t.foldl (fun a x => if seqDist a s.roll.newestJseq < seqDist x.jseq s.roll.newestJseq then x.jseq else a) r.jseq
/-- The entry as the MRAM image and the Roll journal, its staged records included, give it. -/
def journaledEntry (s : State) (slot : Nat) : Entry :=
  tabGet {} ((pendingRecords s).foldl imageRecord s.roll.image) slot
def estatusOf (n : Nat) : EStatus :=
  match n with
  | 0 => .free | 1 => .active | 2 => .suspended | _ => .exhausted
/-- The entry that 512 bits of Table 8.1 spell. -/
def unpackEntry (n : Nat) : Entry :=
  { identity := bitsOf n 63 0, tag := bitsOf n 95 64, status := estatusOf (bitsOf n 99 96), vi := bitsOf n 103 100,
    profile := bitsOf n 111 104, keyh := bitsOf n 131 112, cmodel := bitsOf n 137 132, cplan := bitsOf n 143 138,
    ucnt := bitsOf n 175 144, dcnt := bitsOf n 207 176, lastAt := bitsOf n 271 208, touch := bitsOf n 303 272,
    charge := bitsOf n 335 304, chfrac := bitsOf n 351 336, credits := bitsOf n 367 352, held := bitsOf n 383 368,
    crfrac := bitsOf n 407 384, sigBeam := bitsOf n 412 408, lastBin := bitsOf n 421 413, lastMcode := bitsOf n 424 422,
    defer := bitsOf n 428 425, margin := (bitsOf n 447 432 : Nat), sigHeads := bitsOf n 459 448,
    gen := bitsOf n 495 480, fresh := n.testBit 464, sigStore := n.testBit 465, lowCharge := n.testBit 466,
    overdrawn := n.testBit 467, rekeyShadow := n.testBit 469, migrating := n.testBit 470 }
/-- A 64-bit word of the entry's 512 bits replaced. -/
def replaceWord (n w v : Nat) : Nat := n % 2 ^ (64 * w) + 2 ^ (64 * w) * (v % 2 ^ 64) + 2 ^ (64 * (w + 1)) * (n / 2 ^ (64 * (w + 1)))
/-- An account is marked UNVERIFIED with the range of the lost records (01 R33). -/
def markUnverified (acct first last : Nat) (s : State) : State :=
  { s with fault := { s.fault with
      unverified := tabSet false s.fault.unverified acct true
      lost := tabSet 0 s.fault.lost acct (first % 2 ^ 32 * 2 ^ 32 + last % 2 ^ 32) } }
/-- A committed UCNT or DCNT lies below its predecessor, with no REKEY or ENROL record between (R232). -/
def countersFell (old new : Entry) : Bool :=
  (!old.fresh && decide (new.ucnt < old.ucnt)) || decide (new.dcnt < old.dcnt)
/-- A poisoned word of an entry is repaired from MRAM; where the MRAM copy is unreadable the lost word holds a free value,
the entry is SUSPENDED, its credit account and charge ledger are UNVERIFIED from the oldest record not yet in the image to
the newest, and the counter monotonicity account counts a counter that fell and an entry that left EXHAUSTED (DESIGN
CHOICE, log entry 61). -/
def repairEntry (slot w : Nat) (readable : Bool) (s : State) : State :=
  let e := entryOf s slot
  if readable then
    setEntry s slot { journaledEntry s slot with sigStore := e.sigStore, rekeyShadow := e.rekeyShadow }
  else
    let r := drawFree s
    let x := unpackEntry (replaceWord (packEntry e) w r.1)
    let s := commit causeStation slot ({ x with vi := e.vi, status := .suspended }, accountOf r.2 slot) r.2
    let s := if countersFell e x then monoBump e.vi 0 1 s else s
    let s := if e.status = .exhausted then monoBump e.vi 6 1 s else s
    let first := oldestPending s
    markUnverified 3 first s.roll.newestJseq (markUnverified 2 first s.roll.newestJseq s)

/-! ### Commands -/

/-- ENROL (R209, R210). -/
def execEnrol (vi : Fin 16) (slot v : Nat) (s : State) : Out :=
  answered (checkedWrite vi 0x6011 1 slot 32 v (writeEnrol vi slot v) s)
/-- RETIRE (R212). -/
def execRetire (vi : Fin 16) (slot v : Nat) (s : State) : Out :=
  answered (checkedWrite vi 0x6011 2 slot 1 v (writeRetire slot) s)
/-- REPLACE (R213). -/
def execReplace (vi : Fin 16) (slot v : Nat) (s : State) : Out :=
  answered (checkedWrite vi 0x6011 3 slot 32 v (writeReplace vi slot v) s)
/-- REKEY (R217). -/
def execRekey (vi : Fin 16) (slot v : Nat) (s : State) : Out :=
  answered (checkedWrite vi 0x6011 4 slot 8 v (writeRekey vi slot v) s)
/-- REKEY_SHADOW_RELEASE (R218). -/
def execRekeyShadowRelease (slot : Fin 262144) (s : State) : Out := .next (releaseShadow slot s)
/-- STATUS_WRITE (R211). -/
def execStatusWrite (vi : Fin 16) (slot v : Nat) (s : State) : Out :=
  answered (checkedWrite vi 0x6010 2 slot 1 v (writeStatus slot v) s)
/-- CHARGE_SET (R222). -/
def execChargeSet (vi : Fin 16) (slot v : Nat) (s : State) : Out :=
  answered (checkedWrite vi 0x6010 4 slot 4 v (writeCharge slot v) s)
/-- UPLINK_COUNTER_RAISE (R216). -/
def execUplinkCounterRaise (vi : Fin 16) (slot v : Nat) (s : State) : Out :=
  answered (checkedWrite vi 0x6010 5 slot 4 v (writeRaise slot v) s)
/-- CHARGE_MODEL_ASSIGN (R235). -/
def execChargeModelAssign (vi : Fin 16) (slot v : Nat) (s : State) : Out :=
  answered (checkedWrite vi 0x6010 6 slot 1 v (writeModel slot v) s)
/-- CREDIT_PLAN_ASSIGN (R235). -/
def execCreditPlanAssign (vi : Fin 16) (slot v : Nat) (s : State) : Out :=
  answered (checkedWrite vi 0x6010 7 slot 1 v (writePlan slot v) s)
/-- GRANT (R225). -/
def execGrant (vi : Fin 16) (slot v : Nat) (s : State) : Out :=
  answered (checkedWrite vi 0x6011 5 slot 2 v (writeGrant slot v) s)
/-- GRANT_BUDGET_ADD (R225). -/
def execGrantBudgetAdd (vi : Fin 16) (target v : Nat) (s : State) : Out :=
  answered (checkedWrite vi 0x6000 3 target 4 v (writeBudget target v) s)
/-- SLICE_WRITE (R207): the slice writes of one group, each naming size or base, a VI and units. -/
def execSliceWrite (vi : Fin 16) (items : List (Bool × Nat × Nat)) (s : State) : Out :=
  answered (writeSlices vi (items.map (fun x => ⟨x.1, x.2.1, x.2.2⟩)) s)
/-- DAILY_SWEEP (R221). -/
def execDailySweep (s : State) : Out := .next (dailySweep s)
/-- JOURNAL_APPLY (R226): the applier takes n records. -/
def execJournalApply (n : Nat) (s : State) : Out := .next (applyJournal n s)
/-- ROLL_POISON_REPAIR (15 R395): word w of a slot's entry; whether the MRAM copy can be read. -/
def execRollPoisonRepair (slot : Fin 262144) (w : Fin 8) (readable : Bool) (s : State) : Out :=
  .next (settle (repairEntry slot w readable s))

end Sys2Proof.Machine
end

