-- ==== Sys2Proof/Machine/Faults.lean ====
section
/-! DEFINITION. Faults: scrubs, the error queue and its limit, the Office pairs, substitutes and released fences, report
cards and ageing, the alarm relays, and the journals' way to MRAM (15; 03 R69; 17 R445). -/

namespace Sys2Proof.Machine

/-! ### Corrections and scrubs (15 R391 to R393, Tables 15.4 and 15.5) -/

/-- ECC_RATE: the corrections of 24 h rise above the threshold; a tile's second within 7 days fences it. -/
def eccRate (u : Nat) (s : State) : State :=
  let c := cardOf s u
  let again := c.rateAt.any (fun t => decide (s.time.careUs < t + 7 * dayUs))
  let tile := decide (u / 256 = 1)
  let n := nextEseq s
  let s := errRecord { unit := u, code := .eccRate, severity := .minor, detail := corr24 c
                       open_ := again && staysOpen s u } s
  let c := cardOf s u
  let s := setCard s u { c with
    rateAt := s.time.careUs :: c.rateAt.filter (fun t => decide (s.time.careUs < t + 7 * dayUs)) }
  if again && tile then fenceUnit u n s else s
/-- n corrections of a unit's words are counted. -/
def countCorr (u n : Nat) (s : State) : State :=
  let c := cardOf s u
  let limit := setting s 0x9010 4 0
  let s' := setCard s u { c with corr := (c.corr + n) % 2 ^ 32, corrHours := addCorr n c.corrHours }
  let s' := if u / 256 = 1 then modTile s' (u % 256) (fun t => { t with corrected := (t.corrected + n) % 2 ^ 32 }) else s'
  if corr24 c ≤ limit ∧ limit < corr24 c + n then eccRate u s' else s'
/-- A word found uncorrectable is marked poisoned; a key of the store with its slot. -/
def poisonAt (addr : Nat) (s : State) : State :=
  if nodeNum addr = nodeKeyStore then
    let h := nodeOff addr / 32
    if h < 327680 then setKey s h { keyOf s h with poison := true } else s
  else setWordPoison (addr / 8) true s
/-- An uncorrectable word: its record, and the fence of a tile, Decoder unit, engine or flash bank; in always-on memory a HANDLER
fault. -/
def uncorrectable (u : Nat) (alwaysOn : Bool) (addr : Nat) (s : State) : State :=
  if alwaysOn then escalateWith { unit := unitCaretaker, code := .handler, severity := .safe, status := .poison } s
  else
    let n := nextEseq s
    let fences := u / 256 == 1 || u / 256 == 2 || u / 256 == 3 || u / 256 == 12
    let s := errRecord { unit := u, code := .eccUncorr, severity := .minor, status := .poison, addr := addr % 2 ^ 40,
                         open_ := staysOpen s u } (poisonAt (addr % 2 ^ 40) s)
    if fences then fenceUnit u n s else s
/-- A scrub of a unit's memory: n words corrected and written back, and the addresses of those found uncorrectable. -/
def scrub (u : Nat) (alwaysOn : Bool) (n : Nat) (bad : List Nat) (s : State) : State :=
  bad.foldl (fun t a => uncorrectable u alwaysOn a t) (if n = 0 then s else countCorr u n s)
/-- SCRUB (15 R393). -/
def execScrub (unit : Nat) (alwaysOn : Bool) (corrected : Nat) (bad : List Nat) (s : State) : Out :=
  if isUnit unit then .next (settle (scrub unit alwaysOn corrected bad s)) else .next s

/-! ### The error queue (15 R398, R399; 17 R445) -/

/-- Length of a record's PARENT chain in the queue, at most 4. -/
def parentDepth (s : State) : Nat → Nat → Nat
  | 0, _ => 0
  | k + 1, eseq => match s.fault.queue.find? (fun r => r.eseq == eseq) with
    | some r => if r.parent = 0xFFFFFFFF then 0 else 1 + parentDepth s k r.parent
    | none => 0
/-- ERROR_RECORD_HANDLING_LIMIT (15 R398): the record reads escalated, and a WATCHDOG record escalates to SAFE. -/
def execErrorRecordHandlingLimit (eseq : Nat) (s : State) : Out :=
  match s.fault.queue.find? (fun r => r.eseq == eseq) with
  | some r =>
    if r.handled = 0 ∨ (r.handled = 1 ∧ 4 ≤ parentDepth s 4 eseq) then
      .next (settle (escalateWith { unit := r.unit, code := .watchdog, severity := .safe, parent := eseq } (closeErr s eseq 2)))
    else .next s
  | none => .next s
/-- An ESEQ lies above another, modulo 2^32. -/
def eseqAbove (v n : Nat) : Bool := let d := (v + 2 ^ 32 - n % 2 ^ 32) % 2 ^ 32; decide (0 < d ∧ d < 2 ^ 31)
/-- A record that the acknowledgement of an ESEQ removes. -/
def acknowledged (v : Nat) (r : ErrRec) : Bool := if r.severity = .safe then r.eseq == v else !eseqAbove r.eseq v
/-- 0x9000:06. -/
def writeAck (v : Nat) (s : State) : State × Status :=
  if eseqAbove v s.fault.newest then (s, .range)
  else (settleRelays { s with fault := { s.fault with
      queue := s.fault.queue.filter (fun r => !acknowledged v r)
      safeCause := s.fault.safeCause.filter (fun n => !s.fault.queue.any (fun r => r.eseq == n && acknowledged v r))
      lastAck := v, notStoredAck := s.fault.notStored } }, .ok)
/-- ERROR_ACKNOWLEDGE (15 R399). -/
def execErrorAcknowledge (vi : Fin 16) (v : Nat) (s : State) : Out :=
  answered (checkedWrite vi 0x9000 6 0 4 v (writeAck v) s)

/-! ### Office pairs (15 R401, R403) -/

/-- An Office pair fails: its record, DETAIL 0 a compare mismatch, 1 no heartbeat, and its fence. -/
def pairFails (p detail : Nat) (s : State) : State :=
  if officePair s p = .fenced then s
  else
    let n := nextEseq s
    fencePair p n (errRecord { unit := unitPair p, code := .lockstep, severity := .major, detail := detail } s)
/-- OFFICE_HEARTBEAT_LOSS (15 R401): the active pair. -/
def execOfficeHeartbeatLoss (s : State) : Out :=
  match activePair s with
  | some p => .next (settle (pairFails p 1 s))
  | none => .next s
/-- LOCKSTEP_MISMATCH (15 R401). -/
def execLockstepMismatch (p : Fin 2) (s : State) : Out := .next (settle (pairFails p 0 s))
/-- The standby pair takes over: open write groups close, and delivery goes back to the oldest unacknowledged verdict. -/
def failover (p : Nat) (s : State) : State :=
  let c := cardOf s (unitPair p)
  let s := setOffice (setCard s (unitPair p) { c with events := (c.events + 1) % 65536 }) p .active
  let s := (openRecs s).foldl (fun t r => event t r.vi 4 (packTx (closedRec s r))) (closeGroups s)
  (List.range 16).foldl (fun t vi =>
    (collectors t vi).foldl (fun u c => rewind vi c u) (setHeld vi ((heldOf t vi).map redelivered) t)) s
/-- OFFICE_FAILOVER (15 R403). -/
def execOfficeFailover (s : State) : Out :=
  match officeInService s, (List.range 2).find? (fun p => officePair s p == .standby) with
  | false, some p => .next (settle (failover p s))
  | _, _ => .next s
/-- An entry of a fenced unit leaves the detention list. -/
def undetain (u : Nat) (s : State) : State :=
  let rest := s.fault.detention.filter (fun d => match d with
    | .unit x _ => x != u
    | .desc _ _ _ _ => true)
  let s := { s with fault := { s.fault with detention := rest } }
  setCard s u { cardOf s u with cstate := cardState s u, grade := 0 }
/-- OFFICE_PAIR_RELOAD_AND_TEST (15 R403): a fenced pair that passes returns as standby, unless it was its second fence
within 24 h. -/
def execOfficePairReloadAndTest (p : Fin 2) (pass : Bool) (s : State) : Out :=
  match officePair s p with
  | .fenced =>
    if pass && tabGet 0 s.fault.officeTwice (p + 2) == 0 then
      .next (settle (refreshCard (unitPair p) (undetain (unitPair p) (setOffice s p .standby))))
    else .next s
  | .starting => if pass && !isFenced s (unitPair p) then .next (settle (setOffice s p .standby)) else .next s
  | _ => .next s

/-! ### Substitutes and released fences (15 R402, R405) -/

/-- SUBSTITUTE_TEST (15 R402): a free tile is tested for the first logical tile that waits; it is chosen, or fenced. -/
def execSubstituteTest (p : Fin 52) (pass : Bool) (s : State) : Out :=
  match s.prefect.subst with
  | (l, 0) :: t =>
    if (freeTiles s).contains p.val then
      if pass then .next { s with prefect := { s.prefect with subst := (l, p.val + 1) :: t } }
      else .next (settle (failTest (unitTile p) (fenceRef s (physUnit l (physOf s l))) s))
    else .next s
  | _ => .next s
/-- The node port of a unit's domain opens. -/
def openPort (d : Nat) (s : State) : State := setDomain s d { domainOf s d with port := .opened, dstate := .run }
/-- A released Decoder unit takes a logical unit that has none. -/
def takeOrphan (u : Nat) (s : State) : State :=
  match (List.range 4).find? (fun i => tabGet false s.prefect.invalid (48 + i)) with
  | some i => bindUnit (48 + i) u s
  | none => s
def memoryFenced (s : State) : Bool := (List.range 4).any (fun c => isFenced s (unitDram c)) || isFenced s unitMram
/-- A unit comes back as a spare or idle substitute. -/
def releaseUnit (u : Nat) (s : State) : State :=
  let i := u % 256
  let s := undetain u s
  match u / 256 with
  | 1 => refreshCard u (openPort i (setTile s i { (tileOf s i) with tstate := .reset, logical := 0x3F, waiting := false }))
  | 2 => refreshCard u (takeOrphan i (openPort (52 + i) s))
  | 3 => (let s := setEngine s i { engineOf s i with fenced := false
                                                     pass := if i < 4 then markerIdentity else (engineOf s i).pass }
          if 4 ≤ i then openPort (56 + i) s else s)
  | 8 => refreshCard u (setOffice s i .standby)
  | 10 => { s with fault := { s.fault with dramFenced := memoryFenced s } }
  | 11 => { s with fault := { s.fault with dramFenced := memoryFenced s } }
  | _ => s
/-- 0x9020:03: the Caretaker tests the unit; one that is not fenced is refused (DESIGN CHOICE). -/
def writeRelease (v : Nat) (pass : Bool) (s : State) : State × Status :=
  if !isFenced s v || !pass then (s, .refused)
  else (settle (releaseUnit v { s with fault := { s.fault with released := v } }), .ok)
/-- FENCE_RELEASE (15 R405): the unit named and whether it passes its test. -/
def execFenceRelease (vi : Fin 16) (v : Nat) (pass : Bool) (s : State) : Out :=
  answered (checkedWrite vi 0x9020 3 0 2 v (writeRelease v pass) s)
/-- 0x9020:04. -/
def clearDescriptors (s : State) : State × Status :=
  let rest := s.fault.detention.filter (fun d => match d with
    | .unit _ _ => true
    | .desc _ _ _ _ => false)
  ({ s with fault := { s.fault with detention := rest } }, .ok)
/-- CLEAR_BAD_DESCRIPTORS (15 R406). -/
def execClearBadDescriptors (vi : Fin 16) (v : Nat) (s : State) : Out :=
  answered (checkedWrite vi 0x9020 4 0 1 v clearDescriptors s)

/-! ### The hourly update and ageing (15 R407, R408) -/

/-- The serving tile of an island with the highest required pace, the lowest number on a tie. -/
def pacedTile (s : State) (i : Nat) : Option Nat :=
  (islandTiles s i).foldl (fun b p =>
    let q := tilePace s ((logicalOfTile s p).getD 0)
    match b with
    | some x => if tilePace s ((logicalOfTile s x).getD 0) < q then some p else some x
    | none => some p) none
/-- Lowest of the slacks noted. -/
def lowestSlack (l : List (Option Int)) : Option Int :=
  l.foldl (fun b x => match b, x with
    | some m, some n => some (min m n)
    | some m, none => some m
    | none, y => y) none
/-- An island's card: AGEMV against the factory curve, SLACK over the last 24 h, and the day where one ends: it needed 0.85 V
below 55 C, did not, or had no window below 55 C, which leaves the run of days as it is. -/
def ageIsland (dayEnds : Bool) (i : Nat) (s : State) : State :=
  let u := unitIsland i
  let c := cardOf s u
  let x := islandOf s i
  let ageMv := clampInt (-32768) 32767 ((x.supply : Int) - Config.factoryCurve i x.measured s.power.junction)
  let hours := (c.slackNow :: c.slackHours).take 24
  let slack := (lowestSlack hours).getD c.slack
  let days := if dayEnds && c.cool then (if c.need then c.days + 1 else 0) else c.days
  let old := decide (7 ≤ days)
  let grade := if c.grade = 3 then 3 else if old ∨ c.grade = 2 then 2 else if 60 < ageMv ∨ c.grade = 1 then 1 else 0
  let s := setCard s u { c with ageMv := ageMv, slack := slack, days := days, grade := grade
                                slackNow := none, slackHours := hours
                                cool := !dayEnds && c.cool, need := !dayEnds && c.need }
  if old ∧ c.grade < 2 then
    let n := nextEseq s
    match pacedTile s i with
    | some p => fenceTile p n (errRecord { unit := u, code := .ageing, severity := .minor, detail := p, open_ := true } s)
    | none => errRecord { unit := u, code := .ageing, severity := .minor } s
  else s
/-- One hour of a unit's card. -/
def hourCard (life : List (Nat × Nat)) (u : Nat) (s : State) : State :=
  let st := cardState s u
  let c := cardOf s u
  setCard s u { c with
    cstate := st
    hours := if st = 0 then inc32 c.hours else c.hours
    corrHours := if c.corrHours = [] then [] else (0 :: c.corrHours).take 24
    lifeUsed := ((life.find? (fun p => p.1 == u)).map (fun p => p.2 % 65536)).getD c.lifeUsed }
/-- REPORT_CARD_UPDATE (15 R407, R408), once an hour: every unit's card, the islands' ageing, every 24th time at the end of a
day; and the LIFEUSED of units as the Caretaker finds it. -/
def execReportCardUpdate (life : List (Nat × Nat)) (airTime : Nat) (s : State) : Out :=
  let s := advanceTo airTime s
  let ends := decide (23 ≤ s.fault.hour)
  let s := allUnits.foldl (fun t u => hourCard life u t) s
  let s := { s with fault := { s.fault with hour := if ends then 0 else s.fault.hour + 1 } }
  .next (settle ((List.range 19).foldl (fun t i => ageIsland ends i t) s))

/-! ### Watchdog, relays, account marks, staging (15 R400, R412; 17 R445; 03 R69) -/

/-- An operation is READY and unblocked and a unit that admits it is free. -/
def workWaits (s : State) : Bool :=
  (List.range 60).any (fun u => match freeUnit s u with
    | some l => !drained s l && (chooseOp s l).isSome
    | none => false)
/-- PREFECT_WATCHDOG (15 R400). -/
def execPrefectWatchdog (s : State) : Out :=
  if workWaits s then .next (settle (escalateWith { unit := unitCaretaker, code := .watchdog, severity := .safe } s)) else .next s
/-- 0x9030:02. -/
def writeRelayTest (v : Nat) (s : State) : State × Status :=
  (settleRelays { s with fault := { s.fault with relayTest := v } }, .ok)
/-- RELAY_TEST (15 R412). -/
def execRelayTest (vi : Fin 16) (v : Nat) (s : State) : Out :=
  answered (checkedWrite vi 0x9030 2 0 1 v (writeRelayTest v) s)
/-- RELAY_TEST_END (15 R412). -/
def execRelayTestEnd (s : State) : Out := .next (settleRelays { s with fault := { s.fault with relayTest := 0 } })
/-- 0x9061:03. -/
def writeMarkAck (acct : Nat) (s : State) : State × Status :=
  ({ s with fault := { s.fault with
      unsealed := tabSet false s.fault.unsealed acct false
      unverified := tabSet false s.fault.unverified acct false
      lost := tabSet 0 s.fault.lost acct 0 } }, .ok)
/-- ACCOUNT_MARK_ACKNOWLEDGE (17 R445). -/
def execAccountMarkAcknowledge (vi : Fin 16) (acct v : Nat) (s : State) : Out :=
  answered (checkedWrite vi 0x9061 3 acct 1 v (writeMarkAck acct) s)
/-- STAGING_BUFFER_DRAIN (03 R69, R71). -/
def execStagingBufferDrain (s : State) : Out := .next (drainStaging s)

end Sys2Proof.Machine
end

