-- ==== Sys2Proof/Machine/Mesh.lean ====
section
/-! DEFINITION. The commands of the Movers and the mesh (13 R346 to R369). -/

namespace Sys2Proof.Machine

/-! ### Requests and responses -/

/-- The mesh stores a request until its response: at most 256 for an initiator, quarantined TIDs included (13 R353). -/
def mayIssue (s : State) (init tid : Nat) : Bool :=
  !s.mesh.outstanding.any (fun x => x.1 == init && x.2.1 == tid) && !s.mesh.quarantine.contains (init, tid)
    && decide ((s.mesh.outstanding.filter (fun x => x.1 == init)).length
        + (s.mesh.quarantine.filter (fun x => x.1 == init)).length < 256)
/-- Loop-timed rim nodes: the Shaper and timeline, and the lane controllers (01 Table 1.1; 13 Table 13.1). -/
def rimNode (n : Nat) : Bool := n == 69 || n == 70
/-- A link error that a router corrects (13 R349): it counts for the router and for the column's card, and a rate above
0x9010:04 has its MESH record (15 Table 15.4). -/
def linkCorrected (r : Nat) (s : State) : State :=
  if r < 72 then
    let u := unitColumn (r % 9)
    let c := cardOf s u
    let limit := setting s 0x9010 4 0
    let s := setCard { s with mesh := { s.mesh with linkErrors := bump s.mesh.linkErrors r } } u
      { c with corr := inc32 c.corr, corrHours := addCorr 1 c.corrHours }
    if corr24 c = limit then errRecord { unit := u, code := .mesh, severity := .minor, detail := limit + 1 } s else s
  else s
/-- Link errors that routers correct on the way of a packet. -/
def countCorrected (l : List Nat) (s : State) : State := l.foldl (fun t r => linkCorrected r t) s
def addOutstanding (init tid : Nat) (isRead : Bool) (s : State) : State :=
  { s with mesh := { s.mesh with outstanding := s.mesh.outstanding ++ [(init, tid, isRead)] } }
def addResponse (r : Resp) (s : State) : State :=
  { s with mesh := { s.mesh with responses := s.mesh.responses ++ [r] } }
/-- A posted write: discarded and counted at a closed port, otherwise done; its failures go unreported (13 R354). -/
def postedWrite (f : Flit) (data : List (BitVec 8)) (dataErr good : Bool) (s : State) : State :=
  if !good then s
  else if portClosedAt s f.addr then countDropped f.addr s
  else if dataErr then s
  else (serveWrite f.init f.addr data s).1
/-- The service of a READ or WRITE and its response. -/
def serveRequest (f : Flit) (data : List (BitVec 8)) (dataErr good : Bool) (s : State) : State :=
  let (s, st, bs) :=
    if !good then (s, Status.range, [])
    else if f.type = 0 then serveRead f.init f.addr (f.len + 1) s
    else if dataErr && !portClosedAt s f.addr then (s, .poison, [])
    else let r := serveWrite f.init f.addr data s; (r.1, r.2, [])
  answerOf st (valueLE bs)
    (addResponse ⟨f.init, f.tid, f.addr, f.len, f.type == 0, st, bs⟩ (addOutstanding f.init f.tid (f.type == 0) s))
/-- MESH_REQUEST (13 R347): a request packet is accepted at its node. `data` holds the octets of the span, `dataErr` an
uncorrectable data flit, `fixed` the routers that corrected an error. -/
def execMeshRequest (type : Fin 8) (init tid addr : Nat) (len : Fin 256) (age : Fin 64) (data : List Nat) (dataErr : Bool)
    (fixed : List Nat) (s : State) : Out :=
  let f : Flit := { addr := addr % 2 ^ 40, init := init, tid := tid % 256, type := type, age := age, len := len }
  let n := f.len + 1
  let bs := (List.range n).map (fun i => BitVec.ofNat 8 (data.getD i 0))
  if !isIdentity init || !nodeExists (initNode init) || f.type == 3 || f.type == 4 then .next s
  else if f.type ≠ 2 ∧ mayIssue s init f.tid = false then .next s
  else
    let good := goodSpan f.type f.addr n
    let held := s.time.rimStop && rimNode (nodeNum f.addr) && good
    if held && f.type == 2 && s.time.rimHeld.any (fun x => x.1 == nodeNum f.addr) then .next s
    else
      let s := countCorrected fixed (passRequest f good s)
      if held then
        .next (if f.type = 2 then
          { s with time := { s.time with rimHeld := s.time.rimHeld ++ [(nodeNum f.addr, nodeOff f.addr, valueLE bs)] } }
          else addOutstanding init f.tid (f.type == 0) s)
      else if f.type = 2 then .next (postedWrite f bs dataErr good s)
      else .next (serveRequest f bs dataErr good s)

/-- Tile of an initiator identity. -/
def tileOfInit (init : Nat) : Option Nat := if initNode init < 52 then some (initNode init) else none
/-- An initiator takes the end of a request: a tile its posted store, a channel its descriptor. -/
def takeResponse (init elem : Nat) (isRead : Bool) (st : Status) (addr : Nat) (s : State) : State :=
  let s := if st = .ok then s else failDesc init elem (!isRead) st s
  match tileOfInit init with
  | some t => if !isRead && (tileOf s t).posted ≠ 0 then postedResponse t st addr s else s
  | none => s
def dropOutstanding (init tid : Nat) (s : State) : State :=
  { s with mesh := { s.mesh with outstanding := s.mesh.outstanding.filter (fun x => !(x.1 == init && x.2.1 == tid)) } }
def dropResponse (init tid : Nat) (s : State) : State :=
  { s with mesh := { s.mesh with responses := s.mesh.responses.filter (fun x => !(x.init == init && x.tid == tid)) } }
/-- A response reaches its initiator, or is discarded for a quarantined TID (13 R347, R349, R353). -/
def deliverResponse (r : Resp) (dataErr : Bool) (elem : Nat) (s : State) : State :=
  let st := if dataErr && r.isRead && r.status == .ok then .poison else r.status
  let s := passResponse { addr := r.addr, init := r.init, tid := r.tid, type := if r.isRead then 0 else 1, len := r.len } st
    (dropResponse r.init r.tid s)
  if s.mesh.quarantine.contains (r.init, r.tid) then
    { s with mesh := { s.mesh with
        quarantine := s.mesh.quarantine.filter (· ≠ (r.init, r.tid))
        late := bump s.mesh.late (initNode r.init) } }
  else
    answerOf st (if st = .ok then valueLE r.data else 0)
      (takeResponse r.init elem r.isRead st r.addr (dropOutstanding r.init r.tid s))
/-- MESH_RESPONSE (13 R347). `elem` is the element a Mover's request served. -/
def execMeshResponse (init tid : Nat) (dataErr : Bool) (elem : Nat) (fixed : List Nat) (s : State) : Out :=
  match s.mesh.responses.find? (fun r => r.init == init && r.tid == tid) with
  | some r => .next (deliverResponse r dataErr elem (countCorrected fixed s))
  | none => .next s
/-- POSTED_STORE_RESPONSE (12 R339): the response to a posted store of a tile. -/
def execPostedStoreResponse (t : Fin 52) (tid : Nat) (s : State) : Out :=
  match s.mesh.responses.find? (fun r => r.init == identityOf t 0 && r.tid == tid && !r.isRead) with
  | some r => .next (deliverResponse r false 0 s)
  | none => .next s

/-- A timeout is counted at the initiator's node. -/
def countTimeout (init : Nat) (s : State) : State :=
  { s with mesh := { s.mesh with timeouts := bump s.mesh.timeouts (initNode init) } }
/-- MESH_TIMEOUT (13 R352, R353): a request still outstanding ends TIMEOUT, its TID quarantined; or a request of a running
descriptor, at an element and on its read or write side. -/
def execMeshTimeout (init tid elem : Nat) (isWrite : Bool) (s : State) : Out :=
  match s.mesh.outstanding.find? (fun x => x.1 == init && x.2.1 == tid) with
  | some x =>
    let s := dropOutstanding init tid (countTimeout init s)
    let s := { s with mesh := { s.mesh with quarantine := s.mesh.quarantine ++ [(init, tid)] } }
    let addr := ((s.mesh.responses.find? (fun r => r.init == init && r.tid == tid)).map (·.addr)).getD 0
    .next (answering .timeout (takeResponse init elem x.2.2 .timeout addr s))
  | none =>
    if (List.range 64).any (fun c => channelIdentity c == init && (channelOf s c).run.isSome) then
      .next (answering .timeout (failDesc init elem isWrite .timeout (countTimeout init s)))
    else .next s
/-- QUARANTINE_EXPIRY (13 R353). -/
def execQuarantineExpiry (init tid : Nat) (s : State) : Out :=
  .next { s with mesh := { s.mesh with quarantine := s.mesh.quarantine.filter (· ≠ (init, tid)) } }
/-- A READ or a WRITE that its initiator issues and that no node receives. -/
def lostRequest (init tid : Nat) (rd : Bool) (s : State) : State :=
  if isIdentity init && nodeExists (initNode init) && mayIssue s init (tid % 256) then addOutstanding init (tid % 256) rd s else s
/-- HEADER_FLIT_UNCORRECTABLE (13 R349): the packet is discarded and counted at a router; a response that was on its way
is gone; a READ or a WRITE lost on its way to its node stays outstanding until the initiator's timeout. -/
def execHeaderFlitUncorrectable (router : Fin 72) (init : Nat) (packet : LostPacket) (s : State) : Out :=
  let s := { s with mesh := { s.mesh with discards := bump s.mesh.discards router } }
  .next (match packet with
    | .read tid => lostRequest init tid true s
    | .write tid => lostRequest init tid false s
    | .response tid => dropResponse init tid s)

/-! ### The spare column (13 R356, Table 13.4) -/

/-- Packets inside the column are discarded and counted, their credits retired. -/
def loseColumn (lost : List (Nat × Nat × Nat)) (credits : Nat) (s : State) : State :=
  let s := lost.foldl (fun t x => dropResponse x.2.1 x.2.2
    { t with mesh := { t.mesh with discards := bump t.mesh.discards (x.1 % 72) } }) s
  { s with mesh := { s.mesh with sent := (s.mesh.sent + credits) % 2 ^ 64, retired := (s.mesh.retired + credits) % 2 ^ 64 } }
/-- COLUMN_SWITCHOVER (13 R356): the Caretaker declares physical column f failed. `lost` names packets discarded inside it
by router, INIT and TID. -/
def execColumnSwitchover (f : Fin 9) (lost : List (Nat × Nat × Nat)) (credits : Nat) (s : State) : Out :=
  let b : ErrBody := { unit := unitColumn f, code := .mesh, severity := .minor, detail := f }
  let c := cardOf s (unitColumn f)
  let bumped := setCard s (unitColumn f) { c with events := (c.events + 1) % 65536 }
  if s.mesh.failedColumn ≠ 0xFF then
    .next (if isFenced s (unitColumn f) then s else settle (escalateWith b (loseColumn lost credits s)))
  else if f = 8 then .next (setCard s (unitColumn 8) { c with cstate := 2, grade := 3 })
  else
    let s := loseColumn lost credits { bumped with mesh := { bumped.mesh with failedColumn := f } }
    let n := nextEseq s
    .next (settle (listFence (unitColumn f) n (errRecord b s)))

/-! ### Probes (13 R358, R359) -/

def execProbeConfigurationWrite (vi : Fin 16) (i v : Nat) (s : State) : Out :=
  answered (checkedWrite vi 0x8061 1 i 36 v (plainWrite 0 0x8061 1 i v) s)
/-- A write of the trace mode clears the trace and re-arms it. -/
def writeTraceMode (v : Nat) (s : State) : State × Status :=
  (putSetting { s with mesh := { s.mesh with trace := [] } } 0 0x8061 3 0 v, .ok)
def execTraceModeWrite (vi : Fin 16) (v : Nat) (s : State) : Out :=
  answered (checkedWrite vi 0x8061 3 0 1 v (writeTraceMode v) s)

/-! ### Mover channels (13 R360 to R367) -/

/-- A register write of an initiator to a channel: one of the identities of 13 R346. -/
def channelCommand (who c off w : Nat) (s : State) : Out :=
  if isIdentity who then
    answered (channelWrite who c off ((octetsLE 4 w).map (BitVec.ofNat 8)) s)
  else .next s
def execMoverCtrlWrite (c : Fin 64) (who w : Nat) (s : State) : Out := channelCommand who c 0x00 w s
def execKick (c : Fin 64) (who w : Nat) (s : State) : Out := channelCommand who c 0x04 w s
def execOwnerWrite (c : Fin 64) (who w : Nat) (s : State) : Out := channelCommand who c 0x30 w s
/-- MOVER_EVENT (13 R361): one event reaches a channel from its source. -/
def execMoverEvent (x : MoverSignal) (s : State) : Out :=
  .next (if takesEvent (channelOf s x.channel) x.source then channelEvent x.channel s else s)

/-- The channel reads its next descriptor: it waits for READY, starts it, or ends a malformed one at once. -/
def startDesc (c : Nat) (s : State) : State :=
  let x := channelOf s c
  let addr := (x.ring + 32 * x.next) % 2 ^ 40
  let (s, st, bs) := readTxn (channelIdentity c) addr 32 s
  let d := descOf x.next addr (valueLE bs)
  let x := channelOf s c
  let begun : Channel := { x with pending := x.pending - 1, started := inc32 x.started, waitReady := false, run := some d }
  if st ≠ .ok then endDesc c d false st 0xFFFFFFFF (setChannel s c begun)
  else if !d.raw.testBit 16 then setChannel s c { x with waitReady := true }
  else if malformed d then endDesc c d true .range 0xFFFFFFFF (setChannel s c begun)
  else setChannel s c begun
/-- DESCRIPTOR_START (13 R364). -/
def execDescriptorStart (c : Fin 64) (s : State) : Out :=
  let x := channelOf s c
  .next (if x.enable && decide (x.pending ≠ 0) && x.run.isNone then startDesc c s else s)
/-- The moves of the running descriptor, then its end. -/
def completeDesc (c : Nat) (d : Desc) (s : State) : State :=
  let (s, st, _, i) := moveElems (channelIdentity c) d d.nelem 0 s
  endDesc c d true st i s
/-- DESCRIPTOR_COMPLETE (13 R366). -/
def execDescriptorComplete (c : Fin 64) (s : State) : Out :=
  match (channelOf s c).run with
  | some d => .next (completeDesc c d s)
  | none => .next s

/-! ### Pace timers (13 R362) -/

def timerOf (s : State) (t : Nat) : PaceTimer := tabGet {} s.time.paceTimers t
def setTimer (s : State) (t : Nat) (x : PaceTimer) : State :=
  { s with time := { s.time with paceTimers := tabSet {} s.time.paceTimers t x } }
/-- Channels that take a timer's firing. -/
def timerChannels (s : State) (t : Nat) : List Nat :=
  (List.range 64).filter (fun c => (channelOf s c).evkind = 1 && (channelOf s c).evsrc == t)
/-- PACE_TIMER_FIRE (13 R362): at an air time that matches its phase, never while the timebase is invalid. -/
def execPaceTimerFire (t : Fin 16) (at_ : Nat) (s : State) : Out :=
  let x := timerOf s t
  if s.time.valid ∧ s.time.airTime ≤ at_ ∧ x.period ≠ 0 ∧ at_ % x.period = x.phase ∧ hasFired (64 + t) at_ s = false then
    let s := setTimer (markFired (64 + t) at_ (advanceTo at_ s)) t { x with
      period := x.newPeriod.getD x.period, phase := x.newPhase.getD x.phase, newPeriod := none, newPhase := none }
    .next ((timerChannels s t).foldl (fun u c => channelEvent c u) s)
  else .next s
/-- 0x8051:01 and :02: a running timer takes the write after its next firing, a stopped one at once. -/
def writeTimer (t : Nat) (phase : Bool) (v : Nat) (s : State) : State × Status :=
  let x := timerOf s t
  if phase ∧ x.newPeriod.getD x.period ≠ 0 ∧ x.newPeriod.getD x.period ≤ v then (s, .range)
  else if x.period = 0 then (setTimer s t (if phase then { x with phase := v } else { x with period := v }), .ok)
  else (setTimer s t (if phase then { x with newPhase := some v } else { x with newPeriod := some v }), .ok)
def execPaceTimerWrite (vi : Fin 16) (phase : Bool) (t v : Nat) (s : State) : Out :=
  answered (checkedWrite vi 0x8051 (if phase then 2 else 1) t 4 v (writeTimer t phase v) s)

end Sys2Proof.Machine
end

