-- ==== Sys2Proof/Machine/LaneSend.lean ====
section
/-! DEFINITION. Lane frames sent: the samples of the Shaper or the branch words, the header, the control channel, the CRC, and
their characters (04 R83 to R90, R101; 09 R263; 18 R451, R456). -/

namespace Sys2Proof.Machine

/-! ### Samples of a frame -/

/-- Valid mask of a downlink frame: every antenna while the lane is ACTIVE (04 R88; 09 R263); 0xFFFF of a cascade frame while
branches flow (18 R451). -/
def sentMask (s : State) (l : Nat) : Nat :=
  if l < 16 then (if (laneOf s l).active then 0xFFFF else 0)
  else if s.stack.branches.isEmpty then 0 else 0xFFFF
/-- Octets of a radio sample, I then Q, high byte first. -/
def sampleOctets (v : Cx) : List Nat := octetsBE 2 (ofSigned 16 v.1) ++ octetsBE 2 (ofSigned 16 v.2)
/-- Octets of slot k of a downlink frame that starts at air time n: the Shaper's samples, D0.0 where the valid bit is clear. -/
def radioSlot (s : State) (l n mask k : Nat) : List Nat :=
  match headOfLane s l with
  | some h => (List.range 16).flatMap (fun a =>
      if mask.testBit a then sampleOctets (txSample s (16 * h + a) (n + k)) else [0, 0, 0, 0])
  | none => List.replicate 64 0
/-- The word of a ring position in the group that begins at AT 256 r (18 R456): of a branch this member sends, the sample of
stamp 256 (r - 1) or the M - 1 before it; none from a branch that ends here; else the word received last. -/
def branchWord (s : State) (east : Bool) (r pos : Nat) : Nat :=
  match s.stack.sending.find? (fun x => x.positions.contains pos && goesEast s x.owner == east) with
  | some x =>
    let m := 2 ^ x.mcode
    let j := m * (r - 2) + 1 + x.positions.idxOf pos
    (combined (x.weights.map (·.2)) (x.weights.map (fun p => antStream s x.bin m p.1 j))).1
  | none =>
    if s.stack.branches.any (fun b => b.1 == s.stack.position && b.2.2.contains pos) then 0
    else tabGet 0 s.stack.words ((if east then 4096 else 0) + pos)
/-- Octets of slot k of a cascade frame that starts at air time n: sixteen branch words, high byte first. -/
def cascadeSlot (s : State) (l n k : Nat) : List Nat :=
  (List.range 16).flatMap (fun w => octetsBE 4 (branchWord s (decide (l < 18)) (n / 256) (512 * (n / 32 % 8) + 16 * k + w)))

/-! ### Characters of a frame (04 R85, R89, R90) -/

/-- Place of a control-channel character among the 1,012 of its frame. -/
def controlPlace (i : Nat) : Nat := if i < 96 then i - 72 else 24 + 32 * (i / 96 - 1) + (i % 96 - 64)
/-- Character i of a frame before its CRC: octet, and whether it is a K character. -/
def frameChar (samples : List Nat) (header : List (Nat × Bool)) (queue : List (Nat × Bool)) (i : Nat) : Nat × Bool :=
  if isSample i then ((samples[64 * (i / 96) + i % 96]?).getD 0, false)
  else if isControl i then (queue[controlPlace i]?).getD (0xDC, true)
  else (header[i - 64]?).getD (0, false)
/-- The 3,072 characters of a frame: samples by slot, header, control characters, CRC-32 over the data octets. -/
def frameChars (samples : List Nat) (seq mask flags : Nat) (queue : List (Nat × Bool)) : List (Nat × Bool) :=
  let header := [(0xBC, true), (0x7C, true), (seq, false), (255 - seq, false), (mask / 256, false), (mask % 256, false),
    (flags, false), (0, false)]
  let l := (List.range 3068).map (frameChar samples header queue)
  let data := (l.filter (fun c => !c.2)).map (·.1)
  l ++ (octetsBE 4 (crc32 data)).map (fun o => (o, false))
/-- Control characters a frame takes from those that wait. -/
def controlRoom : Nat := 1012
/-- A frame leaves: its characters in 8b/10b (04 R83). -/
def emitFrame (l n : Nat) (s : State) : State :=
  let x := laneOf s l
  let q := n / 32 % 256
  let flags := b2n x.active + 2 * b2n s.time.valid + 4 * b2n x.locked
  let mask := sentMask s l
  let samples := (List.range 32).flatMap (fun k => if l < 16 then radioSlot s l n mask k else cascadeSlot s l n k)
  let (codes, disp) := encodeChars x.txDisp (frameChars samples q mask flags x.txQueue)
  emit (.laneFrame l q flags mask codes) (setLane s l { x with txQueue := x.txQueue.drop controlRoom, txDisp := disp })
/-- BEAT with the head flag and the epoch (18 R453). -/
def sendBeat (east : Bool) (s : State) : State :=
  let f := [(1, s.stack.position), (1, 0x80), (1, 1), (8, s.stack.epoch)]
  cascadeOut east 0x40 0x80 (bodyOf f) (bodyLen f) s
/-- LANE_FRAME_SEND (04 R86, R87, R95, R101; 18 R453): a frame starts at an air time that is a multiple of 32 ticks. A step
asked for is applied at its boundary, and the messages due at it, TIME and BEAT, join its control channel. -/
def execLaneFrameSend (l : Fin 20) (airTime : Nat) (s : State) : Out :=
  if s.time.valid ∧ (laneOf s l).enabled ∧ airTime % 32 = 0 ∧ s.time.airTime ≤ airTime then
    let s := applyTap l (advanceTo airTime s)
    let x := laneOf s l
    let q := airTime / 32 % 256
    let s := setLane s l { x with
      txFrame := q
      cmds := x.cmds.map (fun c => { c with waited := c.waited + 1 })
      tapReq := x.tapReq.map (fun r => { r with waited := r.waited + 1 })
      sinceLock := if x.locked then x.sinceLock + 1 else x.sinceLock
      sinceTap := min 64 (x.sinceTap + 1), sinceStep := min 64 (x.sinceStep + 1) }
    let s := if isHead s && (l.val == 16 || l.val == 18) then sendBeat (l.val == 16) s else s
    let s := if q = 0 ∧ x.timeSent ∧ (l.val < 16 ∨ moduleSide s l) then sendTime l 0 airTime x.delay s else s
    .next (emitFrame l airTime s)
  else .next s

end Sys2Proof.Machine
end

