-- ==== Sys2Proof/Machine/Stack.lean ====
section
/-! DEFINITION. The stack: messages of the cascade lanes, head and deputy, branches, the Roll directory, forwarded frames
and the two-phase transfer of an entry (18). -/

namespace Sys2Proof.Machine

/-! ### Messages of the ring (R449, R452) -/

/-- A message travelling east or west reaches this member. One whose SRC is the member's own is discarded; one addressed
elsewhere or to all is forwarded in the same direction; one addressed here or to all is taken. -/
def receiveCascade (east : Bool) (src dst type : Nat) (fields : List (Nat × Nat)) (take : State → State) (s : State) : State :=
  if !stacked s || !linkUp s (!east) || src == s.stack.position then s
  else
    let s : State := { s with stack := { s.stack with
      present := s.stack.present ||| 2 ^ src
      lostHead := if s.stack.lostHead = src then 0xFF else s.stack.lostHead } }
    let s := if dst ≠ s.stack.position && linkUp s east then cascadeOut east type dst (bodyOf fields) (bodyLen fields) s else s
    if dst = s.stack.position ∨ dst = 0x80 then take s else s
/-- A REPLY to a cascade message: echoed TYPE and SEQ, and a status of Table 0.5. -/
def replyTo (dst type seq : Nat) (st : Status) (s : State) : State :=
  cascadeSend dst 0x3D [(1, s.stack.position), (1, dst), (1, type), (1, seq % 256), (1, statusCode st)] s

/-! ### Head and deputy (R450, R461) -/

def deputyOrder (v : Nat) : List Nat := octetsBE 8 v
/-- The deputy: the first member in the deputy order that is present and is not the head. -/
def deputyOf (s : State) : Option Nat :=
  s.stack.deputies.find? (fun p => p ≠ s.stack.head && (p == s.stack.position || s.stack.present.testBit p))
/-- 0xA000:03. -/
def stackState (s : State) : Nat :=
  if !stacked s then 0
  else if s.stack.joining then 1
  else if isHead s then 4
  else if deputyOf s = some s.stack.position then 3
  else 2
/-- BEAT leaves in both directions. -/
def beatBoth (s : State) : State := sendBeat false (sendBeat true s)
/-- Effective AT of a change of head: the first multiple of 256 ticks at least 2,560 ticks ahead. -/
def aheadAt (s : State) : Nat := ceilDiv (s.time.airTime + 2560) 256 * 256
/-- The head or the deputy order may be named here: at the present head, or where no other member can be reached. -/
def mayNameHead (s : State) : Bool := !stacked s || isHead s || !(linkUp s true || linkUp s false)
/-- 0xA000:04 and :05 (R450): the present head carries the write to every member in HEADSET; a module alone takes it. -/
def writeHead (order : Bool) (v : Nat) (s : State) : State × Status :=
  if !mayNameHead s then (s, .refused)
  else
    let head := if order then (s.stack.headset.map (·.1)).getD s.stack.head else v
    let deps := if order then deputyOrder v else s.stack.deputies
    let s : State := { s with stack := { s.stack with deputies := deps } }
    if stacked s && isHead s && (linkUp s true || linkUp s false) then
      let at_ := aheadAt s
      let s : State := { s with stack := { s.stack with headset := if order ∧ s.stack.headset.isNone then none else some (head, deps, at_) } }
      (cascadeSend 0x80 0x47 ([(1, s.stack.position), (1, 0x80), (1, head)] ++ deps.map (fun p => (1, p))
        ++ [(8, at_)]) s, .ok)
    else ({ s with stack := { s.stack with head := head, headset := none } }, .ok)
/-- 0xA000:01, :02 and :06 (R450). -/
def writeRing (sub v : Nat) (s : State) : State × Status :=
  if isServing s then (s, .refused)
  else match sub with
    | 1 => ({ s with stack := { s.stack with position := v, joining := false, beatSeen := false, present := 0 } }, .ok)
    | 2 => ({ s with stack := { s.stack with members := v } }, .ok)
    | _ => ({ s with stack := { s.stack with functions := v } }, .ok)
/-- 0xA000:08 (R462). -/
def writeDrain (p : Nat) (s : State) : State × Status :=
  if isHead s then ({ s with stack := { s.stack with drained := s.stack.drained ||| 2 ^ p } }, .ok) else (s, .refused)

/-- TIME (R97, R453): air time and delay d of 1/16 tick, behind a sequence; character 0 of that frame arrived since16 (1/16
tick) ago. It counts on the link of the path to the head: a member without a valid timebase takes
the air time; one with a valid timebase holds it without a step. -/
def execTime (l : Fin 20) (airTime d since16 : Nat) (s : State) : Out :=
  match takeMsg l 0x30 13 (fun _ b => octField 13 b 1 8 == airTime && octField 13 b 9 12 == d) s with
  | some s =>
    let n := airTime + (d + since16) / 16
    if 16 ≤ l.val ∧ followsHead s ∧ decide (l.val < 18) = pathEast s then
      match s.mode.mode with
      | .off => .next s
      | .lastGasp => .next s
      | _ => if s.time.valid then .next (advanceTo n s)
             else if s.time.qualified then .next (settle (validTimebaseAt n false s))
             else .next s
    else .next s
  | none => .next s

/-- BEAT (R450, R452, R453). A second member at this position shows itself by a BEAT with the member's own position while the
member is not the head. -/
def execBeat (east : Bool) (src dst : Fin 256) (head : Bool) (epoch : Nat) (s : State) : Out :=
  let body := [(1, src.val), (1, dst.val), (1, b2n head), (8, epoch)]
  if stacked s && src.val == s.stack.position && !isHead s && !s.stack.joining then
    .next (settle (errRecord { unit := unitCaretaker, code := .lane, severity := .minor, detail := src.val }
      { s with stack := { s.stack with joining := true } }))
  else
    .next (receiveCascade east src dst 0x40 body (fun s =>
      if head ∧ src.val = s.stack.head then
        { s with stack := { s.stack with beatSeen := true, epoch := epoch % 2 ^ 64 } }
      else s) s)

/-- HEAD_LOSS (R461): no BEAT from the head for 10 ms in either direction. -/
def execHeadLoss (s : State) : Out :=
  if followsHead s then
    let old := s.stack.head
    let s : State := { s with stack := { s.stack with
      headLosses := inc32 s.stack.headLosses, beatSeen := false, headset := none, lostHead := old
      present := s.stack.present &&& (255 - 2 ^ old) } }
    match deputyOf s with
    | some p =>
      let s : State := { s with stack := { s.stack with head := p } }
      .next (if p = s.stack.position then beatBoth s else s)
    | none => .next s
  else .next s

/-- HEADSET (R450, R452): new head, deputy order, effective AT; the member persists both and answers OK. -/
def execHeadset (east : Bool) (src dst seq : Fin 256) (head : Fin 8) (deputies at_ : Nat) (s : State) : Out :=
  let deps := deputyOrder deputies
  let body := ([(1, src.val), (1, dst.val), (1, head.val)] ++ deps.map (fun p => (1, p)) ++ [(8, at_)])
  .next (receiveCascade east src dst 0x47 body (fun s =>
    if src.val = s.stack.head then
      replyTo src 0x47 seq .ok { s with stack := { s.stack with deputies := deps, headset := some (head.val, deps, at_) } }
    else s) s)
/-- HEAD_CHANGE_EFFECTIVE (R450): the effective AT of the HEADSET accepted. -/
def execHeadChangeEffective (s : State) : Out :=
  match s.stack.headset with
  | some (head, deps, at_) =>
    if s.time.valid then
      let s := advanceTo at_ s
      let s : State := { s with stack := { s.stack with head := head, deputies := deps, headset := none } }
      .next (if isHead s then beatBoth s else s)
    else .next s
  | none => .next s

/-! ### Branches and gains (R455, R456) -/

/-- The detection that a contributing member computes its branch by: bin, MCODE and PEAK_AT of the BRANCHMAP, and the profile
of its own preamble slot of that width (R455; which profile the message means it does not say: DESIGN CHOICE, log entry 68). -/
def branchDetection (s : State) (bin mcode peakAt : Nat) : Option Detection :=
  let g := bin / 64
  ((List.range 2).find? (fun p => slotProfile s g p ≠ 0 && mergeWidth s g p == 2 ^ mcode)).map (fun p =>
    { dseq := 0, peakAt := peakAt, beam := 0, slot := p, rap := false, stale := false, bin := bin, mcode := mcode, cls := 0,
      profile := slotProfile s g p, margin := 0, floor := 0, loopGain := 0, nbHits := 0 })
/-- A contributing member reads its own preamble window and computes its own w (R455). -/
def contribute (owner capid bin mcode peakAt : Nat) (positions : List Nat) (s : State) : State :=
  let rest := s.stack.sending.filter (fun x => !(x.owner == owner && x.capid == capid) && !x.positions.any positions.contains)
  match branchDetection s bin mcode peakAt with
  | some d =>
    if windowReady s d && !windowLost s d then
      let ants := includedAntennas s d
      let w := captureWeights s 4096 d ants []
      { s with stack := { s.stack with sending := rest ++
          [⟨owner, capid, positions, bin, mcode, (ants.zip w).foldl (fun t p => tabSet (0, 0) t p.1 p.2) []⟩] } }
    else { s with stack := { s.stack with sending := rest } }
  | none => { s with stack := { s.stack with sending := rest } }
/-- BRANCHMAP (R455): without positions it is a member's request, which the head answers; with positions it assigns them,
and the member sends its branch on them while its timebase is valid. -/
def execBranchmap (east : Bool) (src dst : Fin 256) (capid : Fin 4096) (owner : Fin 8) (bin : Fin 512) (mcode : Fin 6)
    (peakAt : Nat) (positions : List Nat) (s : State) : Out :=
  let body := [(1, src.val), (1, dst.val), (2, capid.val), (1, owner.val), (2, bin.val), (1, mcode.val), (8, peakAt)]
    ++ positions.map (fun n => (2, n))
  .next (receiveCascade east src dst 0x41 body (fun s =>
    if !widens s then s
    else if isHead s ∧ positions.isEmpty then assignBranch owner capid bin mcode peakAt s
    else if positions.isEmpty then s
    else
      let rest := s.stack.branches.filter (fun b => !(b.1 == owner.val && b.2.1 == capid.val))
      if s.time.valid ∧ owner.val ≠ s.stack.position then
        contribute owner capid bin mcode peakAt positions
          { s with stack := { s.stack with branches := rest ++ [(owner.val, capid.val, positions)] } }
      else if owner.val = s.stack.position ∧ !isHead s then
        { s with stack := { s.stack with branches := rest ++ [(owner.val, capid.val, positions)] } }
      else s) s)
/-- GAINS (R456; 05 R135): the fixed gains of 32 bins from the head. -/
def execGains (east : Bool) (src dst : Fin 256) (bin : Fin 481) (gains : List Int) (s : State) : Out :=
  let body := ([(1, src.val), (1, dst.val), (2, bin.val)] ++ gains.map (fun g => (2, ofSigned 16 g)))
  .next (receiveCascade east src dst 0x46 body (fun s =>
    if src.val = s.stack.head then
      { s with stack := { s.stack with
        gains := (List.range 32).foldl (fun t i => tabSet 0 t (bin.val + i) (gains.getD i 0)) s.stack.gains } }
    else s) s)

/-! ### The Roll directory (R457) -/

/-- The head checks an update: a tag homed at another member than the sender is refused. -/
def directoryRefuses (s : State) (src tag : Nat) : Bool :=
  match tabGet none s.stack.directory tag with
  | some p => p ≠ src
  | none => false
/-- An update at the head: broadcast, then OK once every other member has acknowledged it. -/
def headUpdate (src tag home seq : Nat) (s : State) : State :=
  if directoryRefuses s src tag then replyTo src 0x42 seq .refused s
  else
    let s := setHome tag home s
    let s := cascadeSend 0x80 0x42 [(1, s.stack.position), (1, 0x80), (4, tag), (1, home), (4, seq)] s
    let others := memberCount s - 1
    if others = 0 then replyTo src 0x42 seq .ok s
    else { s with stack := { s.stack with dirPending := s.stack.dirPending ++ [(tag, home, seq, others, src)] } }
/-- DIRUPD (R457, R461): an update for the head, one that a lost head left unanswered, or the head's broadcast. -/
def execDirupd (east : Bool) (src dst : Fin 256) (tag : BitVec 32) (home : Fin 256) (seq : BitVec 32) (s : State) : Out :=
  let body := [(1, src.val), (1, dst.val), (4, tag.toNat), (1, home.val), (4, seq.toNat)]
  if !(stackFunction s 1) then .next s
  else if isHead s && dst.val == s.stack.lostHead && dst.val ≠ 0xFF && linkUp s (!east) then
    .next (replyTo src 0x42 seq.toNat .refused s)
  else
    .next (receiveCascade east src dst 0x42 body (fun s =>
      if isHead s then (if dst.val = s.stack.position then headUpdate src tag.toNat home seq.toNat s else s)
      else if dst.val = 0x80 ∧ src.val = s.stack.head then replyTo src 0x42 seq.toNat .ok (setHome tag.toNat home s)
      else s) s)

/-! ### Forwarded frames (R458) -/

/-- A forwarded frame as the capture and detection the Marker judges. -/
def forwardedCapture (x : Forwarded) : Capture :=
  { stage := 3, frame := { x.frame with sfd := true, headed := true, tagged := true }, closed := true, endAt := x.endAt, tagDone := true, refresh := x.refresh, ant := x.ant,
    rap := x.rap, stacked := x.stacked
    weights := x.weights.foldl (fun t p =>
      if p.1 < 192 then tabSet (0, 0) t p.1 (re16 (p.2 % 2 ^ 32) * 2 ^ 17, im16 (p.2 % 2 ^ 32) * 2 ^ 17) else t) [] }
def forwardedDetection (s : State) (x : Forwarded) : Detection :=
  { dseq := x.dseq, peakAt := 0, beam := x.beam, slot := 0, rap := x.rap, stale := false, bin := x.bin, mcode := x.mcode,
    cls := x.capClass, profile := x.profile, margin := x.margin, floor := 0, loopGain := 0, nbHits := 0,
    vi := groupOwner s (x.bin / 64), firstRound := 0 }
/-- FWDFRAME (R458): TAG and FCNT first (part 0), whose lookup changes nothing; the frame's other blocks (part 1) bring the
verdict, issued to this member's own VIs and returned in FWDVERDICT. -/
def execFwdframe (east : Bool) (src dst : Fin 256) (capid : Fin 4096) (part : Fin 2) (x : Forwarded) (s : State) : Out :=
  let octets := if part = 0 then octetsBE 4 x.frame.tag ++ octetsBE 4 x.frame.fcnt else forwardRest x.frame
  let body := ([(1, src.val), (1, dst.val), (2, capid.val), (1, part.val)] ++ octets.map (fun o => (1, o)))
  .next (receiveCascade east src dst 0x44 body (fun s =>
    if part = 0 ∨ !stackFunction s 1 then s
    else
      let c := forwardedCapture x
      let d := forwardedDetection s x
      let j := judge s c d
      let vi := verdictVi s d j
      let s := issueVerdict capid c d j x.latency false s
      match (tabGet [] s.verdict.held vi).getLast? with
      | some h => settle (cascadeSend src 0x45 [(1, s.stack.position), (1, src.val), (64, packVerdict h.record)] s)
      | none => s) s)
/-- FWDVERDICT (R458): the capture that waits for the verdict counts it in its frame account and is released. -/
def execFwdverdict (east : Bool) (src dst : Fin 256) (record : Nat) (s : State) : Out :=
  let body := [(1, src.val), (1, dst.val), (64, record)]
  .next (receiveCascade east src dst 0x45 body (fun s =>
    let c := bitsOf record 479 464
    let x := captureOf s c
    match x.det with
    | some d => if x.stage = 3 ∧ x.forwarded then settle (releaseCapture c d (vclassOf (bitsOf record 67 64)) s) else s
    | none => s) s)

/-! ### Two-phase transfer (R459, R460) -/

def xferOf (s : State) (slot : Nat) : Xfer := tabGet {} s.stack.xfers slot
def setXfer (slot : Nat) (x : Xfer) (s : State) : State :=
  { s with stack := { s.stack with xfers := tabSet {} s.stack.xfers slot x } }
/-- XFER to the other member: phase, slot, destination slot, AT_k, and the entry with COMMIT. -/
def sendXfer (peer phase slot dest atK : Nat) (entry : Option Entry) (s : State) : State :=
  cascadeSend peer 0x43 ([(1, s.stack.position), (1, peer), (1, phase), (4, slot), (4, dest), (8, atK)]
    ++ (match entry with
        | some e => [(64, packEntry e)]
        | none => [])) s
/-- A transfer of a slot is under way between PREPARE and AT_k. The sender keeps its COMMIT for a QUERY after AT_k. -/
def xferOpen (s : State) (slot : Nat) : Bool :=
  let x := xferOf s slot
  x.waiting || x.xstate == .prepared || x.xstate == .ready || x.xstate == .inDoubt
    || (x.xstate == .committed && x.entry.isSome && (x.receiver || (entryOf s slot).migrating))
/-- 0xA020:01 (R459 step 1). -/
def writeTransfer (slot v : Nat) (s : State) : State × Status :=
  let peer := octAt 12 v 0
  let dest := octField 12 v 4 7
  if octField 12 v 1 3 ≠ 0 ∨ 7 < peer ∨ peer = s.stack.position ∨ 262144 ≤ dest ∨ 327680 ≤ octField 12 v 8 11 then (s, .range)
  else entryWrite slot (fun s =>
    if !stacked s || !s.stack.members.testBit peer then (s, .refused)
    else if xferOpen s slot then (s, .busy)
    else
    let s := endDeferredOf slot .locked s
    let e := entryOf s slot
    let s := commit causeHandover slot ({ e with migrating := true }, accountOf s slot) s
    (sendPrepare slot (setXfer slot { peer := peer, otherSlot := dest, keyh := octField 12 v 8 11, vi := e.vi, waiting := true } s), .ok)) s
/-- TRANSFER_WRITE (R459). -/
def execTransferWrite (vi : Fin 16) (slot v : Nat) (s : State) : Out :=
  answered (checkedWrite vi 0xA020 1 slot 12 v (writeTransfer slot v) s)

/-- The receiver's check of PREPARE: the destination slot is FREE and in the VI's slice, the handle LOADED. -/
def prepareOk (s : State) (vi dest keyh : Nat) : Bool :=
  (entryOf s dest).status == .free && inSlice s vi dest && keyAssigned s vi keyh && (keyOf s keyh).kstate == .loaded
/-- XFER_PREPARE (R459 step 2): READY or ABORT. The VI and KEYH of the entry come with it. -/
def execXferPrepare (east : Bool) (src dst : Fin 256) (slot dest : Fin 262144) (vi : Fin 16) (keyh : Nat) (s : State) : Out :=
  let body := [(1, src.val), (1, dst.val), (1, 1), (4, slot.val), (4, dest.val), (8, 0)]
  .next (receiveCascade east src dst 0x43 body (fun s =>
    if prepareOk s vi dest keyh && !xferOpen s dest then
      sendXfer src 2 slot dest 0 none
        (setXfer dest { xstate := .ready, receiver := true, peer := src.val, otherSlot := slot.val, keyh := keyh, vi := vi.val } s)
    else sendXfer src 4 slot dest 0 none s) s)
/-- XFER_READY (R459 step 3): the touch, then COMMIT with the final entry and AT_k. -/
def execXferReady (east : Bool) (src dst : Fin 256) (slot dest : Fin 262144) (s : State) : Out :=
  let body := [(1, src.val), (1, dst.val), (1, 2), (4, slot.val), (4, dest.val), (8, 0)]
  .next (receiveCascade east src dst 0x43 body (fun s =>
    let x := xferOf s slot
    if x.xstate = .prepared ∧ !x.receiver ∧ x.peer = src.val then
      let s := touch causeHandover slot s
      let at_ := aheadAt s
      let e := entryOf s slot
      sendXfer src 3 slot dest at_ (some e) (setXfer slot { x with xstate := .committed, atK := at_, entry := some e } s)
    else s) s)
/-- XFER_COMMIT (R459 step 3, R460): the receiver holds the final entry for AT_k. One that was IN_DOUBT takes it at once. -/
def execXferCommit (east : Bool) (src dst : Fin 256) (slot dest : Fin 262144) (atK entry : Nat) (s : State) : Out :=
  let body := [(1, src.val), (1, dst.val), (1, 3), (4, slot.val), (4, dest.val), (8, atK), (64, entry)]
  .next (receiveCascade east src dst 0x43 body (fun s =>
    let x := xferOf s dest
    if (x.xstate = .ready ∨ x.xstate = .inDoubt) ∧ x.receiver ∧ x.peer = src.val then
      setXfer dest { x with xstate := .committed, atK := atK % 2 ^ 64, entry := some (unpackEntry entry) } s
    else s) s)
/-- MIGRATING clears as a transfer ends before COMMIT. -/
def clearMigrating (slot : Nat) (s : State) : State :=
  let e := entryOf s slot
  if e.migrating then
    commit causeHandover slot ({ e with migrating := false }, accountOf s slot) s
  else s
/-- XFER_ABORT (R459, R460): at the sender before COMMIT, at the receiver at any time before it enrols. -/
def execXferAbort (east : Bool) (src dst : Fin 256) (slot dest : Fin 262144) (s : State) : Out :=
  let body := [(1, src.val), (1, dst.val), (1, 4), (4, slot.val), (4, dest.val), (8, 0)]
  .next (receiveCascade east src dst 0x43 body (fun s =>
    let x := xferOf s slot
    let y := xferOf s dest
    if !x.receiver ∧ x.xstate = .prepared ∧ x.peer = src.val then
      clearMigrating slot (setXfer slot { x with xstate := .aborted, waiting := false } s)
    else if y.receiver ∧ (y.xstate = .ready ∨ y.xstate = .inDoubt) ∧ y.peer = src.val then
      setXfer dest { y with xstate := .aborted } s
    else s) s)
/-- XFER_QUERY (R460): the sender answers with COMMIT where it has committed, else with ABORT. -/
def execXferQuery (east : Bool) (src dst : Fin 256) (slot dest : Fin 262144) (s : State) : Out :=
  let body := [(1, src.val), (1, dst.val), (1, 5), (4, slot.val), (4, dest.val), (8, 0)]
  .next (receiveCascade east src dst 0x43 body (fun s =>
    let x := xferOf s slot
    if x.receiver = false ∧ x.xstate = .committed ∧ x.entry.isSome then sendXfer src 3 slot dest x.atK x.entry s
    else sendXfer src 4 slot dest 0 none s) s)

/-- The entry as the receiver enrols it (R459 step 4). -/
def receivedEntry (s : State) (x : Xfer) (e : Entry) : Entry × Account :=
  ({ e with vi := x.vi, keyh := x.keyh, held := 0, defer := 0, sigStore := false, rekeyShadow := false, migrating := false,
            gen := 0, touch := s.time.ledger },
   { init := chargeCu e, xin := e.credits })
/-- The sender's side at AT_k. -/
def sendAway (slot : Nat) (s : State) : State :=
  let x := xferOf s slot
  retireEntry causeHandover slot true s |> setXfer slot { x with atK := x.atK }
/-- The receiver's side at AT_k. -/
def takeOver (dest : Nat) (e : Entry) (s : State) : State :=
  let x := xferOf s dest
  let p := receivedEntry s x e
  let s := occupy causeHandover dest p.1 p.2 p.1.charge s
  let s := if p.1.status = .exhausted then monoBump x.vi 5 1 s else s
  setXfer dest { x with entry := none } s
/-- XFER_AT_K (R459 step 4, R460), at the slot of this member's side: retirement with XOUT, enrolment with XIN, or IN_DOUBT
and a QUERY. -/
def execXferAtK (slot : Fin 262144) (airTime : Nat) (s : State) : Out :=
  let x := xferOf s slot
  if s.time.valid then
    match x.receiver, x.xstate, x.entry with
    | false, .committed, some _ =>
      if x.atK ≤ airTime ∧ (entryOf s slot).migrating then .next (sendAway slot (advanceTo airTime s)) else .next s
    | true, .committed, some e =>
      if x.atK ≤ airTime ∧ (entryOf s slot).status = .free then .next (takeOver slot e (advanceTo airTime s)) else .next s
    | true, .ready, _ =>
      let s := advanceTo airTime s
      .next (sendXfer x.peer 5 x.otherSlot slot airTime none (setXfer slot { x with xstate := .inDoubt, atK := airTime } s))
    | _, _, _ => .next s
  else .next s

/-- MEMBER_DRAIN (R462). -/
def execMemberDrain (vi : Fin 16) (p v : Nat) (s : State) : Out :=
  answered (checkedWrite vi 0xA000 8 p 1 v (writeDrain p) s)

end Sys2Proof.Machine
end

