-- ==== Sys2Proof/Machine/ObjRead.lean ====
section
/-! DEFINITION. What a READ of each object returns (the tables of 02 to 18), who may read it, and which readings come
from the last snapshot (01 R30; 08 R233; 16 R419). -/

namespace Sys2Proof.Machine

/-! ### The snapshot -/

/-- The state as the last snapshot holds it. -/
def snapView (s : State) : State :=
  { s with
    settings := s.snap.settings, time := s.snap.time, fault := s.snap.fault, power := s.snap.power, lane := s.snap.lane
    rx := s.snap.rx, sweep := s.snap.sweep, verdict := s.snap.verdict, roll := s.snap.roll, tx := s.snap.tx
    cipher := s.snap.cipher, prefect := s.snap.prefect, tiles := s.snap.tiles, mesh := s.snap.mesh, pace := s.snap.pace
    molfen := s.snap.molfen, stack := s.snap.stack }
/-- Counters, accounts and the objects of 08 Table 8.10 are read from the snapshot; the Caretaker's own (0xF000) are
live. -/
def isSnap (idx sub : Nat) : Bool :=
  match idx with
  | 0x2010 => sub == 7
  | 0x2020 => sub == 5 || sub == 6
  | 0x2030 => sub == 4
  | 0x2040 => sub == 6
  | 0x2050 => decide (3 ≤ sub)
  | 0x3010 => decide (0x10 ≤ sub)
  | 0xA010 => decide (0x10 ≤ sub)
  | 0x4000 => sub == 4
  | 0x4005 => sub == 5
  | 0x4007 => decide (2 ≤ sub)
  | 0x4012 => true
  | 0x4030 => sub == 1 || sub == 2 || sub == 3 || sub == 6
  | 0x4040 => sub == 6
  | 0x5021 => sub == 2 || sub == 3
  | 0x5041 => true
  | 0x6000 => true
  | 0x6001 => true
  | 0x6010 => true
  | 0x6011 => true
  | 0x6020 => true
  | 0x6021 => true
  | 0x7001 => sub == 3
  | 0x7012 => true
  | 0x8010 => sub == 5 || sub == 6 || sub == 7
  | 0x8020 => sub == 3
  | 0x8030 => sub == 4
  | 0x8040 => sub == 2 || decide (4 ≤ sub)
  | 0x8060 => decide (5 ≤ sub)
  | 0x8061 => sub == 2 || sub == 5
  | 0x1030 => sub == 2
  | 0x1040 => sub ≠ 3
  | 0x9000 => sub == 5
  | 0x9010 => sub == 2 || sub == 3
  | 0x9020 => sub == 5
  | 0x9030 => sub == 3
  | 0xA000 => sub == 7
  | 0xA040 => sub == 2
  | _ => decide (0x9040 ≤ idx ∧ idx ≤ 0x9053)
/-- A snapshot taken after the AT_k of a transfer in doubt is withheld (18 R460). -/
def snapWithheld (s : State) : Bool :=
  s.stack.xfers.any (fun p => p.2.xstate == .inDoubt && decide (p.2.atK < s.time.snapshotAt))

/-! ### Records (sent high byte first, 17 R439) -/

def u8s (l : List Nat) : Nat := bodyOf (l.map (fun v => (8, v)))
/-- Text, left-aligned and padded with zero octets to n octets (17 R442). -/
def textOf (n : Nat) (t : String) : Nat := fromBE ((t.toList.map (·.toNat)) ++ List.replicate (n - t.length) 0)
/-- Seal record (03 Table 3.5). -/
def packSeal (x : Seal) : Nat :=
  pack [(32, x.mark), (64, x.lossAt), (32, x.careMs), (32, x.jseq), (32, x.accCrc), (16, x.energy), (16, x.duration),
    (8, x.cause), (24, 0)]
/-- Lane status (04 Table 4.7). -/
def laneStatus (s : State) (l : Nat) : Nat :=
  let x := laneOf s l
  let role := decide (12 ≤ l ∧ l < 16) && decide (setting s 0x3030 1 (l - 12) < 12)
  pack [(1, b2n x.los), (1, b2n x.lol), (1, b2n x.locked), (1, b2n x.remLock), (1, b2n x.headId), (1, b2n x.active),
    (1, b2n role), (1, b2n x.crcAlarm), (1, b2n x.tapReq.isSome), (1, b2n x.cageEmpty), (1, b2n x.cageBad)]
/-- Detection record (06 Table 6.1). -/
def packDetection (d : Detection) : Nat :=
  pack [(32, d.dseq), (64, d.peakAt), (5, d.beam), (1, d.slot), (1, b2n d.rap), (1, b2n d.stale), (9, d.bin), (3, d.mcode),
    (2, d.cls), (2, 0), (8, d.profile), (16, ofSigned 16 d.margin), (16, ofSigned 16 d.floor), (16, ofSigned 16 d.loopGain),
    (16, d.nbHits), (16, d.capid), (8, d.outcome), (8, d.cause), (32, d.round)]
/-- Capture state record (06 Table 6.4, R172): a VI that does not own the bin group sees STATE alone. -/
def packCapture (own : Bool) (x : Capture) : Nat :=
  if own then
    pack [(8, x.stage), (8, if x.stage ≤ 1 then 0 else x.ant), (32, (x.det.map (·.dseq)).getD 0), (64, x.grantAt),
      (8, min 255 x.refresh), (8, 0)]
  else x.stage % 256
/-- Frame account of a set of bin groups (06 R173). -/
def frameAccount (s : State) (groups : List Nat) : Nat :=
  let term (k : Nat) : Nat := (groups.map (fun g => tabGet 0 s.sweep.account (16 * g + k))).sum
  let pend := (s.sweep.requests.filter (fun d => groups.contains (d.bin / 64))).length
  let run := (s.sweep.captures.filter (fun p => p.2.stage ≠ 0 && (match p.2.det with
    | some d => groups.contains (d.bin / 64)
    | none => false))).length
  bodyOf ([(8, term 0), (8, term 1), (8, pend), (8, term 3), (8, run)] ++ (List.range 10).map (fun v => (8, term (5 + v))))
/-- VIs a selector of the accounts stands for: one VI, or all at selector 16. -/
def visOf (v : Nat) : List Nat := if v = 16 then List.range 16 else [v]
/-- Terms of a VI's occupancies: account records of live ones, added to the retired terms (08 R231). -/
def viSum (s : State) (vis : List Nat) : Account :=
  let live := vis.flatMap (fun v => (liveEntries s v).map (fun p => accountOf s p.1))
  let gone := vis.map (fun v => (tabGet ({} : Retired) s.roll.retired v).sum)
  (live ++ gone).foldl sumAccounts {}
/-- VI credit account (08 R231). -/
def creditAccount (s : State) (vis : List Nat) : Nat :=
  let a := viSum s vis
  let live := vis.flatMap (fun v => liveEntries s v)
  bodyOf [(8, a.earned), (8, a.granted), (8, a.xin), (8, a.forfeit), (8, a.spent), (8, a.xout), (8, a.reserved),
    (8, a.refunded), (8, (vis.map (fun v => (tabGet ({} : Retired) s.roll.retired v).returned)).sum),
    (8, (live.map (fun p => p.2.credits)).sum), (8, (live.map (fun p => p.2.held)).sum)]
/-- VI charge account (08 R231). -/
def chargeAccount (s : State) (vis : List Nat) : Nat :=
  let a := viSum s vis
  let live := vis.flatMap (fun v => liveEntries s v)
  bodyOf [(8, a.init), (8, ofSigned 64 a.adj), (8, a.air), (8, a.rx), (8, a.dl), (8, a.sleep), (8, a.unfunded),
    (8, (vis.map (fun v => (tabGet ({} : Retired) s.roll.retired v).retCharge)).sum),
    (8, (live.map (fun p => chargeCu p.2)).sum)]
/-- Counter monotonicity account (08 R232). -/
def monotonyAccount (s : State) (vis : List Nat) : Nat :=
  let term (k : Nat) : Nat := (vis.map (fun v => tabGet 0 s.roll.monotone (8 * v + k))).sum
  let now := ((vis.flatMap (fun v => liveEntries s v)).filter (fun p => p.2.status == .exhausted)).length
  bodyOf [(4, term 0), (4, term 1), (4, term 2), (4, term 3), (4, now), (4, term 5), (4, term 6)]
/-- Request record (09 Table 9.8). -/
def packRequest (r : ReqRec) : Nat :=
  pack [(32, r.rqid), (32, r.slot), (4, originCode r.origin), (4, r.vi), (8, dlOutcomeCode r.outcome),
    (8, statusCode r.status), (8, burstCode r.burst), (64, r.start), (4, r.frac), (12, r.heads), (8, r.profile), (8, r.cost),
    (64, r.endAt), (32, r.prev), (1, b2n r.clamped), (1, b2n r.headLost), (1, b2n r.fallback), (1, b2n r.mask), (4, 0),
    (8, b2n r.dlpend), (16, ofSigned 16 r.level)]
/-- Downlink account (09 R266). -/
def downlinkAccount (s : State) (vis : List Nat) : Nat :=
  let term (k : Nat) : Nat := (vis.map (fun v => tabGet 0 s.tx.account (32 * v + k))).sum
  let refused (st : Status) : Nat := term (8 + statusCode st)
  let waiting := (s.tx.deferred.filter (fun d => vis.contains d.vi)).length
  let others := ((List.range 17).filter (fun c => !([Status.noCredit, .late, .range, .exhausted, .aborted, .incomplete].map
    statusCode).contains c)).map (fun c => term (8 + c))
  bodyOf [(8, term 0), (8, term 1), (8, term 2), (8, term 3), (8, waiting), (8, term 4), (8, term 5), (8, term 6),
    (8, refused .noCredit), (8, refused .late), (8, refused .range), (8, refused .exhausted), (8, refused .aborted),
    (8, refused .incomplete), (8, others.sum)]
/-- Buffer pool account (11 R305). -/
def poolAccount (s : State) : Nat :=
  let term (k : Nat) : Nat := tabGet 0 s.prefect.account k
  let waiting := ((s.prefect.portFifo ++ s.prefect.tileFifo).map (fun p => p.2.length)).sum
  bodyOf [(8, term 0), (8, term 1), (8, s.prefect.ops.length), (8, term 3), (8, term 4),
    (8, (s.prefect.bufRefs.filter (fun p => p.2 ≠ 0)).length), (8, term 6), (8, term 7), (4, waiting), (8, term 9), (4, term 10)]
/-- Mover descriptor account (13 R368). -/
def moverAccount (s : State) (channels : List Nat) : Nat :=
  let sum (f : Channel → Nat) : Nat := (channels.map (fun c => f (channelOf s c))).sum
  bodyOf [(8, sum (fun x => x.started + x.pending + x.overrun)), (8, sum (·.started)), (8, sum (·.good)), (8, sum (·.bad)),
    (8, sum (·.pending)), (8, sum (·.overrun))]
/-- Detention list entry (15 Table 15.6). -/
def packDetained (d : Detained) : Nat :=
  match d with
  | .unit u ref => bodyOf [(1, 1), (1, 0), (2, u), (4, ref), (1, 0), (3, 0), (4, 0)]
  | .desc c ref cls fail => bodyOf [(1, 2), (1, 0), (2, unitChannel c), (4, ref), (1, statusCode cls), (3, 0), (4, fail)]
/-- Report card (15 Table 15.7). -/
def packCard (u : Nat) (c : Card) : Nat :=
  bodyOf [(2, u), (1, c.cstate), (1, c.grade), (4, c.hours), (4, c.corr), (4, c.uncorr), (2, c.fences), (2, c.events),
    (2, ofSigned 16 c.ageMv), (2, ofSigned 16 c.slack), (4, c.lastFault), (2, c.lifeUsed), (2, 0)]
/-- Highest severity of the records held, 0xFF none (17 Table 17.6). -/
def topSeverity (s : State) : Nat :=
  if s.fault.queue = [] then 0xFF else s.fault.queue.foldl (fun m r => max m (severityCode r.severity)) 0
/-- Timebase status (14 Table 14.10). -/
def timeStatus (s : State) : Nat :=
  pack [(1, b2n s.time.refLost), (1, b2n s.time.valid), (1, b2n s.time.extrap), (1, b2n s.time.loopLock), (1, b2n s.time.rimStop)]
/-- Alarm state (17 Table 17.6): a contact is active while its relay is de-energised. -/
def alarmState (s : State) : Nat :=
  pack [(1, b2n !s.fault.major), (1, b2n !s.fault.minor), (1, b2n (decide (s.fault.relayTest ≠ 0)))]
/-- SILENT causes (02 Table 2.4). -/
def silentCauses (s : State) : Nat := b2n s.mode.causeRef + 2 * b2n s.mode.causeQuiet
/-- Emergency status (17 Table 17.8). -/
def emergencyStatus (s : State) : Nat :=
  bodyOf [(1, modeCode s.mode.mode), (1, silentCauses s), (2, degradedReasons s), (1, timeStatus s), (1, alarmState s),
    (1, officeCode s.fault.officeA + 4 * officeCode s.fault.officeB), (1, s.power.sealResult), (4, s.fault.newest),
    (1, s.fault.queue.length), (1, topSeverity s), (2, ofSigned 16 s.power.junction), (2, s.power.voltage), (2, s.power.holdup),
    (8, s.time.careUs), (4, 0)]
/-- Key check value (10 Table 10.7); an EMPTY slot holds no key and reads zero. -/
def keyCheck (x : KeySlot) : Nat :=
  if x.kstate = .empty then 0 else fromBE ((aesEncrypt x.key (zeros 16)).take 3)
/-- Charge with the pending drain applied, in uA h (08 Table 8.10). -/
def chargeNow (s : State) (e : Entry) : Nat := (chargeCu e - (modelOf s e.cmodel).sleep * sinceTouch s e) / 65536
/-- Signature record: 192 weights, re then im of each in Q1.15 (08 R206). -/
def signatureOf (s : State) (slot : Nat) : Nat :=
  bodyOf ((List.range 192).flatMap (fun a =>
    (let w := tabGet 0 s.roll.signature (192 * slot + a); [(2, w % 65536), (2, w / 65536)])))
/-- The package of a profile is installed (07 Table 7.11). -/
def isInstalled (s : State) (id : Nat) : Bool := (packageOf s id).ustate == .installed || (packageOf s id).wasInstalled
/-- A profile is licensed (00 Table 0.2; 07 R175). -/
def isLicensed (s : State) (id : Nat) : Bool := isVendor id || isCustomer id || (isPublished id && s.molfen.licence == 1)
/-- A journal record that a VI may read (16 R426). -/
def mayReadTx (vi : Nat) (r : TxRec) : Bool := vi == 0 || r.vi == vi || r.kind == 2
/-- The newest record of a CNT's low 32 bits that a VI may read (16 R426). -/
def txByCnt (s : State) (vi low : Nat) : Option TxRec :=
  (s.molfen.journal.filterMap (·.2)).foldl (fun b r =>
    if r.kind = 1 ∧ r.cnt % 2 ^ 32 = low ∧ mayReadTx vi r then
      (match b with
       | some x => if eseqAbove r.tseq x.tseq then some r else b
       | none => some r)
    else b) none
/-- Index of the newest record of the detection ring in a bin group of a VI. -/
def newestIndex (s : State) (vi : Nat) : Nat :=
  ((s.sweep.ring.filterMap (fun p => match p.2 with
    | some d => if groupOwner s (d.bin / 64) = vi then some ((s.sweep.ringCount + 65535 - p.1) % 65536, p.1) else none
    | none => none)).foldl (fun b p => match b with
      | some q => if p.1 < q.1 then some p else b
      | none => some p) none).elim 0 (·.2)
/-! ### Values, chapter by chapter; none: UNKNOWN -/

def readModes (s : State) (idx sub el : Nat) : Option Nat :=
  match idx, sub with
  | 0x2000, 1 => some (modeCode s.mode.mode)
  | 0x2000, 2 => some (degradedReasons s)
  | 0x2000, 3 => some (silentCauses s)
  | 0x2000, 5 => some s.mode.request
  | 0x2000, 6 => some (b2n s.mode.causeQuiet)
  | 0x2000, 7 => some (serviceUnmet s)
  | 0x2000, 8 => some s.mode.lastTransition
  | 0x2010, 2 => some (timeStatus s)
  | 0x2010, 3 => some s.time.airTime
  | 0x2010, 4 => some s.time.pendingEpoch
  | 0x2010, 6 => some (ofSigned 32 s.time.refOffset)
  | 0x2010, 7 => some s.time.refLosses
  | 0x2020, 1 => some s.power.voltage
  | 0x2020, 2 => some s.power.powerDrawn
  | 0x2020, 3 => some s.power.holdup
  | 0x2020, 4 => some s.power.capacity
  | 0x2020, 5 => some s.power.dips
  | 0x2020, 6 => some s.power.losses
  | 0x2020, 7 => some s.power.sealResult
  | 0x2020, 8 => some (packSeal s.power.lastSeal)
  | 0x2020, 9 => some s.power.winStart
  | 0x2020, 0x0A => some s.power.winEnd
  | 0x2020, 0x0B => some (b2n s.power.winCare)
  | 0x2020, 0x10 => some (ofSigned 16 s.power.baseplate)
  | 0x2020, 0x11 => some (ofSigned 16 s.power.junction)
  | 0x2020, 0x12 => some (ofSigned 16 (baseplateMean s.power))
  | 0x2030, 1 => some ((bellOf s el).newPeriod.getD (bellOf s el).period)
  | 0x2030, 2 => some ((bellOf s el).newPhase.getD (bellOf s el).phase)
  | 0x2030, 3 => some (bellOf s el).armed
  | 0x2030, 4 => some (bellOf s el).missed
  | 0x2040, 2 => some (islandOf s el).required
  | 0x2040, 3 => some (islandOf s el).measured
  | 0x2040, 4 => some (islandOf s el).supply
  | 0x2040, 5 => some (supplyBand (islandOf s el).supply)
  | 0x2040, 6 => some (islandOf s el).below
  | 0x2050, 1 => some (domainWord (domainOf s el))
  | 0x2050, 3 => some (domainOf s el).entries
  | 0x2050, 4 => some (domainOf s el).asleep
  | 0x2050, 5 => some (domainOf s el).dropped
  | _, _ => some (readSetting s 0 idx sub el)

def readLanes (s : State) (idx sub el : Nat) : Option Nat :=
  let l := if idx = 0xA010 then 16 + el else el
  match idx, sub with
  | 0x3020, 1 => some (headOf s el).identity
  | 0x3020, 2 => some (headOf s el).headStat
  | 0x3020, 3 => some (headOf s el).serving
  | 0x3030, 2 => some 0
  | 0x3040, 1 => some (cageOf s el).identity
  | 0x3040, 2 => some (cageOf s el).diag
  | 0x3000, _ => some (readSetting s 0 idx sub el)
  | 0x3030, _ => some (readSetting s 0 idx sub el)
  | _, 1 => some (laneStatus s l)
  | _, 2 => some (laneOf s l).delay
  | _, 3 => some (laneOf s l).txLatency
  | _, 4 => some (256 * (laneOf s l).pre + (laneOf s l).post)
  | _, 5 => some (laneOf s l).farTaps
  | _, _ => some (tabGet 0 (laneOf s l).counters (sub - 0x10))

def readReceive (s : State) (idx sub el : Nat) : Option Nat :=
  match idx, sub with
  | 0x4000, 4 => some s.rx.histPoison
  | 0x4000, _ => some (dictDefault idx sub el)
  | 0x4001, 1 => some (tabGet 0 s.rx.cal.shadow el)
  | 0x4001, 2 => some (tabGet 0 s.rx.cal.active el)
  | 0x4001, 3 => some (bellOf s 10).armed
  | 0x4001, 4 => some s.rx.cal.swapState
  | 0x4001, 5 => some s.rx.cal.last
  | 0x4002, 1 => some (tabGet 0 (beamsOf s (el / 6144)).shadow (el % 6144))
  | 0x4002, 2 => some (tabGet 0 (beamsOf s (el / 6144)).active (el % 6144))
  | 0x4002, 3 => some (beamsOf s el).shiftShadow
  | 0x4002, 4 => some (beamsOf s el).shiftActive
  | 0x4002, 5 => some (bellOf s (12 + el)).armed
  | 0x4002, 6 => some (beamsOf s el).swapState
  | 0x4002, 7 => some (beamsOf s el).last
  | 0x4004, 1 => some (if bigStack s then 1 else readSetting s 0 idx sub el)
  | 0x4004, 5 => some (ofSigned 16 (streamOf s (streamKey 0 (el % 32) (el / 32))).gain)
  | 0x4004, 6 => some (b2n (decide (0 < (streamOf s (streamKey 0 (el % 32) (el / 32))).frozen)))
  | 0x4005, 1 => some (ofSigned 8 (gainAt s el s.time.airTime))
  | 0x4005, 5 => some (tabGet 0 s.rx.gainChanges el)
  | 0x4006, 2 => some (ofSigned 16 (tabGet 0 s.rx.antFloor el))
  | 0x4006, 3 => some (ofSigned 16 (tabGet 0 s.rx.beamFloor el))
  | 0x4006, 4 => some (tabGet 0 s.rx.fraction el)
  | 0x4006, 5 =>
    let fresh := (List.range 64).all (fun i =>
      (List.range 192).all (fun a => tabGet false s.rx.antFresh (512 * a + 64 * el + i))
      && (List.range 32).all (fun k => tabGet false s.rx.beamFresh (32 * (64 * el + i) + k)))
    some (b2n (groupTaken s el) + 2 * b2n !fresh)
  | 0x4006, 6 => some (ofSigned 16 (tabGet 0 s.rx.wideband el))
  | 0x4007, 2 => some (tabGet 0 s.rx.blanked el)
  | 0x4007, 3 => some (tabGet 0 s.rx.erased el)
  | 0x4007, 4 => some (tabGet 0 s.rx.clipped el)
  | 0x4007, 5 => some (tabGet 0 s.rx.saturated el)
  | _, _ => some (readSetting s 0 idx sub el)

def readSweep (s : State) (vi idx sub el : Nat) : Option Nat :=
  match idx, sub with
  | 0x4010, 6 => some (tabGet 0 s.sweep.masks el)
  | 0x4011, 3 => some (effectiveCeiling s)
  | 0x4011, 5 => some (runningCount s)
  | 0x4011, 6 => some (binHeld s el)
  | 0x4011, 8 => some (captureLevel s el)
  | 0x4011, 0x0A => some s.sweep.requests.length
  | 0x4012, 1 => some (tabGet 0 s.sweep.cDet el)
  | 0x4012, 2 => some (tabGet 0 s.sweep.cGrant el)
  | 0x4012, 3 => some (tabGet 0 s.sweep.cRefuse el)
  | 0x4012, 4 => some (tabGet 0 s.sweep.cCause el)
  | 0x4012, 5 => some (tabGet 0 s.sweep.cSuppress el)
  | 0x4012, 6 => some (tabGet 0 s.sweep.cLife el)
  | 0x4013, 1 => some ((tabGet none s.sweep.ring el).elim 0 packDetection)
  | 0x4013, 2 => some (newestIndex s vi)
  | 0x4014, 1 =>
    let x := captureOf s el
    some (packCapture (match x.det with
      | some d => groupOwner s (d.bin / 64) == vi
      | none => true) x)
  | 0x9053, 1 =>
    some (frameAccount s (if el = 8 then (List.range 8).filter (fun g => vi == 0 || groupOwner s g == vi) else [el]))
  | _, _ => some (readSetting s 0 idx sub el)

def readVerdicts (s : State) (vi idx sub el : Nat) : Option Nat :=
  match idx, sub with
  | 0x4020, 1 => some (if isInstalled s el then 2 else if isLicensed s el then 1 else 0)
  | 0x4020, 2 => some (packageOf s el).version
  | 0x4020, 4 => some (b2n (packageOf s el).inst.raw)
  | 0x4030, 1 => some (tabGet 0 s.verdict.counts (256 * vi + el))
  | 0x4030, 2 => some (tabGet 0 s.verdict.late vi)
  | 0x4030, 3 => some (tabGet 0 s.verdict.crowd vi)
  | 0x4030, 4 => some (vseqBefore s vi (tabGet 1 s.verdict.nextVseq vi))
  | 0x4030, 5 => some (maxLatency s)
  | 0x4030, 6 => some s.verdict.overruns
  | 0x4040, 4 => some (tabGet 0 s.verdict.acked (4 * vi + el))
  | 0x4040, 5 => some (heldOf s vi).length
  | 0x4040, 6 => some (tabGet 0 s.verdict.discarded vi)
  | 0x4040, _ => some (readSetting s vi idx sub el)
  | _, _ => some (readSetting s 0 idx sub el)

def readRoll (s : State) (vi idx sub el : Nat) : Option Nat :=
  let e := entryOf s el
  let live (v : Nat) : Option Nat := if e.status = .free then none else some v
  match idx, sub with
  | 0x6000, 3 => some (tabGet 0 s.roll.budgetAdded el)
  | 0x6000, 4 => some ((visOf el).map (budgetLeft s)).sum
  | 0x6000, 5 => some (liveEntries s vi).length
  | 0x6000, 6 => some s.roll.placeRefused
  | 0x6001, 1 => some s.time.ledger
  | 0x6001, 2 => some 0
  | 0x6001, 3 => some (b2n s.time.gap)
  | 0x6010, 1 => some (packEntry e)
  | 0x6010, 2 => some (estatusCode e.status)
  | 0x6010, 3 => live (chargeNow s e)
  | 0x6010, 6 => live e.cmodel
  | 0x6010, 7 => live e.cplan
  | 0x6010, 8 => if e.status = .free ∨ e.sigStore = false then none else some (signatureOf s el)
  | 0x6010, 9 => (slotByTag s el).bind (fun slot => if inSlice s vi slot then some slot else none)
  | 0x9040, 1 => some (packAccount (accountOf s el))
  | 0x9041, 1 => some (creditAccount s (visOf el))
  | 0x9042, 1 => some (chargeAccount s (visOf el))
  | 0x9043, 1 => some (monotonyAccount s (visOf el))
  | 0x9044, 1 => some (pendingRecords s).length
  | 0x9044, 2 => some (oldestPending s)
  | 0x9044, 3 => some (shadowCount s)
  | _, _ => some (readSetting s 0 idx sub el)

def readTransmit (s : State) (vi idx sub el : Nat) : Option Nat :=
  match idx, sub with
  | 0x5000, 4 => some (spacingOf s el)
  | 0x5001, 1 => some (tabGet 0 s.tx.cal.shadow el)
  | 0x5001, 2 => some (tabGet 0 s.tx.cal.active el)
  | 0x5001, 3 => some (bellOf s 11).armed
  | 0x5001, 4 => some s.tx.cal.swapState
  | 0x5021, 2 => some (tabGet 0 s.tx.maskBlocks el)
  | 0x5021, 3 => some s.tx.maskAborts
  | 0x5022, 3 => some (tokensNow s el / 65536)
  | 0x5030, 2 => some (readSetting s vi idx sub el)
  | 0x5040, 1 => (reqOf s el).map packRequest
  | 0x5040, 2 => some (tabGet 0 s.tx.newest vi)
  | 0x5041, 1 => some (downlinkAccount s (visOf el))
  | _, _ => some (readSetting s 0 idx sub el)

def readCipher (s : State) (vi idx sub el : Nat) : Option Nat :=
  match idx, sub with
  | 0x7001, 1 => some (engineOf s el).pass
  | 0x7001, 3 => some (engineOf s el).forcedCount
  | 0x7001, 4 => some (engineState (engineOf s el))
  | 0x7010, 3 => some (keyStateCode (keyOf s el).kstate)
  | 0x7010, 4 => some (keyCheck (keyOf s el))
  | 0x7012, 1 => some (tabGet 0 s.cipher.unwrapFails vi)
  | _, _ => some (readSetting s 0 idx sub el)

/-- Chunks of 0x8070:03 and 0x8080:03: length and octets. -/
def chunkOf (s : State) (idx el : Nat) : Nat × Nat :=
  if idx = 0x8070 then tabGet (1, 0) s.molfen.firmware.chunks el
  else tabGet (1, 0) (packageOf s (el / 2 ^ 24)).chunks (el % 2 ^ 24)

def readEngines (s : State) (idx sub el : Nat) : Option Nat :=
  match idx, sub with
  | 0x8010, 1 => some (b2n (isOrdered s el))
  | 0x8010, 3 => some (s.prefect.ops.filter (fun o => o.stage == .ready && o.level == el)).length
  | 0x8010, 4 => some (shedMask s)
  | 0x8010, 5 => some (tabGet 0 s.prefect.dropped el)
  | 0x8010, 6 => some (tabGet 0 s.prefect.unbound el)
  | 0x8010, 7 => some (tabGet 0 s.prefect.winBlocks el)
  | 0x8020, 1 => some (mapEntry s el)
  | 0x8020, 3 => some (tabGet 0 s.prefect.drainEnded el)
  | 0x8030, 4 => some s.prefect.traceLost
  | 0x9050, 1 => some (poolAccount s)
  | 0x8040, 1 => some (tileStateCode (tileOf s el).tstate)
  | 0x8040, 2 => some (tabGet 0 (tileOf s (el / 16)).traps (el % 16))
  | 0x8040, 3 => some (tileOf s el).lastTrap
  | 0x8040, 4 => some ((tileOf s el).bundlesAll / 65536)
  | 0x8040, 5 => some (tileOf s el).storeFails
  | 0x8040, 6 => some (tileOf s el).corrected
  | 0x8050, 1 => some (channelImage (channelOf s el))
  | 0x8051, 1 => some ((timerOf s el).newPeriod.getD (timerOf s el).period)
  | 0x8051, 2 => some ((timerOf s el).newPhase.getD (timerOf s el).phase)
  | 0x8060, 4 => some s.mesh.failedColumn
  | 0x8060, 5 => some (tabGet 0 s.mesh.timeouts el)
  | 0x8060, 6 => some (tabGet 0 s.mesh.late el)
  | 0x8060, 7 => some (tabGet 0 s.mesh.linkErrors el)
  | 0x8060, 8 => some (tabGet 0 s.mesh.discards el)
  | 0x8061, 2 => some (tabGet 0 s.mesh.probeCount el)
  | 0x8061, 4 => some (match s.mesh.trace[el]? with
      | some (flit, time, probe) => bodyOf [(16, flit), (8, time), (1, probe), (7, 0)]
      | none => 0)
  | 0x8061, 5 => some s.mesh.traceWritten
  | 0x9051, 1 => some (moverAccount s (if el = 64 then List.range 64 else [el]))
  | 0x9052, 1 =>
    some (bodyOf [(8, s.mesh.sent), (8, s.mesh.returned), (8, s.mesh.sent - s.mesh.returned - s.mesh.retired), (8, s.mesh.retired)])
  | 0x8070, 2 => some (fwStateCode s.molfen.firmware.ustate)
  | 0x8070, 3 => some (chunkOf s idx el).2
  | 0x8070, 5 => some s.molfen.bank
  | 0x8080, 2 => some (pkgStateCode (packageOf s el).ustate)
  | 0x8080, 3 => some (chunkOf s idx el).2
  | _, _ => some (readSetting s 0 idx sub el)

def readManagement (s : State) (vi idx sub el : Nat) : Option Nat :=
  match idx, sub with
  | 0x1000, 1 => some (textOf 16 "QX-192")
  | 0x1000, 2 => some (textOf 2 "A1")
  | 0x1000, 4 => some (textOf 16 (if s.molfen.licence = 1 then "QX-192-A1-S" else "QX-192-A1-B"))
  | 0x1000, 5 => some s.molfen.licence
  | 0x1000, 6 => some (tabGet 0x01000000 s.molfen.versions s.molfen.bank)
  | 0x1000, 7 => some (tabGet 0x01000000 s.molfen.versions (1 - s.molfen.bank))
  | 0x1000, 9 => some (s.power.poweredSeconds / 3600 % 2 ^ 32)
  | 0x1000, _ => some 0
  | 0x1001, 1 => some (readSetting s vi idx sub el)
  | 0x1020, 5 => some 0
  | 0x1030, 2 => some s.molfen.serviceDiscards
  | 0x1040, 1 => some (tabGet 0 s.molfen.accepted el)
  | 0x1040, 2 => some (tabGet 0 s.molfen.discarded el)
  | 0x1040, 3 => some (bodyOf [(6, tabGet 0 s.molfen.rxCnt el), (6, txCntOf s el)])
  | 0x1040, 4 => some (tabGet 0 s.molfen.vackIgnored el)
  | 0x9060, 1 => some ((tabGet none s.molfen.journal el).elim 0 packTx)
  | 0x9060, 2 => some s.molfen.newestTseq
  | 0x9060, 3 => (txByCnt s vi el).map packTx
  | _, _ => some (readSetting s 0 idx sub el)

def readFaults (s : State) (idx sub el : Nat) : Option Nat :=
  match idx, sub with
  | 0x9000, 1 => some (match s.fault.queue[el]? with
      | some r => packErr r
      | none => 0)
  | 0x9000, 2 => some s.fault.queue.length
  | 0x9000, 3 => some s.fault.newest
  | 0x9000, 4 => some (topSeverity s)
  | 0x9000, 5 => some s.fault.notStored
  | 0x9000, 6 => some s.fault.lastAck
  | 0x9010, 1 => some (packCard el (cardOf s el))
  | 0x9010, 2 => some (corr24 (cardOf s el))
  | 0x9010, 3 => some (cardOf s el).uncorr
  | 0x9020, 1 => some (match s.fault.detention[el]? with
      | some d => packDetained d
      | none => 0)
  | 0x9020, 2 => some s.fault.detention.length
  | 0x9020, 3 => some s.fault.released
  | 0x9020, 4 => some 0
  | 0x9020, 5 => some s.fault.overwritten
  | 0x9030, 1 => some (alarmState s)
  | 0x9030, 2 => some s.fault.relayTest
  | 0x9030, 3 => some s.fault.poisonCleared
  | 0x9061, 1 => some (b2n (tabGet false s.fault.unsealed el) + 2 * b2n (tabGet false s.fault.unverified el))
  | 0x9061, 2 => some (tabGet 0 s.fault.lost el)
  | 0x9061, 3 => some 0
  | 0xF000, 1 => some (emergencyStatus s)
  | 0xF000, 2 => some (b2n s.mode.causeQuiet)
  | 0xF000, 3 => some 0
  | 0xF000, 4 => some s.molfen.emergAnswered
  | 0xF000, 5 => some s.molfen.emergRefused
  | _, _ => some (readSetting s 0 idx sub el)

def readStack (s : State) (idx sub el : Nat) : Option Nat :=
  match idx, sub with
  | 0xA000, 1 => some s.stack.position
  | 0xA000, 2 => some s.stack.members
  | 0xA000, 3 => some (stackState s)
  | 0xA000, 4 => some ((s.stack.headset.map (·.1)).getD s.stack.head)
  | 0xA000, 5 => some (fromBE s.stack.deputies)
  | 0xA000, 6 => some s.stack.functions
  | 0xA000, 7 => some s.stack.headLosses
  | 0xA020, 2 => some (xferCode (xferOf s el).xstate)
  | 0xA030, 1 => some ((tabGet none s.stack.directory el).getD 0xFF)
  | 0xA030, 2 => some s.stack.directory.length
  | 0xA040, 1 => some (s.stack.branches.flatMap (fun b => b.2.2)).dedup.length
  | 0xA040, 2 => some s.stack.notAssigned
  | _, _ => some (readSetting s 0 idx sub el)

/-- Value of an object's element as a VI reads it. -/
def valueOf (s : State) (vi idx sub el : Nat) : Option Nat :=
  if idx < 0x2000 then readManagement s vi idx sub el
  else if idx < 0x3000 then readModes s idx sub el
  else if idx < 0x4000 ∨ idx = 0xA010 then readLanes s idx sub el
  else if idx < 0x4010 then readReceive s idx sub el
  else if idx < 0x4020 ∨ idx = 0x9053 then readSweep s vi idx sub el
  else if idx < 0x5000 then readVerdicts s vi idx sub el
  else if idx < 0x6000 then readTransmit s vi idx sub el
  else if idx < 0x7000 ∨ (0x9040 ≤ idx ∧ idx < 0x9050) then readRoll s vi idx sub el
  else if idx < 0x8000 then readCipher s vi idx sub el
  else if idx < 0x9000 ∨ (0x9050 ≤ idx ∧ idx < 0x9053) then readEngines s idx sub el
  else if idx = 0x9060 then readManagement s vi idx sub el
  else if idx < 0xA000 ∨ 0xF000 ≤ idx then readFaults s idx sub el
  else readStack s idx sub el

/-! ### Who may read (check 2 of 16 Table 16.3) -/

def inHeadMask (s : State) (vi h : Nat) : Bool := (setting s 0x1010 3 vi).testBit h
/-- A VI's share, or the whole module for VI 0 (01 R30). -/
def ownShare (vi el : Nat) : Bool := vi == 0 || el == vi
/-- The owning chapter's VI rule for the element of a READ: head masks (16 R424), bin groups (06 R155, R173), slices and VI
accounts (08 R207, R231), records of the VI's own attempts and messages (09 R265; 16 R426), key blocks (10 R286), and the
objects of 17 Table 17.6 for VI 0 alone. -/
def readRule (s : State) (vi idx sub el : Nat) : Bool :=
  match idx with
  | 0x3010 => (match headOfLane s el with
    | some h => inHeadMask s vi h
    | none => vi == 0)
  | 0x3020 => inHeadMask s vi el
  | 0x4005 => if sub = 1 ∨ sub = 4 ∨ sub = 5 then inHeadMask s vi (el / 16) else true
  | 0x4006 => if sub = 2 then inHeadMask s vi (el / 512 / 16) else if sub = 6 then inHeadMask s vi (el / 16) else true
  | 0x4013 => sub ≠ 1 || (match tabGet none s.sweep.ring el with
    | some d => groupOwner s (d.bin / 64) == vi
    | none => true)
  | 0x9053 => el == 8 || groupOwner s el == vi
  | 0x6000 => sub ≠ 4 || ownShare vi el
  | 0x6010 => sub == 9 || vi == 0 || inSlice s vi el
  | 0x9040 => vi == 0 || inSlice s vi el
  | 0x9041 => ownShare vi el
  | 0x9042 => ownShare vi el
  | 0x9043 => ownShare vi el
  | 0x5040 => sub ≠ 1 || (match reqOf s el with
    | some r => vi == 0 || r.vi == vi
    | none => true)
  | 0x5041 => ownShare vi el
  | 0x7010 => handleOf s vi el
  | 0x9060 => sub ≠ 1 || (match tabGet none s.molfen.journal el with
    | some r => mayReadTx vi r
    | none => true)
  | 0x9000 => vi == 0
  | 0x9010 => vi == 0
  | 0x9020 => vi == 0
  | 0x9030 => sub == 1 || vi == 0
  | 0x9061 => vi == 0
  | 0xA020 => inSlice s vi el
  | _ => true
/-- 0x1001:81, the effective value of the site label (16 R422 FIRST). -/
def effectiveLabel (s : State) : Nat :=
  match s.molfen.labelOrder with
  | vi :: _ => settingVi s vi 0x1001 1 0
  | [] => 0
/-- Checks 1 to 3 of 16 Table 16.3 for a READ. -/
def readCheck (s : State) (vi idx sub el : Nat) : Option Status :=
  match findObj idx sub with
  | some r =>
    if r.acc = .wo ∨ (selOk r el && !readRule s vi idx sub el) then some .access
    else if !selOk r el then some .range
    else none
  | none =>
    if (sub = 0 ∧ (highestSub idx).isSome) ∨ (idx = 0x1001 ∧ sub = 0x81) then (if el = 0 then none else some .range)
    else some .unknown
/-- The result of a READ that has passed its checks: STATUS, LEN, DATA. -/
def readObject (s : State) (vi idx sub el : Nat) : Status × Nat × Nat :=
  match findObj idx sub with
  | none => if sub = 0 then (.ok, 1, (highestSub idx).getD 0) else (.ok, 32, effectiveLabel s)
  | some r =>
    if isSnap idx sub && snapWithheld s then (.busy, 0, 0)
    else match valueOf (if isSnap idx sub then snapView s else s) vi idx sub el with
      | none => (.unknown, 0, 0)
      | some v =>
        let n := if r.lenLo = r.lenHi then r.lenHi else (chunkOf s idx el).1
        (.ok, n, v % 256 ^ n)

end Sys2Proof.Machine
end

