-- ==== Sys2Proof/Machine/LiveUpdate.lean ====
section
/-! DEFINITION. Live update of the firmware and of profile packages: staging, verification, activation by rotation,
commit, abandon and expiry (16 R428 to R430; 11 R288, R303). -/

namespace Sys2Proof.Machine

/-! ### Firmware (16 R428) -/

def setFirmware (x : Update) (s : State) : State := { s with molfen := { s.molfen with firmware := x } }
def otherBank (s : State) : Nat := 1 - s.molfen.bank
def setVersion (b v : Nat) (s : State) : State :=
  { s with molfen := { s.molfen with versions := tabSet 0x01000000 s.molfen.versions b v } }
/-- A stage of the update is reached, with its KIND 3 record (16 R425). -/
def fwStage (cmd : Nat) (u : UpdState) (s : State) : State :=
  journalStage cmd (fwStateCode u) (setFirmware { s.molfen.firmware with ustate := u } s)
/-- The standby pair takes over without a fence, on the bank that is not running, and the former active pair becomes
standby. -/
def rotateOffice (s : State) : State :=
  let s := { s with molfen := { s.molfen with bank := otherBank s } }
  match activePair s with
  | some p =>
    if officePair s (1 - p) = .standby then
      let c := cardOf s (unitPair (1 - p))
      let s := setCard s (unitPair (1 - p)) { c with events := (c.events + 1) % 65536 }
      let s := setOffice (setOffice s (1 - p) .active) p .standby
      (List.range 16).foldl (fun t vi => (collectors t vi).foldl (fun u c => rewind vi c u) t) s
    else s
  | none => s
/-- Codes an error record may carry where the spec names none, SAFE ones apart (15 Table 15.4), with their severity. -/
def codesOpen : List (ErrCode × Severity) :=
  [(.eccRate, .minor), (.eccUncorr, .minor), (.hostTrap, .minor), (.lockstep, .major), (.mesh, .minor), (.lane, .minor),
   (.bist, .minor), (.pace, .major), (.thermal, .major), (.holdup, .minor), (.restore, .major), (.account, .major),
   (.timing, .minor), (.cage, .minor), (.cipher, .info), (.store, .info), (.ageing, .minor)]
/-- The error record of an update that did not hold: the spec names neither its code nor its severity (free values). -/
def updateRecord (s : State) : State :=
  let (n, s) := drawFree s
  let c := (codesOpen[n % codesOpen.length]?).getD (.restore, .major)
  errRecord { unit := unitFlash (otherBank s), code := c.1, severity := c.2 } s
/-- 0x8070:01, before the write is noted. `pass`: both pairs start from the new image. -/
def firmwareCommand (cmd : Nat) (pass : Bool) (s : State) : State × Status :=
  let x := s.molfen.firmware
  match cmd, x.ustate with
  | 1, .probation => (s, .refused)
  | 1, _ =>
    if isFenced s (unitFlash (otherBank s)) then (s, .refused)
    else (fwStage 1 .staging (setVersion (otherBank s) 0 (setFirmware { x with chunks := [] } s)), .ok)
  | 2, .staging =>
    if Config.firmwareGood x.chunks (setting s 0x8070 4 0) then
      (fwStage 2 .verified (setVersion (otherBank s) (Config.firmwareVersion x.chunks (setting s 0x8070 4 0) % 2 ^ 32) s), .ok)
    else (fwStage 2 .bad s, .ok)
  | 3, .verified =>
    if pass && standbyPresent s then (settle (fwStage 3 .probation (rotateOffice s)), .ok)
    else (settle (fwStage 3 .verified (updateRecord s)), .ok)
  | 4, .probation =>
    (fwStage 4 .committed { s with molfen := { s.molfen with selected := s.molfen.bank } }, .ok)
  | 5, .staging => (fwStage 5 .idle (setVersion (otherBank s) 0 (setFirmware { x with chunks := [] } s)), .ok)
  | 5, .verified => (fwStage 5 .idle (setVersion (otherBank s) 0 (setFirmware { x with chunks := [] } s)), .ok)
  | 5, .bad => (fwStage 5 .idle (setVersion (otherBank s) 0 (setFirmware { x with chunks := [] } s)), .ok)
  | 5, .probation =>
    let s := rotateOffice (setFirmware { x with chunks := [] } s)
    (settle (fwStage 5 .idle (setVersion (otherBank s) 0 s)), .ok)
  | _, _ => (s, .refused)
/-- 0x8070:01: the command read back is the last one written. -/
def writeFirmware (cmd : Nat) (pass : Bool) (s : State) : State × Status :=
  match firmwareCommand cmd pass s with
  | (t, .ok) => (putSetting t 0 0x8070 1 0 cmd, .ok)
  | r => r
/-- 0x8070:03: a chunk of the image being staged. -/
def writeFirmwareChunk (el len v : Nat) (s : State) : State × Status :=
  let x := s.molfen.firmware
  if x.ustate = .staging then
    (setFirmware { x with chunks := tabSet (0, 0) x.chunks el (len, v) } s, .ok)
  else (s, .refused)

/-! ### Packages (16 R429, R430) -/

/-- Nodes of a package that lead to a node, fault successors included. -/
def leadsTo (l : List (Nat × Node)) (i : Nat) : List Node :=
  (l.filter (fun p => p.2.succ.contains i || p.2.fault == some i)).map (·.2)
/-- A node is reached only from SOURCE nodes at bell ports and through nodes at levels 0 to 3 (11 R288). -/
def lowOnly (l : List (Nat × Node)) : Nat → Nat → Bool
  | 0, _ => false
  | fuel + 1, i => (l.filter (fun p => p.2.succ.contains i || p.2.fault == some i)).all (fun p => match p.2.kind with
      | .source => (match p.2.port with
        | some q => decide (q < 64)
        | none => false)
      | .join => lowOnly l fuel p.1
      | _ => decide (p.2.level ≤ 3))
/-- The checks of 11 R288 on one node. -/
def nodeOk (x : Package) (taken : Nat → Bool) (p : Nat × Node) : Bool :=
  let n := p.2
  let exists_ (i : Nat) : Bool := x.nodes.any (fun q => q.1 == i)
  decide (p.1 < 16384) && !taken p.1 && n.succ.all exists_ && (match n.fault with
    | some f => exists_ f
    | none => true)
  && (match n.kind with
    | .source => (match n.port with
      | some q => decide (q < 256)
      | none => false)
    | .join => decide (n.inputs ≤ 8)
    | .task => decide (n.cls < 64 ∧ n.level < 16 ∧ n.target < 2 ^ 48) && n.target ≠ 0
        && (bitList 48 n.target).all (fun l => x.images.any (fun i => i.1 == l))
        && (decide (3 < n.level) || lowOnly x.nodes (x.nodes.length + 1) p.1)
    | .accel => decide (n.cls < 64 ∧ n.level < 16 ∧ n.target < 2 ^ 52) && n.target ≠ 0 && n.target % 2 ^ 48 == 0
        && (decide (3 < n.level) || lowOnly x.nodes (x.nodes.length + 1) p.1))
/-- The node table of a package passes (11 R287, R288): at most 64 graphs of at most 256 nodes each; indexes that another package's nodes hold are not its own. -/
def tableOk (s : State) (id : Nat) (x : Package) : Bool :=
  let taken (i : Nat) : Bool := match nodeOf s i with
    | some n => n.package ≠ id
    | none => false
  x.nodes.all (nodeOk x taken)
  && x.nodes.all (fun p => decide (p.2.graph < 64) && decide ((x.nodes.filter (fun q => q.2.graph == p.2.graph)).length ≤ 256))
  && x.images.all (fun i => decide (i.1 < 48)) && x.ordered.all (fun c => decide (c < 64))
/-- A stage of a package's update is reached, with its KIND 3 record. -/
def pkgStage (cmd id : Nat) (x : Update) (s : State) : State := journalStage cmd (pkgStateCode x.ustate) (setPackage s id x)
def imageFor (x : Package) (l : Nat) : Image := ((x.images.find? (fun i => i.1 == l)).map (·.2)).getD {}
def hasTile (x : Package) (l : Nat) : Bool := x.images.any (fun i => i.1 == l)
/-- Whether another package's pool holds a logical tile. -/
def tileTaken (s : State) (id l : Nat) : Bool :=
  s.molfen.packages.any (fun p => p.1 ≠ id && ((isInstalled s p.1 && hasTile p.2.inst l)
    || (p.2.ustate == .rotating && hasTile p.2.staged l)))
/-- A logical tile of no package: its physical tile is held in reset. -/
def unloadTile (l : Nat) (s : State) : State :=
  let p := physOf s l
  let s := setDrain l false s
  if isFenced s (unitTile p) then s
  else modTile s p (fun x => { x with tstate := .reset, logical := 0x3F, accept := false, waiting := false })
/-- The nodes and ORDERED classes of a package replace those it had. -/
def putNodes (id : Nat) (old x : Package) (s : State) : State :=
  let kept := s.prefect.nodes.filter (fun p => match p.2 with
    | some n => n.package ≠ id
    | none => false)
  let modes := old.ordered.foldl (fun t c => tabSet false t c false) s.prefect.ordered
  { s with prefect := { s.prefect with
      nodes := x.nodes.foldl (fun t p => tabSet none t p.1 (some { p.2 with package := id })) kept
      ordered := x.ordered.foldl (fun t c => tabSet false t c true) modes } }
/-- The last tile has rotated: the package is INSTALLED (R429 step 5). -/
def installPackage (id : Nat) (s : State) : State :=
  let x := packageOf s id
  let gone := (x.inst.images.map (·.1)).filter (fun l => x.wasInstalled && !hasTile x.staged l)
  let s := putNodes id x.inst x.staged (gone.foldl (fun t l => unloadTile l t) s)
  let s := pkgStage 3 id { x with ustate := .installed, inst := x.staged, wasInstalled := true, toRotate := [], rotated := []
                                  version := Config.packageVersion id x.chunks % 2 ^ 32 } s
  refreshPaces s
/-- The rotation back has ended (R430). -/
def endBack (id : Nat) (s : State) : State :=
  let x := packageOf s id
  let s := if x.wasInstalled then s else x.rotated.foldl (fun t l => unloadTile l t) s
  let u : UpdState := if x.wasInstalled then .installed else .idle
  refreshPaces (pkgStage 5 id { x with ustate := u, toRotate := [], rotated := [], back := false } s)
/-- DRAIN is set on the tile whose rotation starts. -/
def drainTile (l : Nat) (s : State) : State := noteBlocks (setDrain l true s)
/-- What follows a tile: the next one, the rotation back, or the end. -/
def nextTile (id : Nat) (s : State) : State :=
  let x := packageOf s id
  match x.toRotate, x.back, x.rotated with
  | l :: _, _, _ => drainTile l s
  | [], false, _ => installPackage id s
  | [], true, l :: _ => if x.wasInstalled then drainTile l s else endBack id s
  | [], true, [] => endBack id s
/-- One tile takes an image: a tile of the installed package rotates onto a free substitute, one outside it is loaded where
it is. None while its operation is in service or no substitute is free. -/
def placeTile (live : Bool) (l : Nat) (img : Image) (s : State) : Option State :=
  if inServiceOf s l then none
  else if live then (freeTiles s).head?.map (fun q => noteBlocks (moveTile l q img s))
  else if isFenced s (unitTile (physOf s l)) then none
  else some (setDrain l false (loadImage (physOf s l) l img s))
/-- The tile in rotation has completed (R429 step 4; R430). -/
def rotationStep (id : Nat) (s : State) : State :=
  let x := packageOf s id
  match x.ustate, x.toRotate, x.rotated with
  | .rotating, l :: rest, done =>
    (match placeTile (x.wasInstalled && hasTile x.inst l) l (imageFor x.staged l) s with
     | some t => nextTile id (setPackage t id { x with toRotate := if x.back then [] else rest, rotated := l :: done })
     | none => s)
  | .rotating, [], l :: rest =>
    if hasTile x.inst l then
      (match placeTile true l (imageFor x.inst l) s with
       | some t => nextTile id (setPackage t id { x with rotated := rest })
       | none => s)
    else nextTile id (setPackage (unloadTile l s) id { x with rotated := rest })
  | _, _, _ => s
/-- 0x8080:01 ACTIVATE. -/
def activatePackage (id : Nat) (s : State) : State × Status :=
  let x := packageOf s id
  let named := (List.range 16).any (fun i => setting s 0x4010 1 i == id)
  let enrolled := s.roll.entries.any (fun p => p.2.status ≠ .free && p.2.profile == id)
  if x.wasInstalled && x.staged.bufFormat ≠ x.inst.bufFormat && named then (s, .refused)
  else if x.wasInstalled && x.staged.raw ≠ x.inst.raw && enrolled then (s, .refused)
  else if x.staged.images.any (fun i => tileTaken s id i.1 || tabGet false s.prefect.invalid i.1) then (s, .busy)
  else if x.staged.images.any (fun i => x.wasInstalled && hasTile x.inst i.1) && (freeTiles s).isEmpty then (s, .busy)
  else
    let y : Update := { x with ustate := .rotating, toRotate := x.staged.images.map (·.1), rotated := [], back := false }
    (settle (nextTile id (pkgStage 3 id y s)), .ok)
/-- 0x8080:01[id], before the write is noted. -/
def packageCommand (id cmd : Nat) (found : Package) (s : State) : State × Status :=
  let x := packageOf s id
  match cmd, x.ustate with
  | 5, .rotating =>
    if x.back then (s, .busy)
    else (settle (pkgStage 5 id { x with back := true, toRotate := x.toRotate.take 1 } s), .ok)
  | _, .rotating => (s, .busy)
  | 1, u =>
    if !isLicensed s id then (s, .refused)
    else (pkgStage 1 id { x with ustate := .staging, chunks := [], wasInstalled := x.wasInstalled || u == .installed } s, .ok)
  | 2, .staging =>
    let key := if isCustomer id then setting s 0x8080 5 0 else 0
    if Config.packageGood id x.chunks (setting s 0x8080 4 id) key then
      if tableOk s id found then (pkgStage 2 id { x with ustate := .verified, staged := found } s, .ok) else (s, .range)
    else (pkgStage 2 id { x with ustate := .bad } s, .ok)
  | 3, .verified => activatePackage id s
  | 5, .staging => (pkgStage 5 id { x with ustate := .idle, chunks := [] } s, .ok)
  | 5, .verified => (pkgStage 5 id { x with ustate := .idle, chunks := [] } s, .ok)
  | 5, .bad => (pkgStage 5 id { x with ustate := .idle, chunks := [] } s, .ok)
  | _, _ => (s, .refused)
/-- 0x8080:01[id]: the command read back is the last one written. -/
def writePackage (id cmd : Nat) (found : Package) (s : State) : State × Status :=
  match packageCommand id cmd found s with
  | (t, .ok) => (putSetting t 0 0x8080 1 id cmd, .ok)
  | r => r
/-- 0x8080:03[2^24 id + offset]. -/
def writePackageChunk (el len v : Nat) (s : State) : State × Status :=
  let id := el / 2 ^ 24
  let x := packageOf s id
  if x.ustate = .staging then
    (setPackage s id { x with chunks := tabSet (0, 0) x.chunks (el % 2 ^ 24) (len, v) }, .ok)
  else if x.ustate = .rotating && x.back then (s, .busy)
  else (s, .refused)

/-! ### Commands -/

def execFirmwareOpen (vi : Fin 16) (s : State) : Out := answered (checkedWrite vi 0x8070 1 0 1 1 (writeFirmware 1 true) s)
def execFirmwareChunk (vi : Fin 16) (offset len v : Nat) (s : State) : Out :=
  answered (checkedWrite vi 0x8070 3 offset len v (writeFirmwareChunk offset len v) s)
def execFirmwareVerify (vi : Fin 16) (s : State) : Out := answered (checkedWrite vi 0x8070 1 0 1 2 (writeFirmware 2 true) s)
/-- FIRMWARE_ACTIVATE: `pass`, both pairs start from the new image. -/
def execFirmwareActivate (vi : Fin 16) (pass : Bool) (s : State) : Out :=
  answered (checkedWrite vi 0x8070 1 0 1 3 (writeFirmware 3 pass) s)
def execFirmwareCommit (vi : Fin 16) (s : State) : Out := answered (checkedWrite vi 0x8070 1 0 1 4 (writeFirmware 4 true) s)
def execFirmwareAbandon (vi : Fin 16) (s : State) : Out := answered (checkedWrite vi 0x8070 1 0 1 5 (writeFirmware 5 true) s)
/-- PROBATION_EXPIRY (R428): both pairs return to the old bank, an error record is written, and the state is VERIFIED. -/
def execProbationExpiry (s : State) : Out :=
  let x := s.molfen.firmware
  if x.ustate = .probation then .next (settle (updateRecord (setFirmware { x with ustate := .verified } (rotateOffice s))))
  else .next s
def execPackageOpen (vi : Fin 16) (id : Nat) (s : State) : Out :=
  answered (checkedWrite vi 0x8080 1 id 1 1 (writePackage id 1 {}) s)
def execPackageChunk (vi : Fin 16) (el len v : Nat) (s : State) : Out :=
  answered (checkedWrite vi 0x8080 3 el len v (writePackageChunk el len v) s)
/-- PACKAGE_VERIFY: `found`, the package the staged chunks hold. -/
def execPackageVerify (vi : Fin 16) (id : Nat) (found : Package) (s : State) : Out :=
  answered (checkedWrite vi 0x8080 1 id 1 2 (writePackage id 2 found) s)
def execPackageActivate (vi : Fin 16) (id : Nat) (s : State) : Out :=
  answered (checkedWrite vi 0x8080 1 id 1 3 (writePackage id 3 {}) s)
def execPackageAbandon (vi : Fin 16) (id : Nat) (s : State) : Out :=
  answered (checkedWrite vi 0x8080 1 id 1 5 (writePackage id 5 {}) s)
/-- PACKAGE_ROTATION_STEP (R429 step 4). -/
def execPackageRotationStep (id : Fin 256) (s : State) : Out := .next (settle (rotationStep id s))

end Sys2Proof.Machine
end

