-- ==== Sys2Proof/Machine/ObjWrite.lean ====
section
/-! DEFINITION. What a WRITE of each object does once it has passed the checks of 16 Table 16.3: the owning rule of every
object of the dictionary (16 R418, R422, R423, R432). -/

namespace Sys2Proof.Machine

/-! ### Partition and ports (16 R422, R423, R432) -/

/-- 0x1010:01 (R423). -/
def writeEnable (vi v : Nat) (s : State) : State × Status :=
  if v = 1 ∧ (keyOf s (managementKeyOf vi)).kstate = .empty then (s, .refused)
  else if v = 0 ∧ (liveEntries s vi).isEmpty = false then (s, .refused)
  else plainWrite 0 0x1010 1 vi v s
/-- 0x1020:01: the address takes effect 5 s after the reply. -/
def writeAddress (l v : Nat) (s : State) : State × Status :=
  let s := putSetting s 0 0x1020 1 l v
  ({ s with molfen := { s.molfen with addrPending := s.molfen.addrPending.filter (fun p => p.1 ≠ l) ++ [(l, v)] } }, .ok)
/-- 0x1001:01 combines by FIRST. -/
def writeLabel (vi v : Nat) (s : State) : State × Status :=
  let l := s.molfen.labelOrder
  let s := putSetting s vi 0x1001 1 0 v
  ({ s with molfen := { s.molfen with
      labelOrder := if v = 0 then l.filter (fun x => x ≠ vi) else if l.contains vi then l else l ++ [vi] } }, .ok)

/-! ### Receive settings (05 R133, R136; 06 R174; 07 R175) -/

/-- 0x4010:01: a slot takes a profile that is licensed and installed, at the bell of its group, with its package's tau. -/
def writeSlotProfile (el v : Nat) (s : State) : State × Status :=
  if v ≠ 0 ∧ !(isLicensed s v && isInstalled s v) then (s, .refused)
  else
    let s := stageSetting s (el / 2) 0x4010 1 el v
    let tau := (packageOf s v).inst.tau
    (if v = 0 ∨ tau = 0 then s else stageSetting s (el / 2) 0x4004 3 (el / 2) tau, .ok)
/-- The head of antenna a takes the fixed gain written for it, clear of blanking on the timeline. -/
def sendFixedGain (a : Nat) (s : State) : State :=
  match activeLane s (a / 16) with
  | some l =>
    let g := toSigned 8 (setting s 0x4005 4 a)
    let told := (((s.rx.gainPending.filter (fun p => p.antenna == a)).getLast?).map (·.gain)).getD (gainToCome s a)
    if told = g then s else sendGain l (2 ^ (a % 16)) g (gainTime s (a / 16)) s
  | none => s
/-- 0x4005:02 and :04 (05 R136): while the controller is off the heads hold the gains written. -/
def writeHeadGain (sub el v : Nat) (s : State) : State × Status :=
  let starts := sub = 2 ∧ v = 1 ∧ setting s 0x4005 2 0 = 0
  let s := putSetting s 0 0x4005 sub el v
  let s := if starts then { s with rx := { s.rx with wideSum := [], wideFrom := s.time.airTime } } else s
  if setting s 0x4005 2 0 = 0 then
    (if sub = 4 then sendFixedGain el s else (List.range 192).foldl (fun t a => sendFixedGain a t) s, .ok)
  else (s, .ok)

/-! ### The owning rule of an object -/

/-- Objects from 0x1000 to 0x3FFF. -/
def writeLow (r : ObjRow) (vi idx sub el v : Nat) : State → State × Status :=
  match idx, sub with
  | 0x1001, 1 => writeLabel vi v
  | 0x1010, 1 => writeEnable el v
  | 0x1010, 2 => fun s => (stageSetting s el 0x1010 2 el v, .ok)
  | 0x1020, 1 => writeAddress el v
  | 0x2000, 5 => writeModeRequest v
  | 0x2000, 6 => writeQuiet v
  | 0x2010, 4 => writeEpoch v
  | 0x2010, 5 => writeRestart v
  | 0x2030, 1 => writeBell el false v
  | 0x2030, 2 => writeBell el true v
  | 0x2050, 1 => writeDomain el v
  | 0x3030, 1 => writeBacked el v
  | 0x3030, 2 => writeRevert el
  | _, _ => plainWrite (if r.vi then vi else 0) idx sub el v
/-- Objects from 0x4000 to 0x5FFF, the downlink request apart. -/
def writeAir (r : ObjRow) (vi idx sub el v : Nat) : State → State × Status :=
  match idx, sub with
  | 0x4001, 1 => writeShadow 10 el v
  | 0x4001, 3 => armSwap 10 v
  | 0x4002, 1 => writeShadow (12 + el / 6144) (el % 6144) v
  | 0x4002, 3 => writeShift el v
  | 0x4002, 5 => armSwap (12 + el) v
  | 0x4003, 1 => writeLoop idx sub el v
  | 0x4004, _ => writeLoop idx sub el v
  | 0x4005, 2 => writeHeadGain 2 el v
  | 0x4005, 4 => writeHeadGain 4 el v
  | 0x4006, 1 => writePeriod v
  | 0x4010, 1 => writeSlotProfile el v
  | 0x4010, 2 => fun s => (stageSetting s (el / 2) idx sub el v, .ok)
  | 0x4010, _ => fun s => (stageSetting s el idx sub el v, .ok)
  | 0x4011, 1 => fun s => (stageSetting s 8 idx sub el v, .ok)
  | 0x4040, 1 => writeCollector vi el v
  | 0x5001, 1 => writeShadow 11 el v
  | 0x5001, 3 => armSwap 11 v
  | 0x5010, 1 => writeCoefficients 1 el v
  | 0x5010, 2 => writeCoefficients 2 el v
  | 0x5020, 1 => writeRamp el v
  | 0x5022, _ => writeDuty sub el v
  | 0x5030, 2 => writeReply vi el v
  | _, _ => plainWrite (if r.vi then vi else 0) idx sub el v
/-- Objects from 0x6000 to 0x7FFF. -/
def writeRollCipher (r : ObjRow) (vi idx sub el len v : Nat) : State → State × Status :=
  match idx, sub with
  | 0x6000, 3 => writeBudget el v
  | 0x6001, 2 => writeInterval v
  | 0x6010, 2 => writeStatus el v
  | 0x6010, 4 => writeCharge el v
  | 0x6010, 5 => writeRaise el v
  | 0x6010, 6 => writeModel el v
  | 0x6010, 7 => writePlan el v
  | 0x6011, 1 => writeEnrol vi el v
  | 0x6011, 2 => writeRetire el
  | 0x6011, 3 => writeReplace vi el v
  | 0x6011, 4 => writeRekey vi el v
  | 0x6011, 5 => writeGrant el v
  | 0x7000, 1 => writeBlockOwner el v
  | 0x7010, 1 => writeKeyLoad vi len v
  | 0x7010, 2 => writeKeyErase el
  | 0x7011, 1 => writeViLoadKey el len v
  | 0x7011, 2 => writeManagementKey vi el len v
  | _, _ => plainWrite (if r.vi then vi else 0) idx sub el v
/-- Objects from 0x8000 on. The reset of 0xF000:03 begins after its reply (17 R448). -/
def writeHigh (r : ObjRow) (aid : Aid) (vi idx sub el len v : Nat) : State → State × Status :=
  match idx, sub with
  | 0x8020, 1 => writeMap el v
  | 0x8051, 1 => writeTimer el false v
  | 0x8051, 2 => writeTimer el true v
  | 0x8061, 3 => writeTraceMode v
  | 0x8070, 1 => writeFirmware v aid.pass
  | 0x8070, 3 => writeFirmwareChunk el len v
  | 0x8080, 1 => writePackage el v aid.package
  | 0x8080, 3 => writePackageChunk el len v
  | 0x9000, 6 => writeAck v
  | 0x9020, 3 => writeRelease v aid.pass
  | 0x9020, 4 => clearDescriptors
  | 0x9030, 2 => writeRelayTest v
  | 0x9061, 3 => writeMarkAck el
  | 0xA000, 4 => writeHead false v
  | 0xA000, 5 => writeHead true v
  | 0xA000, 8 => writeDrain el
  | 0xA000, _ => writeRing sub v
  | 0xA020, 1 => writeTransfer el v
  | 0xF000, 2 => fun s => (setQuiet s, .ok)
  | 0xF000, 3 => fun s => (s, .ok)
  | _, _ => plainWrite (if r.vi then vi else 0) idx sub el v
/-- The owning rule of a WRITE: the state, the status, and the value the object returns where it defines one (16 R418,
R420). -/
def objWrite (aid : Aid) (r : ObjRow) (vi el len v : Nat) (s : State) : State × Status × Option Nat :=
  if r.idx = 0x5030 ∧ r.sub = 1 then
    let x := downlinkRequest vi len v s
    (settle x.1, x.2.1, if x.2.2 = 0 then none else some x.2.2)
  else
    let x := ownRule r.idx r.sub
      (if r.idx < 0x4000 then writeLow r vi r.idx r.sub el v
       else if r.idx < 0x6000 then writeAir r vi r.idx r.sub el v
       else if r.idx < 0x8000 then writeRollCipher r vi r.idx r.sub el len v
       else writeHigh r aid vi r.idx r.sub el len v) s
    (settle x.1, x.2, none)

end Sys2Proof.Machine
end

