-- ==== Sys2Proof/Machine/Molfen.lean ====
section
/-! DEFINITION. Molfen: messages as they reach a port, their acceptance, write groups, reads and replies, and the
Caretaker's emergency path (16 R413 to R427, R432 to R434; 17 R446 to R448). -/

namespace Sys2Proof.Machine

/-! ### Acceptance (R414, R415) -/

/-- CNT is not 0 and no replay. -/
def freshCnt (s : State) (vi cnt : Nat) : Bool :=
  let hi := tabGet 0 s.molfen.rxCnt vi
  cnt != 0 && (decide (hi < cnt) || (decide (hi ≤ cnt + 63) && !(tabGet 0 s.molfen.rxWindow vi).testBit (hi - cnt)))
/-- A CNT is accepted, before the message takes any effect. -/
def takeCnt (vi cnt : Nat) (s : State) : State :=
  let hi := tabGet 0 s.molfen.rxCnt vi
  let w := tabGet 0 s.molfen.rxWindow vi
  let w' := if hi < cnt then (if cnt - hi < 64 then (w * 2 ^ (cnt - hi)) % 2 ^ 64 else 0) + 1 else w ||| 2 ^ (hi - cnt)
  { s with molfen := { s.molfen with
      rxCnt := tabSet 0 s.molfen.rxCnt vi (max hi cnt), rxWindow := tabSet 0 s.molfen.rxWindow vi w'
      accepted := bump s.molfen.accepted vi } }
/-- The MAC verifies under the VI's management key (10 R285). -/
def macOk (s : State) (vi : Nat) (o : List Nat) : Bool :=
  let k := keyOf s (managementKeyOf vi)
  k.kstate ≠ .empty && (aesCmac k.key (o.take (o.length - 8))).take 8 == o.drop (o.length - 8)
/-- The VLAN that the VI is bound to is the one the message arrived on; RS-485 is on none. -/
def vlanOk (s : State) (vi : Nat) (d : Datagram) : Bool :=
  setting s 0x1010 5 vi == 0 || (d.port ≠ 2 && d.vlan == setting s 0x1010 5 vi)
def acceptable (s : State) (d : Datagram) (m : Msg) : Bool :=
  viEnabled s m.vi && vlanOk s m.vi d && macOk s m.vi d.octets && freshCnt s m.vi m.cnt
/-- Discarded without reply and counted against the VI the message names. -/
def discardMsg (d : Datagram) (s : State) : State :=
  match namedVi d.octets with
  | some vi => { s with molfen := { s.molfen with discarded := bump s.molfen.discarded vi } }
  | none => s
/-- A message that the Office would take: its VI and CNT. -/
def officeMsg (s : State) (d : Datagram) : Option (Nat × Nat) :=
  match readMsg d.octets with
  | some m =>
    if acceptable s d m && (emergencyOf d m).isNone && (m.type == 0x12 || (readBody m.body).isSome) then some (m.vi, m.cnt) else none
  | none => none
/-- The Office serves a port (02 Table 2.8). -/
def officePort (s : State) (p : Nat) : Bool :=
  officeInService s && (if p = 2 then s.mode.mode ≠ .off && s.mode.mode ≠ .lastGasp else ethernetUp s p)
def leaveInbox (d : Datagram) (s : State) : State :=
  { s with molfen := { s.molfen with inbox := s.molfen.inbox.erase d } }

/-! ### Item checks (R417, Table 16.3) -/

def isWrite (i : Item) : Bool := i.op == 2
/-- The first failing check of an item, `care` on the Caretaker's path. -/
def itemCheck (s : State) (care : Bool) (vi : Nat) (i : Item) : Option Status :=
  if care && s.mode.mode == .lastGasp && !(i.op == 1 && i.sub == 1) then some .access
  else if i.op = 1 then
    match readCheck s vi i.idx i.sub i.el with
    | some st => some st
    | none => if i.zero && i.len == 0 then none else some .range
  else if i.op = 2 then
    match writeCheck s vi i.idx i.sub i.el i.len i.v with
    | some .access => some .access
    | some .unknown => some .unknown
    | r => if i.zero then r else some .range
  else match readCheck s vi i.idx i.sub i.el with
    | some .unknown => some .unknown
    | _ => some .range
def isSlice (i : Item) : Bool := isWrite i && i.idx == 0x6000 && (i.sub == 1 || i.sub == 2)
/-- The checks of all items, and the group check of slice bounds where no item fails (08 R207). -/
def checkAll (s : State) (care : Bool) (vi : Nat) (l : List Item) : List (Option Status) :=
  let c := l.map (itemCheck s care vi)
  if c.any (·.isSome) then c
  else match sliceCheck s ((l.filter isSlice).map (fun i => ⟨i.sub == 2, i.el, i.v⟩)) with
    | none => c
    | some st => l.map (fun i => if isSlice i then some st else none)

/-! ### Write groups (R418, R425) -/

/-- A group under way: whether it has stopped, the steps done, what stopped it, whether a reset is due, the module's CNT and
the management key before it replaced its own, and the results so far, newest first. -/
structure GroupRun where
  s : State
  at_ : Nat := 0
  stop : Bool := false
  done : Nat := 0
  failItem : Nat := 0xFF
  failStat : Status := .ok
  reset : Bool := false
  oldCnt : Option (Nat × List Nat) := none
  out : List (Status × Nat × Nat) := []
def skipItem (st : Status) (r : GroupRun) : GroupRun := { r with at_ := r.at_ + 1, out := (st, 0, 0) :: r.out }
/-- One item of a group: `more`, whether items follow it. A reset ends the group (17 R448). -/
def runItem (aid : Aid) (vi : Nat) (i : Item) (more : Bool) (r : GroupRun) : GroupRun :=
  if !isWrite i then skipItem (if r.reset then .refused else .ok) r
  else if r.stop then skipItem .refused r
  else
    match findObj i.idx i.sub with
    | none => skipItem .unknown r
    | some row =>
      let x := objWrite aid row vi i.el i.len i.v r.s
      let ok := x.2.1 == .ok || x.2.1 == .deferred
      let reset := decide (i.idx = 0xF000 ∧ i.sub = 3)
      let halt := !ok || (reset && more)
      let data := match x.2.2 with
        | some v => (4, v)
        | none => (0, 0)
      { r with
        s := x.1, at_ := r.at_ + 1, stop := !ok || reset, done := r.done + b2n ok
        failItem := if halt then r.at_ else r.failItem
        failStat := if halt then x.2.1 else r.failStat
        reset := r.reset || reset
        oldCnt := if ok ∧ i.idx = 0x7011 ∧ i.sub = 2 ∧ i.el = vi then some (r.oldCnt.getD (txCntOf r.s vi, managementKey r.s vi)) else r.oldCnt
        out := (x.2.1, data) :: r.out }
/-- The items of a group in order; with `cut` the Office stops once that many writes have been made. -/
def runItems (aid : Aid) (vi : Nat) : Option Nat → List Item → GroupRun → GroupRun
  | some 0, _, r => r
  | _, [], r => r
  | cut, i :: t, r => runItems aid vi (if isWrite i then cut.map (· - 1) else cut) t (runItem aid vi i (!t.isEmpty) r)

/-- GSTATUS and STATE of a closed group. -/
def groupState (writes done : Nat) (cutShort : Bool) : Nat :=
  if done = 0 then 2 else if done = writes ∧ cutShort = false then 1 else 3
/-- The record of a group closes. -/
def closeRec (tseq gst done failItem : Nat) (failStat : Status) (s : State) : State :=
  journalMod tseq (fun r => { r with gstate := gst, done := done, failStat := failStat, failItem := failItem,
                                     time := (stamp s).1, timeOk := (stamp s).2 }) s
/-- The results of the reads, once the group has closed; none may take the reply beyond 1,452 octets (R419, R420). -/
def serveReads (s : State) (vi : Nat) : Nat → List (Item × (Status × Nat × Nat)) → List (Status × Nat × Nat)
  | _, [] => []
  | size, (i, x) :: t =>
    if i.op = 1 ∧ x.1 = .ok then
      let y := readObject s vi i.idx i.sub i.el
      let y := if 1452 < size + y.2.1 then (.range, 0, 0) else y
      y :: serveReads s vi (size + y.2.1) t
    else x :: serveReads s vi size t
def replySize (l : List (Status × Nat × Nat)) : Nat := l.foldl (fun n x => n + x.2.1) (28 + 4 * l.length)

/-- What serving a request gives: the state, GSTATUS, TSEQ, the results, and what is due after the reply. -/
structure Served where
  s : State
  gst : Nat
  tseq : Nat
  out : List (Status × Nat × Nat)
  reset : Bool := false
  oldCnt : Option (Nat × List Nat) := none
  /-- the Office stopped within the group: no reply -/
  silent : Bool := false
/-- No journal record exists (R420). -/
def noTseq : Nat := 0xFFFFFFFF
/-- An OPEN record for the writes of a request. -/
def openGroup (vi cnt token writes : Nat) (s : State) : State :=
  journalPut (fun n => { tseq := n, kind := 1, vi := vi, gstate := 0, items := writes, cnt := cnt, token := token }) s
/-- A REQUEST is served: its items are checked, its writes applied and journaled, its reads answered (R415, R417 to R420). -/
def serveItems (aid : Aid) (care : Bool) (vi cnt token : Nat) (l : List Item) (cut : Option Nat) (s : State) : Served :=
  let writes := (l.filter isWrite).length
  if txLimit ≤ txCntOf s vi ∧ !l.all (fun i => isWrite i && i.idx == 0x7011 && i.sub == 2) then
    { s := s, gst := if writes = 0 then 0 else 2, tseq := noTseq, out := l.map (fun _ => (.exhausted, 0, 0)) }
  else
    let c := checkAll s care vi l
    if writes = 0 then
      let out := c.map (fun x => (x.getD .ok, 0, 0))
      { s := s, gst := 0, tseq := noTseq, out := serveReads s vi (replySize out) (l.zip out) }
    else
      let tseq := s.molfen.nextTseq
      let s := openGroup vi cnt token writes s
      match c.findIdx? (·.isSome) with
      | some k =>
        let s := closeRec tseq 2 0 k ((c.getD k none).getD .ok) s
        let out := (l.zip c).map (fun x => match x.2 with
          | some st => (st, 0, 0)
          | none => (if isWrite x.1 then .refused else .ok, 0, 0))
        { s := s, gst := 2, tseq := tseq, out := serveReads s vi (replySize out) (l.zip out) }
      | none =>
        let r := runItems aid vi cut l ({ s := s } : GroupRun)
        match cut with
        | some _ =>
          let s := journalMod tseq (fun x => { x with done := r.done }) r.s
          let keys := (l.filter isWrite).map (fun i => (vi, skey 0 i.idx i.sub i.el))
          let s := { s with molfen := { s.molfen with openGroups := s.molfen.openGroups ++ keys } }
          { s := s, gst := 0, tseq := tseq, out := [], silent := true }
        | none =>
          let gst := groupState writes r.done (r.reset && decide (r.failItem ≠ 0xFF))
          let s := closeRec tseq gst r.done r.failItem r.failStat r.s
          let out := r.out.reverse
          { s := s, gst := gst, tseq := tseq, out := serveReads s vi (replySize out) (l.zip out),
            reset := r.reset, oldCnt := r.oldCnt }

/-! ### Replies (R413, R415, R420) -/

/-- Body of a REPLY (R420): per item STATUS, LEN and DATA, high byte first. -/
def replyBody (token gst tseq : Nat) (l : List (Status × Nat × Nat)) : List Nat :=
  octetsBE 2 token ++ [gst, 0] ++ octetsBE 4 tseq
    ++ l.flatMap (fun x => [statusCode x.1, 0] ++ octetsBE 2 x.2.1 ++ octetsBE x.2.1 x.2.2)
/-- 0x7E and 0x7D are sent escaped (R433). -/
def stuff (o : List Nat) : List Nat := o.flatMap (fun x => if x = 0x7E ∨ x = 0x7D then [0x7D, x ^^^ 0x20] else [x])
/-- What leaves a port: the message, on RS-485 in its frame with the CRC-16 over it, high byte first (R433). -/
def wireOf (port : Nat) (o : List Nat) : List Nat :=
  if port = 2 then [0x7E] ++ stuff (o ++ octetsBE 2 (crc16 o)) ++ [0x7E] else o
/-- A reply leaves under the module's next CNT, or, where the group replaced the VI's own management key, under the next of
the key before (10 R283); none leaves once the counter is used up. -/
def sendReply (d : Datagram) (vi token : Nat) (x : Served) : State :=
  let octets (key : List Nat) (cnt : Nat) : List Nat :=
    wireOf d.port (molfenMsg key 0x02 vi cnt (replyBody token x.gst x.tseq x.out))
  match x.oldCnt with
  | some (c, key) => emit (.reply d.port d.src d.vlan vi (c + 1) token x.gst x.tseq x.out (octets key (c + 1))) x.s
  | none =>
    if txCntOf x.s vi + 1 < 2 ^ 48 then
      emit (.reply d.port d.src d.vlan vi (txCntOf x.s vi + 1) token x.gst x.tseq x.out
        (octets (managementKey x.s vi) (txCntOf x.s vi + 1))) (countSent x.s vi)
    else x.s
/-- Emergency reset (17 R448; 02 R50): QUIET clears, everything stops, and a warm BOOT begins. -/
def emergencyReset (f : BootFacts) (s : State) : State :=
  let s := stopReceive (stopBursts { s with mode := { s.mode with causeQuiet := false } })
  startBoot true 0x10 f (drainStaging (drainPrefect (closeGroups s)))
/-- The reply, what follows it, and the command's answer: the status and data of the first item. -/
def finishServe (aid : Aid) (d : Datagram) (vi token : Nat) (x : Served) : State :=
  if x.silent then x.s
  else
    let s := sendReply d vi token x
    let s := match x.out.head? with
      | some y => answerOf y.1 y.2.2 s
      | none => s
    if x.reset then emergencyReset aid.boot s else s

/-! ### The Caretaker's path (R434; 17 R446 to R448) -/

def isStatusRead (i : Item) : Bool := i.op == 1 && i.sub == 1
def bumpAnswered (s : State) : State := { s with molfen := { s.molfen with emergAnswered := inc32 s.molfen.emergAnswered } }
def bumpRefused (s : State) : State := { s with molfen := { s.molfen with emergRefused := inc32 s.molfen.emergRefused } }
/-- A request whose items all name emergency objects: `ok`, it passes R414. -/
def careServe (aid : Aid) (d : Datagram) (ok : Bool) (vi cnt token : Nat) (l : List Item) (s : State) : State :=
  if s.mode.mode = .off then s
  else if l.all isStatusRead || (ok && vi == 0) then
    let s := bumpAnswered (if ok then takeCnt vi cnt s else s)
    let x := serveItems aid true vi cnt token l none s
    finishServe aid d 0 token x
  else { bumpRefused s with molfen := { (bumpRefused s).molfen with discarded := bump s.molfen.discarded vi } }

/-! ### The Office's path (R421, R427) -/

/-- The messages of the inbox that came before one. -/
def aheadOf (d : Datagram) : List Datagram → List Datagram
  | [] => []
  | x :: t => if x = d then [] else x :: aheadOf d t
/-- Messages of a VI that the Office would take, in a list. -/
def ofVi (s : State) (vi : Nat) (l : List Datagram) : List Nat :=
  l.filterMap (fun x => (officeMsg s x).bind (fun p => if p.1 = vi then some p.2 else none))
/-- A message waits while one of its VI with a lower CNT waits, or a group of its VI is open. -/
def mustWait (s : State) (d : Datagram) (m : Msg) : Bool :=
  (ofVi s m.vi (s.molfen.inbox.erase d)).any (fun c => decide (c < m.cnt)) || s.molfen.openGroups.any (fun g => g.1 == m.vi)
/-- The message stays in the inbox, or joins it. -/
def keepWaiting (d : Datagram) (s : State) : State :=
  if s.molfen.inbox.contains d then s else { s with molfen := { s.molfen with inbox := s.molfen.inbox ++ [d] } }
/-- A VACK from a collector: a collector is an address on Ethernet, and the body is one VSEQ. -/
def officeVack (d : Datagram) (m : Msg) (s : State) : State :=
  if d.port = 2 ∨ m.body.length ≠ 4 then { s with molfen := { s.molfen with vackIgnored := bump s.molfen.vackIgnored m.vi } }
  else takeVack m.vi d.src (fromBE m.body) s
/-- An accepted message: the 17th that waits is BUSY, others are served in CNT order. -/
def officeTake (aid : Aid) (d : Datagram) (m : Msg) (cut : Option Nat) (s : State) : State :=
  if m.type = 0x12 then
    if mustWait s d m then keepWaiting d s else officeVack d m (takeCnt m.vi m.cnt (leaveInbox d s))
  else match readBody m.body with
    | none => discardMsg d (leaveInbox d s)
    | some (token, l) =>
      if 16 ≤ (ofVi s m.vi (aheadOf d s.molfen.inbox)).length then
        finishServe aid d m.vi token ⟨takeCnt m.vi m.cnt (leaveInbox d s), 2, noTseq, l.map (fun _ => (.busy, 0, 0)),
          false, none, false⟩
      else if mustWait s d m then keepWaiting d s
      else finishServe aid d m.vi token (serveItems aid false m.vi m.cnt token l cut (takeCnt m.vi m.cnt (leaveInbox d s)))
/-- A message that reached a port is taken (R414, R421, R434). -/
def takeMessage (aid : Aid) (d : Datagram) (cut : Option Nat) (s : State) : State :=
  match readMsg d.octets with
  | none => if officePort s d.port then discardMsg d (leaveInbox d s) else leaveInbox d s
  | some m =>
    match emergencyOf d m with
    | some (token, l) => careServe aid d (acceptable s d m) m.vi m.cnt token l (leaveInbox d s)
    | none =>
      if !officePort s d.port then leaveInbox d s
      else if acceptable s d m then officeTake aid d m cut s
      else discardMsg d (leaveInbox d s)

/-! ### Ports (R432, R433) -/

/-- 0x7D escapes the octet after it. -/
def unstuff : List Nat → List Nat
  | [] => []
  | 0x7D :: x :: t => (x ^^^ 0x20) :: unstuff t
  | 0x7D :: [] => []
  | x :: t => x :: unstuff t
def arrive (d : Datagram) (s : State) : State := { s with molfen := { s.molfen with inbox := s.molfen.inbox ++ [d] } }
def discardFrame (s : State) : State := { s with molfen := { s.molfen with serviceDiscards := inc32 s.molfen.serviceDiscards } }

/-! ### Commands -/

/-- REQUEST (R414 to R421): the message d; `cut`, the Office stops once that many writes have been made. -/
def execRequest (d : Datagram) (cut : Option Nat) (aid : Aid) (s : State) : Out := .next (takeMessage aid d cut s)
/-- VACK (07 R200; 16 R427). -/
def execVack (d : Datagram) (s : State) : Out :=
  match readMsg d.octets with
  | some m => if m.type = 0x12 then .next (takeMessage {} d none s) else .next s
  | none => .next s
/-- RS485_FRAME_RECEIVED (R433): the octets between the flags. -/
def execRs485FrameReceived (octets : List Nat) (s : State) : Out :=
  if s.mode.mode = .off ∨ octets = [] then .next s
  else
    let m := unstuff octets
    let n := m.length
    if 2 < n ∧ crc16 (m.take (n - 2)) = fromBE (m.drop (n - 2)) then .next (arrive { port := 2, octets := m.take (n - 2) } s)
    else .next (discardFrame s)
/-- RS485_FRAME_TIMEOUT (R433). -/
def execRs485FrameTimeout (s : State) : Out := if s.mode.mode = .off then .next s else .next (discardFrame s)
/-- ADDRESS_CHANGE_EFFECTIVE (R432), on lane l. -/
def execAddressChangeEffective (l : Fin 2) (s : State) : Out :=
  match s.molfen.addrPending.find? (fun p => p.1 == l.val) with
  | some p => .next { s with molfen := { s.molfen with
      addr := tabSet 0 s.molfen.addr l p.2, addrPending := s.molfen.addrPending.filter (fun q => q.1 ≠ l.val) } }
  | none => .next s
/-- ETHERNET_FRAME_RECEIVED (R413, R432): kind 0 ARP, 1 neighbour discovery, 2 ICMP or ICMPv6 echo, 3 a UDP datagram, 4 any
other frame. -/
def execEthernetFrameReceived (l : Fin 2) (kind : Fin 5) (src dport vlan : Nat) (fragmented : Bool) (octets : List Nat)
    (s : State) : Out :=
  if !ethernetUp s l then .next s
  else if kind.val < 3 then .next (emit (.ethernet l kind) s)
  else if kind = 3 ∧ fragmented = false ∧ dport = setting s 0x1020 4 0 then
    .next (arrive { port := ⟨l.val, by omega⟩, src := src, vlan := vlan, octets := octets } s)
  else .next s
/-- ETHERNET_LINK_DOWN (R427, R432). -/
def execEthernetLinkDown (l : Fin 2) (s : State) : Out :=
  .next { s with molfen := { s.molfen with linkUp := tabSet false s.molfen.linkUp l false } }
/-- ETHERNET_LINK_UP (R432; 02 Table 2.8): where the mode runs the lanes. -/
def execEthernetLinkUp (l : Fin 2) (s : State) : Out :=
  match s.mode.mode with
  | .off => .next s
  | .boot => .next s
  | .lastGasp => .next s
  | _ => .next { s with molfen := { s.molfen with linkUp := tabSet false s.molfen.linkUp l true } }
/-- EMERGENCY_STATUS_READ (R434; 17 R447): a request of the one item READ 0xF000:01, whose MAC does not verify. -/
def execEmergencyStatusRead (token : Fin 65536) (s : State) : Out :=
  .next (careServe {} { port := 2, octets := [] } false 0 0 token [⟨1, 0xF000, 1, 0, 0, 0, true⟩] s)
/-- FORCE_SILENT (17 R448): a request of VI vi whose MAC verifies, of the one item WRITE v to 0xF000:02. -/
def execForceSilent (vi : Fin 16) (v : Nat) (cnt : Nat) (token : Fin 65536) (s : State) : Out :=
  .next (careServe {} { port := 2, octets := [] } (viEnabled s vi && freshCnt s vi cnt) vi cnt token
    [⟨2, 0xF000, 2, 0, 1, v, true⟩] s)
/-- EMERGENCY_RESET (17 R448): as FORCE_SILENT, of the one item WRITE v to 0xF000:03. -/
def execEmergencyReset (vi : Fin 16) (v : Nat) (cnt : Nat) (token : Fin 65536) (f : BootFacts) (s : State) : Out :=
  .next (careServe { boot := f } { port := 2, octets := [] } (viEnabled s vi && freshCnt s vi cnt) vi cnt token
    [⟨2, 0xF000, 3, 0, 2, v, true⟩] s)

end Sys2Proof.Machine
end

