-- ==== Sys2Proof/Machine/TileSlots.lean ====
section
/-! DEFINITION. What each operation of a slot does, and the slot words that spell them (12 Tables 12.5 and 12.6). -/

namespace Sys2Proof.Machine

def flagV (b : Bool) (x : Tile) : Tile := if b then { x with vsat := true } else x
def flagA (b : Bool) (x : Tile) : Tile := if b then { x with asat := true } else x

/-! ### Scalar operations (12 Table 12.6, majors 0x01 to 0x0C) -/

def wordOf (v : Int × Bool) : Word × Bool := (BitVec.ofInt 32 v.1, v.2)
/-- FN of major 0x01, and whether it saturated. -/
def scalarFn (fn : Nat) (a b : Word) : Word × Bool :=
  let n := b.toNat % 32
  match fn with
  | 0x00 => (a + b, false)
  | 0x01 => (a - b, false)
  | 0x02 => (a &&& b, false)
  | 0x03 => (a ||| b, false)
  | 0x04 => (a ^^^ b, false)
  | 0x05 => (a <<< n, false)
  | 0x06 => (a >>> n, false)
  | 0x07 => (a.sshiftRight n, false)
  | 0x08 => (a * b, false)
  | 0x09 => wordOf (qmul a.toInt b.toInt)
  | 0x0A => (if a.toInt ≤ b.toInt then a else b, false)
  | 0x0B => (if a.toInt ≤ b.toInt then b else a, false)
  | 0x0C => (if a.toInt < b.toInt then 1 else 0, false)
  | 0x0D => (if a.toNat < b.toNat then 1 else 0, false)
  | 0x0E => wordOf (satSym 32 (a.toInt + b.toInt))
  | 0x0F => wordOf (satSym 32 (a.toInt - b.toInt))
  | 0x10 => (BitVec.ofNat 32 (nsb 32 a.toInt), false)
  | _ => wordOf (rsra a.toInt n, false)
def scalarAct (fn sd sa sb : Nat) : SlotAct :=
  { dst := [keyS sd]
    run := fun pre _ x =>
      let r := scalarFn fn (sReg pre sa) (sReg pre sb)
      flagV r.2 (setS sd r.1 x) }
/-- Majors 0x02 to 0x0A: the result from sa, the immediate and, for MOVHI, the low half that sd holds. -/
def immFn (major : Nat) (a old : Word) (imm : BitVec 16) : Word :=
  let z := imm.setWidth 32
  match major with
  | 0x02 => a + signExt16 imm
  | 0x03 => a &&& z
  | 0x04 => a ||| z
  | 0x05 => a ^^^ z
  | 0x06 => a <<< (imm.toNat % 32)
  | 0x07 => a >>> (imm.toNat % 32)
  | 0x08 => a.sshiftRight (imm.toNat % 32)
  | 0x09 => signExt16 imm
  | _ => (z <<< 16) ||| (old &&& 0xFFFF)
def immAct (major sd sa : Nat) (imm : BitVec 16) : SlotAct :=
  { illegal := (decide (0x06 ≤ major ∧ major ≤ 0x08) && decide (32 ≤ imm.toNat)) || (major == 0x09 && sa ≠ 0)
    dst := [keyS sd]
    run := fun pre _ x => setS sd (immFn major (sReg pre sa) (sReg pre sd) imm) x }
def paddAct (pd pa : Nat) (imm : BitVec 16) : SlotAct :=
  { dst := [keyP pd], run := fun pre _ x => setP pd (pReg pre pa + signExt16 imm) x }
/-- MOVX: kinds 0 s, 1 p, 2 m; p and m have 8 registers. -/
def movxAct (dst src dk sk : Nat) : SlotAct :=
  { illegal := decide (2 < dk) || decide (2 < sk) || (dk ≠ 0 && decide (7 < dst)) || (sk ≠ 0 && decide (7 < src))
    dst := [match dk with | 0 => keyS dst | 1 => keyP dst | _ => keyM dst]
    run := fun pre _ x =>
      let v := match sk with | 0 => sReg pre src | 1 => pReg pre src | _ => mReg pre src
      match dk with | 0 => setS dst v x | 1 => setP dst v x | _ => setM dst v x }

/-! ### Control flow (12 Table 12.5; R324, R326) -/

def condHolds (c : Nat) (a b : Word) : Bool :=
  match c with
  | 0 => a == b
  | 1 => a ≠ b
  | 2 => decide (a.toInt < b.toInt)
  | 3 => decide (b.toInt ≤ a.toInt)
  | 4 => decide (a.toNat < b.toNat)
  | _ => decide (b.toNat ≤ a.toNat)
/-- Branch offsets count bundles from the bundle that holds the branch. -/
def branchTarget (pc : Word) (off : BitVec 13) : Word := pc + (off.signExtend 32 <<< 4)
def brAct (sa sb cond : Nat) (off : BitVec 13) : SlotAct :=
  { illegal := decide (5 < cond)
    jump := fun pre => if condHolds cond (sReg pre sa) (sReg pre sb) then some (branchTarget pre.pc off) else none }
def jalAct (sd : Nat) (off : BitVec 13) : SlotAct :=
  { dst := [keyS sd], run := fun pre _ x => setS sd (pc16 pre 1) x, jump := fun pre => some (branchTarget pre.pc off) }
def jrAct (sa : Nat) : SlotAct :=
  { traps := fun _ pre => if (sReg pre sa).toNat % 16 ≠ 0 then [{ code := 6, slot := 0, addr := sReg pre sa }] else []
    jump := fun pre => some (sReg pre sa) }
/-- LOOPERR of a LOOP (12 R326). -/
def loopBad (pre : Tile) (level : Bool) (start end_ : Word) : Bool :=
  let l := if level then pre.l1 else pre.l0
  l.act || (level && pre.l0.act) || decide (0xFFF0 < end_.toNat)
    || (!level && pre.l1.act && (!inBody pre.l1 start || !inBody pre.l1 end_ || end_ == pre.l1.end_))
def loopAct (t : Nat) (level : Bool) (rot : BitVec 2) (sc len : Nat) : SlotAct :=
  let lend (pre : Tile) : Word := pc16 pre len
  { illegal := len == 0
    dst := if level then [keyCsr 0x013, keyCsr 0x014, keyCsr 0x015, keyCsr 0x016]
           else [keyCsr 0x010, keyCsr 0x011, keyCsr 0x012, keyCsr 0x016]
    traps := fun _ pre => if loopBad pre level (pc16 pre 1) (lend pre) then [{ code := 5, slot := 0 }] else []
    run := fun pre _ x =>
      let n := sReg pre sc
      let old := if level then x.l1 else x.l0
      let l : HwLoop := { start := pc16 pre 1, end_ := lend pre, count := n, act := n ≠ 0,
                          rot := if n = 0 then old.rot else rot }
      if level then { x with l1 := l } else { x with l0 := l }
    after := fun s u =>
      let pre := tileOf s t
      if sReg pre sc = 0 then modTile u t (fun x => { x with pc := lend pre + 16 }) else u }

/-! ### System operations (12 R308, R332, R339) -/

/-- PRIV of CSRR and CSRW. -/
def csrTraps (write : Bool) (n : Nat) (pre : Tile) : List Trap :=
  if if write then !csrTaskWrites n else csrHostOnly n then privTrap pre 0 else []
def csrrAct (t sd n : Nat) : SlotAct :=
  { illegal := !csrExists n, dst := [keyS sd], traps := fun _ pre => csrTraps false n pre
    run := fun pre _ x => setS sd (csrRead t pre n) x }
def csrwAct (sa n : Nat) : SlotAct :=
  { illegal := !csrExists n, dst := [keyCsr n], traps := fun _ pre => csrTraps true n pre
    run := fun pre _ x => csrWrite n (sReg pre sa) x }
/-- RTE: LEVEL takes PLEVEL, execution continues at TPC, the c registers are undefined (R329). -/
def rteAct (t : Nat) : SlotAct :=
  { traps := fun _ pre => privTrap pre 0
    after := fun _ s => undefineCx t (modTile s t (fun x => { x with
      task := x.ptask, tstate := if x.ptask then .task else .host, pc := x.tpc })) }
/-- WAITOP: the tile waits for a dispatch; an operation still in service has left service without DONE (11 R301), and
SELF is withdrawn (14 Table 14.7). -/
def waitopAct (t sd : Nat) : SlotAct :=
  { dst := [keyS sd], traps := fun _ pre => privTrap pre 0
    after := fun _ s => castVote t 4 false (modTile (trapService t s) t (fun x => { x with waiting := true, waitSd := sd })) }
/-- FENCE waits for every response, writes TSTAT to sd and clears it. -/
def fenceAct (sd : Nat) : SlotAct :=
  { dst := [keyS sd, keyCsr 0x005], waits := fun _ pre => pre.posted ≠ 0
    run := fun pre _ x => setS sd pre.tstat { x with tstat := 0 } }
/-- YIELD enters Host with code 0x00; without DONE the operation ends TRAPPED. -/
def yieldAct (t : Nat) : SlotAct :=
  { after := fun _ s => trapService t (enterHost t { code := 0 } (tileOf s t).pc s) }
/-- HALT stops the tile until reload. -/
def haltAct (t : Nat) : SlotAct :=
  { traps := fun _ pre => privTrap pre 0
    after := fun _ s => modTile (trapService t s) t (fun x => { x with tstate := .halted }) }

/-! ### Vector operations (12 R318 to R322) -/

def map2 (f : Int → Int → Int) (a b : List Int) : List Int := (a.zip b).map (fun p => f p.1 p.2)
/-- Pairs (I, Q) of a list of elements. -/
def pairsOf : List Int → List (Int × Int)
  | a :: b :: t => (a, b) :: pairsOf t
  | _ => []
def unpair (l : List (Int × Int)) : List Int := l.flatMap (fun p => [p.1, p.2])
def cmulPair (conj : Bool) (p : (Int × Int) × (Int × Int)) : Int × Int :=
  let (ia, qa) := p.1
  let ib := p.2.1
  let qb := if conj then -p.2.2 else p.2.2
  (ia * ib - qa * qb, ia * qb + qa * ib)
/-- Shift counts: the low bits of vb's element. -/
def lowBits (w : Nat) (b : Int) : Nat := (b % (w : Int)).toNat
/-- Exact results of a major 0x20 operation, per element, before saturation. -/
def vectorFn (fn ew : Nat) (a b : List Int) : List Int :=
  let w := ewWidth ew
  match fn with
  | 0 => map2 (· + ·) a b
  | 1 => map2 (· - ·) a b
  | 2 => map2 (fun x y => roundHalfEven (x * y) (2 ^ (w - 1))) a b
  | 3 => map2 (fun x y => toSigned w (Nat.land (ofSigned w x) (ofSigned w y))) a b
  | 4 => map2 (fun x y => toSigned w (Nat.lor (ofSigned w x) (ofSigned w y))) a b
  | 5 => map2 (fun x y => toSigned w (Nat.xor (ofSigned w x) (ofSigned w y))) a b
  | 6 => map2 min a b
  | 7 => map2 max a b
  | 8 => a.map (fun x => (x.natAbs : Int))
  | 9 => a.map (fun x => -x)
  | 10 => map2 (fun x y => x * (2 ^ lowBits w y : Nat)) a b
  | 11 => map2 (fun x y => sra x (lowBits w y)) a b
  | 12 => map2 (fun x y => rsra x (lowBits w y)) a b
  | 13 => map2 (fun x y => if x = y then -1 else 0) a b
  | 14 => map2 (fun x y => if x < y then -1 else 0) a b
  | 15 => map2 (fun x y => roundHalfEven (x + y) 2) a b
  | 16 => (unpair (((pairsOf a).zip (pairsOf b)).map (cmulPair false))).map (fun x => roundHalfEven x (2 ^ 15))
  | 17 => (unpair (((pairsOf a).zip (pairsOf b)).map (cmulPair true))).map (fun x => roundHalfEven x (2 ^ 15))
  | 18 => unpair ((pairsOf a).map (fun p => (p.1, (satSym w (-p.2)).1)))
  | _ => map2 (fun x _ => x) a b
/-- Results finished under SAT, and whether any saturated. -/
def finishAll (sat : Bool) (w : Nat) (l : List Int) : List Int × Bool :=
  let r := l.map (finish sat w)
  (r.map (·.1), r.any (·.2))
/-- VSEL: va where vb's element is not zero, otherwise vd's, which stays as it is. -/
def selectAll (sat : Bool) (w : Nat) (a b old : List Int) : List Int × Bool :=
  let r := ((a.zip b).zip old).map (fun p => if p.1.2 = 0 then (p.2, false) else finish sat w p.1.1)
  (r.map (·.1), r.any (·.2))
/-- VCONJ saturates whether SAT is set or not. -/
def conjSats (fn w : Nat) (a : List Int) : Bool := fn == 18 && (pairsOf a).any (fun p => (satSym w (-p.2)).2)
/-- EW values a rule excludes: products are Q1.15 or Q1.31, complex operations work on 16-bit pairs. -/
def vectorIllegal (fn ew vb vd : Nat) : Bool :=
  decide (20 < fn) || (fn == 2 && ew == 2) || (decide (16 ≤ fn ∧ fn ≤ 18) && !(ew == 0 || ew == 3))
    || ((fn == 8 || fn == 9 || fn == 18 || fn == 19) && vb ≠ 0) || (fn == 19 && vd ≠ 0)
/-- Major 0x20: VBEXP writes bexp, the others vd. -/
def vectorAct (fn vd va vb ew : Nat) (sat : Bool) : SlotAct :=
  if fn = 19 then
    { illegal := vectorIllegal fn ew vb vd, dst := [keyBexp]
      run := fun pre _ x => { x with bexp := (elems ew (vReg pre va)).foldl (fun m e => min m (nsb (ewWidth ew) e)) x.bexp } }
  else
    { illegal := vectorIllegal fn ew vb vd, dst := [keyV vd]
      run := fun pre _ x =>
        let a := elems ew (vReg pre va)
        let old := vReg pre vd
        let b := elems ew (vReg pre vb)
        let r := if fn = 20 then selectAll sat (ewWidth ew) a b (elems ew old)
                 else finishAll sat (ewWidth ew) (vectorFn fn ew a b)
        flagV (r.2 || conjSats fn (ewWidth ew) a) (setV (physV pre vd) (packElems ew r.1 old) x) }
/-- Major 0x21: shifts by an immediate count. -/
def shiftFn (fn w n : Nat) (x : Int) : Int :=
  match fn with
  | 0 => x * (2 ^ n : Nat)
  | 1 => toSigned w (ofSigned w x >>> n)
  | 2 => sra x n
  | _ => rsra x n
def shiftAct (fn vd va count ew : Nat) (sat : Bool) : SlotAct :=
  { illegal := decide (3 < fn), dst := [keyV vd]
    run := fun pre _ x =>
      let r := finishAll sat (ewWidth ew) ((elems ew (vReg pre va)).map (shiftFn fn (ewWidth ew) count))
      flagV r.2 (setV (physV pre vd) (packElems ew r.1 (vReg pre vd)) x) }

/-! ### Accumulators (12 R321) -/

/-- What a major 0x22 operation adds to lane j, from 16-bit elements. -/
def macTerms (fn : Nat) (a b : List Int) (e : Int) : List Int :=
  match fn with
  | 0 => map2 (· * ·) a b
  | 1 => map2 (fun x y => -(x * y)) a b
  | 2 => unpair (((pairsOf a).zip (pairsOf b)).map (cmulPair false))
  | 3 => unpair (((pairsOf a).zip (pairsOf b)).map (cmulPair true))
  | 4 => a.map (· * e)
  | 5 => map2 (· * ·) a b
  | _ => unpair (((pairsOf a).zip (pairsOf b)).map (cmulPair false))
/-- FN 5 and 6 write products without accumulating. -/
def macLane (fn : Nat) (lane term : Int) : Int × Bool := clampAcc (if 5 ≤ fn then term else lane + term)
def macAct (fn ad va vb sk : Nat) : SlotAct :=
  { illegal := decide (6 < fn) || (fn ≠ 4 && sk ≠ 0) || (fn == 4 && vb % 2 ≠ 0)
    dst := [keyA ad]
    run := fun pre _ x =>
      let b := elems 0 (vReg pre vb)
      let e := (b ++ elems 0 (vReg pre (vb + 1))).getD ((sReg pre sk).toNat % 16) 0
      let t := macTerms fn (elems 0 (vReg pre va)) b e
      (List.range 8).foldl (fun y j =>
        let r := macLane fn (accLane pre ad j) (t.getD j 0)
        flagA r.2 (setAcc ad j r.1 y)) x }
def vextaAct (vd as_ shift : Nat) (sat : Bool) : SlotAct :=
  { dst := [keyV vd]
    run := fun pre _ x =>
      let r := finishAll sat 16 ((List.range 8).map (fun j => rsra (accLane pre as_ j) shift))
      flagV r.2 (setV (physV pre vd) (packElems 0 r.1 0) x) }
def vclraAct (as_ : Nat) : SlotAct :=
  { dst := [keyA as_], run := fun _ _ x => (List.range 8).foldl (fun y j => setAcc as_ j 0 y) x }
def vbcastAct (vd sa ew : Nat) : SlotAct :=
  { dst := [keyV vd]
    run := fun pre _ x =>
      setV (physV pre vd) (packElems ew (List.replicate (ewCount ew) ((sReg pre sa).toNat : Int)) (vReg pre vd)) x }

/-! ### Loads, stores, first-fault accesses (12 R316, R317, R323) -/

def ptrKeys (p am : Nat) : List Nat := if amPosts am then [keyP p] else []
/-- ALIGN of an access. -/
def alignTrap (a : Word) (n : Nat) : List Trap := if a.toNat % n ≠ 0 then [{ code := 6, slot := 3, addr := a }] else []
/-- Width, sign and result of the scalar loads, majors 0x30 to 0x34. -/
def loadWidth (major : Nat) : Nat := match major with | 0x30 => 4 | 0x31 => 2 | 0x32 => 2 | _ => 1
def loadValue (major : Nat) (bs : List (BitVec 8)) : Word :=
  let v := valueLE bs
  match major with
  | 0x31 => BitVec.ofInt 32 (toSigned 16 v)
  | 0x33 => BitVec.ofInt 32 (toSigned 8 v)
  | _ => BitVec.ofNat 32 v
def loadAct (t major sd p am : Nat) (f : BitVec 16) (resp : Option Status) : SlotAct :=
  let n := loadWidth major
  { illegal := !amLegal am f, dst := keyS sd :: ptrKeys p am
    traps := fun _ pre => alignTrap (amAddr pre p am f) n
    access := fun s => loadBytes t (amAddr (tileOf s t) p am f) n true resp s
    run := fun pre m x => postModify pre p am f (setS sd (loadValue major m.bytes) x) }
def storeWidth (major : Nat) : Nat := match major with | 0x35 => 4 | 0x36 => 2 | _ => 1
def bytesLE (n v : Nat) : List (BitVec 8) := (octetsLE n v).map (BitVec.ofNat 8)
/-- A store waits while eight are posted and it would post more (12 R339). -/
def storeWaits (a n : Nat) (runs : List Run) (x : Tile) : Bool :=
  regionOf x a n == some .mesh && decide (8 < x.posted + (meshRuns x runs).length)
def storeAct (t major ss p am : Nat) (f : BitVec 16) : SlotAct :=
  let n := storeWidth major
  let runs (x : Tile) : List Run := [((amAddr x p am f).toNat, bytesLE n (sReg x ss).toNat)]
  { illegal := !amLegal am f, dst := ptrKeys p am
    traps := fun _ pre => alignTrap (amAddr pre p am f) n
    waits := fun _ pre => storeWaits (amAddr pre p am f).toNat n (runs pre) pre
    access := fun s => storeBytes t (amAddr (tileOf s t) p am f) n true (runs (tileOf s t)) s
    run := fun pre _ x => postModify pre p am f x }
def vldAct (t vd p am : Nat) (f : BitVec 16) (resp : Option Status) : SlotAct :=
  { illegal := !amLegal am f, dst := keyV vd :: ptrKeys p am
    traps := fun _ pre => alignTrap (amAddr pre p am f) 2
    access := fun s => loadBytes t (amAddr (tileOf s t) p am f) 16 false resp s
    run := fun pre m x => postModify pre p am f (setV (physV pre vd) (BitVec.ofNat 128 (valueLE m.bytes)) x) }
def vstAct (t vs p am : Nat) (f : BitVec 16) : SlotAct :=
  let runs (x : Tile) : List Run := [((amAddr x p am f).toNat, bytesLE 16 (vReg x vs).toNat)]
  { illegal := !amLegal am f, dst := ptrKeys p am
    traps := fun _ pre => alignTrap (amAddr pre p am f) 2
    waits := fun _ pre => storeWaits (amAddr pre p am f).toNat 16 (runs pre) pre
    access := fun s => storeBytes t (amAddr (tileOf s t) p am f) 16 false (runs (tileOf s t)) s
    run := fun pre _ x => postModify pre p am f x }
/-- VLDFF16 and VLDFF32: n elements of w bytes, ffm set for those loaded. -/
def vldffAct (t w vd p am : Nat) (f : BitVec 16) (resp : Option Status) : SlotAct :=
  { illegal := !amLegal am f, dst := keyV vd :: keyFfm :: ptrKeys p am
    traps := fun _ pre => alignTrap (amAddr pre p am f) w
    access := fun s => loadFirst t w resp (16 / w) 0 (amAddr (tileOf s t) p am f) s
    run := fun pre m x =>
      let y : Tile := { x with ffm := BitVec.ofNat 8 (2 ^ m.good - 1) }
      postModify pre p am f (setV (physV pre vd) (BitVec.ofNat 128 (valueLE m.bytes)) y) }
/-- Runs of consecutive elements whose ffm bit is set. -/
def ffRuns (v : Nat) (m a : Nat) : Nat → Nat → List Run
  | 0, _ => []
  | n + 1, i =>
    let here : List (BitVec 8) := bytesLE 2 (v >>> (16 * i))
    if m.testBit i then
      match ffRuns v m a n (i + 1) with
      | (b, l) :: t => if b = a + 2 * (i + 1) then (a + 2 * i, here ++ l) :: t else (a + 2 * i, here) :: (b, l) :: t
      | [] => [(a + 2 * i, here)]
    else ffRuns v m a n (i + 1)
/-- First address and length of what VSTF stores: from the first to the last element whose ffm bit is set. -/
def ffSpan (m a : Nat) : Nat × Nat :=
  match (List.range 8).find? (fun i => m.testBit i) with
  | some i => (a + 2 * i, 2 * (m.log2 + 1 - i))
  | none => (a, 0)
def vstfAct (t vs p am : Nat) (f : BitVec 16) : SlotAct :=
  let span (x : Tile) : Nat × Nat := ffSpan x.ffm.toNat (amAddr x p am f).toNat
  let runs (x : Tile) : List Run := ffRuns (vReg x vs).toNat x.ffm.toNat (amAddr x p am f).toNat 8 0
  { illegal := !amLegal am f, dst := ptrKeys p am
    traps := fun _ pre => alignTrap (amAddr pre p am f) 2
    waits := fun _ pre => (span pre).2 ≠ 0 && storeWaits (span pre).1 (span pre).2 (runs pre) pre
    access := fun s => storeMasked t (amAddr (tileOf s t) p am f) (span (tileOf s t)) (runs (tileOf s t)) s
    run := fun pre _ x => postModify pre p am f x }
def pmodAct (p am : Nat) (f : BitVec 16) : SlotAct :=
  { illegal := !(am == 1 || am == 2) || !amLegal am f, dst := [keyP p]
    run := fun pre _ x => postModify pre p am f x }

/-! ### CX (12 R327, R328, R330) -/

def cxPending (x : Tile) (l : List Nat) : Bool := x.cx.any (fun o => l.contains o.cd)
/-- A CX operation waits while four are in flight or one of its registers is pending. -/
def cxAct (fn cd ca cb : Nat) : SlotAct :=
  { illegal := decide (5 < fn) || (fn ≠ 1 && cb ≠ 0), dst := [keyC cd]
    traps := fun _ pre => cxTrap pre 1
    waits := fun _ pre => decide (4 ≤ pre.cx.length) || cxPending pre (if fn = 1 then [cd, ca, cb] else [cd, ca])
    run := fun pre _ x => { x with cx := x.cx ++ [⟨fn, cd, cReg pre ca, cReg pre cb⟩] } }
/-- Halves of a 64-bit or 128-bit value. -/
def putHalf (w : Nat) (high : Bool) (v old : Nat) : Nat :=
  if high then v % 2 ^ w * 2 ^ w + old % 2 ^ w else old / 2 ^ w * 2 ^ w + v % 2 ^ w
def getHalf (w : Nat) (high : Bool) (v : Nat) : Nat := if high then v / 2 ^ w else v % 2 ^ w
/-- MOVC: KIND 0 scalars and halves of c, KIND 1 whole c and halves of v. -/
def movcAct (r c dir : Nat) (kind : Bool) : SlotAct :=
  let high := dir % 2 == 1
  { dst := [if dir < 2 then keyC c else if kind then keyV r else keyS r]
    traps := fun _ pre => cxTrap pre 3
    waits := fun _ pre => cxPending pre [c]
    run := fun pre _ x =>
      let cv := (cReg pre c).toNat
      match decide (dir < 2), kind with
      | true, false => setC c (BitVec.ofNat 64 (putHalf 32 high (sReg pre r).toNat cv)) x
      | true, true => setC c (BitVec.ofNat 64 (getHalf 64 high (vReg pre r).toNat)) x
      | false, false => setS r (BitVec.ofNat 32 (getHalf 32 high cv)) x
      | false, true => setV (physV pre r) (BitVec.ofNat 128 (putHalf 64 high cv (vReg pre r).toNat)) x }

/-! ### Slot words (12 Table 12.5) -/

def f16 (w : Nat) : BitVec 16 := BitVec.ofNat 16 w
def f13 (w : Nat) : BitVec 13 := BitVec.ofNat 13 w
def need (ok : Bool) (a : SlotAct) : Option SlotAct := if ok then some a else none
/-- Words that S0 and S1 share. -/
def decodeScalar (w : Nat) : Option SlotAct :=
  let major := bitsOf w 31 26
  let d := bitsOf w 25 21
  let a := bitsOf w 20 16
  if major = 0x01 then
    need (decide (bitsOf w 10 5 ≤ 0x11) && bitsOf w 4 0 == 0) (scalarAct (bitsOf w 10 5) d a (bitsOf w 15 11))
  else if 0x02 ≤ major ∧ major ≤ 0x0A then some (immAct major d a (f16 w))
  else if major = 0x0B then need (bitsOf w 19 16 == 0) (paddAct (bitsOf w 25 23) (bitsOf w 22 20) (f16 w))
  else if major = 0x0C then need (bitsOf w 9 0 == 0) (movxAct d a (bitsOf w 15 13) (bitsOf w 12 10))
  else none
/-- SYS (major 0x14). -/
def decodeSys (t w : Nat) : Option SlotAct :=
  let d := bitsOf w 25 21
  let a := bitsOf w 20 16
  let n := bitsOf w 11 0
  match bitsOf w 15 12 with
  | 0 => need (a == 0) (csrrAct t d n)
  | 1 => need (d == 0) (csrwAct a n)
  | 2 => need (d == 0 && a == 0 && n == 0) (rteAct t)
  | 3 => need (a == 0 && n == 0) (waitopAct t d)
  | 4 => need (a == 0 && n == 0) (fenceAct d)
  | 5 => need (d == 0 && a == 0 && n == 0) (yieldAct t)
  | 6 => need (d == 0 && a == 0 && n == 0) (haltAct t)
  | _ => none
def decodeS0 (t w : Nat) : Option SlotAct :=
  if w = 0 then some nopAct
  else match bitsOf w 31 26 with
    | 0x10 => some (brAct (bitsOf w 25 21) (bitsOf w 20 16) (bitsOf w 15 13) (f13 w))
    | 0x11 => need (bitsOf w 20 13 == 0) (jalAct (bitsOf w 25 21) (f13 w))
    | 0x12 => need (bitsOf w 25 21 == 0 && bitsOf w 15 0 == 0) (jrAct (bitsOf w 20 16))
    | 0x13 => need (bitsOf w 17 12 == 0)
        (loopAct t (w.testBit 25) (BitVec.ofNat 2 (bitsOf w 24 23)) (bitsOf w 22 18) (bitsOf w 11 0))
    | 0x14 => decodeSys t w
    | _ => decodeScalar w
def decodeS1 (w : Nat) : Option SlotAct :=
  if w = 0 then some nopAct
  else if bitsOf w 31 26 = 0x18 then
    need (bitsOf w 12 0 == 0) (cxAct (bitsOf w 25 22) (bitsOf w 21 19) (bitsOf w 18 16) (bitsOf w 15 13))
  else decodeScalar w
def decodeV (w : Nat) : Option SlotAct :=
  let d := bitsOf w 25 21
  let a := bitsOf w 20 16
  let b := bitsOf w 15 11
  let ew := bitsOf w 10 9
  if w = 0 then some nopAct
  else match bitsOf w 31 26 with
    | 0x20 => need (bitsOf w 1 0 == 0) (vectorAct (bitsOf w 7 2) d a b ew (w.testBit 8))
    | 0x21 => need (bitsOf w 1 0 == 0) (shiftAct (bitsOf w 7 2) d a b ew (w.testBit 8))
    | 0x22 => need (bitsOf w 5 0 == 0) (macAct (bitsOf w 8 6) (bitsOf w 25 24) (bitsOf w 23 19) (bitsOf w 18 14) (bitsOf w 13 9))
    | 0x23 =>
      if bitsOf w 9 0 ≠ 0 then none
      else match bitsOf w 12 10 with
        | 0 => some (vextaAct d (bitsOf w 20 19) (bitsOf w 18 14) (w.testBit 13))
        | 1 => need (d == 0 && bitsOf w 18 14 == 0) (vclraAct (bitsOf w 20 19))
        | _ => none
    | 0x24 => need (bitsOf w 15 11 == 0 && bitsOf w 8 0 == 0) (vbcastAct d a ew)
    | _ => none
def decodeM (t : Nat) (resp : Option Status) (w : Nat) : Option SlotAct :=
  let major := bitsOf w 31 26
  let r := bitsOf w 25 21
  let p := bitsOf w 20 18
  let am := bitsOf w 17 16
  let f := f16 w
  if w = 0 then some nopAct
  else if 0x30 ≤ major ∧ major ≤ 0x34 then some (loadAct t major r p am f resp)
  else if 0x35 ≤ major ∧ major ≤ 0x37 then some (storeAct t major r p am f)
  else match major with
    | 0x38 => some (vldAct t r p am f resp)
    | 0x39 => some (vstAct t r p am f)
    | 0x3A => some (vldffAct t 2 r p am f resp)
    | 0x3B => some (vstfAct t r p am f)
    | 0x3C => some (vldffAct t 4 r p am f resp)
    | 0x3D => need (r == 0) (pmodAct p am f)
    | 0x3E => need (bitsOf w 14 0 == 0) (movcAct r p am (w.testBit 15))
    | _ => none

/-! ### A bundle from its words -/

/-- The four slots of a bundle: S0, S1, V, M. -/
def slotsOf (t : Nat) (b : Beside) : List (Option SlotAct) :=
  [decodeS0 t b.s0.toNat, decodeS1 b.s1.toNat, decodeV b.v.toNat, decodeM t b.resp b.m.toNat]
/-- A bundle whose slot k holds an operation, the others the words given. -/
def runSlot (t k : Nat) (b : Beside) (a : SlotAct) (s : State) : Out :=
  .next (issued s (issue t ((slotsOf t b).set k (some a)) s))
/-- Scalar operations stand in S0, or in S1. -/
def runScalar (t : Nat) (b : Beside) (a : SlotAct) (s : State) : Out := runSlot t (if b.second then 1 else 0) b a s

end Sys2Proof.Machine
end

