-- ==== Sys2Proof/Machine/TileControl.lean ====
section
/-! DEFINITION. Control flow, loops and system operations of a tile (12 R308, R324 to R326, R332, R339). -/

namespace Sys2Proof.Machine

/-- BR (12 R313, Table 12.5). -/
def execBr (t : Fin 52) (b : Beside) (sa : Fin 32) (sb : Fin 32) (cond : Fin 8) (off : BitVec 13) (s : State) : Out :=
  runSlot t 0 b (brAct sa sb cond off) s
/-- JAL (12 R313, Table 12.5). -/
def execJal (t : Fin 52) (b : Beside) (sd : Fin 32) (off : BitVec 13) (s : State) : Out :=
  runSlot t 0 b (jalAct sd off) s
/-- JR (12 R313, R317). -/
def execJr (t : Fin 52) (b : Beside) (sa : Fin 32) (s : State) : Out :=
  runSlot t 0 b (jrAct sa) s
/-- LOOP (12 R324, R326). -/
def execLoop (t : Fin 52) (b : Beside) (level : Bool) (rot : BitVec 2) (sc : Fin 32) (len : Fin 4096) (s : State) : Out :=
  runSlot t 0 b (loopAct t level rot sc len) s
/-- LOOP_END (12 R325: the bundle at LEND of an active loop completes). -/
def execLoopEnd (t : Fin 52) (b : Beside) (s : State) : Out :=
  if atLend (tileOf s t) then .next (issued s (issue t (slotsOf t b) s)) else .next s
/-- CSRR (12 R308). -/
def execCsrr (t : Fin 52) (b : Beside) (sd : Fin 32) (csr : Fin 4096) (s : State) : Out :=
  runSlot t 0 b (csrrAct t sd csr) s
/-- CSRW (12 R308). -/
def execCsrw (t : Fin 52) (b : Beside) (sa : Fin 32) (csr : Fin 4096) (s : State) : Out :=
  runSlot t 0 b (csrwAct sa csr) s
/-- RTE (12 R332). -/
def execRte (t : Fin 52) (b : Beside) (s : State) : Out :=
  runSlot t 0 b (rteAct t) s
/-- WAITOP (12 R332). -/
def execWaitop (t : Fin 52) (b : Beside) (sd : Fin 32) (s : State) : Out :=
  runSlot t 0 b (waitopAct t sd) s
/-- FENCE (12 R339). -/
def execFence (t : Fin 52) (b : Beside) (sd : Fin 32) (s : State) : Out :=
  runSlot t 0 b (fenceAct sd) s
/-- YIELD (12 R332). -/
def execYield (t : Fin 52) (b : Beside) (s : State) : Out :=
  runSlot t 0 b (yieldAct t) s
/-- HALT (12 R314). -/
def execHalt (t : Fin 52) (b : Beside) (s : State) : Out :=
  runSlot t 0 b (haltAct t) s
/-- NOP (12 R310: four NOP words). -/
def execNop (t : Fin 52) (s : State) : Out :=
  .next (issued s (issue t [some nopAct, some nopAct, some nopAct, some nopAct] s))

end Sys2Proof.Machine
end

