-- ==== Sys2Proof/Machine/TileCx.lean ====
section
/-! DEFINITION. The CX coprocessor, traps and the load of a tile (12 R327 to R330, R334 to R341). -/

namespace Sys2Proof.Machine

/-- A CX result lands in cd; one outside its format sets CXERR. -/
def landCx (t k : Nat) (s : State) : State :=
  match (tileOf s t).cx[k]? with
  | some o =>
    let r := cxResult o.fn o.a o.b
    modTile s t (fun x => { setC o.cd r.1 x with cx := x.cx.eraseIdx k, cxerr := x.cxerr || r.2 })
  | none => s
/-- The bundle's first word holds an uncorrectable error. -/
def poisonBundle (t : Nat) (s : State) : State :=
  modTile s t (fun x => { x with poison := tabSet false x.poison (x.pc.toNat / 8) true })
/-- The trap a bundle meets, taken; a bundle that meets none is left for its own command. -/
def trapOnly (t : Nat) (b : Beside) (u s : State) : State :=
  match issue t (slotsOf t b) u with
  | .trapped x => x
  | _ => s
/-- The Caretaker resets the tile, which raises STOP, and loads its image (12 R337, R341). -/
def loadTile (t : Nat) (img : Image) (s : State) : State :=
  if isFenced s (unitTile t) then s
  else
    let s := if serviceOf s t |>.isSome then emit (.stop t) s else s
    let s := releasePassesOfNode t (trapService t s)
    loadImage t ((logicalOfTile s t).getD 0x3F) img s

/-- MOVC (12 R327, R328, R330). -/
def execMovc (t : Fin 52) (b : Beside) (r : Fin 32) (c : Fin 8) (dir : Fin 4) (kind : Bool) (s : State) : Out :=
  runSlot t 3 b (movcAct r c dir kind) s
/-- CXPHASE (12 R327, R328, Table 12.8). -/
def execCxphase (t : Fin 52) (b : Beside) (cd : Fin 8) (ca : Fin 8) (s : State) : Out :=
  runSlot t 1 b (cxAct 0 cd ca 0) s
/-- CXDIV (12 R327, R328, Table 12.8). -/
def execCxdiv (t : Fin 52) (b : Beside) (cd : Fin 8) (ca : Fin 8) (cb : Fin 8) (s : State) : Out :=
  runSlot t 1 b (cxAct 1 cd ca cb) s
/-- CXRECIP (12 R327, R328, Table 12.8). -/
def execCxrecip (t : Fin 52) (b : Beside) (cd : Fin 8) (ca : Fin 8) (s : State) : Out :=
  runSlot t 1 b (cxAct 2 cd ca 0) s
/-- CXRSQRT (12 R327, R328, Table 12.8). -/
def execCxrsqrt (t : Fin 52) (b : Beside) (cd : Fin 8) (ca : Fin 8) (s : State) : Out :=
  runSlot t 1 b (cxAct 3 cd ca 0) s
/-- CXLOG2 (12 R327, R328, Table 12.8). -/
def execCxlog2 (t : Fin 52) (b : Beside) (cd : Fin 8) (ca : Fin 8) (s : State) : Out :=
  runSlot t 1 b (cxAct 4 cd ca 0) s
/-- CXEXP2 (12 R327, R328, Table 12.8). -/
def execCxexp2 (t : Fin 52) (b : Beside) (cd : Fin 8) (ca : Fin 8) (s : State) : Out :=
  runSlot t 1 b (cxAct 5 cd ca 0) s
/-- CX_RESULT (12 R328: result k of those in flight lands, and its pending bit clears). -/
def execCxResult (t : Fin 52) (k : Fin 4) (s : State) : Out :=
  .next (landCx t k s)
/-- TRAP (12 R334: the bundle is issued where it meets a trap; `ecc` marks an uncorrectable error found in it). -/
def execTrap (t : Fin 52) (b : Beside) (ecc : Bool) (s : State) : Out :=
  .next (trapOnly t b (if ecc then poisonBundle t s else s) s)
/-- TILE_IMAGE_LOAD (12 R341). -/
def execTileImageLoad (t : Fin 52) (img : Image) (s : State) : Out :=
  .next (loadTile t img s)

end Sys2Proof.Machine
end

