-- ==== Sys2Proof/Machine/TileMemory.lean ====
section
/-! DEFINITION. Loads and stores of a tile (12 R316, R317, R323, R338 to R340). -/

namespace Sys2Proof.Machine

/-- LD (12 R316, R317, R338, R339). -/
def execLd (t : Fin 52) (b : Beside) (r : Fin 32) (p : Fin 8) (am : Fin 4) (f : BitVec 16) (s : State) : Out :=
  runSlot t 3 b (loadAct t 0x30 r p am f b.resp) s
/-- LDH (12 R316, R317, R338, R339). -/
def execLdh (t : Fin 52) (b : Beside) (r : Fin 32) (p : Fin 8) (am : Fin 4) (f : BitVec 16) (s : State) : Out :=
  runSlot t 3 b (loadAct t 0x31 r p am f b.resp) s
/-- LDHU (12 R316, R317, R338, R339). -/
def execLdhu (t : Fin 52) (b : Beside) (r : Fin 32) (p : Fin 8) (am : Fin 4) (f : BitVec 16) (s : State) : Out :=
  runSlot t 3 b (loadAct t 0x32 r p am f b.resp) s
/-- LDB (12 R316, R317, R338, R339). -/
def execLdb (t : Fin 52) (b : Beside) (r : Fin 32) (p : Fin 8) (am : Fin 4) (f : BitVec 16) (s : State) : Out :=
  runSlot t 3 b (loadAct t 0x33 r p am f b.resp) s
/-- LDBU (12 R316, R317, R338, R339). -/
def execLdbu (t : Fin 52) (b : Beside) (r : Fin 32) (p : Fin 8) (am : Fin 4) (f : BitVec 16) (s : State) : Out :=
  runSlot t 3 b (loadAct t 0x34 r p am f b.resp) s
/-- ST (12 R316, R317, R338, R339). -/
def execSt (t : Fin 52) (b : Beside) (r : Fin 32) (p : Fin 8) (am : Fin 4) (f : BitVec 16) (s : State) : Out :=
  runSlot t 3 b (storeAct t 0x35 r p am f) s
/-- STH (12 R316, R317, R338, R339). -/
def execSth (t : Fin 52) (b : Beside) (r : Fin 32) (p : Fin 8) (am : Fin 4) (f : BitVec 16) (s : State) : Out :=
  runSlot t 3 b (storeAct t 0x36 r p am f) s
/-- STB (12 R316, R317, R338, R339). -/
def execStb (t : Fin 52) (b : Beside) (r : Fin 32) (p : Fin 8) (am : Fin 4) (f : BitVec 16) (s : State) : Out :=
  runSlot t 3 b (storeAct t 0x37 r p am f) s
/-- VLD (12 R316, R317). -/
def execVld (t : Fin 52) (b : Beside) (v : Fin 32) (p : Fin 8) (am : Fin 4) (f : BitVec 16) (s : State) : Out :=
  runSlot t 3 b (vldAct t v p am f b.resp) s
/-- VST (12 R316, R317). -/
def execVst (t : Fin 52) (b : Beside) (v : Fin 32) (p : Fin 8) (am : Fin 4) (f : BitVec 16) (s : State) : Out :=
  runSlot t 3 b (vstAct t v p am f) s
/-- VLDFF16 (12 R323). -/
def execVldff16 (t : Fin 52) (b : Beside) (v : Fin 32) (p : Fin 8) (am : Fin 4) (f : BitVec 16) (s : State) : Out :=
  runSlot t 3 b (vldffAct t 2 v p am f b.resp) s
/-- VLDFF32 (12 R323). -/
def execVldff32 (t : Fin 52) (b : Beside) (v : Fin 32) (p : Fin 8) (am : Fin 4) (f : BitVec 16) (s : State) : Out :=
  runSlot t 3 b (vldffAct t 4 v p am f b.resp) s
/-- VSTF (12 R323). -/
def execVstf (t : Fin 52) (b : Beside) (v : Fin 32) (p : Fin 8) (am : Fin 4) (f : BitVec 16) (s : State) : Out :=
  runSlot t 3 b (vstfAct t v p am f) s
/-- PMOD (12 R316). -/
def execPmod (t : Fin 52) (b : Beside) (p : Fin 8) (am : Fin 4) (f : BitVec 16) (s : State) : Out :=
  runSlot t 3 b (pmodAct p am f) s

end Sys2Proof.Machine
end

