-- ==== Sys2Proof/Machine/TileScalar.lean ====
section
/-! DEFINITION. Scalar operations of a tile, in S0 or S1 (12 Tables 12.5, 12.6). -/

namespace Sys2Proof.Machine

/-- ADD (12 R314, Table 12.6). -/
def execAdd (t : Fin 52) (b : Beside) (sd : Fin 32) (sa : Fin 32) (sb : Fin 32) (s : State) : Out :=
  runScalar t b (scalarAct 0x00 sd sa sb) s
/-- SUB (12 R314, Table 12.6). -/
def execSub (t : Fin 52) (b : Beside) (sd : Fin 32) (sa : Fin 32) (sb : Fin 32) (s : State) : Out :=
  runScalar t b (scalarAct 0x01 sd sa sb) s
/-- AND (12 R314, Table 12.6). -/
def execAnd (t : Fin 52) (b : Beside) (sd : Fin 32) (sa : Fin 32) (sb : Fin 32) (s : State) : Out :=
  runScalar t b (scalarAct 0x02 sd sa sb) s
/-- OR (12 R314, Table 12.6). -/
def execOr (t : Fin 52) (b : Beside) (sd : Fin 32) (sa : Fin 32) (sb : Fin 32) (s : State) : Out :=
  runScalar t b (scalarAct 0x03 sd sa sb) s
/-- XOR (12 R314, Table 12.6). -/
def execXor (t : Fin 52) (b : Beside) (sd : Fin 32) (sa : Fin 32) (sb : Fin 32) (s : State) : Out :=
  runScalar t b (scalarAct 0x04 sd sa sb) s
/-- SHL (12 R314, Table 12.6). -/
def execShl (t : Fin 52) (b : Beside) (sd : Fin 32) (sa : Fin 32) (sb : Fin 32) (s : State) : Out :=
  runScalar t b (scalarAct 0x05 sd sa sb) s
/-- SHR (12 R314, Table 12.6). -/
def execShr (t : Fin 52) (b : Beside) (sd : Fin 32) (sa : Fin 32) (sb : Fin 32) (s : State) : Out :=
  runScalar t b (scalarAct 0x06 sd sa sb) s
/-- SRA (12 R314, Table 12.6). -/
def execSra (t : Fin 52) (b : Beside) (sd : Fin 32) (sa : Fin 32) (sb : Fin 32) (s : State) : Out :=
  runScalar t b (scalarAct 0x07 sd sa sb) s
/-- MUL (12 R314, Table 12.6). -/
def execMul (t : Fin 52) (b : Beside) (sd : Fin 32) (sa : Fin 32) (sb : Fin 32) (s : State) : Out :=
  runScalar t b (scalarAct 0x08 sd sa sb) s
/-- QMUL (12 R314, Table 12.6). -/
def execQmul (t : Fin 52) (b : Beside) (sd : Fin 32) (sa : Fin 32) (sb : Fin 32) (s : State) : Out :=
  runScalar t b (scalarAct 0x09 sd sa sb) s
/-- MIN (12 R314, Table 12.6). -/
def execMin (t : Fin 52) (b : Beside) (sd : Fin 32) (sa : Fin 32) (sb : Fin 32) (s : State) : Out :=
  runScalar t b (scalarAct 0x0A sd sa sb) s
/-- MAX (12 R314, Table 12.6). -/
def execMax (t : Fin 52) (b : Beside) (sd : Fin 32) (sa : Fin 32) (sb : Fin 32) (s : State) : Out :=
  runScalar t b (scalarAct 0x0B sd sa sb) s
/-- SLT (12 R314, Table 12.6). -/
def execSlt (t : Fin 52) (b : Beside) (sd : Fin 32) (sa : Fin 32) (sb : Fin 32) (s : State) : Out :=
  runScalar t b (scalarAct 0x0C sd sa sb) s
/-- SLTU (12 R314, Table 12.6). -/
def execSltu (t : Fin 52) (b : Beside) (sd : Fin 32) (sa : Fin 32) (sb : Fin 32) (s : State) : Out :=
  runScalar t b (scalarAct 0x0D sd sa sb) s
/-- ADDS (12 R319, Table 12.6). -/
def execAdds (t : Fin 52) (b : Beside) (sd : Fin 32) (sa : Fin 32) (sb : Fin 32) (s : State) : Out :=
  runScalar t b (scalarAct 0x0E sd sa sb) s
/-- SUBS (12 R319, Table 12.6). -/
def execSubs (t : Fin 52) (b : Beside) (sd : Fin 32) (sa : Fin 32) (sb : Fin 32) (s : State) : Out :=
  runScalar t b (scalarAct 0x0F sd sa sb) s
/-- NSB (12 R314, Table 12.6). -/
def execNsb (t : Fin 52) (b : Beside) (sd : Fin 32) (sa : Fin 32) (sb : Fin 32) (s : State) : Out :=
  runScalar t b (scalarAct 0x10 sd sa sb) s
/-- RSHR (12 R314, Table 12.6). -/
def execRshr (t : Fin 52) (b : Beside) (sd : Fin 32) (sa : Fin 32) (sb : Fin 32) (s : State) : Out :=
  runScalar t b (scalarAct 0x11 sd sa sb) s
/-- ADDI (12 R313, Table 12.5). -/
def execAddi (t : Fin 52) (b : Beside) (sd : Fin 32) (sa : Fin 32) (imm : BitVec 16) (s : State) : Out :=
  runScalar t b (immAct 0x02 sd sa imm) s
/-- ANDI (12 R313, Table 12.5). -/
def execAndi (t : Fin 52) (b : Beside) (sd : Fin 32) (sa : Fin 32) (imm : BitVec 16) (s : State) : Out :=
  runScalar t b (immAct 0x03 sd sa imm) s
/-- ORI (12 R313, Table 12.5). -/
def execOri (t : Fin 52) (b : Beside) (sd : Fin 32) (sa : Fin 32) (imm : BitVec 16) (s : State) : Out :=
  runScalar t b (immAct 0x04 sd sa imm) s
/-- XORI (12 R313, Table 12.5). -/
def execXori (t : Fin 52) (b : Beside) (sd : Fin 32) (sa : Fin 32) (imm : BitVec 16) (s : State) : Out :=
  runScalar t b (immAct 0x05 sd sa imm) s
/-- SHLI (12 R313, Table 12.5). -/
def execShli (t : Fin 52) (b : Beside) (sd : Fin 32) (sa : Fin 32) (imm : BitVec 16) (s : State) : Out :=
  runScalar t b (immAct 0x06 sd sa imm) s
/-- SHRI (12 R313, Table 12.5). -/
def execShri (t : Fin 52) (b : Beside) (sd : Fin 32) (sa : Fin 32) (imm : BitVec 16) (s : State) : Out :=
  runScalar t b (immAct 0x07 sd sa imm) s
/-- SRAI (12 R313, Table 12.5). -/
def execSrai (t : Fin 52) (b : Beside) (sd : Fin 32) (sa : Fin 32) (imm : BitVec 16) (s : State) : Out :=
  runScalar t b (immAct 0x08 sd sa imm) s
/-- MOVI (12 R313, Table 12.5). -/
def execMovi (t : Fin 52) (b : Beside) (sd : Fin 32) (imm : BitVec 16) (s : State) : Out :=
  runScalar t b (immAct 0x09 sd 0 imm) s
/-- MOVHI (12 R313, Table 12.5). -/
def execMovhi (t : Fin 52) (b : Beside) (sd : Fin 32) (sa : Fin 32) (imm : BitVec 16) (s : State) : Out :=
  runScalar t b (immAct 0x0A sd sa imm) s
/-- PADD (12 R313, Table 12.5). -/
def execPadd (t : Fin 52) (b : Beside) (pd : Fin 8) (pa : Fin 8) (imm : BitVec 16) (s : State) : Out :=
  runScalar t b (paddAct pd pa imm) s
/-- MOVX (12 R313, Table 12.5). -/
def execMovx (t : Fin 52) (b : Beside) (dst : Fin 32) (src : Fin 32) (dk : Fin 8) (sk : Fin 8) (s : State) : Out :=
  runScalar t b (movxAct dst src dk sk) s

end Sys2Proof.Machine
end

