-- ==== Sys2Proof/Machine/TileVector.lean ====
section
/-! DEFINITION. Vector and accumulator operations of a tile (12 R318 to R322). -/

namespace Sys2Proof.Machine

/-- VADD (12 R314, R318, R319). -/
def execVadd (t : Fin 52) (b : Beside) (vd : Fin 32) (va : Fin 32) (vb : Fin 32) (ew : Fin 4) (sat : Bool) (s : State) : Out :=
  runSlot t 2 b (vectorAct 0 vd va vb ew sat) s
/-- VSUB (12 R314, R318, R319). -/
def execVsub (t : Fin 52) (b : Beside) (vd : Fin 32) (va : Fin 32) (vb : Fin 32) (ew : Fin 4) (sat : Bool) (s : State) : Out :=
  runSlot t 2 b (vectorAct 1 vd va vb ew sat) s
/-- VMUL (12 R314, R318, R319). -/
def execVmul (t : Fin 52) (b : Beside) (vd : Fin 32) (va : Fin 32) (vb : Fin 32) (ew : Fin 4) (sat : Bool) (s : State) : Out :=
  runSlot t 2 b (vectorAct 2 vd va vb ew sat) s
/-- VAND (12 R314, R318, R319). -/
def execVand (t : Fin 52) (b : Beside) (vd : Fin 32) (va : Fin 32) (vb : Fin 32) (ew : Fin 4) (sat : Bool) (s : State) : Out :=
  runSlot t 2 b (vectorAct 3 vd va vb ew sat) s
/-- VOR (12 R314, R318, R319). -/
def execVor (t : Fin 52) (b : Beside) (vd : Fin 32) (va : Fin 32) (vb : Fin 32) (ew : Fin 4) (sat : Bool) (s : State) : Out :=
  runSlot t 2 b (vectorAct 4 vd va vb ew sat) s
/-- VXOR (12 R314, R318, R319). -/
def execVxor (t : Fin 52) (b : Beside) (vd : Fin 32) (va : Fin 32) (vb : Fin 32) (ew : Fin 4) (sat : Bool) (s : State) : Out :=
  runSlot t 2 b (vectorAct 5 vd va vb ew sat) s
/-- VMIN (12 R314, R318, R319). -/
def execVmin (t : Fin 52) (b : Beside) (vd : Fin 32) (va : Fin 32) (vb : Fin 32) (ew : Fin 4) (sat : Bool) (s : State) : Out :=
  runSlot t 2 b (vectorAct 6 vd va vb ew sat) s
/-- VMAX (12 R314, R318, R319). -/
def execVmax (t : Fin 52) (b : Beside) (vd : Fin 32) (va : Fin 32) (vb : Fin 32) (ew : Fin 4) (sat : Bool) (s : State) : Out :=
  runSlot t 2 b (vectorAct 7 vd va vb ew sat) s
/-- VABS (12 R314, R318, R319). -/
def execVabs (t : Fin 52) (b : Beside) (vd : Fin 32) (va : Fin 32) (ew : Fin 4) (sat : Bool) (s : State) : Out :=
  runSlot t 2 b (vectorAct 8 vd va 0 ew sat) s
/-- VNEG (12 R314, R318, R319). -/
def execVneg (t : Fin 52) (b : Beside) (vd : Fin 32) (va : Fin 32) (ew : Fin 4) (sat : Bool) (s : State) : Out :=
  runSlot t 2 b (vectorAct 9 vd va 0 ew sat) s
/-- VSHL (12 R314, R318, R319). -/
def execVshl (t : Fin 52) (b : Beside) (vd : Fin 32) (va : Fin 32) (vb : Fin 32) (ew : Fin 4) (sat : Bool) (s : State) : Out :=
  runSlot t 2 b (vectorAct 10 vd va vb ew sat) s
/-- VSRA (12 R314, R318, R319). -/
def execVsra (t : Fin 52) (b : Beside) (vd : Fin 32) (va : Fin 32) (vb : Fin 32) (ew : Fin 4) (sat : Bool) (s : State) : Out :=
  runSlot t 2 b (vectorAct 11 vd va vb ew sat) s
/-- VRSRA (12 R314, R318, R319). -/
def execVrsra (t : Fin 52) (b : Beside) (vd : Fin 32) (va : Fin 32) (vb : Fin 32) (ew : Fin 4) (sat : Bool) (s : State) : Out :=
  runSlot t 2 b (vectorAct 12 vd va vb ew sat) s
/-- VCMPEQ (12 R314, R318, R319). -/
def execVcmpeq (t : Fin 52) (b : Beside) (vd : Fin 32) (va : Fin 32) (vb : Fin 32) (ew : Fin 4) (sat : Bool) (s : State) : Out :=
  runSlot t 2 b (vectorAct 13 vd va vb ew sat) s
/-- VCMPLT (12 R314, R318, R319). -/
def execVcmplt (t : Fin 52) (b : Beside) (vd : Fin 32) (va : Fin 32) (vb : Fin 32) (ew : Fin 4) (sat : Bool) (s : State) : Out :=
  runSlot t 2 b (vectorAct 14 vd va vb ew sat) s
/-- VAVG (12 R314, R318, R319). -/
def execVavg (t : Fin 52) (b : Beside) (vd : Fin 32) (va : Fin 32) (vb : Fin 32) (ew : Fin 4) (sat : Bool) (s : State) : Out :=
  runSlot t 2 b (vectorAct 15 vd va vb ew sat) s
/-- CMUL (12 R320). -/
def execCmul (t : Fin 52) (b : Beside) (vd : Fin 32) (va : Fin 32) (vb : Fin 32) (ew : Fin 4) (sat : Bool) (s : State) : Out :=
  runSlot t 2 b (vectorAct 16 vd va vb ew sat) s
/-- CMULJ (12 R320). -/
def execCmulj (t : Fin 52) (b : Beside) (vd : Fin 32) (va : Fin 32) (vb : Fin 32) (ew : Fin 4) (sat : Bool) (s : State) : Out :=
  runSlot t 2 b (vectorAct 17 vd va vb ew sat) s
/-- VCONJ (12 R320). -/
def execVconj (t : Fin 52) (b : Beside) (vd : Fin 32) (va : Fin 32) (ew : Fin 4) (sat : Bool) (s : State) : Out :=
  runSlot t 2 b (vectorAct 18 vd va 0 ew sat) s
/-- VBEXP (12 R322). -/
def execVbexp (t : Fin 52) (b : Beside) (va : Fin 32) (ew : Fin 4) (sat : Bool) (s : State) : Out :=
  runSlot t 2 b (vectorAct 19 0 va 0 ew sat) s
/-- VSEL (12 R314, R318, R319). -/
def execVsel (t : Fin 52) (b : Beside) (vd : Fin 32) (va : Fin 32) (vb : Fin 32) (ew : Fin 4) (sat : Bool) (s : State) : Out :=
  runSlot t 2 b (vectorAct 20 vd va vb ew sat) s
/-- VSHLI (12 R314, R318, R319). -/
def execVshli (t : Fin 52) (b : Beside) (vd : Fin 32) (va : Fin 32) (count : Fin 32) (ew : Fin 4) (sat : Bool) (s : State) : Out :=
  runSlot t 2 b (shiftAct 0 vd va count ew sat) s
/-- VSHRI (12 R314, R318, R319). -/
def execVshri (t : Fin 52) (b : Beside) (vd : Fin 32) (va : Fin 32) (count : Fin 32) (ew : Fin 4) (sat : Bool) (s : State) : Out :=
  runSlot t 2 b (shiftAct 1 vd va count ew sat) s
/-- VSRAI (12 R314, R318, R319). -/
def execVsrai (t : Fin 52) (b : Beside) (vd : Fin 32) (va : Fin 32) (count : Fin 32) (ew : Fin 4) (sat : Bool) (s : State) : Out :=
  runSlot t 2 b (shiftAct 2 vd va count ew sat) s
/-- VRSRAI (12 R314, R318, R319). -/
def execVrsrai (t : Fin 52) (b : Beside) (vd : Fin 32) (va : Fin 32) (count : Fin 32) (ew : Fin 4) (sat : Bool) (s : State) : Out :=
  runSlot t 2 b (shiftAct 3 vd va count ew sat) s
/-- VMAC (12 R321). -/
def execVmac (t : Fin 52) (b : Beside) (ad : Fin 4) (va : Fin 32) (vb : Fin 32) (s : State) : Out :=
  runSlot t 2 b (macAct 0 ad va vb 0) s
/-- VMSU (12 R321). -/
def execVmsu (t : Fin 52) (b : Beside) (ad : Fin 4) (va : Fin 32) (vb : Fin 32) (s : State) : Out :=
  runSlot t 2 b (macAct 1 ad va vb 0) s
/-- CMAC (12 R321). -/
def execCmac (t : Fin 52) (b : Beside) (ad : Fin 4) (va : Fin 32) (vb : Fin 32) (s : State) : Out :=
  runSlot t 2 b (macAct 2 ad va vb 0) s
/-- CMACJ (12 R321). -/
def execCmacj (t : Fin 52) (b : Beside) (ad : Fin 4) (va : Fin 32) (vb : Fin 32) (s : State) : Out :=
  runSlot t 2 b (macAct 3 ad va vb 0) s
/-- VMACB (12 R321). -/
def execVmacb (t : Fin 52) (b : Beside) (ad : Fin 4) (va : Fin 32) (vb : Fin 32) (sk : Fin 32) (s : State) : Out :=
  runSlot t 2 b (macAct 4 ad va vb sk) s
/-- VMULA (12 R321). -/
def execVmula (t : Fin 52) (b : Beside) (ad : Fin 4) (va : Fin 32) (vb : Fin 32) (s : State) : Out :=
  runSlot t 2 b (macAct 5 ad va vb 0) s
/-- CMULA (12 R321). -/
def execCmula (t : Fin 52) (b : Beside) (ad : Fin 4) (va : Fin 32) (vb : Fin 32) (s : State) : Out :=
  runSlot t 2 b (macAct 6 ad va vb 0) s
/-- VEXTA (12 R321). -/
def execVexta (t : Fin 52) (b : Beside) (vd : Fin 32) (acc : Fin 4) (shift : Fin 32) (sat : Bool) (s : State) : Out :=
  runSlot t 2 b (vextaAct vd acc shift sat) s
/-- VCLRA (12 R321). -/
def execVclra (t : Fin 52) (b : Beside) (acc : Fin 4) (s : State) : Out :=
  runSlot t 2 b (vclraAct acc) s
/-- VBCAST (12 R318). -/
def execVbcast (t : Fin 52) (b : Beside) (vd : Fin 32) (sa : Fin 32) (ew : Fin 4) (s : State) : Out :=
  runSlot t 2 b (vbcastAct vd sa ew) s

end Sys2Proof.Machine
end

