-- ==== Sys2Proof/Machine/Dispatch.lean ====
section
/-! DEFINITION. Dispatch: the meaning of every command. -/
namespace Sys2Proof.Machine

def exec (i : Instr) (s : State) : Host.Outcome State Fault Refusal :=
  match i with
  | .auxiliaryRailValid f => Sys2Proof.Machine.execAuxiliaryRailValid f s
  | .bootPass mJ slow => Sys2Proof.Machine.execBootPass mJ slow s
  | .holdupChargeTimeout mJ => Sys2Proof.Machine.execHoldupChargeTimeout mJ s
  | .mainsDip => Sys2Proof.Machine.execMainsDip s
  | .mainsLoss => Sys2Proof.Machine.execMainsLoss s
  | .mainsLossBeforeStep7 => Sys2Proof.Machine.execMainsLossBeforeStep7 s
  | .sealComplete mains energy duration f => Sys2Proof.Machine.execSealComplete mains energy duration f s
  | .holdupExhausted => Sys2Proof.Machine.execHoldupExhausted s
  | .holdupCapacityTest mJ => Sys2Proof.Machine.execHoldupCapacityTest mJ s
  | .thermalLimit m junction => Sys2Proof.Machine.execThermalLimit m junction s
  | .modeRequestStandby vi => Sys2Proof.Machine.execModeRequestStandby vi s
  | .modeRequestService vi => Sys2Proof.Machine.execModeRequestService vi s
  | .modeRequestSafe vi => Sys2Proof.Machine.execModeRequestSafe vi s
  | .serviceEntry => Sys2Proof.Machine.execServiceEntry s
  | .quietSet vi => Sys2Proof.Machine.execQuietSet vi s
  | .quietRelease vi => Sys2Proof.Machine.execQuietRelease vi s
  | .escalationToSafe cause unit => Sys2Proof.Machine.execEscalationToSafe cause unit s
  | .referenceLost => Sys2Proof.Machine.execReferenceLost s
  | .referenceQualified => Sys2Proof.Machine.execReferenceQualified s
  | .timebaseValid => Sys2Proof.Machine.execTimebaseValid s
  | .timebaseRestart vi v => Sys2Proof.Machine.execTimebaseRestart vi v s
  | .bellFire b airTime => Sys2Proof.Machine.execBellFire b airTime s
  | .bellWrite vi phase b v => Sys2Proof.Machine.execBellWrite vi phase b v s
  | .paceTimerFire t airTime => Sys2Proof.Machine.execPaceTimerFire t airTime s
  | .paceTimerWrite vi phase t v => Sys2Proof.Machine.execPaceTimerWrite vi phase t v s
  | .paceWindowEnd counts => Sys2Proof.Machine.execPaceWindowEnd counts s
  | .ledgerSecond => Sys2Proof.Machine.execLedgerSecond s
  | .unpoweredIntervalWrite vi v => Sys2Proof.Machine.execUnpoweredIntervalWrite vi v s
  | .laneEnable l => Sys2Proof.Machine.execLaneEnable l s
  | .laneFrameSend l airTime => Sys2Proof.Machine.execLaneFrameSend l airTime s
  | .clockRecovered l => Sys2Proof.Machine.execClockRecovered l s
  | .commaLock l => Sys2Proof.Machine.execCommaLock l s
  | .laneFrameReceived l codes arr16 => Sys2Proof.Machine.execLaneFrameReceived l codes arr16 s
  | .lossOfFrame l => Sys2Proof.Machine.execLossOfFrame l s
  | .lossOfSignal l los lol => Sys2Proof.Machine.execLossOfSignal l los lol s
  | .signalRestored l => Sys2Proof.Machine.execSignalRestored l s
  | .headid l body => Sys2Proof.Machine.execHeadid l body s
  | .headstat l body => Sys2Proof.Machine.execHeadstat l body s
  | .align l q u delta airTime => Sys2Proof.Machine.execAlign l q u delta airTime s
  | .time l airTime d since16 => Sys2Proof.Machine.execTime l airTime d since16 s
  | .reply l ty seq status airTime => Sys2Proof.Machine.execReply l ty seq status airTime s
  | .tapreq l seq post up => Sys2Proof.Machine.execTapreq l seq post up s
  | .taprep l seq result value => Sys2Proof.Machine.execTaprep l seq result value s
  | .tapAdaptation l post up => Sys2Proof.Machine.execTapAdaptation l post up s
  | .tapreqAbandoned l => Sys2Proof.Machine.execTapreqAbandoned l s
  | .commandResend l seq => Sys2Proof.Machine.execCommandResend l seq s
  | .crcAlarmEvaluation l => Sys2Proof.Machine.execCrcAlarmEvaluation l s
  | .switchoverDeadline h => Sys2Proof.Machine.execSwitchoverDeadline h s
  | .spareRevert vi j v => Sys2Proof.Machine.execSpareRevert vi j v s
  | .backedHeadWrite vi j v => Sys2Proof.Machine.execBackedHeadWrite vi j v s
  | .cageInsertion c ok identity => Sys2Proof.Machine.execCageInsertion c ok identity s
  | .cageRemoval c => Sys2Proof.Machine.execCageRemoval c s
  | .cageDiagnosticsRead c diag => Sys2Proof.Machine.execCageDiagnosticsRead c diag s
  | .calibrationSwapArm vi v => Sys2Proof.Machine.execCalibrationSwapArm vi v s
  | .calibrationCopyDone t => Sys2Proof.Machine.execCalibrationCopyDone t s
  | .binSample n airTime poison => Sys2Proof.Machine.execBinSample n airTime poison s
  | .detectionRaised p beam bin peakAt airTime => Sys2Proof.Machine.execDetectionRaised p beam bin peakAt airTime s
  | .admissionRound r => Sys2Proof.Machine.execAdmissionRound r s
  | .captureWeightsReady c poison branches airTime => Sys2Proof.Machine.execCaptureWeightsReady c poison branches airTime s
  | .captureBlockComplete c poison branches => Sys2Proof.Machine.execCaptureBlockComplete c poison branches s
  | .captureRingOverrun c => Sys2Proof.Machine.execCaptureRingOverrun c s
  | .weightRecompute c x => Sys2Proof.Machine.execWeightRecompute c x s
  | .captureClose c abandoned d airTime => Sys2Proof.Machine.execCaptureClose c abandoned d airTime s
  | .lifeLimit c airTime => Sys2Proof.Machine.execLifeLimit c airTime s
  | .historyOverwritten pending id => Sys2Proof.Machine.execHistoryOverwritten pending id s
  | .tagAndFcntCommitted c d airTime => Sys2Proof.Machine.execTagAndFcntCommitted c d airTime s
  | .verdictIssued c latency crowd => Sys2Proof.Machine.execVerdictIssued c latency crowd s
  | .verdictBatchSend vi c => Sys2Proof.Machine.execVerdictBatchSend vi c s
  | .vack d => Sys2Proof.Machine.execVack d s
  | .resendInterval vi c => Sys2Proof.Machine.execResendInterval vi c s
  | .collectorWrite vi c v => Sys2Proof.Machine.execCollectorWrite vi c v s
  | .headGainWindow airTime => Sys2Proof.Machine.execHeadGainWindow airTime s
  | .floorPeriodEnd first count airTime => Sys2Proof.Machine.execFloorPeriodEnd first count airTime s
  | .averagingPeriodWrite vi v => Sys2Proof.Machine.execAveragingPeriodWrite vi v s
  | .loopSettingWrite vi which el v => Sys2Proof.Machine.execLoopSettingWrite vi which el v s
  | .enrol vi slot v => Sys2Proof.Machine.execEnrol vi slot v s
  | .retire vi slot v => Sys2Proof.Machine.execRetire vi slot v s
  | .replace vi slot v => Sys2Proof.Machine.execReplace vi slot v s
  | .rekey vi slot v => Sys2Proof.Machine.execRekey vi slot v s
  | .rekeyShadowRelease slot => Sys2Proof.Machine.execRekeyShadowRelease slot s
  | .statusWrite vi slot v => Sys2Proof.Machine.execStatusWrite vi slot v s
  | .chargeSet vi slot v => Sys2Proof.Machine.execChargeSet vi slot v s
  | .uplinkCounterRaise vi slot v => Sys2Proof.Machine.execUplinkCounterRaise vi slot v s
  | .chargeModelAssign vi slot v => Sys2Proof.Machine.execChargeModelAssign vi slot v s
  | .creditPlanAssign vi slot v => Sys2Proof.Machine.execCreditPlanAssign vi slot v s
  | .grant vi slot v => Sys2Proof.Machine.execGrant vi slot v s
  | .grantBudgetAdd vi target v => Sys2Proof.Machine.execGrantBudgetAdd vi target v s
  | .sliceWrite vi items => Sys2Proof.Machine.execSliceWrite vi items s
  | .dailySweep => Sys2Proof.Machine.execDailySweep s
  | .journalApply n => Sys2Proof.Machine.execJournalApply n s
  | .rollPoisonRepair slot w readable => Sys2Proof.Machine.execRollPoisonRepair slot w readable s
  | .downlinkRequest vi len v => Sys2Proof.Machine.execDownlinkRequest vi len v s
  | .stagedReplyWrite vi k v => Sys2Proof.Machine.execStagedReplyWrite vi k v s
  | .buildDeadline rqid => Sys2Proof.Machine.execBuildDeadline rqid s
  | .burstStart rqid airTime => Sys2Proof.Machine.execBurstStart rqid airTime s
  | .burstEnd rqid => Sys2Proof.Machine.execBurstEnd rqid s
  | .maskBlockEnd r airTime => Sys2Proof.Machine.execMaskBlockEnd r airTime s
  | .rampProfileWrite vi slot v => Sys2Proof.Machine.execRampProfileWrite vi slot v s
  | .coefficientSetWrite vi selection el v => Sys2Proof.Machine.execCoefficientSetWrite vi selection el v s
  | .dutyBucketWrite vi depth h v => Sys2Proof.Machine.execDutyBucketWrite vi depth h v s
  | .hallPassRead e who => Sys2Proof.Machine.execHallPassRead e who s
  | .hallPassRelease e who v => Sys2Proof.Machine.execHallPassRelease e who v s
  | .forcedRelease e who => Sys2Proof.Machine.execForcedRelease e who s
  | .holdLimitExpiry e => Sys2Proof.Machine.execHoldLimitExpiry e s
  | .ccmDownlinkBuild e who tlen evt => Sys2Proof.Machine.execCcmDownlinkBuild e who tlen evt s
  | .ccmUplinkVerify e who tlen evt => Sys2Proof.Machine.execCcmUplinkVerify e who tlen evt s
  | .ctr e who tlen evt => Sys2Proof.Machine.execCtr e who tlen evt s
  | .cipherCmac e who tlen evt => Sys2Proof.Machine.execCipherCmac e who tlen evt s
  | .cipherOperationComplete e => Sys2Proof.Machine.execCipherOperationComplete e s
  | .keyLoad vi len v => Sys2Proof.Machine.execKeyLoad vi len v s
  | .keyErase vi handle v => Sys2Proof.Machine.execKeyErase vi handle v s
  | .viLoadKey vi el len v => Sys2Proof.Machine.execViLoadKey vi el len v s
  | .viManagementKey vi el len v => Sys2Proof.Machine.execViManagementKey vi el len v s
  | .blockOwnerWrite vi blk v => Sys2Proof.Machine.execBlockOwnerWrite vi blk v s
  | .tokenArrival port flow arg => Sys2Proof.Machine.execTokenArrival port flow arg s
  | .dispatch u => Sys2Proof.Machine.execDispatch u s
  | .emit t => Sys2Proof.Machine.execEmit t s
  | .done t => Sys2Proof.Machine.execDone t s
  | .bufalloc t => Sys2Proof.Machine.execBufalloc t s
  | .buffree t h => Sys2Proof.Machine.execBuffree t h s
  | .hostctlWrite t v => Sys2Proof.Machine.execHostctlWrite t v s
  | .dispatchMapWrite vi l v => Sys2Proof.Machine.execDispatchMapWrite vi l v s
  | .substitution l failed airTime => Sys2Proof.Machine.execSubstitution l failed airTime s
  | .drainLimitExpiry l => Sys2Proof.Machine.execDrainLimitExpiry l s
  | .add t b sd sa sb => Sys2Proof.Machine.execAdd t b sd sa sb s
  | .sub t b sd sa sb => Sys2Proof.Machine.execSub t b sd sa sb s
  | .and t b sd sa sb => Sys2Proof.Machine.execAnd t b sd sa sb s
  | .or t b sd sa sb => Sys2Proof.Machine.execOr t b sd sa sb s
  | .xor t b sd sa sb => Sys2Proof.Machine.execXor t b sd sa sb s
  | .shl t b sd sa sb => Sys2Proof.Machine.execShl t b sd sa sb s
  | .shr t b sd sa sb => Sys2Proof.Machine.execShr t b sd sa sb s
  | .sra t b sd sa sb => Sys2Proof.Machine.execSra t b sd sa sb s
  | .mul t b sd sa sb => Sys2Proof.Machine.execMul t b sd sa sb s
  | .qmul t b sd sa sb => Sys2Proof.Machine.execQmul t b sd sa sb s
  | .min t b sd sa sb => Sys2Proof.Machine.execMin t b sd sa sb s
  | .max t b sd sa sb => Sys2Proof.Machine.execMax t b sd sa sb s
  | .slt t b sd sa sb => Sys2Proof.Machine.execSlt t b sd sa sb s
  | .sltu t b sd sa sb => Sys2Proof.Machine.execSltu t b sd sa sb s
  | .adds t b sd sa sb => Sys2Proof.Machine.execAdds t b sd sa sb s
  | .subs t b sd sa sb => Sys2Proof.Machine.execSubs t b sd sa sb s
  | .nsb t b sd sa sb => Sys2Proof.Machine.execNsb t b sd sa sb s
  | .rshr t b sd sa sb => Sys2Proof.Machine.execRshr t b sd sa sb s
  | .addi t b sd sa imm => Sys2Proof.Machine.execAddi t b sd sa imm s
  | .andi t b sd sa imm => Sys2Proof.Machine.execAndi t b sd sa imm s
  | .ori t b sd sa imm => Sys2Proof.Machine.execOri t b sd sa imm s
  | .xori t b sd sa imm => Sys2Proof.Machine.execXori t b sd sa imm s
  | .shli t b sd sa imm => Sys2Proof.Machine.execShli t b sd sa imm s
  | .shri t b sd sa imm => Sys2Proof.Machine.execShri t b sd sa imm s
  | .srai t b sd sa imm => Sys2Proof.Machine.execSrai t b sd sa imm s
  | .movi t b sd imm => Sys2Proof.Machine.execMovi t b sd imm s
  | .movhi t b sd sa imm => Sys2Proof.Machine.execMovhi t b sd sa imm s
  | .padd t b pd pa imm => Sys2Proof.Machine.execPadd t b pd pa imm s
  | .movx t b dst src dk sk => Sys2Proof.Machine.execMovx t b dst src dk sk s
  | .br t b sa sb cond off => Sys2Proof.Machine.execBr t b sa sb cond off s
  | .jal t b sd off => Sys2Proof.Machine.execJal t b sd off s
  | .jr t b sa => Sys2Proof.Machine.execJr t b sa s
  | .loop t b level rot sc len => Sys2Proof.Machine.execLoop t b level rot sc len s
  | .loopEnd t b => Sys2Proof.Machine.execLoopEnd t b s
  | .csrr t b sd csr => Sys2Proof.Machine.execCsrr t b sd csr s
  | .csrw t b sa csr => Sys2Proof.Machine.execCsrw t b sa csr s
  | .rte t b => Sys2Proof.Machine.execRte t b s
  | .waitop t b sd => Sys2Proof.Machine.execWaitop t b sd s
  | .fence t b sd => Sys2Proof.Machine.execFence t b sd s
  | .yield t b => Sys2Proof.Machine.execYield t b s
  | .halt t b => Sys2Proof.Machine.execHalt t b s
  | .vadd t b vd va vb ew sat => Sys2Proof.Machine.execVadd t b vd va vb ew sat s
  | .vsub t b vd va vb ew sat => Sys2Proof.Machine.execVsub t b vd va vb ew sat s
  | .vmul t b vd va vb ew sat => Sys2Proof.Machine.execVmul t b vd va vb ew sat s
  | .vand t b vd va vb ew sat => Sys2Proof.Machine.execVand t b vd va vb ew sat s
  | .vor t b vd va vb ew sat => Sys2Proof.Machine.execVor t b vd va vb ew sat s
  | .vxor t b vd va vb ew sat => Sys2Proof.Machine.execVxor t b vd va vb ew sat s
  | .vmin t b vd va vb ew sat => Sys2Proof.Machine.execVmin t b vd va vb ew sat s
  | .vmax t b vd va vb ew sat => Sys2Proof.Machine.execVmax t b vd va vb ew sat s
  | .vabs t b vd va ew sat => Sys2Proof.Machine.execVabs t b vd va ew sat s
  | .vneg t b vd va ew sat => Sys2Proof.Machine.execVneg t b vd va ew sat s
  | .vshl t b vd va vb ew sat => Sys2Proof.Machine.execVshl t b vd va vb ew sat s
  | .vsra t b vd va vb ew sat => Sys2Proof.Machine.execVsra t b vd va vb ew sat s
  | .vrsra t b vd va vb ew sat => Sys2Proof.Machine.execVrsra t b vd va vb ew sat s
  | .vcmpeq t b vd va vb ew sat => Sys2Proof.Machine.execVcmpeq t b vd va vb ew sat s
  | .vcmplt t b vd va vb ew sat => Sys2Proof.Machine.execVcmplt t b vd va vb ew sat s
  | .vavg t b vd va vb ew sat => Sys2Proof.Machine.execVavg t b vd va vb ew sat s
  | .cmul t b vd va vb ew sat => Sys2Proof.Machine.execCmul t b vd va vb ew sat s
  | .cmulj t b vd va vb ew sat => Sys2Proof.Machine.execCmulj t b vd va vb ew sat s
  | .vconj t b vd va ew sat => Sys2Proof.Machine.execVconj t b vd va ew sat s
  | .vbexp t b va ew sat => Sys2Proof.Machine.execVbexp t b va ew sat s
  | .vsel t b vd va vb ew sat => Sys2Proof.Machine.execVsel t b vd va vb ew sat s
  | .vshli t b vd va count ew sat => Sys2Proof.Machine.execVshli t b vd va count ew sat s
  | .vshri t b vd va count ew sat => Sys2Proof.Machine.execVshri t b vd va count ew sat s
  | .vsrai t b vd va count ew sat => Sys2Proof.Machine.execVsrai t b vd va count ew sat s
  | .vrsrai t b vd va count ew sat => Sys2Proof.Machine.execVrsrai t b vd va count ew sat s
  | .vmac t b ad va vb => Sys2Proof.Machine.execVmac t b ad va vb s
  | .vmsu t b ad va vb => Sys2Proof.Machine.execVmsu t b ad va vb s
  | .cmac t b ad va vb => Sys2Proof.Machine.execCmac t b ad va vb s
  | .cmacj t b ad va vb => Sys2Proof.Machine.execCmacj t b ad va vb s
  | .vmacb t b ad va vb sk => Sys2Proof.Machine.execVmacb t b ad va vb sk s
  | .vmula t b ad va vb => Sys2Proof.Machine.execVmula t b ad va vb s
  | .cmula t b ad va vb => Sys2Proof.Machine.execCmula t b ad va vb s
  | .vexta t b vd acc shift sat => Sys2Proof.Machine.execVexta t b vd acc shift sat s
  | .vclra t b acc => Sys2Proof.Machine.execVclra t b acc s
  | .vbcast t b vd sa ew => Sys2Proof.Machine.execVbcast t b vd sa ew s
  | .ld t b r p am f => Sys2Proof.Machine.execLd t b r p am f s
  | .ldh t b r p am f => Sys2Proof.Machine.execLdh t b r p am f s
  | .ldhu t b r p am f => Sys2Proof.Machine.execLdhu t b r p am f s
  | .ldb t b r p am f => Sys2Proof.Machine.execLdb t b r p am f s
  | .ldbu t b r p am f => Sys2Proof.Machine.execLdbu t b r p am f s
  | .st t b r p am f => Sys2Proof.Machine.execSt t b r p am f s
  | .sth t b r p am f => Sys2Proof.Machine.execSth t b r p am f s
  | .stb t b r p am f => Sys2Proof.Machine.execStb t b r p am f s
  | .vld t b v p am f => Sys2Proof.Machine.execVld t b v p am f s
  | .vst t b v p am f => Sys2Proof.Machine.execVst t b v p am f s
  | .vldff16 t b v p am f => Sys2Proof.Machine.execVldff16 t b v p am f s
  | .vldff32 t b v p am f => Sys2Proof.Machine.execVldff32 t b v p am f s
  | .vstf t b v p am f => Sys2Proof.Machine.execVstf t b v p am f s
  | .pmod t b p am f => Sys2Proof.Machine.execPmod t b p am f s
  | .movc t b r c dir kind => Sys2Proof.Machine.execMovc t b r c dir kind s
  | .cxphase t b cd ca => Sys2Proof.Machine.execCxphase t b cd ca s
  | .cxdiv t b cd ca cb => Sys2Proof.Machine.execCxdiv t b cd ca cb s
  | .cxrecip t b cd ca => Sys2Proof.Machine.execCxrecip t b cd ca s
  | .cxrsqrt t b cd ca => Sys2Proof.Machine.execCxrsqrt t b cd ca s
  | .cxlog2 t b cd ca => Sys2Proof.Machine.execCxlog2 t b cd ca s
  | .cxexp2 t b cd ca => Sys2Proof.Machine.execCxexp2 t b cd ca s
  | .cxResult t k => Sys2Proof.Machine.execCxResult t k s
  | .trap t b ecc => Sys2Proof.Machine.execTrap t b ecc s
  | .postedStoreResponse t tid => Sys2Proof.Machine.execPostedStoreResponse t tid s
  | .tileImageLoad t img => Sys2Proof.Machine.execTileImageLoad t img s
  | .moverCtrlWrite c who w => Sys2Proof.Machine.execMoverCtrlWrite c who w s
  | .kick c who w => Sys2Proof.Machine.execKick c who w s
  | .moverEvent x => Sys2Proof.Machine.execMoverEvent x s
  | .descriptorStart c => Sys2Proof.Machine.execDescriptorStart c s
  | .descriptorComplete c => Sys2Proof.Machine.execDescriptorComplete c s
  | .ownerWrite c who w => Sys2Proof.Machine.execOwnerWrite c who w s
  | .meshRequest ty init tid addr len age data dataErr fixed => Sys2Proof.Machine.execMeshRequest ty init tid addr len age data dataErr fixed s
  | .meshResponse init tid dataErr elem fixed => Sys2Proof.Machine.execMeshResponse init tid dataErr elem fixed s
  | .meshTimeout init tid elem isWrite => Sys2Proof.Machine.execMeshTimeout init tid elem isWrite s
  | .quarantineExpiry init tid => Sys2Proof.Machine.execQuarantineExpiry init tid s
  | .headerFlitUncorrectable router init packet => Sys2Proof.Machine.execHeaderFlitUncorrectable router init packet s
  | .columnSwitchover f lost credits => Sys2Proof.Machine.execColumnSwitchover f lost credits s
  | .probeConfigurationWrite vi k v => Sys2Proof.Machine.execProbeConfigurationWrite vi k v s
  | .traceModeWrite vi v => Sys2Proof.Machine.execTraceModeWrite vi v s
  | .domainVote d client v => Sys2Proof.Machine.execDomainVote d client v s
  | .idleDelayExpiry d => Sys2Proof.Machine.execIdleDelayExpiry d s
  | .portClosed d => Sys2Proof.Machine.execPortClosed d s
  | .wakeComplete d poison airTime => Sys2Proof.Machine.execWakeComplete d poison airTime s
  | .scrub unit alwaysOn corrected bad => Sys2Proof.Machine.execScrub unit alwaysOn corrected bad s
  | .errorRecordHandlingLimit eseq => Sys2Proof.Machine.execErrorRecordHandlingLimit eseq s
  | .errorAcknowledge vi v => Sys2Proof.Machine.execErrorAcknowledge vi v s
  | .officeHeartbeatLoss => Sys2Proof.Machine.execOfficeHeartbeatLoss s
  | .lockstepMismatch p => Sys2Proof.Machine.execLockstepMismatch p s
  | .officeFailover => Sys2Proof.Machine.execOfficeFailover s
  | .substituteTest p pass => Sys2Proof.Machine.execSubstituteTest p pass s
  | .fenceRelease vi v pass => Sys2Proof.Machine.execFenceRelease vi v pass s
  | .clearBadDescriptors vi v => Sys2Proof.Machine.execClearBadDescriptors vi v s
  | .reportCardUpdate life airTime => Sys2Proof.Machine.execReportCardUpdate life airTime s
  | .prefectWatchdog => Sys2Proof.Machine.execPrefectWatchdog s
  | .relayTest vi v => Sys2Proof.Machine.execRelayTest vi v s
  | .relayTestEnd => Sys2Proof.Machine.execRelayTestEnd s
  | .accountMarkAcknowledge vi acct v => Sys2Proof.Machine.execAccountMarkAcknowledge vi acct v s
  | .request d cut aid => Sys2Proof.Machine.execRequest d cut aid s
  | .rs485FrameReceived octets => Sys2Proof.Machine.execRs485FrameReceived octets s
  | .rs485FrameTimeout => Sys2Proof.Machine.execRs485FrameTimeout s
  | .addressChangeEffective l => Sys2Proof.Machine.execAddressChangeEffective l s
  | .firmwareOpen vi => Sys2Proof.Machine.execFirmwareOpen vi s
  | .firmwareChunk vi offset len v => Sys2Proof.Machine.execFirmwareChunk vi offset len v s
  | .firmwareVerify vi => Sys2Proof.Machine.execFirmwareVerify vi s
  | .firmwareActivate vi pass => Sys2Proof.Machine.execFirmwareActivate vi pass s
  | .firmwareCommit vi => Sys2Proof.Machine.execFirmwareCommit vi s
  | .firmwareAbandon vi => Sys2Proof.Machine.execFirmwareAbandon vi s
  | .probationExpiry => Sys2Proof.Machine.execProbationExpiry s
  | .packageOpen vi id => Sys2Proof.Machine.execPackageOpen vi id s
  | .packageChunk vi el len v => Sys2Proof.Machine.execPackageChunk vi el len v s
  | .packageVerify vi id found => Sys2Proof.Machine.execPackageVerify vi id found s
  | .packageActivate vi id => Sys2Proof.Machine.execPackageActivate vi id s
  | .packageAbandon vi id => Sys2Proof.Machine.execPackageAbandon vi id s
  | .packageRotationStep id => Sys2Proof.Machine.execPackageRotationStep id s
  | .emergencyStatusRead token => Sys2Proof.Machine.execEmergencyStatusRead token s
  | .forceSilent vi v cnt token => Sys2Proof.Machine.execForceSilent vi v cnt token s
  | .emergencyReset vi v cnt token f => Sys2Proof.Machine.execEmergencyReset vi v cnt token f s
  | .beat east src dst head epoch => Sys2Proof.Machine.execBeat east src dst head epoch s
  | .headLoss => Sys2Proof.Machine.execHeadLoss s
  | .headset east src dst seq head deputies airTime => Sys2Proof.Machine.execHeadset east src dst seq head deputies airTime s
  | .headChangeEffective => Sys2Proof.Machine.execHeadChangeEffective s
  | .branchmap east src dst capid owner bin mcode peakAt positions => Sys2Proof.Machine.execBranchmap east src dst capid owner bin mcode peakAt positions s
  | .gains east src dst bin gains => Sys2Proof.Machine.execGains east src dst bin gains s
  | .dirupd east src dst tag home seq => Sys2Proof.Machine.execDirupd east src dst tag home seq s
  | .fwdframe east src dst capid part x => Sys2Proof.Machine.execFwdframe east src dst capid part x s
  | .fwdverdict east src dst record => Sys2Proof.Machine.execFwdverdict east src dst record s
  | .transferWrite vi slot v => Sys2Proof.Machine.execTransferWrite vi slot v s
  | .xferPrepare east src dst slot dest vi keyh => Sys2Proof.Machine.execXferPrepare east src dst slot dest vi keyh s
  | .xferReady east src dst slot dest => Sys2Proof.Machine.execXferReady east src dst slot dest s
  | .xferCommit east src dst slot dest atK entry => Sys2Proof.Machine.execXferCommit east src dst slot dest atK entry s
  | .xferAbort east src dst slot dest => Sys2Proof.Machine.execXferAbort east src dst slot dest s
  | .xferQuery east src dst slot dest => Sys2Proof.Machine.execXferQuery east src dst slot dest s
  | .xferAtK slot airTime => Sys2Proof.Machine.execXferAtK slot airTime s
  | .memberDrain vi p v => Sys2Proof.Machine.execMemberDrain vi p v s
  | .accelOperationDone u out => Sys2Proof.Machine.execAccelOperationDone u out s
  | .wipeComplete e => Sys2Proof.Machine.execWipeComplete e s
  | .nop t => Sys2Proof.Machine.execNop t s
  | .ethernetFrameReceived l kind src dport vlan fragmented octets => Sys2Proof.Machine.execEthernetFrameReceived l kind src dport vlan fragmented octets s
  | .ethernetLinkDown l => Sys2Proof.Machine.execEthernetLinkDown l s
  | .ethernetLinkUp l => Sys2Proof.Machine.execEthernetLinkUp l s
  | .stagingBufferDrain => Sys2Proof.Machine.execStagingBufferDrain s
  | .officePairReloadAndTest p pass => Sys2Proof.Machine.execOfficePairReloadAndTest p pass s

end Sys2Proof.Machine
end

