-- ==== Sys2Proof/Safety.lean ====
section
/-! DEFINITION. The terms claims are stated in: when a tile issues a bundle and what a bundle leaves, what a write group
leaves, and the invariants of the machine. -/
namespace Sys2Proof.Safety

open Sys2Proof.Machine

/-! ### Tiles -/

/-- A bundle that holds one operation, the other slots NOP; a scalar operation stands in S1 where `second` is set. -/
def alone (second : Bool) : Beside := { second := second }
/-- Tile t issues the bundle at its pc: it runs, and the fetch finds the bundle (12 R310, R336). -/
def ready (s : State) (t : Nat) : Bool := tileRuns s t && (fetchTrap (tileOf s t)).isNone
/-- A bundle completes on tile t, its operations leaving y: the pc moves on under the loops (12 R325), and the bundle is
counted (12 Table 12.2). -/
def done (s : State) (t : Nat) (y : Tile) : State :=
  let z := advance (tileOf s t) y
  setTile s t (countBundle z)
/-- As `done`, by a taken branch (12 R326). -/
def jumped (s : State) (t : Nat) (target : Word) (y : Tile) : State :=
  let z := branchTo (tileOf s t) target y
  setTile s t (countBundle z)

/-! ### Object writes -/

/-- An object write passes the item checks (16 Table 16.3), and the rim block it acts on has its clock (14 R380). -/
def writable (s : State) (vi idx sub el len v : Nat) : Bool :=
  (writeCheck s vi idx sub el len v).isNone && !(s.time.rimStop && rimObject idx sub)
/-- A write is answered OK and leaves y. -/
def took (y : State) : Out := .next (answering .ok y)

/-! ### Invariants -/

/-- The memories behind the mesh are in their canonical form. -/
def canonical (s : State) : Prop := memWf s.mesh.mem = true
/-- A sequence number that may be issued: neither 0 nor 0xFFFF_FFFF (00 R468). -/
def seqOk (n : Nat) : Prop := 1 ≤ n ∧ n ≤ 0xFFFFFFFE
/-- The next numbers of the device-wide sequences, and the ends of the reserved blocks, may be issued (00 R468). -/
def numbered (s : State) : Prop :=
  seqOk s.fault.nextEseq ∧ seqOk s.molfen.nextTseq ∧ seqOk s.roll.nextJseq ∧ seqOk s.sweep.nextDseq ∧ seqOk s.tx.nextRqid
    ∧ seqOk s.sweep.dseqReserved ∧ seqOk s.tx.rqidReserved

end Sys2Proof.Safety
end

