-- ==== Sys2Proof/Certificates/Slice0/Obligations.lean ====
section
/-! DEFINITION. The statements for the provers, from the numbered rules of spec/, family by family. Where a statement rests on
a choice of the model, its docstring names the log entry (notes/assumptions). -/

open Sys2Proof Sys2Proof.Machine Sys2Proof.Safety

/-! ### Taica tiles (12) -/

/-- 12 R314, Table 12.6: the scalar operations that wrap, in S0 or S1; a write to s0 is discarded. 12 R314, R322, Table 12.6: minimum,
maximum, comparisons and sign bits. 12 R319, Table 12.6: the rounding and saturating operations; one that saturates sets VSAT. -/
def Obligations.ScalarOperations : Prop :=
  (∀ (t : Fin 52) (second : Bool) (sd sa sb : Fin 32) (s : State), ready s t = true →
      let b := alone second
      let x := tileOf s t
      let va := sReg x sa
      let vb := sReg x sb
      let put (v : Word) : Out := .next (done s t (setS sd v x))
      exec (.add t b sd sa sb) s = put (va + vb)
      ∧ exec (.sub t b sd sa sb) s = put (va - vb)
      ∧ exec (.and t b sd sa sb) s = put (va &&& vb)
      ∧ exec (.or t b sd sa sb) s = put (va ||| vb)
      ∧ exec (.xor t b sd sa sb) s = put (va ^^^ vb)
      ∧ exec (.shl t b sd sa sb) s = put (va <<< (vb.toNat % 32))
      ∧ exec (.shr t b sd sa sb) s = put (va >>> (vb.toNat % 32))
      ∧ exec (.sra t b sd sa sb) s = put (va.sshiftRight (vb.toNat % 32))
      ∧ exec (.mul t b sd sa sb) s = put (va * vb))
  ∧ (∀ (t : Fin 52) (second : Bool) (sd sa sb : Fin 32) (s : State), ready s t = true →
      let b := alone second
      let x := tileOf s t
      let va := sReg x sa
      let vb := sReg x sb
      let put (v : Word) : Out := .next (done s t (setS sd v x))
      exec (.min t b sd sa sb) s = put (if va.toInt ≤ vb.toInt then va else vb)
      ∧ exec (.max t b sd sa sb) s = put (if va.toInt ≤ vb.toInt then vb else va)
      ∧ exec (.slt t b sd sa sb) s = put (if va.toInt < vb.toInt then 1 else 0)
      ∧ exec (.sltu t b sd sa sb) s = put (if va.toNat < vb.toNat then 1 else 0)
      ∧ exec (.nsb t b sd sa sb) s = put (BitVec.ofNat 32 (nsb 32 va.toInt)))
  ∧ (∀ (t : Fin 52) (second : Bool) (sd sa sb : Fin 32) (s : State), ready s t = true →
      let b := alone second
      let x := tileOf s t
      let va := (sReg x sa).toInt
      let vb := (sReg x sb).toInt
      let m : Int := 2 ^ 31 - 1
      let put (v : Int) : Out :=
        .next (done s t (if m < v then { setS sd (BitVec.ofInt 32 m) x with vsat := true }
                         else if v < -m then { setS sd (BitVec.ofInt 32 (-m)) x with vsat := true }
                         else setS sd (BitVec.ofInt 32 v) x))
      exec (.adds t b sd sa sb) s = put (va + vb)
      ∧ exec (.subs t b sd sa sb) s = put (va - vb)
      ∧ exec (.qmul t b sd sa sb) s = put (roundHalfEven (va * vb) (2 ^ 31))
      ∧ exec (.rshr t b sd sa sb) s
          = .next (done s t (setS sd (BitVec.ofInt 32 (roundHalfEven va (2 ^ ((sReg x sb).toNat % 32)))) x)))

/-- 12 R313, Table 12.5: operations with an immediate, which extend it with its sign or with zeros; shift counts below 32. 12 R313,
Table 12.1: PADD moves a pointer; MOVX copies between s, p and m registers. -/
def Obligations.ImmediatesAndMoves : Prop :=
  (∀ (t : Fin 52) (second : Bool) (sd sa : Fin 32) (imm : BitVec 16) (s : State), ready s t = true →
      let b := alone second
      let x := tileOf s t
      let va := sReg x sa
      let put (v : Word) : Out := .next (done s t (setS sd v x))
      exec (.addi t b sd sa imm) s = put (va + imm.signExtend 32)
      ∧ exec (.andi t b sd sa imm) s = put (va &&& imm.setWidth 32)
      ∧ exec (.ori t b sd sa imm) s = put (va ||| imm.setWidth 32)
      ∧ exec (.xori t b sd sa imm) s = put (va ^^^ imm.setWidth 32)
      ∧ exec (.movi t b sd imm) s = put (imm.signExtend 32)
      ∧ exec (.movhi t b sd sa imm) s = put ((imm.setWidth 32 <<< 16) ||| (sReg x sd &&& 0xFFFF))
      ∧ (imm.toNat < 32 →
          exec (.shli t b sd sa imm) s = put (va <<< imm.toNat)
          ∧ exec (.shri t b sd sa imm) s = put (va >>> imm.toNat)
          ∧ exec (.srai t b sd sa imm) s = put (va.sshiftRight imm.toNat)))
  ∧ ((∀ (t : Fin 52) (second : Bool) (pd pa : Fin 8) (imm : BitVec 16) (s : State), ready s t = true →
      exec (.padd t (alone second) pd pa imm) s
        = .next (done s t (setP pd (pReg (tileOf s t) pa + imm.signExtend 32) (tileOf s t))))
    ∧ ∀ (t : Fin 52) (second : Bool) (dst src : Fin 32) (dk sk : Fin 8) (s : State), ready s t = true →
      dk.val ≤ 2 → sk.val ≤ 2 → (dk.val ≠ 0 → dst.val < 8) → (sk.val ≠ 0 → src.val < 8) →
      let x := tileOf s t
      let v := if sk.val = 0 then sReg x src else if sk.val = 1 then pReg x src else mReg x src
      exec (.movx t (alone second) dst src dk sk) s
        = .next (done s t (if dk.val = 0 then setS dst v x else if dk.val = 1 then setP dst v x else setM dst v x)))

/-- 12 R313, R317, R326: a branch taken outside the last bundle of a loop goes to its target, counted in bundles from the bundle that
holds it; BR not taken goes on. 12 R324: LOOP sets a level's registers and makes it active, or, with a count of 0, passes the loop
over. 12 R325: the bundle at LEND of an active loop ends an iteration: COUNT falls by one, RRB rotates, and the loop starts again
or, at 0, is left. -/
def Obligations.BranchesAndLoops : Prop :=
  (∀ (t : Fin 52) (sd sa sb : Fin 32) (cond : Fin 8) (off : BitVec 13) (s : State),
      ready s t = true → atLend (tileOf s t) = false → cond.val ≤ 5 →
      let x := tileOf s t
      let b := alone false
      let target := x.pc + (off.signExtend 32 <<< 4)
      let va := sReg x sa
      let vb := sReg x sb
      let holds : Bool := match cond.val with
        | 0 => va == vb
        | 1 => va != vb
        | 2 => decide (va.toInt < vb.toInt)
        | 3 => decide (vb.toInt ≤ va.toInt)
        | 4 => decide (va.toNat < vb.toNat)
        | _ => decide (vb.toNat ≤ va.toNat)
      exec (.br t b sa sb cond off) s = .next (if holds then jumped s t target x else done s t x)
      ∧ exec (.jal t b sd off) s = .next (jumped s t target (setS sd (x.pc + 16) x))
      ∧ (va.toNat % 16 = 0 → exec (.jr t b sa) s = .next (jumped s t va x)))
  ∧ (∀ (t : Fin 52) (level : Bool) (rot : BitVec 2) (sc : Fin 32) (len : Fin 4096) (s : State),
      ready s t = true → len.val ≠ 0 →
      loopBad (tileOf s t) level ((tileOf s t).pc + 16) ((tileOf s t).pc + BitVec.ofNat 32 (16 * len.val)) = false →
      let x := tileOf s t
      let n := sReg x sc
      let old := if level then x.l1 else x.l0
      let lend := x.pc + BitVec.ofNat 32 (16 * len.val)
      let l : HwLoop := { start := x.pc + 16, end_ := lend, count := n, act := n ≠ 0, rot := if n = 0 then old.rot else rot }
      let y := if level then { x with l1 := l } else { x with l0 := l }
      exec (.loop t (alone false) level rot sc len) s
        = .next (if n = 0 then modTile (done s t y) t (fun z => { z with pc := lend + 16 }) else done s t y))
  ∧ (∀ (t : Fin 52) (s : State), ready s t = true →
      let x := tileOf s t
      let ends (l : HwLoop) : Prop := ∃ u, exec (.loopEnd t (alone false)) s = .next u
        ∧ (tileOf u t).l0 = (if l = x.l0 ∧ x.l0.end_ = x.pc ∧ x.l0.act = true then { l with count := l.count - 1, act := l.count - 1 ≠ 0 } else x.l0)
        ∧ (tileOf u t).l1 = (if x.l0.end_ = x.pc ∧ x.l0.act = true then x.l1 else { l with count := l.count - 1, act := l.count - 1 ≠ 0 })
        ∧ (tileOf u t).pc = (if l.count - 1 = 0 then x.pc + 16 else l.start)
        ∧ (tileOf u t).rrb = (if l.rot = 0 then x.rrb else x.rrb - BitVec.ofNat 4 (2 ^ (l.rot.toNat - 1)))
        ∧ (tileOf u t).s = x.s ∧ (tileOf u t).v = x.v ∧ (tileOf u t).dmem = x.dmem
      (x.l0.act = true → x.l0.end_ = x.pc → ends x.l0)
      ∧ ((x.l0.act = false ∨ x.l0.end_ ≠ x.pc) → x.l1.act = true → x.l1.end_ = x.pc → ends x.l1))

/-- 12 R310, R311, R315: the operations of one bundle read the registers as they were before it; two that write one register other
than s0 make the bundle ILLEGAL. -/
def Obligations.ParallelBundles : Prop :=
  ∀ (t : Fin 52) (d a b d' a' b' : Fin 32) (s : State), ready s t = true →
    let x := tileOf s t
    let w : Word := BitVec.ofNat 32 (2 ^ 26 + d'.val * 2 ^ 21 + a'.val * 2 ^ 16 + b'.val * 2 ^ 11)
    let c : Beside := { s1 := w }
    (d ≠ d' ∨ d = 0 →
      exec (.add t c d a b) s = .next (done s t (setS d' (sReg x a' + sReg x b') (setS d (sReg x a + sReg x b) x)))
      ∧ exec (.sub t c d a b) s = .next (done s t (setS d' (sReg x a' + sReg x b') (setS d (sReg x a - sReg x b) x))))
    ∧ (d = d' → d ≠ 0 → ∃ u, exec (.add t c d a b) s = .next u ∧ (tileOf u t).tcause = tcauseWord 2 0 x.task .ok
        ∧ (tileOf u t).tpc = x.pc ∧ (tileOf u t).s = x.s)

/-- 12 R308, R339: CSRR and CSRW of a register that exists and the level may access; FENCE with no store outstanding; NOP. 12 R332,
R334, R337; 11 R301: at Host level RTE returns to PLEVEL and TPC, WAITOP waits with its destination, and HALT stops the tile;
YIELD enters Host at TVEC with cause 0. -/
def Obligations.SystemOperations : Prop :=
  (∀ (t : Fin 52) (r : Fin 32) (n : Fin 4096) (s : State), ready s t = true →
      let x := tileOf s t
      let b := alone false
      exec (.nop t) s = .next (done s t x)
      ∧ (csrExists n = true → (x.task = false ∨ csrHostOnly n = false) →
          exec (.csrr t b r n) s = .next (done s t (setS r (csrRead t x n) x)))
      ∧ (csrExists n = true → (x.task = false ∨ csrTaskWrites n = true) →
          exec (.csrw t b r n) s = .next (done s t (csrWrite n (sReg x r) x)))
      ∧ (x.posted = 0 → exec (.fence t b r) s = .next (done s t (setS r x.tstat { x with tstat := 0 }))))
  ∧ (∀ (t : Fin 52) (sd : Fin 32) (s : State), ready s t = true →
      let x := tileOf s t
      let b := alone false
      (x.task = false →
        (∃ u, exec (.rte t b) s = .next u ∧ (tileOf u t).task = x.ptask ∧ (tileOf u t).pc = x.tpc
          ∧ (tileOf u t).tstate = (if x.ptask then .task else .host) ∧ (tileOf u t).s = x.s)
        ∧ (∃ u, exec (.waitop t b sd) s = .next u ∧ (tileOf u t).waiting = true ∧ (tileOf u t).waitSd = sd)
        ∧ ∃ u, exec (.halt t b) s = .next u ∧ (tileOf u t).tstate = .halted)
      ∧ ∃ u, exec (.yield t b) s = .next u ∧ (tileOf u t).task = false ∧ (tileOf u t).ptask = x.task
          ∧ (tileOf u t).tstate = .host ∧ (tileOf u t).pc = x.tvec)

/-- 12 R318, R319, Table 12.6: element operations on EW elements, wrapped, or saturated with VSAT under SAT. 12 R318, R319, Table
12.6: shifts by vb's elements modulo the width, and by an immediate count. -/
def Obligations.VectorElements : Prop :=
  (∀ (t : Fin 52) (vd va vb : Fin 32) (ew : Fin 4) (sat : Bool) (s : State), ready s t = true →
      let b := alone false
      let x := tileOf s t
      let w := ewWidth ew
      let a := elems ew (vReg x va)
      let c := elems ew (vReg x vb)
      let put (l : List Int) : Out :=
        .next (done s t (flagV (finishAll sat w l).2 (setV (physV x vd) (packElems ew (finishAll sat w l).1 (vReg x vd)) x)))
      exec (.vadd t b vd va vb ew sat) s = put (map2 (fun p q => p + q) a c)
      ∧ exec (.vsub t b vd va vb ew sat) s = put (map2 (fun p q => p - q) a c)
      ∧ exec (.vand t b vd va vb ew sat) s = put (map2 (fun p q => toSigned w (Nat.land (ofSigned w p) (ofSigned w q))) a c)
      ∧ exec (.vor t b vd va vb ew sat) s = put (map2 (fun p q => toSigned w (Nat.lor (ofSigned w p) (ofSigned w q))) a c)
      ∧ exec (.vxor t b vd va vb ew sat) s = put (map2 (fun p q => toSigned w (Nat.xor (ofSigned w p) (ofSigned w q))) a c)
      ∧ exec (.vmin t b vd va vb ew sat) s = put (map2 min a c)
      ∧ exec (.vmax t b vd va vb ew sat) s = put (map2 max a c)
      ∧ exec (.vabs t b vd va ew sat) s = put (a.map (fun p => (p.natAbs : Int)))
      ∧ exec (.vneg t b vd va ew sat) s = put (a.map (fun p => -p))
      ∧ exec (.vcmpeq t b vd va vb ew sat) s = put (map2 (fun p q => if p = q then -1 else 0) a c)
      ∧ exec (.vcmplt t b vd va vb ew sat) s = put (map2 (fun p q => if p < q then -1 else 0) a c)
      ∧ exec (.vavg t b vd va vb ew sat) s = put (map2 (fun p q => roundHalfEven (p + q) 2) a c)
      ∧ (ew.val ≠ 2 → exec (.vmul t b vd va vb ew sat) s = put (map2 (fun p q => roundHalfEven (p * q) (2 ^ (w - 1))) a c)))
  ∧ (∀ (t : Fin 52) (vd va vb n : Fin 32) (ew : Fin 4) (sat : Bool) (s : State), ready s t = true →
      let b := alone false
      let x := tileOf s t
      let w := ewWidth ew
      let a := elems ew (vReg x va)
      let c := elems ew (vReg x vb)
      let put (l : List Int) : Out :=
        .next (done s t (flagV (finishAll sat w l).2 (setV (physV x vd) (packElems ew (finishAll sat w l).1 (vReg x vd)) x)))
      exec (.vshl t b vd va vb ew sat) s = put (map2 (fun p q => p * (2 ^ (q % w).toNat : Nat)) a c)
      ∧ exec (.vsra t b vd va vb ew sat) s = put (map2 (fun p q => p / (2 ^ (q % w).toNat : Nat)) a c)
      ∧ exec (.vrsra t b vd va vb ew sat) s = put (map2 (fun p q => roundHalfEven p (2 ^ (q % w).toNat)) a c)
      ∧ exec (.vshli t b vd va n ew sat) s = put (a.map (fun p => p * (2 ^ n.val : Nat)))
      ∧ exec (.vshri t b vd va n ew sat) s = put (a.map (fun p => toSigned w (ofSigned w p >>> n.val)))
      ∧ exec (.vsrai t b vd va n ew sat) s = put (a.map (fun p => p / (2 ^ n.val : Nat)))
      ∧ exec (.vrsrai t b vd va n ew sat) s = put (a.map (fun p => roundHalfEven p (2 ^ n.val))))

/-- 12 R318, R320, R322: selection, block exponent, broadcast, and the complex products and conjugate of 16-bit pairs. -/
def Obligations.VectorComplex : Prop :=
  ∀ (t : Fin 52) (vd va vb sa : Fin 32) (ew : Fin 4) (sat : Bool) (s : State), ready s t = true →
    let b := alone false
    let x := tileOf s t
    let w := ewWidth ew
    let a := elems ew (vReg x va)
    let c := elems ew (vReg x vb)
    let q := (pairsOf a).zip (pairsOf c)
    let round (l : List (Int × Int)) : List Int := (unpair l).map (fun p => roundHalfEven p (2 ^ 15))
    let put (l : List Int) : Out :=
      .next (done s t (flagV (finishAll sat w l).2 (setV (physV x vd) (packElems ew (finishAll sat w l).1 (vReg x vd)) x)))
    exec (.vbexp t b va ew sat) s
        = .next (done s t { x with bexp := a.foldl (fun m e => min m (nsb w e)) x.bexp })
    ∧ exec (.vbcast t b vd sa ew) s
        = .next (done s t (setV (physV x vd)
            (packElems ew (List.replicate (ewCount ew) ((sReg x sa).toNat : Int)) (vReg x vd)) x))
    ∧ exec (.vsel t b vd va vb ew sat) s
        = (let l := ((a.zip c).zip (elems ew (vReg x vd))).map
            (fun p => if p.1.2 = 0 then (p.2, false) else finish sat w p.1.1)
          .next (done s t (flagV (l.any (·.2)) (setV (physV x vd) (packElems ew (l.map (·.1)) (vReg x vd)) x))))
    ∧ (ew.val = 0 ∨ ew.val = 3 →
        exec (.cmul t b vd va vb ew sat) s
          = put (round (q.map (fun p => (p.1.1 * p.2.1 - p.1.2 * p.2.2, p.1.1 * p.2.2 + p.1.2 * p.2.1))))
        ∧ exec (.cmulj t b vd va vb ew sat) s
          = put (round (q.map (fun p => (p.1.1 * p.2.1 - p.1.2 * -p.2.2, p.1.1 * -p.2.2 + p.1.2 * p.2.1))))
        ∧ exec (.vconj t b vd va ew sat) s
          = (let l := unpair ((pairsOf a).map (fun p => (p.1, (satSym w (-p.2)).1)))
            let sats := (pairsOf a).any (fun p => (satSym w (-p.2)).2)
            .next (done s t (flagV ((finishAll sat w l).2 || sats)
              (setV (physV x vd) (packElems ew (finishAll sat w l).1 (vReg x vd)) x)))))

/-- 12 R321: an accumulator's lanes take each product, clamped at 40 bits with ASAT; the other lanes of the file stay. 12 R321: VEXTA
writes the eight lanes of an accumulator, shifted with rounding, as 16-bit elements. -/
def Obligations.Accumulators : Prop :=
  (∀ (t : Fin 52) (ad : Fin 4) (va vb sk : Fin 32) (s : State), ready s t = true →
      let b := alone false
      let x := tileOf s t
      let a := elems 0 (vReg x va)
      let c := elems 0 (vReg x vb)
      let q := (pairsOf a).zip (pairsOf c)
      let e := (c ++ elems 0 (vReg x (vb.val + 1))).getD ((sReg x sk).toNat % 16) 0
      let put (sum : Bool) (l : List Int) : Out :=
        .next (done s t ((List.range 8).foldl (fun y j =>
          let r := satSym 40 (if sum then accLane x ad j + l.getD j 0 else l.getD j 0)
          flagA r.2 (setAcc ad j r.1 y)) x))
      exec (.vmac t b ad va vb) s = put true (map2 (fun p r => p * r) a c)
      ∧ exec (.vmsu t b ad va vb) s = put true (map2 (fun p r => -(p * r)) a c)
      ∧ exec (.cmac t b ad va vb) s = put true (unpair (q.map (cmulPair false)))
      ∧ exec (.cmacj t b ad va vb) s = put true (unpair (q.map (cmulPair true)))
      ∧ exec (.vmula t b ad va vb) s = put false (map2 (fun p r => p * r) a c)
      ∧ exec (.cmula t b ad va vb) s = put false (unpair (q.map (cmulPair false)))
      ∧ (vb.val % 2 = 0 → exec (.vmacb t b ad va vb sk) s = put true (a.map (fun p => p * e)))
      ∧ exec (.vclra t b ad) s = .next (done s t ((List.range 8).foldl (fun y j => setAcc ad j 0 y) x)))
  ∧ (∀ (t : Fin 52) (vd : Fin 32) (acc : Fin 4) (shift : Fin 32) (sat : Bool) (s : State), ready s t = true →
      let x := tileOf s t
      let r := finishAll sat 16 ((List.range 8).map (fun j => roundHalfEven (accLane x acc j) (2 ^ shift.val)))
      exec (.vexta t (alone false) vd acc shift sat) s
        = .next (done s t (flagV r.2 (setV (physV x vd) (packElems 0 r.1 0) x))))

/-- 12 R316, R317, R338: a load from the tile's own memory, aligned and clear of poison, in a legal addressing mode. 12 R316, R323:
PMOD moves a pointer; a first-fault load of 16 bytes that are all good loads every element. -/
def Obligations.LocalLoads : Prop :=
  (∀ (t : Fin 52) (r : Fin 32) (p : Fin 8) (am : Fin 4) (f : BitVec 16) (n : Nat) (s : State), ready s t = true →
      let b := alone false
      let x := tileOf s t
      let a := amAddr x p am f
      let post (y : Tile) : Tile := if am.val = 1 ∨ am.val = 2 then setP p (amPointer x p am f) y else y
      let bytes := localBytes x a.toNat n
      let put (v : Word) : Out := .next (done s t (post (setS r v x)))
      amLegal am f = true → (regionOf x a.toNat n = some .dmem ∨ regionOf x a.toNat n = some .imem) →
      localPoison x a.toNat n = false →
        (n = 4 → a.toNat % 4 = 0 →
          exec (.ld t b r p am f) s = put (BitVec.ofNat 32 (valueLE bytes)))
        ∧ (n = 2 → a.toNat % 2 = 0 →
            exec (.ldh t b r p am f) s = put (BitVec.ofInt 32 (toSigned 16 (valueLE bytes)))
            ∧ exec (.ldhu t b r p am f) s = put (BitVec.ofNat 32 (valueLE bytes)))
        ∧ (n = 1 →
            exec (.ldb t b r p am f) s = put (BitVec.ofInt 32 (toSigned 8 (valueLE bytes)))
            ∧ exec (.ldbu t b r p am f) s = put (BitVec.ofNat 32 (valueLE bytes)))
        ∧ (n = 16 → a.toNat % 2 = 0 →
            exec (.vld t b r p am f) s = .next (done s t (post (setV (physV x r) (BitVec.ofNat 128 (valueLE bytes)) x)))))
  ∧ (∀ (t : Fin 52) (r : Fin 32) (p : Fin 8) (am : Fin 4) (f : BitVec 16) (s : State), ready s t = true →
      let b := alone false
      let x := tileOf s t
      let a := amAddr x p am f
      let post (y : Tile) : Tile := if am.val = 1 ∨ am.val = 2 then setP p (amPointer x p am f) y else y
      let bytes := BitVec.ofNat 128 (valueLE (localBytes x a.toNat 16))
      amLegal am f = true →
        (am.val = 1 ∨ am.val = 2 → exec (.pmod t b p am f) s = .next (done s t (setP p (amPointer x p am f) x)))
        ∧ (regionOf x a.toNat 16 = some .dmem → localPoison x a.toNat 16 = false →
            (a.toNat % 2 = 0 → exec (.vldff16 t b r p am f) s
              = .next (done s t (post (setV (physV x r) bytes { x with ffm := 0xFF }))))
            ∧ (a.toNat % 4 = 0 → exec (.vldff32 t b r p am f) s
              = .next (done s t (post (setV (physV x r) bytes { x with ffm := 0x0F }))))))

/-- 12 R316, R317, R323, R338: a store into the tile's own memories writes its bytes, low byte first, and no others; no register
changes but a post-modified pointer. VSTF stores the elements whose ffm bit is set, and accesses from the first of them to the
last, which raises ACCESS where no region open to the level holds it (the model's reading, log entry 29). -/
def Obligations.LocalStores : Prop :=
  ∀ (t : Fin 52) (r : Fin 32) (p : Fin 8) (am : Fin 4) (f : BitVec 16) (s : State), ready s t = true →
    let b := alone false
    let x := tileOf s t
    let a := (amAddr x p am f).toNat
    let own (n : Nat) : Prop := (regionOf x a n = some .dmem ∨ regionOf x a n = some .imem) ∧ localPoison x a n = false
    let ptr := if am.val = 1 ∨ am.val = 2 then tabSet 0 x.p p (amPointer x p am f) else x.p
    let span := ffSpan x.ffm.toNat a
    let stores (o : Out) (n v : Nat) (here : Nat → Bool) : Prop :=
      ∃ u, o = .next u ∧ (tileOf u t).p = ptr ∧ (tileOf u t).s = x.s ∧ (tileOf u t).v = x.v
        ∧ (∀ k, localByte (tileOf u t) k = if a ≤ k ∧ k < a + n ∧ here (k - a) = true then BitVec.ofNat 8 (v >>> (8 * (k - a)))
                                            else localByte x k)
        ∧ (∀ k, k ≠ t.val → tileOf u k = tileOf s k) ∧ u.mesh = s.mesh
    amLegal am f = true →
      (own 4 → a % 4 = 0 →
        stores (exec (.st t b r p am f) s) 4 (sReg x r).toNat (fun _ => true))
      ∧ (own 2 → a % 2 = 0 →
          stores (exec (.sth t b r p am f) s) 2 (sReg x r).toNat (fun _ => true))
      ∧ (own 1 →
          stores (exec (.stb t b r p am f) s) 1 (sReg x r).toNat (fun _ => true))
      ∧ (own 16 → a % 2 = 0 →
          stores (exec (.vst t b r p am f) s) 16 (vReg x r).toNat (fun _ => true))
      ∧ (span.2 = 0 ∨ (regionOf x span.1 span.2 = some .dmem ∨ regionOf x span.1 span.2 = some .imem)
            ∧ localPoison x span.1 span.2 = false → a % 2 = 0 →
          stores (exec (.vstf t b r p am f) s) 16 (vReg x r).toNat (fun k => x.ffm.getLsbD (k / 2)))
      ∧ (span.2 ≠ 0 → regionOf x span.1 span.2 = none → a % 2 = 0 → ∃ u, exec (.vstf t b r p am f) s = .next u
          ∧ (tileOf u t).tcause = tcauseWord 7 3 x.task .ok ∧ (tileOf u t).p = x.p ∧ (tileOf u t).dmem = x.dmem)

/-- 12 R327, R328: a CX operation joins those in flight with its operands, where CX is enabled at the level, fewer than four are in
flight and none of its registers is pending; MOVC copies between c and s or v registers. 12 R328, Table 12.8: a result in flight
lands in its register and leaves the file of those in flight; CXRECIP is exact, CXLOG2 of a power of two lies within 3 of it, and
CXERR is set by an operand of 0. -/
def Obligations.CxOperations : Prop :=
  (∀ (t : Fin 52) (r : Fin 32) (cd ca cb : Fin 8) (s : State), ready s t = true →
      let b := alone false
      let x := tileOf s t
      let go (fn : Nat) (o2 : Fin 8) : Out := .next (done s t { x with cx := x.cx ++ [⟨fn, cd, cReg x ca, cReg x o2⟩] })
      (if x.task then x.cxet else x.cxeh) = true → x.cx.length < 4 →
      (∀ o ∈ x.cx, o.cd ≠ cd.val ∧ o.cd ≠ ca.val ∧ o.cd ≠ cb.val) →
        exec (.cxphase t b cd ca) s = go 0 0
        ∧ exec (.cxdiv t b cd ca cb) s = go 1 cb
        ∧ exec (.cxrecip t b cd ca) s = go 2 0
        ∧ exec (.cxrsqrt t b cd ca) s = go 3 0
        ∧ exec (.cxlog2 t b cd ca) s = go 4 0
        ∧ exec (.cxexp2 t b cd ca) s = go 5 0
        ∧ exec (.movc t b r cd 0 false) s
            = .next (done s t (setC cd (BitVec.ofNat 64 (putHalf 32 false (sReg x r).toNat (cReg x cd).toNat)) x))
        ∧ exec (.movc t b r cd 3 false) s = .next (done s t (setS r (BitVec.ofNat 32 ((cReg x cd).toNat / 2 ^ 32)) x))
        ∧ exec (.movc t b r cd 1 true) s = .next (done s t (setC cd (BitVec.ofNat 64 ((vReg x r).toNat / 2 ^ 64)) x)))
  ∧ ((∀ (t : Fin 52) (k : Fin 4) (s : State) (o : CxOp), (tileOf s t).cx[k.val]? = some o →
      ∃ u, exec (.cxResult t k) s = .next u
        ∧ (tileOf u t).c = tabSet 0 (tileOf s t).c o.cd (cxResult o.fn o.a o.b).1
        ∧ (tileOf u t).cx = (tileOf s t).cx.eraseIdx k
        ∧ (tileOf u t).cxerr = ((tileOf s t).cxerr || (cxResult o.fn o.a o.b).2)
        ∧ (tileOf u t).pc = (tileOf s t).pc ∧ (tileOf u t).s = (tileOf s t).s)
    ∧ (∀ a b : BitVec 64, a.toNat % 2 ^ 32 = 0 →
        (cxResult 2 a b).2 = true ∧ (cxResult 3 a b).2 = true ∧ (cxResult 4 a b).2 = true)
    ∧ ∀ (a b : BitVec 64) (e : Nat), a.toNat % 2 ^ 32 = 2 ^ e → 0 < e → e < 32 →
        (cxResult 2 a b) = (BitVec.ofNat 64 (2 ^ (63 - e)), false)
        ∧ e * 2 ^ 27 ≤ (cxResult 4 a b).1.toNat + 3 ∧ (cxResult 4 a b).1.toNat ≤ e * 2 ^ 27 + 3)

/-- 12 R317: word accesses need a multiple of 4; half accesses, VLD, VST, VSTF and VLDFF16 a multiple of 2, VLDFF32 a multiple of 4,
and a misaligned access raises ALIGN; an access that lies in no region open to the level raises ACCESS, first-fault loads apart; a
trapping access leaves its pointer, and every register, as it was. -/
def Obligations.AccessRules : Prop :=
  ∀ (t : Fin 52) (r : Fin 32) (p : Fin 8) (am : Fin 4) (f : BitVec 16) (s : State), ready s t = true → amLegal am f = true →
    let x := tileOf s t
    let b := alone false
    let a := amAddr x p am f
    let meets (c : Instr) (code : Nat) : Prop := ∃ u, exec c s = .next u
      ∧ (tileOf u t).tcause = tcauseWord code 3 x.task .ok ∧ (tileOf u t).taddr = a ∧ (tileOf u t).p = x.p
      ∧ (tileOf u t).s = x.s ∧ (tileOf u t).v = x.v ∧ (tileOf u t).dmem = x.dmem
    let rules (c : Instr) (align n : Nat) : Prop :=
      (a.toNat % align ≠ 0 → meets c 6) ∧ (a.toNat % align = 0 → regionOf x a.toNat n = none → meets c 7)
    rules (.ld t b r p am f) 4 4 ∧ rules (.ldh t b r p am f) 2 2 ∧ rules (.ldhu t b r p am f) 2 2
    ∧ rules (.ldb t b r p am f) 1 1 ∧ rules (.ldbu t b r p am f) 1 1
    ∧ rules (.st t b r p am f) 4 4 ∧ rules (.sth t b r p am f) 2 2 ∧ rules (.stb t b r p am f) 1 1
    ∧ rules (.vld t b r p am f) 2 16 ∧ rules (.vst t b r p am f) 2 16
    ∧ (a.toNat % 2 ≠ 0 → meets (.vstf t b r p am f) 6)
    ∧ (x.ffm = 0xFF → a.toNat % 2 = 0 → regionOf x a.toNat 16 = none → meets (.vstf t b r p am f) 7)
    ∧ (a.toNat % 2 ≠ 0 → meets (.vldff16 t b r p am f) 6) ∧ (a.toNat % 4 ≠ 0 → meets (.vldff32 t b r p am f) 6)

/-- 12 R326, R333 to R335, Table 12.9: at Task level a bundle that meets a trap enters Host at TVEC; TCAUSE, TADDR, TPC and PLEVEL say
what happened, the trap is counted, and no register or memory of the bundle changes. -/
def Obligations.TrapsEnterHost : Prop :=
  ∀ (t : Fin 52) (s : State), ready s t = true → (tileOf s t).task = true →
    let x := tileOf s t
    let b := alone false
    let enters (o : Out) (code slot : Nat) (addr : Word) : Prop := ∃ u, o = .next u
      ∧ (tileOf u t).task = false ∧ (tileOf u t).ptask = true ∧ (tileOf u t).tstate = .host
      ∧ (tileOf u t).tcause = tcauseWord code slot true .ok ∧ (tileOf u t).taddr = addr
      ∧ (tileOf u t).tpc = x.pc ∧ (tileOf u t).pc = x.tvec
      ∧ (tileOf u t).s = x.s ∧ (tileOf u t).v = x.v ∧ (tileOf u t).dmem = x.dmem
      ∧ tabGet 0 (tileOf u t).traps code = (tabGet 0 x.traps code + 1) % 2 ^ 32
    (∀ c : Beside, decodeS0 t c.s0.toNat = none → enters (exec (.trap t c false) s) 2 0 0)
    ∧ (∀ (sd : Fin 32) (n : Fin 4096), csrExists n = true → csrHostOnly n = true → enters (exec (.csrr t b sd n) s) 3 0 0)
    ∧ (∀ sd : Fin 32, enters (exec (.rte t b) s) 3 0 0 ∧ enters (exec (.waitop t b sd) s) 3 0 0 ∧ enters (exec (.halt t b) s) 3 0 0)
    ∧ (∀ (sd : Fin 32) (off : BitVec 13), atLend x = true → enters (exec (.jal t b sd off) s) 5 0 0)
    ∧ (∀ sa : Fin 32, (sReg x sa).toNat % 16 ≠ 0 → atLend x = false → enters (exec (.jr t b sa) s) 6 0 (sReg x sa))
    ∧ ∀ cd ca : Fin 8, x.cxet = false → enters (exec (.cxlog2 t b cd ca) s) 4 1 0

/-- 12 R341, R339: the Caretaker loads a tile that is not fenced and serves nothing: it starts in Host level at bundle 0 with the
image's registers; the response to a posted store leaves one fewer outstanding. -/
def Obligations.ImageAndResponses : Prop :=
  (∀ (t : Fin 52) (img : Image) (s : State), isFenced s (unitTile t) = false → serviceOf s t = none →
    ∃ u, exec (.tileImageLoad t img) s = .next u
      ∧ (tileOf u t).tstate = .host ∧ (tileOf u t).task = false
      ∧ (tileOf u t).pc = 0 ∧ (tileOf u t).tvec = img.tvec &&& 0xFFFFFFF0
      ∧ (tileOf u t).tbase = img.tbase &&& 0xFFFFFFF0 ∧ (tileOf u t).tlimit = img.tlimit &&& 0xFFFFFFF0
      ∧ ∀ k, k ≠ t.val → tileOf u k = tileOf s k)
  ∧ ∀ (t : Fin 52) (tid : Nat) (s : State) (r : Resp),
      s.mesh.responses.find? (fun x => x.init == identityOf t 0 && x.tid == tid && !x.isRead) = some r →
      s.mesh.quarantine.contains (r.init, r.tid) = false → (tileOf s t).posted ≠ 0 →
      ∃ u, exec (.postedStoreResponse t tid) s = .next u ∧ (tileOf u t).posted = (tileOf s t).posted - 1
        ∧ (tileOf u t).tstat = (if r.status ≠ .ok ∧ (tileOf s t).tstat = 0 then BitVec.ofNat 32 (statusCode r.status)
                                else (tileOf s t).tstat)
        ∧ (tileOf u t).s = (tileOf s t).s

/-! ### The machine -/

/-- A step takes the command at the front of the queue and is exec of it on the state with the queue's rest. -/
def Obligations.StepRunsFront : Prop :=
  ∀ (c : Instr) (rest : List Instr) (s : State),
    step { s with pending := c :: rest } = exec c { s with pending := rest }

/-- On an empty queue one tick passes (the model's choice, log entry 2): air time rises by one while the timebase is valid, the
Caretaker's clock by 5/32 microseconds, and nothing else changes. -/
def Obligations.IdleTick : Prop :=
  ∀ s : State, s.pending = [] →
    ∃ u, step s = .next u
      ∧ u.time.airTime = (if s.time.valid then s.time.airTime + 1 else s.time.airTime)
      ∧ 32 * u.time.careUs + u.time.careFrac = 32 * s.time.careUs + s.time.careFrac + 5
      ∧ u = { s with time := { s.time with airTime := u.time.airTime, careUs := u.time.careUs, careFrac := u.time.careFrac } }

/-- No command of the table faults or is refused: every one answers a next state (log entry 4), and none touches the commands that
wait behind it. -/
def Obligations.EveryCommandAnswers : Prop :=
  ∀ (c : Instr) (s : State), ∃ u, exec c s = .next u ∧ u.pending = s.pending

/-- After reset the module is OFF with nothing waiting, nothing listed in its memories, the timebase invalid, no mains, every sequence
at 1 (02 R34; 00 R468), and every tile and channel idle (values of log entry 1). The reset state meets both invariants. -/
def Obligations.ResetState : Prop :=
  (State.reset.mode.mode = .off ∧ State.reset.pending = [] ∧ State.reset.outbox = [] ∧ State.reset.settings = []
    ∧ State.reset.time.valid = false ∧ State.reset.power.mains = false ∧ State.reset.mesh.mem = [] ∧ State.reset.tiles = []
    ∧ State.reset.roll.entries = [] ∧ State.reset.fault.queue = [] ∧ State.reset.fault.detention = []
    ∧ State.reset.fault.nextEseq = 1 ∧ State.reset.molfen.nextTseq = 1 ∧ State.reset.roll.nextJseq = 1
    ∧ State.reset.sweep.nextDseq = 1 ∧ State.reset.tx.nextRqid = 1
    ∧ (∀ t, tileOf State.reset t = {}) ∧ (∀ c, channelOf State.reset c = {}) ∧ ∀ l, laneOf State.reset l = {})
  ∧ (canonical State.reset ∧ numbered State.reset)

/-- Every step keeps the memories behind the mesh in their canonical form (03, 13). -/
def Obligations.StepKeepsCanonical : Prop :=
  ∀ s u : State, canonical s → step s = .next u → canonical u

/-- Every step keeps the next numbers of the device-wide sequences away from 0 and 0xFFFF_FFFF (00 R468). -/
def Obligations.StepKeepsNumbered : Prop :=
  ∀ s u : State, numbered s → step s = .next u → numbered u

/-! ### The Prefect (11) -/

/-- 11 R289 to R292: a token at a port with one SOURCE node and one TASK or ACCEL successor becomes a READY operation with the next
OPSEQ, the port's flow key and the token's argument, where a record is free and nothing waits before it; a capture's token goes to
the node of its profile's package. 11 R293, R295; 12 R332: a tile that waits gets the operation the dispatch rule chooses: it goes
into service there, its OPSEQ goes to the register WAITOP named, and the tile's vote for its domain is set. A Decoder unit takes
one the same way. -/
def Obligations.TokensAndDispatch : Prop :=
  (∀ (port : Fin 256) (flow arg : Nat) (s : State) (i j : Nat) (src n : Node),
      (port.val < 128 → s.time.valid = true) →
      ((port.val = 200 ∨ port.val = 201) → ∀ d, (captureOf s (flow % 4096)).det = some d → src.package = d.profile) →
      sourcesOf s port = [(i, src)] → src.succ = [j] → nodeOf s j = some n → (n.kind = .task ∨ n.kind = .accel) →
      recordFree s n.level = true → fifoOf s port = [] →
      ∃ u, exec (.tokenArrival port flow arg) s = .next u
        ∧ u.prefect.ops = s.prefect.ops ++ [{
            opseq := s.prefect.nextOpseq, node := j, level := n.level, cls := n.cls, stage := .ready
            flow := if port.val < 200 then setting s 0x8010 2 port
                    else if port.val < 202 then 0xF000 + flow % 4096 else flow % 65536
            arg := arg % 2 ^ 64, buf := 0xFFFF }]
        ∧ u.prefect.nextOpseq = (s.prefect.nextOpseq + 1) % 2 ^ 32
        ∧ u.tiles = s.tiles ∧ u.mesh = s.mesh ∧ u.roll = s.roll ∧ u.sweep = s.sweep)
  ∧ (∀ (p : Fin 60) (s : State) (l : Nat) (o : OpRec),
      freeUnit s p = some l → drained s l = false → chooseOp s l = some o →
      let q := if p.val < 52 then p.val else p.val - 52
      ∃ u, exec (.dispatch p) s = .next u
        ∧ u.prefect.ops = s.prefect.ops.map (fun x => if x.opseq = o.opseq then
            { x with stage := .inService, lunit := l, punit := q
                     ordpos := if runsInOrder s o then tabGet 0 s.prefect.nextOrd o.cls else 0 } else x)
        ∧ (p.val < 52 → (tileOf u p).curOpseq = o.opseq ∧ (tileOf u p).waiting = false ∧ (tileOf u p).done = false
            ∧ (tileOf u p).s = (setS (tileOf s p).waitSd (BitVec.ofNat 32 o.opseq) (tileOf s p)).s
            ∧ (domainOf u p).vSelf = true)
        ∧ (52 ≤ p.val → u.tiles = s.tiles))

/-- 11 R301, R302: EMIT of a token that passes its checks holds it for the operation; HOSTCTL and BUFFREE act at once; the status of
each is PSTATUS. 11 R302: BUFALLOC while a buffer is free gives one that was free, with one reference, and no other buffer
changes. -/
def Obligations.WindowAndBuffers : Prop :=
  (∀ (t : Fin 52) (h : Nat) (v : Word) (s : State) (o : OpRec), tileRuns s t = true → serviceOf s t = some o →
      let x := tileOf s t
      let dest := x.emitDst.toNat % 2 ^ 14
      let flow := x.emitDst.toNat / 2 ^ 14 % 65536
      (emitCheck s o dest flow x.emitBuf = .ok →
        ∃ u, exec (.emit t) s = .next u ∧ (tileOf u t).pstatus = .ok
          ∧ u.prefect.ops = s.prefect.ops.map (fun r => if r.opseq = o.opseq then
              { r with emits := r.emits + 1
                       out := r.out ++ [{ flow := flow, dest := dest, arg := x.emitArg, buf := x.emitBuf, from_ := o.node }] }
              else r))
      ∧ (x.task = false → ∃ u, exec (.hostctlWrite t v) s = .next u ∧ (tileOf u t).accept = v.toNat.testBit 0
          ∧ u.answer.status = .ok ∧ (tileOf u t).s = x.s)
      ∧ (h < 16384 → tabGet 0 s.prefect.bufRefs h ≠ 0 →
          ∃ u, exec (.buffree t h) s = .next u ∧ (tileOf u t).pstatus = .ok
            ∧ tabGet 0 u.prefect.bufRefs h = tabGet 0 s.prefect.bufRefs h - 1
            ∧ ∀ k, k ≠ h → tabGet 0 u.prefect.bufRefs k = tabGet 0 s.prefect.bufRefs k))
  ∧ (∀ (t : Fin 52) (s : State) (o : OpRec) (k : Nat), tileRuns s t = true → serviceOf s t = some o →
      k < 16384 → tabGet 0 s.prefect.bufRefs k = 0 →
      ∃ (u : State) (h : Nat), exec (.bufalloc t) s = .next u ∧ u.answer = ⟨.ok, h⟩ ∧ h < 16384
        ∧ tabGet 0 s.prefect.bufRefs h = 0 ∧ tabGet 0 u.prefect.bufRefs h = 1
        ∧ ∀ j, j ≠ h → tabGet 0 u.prefect.bufRefs j = tabGet 0 s.prefect.bufRefs j)

/-- 11 R297, R301: DONE on a tile, or on a Decoder unit with nothing to emit, frees the record of an operation that does not run in
order, where nothing waits in a FIFO and no operation is held back; tokens a Decoder unit emits change no tile, memory or entry.
11 R303, Table 11.5: a map write that keeps PHYS sets DRAIN from its bit 6; while DRAIN is set the limit's expiry counts and ends
the operation; a substitution that finds a free tile moves the logical tile there, VALID again and not draining. -/
def Obligations.OperationEndsAndMap : Prop :=
  (∀ (s : State) (o : OpRec), findOp s o.opseq = some o → o.out = [] → runsInOrder s o = false →
      s.prefect.portFifo = [] → s.prefect.tileFifo = [] → s.prefect.ops.all (fun x => x.stage ≠ .doneHeld) = true →
      (∀ t : Fin 52, tileRuns s t = true → serviceOf s t = some o →
        ∃ u, exec (.done t) s = .next u ∧ u.prefect.ops = s.prefect.ops.filter (fun x => x.opseq ≠ o.opseq)
          ∧ (tileOf u t).done = true ∧ (tileOf u t).curOpseq = 0 ∧ (tileOf u t).pstatus = .ok)
      ∧ ∀ p : Fin 8, s.prefect.ops.find? (fun x => x.stage == .inService && decide (48 ≤ x.lunit) && x.punit == p.val) = some o →
        ∃ u, exec (.accelOperationDone p []) s = .next u ∧ u.prefect.ops = s.prefect.ops.filter (fun x => x.opseq ≠ o.opseq)
          ∧ ∀ out, ∃ w, exec (.accelOperationDone p out) s = .next w ∧ w.tiles = s.tiles ∧ w.mesh = s.mesh ∧ w.roll = s.roll)
  ∧ ((∀ (vi : Fin 16) (l v : Nat) (s : State), writable s vi 0x8020 1 l 4 v = true → v % 64 = physOf s l →
      heldElsewhere s l (v % 64) = false → isFenced s (physUnit l (v % 64)) = false → (l < 48 → v % 64 ≤ 51) → (48 ≤ l → v % 64 ≤ 7) →
      ∃ u, exec (.dispatchMapWrite vi l v) s = .next u ∧ u.answer.status = .ok
        ∧ tabGet false u.prefect.drain l = v.testBit 6 ∧ u.prefect.phys = s.prefect.phys ∧ u.prefect.ops = s.prefect.ops)
    ∧ (∀ (l : Fin 52) (s : State) (o : OpRec),
        s.prefect.ops.find? (fun x => x.stage == .inService && x.lunit == l.val) = some o → tabGet false s.prefect.drain l = true →
        ∃ u, exec (.drainLimitExpiry l) s = .next u
          ∧ tabGet 0 u.prefect.drainEnded l = (tabGet 0 s.prefect.drainEnded l + 1) % 2 ^ 32)
    ∧ ∀ (l : Fin 48) (n : Nat) (s : State) (q : Nat) (rest : List Nat), s.prefect.subst = [] → inServiceOf s l = false →
        freeTiles s = q :: rest →
        ∃ u, exec (.substitution l [] n) s = .next u
          ∧ physOf u l = q ∧ tabGet false u.prefect.drain l = false ∧ tabGet false u.prefect.invalid l = false
          ∧ (tileOf u q).tstate = .host ∧ (tileOf u q).pc = 0 ∧ (tileOf u q).logical = l)

/-! ### Mesh and Movers (13) -/

/-- 13 R345, R347, R348: a READ or WRITE of a span of a memory whose port is open is served: the read's octets and a response wait for
its initiator; a write changes the octets of its span and no others. 13 R347, R352, R353: a response reaches its initiator with
its status and data, and its TID is free again; a timeout frees the request and quarantines its TID; the quarantine ends at its
expiry; a packet whose header is lost is counted at its router, a response among them is gone, and a READ or WRITE stays
outstanding until its initiator's timeout. 13 R356, R358, R359, Table 13.4: the spare column takes over a first failed column, the
credits of the lost packets being retired; a probe's configuration is written whole; a write of the trace mode clears the trace. -/
def Obligations.MeshPackets : Prop :=
  (∀ (init tid addr : Nat) (len : Fin 256) (age : Fin 64) (data : List Nat) (s : State),
      isIdentity init = true → nodeExists (initNode init) = true → tid < 256 → addr < 2 ^ 40 → mayIssue s init tid = true →
      addr % 256 + (len.val + 1) ≤ 256 → inMemory addr (len.val + 1) = true → portClosedAt s addr = false →
      (readPoison s addr (len.val + 1) = false →
        ∃ u, exec (.meshRequest 0 init tid addr len age data false []) s = .next u
          ∧ u.answer = ⟨.ok, valueLE (gBytes s addr (len.val + 1))⟩
          ∧ u.mesh.responses = s.mesh.responses ++ [⟨init, tid, addr, len, true, .ok, gBytes s addr (len.val + 1)⟩]
          ∧ u.mesh.outstanding = s.mesh.outstanding ++ [(init, tid, true)]
          ∧ u.mesh.mem = s.mesh.mem ∧ u.tiles = s.tiles)
      ∧ (writePoison s addr (len.val + 1) = false →
        ∃ u, exec (.meshRequest 1 init tid addr len age data false []) s = .next u
          ∧ u.answer.status = .ok
          ∧ u.mesh.responses = s.mesh.responses ++ [⟨init, tid, addr, len, false, .ok, []⟩]
          ∧ u.mesh.outstanding = s.mesh.outstanding ++ [(init, tid, false)]
          ∧ ∀ a, a < 2 ^ 40 → gByte u a = if addr ≤ a ∧ a ≤ addr + len.val then BitVec.ofNat 8 (data.getD (a - addr) 0) else gByte s a))
  ∧ ((∀ (init tid elem : Nat) (s : State) (r : Resp), s.mesh.responses.find? (fun x => x.init == init && x.tid == tid) = some r →
      s.mesh.quarantine.contains (r.init, r.tid) = false →
      ∃ u, exec (.meshResponse init tid false elem []) s = .next u
        ∧ u.answer = ⟨r.status, if r.status = .ok then valueLE r.data else 0⟩
        ∧ u.mesh.outstanding = s.mesh.outstanding.filter (fun x => !(x.1 == init && x.2.1 == tid))
        ∧ u.mesh.responses = s.mesh.responses.filter (fun x => !(x.init == init && x.tid == tid))
        ∧ u.mesh.mem = s.mesh.mem)
    ∧ (∀ (init tid elem : Nat) (w : Bool) (s : State), (s.mesh.outstanding.any (fun x => x.1 == init && x.2.1 == tid)) = true →
      ∃ u, exec (.meshTimeout init tid elem w) s = .next u ∧ u.answer.status = .timeout
        ∧ u.mesh.outstanding = s.mesh.outstanding.filter (fun x => !(x.1 == init && x.2.1 == tid))
        ∧ u.mesh.quarantine = s.mesh.quarantine ++ [(init, tid)]
        ∧ tabGet 0 u.mesh.timeouts (initNode init) = (tabGet 0 s.mesh.timeouts (initNode init) + 1) % 2 ^ 32)
    ∧ (∀ (init tid : Nat) (s : State), ∃ u, exec (.quarantineExpiry init tid) s = .next u
        ∧ (∀ x, x ∈ u.mesh.quarantine ↔ x ∈ s.mesh.quarantine ∧ x ≠ (init, tid)) ∧ u.mesh.mem = s.mesh.mem)
    ∧ ∀ (r : Fin 72) (init tid : Nat) (packet : LostPacket) (s : State),
        ∃ u, exec (.headerFlitUncorrectable r init packet) s = .next u
        ∧ tabGet 0 u.mesh.discards r = (tabGet 0 s.mesh.discards r + 1) % 2 ^ 32
        ∧ u.mesh.mem = s.mesh.mem
        ∧ (packet = .response tid → u.mesh.outstanding = s.mesh.outstanding
            ∧ ∀ x, x ∈ u.mesh.responses ↔ x ∈ s.mesh.responses ∧ ¬(x.init = init ∧ x.tid = tid))
        ∧ ∀ rd, packet = (if rd = true then .read tid else .write tid) → isIdentity init = true → nodeExists (initNode init) = true → tid < 256 →
            mayIssue s init tid = true →
            u.mesh.outstanding = s.mesh.outstanding ++ [(init, tid, rd)] ∧ u.mesh.responses = s.mesh.responses)
  ∧ ((∀ (f : Fin 9) (lost : List (Nat × Nat × Nat)) (credits : Nat) (s : State), s.mesh.failedColumn = 0xFF → f.val ≠ 8 →
      ∃ u, exec (.columnSwitchover f lost credits) s = .next u ∧ u.mesh.failedColumn = f.val
        ∧ u.mesh.sent = (s.mesh.sent + credits) % 2 ^ 64 ∧ u.mesh.retired = (s.mesh.retired + credits) % 2 ^ 64
        ∧ u.mesh.mem = s.mesh.mem)
    ∧ (∀ (vi : Fin 16) (i v : Nat) (s : State), writable s vi 0x8061 1 i 36 v = true →
        exec (.probeConfigurationWrite vi i v) s = took (putSetting s 0 0x8061 1 i v))
    ∧ ∀ (vi : Fin 16) (v : Nat) (s : State), writable s vi 0x8061 3 0 1 v = true →
        ∃ u, exec (.traceModeWrite vi v) s = .next u ∧ u.answer.status = .ok ∧ u.mesh.trace = [] ∧ setting u 0x8061 3 0 = v
          ∧ u.mesh.mem = s.mesh.mem)

/-- 13 R360, R361, Table 13.6: an allowed write of CTRL sets its fields, disabling discards the pending events into OVERRUN; KICK and
an event of the channel's own source each make one more event pending; OWNER is the Office's to write. 13 R362: a running pace
timer fires at an air time of its phase: air time is there, the periods written come into force, and each channel that names the
timer takes one event; a write reaches a stopped timer at once and a running one later. -/
def Obligations.MoverRegisters : Prop :=
  (∀ (c : Fin 64) (who w : Nat) (s : State), isIdentity who = true → mayWriteChannel s who c = true → w < 2 ^ 32 →
      let x := channelOf s c
      let kind := w / 2 % 8
      let src := w / 16 % 64
      let more := if x.enable = true ∧ x.pending < 255 then { x with pending := x.pending + 1 }
                  else { x with overrun := inc32 x.overrun }
      (x.run = none → kind ≤ 2 → (kind = 1 → src ≤ 15) → (kind = 2 → src ≠ c.val) →
        exec (.moverCtrlWrite c who w) s = took (setChannel s c { x with
          enable := w.testBit 0, evkind := kind, evsrc := src, porten := w.testBit 10
          pending := if w.testBit 0 then x.pending else 0
          overrun := if w.testBit 0 then x.overrun else (x.overrun + x.pending) % 2 ^ 32
          waitReady := w.testBit 0 && x.waitReady }))
      ∧ exec (.kick c who 1) s = took (setChannel s c more)
      ∧ (∀ e : EventSource, exec (.moverEvent ⟨c, e⟩) s = .next (if takesEvent x e = true then setChannel s c more else s))
      ∧ takesEvent x .kick = true
      ∧ (∀ t : Fin 16, takesEvent x (.timer t) = true ↔ x.evkind = 1 ∧ x.evsrc = t.val)
      ∧ (∀ k : Fin 64, takesEvent x (.channel k) = true ↔ x.evkind = 2 ∧ x.evsrc = k.val)
      ∧ (isOffice who = true → (w % 64 ≤ 51 ∨ w % 64 = 63) →
          exec (.ownerWrite c who w) s = took (setChannel s c { x with owner := w % 64 })))
  ∧ ((∀ (t : Fin 16) (n : Nat) (s : State), s.time.valid = true → s.time.airTime ≤ n → (timerOf s t).period ≠ 0 →
      n % (timerOf s t).period = (timerOf s t).phase → hasFired (64 + t) n s = false →
      ∃ u, exec (.paceTimerFire t n) s = .next u ∧ u.time.airTime = n
        ∧ timerOf u t = { timerOf s t with
            period := (timerOf s t).newPeriod.getD (timerOf s t).period, phase := (timerOf s t).newPhase.getD (timerOf s t).phase
            newPeriod := none, newPhase := none }
        ∧ ∀ c, c < 64 → (channelOf u c).pending = (channelOf s c).pending
            + (if (channelOf s c).evkind = 1 ∧ (channelOf s c).evsrc = t.val ∧ (channelOf s c).enable = true ∧ (channelOf s c).pending < 255
               then 1 else 0))
    ∧ ∀ (vi : Fin 16) (t v : Nat) (s : State),
        (writable s vi 0x8051 1 t 4 v = true →
          exec (.paceTimerWrite vi false t v) s = took (setTimer s t
            (if (timerOf s t).period = 0 then { timerOf s t with period := v } else { timerOf s t with newPeriod := some v })))
        ∧ (writable s vi 0x8051 2 t 4 v = true → v < (timerOf s t).newPeriod.getD (timerOf s t).period →
          exec (.paceTimerWrite vi true t v) s = took (setTimer s t
            (if (timerOf s t).period = 0 then { timerOf s t with phase := v } else { timerOf s t with newPhase := some v }))))

/-- 13 R364: an enabled channel with an event pending reads its next descriptor and starts it, where it is READY and well formed. 13
R365, R366: a copy of one element between the memories behind the mesh moves its octets, and the channel counts the descriptor
good and goes to the next in its ring. -/
def Obligations.MoverDescriptors : Prop :=
  (∀ (c : Fin 64) (s : State),
      let x := channelOf s c
      let a := (x.ring + 32 * x.next) % 2 ^ 40
      let raw := valueLE (gBytes s a 32)
      x.enable = true → x.pending ≠ 0 → x.run = none → a % 32 = 0 → inMemory a 32 = true → portClosedAt s a = false →
      readPoison s a 32 = false → raw.testBit 16 = true → malformed (descOf x.next a raw) = false →
      ∃ u, exec (.descriptorStart c) s = .next u
        ∧ channelOf u c = { x with pending := x.pending - 1, started := inc32 x.started, waitReady := false
                                   run := some (descOf x.next a raw) }
        ∧ u.mesh.mem = s.mesh.mem ∧ u.tiles = s.tiles ∧ ∀ k, k ≠ c.val → channelOf u k = channelOf s k)
  ∧ (∀ (c : Fin 64) (s : State) (d : Desc), (channelOf s c).run = some d →
      d.kind = 0 → d.nelem = 1 → d.cls = .ok → d.addr < 2 ^ 40 → d.src + d.esize ≤ 2 ^ 40 → d.dst + d.esize ≤ 2 ^ 40 →
      1 ≤ d.esize → d.src % 256 + d.esize ≤ 256 → d.dst % 256 + d.esize ≤ 256 → d.addr % 32 = 0 →
      52 ≤ nodeNum d.src → 52 ≤ nodeNum d.dst → 52 ≤ nodeNum d.addr →
      inMemory d.src d.esize = true → inMemory d.dst d.esize = true → inMemory d.addr 32 = true →
      portClosedAt s d.src = false → portClosedAt s d.dst = false → portClosedAt s d.addr = false →
      readPoison s d.src d.esize = false → writePoison s d.dst d.esize = false → writePoison s d.addr 32 = false →
      (d.dst + d.esize ≤ d.addr ∨ d.addr + 32 ≤ d.dst) →
      ∃ u, exec (.descriptorComplete c) s = .next u
        ∧ (channelOf u c).run = none ∧ (channelOf u c).good = inc32 (channelOf s c).good ∧ (channelOf u c).bad = (channelOf s c).bad
        ∧ (channelOf u c).next = (if (channelOf s c).ringSize ≤ d.index + 1 then 0 else d.index + 1)
        ∧ (∀ k, k < d.esize → memByte u.mesh.mem (d.dst + k) = memByte s.mesh.mem (d.src + k))
        ∧ ∀ a, (a < d.dst ∨ d.dst + d.esize ≤ a) → (a < d.addr ∨ d.addr + 32 ≤ a) →
            memByte u.mesh.mem a = memByte s.mesh.mem a)

/-! ### Power, modes and time (01, 02, 03, 14) -/

/-- 14 R385 to R388; 13 R355: a client sets its own vote and no other; the idle delay runs while no vote is set; its expiry closes the
port and begins the entry; the closed port brings RECESS or SLEEP; a vote wakes a domain in RECESS to RUN. -/
def Obligations.PowerDomains : Prop :=
  ∀ (d : Fin 65) (s : State),
    let x := domainOf s d
    (∀ (client : Fin 5) (v : Bool),
      let y := putVote client v x
      let none_ := !(y.vPrefect || y.vMovers || y.vOffice || y.vCaretaker || y.vSelf)
      exec (.domainVote d client v) s = .next (setDomain s d { y with
        delay := none_ && x.dstate == .run && x.port == .opened, wake := x.wake || (v && x.dstate ≠ .run) }))
    ∧ (x.delay = true → anyVote x = false → x.dstate = .run →
      exec (.idleDelayExpiry d) s = .next (setDomain s d { x with
        delay := false, dstate := .transition, port := .closing, entries := inc32 x.entries }))
    ∧ (x.port = .closing → s.mesh.outstanding = [] → x.idle ≠ 2 →
      exec (.portClosed d) s = .next (setDomain s d { x with port := .closed, dstate := .recess }))
    ∧ (x.port = .closing → s.mesh.outstanding = [] → x.idle = 2 → d.val < 52 →
      ∃ u, exec (.portClosed d) s = .next u ∧ (domainOf u d).dstate = .sleep ∧ (domainOf u d).port = .closed
        ∧ (tileOf u d).tstate = .reset ∧ (tileOf u d).dmem = [] ∧ (tileOf u d).imem = [])
    ∧ (∀ (poison : Bool) (n : Nat), x.wake = true → x.port = .closed → x.dstate = .recess → isFenced s (domainUnit d) = false →
      exec (.wakeComplete d poison n) s = .next (setDomain (advanceTo n s) d { x with
        wake := false, dstate := .run, port := .opened, delay := !anyVote x }))

/-- 02 R46, R47, R49; 03 R61: OFF becomes BOOT and its steps run: the timebase is invalid, no command waits in the inbox. With no
fault beyond a substitute, a bank whose image passes and a key store that can be restored, step 6 is reached with the Office pairs
that are not fenced in service; a failed condition ends BOOT in SAFE. At step 6 with 3.5 J BOOT passes, a slow store being
recorded: the module reaches STANDBY, SILENT where a cause is set or the timebase invalid, SAFE where an escalation waits. A store
that is too slow ends BOOT in SAFE. -/
def Obligations.BootSteps : Prop :=
  (∀ (f : BootFacts) (s : State), s.mode.mode = .off →
    (∃ u, exec (.auxiliaryRailValid f) s = .next u)
    ∧ (f.failed = [] →
      ∃ u, exec (.auxiliaryRailValid f) s = .next u ∧ u.time.valid = false ∧ u.power.mains = true ∧ u.molfen.inbox = []
      ∧ (f.fatal = none → f.keyStore = true → ∀ b, bootBank false f s = some b →
          u.mode.mode = .boot ∧ u.mode.bootStep = 6 ∧ u.mode.bootWarm = false ∧ u.molfen.bank = b
          ∧ u.fault.officeA = (if isFenced s (unitPair 0) = true then .fenced else .active)
          ∧ u.fault.officeB = (if isFenced s (unitPair 1) = true then .fenced
                               else if isFenced s (unitPair 0) = true then .active else .standby)
          ∧ (s.fault.detention = [] → u.tiles = []))
      ∧ (f.fatal ≠ none ∨ f.keyStore = false ∨ bootBank false f s = none → u.mode.mode = .safe ∧ u.mode.safeAtBoot = false)))
  ∧ (∀ (mJ : Nat) (slow : Bool) (s : State), s.mode.mode = .boot → s.mode.bootStep = 6 → 3500 ≤ mJ →
    ∃ u, exec (.bootPass mJ slow) s = .next u ∧ u.mode.bootStep = 0 ∧ u.power.holdup = min mJ 65535 ∧ u.power.inrush = false
      ∧ u.power.sealRec.mark = 0 ∧ (slow = true → u.fault.newest = s.fault.nextEseq)
      ∧ (s.mode.safeAtBoot = true → u.mode.mode = .safe ∧ u.mode.safeAtBoot = false)
      ∧ (s.mode.safeAtBoot = false →
          u.mode.mode = (if s.time.valid = true ∧ silentCause s = false then .standby else .silent)
          ∧ (s.time.valid = true → silentCause s = false → u.mode.fromBoot = true)
          ∧ (s.time.valid = false → u.mode.causeRef = true ∧ u.mode.silentFrom = .standby
              ∧ u.roll.entries = s.roll.entries)))
  ∧ ∀ (mJ : Nat) (s : State), s.mode.mode = .boot → s.mode.bootStep = 6 →
    ∃ u, exec (.holdupChargeTimeout mJ) s = .next u ∧ u.mode.mode = .safe ∧ u.mode.bootStep = 0
      ∧ u.power.holdup = min mJ 65535 ∧ u.fault.newest = s.fault.nextEseq

/-- 03 R68, R70, R73, R75; 02 R48, R54: a dip is counted; a loss of mains outside OFF and LAST_GASP, and outside BOOT before its step
7, begins the last gasp and is counted; the seal record is written last, over the account snapshots, and ends in OFF, or in a warm
BOOT where mains is present; an exhausted store ends in OFF without one; a loss during BOOT before step 7 ends in OFF with
everything journaled as it was. -/
def Obligations.MainsLoss : Prop :=
  ∀ s : State,
    (s.power.mains = true →
      exec .mainsDip s = .next { s with power := { s.power with dips := inc32 s.power.dips } })
    ∧ ((s.mode.mode = .standby ∨ s.mode.mode = .service ∨ s.mode.mode = .degraded ∨ s.mode.mode = .silent ∨ s.mode.mode = .safe
        ∨ (s.mode.mode = .boot ∧ s.mode.bootStep = 6)) →
      ∃ u, exec .mainsLoss s = .next u ∧ u.mode.mode = .lastGasp ∧ u.power.mains = false ∧ u.power.inrush = true
        ∧ u.power.lossCause = (if s.mode.mode = .boot then 3 else if s.time.refLost = true then 2 else 1)
        ∧ u.power.losses = inc32 s.power.losses ∧ u.power.gaspOpen = true ∧ u.power.sealRec = s.power.sealRec
        ∧ u.prefect.ops = [] ∧ u.molfen.openGroups = [] ∧ u.roll.staging = [] ∧ u.time.carePersisted = s.time.careUs)
    ∧ (∀ (e d : Nat) (f : BootFacts), s.mode.mode = .lastGasp → s.power.gaspOpen = true →
      ∃ u, exec (.sealComplete false e d f) s = .next u ∧ u.mode.mode = .off ∧ u.power.gaspOpen = false ∧ u.time.valid = false
        ∧ u.power.sealRec.mark = 0x5EA10001 ∧ u.power.sealRec.energy = e % 65536 ∧ u.power.sealRec.duration = d % 65536
        ∧ u.power.sealRec.cause = s.power.lossCause ∧ u.power.sealRec.accCrc = snapshotCrc s.power.accSnap)
    ∧ (∀ (e d : Nat) (f : BootFacts), s.mode.mode = .lastGasp → s.power.gaspOpen = true → f.fatal = none → f.failed = [] →
        f.keyStore = true →
      ∃ u, exec (.sealComplete true e d f) s = .next u ∧ u.mode.mode = .boot ∧ u.mode.bootWarm = true ∧ u.mode.bootStep = 6
        ∧ u.power.gaspOpen = false ∧ u.power.mains = true ∧ u.time.valid = false)
    ∧ (s.mode.mode = .lastGasp → s.power.gaspOpen = true →
      ∃ u, exec .holdupExhausted s = .next u ∧ u.mode.mode = .off ∧ u.mode.exhaustedAtLoss = true
        ∧ u.power.sealRec = s.power.sealRec ∧ u.power.gaspOpen = false ∧ u.time.valid = false)
    ∧ (∀ m : Saved, s.mode.mode = .boot → s.saved = some m →
      ∃ u, exec .mainsLossBeforeStep7 s = .next u ∧ u.mode.mode = .off ∧ u.power.mains = false ∧ u.saved = none
        ∧ u.roll.entries = m.roll.entries ∧ u.roll.backlog = m.roll.backlog ∧ u.cipher = m.cipher ∧ u.verdict = m.verdict
        ∧ u.power.sealRec = m.power.sealRec ∧ (s.mode.bootStep ≠ 6 → exec .mainsLoss s = .next u))

/-- 02 R39, R49, R51, R52, R55: a request that the mode has a transition for takes it: STANDBY from SERVICE or DEGRADED, and from SAFE
once its records are acknowledged, SERVICE from STANDBY where no condition of Table 2.6 is unmet (DEFERRED where one is), SAFE
from STANDBY, SERVICE, DEGRADED or SILENT. -/
def Obligations.ModeRequests : Prop :=
  ∀ (vi : Fin 16) (s : State),
    (writable s vi 0x2000 5 0 1 2 = true → silentCause s = false → (s.mode.mode = .service ∨ s.mode.mode = .degraded) →
      ∃ u, exec (.modeRequestStandby vi) s = .next u ∧ u.answer.status = .ok ∧ u.mode.mode = .standby ∧ u.mode.request = 2
        ∧ u.tiles = s.tiles ∧ u.settings = s.settings)
    ∧ (writable s vi 0x2000 5 0 1 3 = true → s.mode.mode = .standby → serviceUnmet s = 0 →
      ∃ u, exec (.modeRequestService vi) s = .next u ∧ u.answer.status = .ok
        ∧ u.mode.mode = (if degradedReasons s = 0 then .service else .degraded) ∧ u.mode.serviceDeferred = false)
    ∧ (writable s vi 0x2000 5 0 1 3 = true → s.mode.mode = .standby → serviceUnmet s ≠ 0 →
      ∃ u, exec (.modeRequestService vi) s = .next u ∧ u.answer.status = .deferred ∧ u.mode.mode = .standby
        ∧ u.mode.serviceDeferred = true)
    ∧ (writable s vi 0x2000 5 0 1 7 = true →
      (s.mode.mode = .standby ∨ s.mode.mode = .service ∨ s.mode.mode = .degraded ∨ s.mode.mode = .silent) →
      ∃ u, exec (.modeRequestSafe vi) s = .next u ∧ u.answer.status = .ok ∧ u.mode.mode = .safe
        ∧ u.mode.upBeforeSafe = (List.range 20).filter (fun l => (laneOf s l).enabled))
    ∧ (writable s vi 0x2000 5 0 1 2 = true → s.mode.mode = .safe → s.fault.safeCause = [] →
      ∃ u, exec (.modeRequestStandby vi) s = .next u ∧ u.answer.status = .ok
        ∧ u.mode.mode = (if s.time.valid = true ∧ silentCause s = false then .standby else .silent))

/-- 02 R42 to R44, R49; 15 R400: QUIET takes the module to SILENT and its release back where no reference loss holds it; a wanted
entry into SERVICE happens once nothing is unmet; the Caretaker's escalation ends in SAFE, or, in LAST_GASP, waits. -/
def Obligations.ModeChanges : Prop :=
  ∀ (vi : Fin 16) (s : State),
    (writable s vi 0x2000 6 0 1 1 = true → (s.mode.mode = .standby ∨ s.mode.mode = .service ∨ s.mode.mode = .degraded) →
      ∃ u, exec (.quietSet vi) s = .next u ∧ u.answer.status = .ok ∧ u.mode.mode = .silent ∧ u.mode.causeQuiet = true)
    ∧ (writable s vi 0x2000 6 0 1 0 = true → s.mode.mode = .silent → s.mode.causeRef = false → s.mode.silentFrom = .standby →
      ∃ u, exec (.quietRelease vi) s = .next u ∧ u.answer.status = .ok ∧ u.mode.mode = .standby ∧ u.mode.causeQuiet = false)
    ∧ (s.mode.mode = .standby → serviceUnmet s = 0 → serviceWanted s = true →
      ∃ u, exec .serviceEntry s = .next u ∧ u.mode.mode = (if degradedReasons s = 0 then .service else .degraded))
    ∧ ∀ (cause : Fin 8) (unit : Nat),
      (s.mode.mode ≠ .off → s.mode.mode ≠ .lastGasp →
        ∃ u, exec (.escalationToSafe cause unit) s = .next u ∧ u.mode.mode = .safe ∧ u.fault.newest = s.fault.nextEseq)
      ∧ (s.mode.mode = .lastGasp →
        ∃ u, exec (.escalationToSafe cause unit) s = .next u ∧ u.mode.mode = .lastGasp ∧ u.mode.safeAtBoot = true)

/-- 14 R371 to R374, Table 14.2: losing the reference invalidates the timebase and silences the module; a qualified reference is
noted, and then the timebase becomes valid again at a value written before, or at a multiple of 32; a restart stops it. -/
def Obligations.Timebase : Prop :=
  ∀ s : State,
    ((s.mode.mode = .standby ∨ s.mode.mode = .service ∨ s.mode.mode = .degraded) → s.time.valid = true →
      ∃ u, exec .referenceLost s = .next u ∧ u.mode.mode = .silent ∧ u.mode.causeRef = true ∧ u.time.valid = false
        ∧ u.time.refLost = true ∧ u.time.rimStop = true ∧ u.time.refLosses = inc32 s.time.refLosses
        ∧ u.fault.newest = s.fault.nextEseq)
    ∧ (s.mode.mode ≠ .off → s.time.refLost = true →
      exec .referenceQualified s = .next { s with time := { s.time with qualified := true } })
    ∧ (s.mode.mode ≠ .off → s.mode.mode ≠ .lastGasp → s.time.qualified = true → followsHead s = false →
      ∃ u, exec .timebaseValid s = .next u ∧ u.time.valid = true ∧ u.time.refLost = false ∧ u.time.rimStop = false
        ∧ u.time.qualified = false ∧ u.time.pendingEpoch = 0
        ∧ (s.time.pendingEpoch ≠ 0 → u.time.airTime = s.time.pendingEpoch ∧ u.time.extrap = false)
        ∧ (s.time.pendingEpoch = 0 → u.time.airTime % 32 = 0 ∧ u.time.extrap = true))
    ∧ ∀ vi : Fin 16, writable s vi 0x2010 5 0 1 1 = true → isServing s = false → followsHead s = false →
      ∃ u, exec (.timebaseRestart vi 1) s = .next u ∧ u.answer.status = .ok ∧ u.time.restart = true
        ∧ u.time.qualified = false ∧ (s.time.valid = true → u.time.valid = false)

/-- 14 R375, R376; 05 R120; 01 R30: air time is that of the firing; an armed one-shot bell disarms, bell 10 exchanging the receive
calibration, and its copy follows; bell 9 takes the snapshot; a stopped bell takes a written period at once. -/
def Obligations.Bells : Prop :=
  (∀ (n : Nat) (s : State), s.time.valid = true → s.time.airTime ≤ n → n ≠ 0 → (bellOf s 10).armed = n →
    ∃ u, exec (.bellFire 10 n) s = .next u ∧ u.time.airTime = n ∧ (bellOf u 10).armed = 0
      ∧ u.rx.cal = { s.rx.cal with
          active := s.rx.cal.shadow, shiftActive := s.rx.cal.shiftShadow, swapState := 2, last := n
          prior := s.rx.cal.active, priorShift := s.rx.cal.shiftActive })
  ∧ (∀ (n : Nat) (s : State), s.time.valid = true → s.time.airTime ≤ n → (bellOf s 9).armed = 0 → (bellOf s 9).period ≠ 0 →
      n % (bellOf s 9).period = (bellOf s 9).phase → hasFired 9 n s = false →
    ∃ u, exec (.bellFire 9 n) s = .next u ∧ u.time.airTime = n ∧ u.time.snapshotAt = n ∧ u.snap.settings = s.settings
      ∧ u.snap.roll = s.roll ∧ u.snap.sweep = s.sweep ∧ u.snap.lane = s.lane)
  ∧ (∀ (vi : Fin 16) (b v : Nat) (s : State), writable s vi 0x2030 1 b 4 v = true → 20 ≤ b →
      exec (.bellWrite vi false b v) s = took (setBell s b
        (if (bellOf s b).period = 0 then { bellOf s b with period := v } else { bellOf s b with newPeriod := some v })))
  ∧ (∀ (vi : Fin 16) (v : Nat) (s : State), writable s vi 0x4001 3 0 8 v = true → s.rx.cal.swapState = 0 →
      s.time.airTime + 64 ≤ v → (s.rx.cal.last = 0 ∨ s.rx.cal.last + 256000 ≤ v) →
      ∃ u, exec (.calibrationSwapArm vi v) s = .next u ∧ u.answer.status = .ok ∧ (bellOf u 10).armed = v
        ∧ u.rx.cal = { s.rx.cal with swapState := 1 })
  ∧ ∀ (t : Fin 10) (s : State), (swapTable s (10 + t)).swapState = 2 →
      ∃ u, exec (.calibrationCopyDone t) s = .next u ∧ swapTable u (10 + t) = { swapTable s (10 + t) with
        shadow := (swapTable s (10 + t)).active, shiftShadow := (swapTable s (10 + t)).shiftActive
        mram := (swapTable s (10 + t)).active, shiftMram := (swapTable s (10 + t)).shiftActive, swapState := 0 }

/-- 14 R383; 08 R219: a pace window notes each island's count of the window by its length; a second of the ledger clock counts,
persisting the clocks; the unpowered interval is taken once, after a cold BOOT. 03 R64, R78: a capacity test notes what it
measured, with an error record below 4.0 J; readings are noted, and a junction above 110 degrees C escalates to SAFE. -/
def Obligations.PaceLedgerAndTests : Prop :=
  ((∀ (counts : List Nat) (s : State), s.time.valid = true → s.mode.mode ≠ .boot → s.mode.mode ≠ .off →
      ∃ u, exec (.paceWindowEnd counts) s = .next u
        ∧ ∀ i c, i < 19 → counts[i]? = some c → (islandOf u i).measured = c / 16)
    ∧ (∀ s : State, s.mode.mode ≠ .off →
        ∃ u, exec .ledgerSecond s = .next u ∧ u.time.ledger = inc32 s.time.ledger ∧ u.time.ledgerPersisted = inc32 s.time.ledger
          ∧ u.time.careUs = max s.time.careUs (s.time.carePersisted + 1000000) ∧ u.time.carePersisted = u.time.careUs
          ∧ u.power.poweredSeconds = inc32 s.power.poweredSeconds ∧ u.roll = s.roll)
    ∧ ∀ (vi : Fin 16) (v : Nat) (s : State), writable s vi 0x6001 2 0 4 v = true → s.time.gap = true →
        ∃ u, exec (.unpoweredIntervalWrite vi v) s = .next u ∧ u.answer.status = .ok ∧ u.time.gap = false
          ∧ u.time.ledger = (s.time.ledger + v) % 2 ^ 32 ∧ u.roll.entries = s.roll.entries)
  ∧ (∀ s : State, s.mode.mode ≠ .off →
      (∀ mJ, 4000 ≤ mJ → exec (.holdupCapacityTest mJ) s = .next { s with power := { s.power with capacity := min mJ 65535 } })
      ∧ (∀ mJ, mJ < 4000 → ∃ u, exec (.holdupCapacityTest mJ) s = .next u ∧ u.power.capacity = mJ
          ∧ u.fault.newest = s.fault.nextEseq ∧ u.fault.nextEseq = seqNext s.fault.nextEseq)
      ∧ ∀ (m : Readings) (junction : Int), ∃ u, exec (.thermalLimit m junction) s = .next u
          ∧ u.power.baseplate = m.base ∧ u.power.junction = junction ∧ u.power.voltage = min m.voltage 65535
          ∧ u.power.powerDrawn = min m.power 65535 ∧ u.power.holdup = min m.holdup 65535
          ∧ (1100 < junction → s.mode.mode ≠ .lastGasp → u.mode.mode = .safe))

/-! ### Cipher engines and keys (10) -/

/-- 10 R275 to R278: reading PASS of a free engine takes it, of a held one answers its holder, of one that is wiped or fenced 0xFFFF;
a forced release by the Caretaker or at the hold limit begins a wipe and frees the pass; the wipe ends. 10 R268, R271 to R274: a
command that passes its checks starts an operation with the output of AES CMAC, CTR or CCM under the key, and completion writes
its tag and status; a downlink build takes one DCNT. -/
def Obligations.CipherEngines : Prop :=
  (∀ (e : Fin 8) (who : Nat) (s : State),
      let x := engineOf s e
      (isIdentity who = true → x.wiping = false → x.fenced = false → x.pass = 0 →
        exec (.hallPassRead e who) s = .next (answerOf .ok 0 (setEngine s e { x with pass := who, cmdWritten := false })))
      ∧ (isIdentity who = true → (x.wiping = true ∨ x.fenced = true) → exec (.hallPassRead e who) s = .next (answerOf .ok 0xFFFF s))
      ∧ (isIdentity who = true → x.wiping = false → x.fenced = false → x.pass ≠ 0 → exec (.hallPassRead e who) s = .next (answerOf .ok x.pass s))
      ∧ (isCaretaker who = true → ∃ u, exec (.forcedRelease e who) s = .next u ∧ u.answer.status = .ok
          ∧ (engineOf u e).pass = 0 ∧ (engineOf u e).wiping = true ∧ (engineOf u e).run = none
          ∧ (engineOf u e).status = (if x.run.isSome then .aborted else x.status)
          ∧ ∀ k, k ≠ e.val → engineOf u k = engineOf s k)
      ∧ (4 ≤ e.val → x.pass ≠ 0 → x.cmdWritten = false → ∃ u, exec (.holdLimitExpiry e) s = .next u
          ∧ (engineOf u e).pass = 0 ∧ (engineOf u e).wiping = true ∧ (engineOf u e).forcedCount = inc32 x.forcedCount)
      ∧ exec (.wipeComplete e) s = .next (setEngine s e { x with wiping := false }))
  ∧ (∀ (e : Fin 8) (who tlen : Nat) (evt : Bool) (s : State), tlen < 16 →
      let x := engineOf s e
      let started (o : Out) (op : Nat) : Prop := ∃ u r, o = .next u ∧ u.answer.status = .ok ∧ (engineOf u e).run = some r
        ∧ r.op = op ∧ r.tlen = tlen ∧ r.evt = evt ∧ (engineOf u e).cmdWritten = true ∧ (engineOf u e).pass = x.pass
      let ready_ (op : Nat) : Prop := cmdCheck s who e (cmdWord op tlen evt) = none
      (ready_ 1 → started (exec (.ccmDownlinkBuild e who tlen evt) s) 1
        ∧ ∃ u, exec (.ccmDownlinkBuild e who tlen evt) s = .next u
          ∧ (entryOf u x.keysel).dcnt = (entryOf s x.keysel).dcnt + 1 ∧ (engineOf u e).cntUsed = (entryOf s x.keysel).dcnt)
      ∧ (ready_ 2 → started (exec (.ccmUplinkVerify e who tlen evt) s) 2)
      ∧ (ready_ 3 → started (exec (.ctr e who tlen evt) s) 3)
      ∧ (ready_ 4 → started (exec (.cipherCmac e who tlen evt) s) 4)
      ∧ (ready_ 4 → portClosedAt s x.src = false → inMemory x.src x.len = true → readPoison s x.src x.len = false →
          (keyOf s x.keysel).poison = false →
          ∃ u r, exec (.cipherCmac e who tlen evt) s = .next u ∧ (engineOf u e).run = some r ∧ r.result = .ok ∧ r.out = []
            ∧ r.tag = (aesCmac (keyOf s x.keysel).key (octetsOf (gBytes s x.src x.len))).take (4 * tlen))
      ∧ ∀ r, x.run = some r → r.out = [] → r.evt = false → r.build = none →
          exec (.cipherOperationComplete e) s = .next (setEngine s e { x with
            status := r.result, run := none, tagOut := if r.tag.isEmpty then x.tagOut else r.tag ++ zeros (16 - r.tag.length) }))

/-- 10 R276, R277; 07 R187: the owner that writes its own identity to PASS starts a wipe and frees the pass, while BUSY is set that
write is answered BUSY; any other value, or any other writer, leaves the pass and sets the refused-write flag; the Marker never
releases its passes. -/
def Obligations.PassRelease : Prop :=
  ∀ (e : Fin 8) (who v : Nat) (s : State), who ≠ 0 → who < 65536 → v < 65536 →
    let x := engineOf s e
    (who ≠ markerIdentity → x.pass = who → v = who → x.run = none → exec (.hallPassRelease e who v) s = took (setEngine s e { x with
      wiping := true, iv := [], tagOut := [], run := none, pass := 0, cmdWritten := false }))
    ∧ (who ≠ markerIdentity → x.pass = who → v = who → x.run ≠ none → exec (.hallPassRelease e who v) s = .next (answering .busy s))
    ∧ (x.pass ≠ who ∨ v ≠ who ∨ who = markerIdentity → exec (.hallPassRelease e who v) s = took (setEngine s e { x with refusedWrite := true }))

/-- 10 R281 to R283: a key load whose wrapped block opens puts the key into its slot, LOADED; an erasure empties a slot that is not
BOUND; a management key restarts the replay counters of its VI; a block with no key in it takes a new owner. -/
def Obligations.KeyWrites : Prop :=
  ∀ (vi : Fin 16) (el len v : Nat) (s : State) (k : List Nat),
    let h := octField len v 0 3
    let loaded : KeySlot := { kstate := .loaded, wide := decide (k.length = 32), key := k }
    let opens (with_ target : Nat) : Prop := blockForm len v = true ∧ (keyOf s (loadKeyOf with_)).kstate ≠ .empty
      ∧ (keyOf s target).kstate ≠ .bound ∧ aesUnwrap (keyOf s (loadKeyOf with_)).key (wrappedOf len v) = some k
    (writable s vi 0x7010 1 0 len v = true → keyAssigned s vi h = true → opens vi h →
      exec (.keyLoad vi len v) s = took (setKey s h loaded))
    ∧ (writable s vi 0x7010 2 h 1 v = true → (keyOf s h).kstate ≠ .bound → exec (.keyErase vi h v) s = took (setKey s h {}))
    ∧ (writable s vi 0x7011 1 el len v = true → opens 0 (loadKeyOf el) →
      exec (.viLoadKey vi el len v) s = took (setKey s (loadKeyOf el) loaded))
    ∧ (writable s vi 0x7011 2 el len v = true → opens vi (managementKeyOf el) →
      ∃ u, exec (.viManagementKey vi el len v) s = .next u ∧ u.answer.status = .ok ∧ keyOf u (managementKeyOf el) = loaded
        ∧ tabGet 0 u.molfen.rxCnt el = 0 ∧ tabGet 0 u.molfen.txCnt el = 0
        ∧ ∀ j, j ≠ managementKeyOf el → keyOf u j = keyOf s j)
    ∧ (writable s vi 0x7000 1 el 1 v = true → s.cipher.keys.any (fun p => p.1 / 1024 == el && p.2.kstate ≠ .empty) = false →
      exec (.blockOwnerWrite vi el v) s = took (putSetting s 0 0x7000 1 el v))

/-! ### Lanes (04) -/

/-- 04 R100 to R102, R108: a populated cage's lane starts sending frames with its taps reset and a transmit latency from 300 to 320
ns; a recovered clock ends LOL; in HUNT each 30,720 bits confirm the candidate comma or go back; two more commas lock the lane,
ending REF on a working lane; LOS clears with the signal. 04 R103, R108: a loss of frame, declared at the fourth missed comma in a
row, or a loss of signal ends LOCKED; a loss of frame ends ACTIVE and counts in its own counter. -/
def Obligations.LaneStates : Prop :=
  (∀ (l : Fin 20) (s : State),
      let x := laneOf s l
      (lanesRun s l = true → (cageOf s l).present = true → (cageOf s l).txDisable = false → x.enabled = false →
        ∃ u, exec (.laneEnable l) s = .next u ∧ (laneOf u l).enabled = true ∧ (laneOf u l).pre = 0 ∧ (laneOf u l).post = 4
          ∧ 300000 ≤ (laneOf u l).txLatency ∧ (laneOf u l).txLatency ≤ 320000
          ∧ ∀ k, k ≠ l.val → laneOf u k = laneOf s k)
      ∧ (x.los = false → exec (.clockRecovered l) s = .next (setLane s l { x with lol := false, commas := 0, hunt := none }))
      ∧ (∀ (codes : List Nat) (n : Nat), codes.length = 3072 → x.los = false → x.lol = false → x.locked = false →
        ∃ u, exec (.laneFrameReceived l codes n) s = .next u ∧ laneOf u l = (match x.hunt with
          | some p => if commaPositions codes = [p] then { x with commas := min 3 (x.commas + 1) }
                      else { x with hunt := none, commas := 0 }
          | none => { x with hunt := (commaPositions codes).head?, commas := if commaPositions codes = [] then 0 else 1 }))
      ∧ (x.enabled = true → x.los = false → x.lol = false → x.locked = false → x.commas = 3 →
        ∃ u, exec (.commaLock l) s = .next u ∧ (laneOf u l).locked = true ∧ (laneOf u l).rxSeen = false
          ∧ (l.val < 12 → s.time.valid = true → u.mode.causeRef = false)
          ∧ ∀ k, k ≠ l.val → laneOf u k = laneOf s k)
      ∧ ((cageOf s l).present = true → exec (.signalRestored l) s = .next (setLane s l { x with los := false })))
  ∧ (∀ (l : Fin 20) (s : State),
      let x := laneOf s l
      let loses (o : Out) : Prop := ∃ u, o = .next u ∧ (laneOf u l).locked = false ∧ (laneOf u l).active = false
        ∧ tabGet 0 (laneOf u l).counters 5 = (tabGet 0 x.counters 5 + 1) % 2 ^ 32
      (x.locked = true → 4 ≤ x.missed → loses (exec (.lossOfFrame l) s))
      ∧ (∀ (codes : List Nat) (n : Nat), codes.length = 3072 → x.los = false → x.lol = false → x.locked = true → 4 ≤ x.missed →
        loses (exec (.laneFrameReceived l codes n) s))
      ∧ ∀ los lol : Bool, (los || lol) = true → ∃ u, exec (.lossOfSignal l los lol) s = .next u ∧ (laneOf u l).locked = false
        ∧ (laneOf u l).los = (x.los || los) ∧ (laneOf u l).lol = (x.lol || lol))

/-- 04 R84 to R91; 09 R263: a frame sent carries its air time's sequence number, the lane's flags, its valid mask and 3,072 codes; a
frame received whole counts, and its comma or its absence is noted. -/
def Obligations.LaneFrames : Prop :=
  (∀ (l : Fin 20) (n : Nat) (s : State), s.time.valid = true → (laneOf s l).enabled = true → n % 32 = 0 → s.time.airTime ≤ n →
    ∃ u, exec (.laneFrameSend l n) s = .next u ∧ u.time.airTime = n ∧ (laneOf u l).txFrame = n / 32 % 256
      ∧ (laneOf u l).tapPending = none
      ∧ ∃ codes, codes.length = 3072 ∧ .laneFrame l (n / 32 % 256)
          ((if (laneOf s l).active then 1 else 0) + 2 + 4 * (if (laneOf s l).locked then 1 else 0))
          (if l.val < 16 then (if (laneOf s l).active then 0xFFFF else 0) else if s.stack.branches = [] then 0 else 0xFFFF)
          codes ∈ u.outbox)
  ∧ ∀ (l : Fin 20) (codes : List Nat) (n : Nat) (s : State), (laneOf s l).locked = true → (laneOf s l).los = false →
    (laneOf s l).lol = false → (laneOf s l).missed < 4 → codes.length = 3072 →
    ∃ u, exec (.laneFrameReceived l codes n) s = .next u
      ∧ tabGet 0 (laneOf u l).counters 9 = (tabGet 0 (laneOf s l).counters 9 + 1) % 2 ^ 32
      ∧ (laneOf u l).rxSeen = true
      ∧ (laneOf u l).missed = (match (decodeChars (laneOf s l).rxDisp codes).1[64]? with
          | some c => if c.k = true ∧ c.codeErr = false ∧ c.octet = 0xBC then 0 else (laneOf s l).missed + 1
          | none => (laneOf s l).missed + 1)

/-- 04 R93 to R97, R109, Table 4.5; 05 R137; 18 R457: the message a command names leaves the inbox: HEADID and HEADSTAT are noted
for the head of the lane, ALIGN gives the one-way delay from the stamp of the uplink frame it names, and a REPLY settles the
command it echoes; an OK to a GAIN brings, from its AT_g on, the gain and its compensation; a member's OK counts for the
directory. 04 R93, R105 to R107: a far end's TAPREQ waits for a frame boundary; a TAPREP ends the request it answers and names the
tap's value; a step is asked for where none is open, or the step that cost the lock is undone; an unanswered request is given up
and counted; a command unanswered for eight frames goes again unchanged, twice at most, and then leaves an error record; the
second's CRC errors set the alarm. -/
def Obligations.LaneControl : Prop :=
  (∀ s : State,
      (∀ (l : Fin 16) (body : Nat) (m : Nat × Nat × Nat × Nat), oldestMsg l 0x20 25 (fun _ b => b == body) s = some m →
        ∃ u, exec (.headid l body) s = .next u ∧ (laneOf u l).headId = true ∧ (laneOf u l).serial = hidSerial body
          ∧ (laneOf u l).inbox = (laneOf s l).inbox.erase m ∧ ∀ h, headOfLane s l = some h → (headOf u h).identity = body)
      ∧ (∀ (l : Fin 16) (body : Nat) (m : Nat × Nat × Nat × Nat), oldestMsg l 0x21 23 (fun _ b => b == body) s = some m →
        ∃ u, exec (.headstat l body) s = .next u ∧ u.rx = s.rx ∧ u.tx = s.tx ∧ (laneOf u l).inbox = (laneOf s l).inbox.erase m
          ∧ ∀ h, headOfLane s l = some h → (headOf u h).headStat = body)
      ∧ (∀ (l : Fin 20) (q v : Fin 256) (delta : Fin 3072) (n : Nat) (m : Nat × Nat × Nat × Nat),
          oldestMsg l 0x22 4 (fun _ b => octAt 4 b 0 == q.val && octAt 4 b 1 == v.val && octField 4 b 2 3 == delta.val) s = some m →
        let arr := tabGet 0 (laneOf s l).arrivals v
        ∃ u, exec (.align l q v delta n) s = .next u
          ∧ (∀ c, frameCount (laneOf s l) v = some c → (laneOf u l).delayKnown = true ∧ (laneOf u l).delay
              = (roundHalfEven (6 * ((arr : Int) - 16 * (32 * (arr / 512 - (arr / 512 % 256 + 256 - q) % 256) : Nat)) - delta.val) 12).toNat)
          ∧ (frameCount (laneOf s l) v = none → laneOf u l = { laneOf s l with inbox := (laneOf s l).inbox.erase m }))
      ∧ (∀ (l : Fin 20) (ty seq : Fin 256) (st : Status) (n : Nat) (m : Nat × Nat × Nat × Nat),
          oldestMsg l 0x3D 3 (fun _ b => octAt 3 b 0 == ty.val && octAt 3 b 1 == seq.val && statusOf (octAt 3 b 2) == st) s = some m →
        (∀ c : LaneCmd, l.val < 16 → (laneOf s l).cmds.find? (fun c => c.type == ty.val && c.seq == seq.val) = some c →
          ∃ u, exec (.reply l ty seq st n) s = .next u
            ∧ (∀ y ∈ (laneOf u l).cmds, ¬(y.type = ty.val ∧ y.seq = seq.val))
            ∧ ∀ (h : Nat) (g : GainChange), ty.val = 1 → st = .ok → headOfLane s l = some h →
                s.rx.gainPending.filter (fun g => g.lane == l.val && g.seq == seq.val) = [g] →
                (⟨g.antenna, g.atG, g.gain, tabGet 0 s.rx.comp g.antenna + tabGet 0 s.rx.headGain g.antenna - g.gain⟩ : GainStep)
                  ∈ u.rx.gainSteps)
        ∧ ∀ (tag home dseq k src : Nat) (t : List (Nat × Nat × Nat × Nat × Nat)), 16 ≤ l.val → ty.val = 0x42 → st = .ok →
            isHead s = true → s.stack.dirPending = (tag, home, dseq, k, src) :: t →
          ∃ u, exec (.reply l ty seq st n) s = .next u
            ∧ u.stack.dirPending = (if k = 1 then t else (tag, home, dseq, k - 1, src) :: t))
      ∧ ∀ (l : Fin 20) (ty seq v : Fin 256) (st : Status) (delta : Fin 3072) (n : Nat) (post up : Bool), (laneOf s l).inbox = [] →
          exec (.align l ty v delta n) s = .next s ∧ exec (.reply l ty seq st n) s = .next s
          ∧ exec (.tapreq l seq post up) s = .next s ∧ exec (.taprep l seq ty v) s = .next s
          ∧ exec (.time l n delta 0) s = .next s)
  ∧ (∀ (l : Fin 20) (s : State),
      let x := laneOf s l
      (∀ (seq : Fin 256) (post up : Bool) (m : Nat × Nat × Nat × Nat),
          oldestMsg l 0x10 2 (fun q b => q == seq.val && octAt 2 b 0 == b2n post && toSigned 8 (octAt 2 b 1) == (if up then 1 else -1)) s
            = some m →
        ∃ u, exec (.tapreq l seq post up) s = .next u
          ∧ (laneOf u l).tapPending = some (seq.val, if post then 1 else 0, if up then 1 else -1))
      ∧ (∀ (seq result value : Fin 256) (m : Nat × Nat × Nat × Nat) (r : TapReq),
          oldestMsg l 0x11 3 (fun _ b => octAt 3 b 0 == seq.val && octAt 3 b 1 == result.val && octAt 3 b 2 == value.val) s = some m →
        x.tapReq = some r → r.seq = seq.val →
        ∃ u, exec (.taprep l seq result value) s = .next u ∧ (laneOf u l).tapReq = none
          ∧ (laneOf u l).farTaps = (if r.tap = 0 then value * 256 + x.farTaps % 256 else x.farTaps / 256 * 256 + value)
          ∧ (laneOf u l).lastStep = (if result.val = 0 then some (r.tap, r.step) else x.lastStep))
      ∧ (∀ post up : Bool, x.locked = true → x.enabled = true → x.tapReq = none → 64 ≤ x.sinceTap → setting s 0x3000 3 0 = 1 →
        (x.undoStep = false → 64 ≤ x.sinceLock → ∃ u, exec (.tapAdaptation l post up) s = .next u
          ∧ (laneOf u l).tapReq = some { seq := x.txSeq, tap := if post then 1 else 0, step := if up then 1 else -1 }
          ∧ (laneOf u l).sinceTap = 0)
        ∧ ∀ (tap : Nat) (step : Int), x.undoStep = true → x.lastStep = some (tap, step) →
            ∃ u, exec (.tapAdaptation l post up) s = .next u
              ∧ (laneOf u l).tapReq = some { seq := x.txSeq, tap := tap, step := -step } ∧ (laneOf u l).undoStep = false)
      ∧ (∀ r : TapReq, x.tapReq = some r → 64 ≤ r.waited →
        exec (.tapreqAbandoned l) s = .next (setLane s l { x with
          tapReq := none, counters := tabSet 0 x.counters 8 ((tabGet 0 x.counters 8 + 1) % 2 ^ 32) }))
      ∧ (∀ (k : Fin 16) (seq : Fin 256) (c : LaneCmd), k.val = l.val →
          x.cmds.find? (fun c => c.seq == seq.val && decide (8 ≤ c.waited)) = some c →
        ∃ u, exec (.commandResend k seq) s = .next u
          ∧ (c.resends < 2 → u.outbox = .laneMsg l c.type c.seq c.body c.len :: s.outbox
            ∧ (laneOf u l).cmds = x.cmds.map (fun y => if y.seq = c.seq ∧ y.type = c.type then
                { y with waited := 0, resends := y.resends + 1 } else y))
          ∧ (2 ≤ c.resends → (laneOf u l).cmds = x.cmds.filter (fun y => !(y.seq == c.seq && y.type == c.type))
            ∧ u.fault.newest = s.fault.nextEseq))
      ∧ ∃ u, exec (.crcAlarmEvaluation l) s = .next u
          ∧ (laneOf u l).crcAlarm = decide (setting s 0x3000 2 0 < x.crcSecond) ∧ (laneOf u l).crcSecond = 0)

/-- 04 R110 to R113: a switchover that misses its deadline is marked; a revert moves the head back to its own lane where that lane is
ready; a backed head is written where no spare backs it; cages come, go and are read, one whose module does not suit with its
transmitter off and an error record. -/
def Obligations.SparesAndCages : Prop :=
  (∀ (h : Fin 12) (s : State), (headOf s h).switching = true →
    ∃ u, exec (.switchoverDeadline h) s = .next u ∧ headOf u h = { headOf s h with lateSwitch := true })
  ∧ (∀ (vi : Fin 16) (j v h : Nat) (s : State), writable s vi 0x3030 2 j 1 v = true →
      (List.range 12).find? (fun h => activeLane s h == some (12 + j)) = some h → canSwitch s (12 + j) h = true →
      ∃ u, exec (.spareRevert vi j v) s = .next u ∧ u.answer.status = .ok ∧ (headOf u h).target = h
        ∧ (headOf u h).switching = true ∧ (laneOf u (12 + j)).active = false)
  ∧ (∀ (vi : Fin 16) (j v : Nat) (s : State), writable s vi 0x3030 1 j 1 v = true → (v = 0xFF ∨ spareOf s v = none) →
      exec (.backedHeadWrite vi j v) s = took (startBacking (12 + j) v (putSetting s 0 0x3030 1 j v)))
  ∧ ∀ (c : Fin 22) (n : Nat) (s : State),
      (∀ ok : Bool, (cageOf s c).present = false → ∃ u, exec (.cageInsertion c ok n) s = .next u
        ∧ cageOf u c = { cageOf s c with present := true, txDisable := !ok, identity := n % 256 ^ 256 }
        ∧ (ok = false → u.fault.newest = s.fault.nextEseq))
      ∧ (∃ u, exec (.cageRemoval c) s = .next u ∧ cageOf u c = { cageOf s c with present := false, txDisable := false }
        ∧ (c.val < 20 → (laneOf u c).locked = false ∧ (laneOf u c).los = true ∧ (laneOf u c).enabled = false)
        ∧ (20 ≤ c.val → tabGet false u.molfen.linkUp (c - 20) = false))
      ∧ ((cageOf s c).present = true → exec (.cageDiagnosticsRead c n) s = .next (setCage s c { cageOf s c with diag := n % 256 ^ 10 }))

/-! ### Receive chain, Sweep, captures and verdicts (05, 06, 07) -/

/-- 05 R115, R123, R125, R131, R135, R136, R142 to R144: bin samples follow one another into the history store; a gain window notes
each antenna's level; at the end of an averaging period a floor with 10 % of its samples takes their mean, fresh, and another is
STALE; the period's setting restarts the floors; loop settings wait for their bell, and the big stack turns its own away. -/
def Obligations.ReceiveChain : Prop :=
  (∀ (s : State) (k : Nat) (poison : List (Nat × Nat × Nat)), s.rx.running = true →
    let n := s.rx.histNext
    let t := advanceTo (max (256 * n) k) s
    let t := if periodOver t then endFloorPeriod t else t
    let r := histRow t n (binOutputs t n)
    ∃ u, exec (.binSample n k poison) s = .next u ∧ u.rx.histNext = n + 1 ∧ u.roll = s.roll ∧ u.lane = s.lane
      ∧ tabGet {} u.rx.history (n % 1000) = { r with beams := formBeams t r }
      ∧ (s.time.valid = true → u.time.airTime = max s.time.airTime (max (256 * n) k)))
  ∧ (∀ (s : State) (k : Nat), s.rx.running = true → setting s 0x4005 2 0 = 1 →
      ∃ u, exec (.headGainWindow k) s = .next u ∧ u.rx.wideSum = [] ∧ u.rx.wideFrom = s.rx.wideFrom + 6400000
        ∧ u.rx.headGain = s.rx.headGain ∧ u.rx.history = s.rx.history
        ∧ ∀ a, a < 192 → tabGet 0 u.rx.wideband a =
            (let w := tabGet (0, 0) s.rx.wideSum a
             if w.1 = 0 then tabGet 0 s.rx.wideband a else clampInt (-32768) 32767 (levelOf w.2 (w.1 * 32767 ^ 2))))
  ∧ (∀ (s : State) (k : Nat), s.rx.running = true → periodOver s = true →
      let total := periodLength s
      ∃ u, exec (.floorPeriodEnd s.rx.periodFrom total k) s = .next u ∧ u.rx.periodFrom = s.rx.periodFrom + total ∧ u.rx.floorRuns = []
        ∧ ∀ b, b < 512 → tabGet 0 u.rx.fraction b = beamQualifying s b * 100 / total
          ∧ (∀ a, a < 192 →
            let q := antQualifying s a b
            tabGet false u.rx.antFresh (512 * a + b) = decide (total ≤ 10 * q)
            ∧ tabGet 0 u.rx.antFloor (512 * a + b) = (if total ≤ 10 * q then meanLevel (tabGet 0 s.rx.antSum (512 * a + b)) q
                else tabGet 0 s.rx.antFloor (512 * a + b)))
          ∧ ∀ k, k < 32 →
            let q := beamQualifying s b
            tabGet false u.rx.beamFresh (32 * b + k) = decide (total ≤ 10 * q)
            ∧ tabGet 0 u.rx.beamFloor (32 * b + k) = (if total ≤ 10 * q then meanLevel (tabGet 0 s.rx.beamSum (32 * b + k)) q
                else tabGet 0 s.rx.beamFloor (32 * b + k)))
  ∧ (∀ (vi : Fin 16) (v : Nat) (s : State), writable s vi 0x4006 1 0 1 v = true →
      ∃ u, exec (.averagingPeriodWrite vi v) s = .next u ∧ u.answer.status = .ok ∧ setting u 0x4006 1 0 = v
        ∧ u.rx.antFresh = [] ∧ u.rx.beamFresh = [] ∧ u.rx.floorRuns = [] ∧ u.rx.antFloor = s.rx.antFloor)
  ∧ ∀ (vi : Fin 16) (which : Fin 5) (el v : Nat) (s : State),
      let idx := if which = 0 then 0x4003 else 0x4004
      let sub := if which = 0 then 1 else which.val
      let away := bigStack s = true ∧ (which = 1 ∨ which = 4) ∧ (followsHead s = true ∨ (which = 1 ∧ v = 0))
      writable s vi idx sub el (if which = 2 ∨ which = 4 then 2 else 1) v = true →
      (away → ∃ u, exec (.loopSettingWrite vi which el v) s = .next u ∧ u.answer.status = .refused ∧ u.rx = s.rx
        ∧ u.settings = s.settings)
      ∧ (¬away → which ≠ 4 → exec (.loopSettingWrite vi which el v) s
          = took (stageSetting s (if which = 0 then el / 2 else el) idx sub el v))
      ∧ (¬away → which = 4 → ∃ u, exec (.loopSettingWrite vi which el v) s = .next u ∧ u.answer.status = .ok
          ∧ setting u 0x4004 4 el = v ∧ u.rx = s.rx)

/-- 06 R152, R154 to R156, R158, R160, R162, R168; 05 R134: a surviving hit becomes a detection with the next DSEQ, its request waits
and its loop is frozen; a round refuses a lone request for which a cause stands, and grants one that nothing refuses and the
ceiling allows a FREE capture (which one is a free choice, log entry 5). -/
def Obligations.Detections : Prop :=
  (∀ (p : Fin 2) (beam : Fin 32) (bin : Fin 512) (peakAt n : Nat) (s : State) (h : Hit),
    s.sweep.hits.find? (fun h => h.p == p.val && h.beam == beam.val && h.bin == bin.val && h.peakAt == peakAt) = some h →
    sweepRuns s = true → h.done = false → windowDone s h = true → suppressor s h = none →
    ∃ u d, exec (.detectionRaised p beam bin peakAt n) s = .next u ∧ u.sweep.requests = s.sweep.requests ++ [d]
      ∧ d.dseq = s.sweep.nextDseq ∧ d.peakAt = peakAt ∧ d.beam = beam.val ∧ d.bin = bin.val ∧ d.slot = p.val
      ∧ d.floor = h.floor ∧ d.measured = h.margin ∧ u.sweep.nextDseq = seqNext s.sweep.nextDseq
      ∧ tabGet none u.sweep.ring (s.sweep.ringCount % 65536) = some d ∧ u.sweep.ringCount = s.sweep.ringCount + 1
      ∧ (streamOf u (loopKey p h.mcode beam bin)).frozen = (streamOf s (loopKey p h.mcode beam bin)).frozen + 1)
  ∧ ∀ (r : Nat) (s : State) (d : Detection), s.time.valid = true → s.time.airTime ≤ 256 * r → s.rx.staged = [] →
      s.sweep.requests = [d] →
      (∀ cause, refusedAtOnce s d = some cause →
        ∃ u, exec (.admissionRound r) s = .next u ∧ u.sweep.requests = [] ∧ u.sweep.lastRound = r % 2 ^ 32
          ∧ u.sweep.captures = s.sweep.captures
          ∧ tabGet 0 u.sweep.cRefuse d.bin = (tabGet 0 s.sweep.cRefuse d.bin + 1) % 2 ^ 32)
      ∧ ∀ k, refusedAtOnce s d = none → runningCount s < min 4096 (effectiveCeiling s) →
        spanFull s d = false → k < 4096 → (captureOf s k).stage = 0 →
        ∃ u c, exec (.admissionRound r) s = .next u ∧ u.sweep.requests = [] ∧ u.sweep.lastRound = r % 2 ^ 32
          ∧ (captureOf s c).stage = 0 ∧ c < 4096
          ∧ captureOf u c = { stage := 1, grantAt := 256 * r, rap := d.rap
                              det := some { d with capid := c, outcome := 1, round := r % 2 ^ 32 } }

/-- 06 R163 to R170; 07 R179, R181, R183, R188: a capture whose preamble window is available takes its weights; each block of sixteen
combined samples enters its ring, none over a block not released; a recompute replaces the weights, BUSY within 256 samples of the
last and RANGE for a window it cannot have; decisions bring its frame, the early look-up once TAG and FCNT are committed, and its
close at the last symbol, with END_AT as predicted, or where profile code abandons it. 06 R162, R171; 07 R179, R183, R189 to R192,
R196, R199: a capture that overruns its ring, reaches its life limit with no END_AT predicted, or loses samples it still needs
ends at once, and one that is closed has its verdict, the earliest of its entry first: the capture is FREE again and a verdict
with the next VSEQ of its VI is held; a pending request whose window is lost is refused. -/
def Obligations.Captures : Prop :=
  (∀ (c : Fin 4096) (s : State) (d : Detection),
      let x := captureOf s c
      x.det = some d →
      (∀ (poison : List (Nat × Nat × Nat)) (branches : List (List Nat)) (n : Nat), x.stage = 1 → windowLost s d = false →
          windowReady s d = true →
        let t := poisonWords poison (advanceTo n s)
        let ants := includedAntennas t d
        let used := (if hasBranches s c then branches else []).filter (fun b => !tooFlagged d (branchStream b))
        ∃ u, exec (.captureWeightsReady c poison branches n) s = .next u ∧ (captureOf u c).stage = 2
          ∧ (captureOf u c).ant = ants.length ∧ (captureOf u c).stacked = !used.isEmpty
          ∧ (∀ i a : Nat, ants[i]? = some a → (captureOf u c).excluded.testBit a = false
              ∧ tabGet (0, 0) (captureOf u c).weights a = ((captureWeights t c d ants used)[i]?).getD (0, 0))
          ∧ ∀ a, a < 192 → ants.contains a = false → (captureOf u c).excluded.testBit a = true
              ∧ tabGet (0, 0) (captureOf u c).weights a = (0, 0))
      ∧ (∀ (poison : List (Nat × Nat × Nat)) (branches : List (List Nat)), x.stage = 2 →
          firstSample d + x.samples + 15 ≤ newestSample s (2 ^ d.mcode) →
          sampleLost s d.mcode (windowStart d + x.samples * (256 / 2 ^ d.mcode)) = false → x.blocks < x.released + 32 →
        let l := (List.range 16).map (combinedAt (poisonWords poison s) x d branches)
        ∃ u, exec (.captureBlockComplete c poison branches) s = .next u ∧ (captureOf u c).blocks = x.blocks + 1
          ∧ (captureOf u c).samples = x.samples + 16 ∧ (captureOf u c).rap = (x.rap || l.any (·.2))
          ∧ ∀ (i : Nat) (w : Nat × Bool), l[i]? = some w → tabGet 0 (captureOf u c).ring ((16 * x.blocks + i) % 512) = w.1)
      ∧ (∀ (symbols : List (Int × Int)) (last : Nat) (branches : List (List Nat)), x.stage = 2 →
        let n := symbols.length
        let soon := x.lastRecompute.any (fun k => decide (x.samples < k + 256)) = true
        let out := n = 0 ∨ 1024 < n ∨ x.samples ≤ last ∨ last + 1 < n
          ∨ sampleLost s d.mcode (windowStart d + (last + 1 - n) * (256 / 2 ^ d.mcode)) = true
        ∃ u, exec (.weightRecompute c ⟨symbols, last, branches⟩) s = .next u
          ∧ u.answer.status = (if soon then .busy else if out then .range else .ok)
          ∧ captureOf u c = (if soon ∨ out then x else recomputed s x d symbols (last + 1 - n) branches)
          ∧ (¬soon → ¬out → (captureOf u c).refresh = min 255 (x.refresh + 1) ∧ (captureOf u c).lastRecompute = some x.samples))
      ∧ (∀ (q : Decisions) (n : Nat), x.stage = 2 →
        let y := takeDecisions (advanceTo n s) x d q
        ∃ u, exec (.tagAndFcntCommitted c q n) s = .next u ∧ u.roll.entries = s.roll.entries ∧ (captureOf u c).stage = 2
          ∧ (captureOf u c).frame = y.frame ∧ (captureOf u c).soft = y.soft ∧ (captureOf u c).predicted = y.predicted
          ∧ (x.tagDone = false → y.frame.tagged = true → vendorFormat s d.profile = true → headerAccepted s d.profile y.frame = true →
            (captureOf u c).tagDone = true ∧ (captureOf u c).early
              = (slotByTag s y.frame.tag).map (fun i => (i, (entryOf s i).identity, replays s i d.dseq y.frame.fcnt))))
      ∧ ∀ (abandoned : Bool) (q : Decisions) (n : Nat), x.stage = 2 →
        let y := takeDecisions (advanceTo n s) x d q
        ∃ u, exec (.captureClose c abandoned q n) s = .next u ∧ (captureOf u c).frame = y.frame
          ∧ (captureOf u c).stage = (if abandoned = true ∨ closes s y d = true then 3 else 2)
          ∧ (abandoned = true ∨ closes s y d = true → (captureOf u c).closed = !abandoned
            ∧ ∀ n, y.predicted = some n → (captureOf u c).endAt = n))
  ∧ ((∀ (c : Fin 4096) (s : State) (d : Detection), (captureOf s c).det = some d →
      let x := captureOf s c
      let ends (o : Out) (detail : Nat) : Prop := ∃ u h, o = .next u ∧ captureOf u c = {}
        ∧ (tabGet [] u.verdict.held d.vi).getLast? = some h ∧ h.record.cls = .incomplete ∧ h.record.detail = detail
        ∧ h.record.dseq = d.dseq ∧ h.record.vseq = tabGet 1 s.verdict.nextVseq d.vi
        ∧ tabGet 1 u.verdict.nextVseq d.vi = seqNext (tabGet 1 s.verdict.nextVseq d.vi)
      (x.stage = 2 → x.released + 32 ≤ x.blocks → ends (exec (.captureRingOverrun c) s) 4)
      ∧ (∀ n, (x.stage = 1 ∨ x.stage = 2) → x.predicted = none → s.time.valid = true → s.time.airTime ≤ n →
          d.peakAt + lifeLimit s d ≤ n → ends (exec (.lifeLimit c n) s) 1)
      ∧ (x.stage = 1 → windowLost s d = true → ends (exec (.historyOverwritten false c) s) 3)
      ∧ (x.stage = 2 → sampleLost s d.mcode (windowStart d + x.samples * (256 / 2 ^ d.mcode)) = true →
          ends (exec (.historyOverwritten false c) s) 3)
      ∧ ∀ (latency : Nat) (crowd : Bool), x.stage = 3 → (x.forwarded = false ∨ x.forced ≠ 0) → comesAfter s c x d = false →
          ∃ u h, exec (.verdictIssued c latency crowd) s = .next u ∧ captureOf u c = {}
            ∧ (tabGet [] u.verdict.held (verdictVi s d (judge s x d))).getLast? = some h
            ∧ h.record.cls = (judge s x d).cls ∧ h.record.detail = (judge s x d).detail ∧ h.record.dseq = d.dseq
            ∧ h.record.vseq = tabGet 1 s.verdict.nextVseq (verdictVi s d (judge s x d))
            ∧ h.octets = (if delivers (judge s x d) then (judge s x d).plain else [])
            ∧ tabGet 1 u.verdict.nextVseq (verdictVi s d (judge s x d))
              = seqNext (tabGet 1 s.verdict.nextVseq (verdictVi s d (judge s x d))))
    ∧ ∀ (n : Nat) (s : State) (d : Detection), s.sweep.requests.find? (fun d => d.dseq == n) = some d → windowLost s d = true →
      ∃ u, exec (.historyOverwritten true n) s = .next u
        ∧ u.sweep.requests = s.sweep.requests.filter (fun x => x.dseq ≠ d.dseq))

/-- 07 R196, R200; 16 R413, R427: one notification to a collector carries the verdicts from its cursor on, their records in its
octets, which read as sent; at the resend interval the cursor first goes back to the oldest verdict sent and not acknowledged; a
new collector starts at the oldest held. -/
def Obligations.VerdictDelivery : Prop :=
  (∀ (vi : Fin 16) (c : Fin 4) (s : State) (h : Held) (l : Nat), canNotify s vi c = true → s.verdict.notices = [] →
      heldOf s vi = [h] → notifyLane s (collector s vi c / 65536) = some l →
      let octets := molfenMsg (managementKey s vi) 0x10 vi (txCntOf s vi + 1) (verdictsBody h.record.vseq [h])
      (cursorOf s vi c = h.record.vseq →
        ∃ u, exec (.verdictBatchSend vi c) s = .next u ∧ u.outbox = .verdicts vi c l h.record.vseq 1 octets :: s.outbox
          ∧ heldOf u vi = [{ h with sent := true }] ∧ cursorOf u vi c = 0 ∧ txCntOf u vi = txCntOf s vi + 1)
      ∧ (h.sent = true → tabGet 0 s.verdict.acked (4 * vi.val + c.val) ≠ h.record.vseq →
        ∃ u, exec (.resendInterval vi c) s = .next u ∧ u.outbox = .verdicts vi c l h.record.vseq 1 octets :: s.outbox))
  ∧ ∀ (vi : Fin 16) (c v : Nat) (s : State), writable s vi 0x4040 1 c 18 v = true → collector s vi c ≠ v →
      ∃ u, exec (.collectorWrite vi c v) s = .next u ∧ u.answer.status = .ok ∧ collector u vi c = v
        ∧ cursorOf u vi c = (if v = 0 then 0 else ((heldOf s vi).head?).elim 0 (fun h => h.record.vseq))

/-! ### The Roll (08) -/

/-- 08 R209 to R213: an enrolment block that passes Table 8.5 fills a FREE slot, in the next generation, and binds its key; a
retirement leaves the slot FREE in its generation; a replacement does both at once. 08 R217, R218: a re-key gives the entry a key
that is free to bind, DSTART and a fresh UCNT of 0, and keeps the old key and counter as the slot's shadow; a shadow that covers
no capture goes, its key wiped. -/
def Obligations.Enrolments : Prop :=
  (∀ (vi : Fin 16) (slot v : Nat) (s : State),
      let b := enrolmentOf v
      let e := entryOf s slot
      let good := enrolRange s b = true ∧ keyAssigned s vi b.keyh = true ∧ (keyOf s b.keyh).kstate ≠ .empty
        ∧ heldAlready s b = false ∧ homedElsewhere s b.tag = false ∧ placeableAt s slot b.tag = true
        ∧ e.migrating = false ∧ boundToOther s slot b.keyh = false ∧ inShadow s b.keyh = false
      let enrolled (u : State) : Prop :=
        (entryOf u slot).identity = b.identity ∧ (entryOf u slot).tag = b.tag ∧ (entryOf u slot).status = .active
        ∧ (entryOf u slot).vi = vi.val ∧ (entryOf u slot).profile = b.profile ∧ (entryOf u slot).keyh = b.keyh
        ∧ (entryOf u slot).ucnt = b.ufloor ∧ (entryOf u slot).dcnt = b.dstart ∧ (entryOf u slot).charge = b.charge
        ∧ (entryOf u slot).fresh = (b.ufloor == 0) ∧ (entryOf u slot).touch = s.time.ledger ∧ (entryOf u slot).credits = 0
        ∧ (entryOf u slot).gen = (e.gen + 1) % 65536 ∧ (keyOf u b.keyh).kstate = .bound
      (writable s vi 0x6011 1 slot 32 v = true → good → e.status = .free →
        ∃ u, exec (.enrol vi slot v) s = .next u ∧ u.answer.status = .ok ∧ enrolled u
          ∧ ∀ k, k ≠ slot → entryOf u k = entryOf s k ∧ accountOf u k = accountOf s k)
      ∧ (writable s vi 0x6011 2 slot 1 v = true → e.status ≠ .free → e.migrating = false → s.tx.bursts = [] → s.tx.deferred = [] →
        ∃ u, exec (.retire vi slot v) s = .next u ∧ u.answer.status = .ok ∧ entryOf u slot = { gen := e.gen }
          ∧ (inShadow s e.keyh = false → (keyOf u e.keyh).kstate = .loaded)
          ∧ ∀ k, k ≠ slot → entryOf u k = entryOf s k ∧ accountOf u k = accountOf s k)
      ∧ (writable s vi 0x6011 3 slot 32 v = true → good → e.status ≠ .free → s.tx.bursts = [] → s.tx.deferred = [] →
        ∃ u, exec (.replace vi slot v) s = .next u ∧ u.answer.status = .ok ∧ enrolled u
          ∧ ∀ k, k ≠ slot → entryOf u k = entryOf s k))
  ∧ ((∀ (vi : Fin 16) (slot v : Nat) (s : State),
      let k := octField 8 v 0 3
      let d := octField 8 v 4 7
      let e := entryOf s slot
      writable s vi 0x6011 4 slot 8 v = true → d ≠ 0xFFFFFFFF → keyAssigned s vi k = true → (keyOf s k).kstate = .loaded →
      inShadow s k = false → e.status ≠ .free → e.migrating = false → tabGet none s.roll.shadows slot = none → shadowCount s < 4096 →
      ∃ u x, exec (.rekey vi slot v) s = .next u ∧ u.answer.status = .ok ∧ (entryOf u slot).keyh = k ∧ (entryOf u slot).dcnt = d
        ∧ (entryOf u slot).ucnt = 0 ∧ (entryOf u slot).fresh = true ∧ (entryOf u slot).rekeyShadow = true
        ∧ (entryOf u slot).identity = e.identity
        ∧ ((burstList s).filter (unbuilt s slot) = [] →
            (entryOf u slot).status = (if e.status = .exhausted then .active else e.status))
        ∧ tabGet none u.roll.shadows slot = some x ∧ x.keyh = e.keyh ∧ x.ucnt = e.ucnt ∧ x.fresh = e.fresh
        ∧ (keyOf u k).kstate = .bound ∧ ∀ j, j ≠ slot → entryOf u j = entryOf s j)
    ∧ ∀ (slot : Fin 262144) (s : State) (x : Shadow), tabGet none s.roll.shadows slot = some x → x.covered = [] →
      ∃ u, exec (.rekeyShadowRelease slot) s = .next u ∧ tabGet none u.roll.shadows slot = none
        ∧ keyOf u x.keyh = {} ∧ entryOf u slot = { entryOf s slot with
            rekeyShadow := false, lowCharge := (entryOf u slot).lowCharge }
        ∧ ∀ j, j ≠ slot.val → entryOf u j = entryOf s j)

/-- 08 R467: the seven writes check the slice, the value, the FREE slot and then the owning rule; a FREE slot answers UNKNOWN with no
effect and no touch. An enrolment fills a FREE slot, a replacement or a re-key of one is REFUSED; the reads of a FREE slot. -/
def Obligations.FreeSlots : Prop :=
  ∀ (vi : Fin 16) (slot v : Nat) (s : State), slot < 262144 → portsServe s 0x6010 = true → s.molfen.openGroups = [] →
    let turns (c : Instr) (allowed : Bool) (own : State → State × Status) : Prop :=
      (inSlice s vi slot = false → exec c s = .next (answering .access s))
      ∧ (inSlice s vi slot = true → allowed = false → exec c s = .next (answering .range s))
      ∧ (inSlice s vi slot = true → allowed = true → (entryOf s slot).status = .free → exec c s = .next (answering .unknown s))
      ∧ (inSlice s vi slot = true → allowed = true → (entryOf s slot).status ≠ .free → exec c s = answered (own s))
    let b := enrolmentOf v
    let k := octField 8 v 0 3
    let r := snapView s
    turns (.statusWrite vi slot v) (decide (v < 4)) (writeStatus slot v)
    ∧ turns (.chargeSet vi slot v) (decide (v < 2 ^ 32)) (writeCharge slot v)
    ∧ turns (.uplinkCounterRaise vi slot v) (decide (v < 2 ^ 32)) (writeRaise slot v)
    ∧ turns (.chargeModelAssign vi slot v) (decide (v < 64)) (writeModel slot v)
    ∧ turns (.creditPlanAssign vi slot v) (decide (v < 64)) (writePlan slot v)
    ∧ turns (.retire vi slot v) (v == 1) (writeRetire slot)
    ∧ turns (.grant vi slot v) (decide (v < 2 ^ 16)) (writeGrant slot v)
    ∧ (inSlice s vi slot = true → (entryOf s slot).status = .free →
        (v < 256 ^ 32 → enrolRange s b = true → keyAssigned s vi b.keyh = true → (keyOf s b.keyh).kstate ≠ .empty →
          exec (.replace vi slot v) s = .next (answering .refused s)
          ∧ (heldAlready s b = false → homedElsewhere s b.tag = false → placeableAt s slot b.tag = true →
              (entryOf s slot).migrating = false → boundToOther s slot b.keyh = false → inShadow s b.keyh = false →
              ∃ u, exec (.enrol vi slot v) s = .next u ∧ u.answer.status = .ok ∧ (entryOf u slot).status = .active))
        ∧ (v < 256 ^ 8 → octField 8 v 4 7 ≠ 0xFFFFFFFF → keyAssigned s vi k = true → (keyOf s k).kstate ≠ .empty →
          exec (.rekey vi slot v) s = .next (answering .refused s)))
    ∧ (snapWithheld s = false → (entryOf r slot).status = .free →
        readObject s vi 0x6010 3 slot = (.unknown, 0, 0) ∧ readObject s vi 0x6010 6 slot = (.unknown, 0, 0)
        ∧ readObject s vi 0x6010 7 slot = (.unknown, 0, 0) ∧ readObject s vi 0x6010 8 slot = (.unknown, 0, 0)
        ∧ readObject s vi 0x6010 1 slot = (.ok, 64, packEntry (entryOf r slot) % 256 ^ 64)
        ∧ readObject s vi 0x6010 2 slot = (.ok, 1, 0))

/-- 08 R211, R216, R221, R222, R225, R235: a station's write to an entry that is not FREE touches it, then changes its one field; the
other slots, the keys and the other fields it names stay. -/
def Obligations.EntryWrites : Prop :=
  ∀ (vi : Fin 16) (slot v : Nat) (s : State),
    let e := entryOf s slot
    let p := touchedPair s slot
    let does (o : Out) (f : Entry → Entry) : Prop := ∃ u, o = .next u ∧ u.answer.status = .ok
      ∧ entryOf u slot = { f p.1 with lowCharge := (entryOf u slot).lowCharge }
      ∧ (entryOf u slot).touch = s.time.ledger ∧ u.cipher = s.cipher
      ∧ ∀ k, k ≠ slot → entryOf u k = entryOf s k ∧ accountOf u k = accountOf s k
    e.status ≠ .free →
      (writable s vi 0x6010 2 slot 1 v = true → e.status ≠ .exhausted → (v = 1 ∨ v = 2) →
        does (exec (.statusWrite vi slot v) s) (fun x => { x with status := if v = 1 then .active else .suspended }))
      ∧ (writable s vi 0x6010 4 slot 4 v = true →
        does (exec (.chargeSet vi slot v) s) (fun x => { x with charge := v, chfrac := 0, overdrawn := x.overdrawn && v == 0 }))
      ∧ (writable s vi 0x6010 5 slot 4 v = true → (e.fresh = true ∨ e.ucnt < v) →
        does (exec (.uplinkCounterRaise vi slot v) s) (fun x => { x with ucnt := v, fresh := false }))
      ∧ (writable s vi 0x6010 6 slot 1 v = true → does (exec (.chargeModelAssign vi slot v) s) (fun x => { x with cmodel := v }))
      ∧ (writable s vi 0x6010 7 slot 1 v = true → does (exec (.creditPlanAssign vi slot v) s) (fun x => { x with cplan := v }))
      ∧ (writable s vi 0x6011 5 slot 2 v = true → p.1.credits + p.1.held + v ≤ 65534 → v ≤ budgetLeft s e.vi →
        does (exec (.grant vi slot v) s) (fun x => { x with credits := x.credits + v }))

/-- 08 R207, R221, R225, R226; 15 R395: the grant budget rises by the value written; a slice write that leaves sound slices sets them;
the daily sweep touches every entry a day old; the applier moves the oldest journal records into the image; a poisoned word is
repaired from the journaled entry. 15 R407; 03 R69, R71: the hourly update notes every unit's state and LIFEUSED and counts its
hour in service (a tile that ageing fences reads fenced); a staged Roll record drained joins the ring of 131,072 records in MRAM. -/
def Obligations.RollUpkeep : Prop :=
  (∀ s : State,
      (∀ (vi : Fin 16) (t v : Nat), writable s vi 0x6000 3 t 4 v = true →
        ∃ u, exec (.grantBudgetAdd vi t v) s = .next u ∧ u.answer.status = .ok
          ∧ budgetLeft u t = (budgetLeft s t + v) % 2 ^ 32 ∧ u.roll.entries = s.roll.entries)
      ∧ (∀ (vi : Fin 16) (size : Bool) (w n : Nat), writeCheck s vi 0x6000 (if size then 2 else 1) w 2 n = none →
          sliceCheck s [⟨size, w, n⟩] = none →
        exec (.sliceWrite vi [(size, w, n)]) s = took (putSetting s 0 0x6000 (if size then 2 else 1) w n))
      ∧ (∃ u, exec .dailySweep s = .next u ∧ (∀ k, (entryOf s k).status ≠ .free → 86400 ≤ sinceTouch s (entryOf s k) →
          (entryOf u k).touch = s.time.ledger) ∧ u.cipher = s.cipher ∧ u.tx = s.tx)
      ∧ (∀ n, exec (.journalApply n) s = .next { s with roll := { s.roll with
          image := (s.roll.backlog.take n).foldl imageRecord s.roll.image, backlog := s.roll.backlog.drop n } })
      ∧ ∀ (slot : Fin 262144) (w : Fin 8), ∃ u, exec (.rollPoisonRepair slot w true) s = .next u
          ∧ entryOf u slot = { journaledEntry s slot with
              sigStore := (entryOf s slot).sigStore, rekeyShadow := (entryOf s slot).rekeyShadow }
          ∧ ∀ k, k ≠ slot.val → entryOf u k = entryOf s k)
  ∧ (∀ s : State,
      (∀ (life : List (Nat × Nat)) (n : Nat), ∃ u, exec (.reportCardUpdate life n) s = .next u ∧ ∀ k, isUnit k = true →
        (k / 256 ≠ 1 → (cardOf u k).cstate = cardState s k)
        ∧ (∀ p, life.find? (fun p => p.1 == k) = some p → (cardOf u k).lifeUsed = p.2 % 65536)
        ∧ (cardOf u k).hours = (if cardState s k = 0 then inc32 (cardOf s k).hours else (cardOf s k).hours))
      ∧ (∃ u, exec .stagingBufferDrain s = .next u ∧ u.roll.staging = [] ∧ u.roll.entries = s.roll.entries
        ∧ ∀ (c : Nat) (r : JRec), c < 6 → s.roll.staging = [(c, .roll r)] → u.roll.backlog = s.roll.backlog.drop (s.roll.backlog.length + 1 - 131072) ++ [r]))

/-! ### The downlink (09) -/

/-- 09 R237 to R240; 08 R224: a station's request that Table 9.1 allows, for an endpoint that is not FREE, is answered with the next
RQID and the status of its record; for the next receive window of an endpoint that can take it, it waits, DEFERRED, its cost held.
01 R20; 09 R239, R244, R246, R258, R259: a built burst starts in the tick of its earliest t_s(h), and neither before nor after it;
its start, its end and its missed build deadline leave their marks in its request's record; a block is judged once, and counts
each mask segment that an emitting antenna exceeds. -/
def Obligations.Downlinks : Prop :=
  (∀ (vi : Fin 16) (len v : Nat) (s : State),
      let slot := octField len v 0 3
      let mode := octAt len v 4
      let n := octAt len v 6
      let e := entryOf s slot
      writeCheck s vi 0x5030 1 0 len v = none → inSlice s vi slot = true → mode ≤ 1 → octAt len v 5 ≤ 1 → n ≤ 96 → len = 16 + n →
      octAt len v 7 ≤ 15 → (mode = 0 → octAt len v 7 = 0 ∧ octField len v 8 15 = 0) → e.status ≠ .free →
      (isVendor e.profile = true ∨ (isCustomer e.profile = true ∧ (packageOf s e.profile).inst.raw = false)) →
      ∃ u, exec (.downlinkRequest vi len v) s = .next u ∧ u.answer.data = s.tx.nextRqid
        ∧ u.tx.nextRqid = seqNext s.tx.nextRqid
        ∧ (∃ r, reqOf u s.tx.nextRqid = some r ∧ r.status = u.answer.status ∧ r.slot = slot ∧ r.origin = .station)
        ∧ (mode = 0 → e.status = .active → e.lastAt ≠ 0 → e.migrating = false → e.defer ≠ 15 → requestCost n ≤ e.credits →
            u.answer.status = .deferred ∧ (entryOf u slot).held = e.held + requestCost n
            ∧ (entryOf u slot).defer = e.defer + 1
            ∧ (∃ d, u.tx.deferred = s.tx.deferred ++ [d] ∧ d.rqid = s.tx.nextRqid ∧ d.slot = slot
                ∧ d.payload = (List.range n).map (fun i => octAt len v (16 + i)))
            ∧ ∀ k, k ≠ slot → entryOf u k = entryOf s k))
  ∧ ((∀ (q : Nat) (s : State) (b : Burst) (r : ReqRec), findBurst s q = some b → reqOf s q = some r →
      let notSent := some { r with outcome := .refused, status := .incomplete, burst := .notSent, endAt := 0 }
      (b.inAir = false → b.frame = none → ∃ u, exec (.buildDeadline q) s = .next u ∧ reqOf u q = notSent)
      ∧ (b.inAir = false → b.frame ≠ none → exec (.buildDeadline q) s = .next s)
      ∧ (∀ n, b.inAir = false → s.time.valid = true → s.time.airTime ≤ n →
        ((n : Int) < startTick b → exec (.burstStart q n) s = .next (advanceTo n s))
        ∧ ((n : Int) = startTick b → b.frame ≠ none → ∃ u, exec (.burstStart q n) s = .next u ∧ u.time.airTime = n
            ∧ reqOf u q = some { r with burst := .inAir } ∧ ∀ h, h < 12 → b.heads.testBit h = true → .burst q h ∈ u.outbox)
        ∧ (startTick b < (n : Int) ∨ ((n : Int) = startTick b ∧ b.frame = none) →
            ∃ u, exec (.burstStart q n) s = .next u ∧ reqOf u q = notSent))
      ∧ (b.inAir = true → ∃ u, exec (.burstEnd q) s = .next u
        ∧ reqOf u q = some { r with outcome := .served, status := .ok, burst := .sent, endAt := b.end16 / 16 }))
    ∧ ∀ (r k : Nat) (s : State), (∀ n, s.tx.maskLast = some n → n < r) →
        let t := advanceTo (max (256 * (r + 1)) k) s
        ∃ u, exec (.maskBlockEnd r k) s = .next u ∧ u.tx.maskLast = some r
          ∧ ∀ i, i < 16 → tabGet 0 u.tx.maskBlocks i =
              if (emittingAntennas t).any (fun a => (exceededSegments t a r).contains i) = true
              then (tabGet 0 s.tx.maskBlocks i + 1) % 2 ^ 32 else tabGet 0 s.tx.maskBlocks i)

/-- 09 R248, R251, R255, R261: staged replies, ramp profiles no burst uses, coefficient sets of unit gain and their selections, and
the duty settings are written; a smaller depth cuts what the bucket holds. -/
def Obligations.DownlinkSettings : Prop :=
  ∀ (vi : Fin 16) (i v : Nat) (s : State),
    (writable s vi 0x5030 2 i 265 v = true → 1 ≤ replyLength v → replyLength v ≤ 255 →
      exec (.stagedReplyWrite vi i v) s = took (putSetting s vi 0x5030 2 i (v - v % 256 ^ (255 - replyLength v))))
    ∧ (writable s vi 0x5020 1 i 66 v = true → rampOk v = true → rampBusy s i = false →
      ∃ u, exec (.rampProfileWrite vi i v) s = .next u ∧ u.answer.status = .ok ∧ setting u 0x5020 1 i = v ∧ u.tx = s.tx)
    ∧ (writable s vi 0x5010 1 i 136 v = true → tapSum v = 32768 →
      exec (.coefficientSetWrite vi false i v) s = took (putSetting s 0 0x5010 1 i v))
    ∧ (writable s vi 0x5010 2 i 1 v = true → tapSum (setting s 0x5010 1 v) = 32768 →
      exec (.coefficientSetWrite vi true i v) s = took (putSetting s 0 0x5010 2 i v))
    ∧ (writable s vi 0x5022 2 i 4 v = true →
      ∃ u, exec (.dutyBucketWrite vi true i v) s = .next u ∧ u.answer.status = .ok ∧ setting u 0x5022 2 i = v
        ∧ tabGet 0 u.tx.tokens i ≤ v * 65536)
    ∧ (writable s vi 0x5022 1 i 2 v = true →
      ∃ u, exec (.dutyBucketWrite vi false i v) s = .next u ∧ u.answer.status = .ok ∧ setting u 0x5022 1 i = v)

/-! ### Faults (15) -/

/-- 15 R391 to R393, R398 to R400, R412; 17 R445: corrections are counted on the unit's card; a record whose handling takes too long,
or a Prefect that leaves work waiting, escalates; an acknowledgement takes the records up to its number, SAFE ones by their own. -/
def Obligations.ErrorRecords : Prop :=
  ∀ s : State,
    let running := s.mode.mode = .boot ∨ s.mode.mode = .standby ∨ s.mode.mode = .service ∨ s.mode.mode = .degraded ∨ s.mode.mode = .silent
    (∀ (unit n : Nat) (b : Bool), isUnit unit = true →
      ∃ u, exec (.scrub unit b n []) s = .next u ∧ (n ≠ 0 → (cardOf u unit).corr = ((cardOf s unit).corr + n) % 2 ^ 32)
        ∧ u.mesh.mem = s.mesh.mem)
    ∧ (∀ (q : Nat) (r : ErrRec), s.fault.queue.find? (fun r => r.eseq == q) = some r → r.handled = 0 → running →
      ∃ u, exec (.errorRecordHandlingLimit q) s = .next u ∧ u.mode.mode = .safe ∧ u.fault.newest = s.fault.nextEseq)
    ∧ (workWaits s = true → running → ∃ u, exec .prefectWatchdog s = .next u ∧ u.mode.mode = .safe)
    ∧ (∀ (vi : Fin 16) (v : Nat), writable s vi 0x9000 6 0 4 v = true → eseqAbove v s.fault.newest = false →
      ∃ u, exec (.errorAcknowledge vi v) s = .next u ∧ u.answer.status = .ok ∧ u.fault.lastAck = v
        ∧ (∀ r, r ∈ u.fault.queue ↔ r ∈ s.fault.queue ∧
            (if r.severity = .safe then r.eseq ≠ v else eseqAbove r.eseq v = true)))
    ∧ (∀ (vi : Fin 16) (v : Nat), writable s vi 0x9030 2 0 1 v = true → v ≠ 0 →
      ∃ u, exec (.relayTest vi v) s = .next u ∧ u.answer.status = .ok ∧ u.fault.relayTest = v ∧ u.fault.major = false
        ∧ u.fault.minor = false)
    ∧ (∃ u, exec .relayTestEnd s = .next u ∧ u.fault.relayTest = 0 ∧ u.fault.queue = s.fault.queue)
    ∧ ∀ (vi : Fin 16) (a v : Nat), writable s vi 0x9061 3 a 1 v = true →
      ∃ u, exec (.accountMarkAcknowledge vi a v) s = .next u ∧ u.answer.status = .ok
        ∧ tabGet false u.fault.unsealed a = false ∧ tabGet false u.fault.unverified a = false ∧ tabGet 0 u.fault.lost a = 0
        ∧ ∀ k, k ≠ a → tabGet false u.fault.unsealed k = tabGet false s.fault.unsealed k

/-- 15 R401 to R406: an Office pair that misses its heartbeat or compares unequal is fenced; the standby pair takes over, closing open
write groups; a reloaded pair that passes stands by; a tested substitute is chosen; a released unit leaves the detention list, and
so do the bad descriptors when cleared. -/
def Obligations.FencesAndPairs : Prop :=
  ∀ s : State,
    (∀ p, activePair s = some p → ∃ u, exec .officeHeartbeatLoss s = .next u ∧ officePair u p = .fenced
      ∧ u.fault.newest = s.fault.nextEseq)
    ∧ (∀ p : Fin 2, officePair s p ≠ .fenced → ∃ u, exec (.lockstepMismatch p) s = .next u ∧ officePair u p = .fenced)
    ∧ (officeInService s = false → s.fault.officeA = .standby → ∃ u, exec .officeFailover s = .next u
      ∧ u.fault.officeA = .active ∧ u.molfen.openGroups = [])
    ∧ (∀ p : Fin 2, officePair s p = .fenced → tabGet 0 s.fault.officeTwice (p + 2) = 0 →
      ∃ u, exec (.officePairReloadAndTest p true) s = .next u ∧ officePair u p = .standby ∧ isFenced u (unitPair p) = false)
    ∧ (∀ (p : Fin 52) (l : Nat) (t : List (Nat × Nat)), s.prefect.subst = (l, 0) :: t → (freeTiles s).contains p.val = true →
      exec (.substituteTest p true) s = .next { s with prefect := { s.prefect with subst := (l, p.val + 1) :: t } })
    ∧ (∀ (vi : Fin 16) (v : Nat), writable s vi 0x9020 3 0 2 v = true → isFenced s v = true →
      ∃ u, exec (.fenceRelease vi v true) s = .next u ∧ u.answer.status = .ok ∧ isFenced u v = false ∧ u.fault.released = v)
    ∧ ∀ (vi : Fin 16) (v : Nat), writable s vi 0x9020 4 0 1 v = true →
      ∃ u, exec (.clearBadDescriptors vi v) s = .next u ∧ u.answer.status = .ok
        ∧ ∀ d, d ∈ u.fault.detention ↔ d ∈ s.fault.detention ∧ ∃ unit ref, d = .unit unit ref

/-! ### Management and stack (16, 17, 18) -/

/-- 16 R414, R415, R417 to R421, R434: a message in form, acceptable and for no emergency object alone is taken by the Office unless
it must wait for another of its VI: reads are answered in one reply; a group whose check fails is journaled, applies nothing and
answers each item; one write answers as its own rule does; the 17th that waits is BUSY. 07 R200: an acceptable acknowledgement
from a collector's own address takes the verdicts up to its VSEQ, and where that collector is the only one they leave the ring;
one that names no verdict held, or comes from no collector, is counted. -/
def Obligations.RequestsAndAcknowledgements : Prop :=
  (∀ (d : Datagram) (aid : Aid) (s : State) (m : Msg) (token : Nat) (l : List Item),
      readMsg d.octets = some m → m.type = 0x01 → emergencyOf d m = none → officePort s d.port = true → acceptable s d m = true →
      readBody m.body = some (token, l) →
      let t := takeCnt m.vi m.cnt (leaveInbox d s)
      let c := checkAll t false m.vi l
      let ahead := (ofVi s m.vi (aheadOf d s.molfen.inbox)).length
      let replies (u : State) (gst tseq : Nat) (out : List (Status × Nat × Nat)) : Prop :=
        u.outbox = .reply d.port d.src d.vlan m.vi (txCntOf s m.vi + 1) token gst tseq out
          (wireOf d.port (molfenMsg (managementKey s m.vi) 0x02 m.vi (txCntOf s m.vi + 1) (replyBody token gst tseq out))) :: s.outbox
        ∧ u.settings = s.settings ∧ u.roll.entries = s.roll.entries
        ∧ tabGet 0 u.molfen.rxCnt m.vi = max (tabGet 0 s.molfen.rxCnt m.vi) m.cnt
      (ahead < 16 → mustWait s d m = true → exec (.request d none aid) s = .next (keepWaiting d s))
      ∧ (16 ≤ ahead → txCntOf s m.vi + 1 < 2 ^ 48 → ∃ u, exec (.request d none aid) s = .next u
          ∧ replies u 2 0xFFFFFFFF (l.map (fun _ => (.busy, 0, 0))))
      ∧ (ahead < 16 → mustWait s d m = false → txCntOf s m.vi < txLimit →
        (l.any isWrite = false →
          let out := c.map (fun x => (x.getD .ok, 0, 0))
          ∃ u, exec (.request d none aid) s = .next u ∧ u.molfen.journal = s.molfen.journal
            ∧ replies u 0 0xFFFFFFFF (serveReads t m.vi (replySize out) (l.zip out)))
        ∧ (l.any isWrite = true → c.any (·.isSome) = true →
          ∃ u out, exec (.request d none aid) s = .next u ∧ u.molfen.nextTseq = seqNext s.molfen.nextTseq
            ∧ replies u 2 s.molfen.nextTseq out ∧ out.length = l.length
            ∧ ∀ (k : Nat) (i : Item), l[k]? = some i → isWrite i = true →
                out[k]? = some ((c.getD k none).getD .refused, 0, 0))
        ∧ ∀ (i : Item) (row : ObjRow), l = [i] → isWrite i = true → i.idx ≠ 0xF000 → c = [none] → findObj i.idx i.sub = some row →
          ∃ u, exec (.request d none aid) s = .next u
            ∧ u.answer.status = (objWrite aid row m.vi i.el i.len i.v (openGroup m.vi m.cnt token 1 t)).2.1))
  ∧ (∀ (d : Datagram) (s : State) (m : Msg),
      readMsg d.octets = some m → m.type = 0x12 → officePort s d.port = true → acceptable s d m = true → mustWait s d m = false →
      (∀ c i : Nat, d.port ≠ 2 → m.body.length = 4 → c ∈ collectors s m.vi → collector s m.vi c = d.src →
          placeIn (heldOf s m.vi) (fromBE m.body) = some i → ackedCount s m.vi c ≤ i →
        ∃ u, exec (.vack d) s = .next u ∧ tabGet 0 u.verdict.acked (4 * m.vi + c) = fromBE m.body
          ∧ (collectors s m.vi = [c] → heldOf u m.vi = (heldOf s m.vi).drop (i + 1)))
      ∧ (d.port = 2 ∨ m.body.length ≠ 4 ∨ (∀ c ∈ collectors s m.vi, collector s m.vi c ≠ d.src)
          ∨ placeIn (heldOf s m.vi) (fromBE m.body) = none →
        ∃ u, exec (.vack d) s = .next u ∧ u.verdict = s.verdict
          ∧ tabGet 0 u.molfen.vackIgnored m.vi = (tabGet 0 s.molfen.vackIgnored m.vi + 1) % 2 ^ 32))

/-- 16 R427, R432, R433: a good RS-485 frame reaches the inbox, a broken one is counted; Ethernet answers ARP, neighbour discovery and
echo itself and takes a whole datagram for its port; the link follows its state; a new address takes effect. 16 R434; 17 R446 to
R448: the Caretaker answers the emergency status on RS-485 without a MAC; under VI 0 with one it forces SILENT, or resets the
module to a warm BOOT; a write under another VI, or that is not accepted, it refuses and counts. -/
def Obligations.PortsAndEmergency : Prop :=
  (∀ s : State,
      (∀ (octets : List Nat), s.mode.mode ≠ .off → octets ≠ [] →
        let f := unstuff octets
        2 < f.length → crc16 (f.take (f.length - 2)) = fromBE (f.drop (f.length - 2)) →
        exec (.rs485FrameReceived octets) s = .next { s with molfen := { s.molfen with
          inbox := s.molfen.inbox ++ [{ port := 2, octets := f.take (f.length - 2) }] } })
      ∧ (∀ (octets : List Nat), s.mode.mode ≠ .off → octets ≠ [] →
        let f := unstuff octets
        (f.length ≤ 2 ∨ crc16 (f.take (f.length - 2)) ≠ fromBE (f.drop (f.length - 2))) →
        exec (.rs485FrameReceived octets) s = .next { s with molfen := { s.molfen with
          serviceDiscards := inc32 s.molfen.serviceDiscards } })
      ∧ (s.mode.mode ≠ .off → exec .rs485FrameTimeout s = .next { s with molfen := { s.molfen with
          serviceDiscards := inc32 s.molfen.serviceDiscards } })
      ∧ (∀ (l : Fin 2) (k : Fin 5) (src dport vlan : Nat) (octets : List Nat), ethernetUp s l = true →
        (k.val < 3 → exec (.ethernetFrameReceived l k src dport vlan false octets) s
          = .next { s with outbox := .ethernet l k :: s.outbox })
        ∧ (k = 3 → dport = setting s 0x1020 4 0 →
          ∃ p, exec (.ethernetFrameReceived l k src dport vlan false octets) s = .next { s with molfen := { s.molfen with
            inbox := s.molfen.inbox ++ [{ port := p, src := src, vlan := vlan, octets := octets }] } } ∧ p.val = l.val))
      ∧ (∀ l : Fin 2, exec (.ethernetLinkDown l) s = .next { s with molfen := { s.molfen with
          linkUp := tabSet false s.molfen.linkUp l false } })
      ∧ (∀ l : Fin 2, (s.mode.mode = .standby ∨ s.mode.mode = .service ∨ s.mode.mode = .degraded ∨ s.mode.mode = .silent
          ∨ s.mode.mode = .safe) →
        exec (.ethernetLinkUp l) s = .next { s with molfen := { s.molfen with linkUp := tabSet false s.molfen.linkUp l true } })
      ∧ ∀ (l : Fin 2) (a : Nat), s.molfen.addrPending.find? (fun p => p.1 == l.val) = some (l.val, a) →
        ∃ u, exec (.addressChangeEffective l) s = .next u ∧ tabGet 0 u.molfen.addr l = a
          ∧ ∀ p ∈ u.molfen.addrPending, p.1 ≠ l.val)
  ∧ (∀ (token : Fin 65536) (cnt : Nat) (s : State), s.mode.mode ≠ .off →
      (txCntOf s 0 < txLimit → ∃ u x o, exec (.emergencyStatusRead token) s = .next u
        ∧ u.outbox = .reply 2 0 0 0 (txCntOf s 0 + 1) token 0 0xFFFFFFFF [x] o :: s.outbox
        ∧ o = wireOf 2 (molfenMsg (managementKey s 0) 0x02 0 (txCntOf s 0 + 1) (replyBody token 0 0xFFFFFFFF [x]))
        ∧ u.molfen.emergAnswered = inc32 s.molfen.emergAnswered ∧ u.mode = s.mode)
      ∧ (∀ (vi : Fin 16) (v : Nat) (f : BootFacts), vi ≠ 0 ∨ viEnabled s vi = false ∨ freshCnt s vi cnt = false →
        (∃ u, exec (.forceSilent vi v cnt token) s = .next u ∧ u.molfen.emergRefused = inc32 s.molfen.emergRefused ∧ u.mode = s.mode)
        ∧ ∃ u, exec (.emergencyReset vi v cnt token f) s = .next u ∧ u.molfen.emergRefused = inc32 s.molfen.emergRefused
            ∧ u.mode = s.mode)
      ∧ (txCntOf s 0 < txLimit → viEnabled s 0 = true → freshCnt s 0 cnt = true → s.molfen.openGroups = [] →
          s.mode.mode ≠ .lastGasp →
        (s.mode.mode = .standby ∨ s.mode.mode = .service ∨ s.mode.mode = .degraded ∨ s.mode.mode = .silent →
          ∃ u, exec (.forceSilent 0 1 cnt token) s = .next u ∧ u.answer.status = .ok ∧ u.mode.mode = .silent
            ∧ u.mode.causeQuiet = true)
        ∧ ∀ f : BootFacts, f.fatal = none → f.failed = [] → f.keyStore = true →
          ∃ u, exec (.emergencyReset 0 165 cnt token f) s = .next u ∧ u.mode.mode = .boot ∧ u.mode.bootWarm = true
            ∧ u.mode.causeQuiet = false ∧ u.mode.bootStep = 6))

/-- 16 R428: the stages of a firmware update, each from the one before it: OPEN, chunks, VERIFY as the image's check says, ACTIVATE
onto the other bank where both pairs start, COMMIT, ABANDON, and the probation's expiry back to the bank before. 16 R429, R430:
the stages of a package's update: OPEN of a licensed one, chunks, VERIFY as its signature says, ACTIVATE of a package that needs
no tile another holds, the rotation of its last tile, and ABANDON. -/
def Obligations.LiveUpdate : Prop :=
  (∀ (vi : Fin 16) (s : State),
      let x := s.molfen.firmware
      (writable s vi 0x8070 1 0 1 1 = true → x.ustate ≠ .probation → isFenced s (unitFlash (otherBank s)) = false →
        ∃ u, exec (.firmwareOpen vi) s = .next u ∧ u.answer.status = .ok ∧ u.molfen.firmware = { x with ustate := .staging, chunks := [] })
      ∧ (∀ o n v, writable s vi 0x8070 3 o n v = true → x.ustate = .staging →
        exec (.firmwareChunk vi o n v) s = took (setFirmware { x with chunks := tabSet (0, 0) x.chunks o (n, v) } s))
      ∧ (writable s vi 0x8070 1 0 1 2 = true → x.ustate = .staging →
        ∃ u, exec (.firmwareVerify vi) s = .next u ∧ u.answer.status = .ok ∧ u.molfen.firmware = { x with
          ustate := if Config.firmwareGood x.chunks (setting s 0x8070 4 0) then .verified else .bad })
      ∧ (writable s vi 0x8070 1 0 1 3 = true → x.ustate = .verified → standbyPresent s = true →
        ∃ u, exec (.firmwareActivate vi true) s = .next u ∧ u.answer.status = .ok ∧ u.molfen.firmware.ustate = .probation
          ∧ u.molfen.bank = otherBank s ∧ u.molfen.selected = s.molfen.selected)
      ∧ (∀ pass, writable s vi 0x8070 1 0 1 3 = true → x.ustate = .verified → (pass && standbyPresent s) = false →
        ∃ u, exec (.firmwareActivate vi pass) s = .next u ∧ u.answer.status = .ok ∧ u.molfen.firmware.ustate = .verified
          ∧ u.molfen.bank = s.molfen.bank ∧ u.fault.newest = s.fault.nextEseq)
      ∧ (writable s vi 0x8070 1 0 1 4 = true → x.ustate = .probation →
        ∃ u, exec (.firmwareCommit vi) s = .next u ∧ u.answer.status = .ok ∧ u.molfen.firmware.ustate = .committed
          ∧ u.molfen.selected = s.molfen.bank)
      ∧ (writable s vi 0x8070 1 0 1 5 = true → (x.ustate = .staging ∨ x.ustate = .verified ∨ x.ustate = .bad) →
        ∃ u, exec (.firmwareAbandon vi) s = .next u ∧ u.answer.status = .ok
          ∧ u.molfen.firmware = { x with ustate := .idle, chunks := [] } ∧ u.molfen.bank = s.molfen.bank)
      ∧ (writable s vi 0x8070 1 0 1 5 = true → x.ustate = .probation →
        ∃ u, exec (.firmwareAbandon vi) s = .next u ∧ u.answer.status = .ok ∧ u.molfen.firmware.ustate = .idle
          ∧ u.molfen.bank = otherBank s)
      ∧ (x.ustate = .probation →
        ∃ u, exec .probationExpiry s = .next u ∧ u.molfen.firmware.ustate = .verified ∧ u.molfen.bank = otherBank s))
  ∧ (∀ (vi : Fin 16) (id : Nat) (s : State),
      let x := packageOf s id
      (writable s vi 0x8080 1 id 1 1 = true → x.ustate ≠ .rotating → isLicensed s id = true →
        ∃ u, exec (.packageOpen vi id) s = .next u ∧ u.answer.status = .ok ∧ (packageOf u id).ustate = .staging
          ∧ (packageOf u id).chunks = [] ∧ (packageOf u id).inst = x.inst)
      ∧ (∀ el n v, writable s vi 0x8080 3 el n v = true → el / 2 ^ 24 = id → x.ustate = .staging →
        exec (.packageChunk vi el n v) s
          = took (setPackage s id { x with chunks := tabSet (0, 0) x.chunks (el % 2 ^ 24) (n, v) }))
      ∧ (∀ p : Package, writable s vi 0x8080 1 id 1 2 = true → x.ustate = .staging →
        let good := Config.packageGood id x.chunks (setting s 0x8080 4 id) (if isCustomer id then setting s 0x8080 5 0 else 0)
        ∃ u, exec (.packageVerify vi id p) s = .next u
          ∧ (good = true → tableOk s id p = false → u.answer.status = .range ∧ packageOf u id = x)
          ∧ (good = false ∨ tableOk s id p = true → u.answer.status = .ok
            ∧ (packageOf u id).ustate = (if good then .verified else .bad)))
      ∧ (writable s vi 0x8080 1 id 1 3 = true → x.ustate = .verified → x.staged.images ≠ [] →
          (x.wasInstalled = false ∨ (x.staged.bufFormat = x.inst.bufFormat ∧ x.staged.raw = x.inst.raw ∧ freeTiles s ≠ [])) →
          x.staged.images.any (fun i => tileTaken s id i.1 || tabGet false s.prefect.invalid i.1) = false →
        ∃ u, exec (.packageActivate vi id) s = .next u ∧ u.answer.status = .ok ∧ (packageOf u id).ustate = .rotating
          ∧ (packageOf u id).toRotate = x.staged.images.map (·.1))
      ∧ (writable s vi 0x8080 1 id 1 5 = true → (x.ustate = .staging ∨ x.ustate = .verified ∨ x.ustate = .bad) →
        ∃ u, exec (.packageAbandon vi id) s = .next u ∧ u.answer.status = .ok
          ∧ packageOf u id = { x with ustate := .idle, chunks := [] })
      ∧ ∀ l : Nat, id < 256 → x.ustate = .rotating → x.toRotate = [l] → x.back = false → x.wasInstalled = false →
          inServiceOf s l = false → isFenced s (unitTile (physOf s l)) = false →
        ∃ u, exec (.packageRotationStep (Fin.ofNat 256 id)) s = .next u ∧ (packageOf u id).ustate = .installed
          ∧ (packageOf u id).inst = x.staged ∧ (tileOf u (physOf s l)).tstate = .host ∧ (tileOf u (physOf s l)).logical = l)

/-- 18 R450, R453, R455, R456, R461, R462; 14 R374: a member holds the head's air time, notes its BEAT, its HEADSET, its branches and
gains; loses it to the deputy; takes the head named at its time; the head alone drains a member. 18 R457, R458: a member takes the
head's directory updates, and the head those that no other home contradicts; a forwarded frame's first part changes nothing, and
its second is judged at its home member and its verdict held there; the verdict that comes back frees the capture that waits. -/
def Obligations.StackMessages : Prop :=
  (∀ s : State,
      (∀ (l : Fin 20) (at_ d q : Nat) (m : Nat × Nat × Nat × Nat), 16 ≤ l.val → followsHead s = true →
          oldestMsg l 0x30 13 (fun _ b => octField 13 b 1 8 == at_ && octField 13 b 9 12 == d) s = some m →
          decide (l.val < 18) = pathEast s → s.mode.mode ≠ .off → s.mode.mode ≠ .lastGasp →
        let n := at_ + (d + q) / 16
        ∃ u, exec (.time l at_ d q) s = .next u ∧ (s.time.valid = true → u.time.airTime = max s.time.airTime n)
          ∧ (s.time.valid = false → s.time.qualified = true → u.time.valid = true ∧ u.time.airTime = n))
      ∧ (∀ (east : Bool) (src dst : Fin 256), stacked s = true → linkUp s (!east) = true → src.val ≠ s.stack.position →
          src.val = s.stack.head → (dst.val = s.stack.position ∨ dst.val = 0x80) →
        (∀ e : Nat, ∃ u, exec (.beat east src dst true e) s = .next u ∧ u.stack.beatSeen = true ∧ u.stack.epoch = e % 2 ^ 64
          ∧ u.stack.present.testBit src = true)
        ∧ (∀ (seq : Fin 256) (h : Fin 8) (o n : Nat), ∃ u, exec (.headset east src dst seq h o n) s = .next u
          ∧ u.stack.headset = some (h.val, octetsBE 8 o, n) ∧ u.stack.deputies = octetsBE 8 o ∧ u.stack.head = s.stack.head)
        ∧ (∀ (bin : Fin 481) (g : List Int), ∃ u, exec (.gains east src dst bin g) s = .next u
          ∧ ∀ i, i < 32 → tabGet 0 u.stack.gains (bin + i) = g.getD i 0)
        ∧ (∀ (c : Fin 4096) (o : Fin 8) (bin : Fin 512) (mc : Fin 6) (n : Nat) (l : List Nat), widens s = true →
            s.time.valid = true →
          ∃ u, exec (.branchmap east src dst c o bin mc n l) s = .next u ∧ (o.val, c.val, l) ∈ u.stack.branches))
      ∧ (followsHead s = true → ∃ u, exec .headLoss s = .next u ∧ u.stack.headLosses = inc32 s.stack.headLosses
          ∧ u.stack.lostHead = s.stack.head ∧ u.stack.headset = none)
      ∧ (∀ h o n, s.stack.headset = some (h, o, n) → s.time.valid = true →
        ∃ u, exec .headChangeEffective s = .next u ∧ u.stack.head = h ∧ u.stack.deputies = o ∧ u.stack.headset = none
          ∧ u.time.airTime = max s.time.airTime n)
      ∧ ∀ (vi : Fin 16) (p v : Nat), writable s vi 0xA000 8 p 1 v = true → isHead s = true →
        ∃ u, exec (.memberDrain vi p v) s = .next u ∧ u.answer.status = .ok ∧ u.stack.drained.testBit p = true)
  ∧ (∀ (east : Bool) (src dst : Fin 256) (s : State), stacked s = true → linkUp s (!east) = true → src.val ≠ s.stack.position →
      stackFunction s 1 = true → dst.val = s.stack.position →
      (∀ (tag seq : BitVec 32) (home : Fin 256),
        (isHead s = false → src.val = s.stack.head → ∃ u, exec (.dirupd east src 0x80 tag home seq) s = .next u
          ∧ tabGet none u.stack.directory tag.toNat = (if home.val = 0xFF then none else some home.val))
        ∧ (isHead s = true → dst.val ≠ s.stack.lostHead → ∃ u, exec (.dirupd east src dst tag home seq) s = .next u
          ∧ tabGet none u.stack.directory tag.toNat = (if directoryRefuses s src tag.toNat = true then
              tabGet none s.stack.directory tag.toNat else if home.val = 0xFF then none else some home.val)))
      ∧ (∀ (c : Fin 4096) (x : Forwarded),
        (∃ u, exec (.fwdframe east src dst c 0 x) s = .next u ∧ u.roll = s.roll ∧ u.verdict = s.verdict)
        ∧ (let d := forwardedDetection s x
           let j := judge s (forwardedCapture x) d
           let vi := verdictVi s d j
           ∃ u h, exec (.fwdframe east src dst c 1 x) s = .next u ∧ (tabGet [] u.verdict.held vi).getLast? = some h
            ∧ h.record.dseq = x.dseq ∧ h.record.cls = j.cls ∧ h.record.vseq = tabGet 1 s.verdict.nextVseq vi
            ∧ tabGet 1 u.verdict.nextVseq vi = seqNext (tabGet 1 s.verdict.nextVseq vi)))
      ∧ ∀ (record : Nat) (d : Detection), (captureOf s (bitsOf record 479 464)).det = some d →
          (captureOf s (bitsOf record 479 464)).stage = 3 → (captureOf s (bitsOf record 479 464)).forwarded = true →
        ∃ u, exec (.fwdverdict east src dst record) s = .next u ∧ captureOf u (bitsOf record 479 464) = {})

/-- 18 R459, R460; 08 R221: an entry offered for transfer is touched and MIGRATING; the receiver that can take it is READY, another
aborts; the sender commits with the final entry, the receiver holds it for AT_k; an abort or a query is answered; at AT_k the
entry is here no more, or is enrolled, and a receiver without the COMMIT is in doubt. -/
def Obligations.Transfers : Prop :=
  (∀ (vi : Fin 16) (slot v : Nat) (s : State), writable s vi 0xA020 1 slot 12 v = true →
      octField 12 v 1 3 = 0 → octAt 12 v 0 ≤ 7 → octAt 12 v 0 ≠ s.stack.position → octField 12 v 4 7 < 262144 →
      octField 12 v 8 11 < 327680 → (entryOf s slot).status ≠ .free → stacked s = true →
      s.stack.members.testBit (octAt 12 v 0) = true → xferOpen s slot = false → s.tx.deferred = [] →
    ∃ u, exec (.transferWrite vi slot v) s = .next u ∧ u.answer.status = .ok
      ∧ entryOf u slot = { (touchedPair s slot).1 with migrating := true, lowCharge := (entryOf u slot).lowCharge }
      ∧ (xferOf u slot).peer = octAt 12 v 0
      ∧ (xferOf u slot).otherSlot = octField 12 v 4 7 ∧ (xferOf u slot).keyh = octField 12 v 8 11)
  ∧ (∀ (east : Bool) (src dst : Fin 256) (slot dest : Fin 262144) (s : State), stacked s = true → linkUp s (!east) = true →
      src.val ≠ s.stack.position → dst.val = s.stack.position →
    (∀ (vi : Fin 16) (k : Nat), ∃ u, exec (.xferPrepare east src dst slot dest vi k) s = .next u
      ∧ (prepareOk s vi dest k = true → xferOpen s dest = false → (xferOf u dest).xstate = .ready
        ∧ (xferOf u dest).receiver = true ∧ (xferOf u dest).peer = src.val ∧ (xferOf u dest).keyh = k)
      ∧ (prepareOk s vi dest k = false ∨ xferOpen s dest = true → u.stack.xfers = s.stack.xfers))
    ∧ ((xferOf s slot).xstate = .prepared → (xferOf s slot).receiver = false → (xferOf s slot).peer = src.val →
      (∃ u, exec (.xferReady east src dst slot dest) s = .next u ∧ (xferOf u slot).xstate = .committed
        ∧ (xferOf u slot).atK % 256 = 0 ∧ s.time.airTime + 2560 ≤ (xferOf u slot).atK
        ∧ (xferOf u slot).entry = some (entryOf u slot))
      ∧ ∃ u, exec (.xferAbort east src dst slot dest) s = .next u ∧ (xferOf u slot).xstate = .aborted
        ∧ (entryOf u slot).migrating = false)
    ∧ (∀ n e : Nat, (xferOf s dest).xstate = .ready ∨ (xferOf s dest).xstate = .inDoubt → (xferOf s dest).receiver = true →
        (xferOf s dest).peer = src.val →
      ∃ u, exec (.xferCommit east src dst slot dest n e) s = .next u ∧ (xferOf u dest).xstate = .committed
        ∧ (xferOf u dest).atK = n % 2 ^ 64 ∧ (xferOf u dest).entry = some (unpackEntry e))
    ∧ ∃ u b k, exec (.xferQuery east src dst slot dest) s = .next u ∧ .cascade (goesEast s src) 0x43 src b k ∈ u.outbox
      ∧ u.stack.xfers = s.stack.xfers)
  ∧ ∀ (slot : Fin 262144) (n : Nat) (s : State), s.time.valid = true →
    (∀ e : Entry, (xferOf s slot).xstate = .committed → (xferOf s slot).entry = some e → (xferOf s slot).atK ≤ n →
      ((xferOf s slot).receiver = false → (entryOf s slot).migrating = true → s.tx.bursts = [] → s.tx.deferred = [] →
        ∃ u, exec (.xferAtK slot n) s = .next u ∧ entryOf u slot = { gen := (entryOf s slot).gen })
      ∧ ((xferOf s slot).receiver = true → (entryOf s slot).status = .free →
        ∃ u, exec (.xferAtK slot n) s = .next u ∧ (entryOf u slot).identity = e.identity ∧ (entryOf u slot).tag = e.tag
          ∧ (entryOf u slot).ucnt = e.ucnt ∧ (entryOf u slot).keyh = (xferOf s slot).keyh ∧ (entryOf u slot).vi = (xferOf s slot).vi
          ∧ (entryOf u slot).gen = ((entryOf s slot).gen + 1) % 65536))
    ∧ ((xferOf s slot).xstate = .ready → (xferOf s slot).receiver = true →
      ∃ u, exec (.xferAtK slot n) s = .next u ∧ (xferOf u slot).xstate = .inDoubt ∧ (xferOf u slot).atK = n
        ∧ u.roll = s.roll)

/-- 16 R417, Table 16.3; 14 R380: a command that writes one object answers the first item check that fails, or, while the clock of the
loop-timed block the object acts on is stopped, RANGE of the owning rule or else BUSY, and changes nothing else; this holds of
each of these commands. -/
def Obligations.FailedWrites : Prop :=
  ∀ (vi : Fin 16) (k len v : Nat) (b : Bool) (x : Package) (s : State),
    let away (c : Instr) (idx sub el n w : Nat) : Prop :=
      (∀ st, writeCheck s vi idx sub el n w = some st → exec c s = .next (answering st s))
      ∧ (writeCheck s vi idx sub el n w = none → s.time.rimStop = true → rimObject idx sub = true →
          exec c s = .next (answering .busy s) ∨ exec c s = .next (answering .range s))
    away (.keyLoad vi len v) 0x7010 1 0 len v
    ∧ away (.keyErase vi k v) 0x7010 2 k 1 v
    ∧ away (.viLoadKey vi k len v) 0x7011 1 k len v
    ∧ away (.viManagementKey vi k len v) 0x7011 2 k len v
    ∧ away (.blockOwnerWrite vi k v) 0x7000 1 k 1 v
    ∧ away (.stagedReplyWrite vi k v) 0x5030 2 k 265 v
    ∧ away (.rampProfileWrite vi k v) 0x5020 1 k 66 v
    ∧ away (.errorAcknowledge vi v) 0x9000 6 0 4 v
    ∧ away (.fenceRelease vi v b) 0x9020 3 0 2 v
    ∧ away (.clearBadDescriptors vi v) 0x9020 4 0 1 v
    ∧ away (.relayTest vi v) 0x9030 2 0 1 v
    ∧ away (.accountMarkAcknowledge vi k v) 0x9061 3 k 1 v
    ∧ away (.spareRevert vi k v) 0x3030 2 k 1 v
    ∧ away (.backedHeadWrite vi k v) 0x3030 1 k 1 v
    ∧ away (.firmwareOpen vi) 0x8070 1 0 1 1
    ∧ away (.firmwareChunk vi k len v) 0x8070 3 k len v
    ∧ away (.firmwareVerify vi) 0x8070 1 0 1 2
    ∧ away (.firmwareActivate vi b) 0x8070 1 0 1 3
    ∧ away (.firmwareCommit vi) 0x8070 1 0 1 4
    ∧ away (.firmwareAbandon vi) 0x8070 1 0 1 5
    ∧ away (.packageOpen vi k) 0x8080 1 k 1 1
    ∧ away (.packageChunk vi k len v) 0x8080 3 k len v
    ∧ away (.packageVerify vi k x) 0x8080 1 k 1 2
    ∧ away (.packageActivate vi k) 0x8080 1 k 1 3
    ∧ away (.packageAbandon vi k) 0x8080 1 k 1 5
    ∧ away (.probeConfigurationWrite vi k v) 0x8061 1 k 36 v
    ∧ away (.traceModeWrite vi v) 0x8061 3 0 1 v
    ∧ away (.paceTimerWrite vi b k v) 0x8051 (if b then 2 else 1) k 4 v
    ∧ away (.modeRequestStandby vi) 0x2000 5 0 1 2
    ∧ away (.modeRequestService vi) 0x2000 5 0 1 3
    ∧ away (.modeRequestSafe vi) 0x2000 5 0 1 7
    ∧ away (.quietSet vi) 0x2000 6 0 1 1
    ∧ away (.quietRelease vi) 0x2000 6 0 1 0
    ∧ away (.enrol vi k v) 0x6011 1 k 32 v
    ∧ away (.retire vi k v) 0x6011 2 k 1 v
    ∧ away (.replace vi k v) 0x6011 3 k 32 v
    ∧ away (.rekey vi k v) 0x6011 4 k 8 v
    ∧ away (.statusWrite vi k v) 0x6010 2 k 1 v
    ∧ away (.chargeSet vi k v) 0x6010 4 k 4 v
    ∧ away (.uplinkCounterRaise vi k v) 0x6010 5 k 4 v
    ∧ away (.chargeModelAssign vi k v) 0x6010 6 k 1 v
    ∧ away (.creditPlanAssign vi k v) 0x6010 7 k 1 v
    ∧ away (.grant vi k v) 0x6011 5 k 2 v
    ∧ away (.grantBudgetAdd vi k v) 0x6000 3 k 4 v
    ∧ away (.averagingPeriodWrite vi v) 0x4006 1 0 1 v
    ∧ away (.transferWrite vi k v) 0xA020 1 k 12 v
    ∧ away (.memberDrain vi k v) 0xA000 8 k 1 v
    ∧ away (.timebaseRestart vi v) 0x2010 5 0 1 v
    ∧ away (.bellWrite vi b k v) 0x2030 (if b then 2 else 1) k 4 v
    ∧ away (.unpoweredIntervalWrite vi v) 0x6001 2 0 4 v
    ∧ away (.calibrationSwapArm vi v) 0x4001 3 0 8 v
    ∧ away (.collectorWrite vi k v) 0x4040 1 k 18 v
end

