-- ==== Sys2Proof/Laws/Tab.lean ====
section
/-! SUPPORT. Sparse tables: what a write reads back as, what it leaves alone, and that it keeps the canonical form; the same for
the memories behind the mesh. -/

namespace Sys2Proof.Machine

/-! ### Reading back -/

theorem tabGet_put_self {α : Type} (d : α) (t : Tab α) (k : Nat) (v : α) : tabGet d (tabPut t k v) k = v := by
  induction t with
  | nil => simp [tabPut, tabGet]
  | cons p t ih =>
    obtain ⟨k', v'⟩ := p
    simp only [tabPut]
    split
    · simp [tabGet]
    · split
      · simp [tabGet]
      · rename_i h; simp [tabGet, h, ih]

theorem tabGet_put_other {α : Type} (d : α) (t : Tab α) {k j : Nat} (v : α) (h : j ≠ k) :
    tabGet d (tabPut t k v) j = tabGet d t j := by
  induction t with
  | nil => simp [tabPut, tabGet, h]
  | cons p t ih =>
    obtain ⟨k', v'⟩ := p
    simp only [tabPut]
    split
    · simp [tabGet, h]
    · split
      · rename_i h'; subst h'; simp [tabGet, h]
      · simp [tabGet, ih]

theorem tabGet_drop_self {α : Type} (d : α) (t : Tab α) (k : Nat) : tabGet d (t.filter (fun p => p.1 ≠ k)) k = d := by
  induction t with
  | nil => rfl
  | cons p t ih =>
    obtain ⟨k', v'⟩ := p
    by_cases h : k' = k
    · simpa [List.filter, h] using ih
    · simp [List.filter, h, tabGet, Ne.symm h] at ih ⊢; exact ih

theorem tabGet_drop_other {α : Type} (d : α) (t : Tab α) {k j : Nat} (h : j ≠ k) :
    tabGet d (t.filter (fun p => p.1 ≠ k)) j = tabGet d t j := by
  induction t with
  | nil => rfl
  | cons p t ih =>
    obtain ⟨k', v'⟩ := p
    by_cases h' : k' = k
    · subst h'; simp [List.filter, tabGet, h] at ih ⊢; exact ih
    · by_cases hj : j = k' <;> simp [List.filter, h', tabGet, hj] at ih ⊢; exact ih

/-- A table reads back what was written. -/
@[simp] theorem tabGet_set_self {α : Type} [DecidableEq α] (d : α) (t : Tab α) (k : Nat) (v : α) :
    tabGet d (tabSet d t k v) k = v := by
  unfold tabSet
  split
  · rename_i h; rw [h]; exact tabGet_drop_self d t k
  · exact tabGet_put_self d t k v
/-- A write changes no other key. -/
@[simp] theorem tabGet_set_other {α : Type} [DecidableEq α] (d e : α) (t : Tab α) {k j : Nat} (v : α) (h : j ≠ k) :
    tabGet e (tabSet d t k v) j = tabGet e t j := by
  unfold tabSet
  split
  · exact tabGet_drop_other e t h
  · exact tabGet_put_other e t v h
theorem tabGet_set {α : Type} [DecidableEq α] (d : α) (t : Tab α) (k j : Nat) (v : α) :
    tabGet d (tabSet d t k v) j = if j = k then v else tabGet d t j := by
  by_cases h : j = k
  · subst h; simp
  · simp [h]

/-! ### The canonical form -/

/-- The same, as a proposition. -/
theorem tabWfFrom_cons {α : Type} [DecidableEq α] (d : Nat → α) (lo k : Nat) (v : α) (t : Tab α) :
    tabWfFrom d lo ((k, v) :: t) = true ↔ lo ≤ k ∧ v ≠ d k ∧ tabWfFrom d (k + 1) t = true := by
  simp [tabWfFrom, and_assoc]
theorem tabWfFrom_mono {α : Type} [DecidableEq α] (d : Nat → α) (t : Tab α) {lo hi : Nat} (h : lo ≤ hi)
    (w : tabWfFrom d hi t = true) : tabWfFrom d lo t = true := by
  cases t with
  | nil => rfl
  | cons p t => obtain ⟨k, v⟩ := p; rw [tabWfFrom_cons] at w ⊢; exact ⟨h.trans w.1, w.2⟩
theorem tabWfFrom_put {α : Type} [DecidableEq α] (d : Nat → α) (t : Tab α) (lo k : Nat) (v : α)
    (hk : lo ≤ k) (hv : v ≠ d k) (w : tabWfFrom d lo t = true) : tabWfFrom d lo (tabPut t k v) = true := by
  induction t generalizing lo with
  | nil => simp [tabPut, tabWfFrom, hk, hv]
  | cons p t ih =>
    obtain ⟨k', v'⟩ := p
    rw [tabWfFrom_cons] at w
    simp only [tabPut]
    split
    · rw [tabWfFrom_cons, tabWfFrom_cons]; exact ⟨hk, hv, by omega, w.2⟩
    · split
      · rename_i h; subst h; rw [tabWfFrom_cons]; exact ⟨hk, hv, w.2.2⟩
      · rw [tabWfFrom_cons]; exact ⟨w.1, w.2.1, ih (k' + 1) (by omega) w.2.2⟩
/-- Leaving entries out keeps the form. -/
theorem tabWfFrom_filter {α : Type} [DecidableEq α] (d : Nat → α) (t : Tab α) (lo : Nat) (p : Nat × α → Bool)
    (w : tabWfFrom d lo t = true) : tabWfFrom d lo (t.filter p) = true := by
  induction t generalizing lo with
  | nil => rfl
  | cons q t ih =>
    obtain ⟨k', v'⟩ := q
    rw [tabWfFrom_cons] at w
    simp only [List.filter]
    split
    · rw [tabWfFrom_cons]; exact ⟨w.1, w.2.1, ih (k' + 1) w.2.2⟩
    · exact tabWfFrom_mono d _ (by omega) (ih (k' + 1) w.2.2)

/-! ### Memories -/

theorem memWf_nil : memWf [] = true := rfl
/-- A write of one byte keeps a memory in its canonical form. -/
theorem memWf_memPut (m : List Host.Cell) (a : Nat) (b : BitVec 8) (w : memWf m = true) : memWf (memPut m a b) = true := by
  unfold memPut tabSet
  split
  · exact tabWfFrom_filter _ _ _ _ w
  · rename_i h; exact tabWfFrom_put _ _ _ _ _ (Nat.zero_le a) h w
/-- What a memory of a node that loses its content keeps is in canonical form. -/
theorem memWf_filter (m : List Host.Cell) (p : Host.Cell → Bool) (w : memWf m = true) : memWf (m.filter p) = true :=
  tabWfFrom_filter _ _ _ _ w
/-- A byte written reads back. -/
@[simp] theorem memByte_put_self (m : List Host.Cell) (a : Nat) (b : BitVec 8) : memByte (memPut m a b) a = b :=
  tabGet_set_self _ _ _ _
@[simp] theorem memByte_put_other (m : List Host.Cell) {a k : Nat} (b : BitVec 8) (h : k ≠ a) :
    memByte (memPut m a b) k = memByte m k := tabGet_set_other _ _ _ _ h
/-- A write through the mesh's memories keeps them canonical. -/
theorem gPut_canonical (addr : Nat) (b : BitVec 8) (s : State) (w : memWf s.mesh.mem = true) :
    memWf (gPut addr b s).mesh.mem = true := by
  unfold gPut
  split
  · exact w
  · exact memWf_memPut _ _ _ w
theorem gPutAll_canonical (bs : List (BitVec 8)) (addr : Nat) (s : State) (w : memWf s.mesh.mem = true) :
    memWf (gPutAll bs addr s).mesh.mem = true := by
  induction bs generalizing addr s with
  | nil => exact w
  | cons b t ih => exact ih _ _ (gPut_canonical _ _ _ w)
theorem setWordPoison_canonical (k : Nat) (p : Bool) (s : State) (w : memWf s.mesh.mem = true) :
    memWf (setWordPoison k p s).mesh.mem = true := by
  unfold setWordPoison
  split <;> exact w
/-- A write of octets at a node keeps the memories canonical. -/
theorem memWrite_canonical (addr : Nat) (bs : List (BitVec 8)) (s : State) (w : memWf s.mesh.mem = true) :
    memWf (memWrite addr bs s).mesh.mem = true := by
  have h : ∀ (l : List Nat) (t : State), memWf t.mesh.mem = true →
      memWf (l.foldl (fun t w => setWordPoison w false t) t).mesh.mem = true := by
    intro l
    induction l with
    | nil => exact fun t w => w
    | cons k l ih => exact fun t w => ih _ (setWordPoison_canonical _ _ _ w)
  unfold memWrite
  exact gPutAll_canonical _ _ _ (h _ _ w)

end Sys2Proof.Machine
end

