-- ==== Sys2Proof/Laws/State.lean ====
section
/-! SUPPORT. What each named update of State leaves: every other field, and the record it wrote. -/

namespace Sys2Proof.Machine

variable (s : State)

/-! ### setLane -/

@[simp] theorem setLane_pending (l : Nat) (x : Lane) : (setLane s l x).pending = s.pending := rfl
@[simp] theorem setLane_freeCount (l : Nat) (x : Lane) : (setLane s l x).freeCount = s.freeCount := rfl
@[simp] theorem setLane_answer (l : Nat) (x : Lane) : (setLane s l x).answer = s.answer := rfl
@[simp] theorem setLane_outbox (l : Nat) (x : Lane) : (setLane s l x).outbox = s.outbox := rfl
@[simp] theorem setLane_settings (l : Nat) (x : Lane) : (setLane s l x).settings = s.settings := rfl
@[simp] theorem setLane_mode (l : Nat) (x : Lane) : (setLane s l x).mode = s.mode := rfl
@[simp] theorem setLane_power (l : Nat) (x : Lane) : (setLane s l x).power = s.power := rfl
@[simp] theorem setLane_time (l : Nat) (x : Lane) : (setLane s l x).time = s.time := rfl
@[simp] theorem setLane_rx (l : Nat) (x : Lane) : (setLane s l x).rx = s.rx := rfl
@[simp] theorem setLane_sweep (l : Nat) (x : Lane) : (setLane s l x).sweep = s.sweep := rfl
@[simp] theorem setLane_verdict (l : Nat) (x : Lane) : (setLane s l x).verdict = s.verdict := rfl
@[simp] theorem setLane_roll (l : Nat) (x : Lane) : (setLane s l x).roll = s.roll := rfl
@[simp] theorem setLane_tx (l : Nat) (x : Lane) : (setLane s l x).tx = s.tx := rfl
@[simp] theorem setLane_cipher (l : Nat) (x : Lane) : (setLane s l x).cipher = s.cipher := rfl
@[simp] theorem setLane_prefect (l : Nat) (x : Lane) : (setLane s l x).prefect = s.prefect := rfl
@[simp] theorem setLane_tiles (l : Nat) (x : Lane) : (setLane s l x).tiles = s.tiles := rfl
@[simp] theorem setLane_mesh (l : Nat) (x : Lane) : (setLane s l x).mesh = s.mesh := rfl
@[simp] theorem setLane_pace (l : Nat) (x : Lane) : (setLane s l x).pace = s.pace := rfl
@[simp] theorem setLane_fault (l : Nat) (x : Lane) : (setLane s l x).fault = s.fault := rfl
@[simp] theorem setLane_molfen (l : Nat) (x : Lane) : (setLane s l x).molfen = s.molfen := rfl
@[simp] theorem setLane_stack (l : Nat) (x : Lane) : (setLane s l x).stack = s.stack := rfl
@[simp] theorem setLane_snap (l : Nat) (x : Lane) : (setLane s l x).snap = s.snap := rfl
@[simp] theorem setLane_saved (l : Nat) (x : Lane) : (setLane s l x).saved = s.saved := rfl
@[simp] theorem setLane_lane_heads (l : Nat) (x : Lane) : (setLane s l x).lane.heads = s.lane.heads := rfl
@[simp] theorem setLane_lane_cages (l : Nat) (x : Lane) : (setLane s l x).lane.cages = s.lane.cages := rfl
@[simp] theorem laneOf_setLane (l : Nat) (x : Lane) : laneOf (setLane s l x) l = x := tabGet_set_self _ _ _ _
@[simp] theorem laneOf_setLane_other (l : Nat) (x : Lane) (j : Nat) (hj : j ≠ l) : laneOf (setLane s l x) j = laneOf s j := tabGet_set_other _ _ _ _ hj
@[simp] theorem headOf_setLane (l : Nat) (x : Lane) (j : Nat) : headOf (setLane s l x) j = headOf s j := rfl
@[simp] theorem cageOf_setLane (l : Nat) (x : Lane) (j : Nat) : cageOf (setLane s l x) j = cageOf s j := rfl
@[simp] theorem entryOf_setLane (l : Nat) (x : Lane) (j : Nat) : entryOf (setLane s l x) j = entryOf s j := rfl
@[simp] theorem accountOf_setLane (l : Nat) (x : Lane) (j : Nat) : accountOf (setLane s l x) j = accountOf s j := rfl
@[simp] theorem captureOf_setLane (l : Nat) (x : Lane) (j : Nat) : captureOf (setLane s l x) j = captureOf s j := rfl
@[simp] theorem engineOf_setLane (l : Nat) (x : Lane) (j : Nat) : engineOf (setLane s l x) j = engineOf s j := rfl
@[simp] theorem keyOf_setLane (l : Nat) (x : Lane) (j : Nat) : keyOf (setLane s l x) j = keyOf s j := rfl
@[simp] theorem tileOf_setLane (l : Nat) (x : Lane) (j : Nat) : tileOf (setLane s l x) j = tileOf s j := rfl
@[simp] theorem channelOf_setLane (l : Nat) (x : Lane) (j : Nat) : channelOf (setLane s l x) j = channelOf s j := rfl
@[simp] theorem islandOf_setLane (l : Nat) (x : Lane) (j : Nat) : islandOf (setLane s l x) j = islandOf s j := rfl
@[simp] theorem domainOf_setLane (l : Nat) (x : Lane) (j : Nat) : domainOf (setLane s l x) j = domainOf s j := rfl
@[simp] theorem cardOf_setLane (l : Nat) (x : Lane) (j : Nat) : cardOf (setLane s l x) j = cardOf s j := rfl
@[simp] theorem packageOf_setLane (l : Nat) (x : Lane) (j : Nat) : packageOf (setLane s l x) j = packageOf s j := rfl
@[simp] theorem streamOf_setLane (l : Nat) (x : Lane) (j : Nat) : streamOf (setLane s l x) j = streamOf s j := rfl
@[simp] theorem beamsOf_setLane (l : Nat) (x : Lane) (j : Nat) : beamsOf (setLane s l x) j = beamsOf s j := rfl
@[simp] theorem physOf_setLane (l : Nat) (x : Lane) (j : Nat) : physOf (setLane s l x) j = physOf s j := rfl
@[simp] theorem timerOf_setLane (l : Nat) (x : Lane) (j : Nat) : timerOf (setLane s l x) j = timerOf s j := rfl
@[simp] theorem bellOf_setLane (l : Nat) (x : Lane) (j : Nat) : bellOf (setLane s l x) j = bellOf s j := rfl
@[simp] theorem xferOf_setLane (l : Nat) (x : Lane) (j : Nat) : xferOf (setLane s l x) j = xferOf s j := rfl
@[simp] theorem heldOf_setLane (l : Nat) (x : Lane) (j : Nat) : heldOf (setLane s l x) j = heldOf s j := rfl

/-! ### setHead -/

@[simp] theorem setHead_pending (h : Nat) (x : Head) : (setHead s h x).pending = s.pending := rfl
@[simp] theorem setHead_freeCount (h : Nat) (x : Head) : (setHead s h x).freeCount = s.freeCount := rfl
@[simp] theorem setHead_answer (h : Nat) (x : Head) : (setHead s h x).answer = s.answer := rfl
@[simp] theorem setHead_outbox (h : Nat) (x : Head) : (setHead s h x).outbox = s.outbox := rfl
@[simp] theorem setHead_settings (h : Nat) (x : Head) : (setHead s h x).settings = s.settings := rfl
@[simp] theorem setHead_mode (h : Nat) (x : Head) : (setHead s h x).mode = s.mode := rfl
@[simp] theorem setHead_power (h : Nat) (x : Head) : (setHead s h x).power = s.power := rfl
@[simp] theorem setHead_time (h : Nat) (x : Head) : (setHead s h x).time = s.time := rfl
@[simp] theorem setHead_rx (h : Nat) (x : Head) : (setHead s h x).rx = s.rx := rfl
@[simp] theorem setHead_sweep (h : Nat) (x : Head) : (setHead s h x).sweep = s.sweep := rfl
@[simp] theorem setHead_verdict (h : Nat) (x : Head) : (setHead s h x).verdict = s.verdict := rfl
@[simp] theorem setHead_roll (h : Nat) (x : Head) : (setHead s h x).roll = s.roll := rfl
@[simp] theorem setHead_tx (h : Nat) (x : Head) : (setHead s h x).tx = s.tx := rfl
@[simp] theorem setHead_cipher (h : Nat) (x : Head) : (setHead s h x).cipher = s.cipher := rfl
@[simp] theorem setHead_prefect (h : Nat) (x : Head) : (setHead s h x).prefect = s.prefect := rfl
@[simp] theorem setHead_tiles (h : Nat) (x : Head) : (setHead s h x).tiles = s.tiles := rfl
@[simp] theorem setHead_mesh (h : Nat) (x : Head) : (setHead s h x).mesh = s.mesh := rfl
@[simp] theorem setHead_pace (h : Nat) (x : Head) : (setHead s h x).pace = s.pace := rfl
@[simp] theorem setHead_fault (h : Nat) (x : Head) : (setHead s h x).fault = s.fault := rfl
@[simp] theorem setHead_molfen (h : Nat) (x : Head) : (setHead s h x).molfen = s.molfen := rfl
@[simp] theorem setHead_stack (h : Nat) (x : Head) : (setHead s h x).stack = s.stack := rfl
@[simp] theorem setHead_snap (h : Nat) (x : Head) : (setHead s h x).snap = s.snap := rfl
@[simp] theorem setHead_saved (h : Nat) (x : Head) : (setHead s h x).saved = s.saved := rfl
@[simp] theorem setHead_lane_lanes (h : Nat) (x : Head) : (setHead s h x).lane.lanes = s.lane.lanes := rfl
@[simp] theorem setHead_lane_cages (h : Nat) (x : Head) : (setHead s h x).lane.cages = s.lane.cages := rfl
@[simp] theorem headOf_setHead (h : Nat) (x : Head) : headOf (setHead s h x) h = x := tabGet_set_self _ _ _ _
@[simp] theorem headOf_setHead_other (h : Nat) (x : Head) (j : Nat) (hj : j ≠ h) : headOf (setHead s h x) j = headOf s j := tabGet_set_other _ _ _ _ hj
@[simp] theorem laneOf_setHead (h : Nat) (x : Head) (j : Nat) : laneOf (setHead s h x) j = laneOf s j := rfl
@[simp] theorem cageOf_setHead (h : Nat) (x : Head) (j : Nat) : cageOf (setHead s h x) j = cageOf s j := rfl
@[simp] theorem entryOf_setHead (h : Nat) (x : Head) (j : Nat) : entryOf (setHead s h x) j = entryOf s j := rfl
@[simp] theorem accountOf_setHead (h : Nat) (x : Head) (j : Nat) : accountOf (setHead s h x) j = accountOf s j := rfl
@[simp] theorem captureOf_setHead (h : Nat) (x : Head) (j : Nat) : captureOf (setHead s h x) j = captureOf s j := rfl
@[simp] theorem engineOf_setHead (h : Nat) (x : Head) (j : Nat) : engineOf (setHead s h x) j = engineOf s j := rfl
@[simp] theorem keyOf_setHead (h : Nat) (x : Head) (j : Nat) : keyOf (setHead s h x) j = keyOf s j := rfl
@[simp] theorem tileOf_setHead (h : Nat) (x : Head) (j : Nat) : tileOf (setHead s h x) j = tileOf s j := rfl
@[simp] theorem channelOf_setHead (h : Nat) (x : Head) (j : Nat) : channelOf (setHead s h x) j = channelOf s j := rfl
@[simp] theorem islandOf_setHead (h : Nat) (x : Head) (j : Nat) : islandOf (setHead s h x) j = islandOf s j := rfl
@[simp] theorem domainOf_setHead (h : Nat) (x : Head) (j : Nat) : domainOf (setHead s h x) j = domainOf s j := rfl
@[simp] theorem cardOf_setHead (h : Nat) (x : Head) (j : Nat) : cardOf (setHead s h x) j = cardOf s j := rfl
@[simp] theorem packageOf_setHead (h : Nat) (x : Head) (j : Nat) : packageOf (setHead s h x) j = packageOf s j := rfl
@[simp] theorem streamOf_setHead (h : Nat) (x : Head) (j : Nat) : streamOf (setHead s h x) j = streamOf s j := rfl
@[simp] theorem beamsOf_setHead (h : Nat) (x : Head) (j : Nat) : beamsOf (setHead s h x) j = beamsOf s j := rfl
@[simp] theorem physOf_setHead (h : Nat) (x : Head) (j : Nat) : physOf (setHead s h x) j = physOf s j := rfl
@[simp] theorem timerOf_setHead (h : Nat) (x : Head) (j : Nat) : timerOf (setHead s h x) j = timerOf s j := rfl
@[simp] theorem bellOf_setHead (h : Nat) (x : Head) (j : Nat) : bellOf (setHead s h x) j = bellOf s j := rfl
@[simp] theorem xferOf_setHead (h : Nat) (x : Head) (j : Nat) : xferOf (setHead s h x) j = xferOf s j := rfl
@[simp] theorem heldOf_setHead (h : Nat) (x : Head) (j : Nat) : heldOf (setHead s h x) j = heldOf s j := rfl

/-! ### setCage -/

@[simp] theorem setCage_pending (c : Nat) (x : Cage) : (setCage s c x).pending = s.pending := rfl
@[simp] theorem setCage_freeCount (c : Nat) (x : Cage) : (setCage s c x).freeCount = s.freeCount := rfl
@[simp] theorem setCage_answer (c : Nat) (x : Cage) : (setCage s c x).answer = s.answer := rfl
@[simp] theorem setCage_outbox (c : Nat) (x : Cage) : (setCage s c x).outbox = s.outbox := rfl
@[simp] theorem setCage_settings (c : Nat) (x : Cage) : (setCage s c x).settings = s.settings := rfl
@[simp] theorem setCage_mode (c : Nat) (x : Cage) : (setCage s c x).mode = s.mode := rfl
@[simp] theorem setCage_power (c : Nat) (x : Cage) : (setCage s c x).power = s.power := rfl
@[simp] theorem setCage_time (c : Nat) (x : Cage) : (setCage s c x).time = s.time := rfl
@[simp] theorem setCage_rx (c : Nat) (x : Cage) : (setCage s c x).rx = s.rx := rfl
@[simp] theorem setCage_sweep (c : Nat) (x : Cage) : (setCage s c x).sweep = s.sweep := rfl
@[simp] theorem setCage_verdict (c : Nat) (x : Cage) : (setCage s c x).verdict = s.verdict := rfl
@[simp] theorem setCage_roll (c : Nat) (x : Cage) : (setCage s c x).roll = s.roll := rfl
@[simp] theorem setCage_tx (c : Nat) (x : Cage) : (setCage s c x).tx = s.tx := rfl
@[simp] theorem setCage_cipher (c : Nat) (x : Cage) : (setCage s c x).cipher = s.cipher := rfl
@[simp] theorem setCage_prefect (c : Nat) (x : Cage) : (setCage s c x).prefect = s.prefect := rfl
@[simp] theorem setCage_tiles (c : Nat) (x : Cage) : (setCage s c x).tiles = s.tiles := rfl
@[simp] theorem setCage_mesh (c : Nat) (x : Cage) : (setCage s c x).mesh = s.mesh := rfl
@[simp] theorem setCage_pace (c : Nat) (x : Cage) : (setCage s c x).pace = s.pace := rfl
@[simp] theorem setCage_fault (c : Nat) (x : Cage) : (setCage s c x).fault = s.fault := rfl
@[simp] theorem setCage_molfen (c : Nat) (x : Cage) : (setCage s c x).molfen = s.molfen := rfl
@[simp] theorem setCage_stack (c : Nat) (x : Cage) : (setCage s c x).stack = s.stack := rfl
@[simp] theorem setCage_snap (c : Nat) (x : Cage) : (setCage s c x).snap = s.snap := rfl
@[simp] theorem setCage_saved (c : Nat) (x : Cage) : (setCage s c x).saved = s.saved := rfl
@[simp] theorem setCage_lane_lanes (c : Nat) (x : Cage) : (setCage s c x).lane.lanes = s.lane.lanes := rfl
@[simp] theorem setCage_lane_heads (c : Nat) (x : Cage) : (setCage s c x).lane.heads = s.lane.heads := rfl
@[simp] theorem cageOf_setCage (c : Nat) (x : Cage) : cageOf (setCage s c x) c = x := tabGet_set_self _ _ _ _
@[simp] theorem cageOf_setCage_other (c : Nat) (x : Cage) (j : Nat) (hj : j ≠ c) : cageOf (setCage s c x) j = cageOf s j := tabGet_set_other _ _ _ _ hj
@[simp] theorem laneOf_setCage (c : Nat) (x : Cage) (j : Nat) : laneOf (setCage s c x) j = laneOf s j := rfl
@[simp] theorem headOf_setCage (c : Nat) (x : Cage) (j : Nat) : headOf (setCage s c x) j = headOf s j := rfl
@[simp] theorem entryOf_setCage (c : Nat) (x : Cage) (j : Nat) : entryOf (setCage s c x) j = entryOf s j := rfl
@[simp] theorem accountOf_setCage (c : Nat) (x : Cage) (j : Nat) : accountOf (setCage s c x) j = accountOf s j := rfl
@[simp] theorem captureOf_setCage (c : Nat) (x : Cage) (j : Nat) : captureOf (setCage s c x) j = captureOf s j := rfl
@[simp] theorem engineOf_setCage (c : Nat) (x : Cage) (j : Nat) : engineOf (setCage s c x) j = engineOf s j := rfl
@[simp] theorem keyOf_setCage (c : Nat) (x : Cage) (j : Nat) : keyOf (setCage s c x) j = keyOf s j := rfl
@[simp] theorem tileOf_setCage (c : Nat) (x : Cage) (j : Nat) : tileOf (setCage s c x) j = tileOf s j := rfl
@[simp] theorem channelOf_setCage (c : Nat) (x : Cage) (j : Nat) : channelOf (setCage s c x) j = channelOf s j := rfl
@[simp] theorem islandOf_setCage (c : Nat) (x : Cage) (j : Nat) : islandOf (setCage s c x) j = islandOf s j := rfl
@[simp] theorem domainOf_setCage (c : Nat) (x : Cage) (j : Nat) : domainOf (setCage s c x) j = domainOf s j := rfl
@[simp] theorem cardOf_setCage (c : Nat) (x : Cage) (j : Nat) : cardOf (setCage s c x) j = cardOf s j := rfl
@[simp] theorem packageOf_setCage (c : Nat) (x : Cage) (j : Nat) : packageOf (setCage s c x) j = packageOf s j := rfl
@[simp] theorem streamOf_setCage (c : Nat) (x : Cage) (j : Nat) : streamOf (setCage s c x) j = streamOf s j := rfl
@[simp] theorem beamsOf_setCage (c : Nat) (x : Cage) (j : Nat) : beamsOf (setCage s c x) j = beamsOf s j := rfl
@[simp] theorem physOf_setCage (c : Nat) (x : Cage) (j : Nat) : physOf (setCage s c x) j = physOf s j := rfl
@[simp] theorem timerOf_setCage (c : Nat) (x : Cage) (j : Nat) : timerOf (setCage s c x) j = timerOf s j := rfl
@[simp] theorem bellOf_setCage (c : Nat) (x : Cage) (j : Nat) : bellOf (setCage s c x) j = bellOf s j := rfl
@[simp] theorem xferOf_setCage (c : Nat) (x : Cage) (j : Nat) : xferOf (setCage s c x) j = xferOf s j := rfl
@[simp] theorem heldOf_setCage (c : Nat) (x : Cage) (j : Nat) : heldOf (setCage s c x) j = heldOf s j := rfl

/-! ### setEntry -/

@[simp] theorem setEntry_pending (k : Nat) (x : Entry) : (setEntry s k x).pending = s.pending := rfl
@[simp] theorem setEntry_freeCount (k : Nat) (x : Entry) : (setEntry s k x).freeCount = s.freeCount := rfl
@[simp] theorem setEntry_answer (k : Nat) (x : Entry) : (setEntry s k x).answer = s.answer := rfl
@[simp] theorem setEntry_outbox (k : Nat) (x : Entry) : (setEntry s k x).outbox = s.outbox := rfl
@[simp] theorem setEntry_settings (k : Nat) (x : Entry) : (setEntry s k x).settings = s.settings := rfl
@[simp] theorem setEntry_mode (k : Nat) (x : Entry) : (setEntry s k x).mode = s.mode := rfl
@[simp] theorem setEntry_power (k : Nat) (x : Entry) : (setEntry s k x).power = s.power := rfl
@[simp] theorem setEntry_time (k : Nat) (x : Entry) : (setEntry s k x).time = s.time := rfl
@[simp] theorem setEntry_lane (k : Nat) (x : Entry) : (setEntry s k x).lane = s.lane := rfl
@[simp] theorem setEntry_rx (k : Nat) (x : Entry) : (setEntry s k x).rx = s.rx := rfl
@[simp] theorem setEntry_sweep (k : Nat) (x : Entry) : (setEntry s k x).sweep = s.sweep := rfl
@[simp] theorem setEntry_verdict (k : Nat) (x : Entry) : (setEntry s k x).verdict = s.verdict := rfl
@[simp] theorem setEntry_tx (k : Nat) (x : Entry) : (setEntry s k x).tx = s.tx := rfl
@[simp] theorem setEntry_cipher (k : Nat) (x : Entry) : (setEntry s k x).cipher = s.cipher := rfl
@[simp] theorem setEntry_prefect (k : Nat) (x : Entry) : (setEntry s k x).prefect = s.prefect := rfl
@[simp] theorem setEntry_tiles (k : Nat) (x : Entry) : (setEntry s k x).tiles = s.tiles := rfl
@[simp] theorem setEntry_mesh (k : Nat) (x : Entry) : (setEntry s k x).mesh = s.mesh := rfl
@[simp] theorem setEntry_pace (k : Nat) (x : Entry) : (setEntry s k x).pace = s.pace := rfl
@[simp] theorem setEntry_fault (k : Nat) (x : Entry) : (setEntry s k x).fault = s.fault := rfl
@[simp] theorem setEntry_molfen (k : Nat) (x : Entry) : (setEntry s k x).molfen = s.molfen := rfl
@[simp] theorem setEntry_stack (k : Nat) (x : Entry) : (setEntry s k x).stack = s.stack := rfl
@[simp] theorem setEntry_snap (k : Nat) (x : Entry) : (setEntry s k x).snap = s.snap := rfl
@[simp] theorem setEntry_saved (k : Nat) (x : Entry) : (setEntry s k x).saved = s.saved := rfl
@[simp] theorem setEntry_roll_image (k : Nat) (x : Entry) : (setEntry s k x).roll.image = s.roll.image := rfl
@[simp] theorem setEntry_roll_accounts (k : Nat) (x : Entry) : (setEntry s k x).roll.accounts = s.roll.accounts := rfl
@[simp] theorem setEntry_roll_signature (k : Nat) (x : Entry) : (setEntry s k x).roll.signature = s.roll.signature := rfl
@[simp] theorem setEntry_roll_shadows (k : Nat) (x : Entry) : (setEntry s k x).roll.shadows = s.roll.shadows := rfl
@[simp] theorem setEntry_roll_staging (k : Nat) (x : Entry) : (setEntry s k x).roll.staging = s.roll.staging := rfl
@[simp] theorem setEntry_roll_backlog (k : Nat) (x : Entry) : (setEntry s k x).roll.backlog = s.roll.backlog := rfl
@[simp] theorem setEntry_roll_conservation (k : Nat) (x : Entry) : (setEntry s k x).roll.conservation = s.roll.conservation := rfl
@[simp] theorem setEntry_roll_nextJseq (k : Nat) (x : Entry) : (setEntry s k x).roll.nextJseq = s.roll.nextJseq := rfl
@[simp] theorem setEntry_roll_newestJseq (k : Nat) (x : Entry) : (setEntry s k x).roll.newestJseq = s.roll.newestJseq := rfl
@[simp] theorem setEntry_roll_placeRefused (k : Nat) (x : Entry) : (setEntry s k x).roll.placeRefused = s.roll.placeRefused := rfl
@[simp] theorem setEntry_roll_budgetAdded (k : Nat) (x : Entry) : (setEntry s k x).roll.budgetAdded = s.roll.budgetAdded := rfl
@[simp] theorem setEntry_roll_budgetLeft (k : Nat) (x : Entry) : (setEntry s k x).roll.budgetLeft = s.roll.budgetLeft := rfl
@[simp] theorem setEntry_roll_retired (k : Nat) (x : Entry) : (setEntry s k x).roll.retired = s.roll.retired := rfl
@[simp] theorem setEntry_roll_monotone (k : Nat) (x : Entry) : (setEntry s k x).roll.monotone = s.roll.monotone := rfl
@[simp] theorem entryOf_setEntry (k : Nat) (x : Entry) : entryOf (setEntry s k x) k = x := tabGet_set_self _ _ _ _
@[simp] theorem entryOf_setEntry_other (k : Nat) (x : Entry) (j : Nat) (hj : j ≠ k) : entryOf (setEntry s k x) j = entryOf s j := tabGet_set_other _ _ _ _ hj
@[simp] theorem laneOf_setEntry (k : Nat) (x : Entry) (j : Nat) : laneOf (setEntry s k x) j = laneOf s j := rfl
@[simp] theorem headOf_setEntry (k : Nat) (x : Entry) (j : Nat) : headOf (setEntry s k x) j = headOf s j := rfl
@[simp] theorem cageOf_setEntry (k : Nat) (x : Entry) (j : Nat) : cageOf (setEntry s k x) j = cageOf s j := rfl
@[simp] theorem accountOf_setEntry (k : Nat) (x : Entry) (j : Nat) : accountOf (setEntry s k x) j = accountOf s j := rfl
@[simp] theorem captureOf_setEntry (k : Nat) (x : Entry) (j : Nat) : captureOf (setEntry s k x) j = captureOf s j := rfl
@[simp] theorem engineOf_setEntry (k : Nat) (x : Entry) (j : Nat) : engineOf (setEntry s k x) j = engineOf s j := rfl
@[simp] theorem keyOf_setEntry (k : Nat) (x : Entry) (j : Nat) : keyOf (setEntry s k x) j = keyOf s j := rfl
@[simp] theorem tileOf_setEntry (k : Nat) (x : Entry) (j : Nat) : tileOf (setEntry s k x) j = tileOf s j := rfl
@[simp] theorem channelOf_setEntry (k : Nat) (x : Entry) (j : Nat) : channelOf (setEntry s k x) j = channelOf s j := rfl
@[simp] theorem islandOf_setEntry (k : Nat) (x : Entry) (j : Nat) : islandOf (setEntry s k x) j = islandOf s j := rfl
@[simp] theorem domainOf_setEntry (k : Nat) (x : Entry) (j : Nat) : domainOf (setEntry s k x) j = domainOf s j := rfl
@[simp] theorem cardOf_setEntry (k : Nat) (x : Entry) (j : Nat) : cardOf (setEntry s k x) j = cardOf s j := rfl
@[simp] theorem packageOf_setEntry (k : Nat) (x : Entry) (j : Nat) : packageOf (setEntry s k x) j = packageOf s j := rfl
@[simp] theorem streamOf_setEntry (k : Nat) (x : Entry) (j : Nat) : streamOf (setEntry s k x) j = streamOf s j := rfl
@[simp] theorem beamsOf_setEntry (k : Nat) (x : Entry) (j : Nat) : beamsOf (setEntry s k x) j = beamsOf s j := rfl
@[simp] theorem physOf_setEntry (k : Nat) (x : Entry) (j : Nat) : physOf (setEntry s k x) j = physOf s j := rfl
@[simp] theorem timerOf_setEntry (k : Nat) (x : Entry) (j : Nat) : timerOf (setEntry s k x) j = timerOf s j := rfl
@[simp] theorem bellOf_setEntry (k : Nat) (x : Entry) (j : Nat) : bellOf (setEntry s k x) j = bellOf s j := rfl
@[simp] theorem xferOf_setEntry (k : Nat) (x : Entry) (j : Nat) : xferOf (setEntry s k x) j = xferOf s j := rfl
@[simp] theorem heldOf_setEntry (k : Nat) (x : Entry) (j : Nat) : heldOf (setEntry s k x) j = heldOf s j := rfl

/-! ### setAccount -/

@[simp] theorem setAccount_pending (k : Nat) (x : Account) : (setAccount s k x).pending = s.pending := rfl
@[simp] theorem setAccount_freeCount (k : Nat) (x : Account) : (setAccount s k x).freeCount = s.freeCount := rfl
@[simp] theorem setAccount_answer (k : Nat) (x : Account) : (setAccount s k x).answer = s.answer := rfl
@[simp] theorem setAccount_outbox (k : Nat) (x : Account) : (setAccount s k x).outbox = s.outbox := rfl
@[simp] theorem setAccount_settings (k : Nat) (x : Account) : (setAccount s k x).settings = s.settings := rfl
@[simp] theorem setAccount_mode (k : Nat) (x : Account) : (setAccount s k x).mode = s.mode := rfl
@[simp] theorem setAccount_power (k : Nat) (x : Account) : (setAccount s k x).power = s.power := rfl
@[simp] theorem setAccount_time (k : Nat) (x : Account) : (setAccount s k x).time = s.time := rfl
@[simp] theorem setAccount_lane (k : Nat) (x : Account) : (setAccount s k x).lane = s.lane := rfl
@[simp] theorem setAccount_rx (k : Nat) (x : Account) : (setAccount s k x).rx = s.rx := rfl
@[simp] theorem setAccount_sweep (k : Nat) (x : Account) : (setAccount s k x).sweep = s.sweep := rfl
@[simp] theorem setAccount_verdict (k : Nat) (x : Account) : (setAccount s k x).verdict = s.verdict := rfl
@[simp] theorem setAccount_tx (k : Nat) (x : Account) : (setAccount s k x).tx = s.tx := rfl
@[simp] theorem setAccount_cipher (k : Nat) (x : Account) : (setAccount s k x).cipher = s.cipher := rfl
@[simp] theorem setAccount_prefect (k : Nat) (x : Account) : (setAccount s k x).prefect = s.prefect := rfl
@[simp] theorem setAccount_tiles (k : Nat) (x : Account) : (setAccount s k x).tiles = s.tiles := rfl
@[simp] theorem setAccount_mesh (k : Nat) (x : Account) : (setAccount s k x).mesh = s.mesh := rfl
@[simp] theorem setAccount_pace (k : Nat) (x : Account) : (setAccount s k x).pace = s.pace := rfl
@[simp] theorem setAccount_fault (k : Nat) (x : Account) : (setAccount s k x).fault = s.fault := rfl
@[simp] theorem setAccount_molfen (k : Nat) (x : Account) : (setAccount s k x).molfen = s.molfen := rfl
@[simp] theorem setAccount_stack (k : Nat) (x : Account) : (setAccount s k x).stack = s.stack := rfl
@[simp] theorem setAccount_snap (k : Nat) (x : Account) : (setAccount s k x).snap = s.snap := rfl
@[simp] theorem setAccount_saved (k : Nat) (x : Account) : (setAccount s k x).saved = s.saved := rfl
@[simp] theorem setAccount_roll_entries (k : Nat) (x : Account) : (setAccount s k x).roll.entries = s.roll.entries := rfl
@[simp] theorem setAccount_roll_image (k : Nat) (x : Account) : (setAccount s k x).roll.image = s.roll.image := rfl
@[simp] theorem setAccount_roll_signature (k : Nat) (x : Account) : (setAccount s k x).roll.signature = s.roll.signature := rfl
@[simp] theorem setAccount_roll_shadows (k : Nat) (x : Account) : (setAccount s k x).roll.shadows = s.roll.shadows := rfl
@[simp] theorem setAccount_roll_staging (k : Nat) (x : Account) : (setAccount s k x).roll.staging = s.roll.staging := rfl
@[simp] theorem setAccount_roll_backlog (k : Nat) (x : Account) : (setAccount s k x).roll.backlog = s.roll.backlog := rfl
@[simp] theorem setAccount_roll_conservation (k : Nat) (x : Account) : (setAccount s k x).roll.conservation = s.roll.conservation := rfl
@[simp] theorem setAccount_roll_nextJseq (k : Nat) (x : Account) : (setAccount s k x).roll.nextJseq = s.roll.nextJseq := rfl
@[simp] theorem setAccount_roll_newestJseq (k : Nat) (x : Account) : (setAccount s k x).roll.newestJseq = s.roll.newestJseq := rfl
@[simp] theorem setAccount_roll_placeRefused (k : Nat) (x : Account) : (setAccount s k x).roll.placeRefused = s.roll.placeRefused := rfl
@[simp] theorem setAccount_roll_budgetAdded (k : Nat) (x : Account) : (setAccount s k x).roll.budgetAdded = s.roll.budgetAdded := rfl
@[simp] theorem setAccount_roll_budgetLeft (k : Nat) (x : Account) : (setAccount s k x).roll.budgetLeft = s.roll.budgetLeft := rfl
@[simp] theorem setAccount_roll_retired (k : Nat) (x : Account) : (setAccount s k x).roll.retired = s.roll.retired := rfl
@[simp] theorem setAccount_roll_monotone (k : Nat) (x : Account) : (setAccount s k x).roll.monotone = s.roll.monotone := rfl
@[simp] theorem accountOf_setAccount (k : Nat) (x : Account) : accountOf (setAccount s k x) k = x := tabGet_set_self _ _ _ _
@[simp] theorem accountOf_setAccount_other (k : Nat) (x : Account) (j : Nat) (hj : j ≠ k) : accountOf (setAccount s k x) j = accountOf s j := tabGet_set_other _ _ _ _ hj
@[simp] theorem laneOf_setAccount (k : Nat) (x : Account) (j : Nat) : laneOf (setAccount s k x) j = laneOf s j := rfl
@[simp] theorem headOf_setAccount (k : Nat) (x : Account) (j : Nat) : headOf (setAccount s k x) j = headOf s j := rfl
@[simp] theorem cageOf_setAccount (k : Nat) (x : Account) (j : Nat) : cageOf (setAccount s k x) j = cageOf s j := rfl
@[simp] theorem entryOf_setAccount (k : Nat) (x : Account) (j : Nat) : entryOf (setAccount s k x) j = entryOf s j := rfl
@[simp] theorem captureOf_setAccount (k : Nat) (x : Account) (j : Nat) : captureOf (setAccount s k x) j = captureOf s j := rfl
@[simp] theorem engineOf_setAccount (k : Nat) (x : Account) (j : Nat) : engineOf (setAccount s k x) j = engineOf s j := rfl
@[simp] theorem keyOf_setAccount (k : Nat) (x : Account) (j : Nat) : keyOf (setAccount s k x) j = keyOf s j := rfl
@[simp] theorem tileOf_setAccount (k : Nat) (x : Account) (j : Nat) : tileOf (setAccount s k x) j = tileOf s j := rfl
@[simp] theorem channelOf_setAccount (k : Nat) (x : Account) (j : Nat) : channelOf (setAccount s k x) j = channelOf s j := rfl
@[simp] theorem islandOf_setAccount (k : Nat) (x : Account) (j : Nat) : islandOf (setAccount s k x) j = islandOf s j := rfl
@[simp] theorem domainOf_setAccount (k : Nat) (x : Account) (j : Nat) : domainOf (setAccount s k x) j = domainOf s j := rfl
@[simp] theorem cardOf_setAccount (k : Nat) (x : Account) (j : Nat) : cardOf (setAccount s k x) j = cardOf s j := rfl
@[simp] theorem packageOf_setAccount (k : Nat) (x : Account) (j : Nat) : packageOf (setAccount s k x) j = packageOf s j := rfl
@[simp] theorem streamOf_setAccount (k : Nat) (x : Account) (j : Nat) : streamOf (setAccount s k x) j = streamOf s j := rfl
@[simp] theorem beamsOf_setAccount (k : Nat) (x : Account) (j : Nat) : beamsOf (setAccount s k x) j = beamsOf s j := rfl
@[simp] theorem physOf_setAccount (k : Nat) (x : Account) (j : Nat) : physOf (setAccount s k x) j = physOf s j := rfl
@[simp] theorem timerOf_setAccount (k : Nat) (x : Account) (j : Nat) : timerOf (setAccount s k x) j = timerOf s j := rfl
@[simp] theorem bellOf_setAccount (k : Nat) (x : Account) (j : Nat) : bellOf (setAccount s k x) j = bellOf s j := rfl
@[simp] theorem xferOf_setAccount (k : Nat) (x : Account) (j : Nat) : xferOf (setAccount s k x) j = xferOf s j := rfl
@[simp] theorem heldOf_setAccount (k : Nat) (x : Account) (j : Nat) : heldOf (setAccount s k x) j = heldOf s j := rfl

/-! ### setCapture -/

@[simp] theorem setCapture_pending (k : Nat) (x : Capture) : (setCapture s k x).pending = s.pending := rfl
@[simp] theorem setCapture_freeCount (k : Nat) (x : Capture) : (setCapture s k x).freeCount = s.freeCount := rfl
@[simp] theorem setCapture_answer (k : Nat) (x : Capture) : (setCapture s k x).answer = s.answer := rfl
@[simp] theorem setCapture_outbox (k : Nat) (x : Capture) : (setCapture s k x).outbox = s.outbox := rfl
@[simp] theorem setCapture_settings (k : Nat) (x : Capture) : (setCapture s k x).settings = s.settings := rfl
@[simp] theorem setCapture_mode (k : Nat) (x : Capture) : (setCapture s k x).mode = s.mode := rfl
@[simp] theorem setCapture_power (k : Nat) (x : Capture) : (setCapture s k x).power = s.power := rfl
@[simp] theorem setCapture_time (k : Nat) (x : Capture) : (setCapture s k x).time = s.time := rfl
@[simp] theorem setCapture_lane (k : Nat) (x : Capture) : (setCapture s k x).lane = s.lane := rfl
@[simp] theorem setCapture_rx (k : Nat) (x : Capture) : (setCapture s k x).rx = s.rx := rfl
@[simp] theorem setCapture_verdict (k : Nat) (x : Capture) : (setCapture s k x).verdict = s.verdict := rfl
@[simp] theorem setCapture_roll (k : Nat) (x : Capture) : (setCapture s k x).roll = s.roll := rfl
@[simp] theorem setCapture_tx (k : Nat) (x : Capture) : (setCapture s k x).tx = s.tx := rfl
@[simp] theorem setCapture_cipher (k : Nat) (x : Capture) : (setCapture s k x).cipher = s.cipher := rfl
@[simp] theorem setCapture_prefect (k : Nat) (x : Capture) : (setCapture s k x).prefect = s.prefect := rfl
@[simp] theorem setCapture_tiles (k : Nat) (x : Capture) : (setCapture s k x).tiles = s.tiles := rfl
@[simp] theorem setCapture_mesh (k : Nat) (x : Capture) : (setCapture s k x).mesh = s.mesh := rfl
@[simp] theorem setCapture_pace (k : Nat) (x : Capture) : (setCapture s k x).pace = s.pace := rfl
@[simp] theorem setCapture_fault (k : Nat) (x : Capture) : (setCapture s k x).fault = s.fault := rfl
@[simp] theorem setCapture_molfen (k : Nat) (x : Capture) : (setCapture s k x).molfen = s.molfen := rfl
@[simp] theorem setCapture_stack (k : Nat) (x : Capture) : (setCapture s k x).stack = s.stack := rfl
@[simp] theorem setCapture_snap (k : Nat) (x : Capture) : (setCapture s k x).snap = s.snap := rfl
@[simp] theorem setCapture_saved (k : Nat) (x : Capture) : (setCapture s k x).saved = s.saved := rfl
@[simp] theorem setCapture_sweep_hits (k : Nat) (x : Capture) : (setCapture s k x).sweep.hits = s.sweep.hits := rfl
@[simp] theorem setCapture_sweep_epochs (k : Nat) (x : Capture) : (setCapture s k x).sweep.epochs = s.sweep.epochs := rfl
@[simp] theorem setCapture_sweep_masks (k : Nat) (x : Capture) : (setCapture s k x).sweep.masks = s.sweep.masks := rfl
@[simp] theorem setCapture_sweep_requests (k : Nat) (x : Capture) : (setCapture s k x).sweep.requests = s.sweep.requests := rfl
@[simp] theorem setCapture_sweep_ring (k : Nat) (x : Capture) : (setCapture s k x).sweep.ring = s.sweep.ring := rfl
@[simp] theorem setCapture_sweep_ringCount (k : Nat) (x : Capture) : (setCapture s k x).sweep.ringCount = s.sweep.ringCount := rfl
@[simp] theorem setCapture_sweep_nextDseq (k : Nat) (x : Capture) : (setCapture s k x).sweep.nextDseq = s.sweep.nextDseq := rfl
@[simp] theorem setCapture_sweep_dseqReserved (k : Nat) (x : Capture) : (setCapture s k x).sweep.dseqReserved = s.sweep.dseqReserved := rfl
@[simp] theorem setCapture_sweep_lastRound (k : Nat) (x : Capture) : (setCapture s k x).sweep.lastRound = s.sweep.lastRound := rfl
@[simp] theorem setCapture_sweep_gaspZero (k : Nat) (x : Capture) : (setCapture s k x).sweep.gaspZero = s.sweep.gaspZero := rfl
@[simp] theorem setCapture_sweep_cDet (k : Nat) (x : Capture) : (setCapture s k x).sweep.cDet = s.sweep.cDet := rfl
@[simp] theorem setCapture_sweep_cGrant (k : Nat) (x : Capture) : (setCapture s k x).sweep.cGrant = s.sweep.cGrant := rfl
@[simp] theorem setCapture_sweep_cRefuse (k : Nat) (x : Capture) : (setCapture s k x).sweep.cRefuse = s.sweep.cRefuse := rfl
@[simp] theorem setCapture_sweep_cCause (k : Nat) (x : Capture) : (setCapture s k x).sweep.cCause = s.sweep.cCause := rfl
@[simp] theorem setCapture_sweep_cSuppress (k : Nat) (x : Capture) : (setCapture s k x).sweep.cSuppress = s.sweep.cSuppress := rfl
@[simp] theorem setCapture_sweep_cLife (k : Nat) (x : Capture) : (setCapture s k x).sweep.cLife = s.sweep.cLife := rfl
@[simp] theorem setCapture_sweep_account (k : Nat) (x : Capture) : (setCapture s k x).sweep.account = s.sweep.account := rfl
@[simp] theorem captureOf_setCapture (k : Nat) (x : Capture) : captureOf (setCapture s k x) k = x := tabGet_set_self _ _ _ _
@[simp] theorem captureOf_setCapture_other (k : Nat) (x : Capture) (j : Nat) (hj : j ≠ k) : captureOf (setCapture s k x) j = captureOf s j := tabGet_set_other _ _ _ _ hj
@[simp] theorem laneOf_setCapture (k : Nat) (x : Capture) (j : Nat) : laneOf (setCapture s k x) j = laneOf s j := rfl
@[simp] theorem headOf_setCapture (k : Nat) (x : Capture) (j : Nat) : headOf (setCapture s k x) j = headOf s j := rfl
@[simp] theorem cageOf_setCapture (k : Nat) (x : Capture) (j : Nat) : cageOf (setCapture s k x) j = cageOf s j := rfl
@[simp] theorem entryOf_setCapture (k : Nat) (x : Capture) (j : Nat) : entryOf (setCapture s k x) j = entryOf s j := rfl
@[simp] theorem accountOf_setCapture (k : Nat) (x : Capture) (j : Nat) : accountOf (setCapture s k x) j = accountOf s j := rfl
@[simp] theorem engineOf_setCapture (k : Nat) (x : Capture) (j : Nat) : engineOf (setCapture s k x) j = engineOf s j := rfl
@[simp] theorem keyOf_setCapture (k : Nat) (x : Capture) (j : Nat) : keyOf (setCapture s k x) j = keyOf s j := rfl
@[simp] theorem tileOf_setCapture (k : Nat) (x : Capture) (j : Nat) : tileOf (setCapture s k x) j = tileOf s j := rfl
@[simp] theorem channelOf_setCapture (k : Nat) (x : Capture) (j : Nat) : channelOf (setCapture s k x) j = channelOf s j := rfl
@[simp] theorem islandOf_setCapture (k : Nat) (x : Capture) (j : Nat) : islandOf (setCapture s k x) j = islandOf s j := rfl
@[simp] theorem domainOf_setCapture (k : Nat) (x : Capture) (j : Nat) : domainOf (setCapture s k x) j = domainOf s j := rfl
@[simp] theorem cardOf_setCapture (k : Nat) (x : Capture) (j : Nat) : cardOf (setCapture s k x) j = cardOf s j := rfl
@[simp] theorem packageOf_setCapture (k : Nat) (x : Capture) (j : Nat) : packageOf (setCapture s k x) j = packageOf s j := rfl
@[simp] theorem streamOf_setCapture (k : Nat) (x : Capture) (j : Nat) : streamOf (setCapture s k x) j = streamOf s j := rfl
@[simp] theorem beamsOf_setCapture (k : Nat) (x : Capture) (j : Nat) : beamsOf (setCapture s k x) j = beamsOf s j := rfl
@[simp] theorem physOf_setCapture (k : Nat) (x : Capture) (j : Nat) : physOf (setCapture s k x) j = physOf s j := rfl
@[simp] theorem timerOf_setCapture (k : Nat) (x : Capture) (j : Nat) : timerOf (setCapture s k x) j = timerOf s j := rfl
@[simp] theorem bellOf_setCapture (k : Nat) (x : Capture) (j : Nat) : bellOf (setCapture s k x) j = bellOf s j := rfl
@[simp] theorem xferOf_setCapture (k : Nat) (x : Capture) (j : Nat) : xferOf (setCapture s k x) j = xferOf s j := rfl
@[simp] theorem heldOf_setCapture (k : Nat) (x : Capture) (j : Nat) : heldOf (setCapture s k x) j = heldOf s j := rfl

/-! ### setEngine -/

@[simp] theorem setEngine_pending (k : Nat) (x : Engine) : (setEngine s k x).pending = s.pending := rfl
@[simp] theorem setEngine_freeCount (k : Nat) (x : Engine) : (setEngine s k x).freeCount = s.freeCount := rfl
@[simp] theorem setEngine_answer (k : Nat) (x : Engine) : (setEngine s k x).answer = s.answer := rfl
@[simp] theorem setEngine_outbox (k : Nat) (x : Engine) : (setEngine s k x).outbox = s.outbox := rfl
@[simp] theorem setEngine_settings (k : Nat) (x : Engine) : (setEngine s k x).settings = s.settings := rfl
@[simp] theorem setEngine_mode (k : Nat) (x : Engine) : (setEngine s k x).mode = s.mode := rfl
@[simp] theorem setEngine_power (k : Nat) (x : Engine) : (setEngine s k x).power = s.power := rfl
@[simp] theorem setEngine_time (k : Nat) (x : Engine) : (setEngine s k x).time = s.time := rfl
@[simp] theorem setEngine_lane (k : Nat) (x : Engine) : (setEngine s k x).lane = s.lane := rfl
@[simp] theorem setEngine_rx (k : Nat) (x : Engine) : (setEngine s k x).rx = s.rx := rfl
@[simp] theorem setEngine_sweep (k : Nat) (x : Engine) : (setEngine s k x).sweep = s.sweep := rfl
@[simp] theorem setEngine_verdict (k : Nat) (x : Engine) : (setEngine s k x).verdict = s.verdict := rfl
@[simp] theorem setEngine_roll (k : Nat) (x : Engine) : (setEngine s k x).roll = s.roll := rfl
@[simp] theorem setEngine_tx (k : Nat) (x : Engine) : (setEngine s k x).tx = s.tx := rfl
@[simp] theorem setEngine_prefect (k : Nat) (x : Engine) : (setEngine s k x).prefect = s.prefect := rfl
@[simp] theorem setEngine_tiles (k : Nat) (x : Engine) : (setEngine s k x).tiles = s.tiles := rfl
@[simp] theorem setEngine_mesh (k : Nat) (x : Engine) : (setEngine s k x).mesh = s.mesh := rfl
@[simp] theorem setEngine_pace (k : Nat) (x : Engine) : (setEngine s k x).pace = s.pace := rfl
@[simp] theorem setEngine_fault (k : Nat) (x : Engine) : (setEngine s k x).fault = s.fault := rfl
@[simp] theorem setEngine_molfen (k : Nat) (x : Engine) : (setEngine s k x).molfen = s.molfen := rfl
@[simp] theorem setEngine_stack (k : Nat) (x : Engine) : (setEngine s k x).stack = s.stack := rfl
@[simp] theorem setEngine_snap (k : Nat) (x : Engine) : (setEngine s k x).snap = s.snap := rfl
@[simp] theorem setEngine_saved (k : Nat) (x : Engine) : (setEngine s k x).saved = s.saved := rfl
@[simp] theorem setEngine_cipher_keys (k : Nat) (x : Engine) : (setEngine s k x).cipher.keys = s.cipher.keys := rfl
@[simp] theorem setEngine_cipher_unwrapFails (k : Nat) (x : Engine) : (setEngine s k x).cipher.unwrapFails = s.cipher.unwrapFails := rfl
@[simp] theorem engineOf_setEngine (k : Nat) (x : Engine) : engineOf (setEngine s k x) k = x := tabGet_set_self _ _ _ _
@[simp] theorem engineOf_setEngine_other (k : Nat) (x : Engine) (j : Nat) (hj : j ≠ k) : engineOf (setEngine s k x) j = engineOf s j := tabGet_set_other _ _ _ _ hj
@[simp] theorem laneOf_setEngine (k : Nat) (x : Engine) (j : Nat) : laneOf (setEngine s k x) j = laneOf s j := rfl
@[simp] theorem headOf_setEngine (k : Nat) (x : Engine) (j : Nat) : headOf (setEngine s k x) j = headOf s j := rfl
@[simp] theorem cageOf_setEngine (k : Nat) (x : Engine) (j : Nat) : cageOf (setEngine s k x) j = cageOf s j := rfl
@[simp] theorem entryOf_setEngine (k : Nat) (x : Engine) (j : Nat) : entryOf (setEngine s k x) j = entryOf s j := rfl
@[simp] theorem accountOf_setEngine (k : Nat) (x : Engine) (j : Nat) : accountOf (setEngine s k x) j = accountOf s j := rfl
@[simp] theorem captureOf_setEngine (k : Nat) (x : Engine) (j : Nat) : captureOf (setEngine s k x) j = captureOf s j := rfl
@[simp] theorem keyOf_setEngine (k : Nat) (x : Engine) (j : Nat) : keyOf (setEngine s k x) j = keyOf s j := rfl
@[simp] theorem tileOf_setEngine (k : Nat) (x : Engine) (j : Nat) : tileOf (setEngine s k x) j = tileOf s j := rfl
@[simp] theorem channelOf_setEngine (k : Nat) (x : Engine) (j : Nat) : channelOf (setEngine s k x) j = channelOf s j := rfl
@[simp] theorem islandOf_setEngine (k : Nat) (x : Engine) (j : Nat) : islandOf (setEngine s k x) j = islandOf s j := rfl
@[simp] theorem domainOf_setEngine (k : Nat) (x : Engine) (j : Nat) : domainOf (setEngine s k x) j = domainOf s j := rfl
@[simp] theorem cardOf_setEngine (k : Nat) (x : Engine) (j : Nat) : cardOf (setEngine s k x) j = cardOf s j := rfl
@[simp] theorem packageOf_setEngine (k : Nat) (x : Engine) (j : Nat) : packageOf (setEngine s k x) j = packageOf s j := rfl
@[simp] theorem streamOf_setEngine (k : Nat) (x : Engine) (j : Nat) : streamOf (setEngine s k x) j = streamOf s j := rfl
@[simp] theorem beamsOf_setEngine (k : Nat) (x : Engine) (j : Nat) : beamsOf (setEngine s k x) j = beamsOf s j := rfl
@[simp] theorem physOf_setEngine (k : Nat) (x : Engine) (j : Nat) : physOf (setEngine s k x) j = physOf s j := rfl
@[simp] theorem timerOf_setEngine (k : Nat) (x : Engine) (j : Nat) : timerOf (setEngine s k x) j = timerOf s j := rfl
@[simp] theorem bellOf_setEngine (k : Nat) (x : Engine) (j : Nat) : bellOf (setEngine s k x) j = bellOf s j := rfl
@[simp] theorem xferOf_setEngine (k : Nat) (x : Engine) (j : Nat) : xferOf (setEngine s k x) j = xferOf s j := rfl
@[simp] theorem heldOf_setEngine (k : Nat) (x : Engine) (j : Nat) : heldOf (setEngine s k x) j = heldOf s j := rfl

/-! ### setKey -/

@[simp] theorem setKey_pending (k : Nat) (x : KeySlot) : (setKey s k x).pending = s.pending := rfl
@[simp] theorem setKey_freeCount (k : Nat) (x : KeySlot) : (setKey s k x).freeCount = s.freeCount := rfl
@[simp] theorem setKey_answer (k : Nat) (x : KeySlot) : (setKey s k x).answer = s.answer := rfl
@[simp] theorem setKey_outbox (k : Nat) (x : KeySlot) : (setKey s k x).outbox = s.outbox := rfl
@[simp] theorem setKey_settings (k : Nat) (x : KeySlot) : (setKey s k x).settings = s.settings := rfl
@[simp] theorem setKey_mode (k : Nat) (x : KeySlot) : (setKey s k x).mode = s.mode := rfl
@[simp] theorem setKey_power (k : Nat) (x : KeySlot) : (setKey s k x).power = s.power := rfl
@[simp] theorem setKey_time (k : Nat) (x : KeySlot) : (setKey s k x).time = s.time := rfl
@[simp] theorem setKey_lane (k : Nat) (x : KeySlot) : (setKey s k x).lane = s.lane := rfl
@[simp] theorem setKey_rx (k : Nat) (x : KeySlot) : (setKey s k x).rx = s.rx := rfl
@[simp] theorem setKey_sweep (k : Nat) (x : KeySlot) : (setKey s k x).sweep = s.sweep := rfl
@[simp] theorem setKey_verdict (k : Nat) (x : KeySlot) : (setKey s k x).verdict = s.verdict := rfl
@[simp] theorem setKey_roll (k : Nat) (x : KeySlot) : (setKey s k x).roll = s.roll := rfl
@[simp] theorem setKey_tx (k : Nat) (x : KeySlot) : (setKey s k x).tx = s.tx := rfl
@[simp] theorem setKey_prefect (k : Nat) (x : KeySlot) : (setKey s k x).prefect = s.prefect := rfl
@[simp] theorem setKey_tiles (k : Nat) (x : KeySlot) : (setKey s k x).tiles = s.tiles := rfl
@[simp] theorem setKey_mesh (k : Nat) (x : KeySlot) : (setKey s k x).mesh = s.mesh := rfl
@[simp] theorem setKey_pace (k : Nat) (x : KeySlot) : (setKey s k x).pace = s.pace := rfl
@[simp] theorem setKey_fault (k : Nat) (x : KeySlot) : (setKey s k x).fault = s.fault := rfl
@[simp] theorem setKey_molfen (k : Nat) (x : KeySlot) : (setKey s k x).molfen = s.molfen := rfl
@[simp] theorem setKey_stack (k : Nat) (x : KeySlot) : (setKey s k x).stack = s.stack := rfl
@[simp] theorem setKey_snap (k : Nat) (x : KeySlot) : (setKey s k x).snap = s.snap := rfl
@[simp] theorem setKey_saved (k : Nat) (x : KeySlot) : (setKey s k x).saved = s.saved := rfl
@[simp] theorem setKey_cipher_engines (k : Nat) (x : KeySlot) : (setKey s k x).cipher.engines = s.cipher.engines := rfl
@[simp] theorem setKey_cipher_unwrapFails (k : Nat) (x : KeySlot) : (setKey s k x).cipher.unwrapFails = s.cipher.unwrapFails := rfl
@[simp] theorem keyOf_setKey (k : Nat) (x : KeySlot) : keyOf (setKey s k x) k = x := tabGet_set_self _ _ _ _
@[simp] theorem keyOf_setKey_other (k : Nat) (x : KeySlot) (j : Nat) (hj : j ≠ k) : keyOf (setKey s k x) j = keyOf s j := tabGet_set_other _ _ _ _ hj
@[simp] theorem laneOf_setKey (k : Nat) (x : KeySlot) (j : Nat) : laneOf (setKey s k x) j = laneOf s j := rfl
@[simp] theorem headOf_setKey (k : Nat) (x : KeySlot) (j : Nat) : headOf (setKey s k x) j = headOf s j := rfl
@[simp] theorem cageOf_setKey (k : Nat) (x : KeySlot) (j : Nat) : cageOf (setKey s k x) j = cageOf s j := rfl
@[simp] theorem entryOf_setKey (k : Nat) (x : KeySlot) (j : Nat) : entryOf (setKey s k x) j = entryOf s j := rfl
@[simp] theorem accountOf_setKey (k : Nat) (x : KeySlot) (j : Nat) : accountOf (setKey s k x) j = accountOf s j := rfl
@[simp] theorem captureOf_setKey (k : Nat) (x : KeySlot) (j : Nat) : captureOf (setKey s k x) j = captureOf s j := rfl
@[simp] theorem engineOf_setKey (k : Nat) (x : KeySlot) (j : Nat) : engineOf (setKey s k x) j = engineOf s j := rfl
@[simp] theorem tileOf_setKey (k : Nat) (x : KeySlot) (j : Nat) : tileOf (setKey s k x) j = tileOf s j := rfl
@[simp] theorem channelOf_setKey (k : Nat) (x : KeySlot) (j : Nat) : channelOf (setKey s k x) j = channelOf s j := rfl
@[simp] theorem islandOf_setKey (k : Nat) (x : KeySlot) (j : Nat) : islandOf (setKey s k x) j = islandOf s j := rfl
@[simp] theorem domainOf_setKey (k : Nat) (x : KeySlot) (j : Nat) : domainOf (setKey s k x) j = domainOf s j := rfl
@[simp] theorem cardOf_setKey (k : Nat) (x : KeySlot) (j : Nat) : cardOf (setKey s k x) j = cardOf s j := rfl
@[simp] theorem packageOf_setKey (k : Nat) (x : KeySlot) (j : Nat) : packageOf (setKey s k x) j = packageOf s j := rfl
@[simp] theorem streamOf_setKey (k : Nat) (x : KeySlot) (j : Nat) : streamOf (setKey s k x) j = streamOf s j := rfl
@[simp] theorem beamsOf_setKey (k : Nat) (x : KeySlot) (j : Nat) : beamsOf (setKey s k x) j = beamsOf s j := rfl
@[simp] theorem physOf_setKey (k : Nat) (x : KeySlot) (j : Nat) : physOf (setKey s k x) j = physOf s j := rfl
@[simp] theorem timerOf_setKey (k : Nat) (x : KeySlot) (j : Nat) : timerOf (setKey s k x) j = timerOf s j := rfl
@[simp] theorem bellOf_setKey (k : Nat) (x : KeySlot) (j : Nat) : bellOf (setKey s k x) j = bellOf s j := rfl
@[simp] theorem xferOf_setKey (k : Nat) (x : KeySlot) (j : Nat) : xferOf (setKey s k x) j = xferOf s j := rfl
@[simp] theorem heldOf_setKey (k : Nat) (x : KeySlot) (j : Nat) : heldOf (setKey s k x) j = heldOf s j := rfl

/-! ### setTile -/

@[simp] theorem setTile_pending (k : Nat) (x : Tile) : (setTile s k x).pending = s.pending := rfl
@[simp] theorem setTile_freeCount (k : Nat) (x : Tile) : (setTile s k x).freeCount = s.freeCount := rfl
@[simp] theorem setTile_answer (k : Nat) (x : Tile) : (setTile s k x).answer = s.answer := rfl
@[simp] theorem setTile_outbox (k : Nat) (x : Tile) : (setTile s k x).outbox = s.outbox := rfl
@[simp] theorem setTile_settings (k : Nat) (x : Tile) : (setTile s k x).settings = s.settings := rfl
@[simp] theorem setTile_mode (k : Nat) (x : Tile) : (setTile s k x).mode = s.mode := rfl
@[simp] theorem setTile_power (k : Nat) (x : Tile) : (setTile s k x).power = s.power := rfl
@[simp] theorem setTile_time (k : Nat) (x : Tile) : (setTile s k x).time = s.time := rfl
@[simp] theorem setTile_lane (k : Nat) (x : Tile) : (setTile s k x).lane = s.lane := rfl
@[simp] theorem setTile_rx (k : Nat) (x : Tile) : (setTile s k x).rx = s.rx := rfl
@[simp] theorem setTile_sweep (k : Nat) (x : Tile) : (setTile s k x).sweep = s.sweep := rfl
@[simp] theorem setTile_verdict (k : Nat) (x : Tile) : (setTile s k x).verdict = s.verdict := rfl
@[simp] theorem setTile_roll (k : Nat) (x : Tile) : (setTile s k x).roll = s.roll := rfl
@[simp] theorem setTile_tx (k : Nat) (x : Tile) : (setTile s k x).tx = s.tx := rfl
@[simp] theorem setTile_cipher (k : Nat) (x : Tile) : (setTile s k x).cipher = s.cipher := rfl
@[simp] theorem setTile_prefect (k : Nat) (x : Tile) : (setTile s k x).prefect = s.prefect := rfl
@[simp] theorem setTile_mesh (k : Nat) (x : Tile) : (setTile s k x).mesh = s.mesh := rfl
@[simp] theorem setTile_pace (k : Nat) (x : Tile) : (setTile s k x).pace = s.pace := rfl
@[simp] theorem setTile_fault (k : Nat) (x : Tile) : (setTile s k x).fault = s.fault := rfl
@[simp] theorem setTile_molfen (k : Nat) (x : Tile) : (setTile s k x).molfen = s.molfen := rfl
@[simp] theorem setTile_stack (k : Nat) (x : Tile) : (setTile s k x).stack = s.stack := rfl
@[simp] theorem setTile_snap (k : Nat) (x : Tile) : (setTile s k x).snap = s.snap := rfl
@[simp] theorem setTile_saved (k : Nat) (x : Tile) : (setTile s k x).saved = s.saved := rfl
@[simp] theorem tileOf_setTile (k : Nat) (x : Tile) : tileOf (setTile s k x) k = x := tabGet_set_self _ _ _ _
@[simp] theorem tileOf_setTile_other (k : Nat) (x : Tile) (j : Nat) (hj : j ≠ k) : tileOf (setTile s k x) j = tileOf s j := tabGet_set_other _ _ _ _ hj
@[simp] theorem laneOf_setTile (k : Nat) (x : Tile) (j : Nat) : laneOf (setTile s k x) j = laneOf s j := rfl
@[simp] theorem headOf_setTile (k : Nat) (x : Tile) (j : Nat) : headOf (setTile s k x) j = headOf s j := rfl
@[simp] theorem cageOf_setTile (k : Nat) (x : Tile) (j : Nat) : cageOf (setTile s k x) j = cageOf s j := rfl
@[simp] theorem entryOf_setTile (k : Nat) (x : Tile) (j : Nat) : entryOf (setTile s k x) j = entryOf s j := rfl
@[simp] theorem accountOf_setTile (k : Nat) (x : Tile) (j : Nat) : accountOf (setTile s k x) j = accountOf s j := rfl
@[simp] theorem captureOf_setTile (k : Nat) (x : Tile) (j : Nat) : captureOf (setTile s k x) j = captureOf s j := rfl
@[simp] theorem engineOf_setTile (k : Nat) (x : Tile) (j : Nat) : engineOf (setTile s k x) j = engineOf s j := rfl
@[simp] theorem keyOf_setTile (k : Nat) (x : Tile) (j : Nat) : keyOf (setTile s k x) j = keyOf s j := rfl
@[simp] theorem channelOf_setTile (k : Nat) (x : Tile) (j : Nat) : channelOf (setTile s k x) j = channelOf s j := rfl
@[simp] theorem islandOf_setTile (k : Nat) (x : Tile) (j : Nat) : islandOf (setTile s k x) j = islandOf s j := rfl
@[simp] theorem domainOf_setTile (k : Nat) (x : Tile) (j : Nat) : domainOf (setTile s k x) j = domainOf s j := rfl
@[simp] theorem cardOf_setTile (k : Nat) (x : Tile) (j : Nat) : cardOf (setTile s k x) j = cardOf s j := rfl
@[simp] theorem packageOf_setTile (k : Nat) (x : Tile) (j : Nat) : packageOf (setTile s k x) j = packageOf s j := rfl
@[simp] theorem streamOf_setTile (k : Nat) (x : Tile) (j : Nat) : streamOf (setTile s k x) j = streamOf s j := rfl
@[simp] theorem beamsOf_setTile (k : Nat) (x : Tile) (j : Nat) : beamsOf (setTile s k x) j = beamsOf s j := rfl
@[simp] theorem physOf_setTile (k : Nat) (x : Tile) (j : Nat) : physOf (setTile s k x) j = physOf s j := rfl
@[simp] theorem timerOf_setTile (k : Nat) (x : Tile) (j : Nat) : timerOf (setTile s k x) j = timerOf s j := rfl
@[simp] theorem bellOf_setTile (k : Nat) (x : Tile) (j : Nat) : bellOf (setTile s k x) j = bellOf s j := rfl
@[simp] theorem xferOf_setTile (k : Nat) (x : Tile) (j : Nat) : xferOf (setTile s k x) j = xferOf s j := rfl
@[simp] theorem heldOf_setTile (k : Nat) (x : Tile) (j : Nat) : heldOf (setTile s k x) j = heldOf s j := rfl

/-! ### setChannel -/

@[simp] theorem setChannel_pending (k : Nat) (x : Channel) : (setChannel s k x).pending = s.pending := rfl
@[simp] theorem setChannel_freeCount (k : Nat) (x : Channel) : (setChannel s k x).freeCount = s.freeCount := rfl
@[simp] theorem setChannel_answer (k : Nat) (x : Channel) : (setChannel s k x).answer = s.answer := rfl
@[simp] theorem setChannel_outbox (k : Nat) (x : Channel) : (setChannel s k x).outbox = s.outbox := rfl
@[simp] theorem setChannel_settings (k : Nat) (x : Channel) : (setChannel s k x).settings = s.settings := rfl
@[simp] theorem setChannel_mode (k : Nat) (x : Channel) : (setChannel s k x).mode = s.mode := rfl
@[simp] theorem setChannel_power (k : Nat) (x : Channel) : (setChannel s k x).power = s.power := rfl
@[simp] theorem setChannel_time (k : Nat) (x : Channel) : (setChannel s k x).time = s.time := rfl
@[simp] theorem setChannel_lane (k : Nat) (x : Channel) : (setChannel s k x).lane = s.lane := rfl
@[simp] theorem setChannel_rx (k : Nat) (x : Channel) : (setChannel s k x).rx = s.rx := rfl
@[simp] theorem setChannel_sweep (k : Nat) (x : Channel) : (setChannel s k x).sweep = s.sweep := rfl
@[simp] theorem setChannel_verdict (k : Nat) (x : Channel) : (setChannel s k x).verdict = s.verdict := rfl
@[simp] theorem setChannel_roll (k : Nat) (x : Channel) : (setChannel s k x).roll = s.roll := rfl
@[simp] theorem setChannel_tx (k : Nat) (x : Channel) : (setChannel s k x).tx = s.tx := rfl
@[simp] theorem setChannel_cipher (k : Nat) (x : Channel) : (setChannel s k x).cipher = s.cipher := rfl
@[simp] theorem setChannel_prefect (k : Nat) (x : Channel) : (setChannel s k x).prefect = s.prefect := rfl
@[simp] theorem setChannel_tiles (k : Nat) (x : Channel) : (setChannel s k x).tiles = s.tiles := rfl
@[simp] theorem setChannel_pace (k : Nat) (x : Channel) : (setChannel s k x).pace = s.pace := rfl
@[simp] theorem setChannel_fault (k : Nat) (x : Channel) : (setChannel s k x).fault = s.fault := rfl
@[simp] theorem setChannel_molfen (k : Nat) (x : Channel) : (setChannel s k x).molfen = s.molfen := rfl
@[simp] theorem setChannel_stack (k : Nat) (x : Channel) : (setChannel s k x).stack = s.stack := rfl
@[simp] theorem setChannel_snap (k : Nat) (x : Channel) : (setChannel s k x).snap = s.snap := rfl
@[simp] theorem setChannel_saved (k : Nat) (x : Channel) : (setChannel s k x).saved = s.saved := rfl
@[simp] theorem setChannel_mesh_mem (k : Nat) (x : Channel) : (setChannel s k x).mesh.mem = s.mesh.mem := rfl
@[simp] theorem setChannel_mesh_poison (k : Nat) (x : Channel) : (setChannel s k x).mesh.poison = s.mesh.poison := rfl
@[simp] theorem setChannel_mesh_responses (k : Nat) (x : Channel) : (setChannel s k x).mesh.responses = s.mesh.responses := rfl
@[simp] theorem setChannel_mesh_outstanding (k : Nat) (x : Channel) : (setChannel s k x).mesh.outstanding = s.mesh.outstanding := rfl
@[simp] theorem setChannel_mesh_quarantine (k : Nat) (x : Channel) : (setChannel s k x).mesh.quarantine = s.mesh.quarantine := rfl
@[simp] theorem setChannel_mesh_failedColumn (k : Nat) (x : Channel) : (setChannel s k x).mesh.failedColumn = s.mesh.failedColumn := rfl
@[simp] theorem setChannel_mesh_timeouts (k : Nat) (x : Channel) : (setChannel s k x).mesh.timeouts = s.mesh.timeouts := rfl
@[simp] theorem setChannel_mesh_late (k : Nat) (x : Channel) : (setChannel s k x).mesh.late = s.mesh.late := rfl
@[simp] theorem setChannel_mesh_linkErrors (k : Nat) (x : Channel) : (setChannel s k x).mesh.linkErrors = s.mesh.linkErrors := rfl
@[simp] theorem setChannel_mesh_discards (k : Nat) (x : Channel) : (setChannel s k x).mesh.discards = s.mesh.discards := rfl
@[simp] theorem setChannel_mesh_sent (k : Nat) (x : Channel) : (setChannel s k x).mesh.sent = s.mesh.sent := rfl
@[simp] theorem setChannel_mesh_returned (k : Nat) (x : Channel) : (setChannel s k x).mesh.returned = s.mesh.returned := rfl
@[simp] theorem setChannel_mesh_retired (k : Nat) (x : Channel) : (setChannel s k x).mesh.retired = s.mesh.retired := rfl
@[simp] theorem setChannel_mesh_probeCount (k : Nat) (x : Channel) : (setChannel s k x).mesh.probeCount = s.mesh.probeCount := rfl
@[simp] theorem setChannel_mesh_trace (k : Nat) (x : Channel) : (setChannel s k x).mesh.trace = s.mesh.trace := rfl
@[simp] theorem setChannel_mesh_traceWritten (k : Nat) (x : Channel) : (setChannel s k x).mesh.traceWritten = s.mesh.traceWritten := rfl
@[simp] theorem channelOf_setChannel (k : Nat) (x : Channel) : channelOf (setChannel s k x) k = x := tabGet_set_self _ _ _ _
@[simp] theorem channelOf_setChannel_other (k : Nat) (x : Channel) (j : Nat) (hj : j ≠ k) : channelOf (setChannel s k x) j = channelOf s j := tabGet_set_other _ _ _ _ hj
@[simp] theorem laneOf_setChannel (k : Nat) (x : Channel) (j : Nat) : laneOf (setChannel s k x) j = laneOf s j := rfl
@[simp] theorem headOf_setChannel (k : Nat) (x : Channel) (j : Nat) : headOf (setChannel s k x) j = headOf s j := rfl
@[simp] theorem cageOf_setChannel (k : Nat) (x : Channel) (j : Nat) : cageOf (setChannel s k x) j = cageOf s j := rfl
@[simp] theorem entryOf_setChannel (k : Nat) (x : Channel) (j : Nat) : entryOf (setChannel s k x) j = entryOf s j := rfl
@[simp] theorem accountOf_setChannel (k : Nat) (x : Channel) (j : Nat) : accountOf (setChannel s k x) j = accountOf s j := rfl
@[simp] theorem captureOf_setChannel (k : Nat) (x : Channel) (j : Nat) : captureOf (setChannel s k x) j = captureOf s j := rfl
@[simp] theorem engineOf_setChannel (k : Nat) (x : Channel) (j : Nat) : engineOf (setChannel s k x) j = engineOf s j := rfl
@[simp] theorem keyOf_setChannel (k : Nat) (x : Channel) (j : Nat) : keyOf (setChannel s k x) j = keyOf s j := rfl
@[simp] theorem tileOf_setChannel (k : Nat) (x : Channel) (j : Nat) : tileOf (setChannel s k x) j = tileOf s j := rfl
@[simp] theorem islandOf_setChannel (k : Nat) (x : Channel) (j : Nat) : islandOf (setChannel s k x) j = islandOf s j := rfl
@[simp] theorem domainOf_setChannel (k : Nat) (x : Channel) (j : Nat) : domainOf (setChannel s k x) j = domainOf s j := rfl
@[simp] theorem cardOf_setChannel (k : Nat) (x : Channel) (j : Nat) : cardOf (setChannel s k x) j = cardOf s j := rfl
@[simp] theorem packageOf_setChannel (k : Nat) (x : Channel) (j : Nat) : packageOf (setChannel s k x) j = packageOf s j := rfl
@[simp] theorem streamOf_setChannel (k : Nat) (x : Channel) (j : Nat) : streamOf (setChannel s k x) j = streamOf s j := rfl
@[simp] theorem beamsOf_setChannel (k : Nat) (x : Channel) (j : Nat) : beamsOf (setChannel s k x) j = beamsOf s j := rfl
@[simp] theorem physOf_setChannel (k : Nat) (x : Channel) (j : Nat) : physOf (setChannel s k x) j = physOf s j := rfl
@[simp] theorem timerOf_setChannel (k : Nat) (x : Channel) (j : Nat) : timerOf (setChannel s k x) j = timerOf s j := rfl
@[simp] theorem bellOf_setChannel (k : Nat) (x : Channel) (j : Nat) : bellOf (setChannel s k x) j = bellOf s j := rfl
@[simp] theorem xferOf_setChannel (k : Nat) (x : Channel) (j : Nat) : xferOf (setChannel s k x) j = xferOf s j := rfl
@[simp] theorem heldOf_setChannel (k : Nat) (x : Channel) (j : Nat) : heldOf (setChannel s k x) j = heldOf s j := rfl

/-! ### setIsland -/

@[simp] theorem setIsland_pending (k : Nat) (x : Island) : (setIsland s k x).pending = s.pending := rfl
@[simp] theorem setIsland_freeCount (k : Nat) (x : Island) : (setIsland s k x).freeCount = s.freeCount := rfl
@[simp] theorem setIsland_answer (k : Nat) (x : Island) : (setIsland s k x).answer = s.answer := rfl
@[simp] theorem setIsland_outbox (k : Nat) (x : Island) : (setIsland s k x).outbox = s.outbox := rfl
@[simp] theorem setIsland_settings (k : Nat) (x : Island) : (setIsland s k x).settings = s.settings := rfl
@[simp] theorem setIsland_mode (k : Nat) (x : Island) : (setIsland s k x).mode = s.mode := rfl
@[simp] theorem setIsland_power (k : Nat) (x : Island) : (setIsland s k x).power = s.power := rfl
@[simp] theorem setIsland_time (k : Nat) (x : Island) : (setIsland s k x).time = s.time := rfl
@[simp] theorem setIsland_lane (k : Nat) (x : Island) : (setIsland s k x).lane = s.lane := rfl
@[simp] theorem setIsland_rx (k : Nat) (x : Island) : (setIsland s k x).rx = s.rx := rfl
@[simp] theorem setIsland_sweep (k : Nat) (x : Island) : (setIsland s k x).sweep = s.sweep := rfl
@[simp] theorem setIsland_verdict (k : Nat) (x : Island) : (setIsland s k x).verdict = s.verdict := rfl
@[simp] theorem setIsland_roll (k : Nat) (x : Island) : (setIsland s k x).roll = s.roll := rfl
@[simp] theorem setIsland_tx (k : Nat) (x : Island) : (setIsland s k x).tx = s.tx := rfl
@[simp] theorem setIsland_cipher (k : Nat) (x : Island) : (setIsland s k x).cipher = s.cipher := rfl
@[simp] theorem setIsland_prefect (k : Nat) (x : Island) : (setIsland s k x).prefect = s.prefect := rfl
@[simp] theorem setIsland_tiles (k : Nat) (x : Island) : (setIsland s k x).tiles = s.tiles := rfl
@[simp] theorem setIsland_mesh (k : Nat) (x : Island) : (setIsland s k x).mesh = s.mesh := rfl
@[simp] theorem setIsland_fault (k : Nat) (x : Island) : (setIsland s k x).fault = s.fault := rfl
@[simp] theorem setIsland_molfen (k : Nat) (x : Island) : (setIsland s k x).molfen = s.molfen := rfl
@[simp] theorem setIsland_stack (k : Nat) (x : Island) : (setIsland s k x).stack = s.stack := rfl
@[simp] theorem setIsland_snap (k : Nat) (x : Island) : (setIsland s k x).snap = s.snap := rfl
@[simp] theorem setIsland_saved (k : Nat) (x : Island) : (setIsland s k x).saved = s.saved := rfl
@[simp] theorem setIsland_pace_domains (k : Nat) (x : Island) : (setIsland s k x).pace.domains = s.pace.domains := rfl
@[simp] theorem islandOf_setIsland (k : Nat) (x : Island) : islandOf (setIsland s k x) k = x := tabGet_set_self _ _ _ _
@[simp] theorem islandOf_setIsland_other (k : Nat) (x : Island) (j : Nat) (hj : j ≠ k) : islandOf (setIsland s k x) j = islandOf s j := tabGet_set_other _ _ _ _ hj
@[simp] theorem laneOf_setIsland (k : Nat) (x : Island) (j : Nat) : laneOf (setIsland s k x) j = laneOf s j := rfl
@[simp] theorem headOf_setIsland (k : Nat) (x : Island) (j : Nat) : headOf (setIsland s k x) j = headOf s j := rfl
@[simp] theorem cageOf_setIsland (k : Nat) (x : Island) (j : Nat) : cageOf (setIsland s k x) j = cageOf s j := rfl
@[simp] theorem entryOf_setIsland (k : Nat) (x : Island) (j : Nat) : entryOf (setIsland s k x) j = entryOf s j := rfl
@[simp] theorem accountOf_setIsland (k : Nat) (x : Island) (j : Nat) : accountOf (setIsland s k x) j = accountOf s j := rfl
@[simp] theorem captureOf_setIsland (k : Nat) (x : Island) (j : Nat) : captureOf (setIsland s k x) j = captureOf s j := rfl
@[simp] theorem engineOf_setIsland (k : Nat) (x : Island) (j : Nat) : engineOf (setIsland s k x) j = engineOf s j := rfl
@[simp] theorem keyOf_setIsland (k : Nat) (x : Island) (j : Nat) : keyOf (setIsland s k x) j = keyOf s j := rfl
@[simp] theorem tileOf_setIsland (k : Nat) (x : Island) (j : Nat) : tileOf (setIsland s k x) j = tileOf s j := rfl
@[simp] theorem channelOf_setIsland (k : Nat) (x : Island) (j : Nat) : channelOf (setIsland s k x) j = channelOf s j := rfl
@[simp] theorem domainOf_setIsland (k : Nat) (x : Island) (j : Nat) : domainOf (setIsland s k x) j = domainOf s j := rfl
@[simp] theorem cardOf_setIsland (k : Nat) (x : Island) (j : Nat) : cardOf (setIsland s k x) j = cardOf s j := rfl
@[simp] theorem packageOf_setIsland (k : Nat) (x : Island) (j : Nat) : packageOf (setIsland s k x) j = packageOf s j := rfl
@[simp] theorem streamOf_setIsland (k : Nat) (x : Island) (j : Nat) : streamOf (setIsland s k x) j = streamOf s j := rfl
@[simp] theorem beamsOf_setIsland (k : Nat) (x : Island) (j : Nat) : beamsOf (setIsland s k x) j = beamsOf s j := rfl
@[simp] theorem physOf_setIsland (k : Nat) (x : Island) (j : Nat) : physOf (setIsland s k x) j = physOf s j := rfl
@[simp] theorem timerOf_setIsland (k : Nat) (x : Island) (j : Nat) : timerOf (setIsland s k x) j = timerOf s j := rfl
@[simp] theorem bellOf_setIsland (k : Nat) (x : Island) (j : Nat) : bellOf (setIsland s k x) j = bellOf s j := rfl
@[simp] theorem xferOf_setIsland (k : Nat) (x : Island) (j : Nat) : xferOf (setIsland s k x) j = xferOf s j := rfl
@[simp] theorem heldOf_setIsland (k : Nat) (x : Island) (j : Nat) : heldOf (setIsland s k x) j = heldOf s j := rfl

/-! ### setDomain -/

@[simp] theorem setDomain_pending (k : Nat) (x : Domain) : (setDomain s k x).pending = s.pending := rfl
@[simp] theorem setDomain_freeCount (k : Nat) (x : Domain) : (setDomain s k x).freeCount = s.freeCount := rfl
@[simp] theorem setDomain_answer (k : Nat) (x : Domain) : (setDomain s k x).answer = s.answer := rfl
@[simp] theorem setDomain_outbox (k : Nat) (x : Domain) : (setDomain s k x).outbox = s.outbox := rfl
@[simp] theorem setDomain_settings (k : Nat) (x : Domain) : (setDomain s k x).settings = s.settings := rfl
@[simp] theorem setDomain_mode (k : Nat) (x : Domain) : (setDomain s k x).mode = s.mode := rfl
@[simp] theorem setDomain_power (k : Nat) (x : Domain) : (setDomain s k x).power = s.power := rfl
@[simp] theorem setDomain_time (k : Nat) (x : Domain) : (setDomain s k x).time = s.time := rfl
@[simp] theorem setDomain_lane (k : Nat) (x : Domain) : (setDomain s k x).lane = s.lane := rfl
@[simp] theorem setDomain_rx (k : Nat) (x : Domain) : (setDomain s k x).rx = s.rx := rfl
@[simp] theorem setDomain_sweep (k : Nat) (x : Domain) : (setDomain s k x).sweep = s.sweep := rfl
@[simp] theorem setDomain_verdict (k : Nat) (x : Domain) : (setDomain s k x).verdict = s.verdict := rfl
@[simp] theorem setDomain_roll (k : Nat) (x : Domain) : (setDomain s k x).roll = s.roll := rfl
@[simp] theorem setDomain_tx (k : Nat) (x : Domain) : (setDomain s k x).tx = s.tx := rfl
@[simp] theorem setDomain_cipher (k : Nat) (x : Domain) : (setDomain s k x).cipher = s.cipher := rfl
@[simp] theorem setDomain_prefect (k : Nat) (x : Domain) : (setDomain s k x).prefect = s.prefect := rfl
@[simp] theorem setDomain_tiles (k : Nat) (x : Domain) : (setDomain s k x).tiles = s.tiles := rfl
@[simp] theorem setDomain_mesh (k : Nat) (x : Domain) : (setDomain s k x).mesh = s.mesh := rfl
@[simp] theorem setDomain_fault (k : Nat) (x : Domain) : (setDomain s k x).fault = s.fault := rfl
@[simp] theorem setDomain_molfen (k : Nat) (x : Domain) : (setDomain s k x).molfen = s.molfen := rfl
@[simp] theorem setDomain_stack (k : Nat) (x : Domain) : (setDomain s k x).stack = s.stack := rfl
@[simp] theorem setDomain_snap (k : Nat) (x : Domain) : (setDomain s k x).snap = s.snap := rfl
@[simp] theorem setDomain_saved (k : Nat) (x : Domain) : (setDomain s k x).saved = s.saved := rfl
@[simp] theorem setDomain_pace_islands (k : Nat) (x : Domain) : (setDomain s k x).pace.islands = s.pace.islands := rfl
@[simp] theorem domainOf_setDomain (k : Nat) (x : Domain) : domainOf (setDomain s k x) k = x := tabGet_set_self _ _ _ _
@[simp] theorem domainOf_setDomain_other (k : Nat) (x : Domain) (j : Nat) (hj : j ≠ k) : domainOf (setDomain s k x) j = domainOf s j := tabGet_set_other _ _ _ _ hj
@[simp] theorem laneOf_setDomain (k : Nat) (x : Domain) (j : Nat) : laneOf (setDomain s k x) j = laneOf s j := rfl
@[simp] theorem headOf_setDomain (k : Nat) (x : Domain) (j : Nat) : headOf (setDomain s k x) j = headOf s j := rfl
@[simp] theorem cageOf_setDomain (k : Nat) (x : Domain) (j : Nat) : cageOf (setDomain s k x) j = cageOf s j := rfl
@[simp] theorem entryOf_setDomain (k : Nat) (x : Domain) (j : Nat) : entryOf (setDomain s k x) j = entryOf s j := rfl
@[simp] theorem accountOf_setDomain (k : Nat) (x : Domain) (j : Nat) : accountOf (setDomain s k x) j = accountOf s j := rfl
@[simp] theorem captureOf_setDomain (k : Nat) (x : Domain) (j : Nat) : captureOf (setDomain s k x) j = captureOf s j := rfl
@[simp] theorem engineOf_setDomain (k : Nat) (x : Domain) (j : Nat) : engineOf (setDomain s k x) j = engineOf s j := rfl
@[simp] theorem keyOf_setDomain (k : Nat) (x : Domain) (j : Nat) : keyOf (setDomain s k x) j = keyOf s j := rfl
@[simp] theorem tileOf_setDomain (k : Nat) (x : Domain) (j : Nat) : tileOf (setDomain s k x) j = tileOf s j := rfl
@[simp] theorem channelOf_setDomain (k : Nat) (x : Domain) (j : Nat) : channelOf (setDomain s k x) j = channelOf s j := rfl
@[simp] theorem islandOf_setDomain (k : Nat) (x : Domain) (j : Nat) : islandOf (setDomain s k x) j = islandOf s j := rfl
@[simp] theorem cardOf_setDomain (k : Nat) (x : Domain) (j : Nat) : cardOf (setDomain s k x) j = cardOf s j := rfl
@[simp] theorem packageOf_setDomain (k : Nat) (x : Domain) (j : Nat) : packageOf (setDomain s k x) j = packageOf s j := rfl
@[simp] theorem streamOf_setDomain (k : Nat) (x : Domain) (j : Nat) : streamOf (setDomain s k x) j = streamOf s j := rfl
@[simp] theorem beamsOf_setDomain (k : Nat) (x : Domain) (j : Nat) : beamsOf (setDomain s k x) j = beamsOf s j := rfl
@[simp] theorem physOf_setDomain (k : Nat) (x : Domain) (j : Nat) : physOf (setDomain s k x) j = physOf s j := rfl
@[simp] theorem timerOf_setDomain (k : Nat) (x : Domain) (j : Nat) : timerOf (setDomain s k x) j = timerOf s j := rfl
@[simp] theorem bellOf_setDomain (k : Nat) (x : Domain) (j : Nat) : bellOf (setDomain s k x) j = bellOf s j := rfl
@[simp] theorem xferOf_setDomain (k : Nat) (x : Domain) (j : Nat) : xferOf (setDomain s k x) j = xferOf s j := rfl
@[simp] theorem heldOf_setDomain (k : Nat) (x : Domain) (j : Nat) : heldOf (setDomain s k x) j = heldOf s j := rfl

/-! ### setCard -/

@[simp] theorem setCard_pending (k : Nat) (x : Card) : (setCard s k x).pending = s.pending := rfl
@[simp] theorem setCard_freeCount (k : Nat) (x : Card) : (setCard s k x).freeCount = s.freeCount := rfl
@[simp] theorem setCard_answer (k : Nat) (x : Card) : (setCard s k x).answer = s.answer := rfl
@[simp] theorem setCard_outbox (k : Nat) (x : Card) : (setCard s k x).outbox = s.outbox := rfl
@[simp] theorem setCard_settings (k : Nat) (x : Card) : (setCard s k x).settings = s.settings := rfl
@[simp] theorem setCard_mode (k : Nat) (x : Card) : (setCard s k x).mode = s.mode := rfl
@[simp] theorem setCard_power (k : Nat) (x : Card) : (setCard s k x).power = s.power := rfl
@[simp] theorem setCard_time (k : Nat) (x : Card) : (setCard s k x).time = s.time := rfl
@[simp] theorem setCard_lane (k : Nat) (x : Card) : (setCard s k x).lane = s.lane := rfl
@[simp] theorem setCard_rx (k : Nat) (x : Card) : (setCard s k x).rx = s.rx := rfl
@[simp] theorem setCard_sweep (k : Nat) (x : Card) : (setCard s k x).sweep = s.sweep := rfl
@[simp] theorem setCard_verdict (k : Nat) (x : Card) : (setCard s k x).verdict = s.verdict := rfl
@[simp] theorem setCard_roll (k : Nat) (x : Card) : (setCard s k x).roll = s.roll := rfl
@[simp] theorem setCard_tx (k : Nat) (x : Card) : (setCard s k x).tx = s.tx := rfl
@[simp] theorem setCard_cipher (k : Nat) (x : Card) : (setCard s k x).cipher = s.cipher := rfl
@[simp] theorem setCard_prefect (k : Nat) (x : Card) : (setCard s k x).prefect = s.prefect := rfl
@[simp] theorem setCard_tiles (k : Nat) (x : Card) : (setCard s k x).tiles = s.tiles := rfl
@[simp] theorem setCard_mesh (k : Nat) (x : Card) : (setCard s k x).mesh = s.mesh := rfl
@[simp] theorem setCard_pace (k : Nat) (x : Card) : (setCard s k x).pace = s.pace := rfl
@[simp] theorem setCard_molfen (k : Nat) (x : Card) : (setCard s k x).molfen = s.molfen := rfl
@[simp] theorem setCard_stack (k : Nat) (x : Card) : (setCard s k x).stack = s.stack := rfl
@[simp] theorem setCard_snap (k : Nat) (x : Card) : (setCard s k x).snap = s.snap := rfl
@[simp] theorem setCard_saved (k : Nat) (x : Card) : (setCard s k x).saved = s.saved := rfl
@[simp] theorem setCard_fault_queue (k : Nat) (x : Card) : (setCard s k x).fault.queue = s.fault.queue := rfl
@[simp] theorem setCard_fault_nextEseq (k : Nat) (x : Card) : (setCard s k x).fault.nextEseq = s.fault.nextEseq := rfl
@[simp] theorem setCard_fault_newest (k : Nat) (x : Card) : (setCard s k x).fault.newest = s.fault.newest := rfl
@[simp] theorem setCard_fault_notStored (k : Nat) (x : Card) : (setCard s k x).fault.notStored = s.fault.notStored := rfl
@[simp] theorem setCard_fault_notStoredAck (k : Nat) (x : Card) : (setCard s k x).fault.notStoredAck = s.fault.notStoredAck := rfl
@[simp] theorem setCard_fault_lastAck (k : Nat) (x : Card) : (setCard s k x).fault.lastAck = s.fault.lastAck := rfl
@[simp] theorem setCard_fault_safeCause (k : Nat) (x : Card) : (setCard s k x).fault.safeCause = s.fault.safeCause := rfl
@[simp] theorem setCard_fault_detention (k : Nat) (x : Card) : (setCard s k x).fault.detention = s.fault.detention := rfl
@[simp] theorem setCard_fault_overwritten (k : Nat) (x : Card) : (setCard s k x).fault.overwritten = s.fault.overwritten := rfl
@[simp] theorem setCard_fault_released (k : Nat) (x : Card) : (setCard s k x).fault.released = s.fault.released := rfl
@[simp] theorem setCard_fault_hour (k : Nat) (x : Card) : (setCard s k x).fault.hour = s.fault.hour := rfl
@[simp] theorem setCard_fault_major (k : Nat) (x : Card) : (setCard s k x).fault.major = s.fault.major := rfl
@[simp] theorem setCard_fault_minor (k : Nat) (x : Card) : (setCard s k x).fault.minor = s.fault.minor := rfl
@[simp] theorem setCard_fault_relayTest (k : Nat) (x : Card) : (setCard s k x).fault.relayTest = s.fault.relayTest := rfl
@[simp] theorem setCard_fault_poisonCleared (k : Nat) (x : Card) : (setCard s k x).fault.poisonCleared = s.fault.poisonCleared := rfl
@[simp] theorem setCard_fault_unsealed (k : Nat) (x : Card) : (setCard s k x).fault.unsealed = s.fault.unsealed := rfl
@[simp] theorem setCard_fault_unverified (k : Nat) (x : Card) : (setCard s k x).fault.unverified = s.fault.unverified := rfl
@[simp] theorem setCard_fault_lost (k : Nat) (x : Card) : (setCard s k x).fault.lost = s.fault.lost := rfl
@[simp] theorem setCard_fault_officeA (k : Nat) (x : Card) : (setCard s k x).fault.officeA = s.fault.officeA := rfl
@[simp] theorem setCard_fault_officeB (k : Nat) (x : Card) : (setCard s k x).fault.officeB = s.fault.officeB := rfl
@[simp] theorem setCard_fault_officeTwice (k : Nat) (x : Card) : (setCard s k x).fault.officeTwice = s.fault.officeTwice := rfl
@[simp] theorem setCard_fault_dramFenced (k : Nat) (x : Card) : (setCard s k x).fault.dramFenced = s.fault.dramFenced := rfl
@[simp] theorem cardOf_setCard (k : Nat) (x : Card) : cardOf (setCard s k x) k = x := tabGet_set_self _ _ _ _
@[simp] theorem cardOf_setCard_other (k : Nat) (x : Card) (j : Nat) (hj : j ≠ k) : cardOf (setCard s k x) j = cardOf s j := tabGet_set_other _ _ _ _ hj
@[simp] theorem laneOf_setCard (k : Nat) (x : Card) (j : Nat) : laneOf (setCard s k x) j = laneOf s j := rfl
@[simp] theorem headOf_setCard (k : Nat) (x : Card) (j : Nat) : headOf (setCard s k x) j = headOf s j := rfl
@[simp] theorem cageOf_setCard (k : Nat) (x : Card) (j : Nat) : cageOf (setCard s k x) j = cageOf s j := rfl
@[simp] theorem entryOf_setCard (k : Nat) (x : Card) (j : Nat) : entryOf (setCard s k x) j = entryOf s j := rfl
@[simp] theorem accountOf_setCard (k : Nat) (x : Card) (j : Nat) : accountOf (setCard s k x) j = accountOf s j := rfl
@[simp] theorem captureOf_setCard (k : Nat) (x : Card) (j : Nat) : captureOf (setCard s k x) j = captureOf s j := rfl
@[simp] theorem engineOf_setCard (k : Nat) (x : Card) (j : Nat) : engineOf (setCard s k x) j = engineOf s j := rfl
@[simp] theorem keyOf_setCard (k : Nat) (x : Card) (j : Nat) : keyOf (setCard s k x) j = keyOf s j := rfl
@[simp] theorem tileOf_setCard (k : Nat) (x : Card) (j : Nat) : tileOf (setCard s k x) j = tileOf s j := rfl
@[simp] theorem channelOf_setCard (k : Nat) (x : Card) (j : Nat) : channelOf (setCard s k x) j = channelOf s j := rfl
@[simp] theorem islandOf_setCard (k : Nat) (x : Card) (j : Nat) : islandOf (setCard s k x) j = islandOf s j := rfl
@[simp] theorem domainOf_setCard (k : Nat) (x : Card) (j : Nat) : domainOf (setCard s k x) j = domainOf s j := rfl
@[simp] theorem packageOf_setCard (k : Nat) (x : Card) (j : Nat) : packageOf (setCard s k x) j = packageOf s j := rfl
@[simp] theorem streamOf_setCard (k : Nat) (x : Card) (j : Nat) : streamOf (setCard s k x) j = streamOf s j := rfl
@[simp] theorem beamsOf_setCard (k : Nat) (x : Card) (j : Nat) : beamsOf (setCard s k x) j = beamsOf s j := rfl
@[simp] theorem physOf_setCard (k : Nat) (x : Card) (j : Nat) : physOf (setCard s k x) j = physOf s j := rfl
@[simp] theorem timerOf_setCard (k : Nat) (x : Card) (j : Nat) : timerOf (setCard s k x) j = timerOf s j := rfl
@[simp] theorem bellOf_setCard (k : Nat) (x : Card) (j : Nat) : bellOf (setCard s k x) j = bellOf s j := rfl
@[simp] theorem xferOf_setCard (k : Nat) (x : Card) (j : Nat) : xferOf (setCard s k x) j = xferOf s j := rfl
@[simp] theorem heldOf_setCard (k : Nat) (x : Card) (j : Nat) : heldOf (setCard s k x) j = heldOf s j := rfl

/-! ### setPackage -/

@[simp] theorem setPackage_pending (k : Nat) (x : Update) : (setPackage s k x).pending = s.pending := rfl
@[simp] theorem setPackage_freeCount (k : Nat) (x : Update) : (setPackage s k x).freeCount = s.freeCount := rfl
@[simp] theorem setPackage_answer (k : Nat) (x : Update) : (setPackage s k x).answer = s.answer := rfl
@[simp] theorem setPackage_outbox (k : Nat) (x : Update) : (setPackage s k x).outbox = s.outbox := rfl
@[simp] theorem setPackage_settings (k : Nat) (x : Update) : (setPackage s k x).settings = s.settings := rfl
@[simp] theorem setPackage_mode (k : Nat) (x : Update) : (setPackage s k x).mode = s.mode := rfl
@[simp] theorem setPackage_power (k : Nat) (x : Update) : (setPackage s k x).power = s.power := rfl
@[simp] theorem setPackage_time (k : Nat) (x : Update) : (setPackage s k x).time = s.time := rfl
@[simp] theorem setPackage_lane (k : Nat) (x : Update) : (setPackage s k x).lane = s.lane := rfl
@[simp] theorem setPackage_rx (k : Nat) (x : Update) : (setPackage s k x).rx = s.rx := rfl
@[simp] theorem setPackage_sweep (k : Nat) (x : Update) : (setPackage s k x).sweep = s.sweep := rfl
@[simp] theorem setPackage_verdict (k : Nat) (x : Update) : (setPackage s k x).verdict = s.verdict := rfl
@[simp] theorem setPackage_roll (k : Nat) (x : Update) : (setPackage s k x).roll = s.roll := rfl
@[simp] theorem setPackage_tx (k : Nat) (x : Update) : (setPackage s k x).tx = s.tx := rfl
@[simp] theorem setPackage_cipher (k : Nat) (x : Update) : (setPackage s k x).cipher = s.cipher := rfl
@[simp] theorem setPackage_prefect (k : Nat) (x : Update) : (setPackage s k x).prefect = s.prefect := rfl
@[simp] theorem setPackage_tiles (k : Nat) (x : Update) : (setPackage s k x).tiles = s.tiles := rfl
@[simp] theorem setPackage_mesh (k : Nat) (x : Update) : (setPackage s k x).mesh = s.mesh := rfl
@[simp] theorem setPackage_pace (k : Nat) (x : Update) : (setPackage s k x).pace = s.pace := rfl
@[simp] theorem setPackage_fault (k : Nat) (x : Update) : (setPackage s k x).fault = s.fault := rfl
@[simp] theorem setPackage_stack (k : Nat) (x : Update) : (setPackage s k x).stack = s.stack := rfl
@[simp] theorem setPackage_snap (k : Nat) (x : Update) : (setPackage s k x).snap = s.snap := rfl
@[simp] theorem setPackage_saved (k : Nat) (x : Update) : (setPackage s k x).saved = s.saved := rfl
@[simp] theorem setPackage_molfen_rxCnt (k : Nat) (x : Update) : (setPackage s k x).molfen.rxCnt = s.molfen.rxCnt := rfl
@[simp] theorem setPackage_molfen_rxWindow (k : Nat) (x : Update) : (setPackage s k x).molfen.rxWindow = s.molfen.rxWindow := rfl
@[simp] theorem setPackage_molfen_txCnt (k : Nat) (x : Update) : (setPackage s k x).molfen.txCnt = s.molfen.txCnt := rfl
@[simp] theorem setPackage_molfen_txReserved (k : Nat) (x : Update) : (setPackage s k x).molfen.txReserved = s.molfen.txReserved := rfl
@[simp] theorem setPackage_molfen_accepted (k : Nat) (x : Update) : (setPackage s k x).molfen.accepted = s.molfen.accepted := rfl
@[simp] theorem setPackage_molfen_discarded (k : Nat) (x : Update) : (setPackage s k x).molfen.discarded = s.molfen.discarded := rfl
@[simp] theorem setPackage_molfen_vackIgnored (k : Nat) (x : Update) : (setPackage s k x).molfen.vackIgnored = s.molfen.vackIgnored := rfl
@[simp] theorem setPackage_molfen_openGroups (k : Nat) (x : Update) : (setPackage s k x).molfen.openGroups = s.molfen.openGroups := rfl
@[simp] theorem setPackage_molfen_journal (k : Nat) (x : Update) : (setPackage s k x).molfen.journal = s.molfen.journal := rfl
@[simp] theorem setPackage_molfen_nextTseq (k : Nat) (x : Update) : (setPackage s k x).molfen.nextTseq = s.molfen.nextTseq := rfl
@[simp] theorem setPackage_molfen_newestTseq (k : Nat) (x : Update) : (setPackage s k x).molfen.newestTseq = s.molfen.newestTseq := rfl
@[simp] theorem setPackage_molfen_serviceDiscards (k : Nat) (x : Update) : (setPackage s k x).molfen.serviceDiscards = s.molfen.serviceDiscards := rfl
@[simp] theorem setPackage_molfen_addrPending (k : Nat) (x : Update) : (setPackage s k x).molfen.addrPending = s.molfen.addrPending := rfl
@[simp] theorem setPackage_molfen_addr (k : Nat) (x : Update) : (setPackage s k x).molfen.addr = s.molfen.addr := rfl
@[simp] theorem setPackage_molfen_linkUp (k : Nat) (x : Update) : (setPackage s k x).molfen.linkUp = s.molfen.linkUp := rfl
@[simp] theorem setPackage_molfen_firmware (k : Nat) (x : Update) : (setPackage s k x).molfen.firmware = s.molfen.firmware := rfl
@[simp] theorem setPackage_molfen_bank (k : Nat) (x : Update) : (setPackage s k x).molfen.bank = s.molfen.bank := rfl
@[simp] theorem setPackage_molfen_selected (k : Nat) (x : Update) : (setPackage s k x).molfen.selected = s.molfen.selected := rfl
@[simp] theorem setPackage_molfen_versions (k : Nat) (x : Update) : (setPackage s k x).molfen.versions = s.molfen.versions := rfl
@[simp] theorem setPackage_molfen_licence (k : Nat) (x : Update) : (setPackage s k x).molfen.licence = s.molfen.licence := rfl
@[simp] theorem setPackage_molfen_inbox (k : Nat) (x : Update) : (setPackage s k x).molfen.inbox = s.molfen.inbox := rfl
@[simp] theorem setPackage_molfen_labelOrder (k : Nat) (x : Update) : (setPackage s k x).molfen.labelOrder = s.molfen.labelOrder := rfl
@[simp] theorem setPackage_molfen_emergAnswered (k : Nat) (x : Update) : (setPackage s k x).molfen.emergAnswered = s.molfen.emergAnswered := rfl
@[simp] theorem setPackage_molfen_emergRefused (k : Nat) (x : Update) : (setPackage s k x).molfen.emergRefused = s.molfen.emergRefused := rfl
@[simp] theorem packageOf_setPackage (k : Nat) (x : Update) : packageOf (setPackage s k x) k = x := tabGet_set_self _ _ _ _
@[simp] theorem packageOf_setPackage_other (k : Nat) (x : Update) (j : Nat) (hj : j ≠ k) : packageOf (setPackage s k x) j = packageOf s j := tabGet_set_other _ _ _ _ hj
@[simp] theorem laneOf_setPackage (k : Nat) (x : Update) (j : Nat) : laneOf (setPackage s k x) j = laneOf s j := rfl
@[simp] theorem headOf_setPackage (k : Nat) (x : Update) (j : Nat) : headOf (setPackage s k x) j = headOf s j := rfl
@[simp] theorem cageOf_setPackage (k : Nat) (x : Update) (j : Nat) : cageOf (setPackage s k x) j = cageOf s j := rfl
@[simp] theorem entryOf_setPackage (k : Nat) (x : Update) (j : Nat) : entryOf (setPackage s k x) j = entryOf s j := rfl
@[simp] theorem accountOf_setPackage (k : Nat) (x : Update) (j : Nat) : accountOf (setPackage s k x) j = accountOf s j := rfl
@[simp] theorem captureOf_setPackage (k : Nat) (x : Update) (j : Nat) : captureOf (setPackage s k x) j = captureOf s j := rfl
@[simp] theorem engineOf_setPackage (k : Nat) (x : Update) (j : Nat) : engineOf (setPackage s k x) j = engineOf s j := rfl
@[simp] theorem keyOf_setPackage (k : Nat) (x : Update) (j : Nat) : keyOf (setPackage s k x) j = keyOf s j := rfl
@[simp] theorem tileOf_setPackage (k : Nat) (x : Update) (j : Nat) : tileOf (setPackage s k x) j = tileOf s j := rfl
@[simp] theorem channelOf_setPackage (k : Nat) (x : Update) (j : Nat) : channelOf (setPackage s k x) j = channelOf s j := rfl
@[simp] theorem islandOf_setPackage (k : Nat) (x : Update) (j : Nat) : islandOf (setPackage s k x) j = islandOf s j := rfl
@[simp] theorem domainOf_setPackage (k : Nat) (x : Update) (j : Nat) : domainOf (setPackage s k x) j = domainOf s j := rfl
@[simp] theorem cardOf_setPackage (k : Nat) (x : Update) (j : Nat) : cardOf (setPackage s k x) j = cardOf s j := rfl
@[simp] theorem streamOf_setPackage (k : Nat) (x : Update) (j : Nat) : streamOf (setPackage s k x) j = streamOf s j := rfl
@[simp] theorem beamsOf_setPackage (k : Nat) (x : Update) (j : Nat) : beamsOf (setPackage s k x) j = beamsOf s j := rfl
@[simp] theorem physOf_setPackage (k : Nat) (x : Update) (j : Nat) : physOf (setPackage s k x) j = physOf s j := rfl
@[simp] theorem timerOf_setPackage (k : Nat) (x : Update) (j : Nat) : timerOf (setPackage s k x) j = timerOf s j := rfl
@[simp] theorem bellOf_setPackage (k : Nat) (x : Update) (j : Nat) : bellOf (setPackage s k x) j = bellOf s j := rfl
@[simp] theorem xferOf_setPackage (k : Nat) (x : Update) (j : Nat) : xferOf (setPackage s k x) j = xferOf s j := rfl
@[simp] theorem heldOf_setPackage (k : Nat) (x : Update) (j : Nat) : heldOf (setPackage s k x) j = heldOf s j := rfl

/-! ### setStream -/

@[simp] theorem setStream_pending (k : Nat) (x : Stream) : (setStream s k x).pending = s.pending := rfl
@[simp] theorem setStream_freeCount (k : Nat) (x : Stream) : (setStream s k x).freeCount = s.freeCount := rfl
@[simp] theorem setStream_answer (k : Nat) (x : Stream) : (setStream s k x).answer = s.answer := rfl
@[simp] theorem setStream_outbox (k : Nat) (x : Stream) : (setStream s k x).outbox = s.outbox := rfl
@[simp] theorem setStream_settings (k : Nat) (x : Stream) : (setStream s k x).settings = s.settings := rfl
@[simp] theorem setStream_mode (k : Nat) (x : Stream) : (setStream s k x).mode = s.mode := rfl
@[simp] theorem setStream_power (k : Nat) (x : Stream) : (setStream s k x).power = s.power := rfl
@[simp] theorem setStream_time (k : Nat) (x : Stream) : (setStream s k x).time = s.time := rfl
@[simp] theorem setStream_lane (k : Nat) (x : Stream) : (setStream s k x).lane = s.lane := rfl
@[simp] theorem setStream_sweep (k : Nat) (x : Stream) : (setStream s k x).sweep = s.sweep := rfl
@[simp] theorem setStream_verdict (k : Nat) (x : Stream) : (setStream s k x).verdict = s.verdict := rfl
@[simp] theorem setStream_roll (k : Nat) (x : Stream) : (setStream s k x).roll = s.roll := rfl
@[simp] theorem setStream_tx (k : Nat) (x : Stream) : (setStream s k x).tx = s.tx := rfl
@[simp] theorem setStream_cipher (k : Nat) (x : Stream) : (setStream s k x).cipher = s.cipher := rfl
@[simp] theorem setStream_prefect (k : Nat) (x : Stream) : (setStream s k x).prefect = s.prefect := rfl
@[simp] theorem setStream_tiles (k : Nat) (x : Stream) : (setStream s k x).tiles = s.tiles := rfl
@[simp] theorem setStream_mesh (k : Nat) (x : Stream) : (setStream s k x).mesh = s.mesh := rfl
@[simp] theorem setStream_pace (k : Nat) (x : Stream) : (setStream s k x).pace = s.pace := rfl
@[simp] theorem setStream_fault (k : Nat) (x : Stream) : (setStream s k x).fault = s.fault := rfl
@[simp] theorem setStream_molfen (k : Nat) (x : Stream) : (setStream s k x).molfen = s.molfen := rfl
@[simp] theorem setStream_stack (k : Nat) (x : Stream) : (setStream s k x).stack = s.stack := rfl
@[simp] theorem setStream_snap (k : Nat) (x : Stream) : (setStream s k x).snap = s.snap := rfl
@[simp] theorem setStream_saved (k : Nat) (x : Stream) : (setStream s k x).saved = s.saved := rfl
@[simp] theorem setStream_rx_running (k : Nat) (x : Stream) : (setStream s k x).rx.running = s.rx.running := rfl
@[simp] theorem setStream_rx_cal (k : Nat) (x : Stream) : (setStream s k x).rx.cal = s.rx.cal := rfl
@[simp] theorem setStream_rx_beams (k : Nat) (x : Stream) : (setStream s k x).rx.beams = s.rx.beams := rfl
@[simp] theorem setStream_rx_history (k : Nat) (x : Stream) : (setStream s k x).rx.history = s.rx.history := rfl
@[simp] theorem setStream_rx_histFrom (k : Nat) (x : Stream) : (setStream s k x).rx.histFrom = s.rx.histFrom := rfl
@[simp] theorem setStream_rx_histNext (k : Nat) (x : Stream) : (setStream s k x).rx.histNext = s.rx.histNext := rfl
@[simp] theorem setStream_rx_histPoison (k : Nat) (x : Stream) : (setStream s k x).rx.histPoison = s.rx.histPoison := rfl
@[simp] theorem setStream_rx_margins (k : Nat) (x : Stream) : (setStream s k x).rx.margins = s.rx.margins := rfl
@[simp] theorem setStream_rx_head (k : Nat) (x : Stream) : (setStream s k x).rx.head = s.rx.head := rfl
@[simp] theorem setStream_rx_beamOut (k : Nat) (x : Stream) : (setStream s k x).rx.beamOut = s.rx.beamOut := rfl
@[simp] theorem setStream_rx_comp (k : Nat) (x : Stream) : (setStream s k x).rx.comp = s.rx.comp := rfl
@[simp] theorem setStream_rx_gainSteps (k : Nat) (x : Stream) : (setStream s k x).rx.gainSteps = s.rx.gainSteps := rfl
@[simp] theorem setStream_rx_headGain (k : Nat) (x : Stream) : (setStream s k x).rx.headGain = s.rx.headGain := rfl
@[simp] theorem setStream_rx_gainChanges (k : Nat) (x : Stream) : (setStream s k x).rx.gainChanges = s.rx.gainChanges := rfl
@[simp] theorem setStream_rx_gainPending (k : Nat) (x : Stream) : (setStream s k x).rx.gainPending = s.rx.gainPending := rfl
@[simp] theorem setStream_rx_wideband (k : Nat) (x : Stream) : (setStream s k x).rx.wideband = s.rx.wideband := rfl
@[simp] theorem setStream_rx_wideSum (k : Nat) (x : Stream) : (setStream s k x).rx.wideSum = s.rx.wideSum := rfl
@[simp] theorem setStream_rx_wideFrom (k : Nat) (x : Stream) : (setStream s k x).rx.wideFrom = s.rx.wideFrom := rfl
@[simp] theorem setStream_rx_antFloor (k : Nat) (x : Stream) : (setStream s k x).rx.antFloor = s.rx.antFloor := rfl
@[simp] theorem setStream_rx_beamFloor (k : Nat) (x : Stream) : (setStream s k x).rx.beamFloor = s.rx.beamFloor := rfl
@[simp] theorem setStream_rx_antFresh (k : Nat) (x : Stream) : (setStream s k x).rx.antFresh = s.rx.antFresh := rfl
@[simp] theorem setStream_rx_beamFresh (k : Nat) (x : Stream) : (setStream s k x).rx.beamFresh = s.rx.beamFresh := rfl
@[simp] theorem setStream_rx_antTaken (k : Nat) (x : Stream) : (setStream s k x).rx.antTaken = s.rx.antTaken := rfl
@[simp] theorem setStream_rx_beamTaken (k : Nat) (x : Stream) : (setStream s k x).rx.beamTaken = s.rx.beamTaken := rfl
@[simp] theorem setStream_rx_firstFloor (k : Nat) (x : Stream) : (setStream s k x).rx.firstFloor = s.rx.firstFloor := rfl
@[simp] theorem setStream_rx_fraction (k : Nat) (x : Stream) : (setStream s k x).rx.fraction = s.rx.fraction := rfl
@[simp] theorem setStream_rx_periodFrom (k : Nat) (x : Stream) : (setStream s k x).rx.periodFrom = s.rx.periodFrom := rfl
@[simp] theorem setStream_rx_floorRuns (k : Nat) (x : Stream) : (setStream s k x).rx.floorRuns = s.rx.floorRuns := rfl
@[simp] theorem setStream_rx_antSum (k : Nat) (x : Stream) : (setStream s k x).rx.antSum = s.rx.antSum := rfl
@[simp] theorem setStream_rx_beamSum (k : Nat) (x : Stream) : (setStream s k x).rx.beamSum = s.rx.beamSum := rfl
@[simp] theorem setStream_rx_floorsFrom (k : Nat) (x : Stream) : (setStream s k x).rx.floorsFrom = s.rx.floorsFrom := rfl
@[simp] theorem setStream_rx_beamsFrom (k : Nat) (x : Stream) : (setStream s k x).rx.beamsFrom = s.rx.beamsFrom := rfl
@[simp] theorem setStream_rx_raised (k : Nat) (x : Stream) : (setStream s k x).rx.raised = s.rx.raised := rfl
@[simp] theorem setStream_rx_captured (k : Nat) (x : Stream) : (setStream s k x).rx.captured = s.rx.captured := rfl
@[simp] theorem setStream_rx_erasures (k : Nat) (x : Stream) : (setStream s k x).rx.erasures = s.rx.erasures := rfl
@[simp] theorem setStream_rx_calSwaps (k : Nat) (x : Stream) : (setStream s k x).rx.calSwaps = s.rx.calSwaps := rfl
@[simp] theorem setStream_rx_blanked (k : Nat) (x : Stream) : (setStream s k x).rx.blanked = s.rx.blanked := rfl
@[simp] theorem setStream_rx_erased (k : Nat) (x : Stream) : (setStream s k x).rx.erased = s.rx.erased := rfl
@[simp] theorem setStream_rx_clipped (k : Nat) (x : Stream) : (setStream s k x).rx.clipped = s.rx.clipped := rfl
@[simp] theorem setStream_rx_saturated (k : Nat) (x : Stream) : (setStream s k x).rx.saturated = s.rx.saturated := rfl
@[simp] theorem setStream_rx_staged (k : Nat) (x : Stream) : (setStream s k x).rx.staged = s.rx.staged := rfl
@[simp] theorem streamOf_setStream (k : Nat) (x : Stream) : streamOf (setStream s k x) k = x := tabGet_set_self _ _ _ _
@[simp] theorem streamOf_setStream_other (k : Nat) (x : Stream) (j : Nat) (hj : j ≠ k) : streamOf (setStream s k x) j = streamOf s j := tabGet_set_other _ _ _ _ hj
@[simp] theorem laneOf_setStream (k : Nat) (x : Stream) (j : Nat) : laneOf (setStream s k x) j = laneOf s j := rfl
@[simp] theorem headOf_setStream (k : Nat) (x : Stream) (j : Nat) : headOf (setStream s k x) j = headOf s j := rfl
@[simp] theorem cageOf_setStream (k : Nat) (x : Stream) (j : Nat) : cageOf (setStream s k x) j = cageOf s j := rfl
@[simp] theorem entryOf_setStream (k : Nat) (x : Stream) (j : Nat) : entryOf (setStream s k x) j = entryOf s j := rfl
@[simp] theorem accountOf_setStream (k : Nat) (x : Stream) (j : Nat) : accountOf (setStream s k x) j = accountOf s j := rfl
@[simp] theorem captureOf_setStream (k : Nat) (x : Stream) (j : Nat) : captureOf (setStream s k x) j = captureOf s j := rfl
@[simp] theorem engineOf_setStream (k : Nat) (x : Stream) (j : Nat) : engineOf (setStream s k x) j = engineOf s j := rfl
@[simp] theorem keyOf_setStream (k : Nat) (x : Stream) (j : Nat) : keyOf (setStream s k x) j = keyOf s j := rfl
@[simp] theorem tileOf_setStream (k : Nat) (x : Stream) (j : Nat) : tileOf (setStream s k x) j = tileOf s j := rfl
@[simp] theorem channelOf_setStream (k : Nat) (x : Stream) (j : Nat) : channelOf (setStream s k x) j = channelOf s j := rfl
@[simp] theorem islandOf_setStream (k : Nat) (x : Stream) (j : Nat) : islandOf (setStream s k x) j = islandOf s j := rfl
@[simp] theorem domainOf_setStream (k : Nat) (x : Stream) (j : Nat) : domainOf (setStream s k x) j = domainOf s j := rfl
@[simp] theorem cardOf_setStream (k : Nat) (x : Stream) (j : Nat) : cardOf (setStream s k x) j = cardOf s j := rfl
@[simp] theorem packageOf_setStream (k : Nat) (x : Stream) (j : Nat) : packageOf (setStream s k x) j = packageOf s j := rfl
@[simp] theorem beamsOf_setStream (k : Nat) (x : Stream) (j : Nat) : beamsOf (setStream s k x) j = beamsOf s j := rfl
@[simp] theorem physOf_setStream (k : Nat) (x : Stream) (j : Nat) : physOf (setStream s k x) j = physOf s j := rfl
@[simp] theorem timerOf_setStream (k : Nat) (x : Stream) (j : Nat) : timerOf (setStream s k x) j = timerOf s j := rfl
@[simp] theorem bellOf_setStream (k : Nat) (x : Stream) (j : Nat) : bellOf (setStream s k x) j = bellOf s j := rfl
@[simp] theorem xferOf_setStream (k : Nat) (x : Stream) (j : Nat) : xferOf (setStream s k x) j = xferOf s j := rfl
@[simp] theorem heldOf_setStream (k : Nat) (x : Stream) (j : Nat) : heldOf (setStream s k x) j = heldOf s j := rfl

/-! ### setBeams -/

@[simp] theorem setBeams_pending (k : Nat) (x : SwapTable) : (setBeams s k x).pending = s.pending := rfl
@[simp] theorem setBeams_freeCount (k : Nat) (x : SwapTable) : (setBeams s k x).freeCount = s.freeCount := rfl
@[simp] theorem setBeams_answer (k : Nat) (x : SwapTable) : (setBeams s k x).answer = s.answer := rfl
@[simp] theorem setBeams_outbox (k : Nat) (x : SwapTable) : (setBeams s k x).outbox = s.outbox := rfl
@[simp] theorem setBeams_settings (k : Nat) (x : SwapTable) : (setBeams s k x).settings = s.settings := rfl
@[simp] theorem setBeams_mode (k : Nat) (x : SwapTable) : (setBeams s k x).mode = s.mode := rfl
@[simp] theorem setBeams_power (k : Nat) (x : SwapTable) : (setBeams s k x).power = s.power := rfl
@[simp] theorem setBeams_time (k : Nat) (x : SwapTable) : (setBeams s k x).time = s.time := rfl
@[simp] theorem setBeams_lane (k : Nat) (x : SwapTable) : (setBeams s k x).lane = s.lane := rfl
@[simp] theorem setBeams_sweep (k : Nat) (x : SwapTable) : (setBeams s k x).sweep = s.sweep := rfl
@[simp] theorem setBeams_verdict (k : Nat) (x : SwapTable) : (setBeams s k x).verdict = s.verdict := rfl
@[simp] theorem setBeams_roll (k : Nat) (x : SwapTable) : (setBeams s k x).roll = s.roll := rfl
@[simp] theorem setBeams_tx (k : Nat) (x : SwapTable) : (setBeams s k x).tx = s.tx := rfl
@[simp] theorem setBeams_cipher (k : Nat) (x : SwapTable) : (setBeams s k x).cipher = s.cipher := rfl
@[simp] theorem setBeams_prefect (k : Nat) (x : SwapTable) : (setBeams s k x).prefect = s.prefect := rfl
@[simp] theorem setBeams_tiles (k : Nat) (x : SwapTable) : (setBeams s k x).tiles = s.tiles := rfl
@[simp] theorem setBeams_mesh (k : Nat) (x : SwapTable) : (setBeams s k x).mesh = s.mesh := rfl
@[simp] theorem setBeams_pace (k : Nat) (x : SwapTable) : (setBeams s k x).pace = s.pace := rfl
@[simp] theorem setBeams_fault (k : Nat) (x : SwapTable) : (setBeams s k x).fault = s.fault := rfl
@[simp] theorem setBeams_molfen (k : Nat) (x : SwapTable) : (setBeams s k x).molfen = s.molfen := rfl
@[simp] theorem setBeams_stack (k : Nat) (x : SwapTable) : (setBeams s k x).stack = s.stack := rfl
@[simp] theorem setBeams_snap (k : Nat) (x : SwapTable) : (setBeams s k x).snap = s.snap := rfl
@[simp] theorem setBeams_saved (k : Nat) (x : SwapTable) : (setBeams s k x).saved = s.saved := rfl
@[simp] theorem setBeams_rx_running (k : Nat) (x : SwapTable) : (setBeams s k x).rx.running = s.rx.running := rfl
@[simp] theorem setBeams_rx_cal (k : Nat) (x : SwapTable) : (setBeams s k x).rx.cal = s.rx.cal := rfl
@[simp] theorem setBeams_rx_history (k : Nat) (x : SwapTable) : (setBeams s k x).rx.history = s.rx.history := rfl
@[simp] theorem setBeams_rx_histFrom (k : Nat) (x : SwapTable) : (setBeams s k x).rx.histFrom = s.rx.histFrom := rfl
@[simp] theorem setBeams_rx_histNext (k : Nat) (x : SwapTable) : (setBeams s k x).rx.histNext = s.rx.histNext := rfl
@[simp] theorem setBeams_rx_histPoison (k : Nat) (x : SwapTable) : (setBeams s k x).rx.histPoison = s.rx.histPoison := rfl
@[simp] theorem setBeams_rx_streams (k : Nat) (x : SwapTable) : (setBeams s k x).rx.streams = s.rx.streams := rfl
@[simp] theorem setBeams_rx_margins (k : Nat) (x : SwapTable) : (setBeams s k x).rx.margins = s.rx.margins := rfl
@[simp] theorem setBeams_rx_head (k : Nat) (x : SwapTable) : (setBeams s k x).rx.head = s.rx.head := rfl
@[simp] theorem setBeams_rx_beamOut (k : Nat) (x : SwapTable) : (setBeams s k x).rx.beamOut = s.rx.beamOut := rfl
@[simp] theorem setBeams_rx_comp (k : Nat) (x : SwapTable) : (setBeams s k x).rx.comp = s.rx.comp := rfl
@[simp] theorem setBeams_rx_gainSteps (k : Nat) (x : SwapTable) : (setBeams s k x).rx.gainSteps = s.rx.gainSteps := rfl
@[simp] theorem setBeams_rx_headGain (k : Nat) (x : SwapTable) : (setBeams s k x).rx.headGain = s.rx.headGain := rfl
@[simp] theorem setBeams_rx_gainChanges (k : Nat) (x : SwapTable) : (setBeams s k x).rx.gainChanges = s.rx.gainChanges := rfl
@[simp] theorem setBeams_rx_gainPending (k : Nat) (x : SwapTable) : (setBeams s k x).rx.gainPending = s.rx.gainPending := rfl
@[simp] theorem setBeams_rx_wideband (k : Nat) (x : SwapTable) : (setBeams s k x).rx.wideband = s.rx.wideband := rfl
@[simp] theorem setBeams_rx_wideSum (k : Nat) (x : SwapTable) : (setBeams s k x).rx.wideSum = s.rx.wideSum := rfl
@[simp] theorem setBeams_rx_wideFrom (k : Nat) (x : SwapTable) : (setBeams s k x).rx.wideFrom = s.rx.wideFrom := rfl
@[simp] theorem setBeams_rx_antFloor (k : Nat) (x : SwapTable) : (setBeams s k x).rx.antFloor = s.rx.antFloor := rfl
@[simp] theorem setBeams_rx_beamFloor (k : Nat) (x : SwapTable) : (setBeams s k x).rx.beamFloor = s.rx.beamFloor := rfl
@[simp] theorem setBeams_rx_antFresh (k : Nat) (x : SwapTable) : (setBeams s k x).rx.antFresh = s.rx.antFresh := rfl
@[simp] theorem setBeams_rx_beamFresh (k : Nat) (x : SwapTable) : (setBeams s k x).rx.beamFresh = s.rx.beamFresh := rfl
@[simp] theorem setBeams_rx_antTaken (k : Nat) (x : SwapTable) : (setBeams s k x).rx.antTaken = s.rx.antTaken := rfl
@[simp] theorem setBeams_rx_beamTaken (k : Nat) (x : SwapTable) : (setBeams s k x).rx.beamTaken = s.rx.beamTaken := rfl
@[simp] theorem setBeams_rx_firstFloor (k : Nat) (x : SwapTable) : (setBeams s k x).rx.firstFloor = s.rx.firstFloor := rfl
@[simp] theorem setBeams_rx_fraction (k : Nat) (x : SwapTable) : (setBeams s k x).rx.fraction = s.rx.fraction := rfl
@[simp] theorem setBeams_rx_periodFrom (k : Nat) (x : SwapTable) : (setBeams s k x).rx.periodFrom = s.rx.periodFrom := rfl
@[simp] theorem setBeams_rx_floorRuns (k : Nat) (x : SwapTable) : (setBeams s k x).rx.floorRuns = s.rx.floorRuns := rfl
@[simp] theorem setBeams_rx_antSum (k : Nat) (x : SwapTable) : (setBeams s k x).rx.antSum = s.rx.antSum := rfl
@[simp] theorem setBeams_rx_beamSum (k : Nat) (x : SwapTable) : (setBeams s k x).rx.beamSum = s.rx.beamSum := rfl
@[simp] theorem setBeams_rx_floorsFrom (k : Nat) (x : SwapTable) : (setBeams s k x).rx.floorsFrom = s.rx.floorsFrom := rfl
@[simp] theorem setBeams_rx_beamsFrom (k : Nat) (x : SwapTable) : (setBeams s k x).rx.beamsFrom = s.rx.beamsFrom := rfl
@[simp] theorem setBeams_rx_raised (k : Nat) (x : SwapTable) : (setBeams s k x).rx.raised = s.rx.raised := rfl
@[simp] theorem setBeams_rx_captured (k : Nat) (x : SwapTable) : (setBeams s k x).rx.captured = s.rx.captured := rfl
@[simp] theorem setBeams_rx_erasures (k : Nat) (x : SwapTable) : (setBeams s k x).rx.erasures = s.rx.erasures := rfl
@[simp] theorem setBeams_rx_calSwaps (k : Nat) (x : SwapTable) : (setBeams s k x).rx.calSwaps = s.rx.calSwaps := rfl
@[simp] theorem setBeams_rx_blanked (k : Nat) (x : SwapTable) : (setBeams s k x).rx.blanked = s.rx.blanked := rfl
@[simp] theorem setBeams_rx_erased (k : Nat) (x : SwapTable) : (setBeams s k x).rx.erased = s.rx.erased := rfl
@[simp] theorem setBeams_rx_clipped (k : Nat) (x : SwapTable) : (setBeams s k x).rx.clipped = s.rx.clipped := rfl
@[simp] theorem setBeams_rx_saturated (k : Nat) (x : SwapTable) : (setBeams s k x).rx.saturated = s.rx.saturated := rfl
@[simp] theorem setBeams_rx_staged (k : Nat) (x : SwapTable) : (setBeams s k x).rx.staged = s.rx.staged := rfl
@[simp] theorem beamsOf_setBeams (k : Nat) (x : SwapTable) : beamsOf (setBeams s k x) k = x := tabGet_set_self _ _ _ _
@[simp] theorem beamsOf_setBeams_other (k : Nat) (x : SwapTable) (j : Nat) (hj : j ≠ k) : beamsOf (setBeams s k x) j = beamsOf s j := tabGet_set_other _ _ _ _ hj
@[simp] theorem laneOf_setBeams (k : Nat) (x : SwapTable) (j : Nat) : laneOf (setBeams s k x) j = laneOf s j := rfl
@[simp] theorem headOf_setBeams (k : Nat) (x : SwapTable) (j : Nat) : headOf (setBeams s k x) j = headOf s j := rfl
@[simp] theorem cageOf_setBeams (k : Nat) (x : SwapTable) (j : Nat) : cageOf (setBeams s k x) j = cageOf s j := rfl
@[simp] theorem entryOf_setBeams (k : Nat) (x : SwapTable) (j : Nat) : entryOf (setBeams s k x) j = entryOf s j := rfl
@[simp] theorem accountOf_setBeams (k : Nat) (x : SwapTable) (j : Nat) : accountOf (setBeams s k x) j = accountOf s j := rfl
@[simp] theorem captureOf_setBeams (k : Nat) (x : SwapTable) (j : Nat) : captureOf (setBeams s k x) j = captureOf s j := rfl
@[simp] theorem engineOf_setBeams (k : Nat) (x : SwapTable) (j : Nat) : engineOf (setBeams s k x) j = engineOf s j := rfl
@[simp] theorem keyOf_setBeams (k : Nat) (x : SwapTable) (j : Nat) : keyOf (setBeams s k x) j = keyOf s j := rfl
@[simp] theorem tileOf_setBeams (k : Nat) (x : SwapTable) (j : Nat) : tileOf (setBeams s k x) j = tileOf s j := rfl
@[simp] theorem channelOf_setBeams (k : Nat) (x : SwapTable) (j : Nat) : channelOf (setBeams s k x) j = channelOf s j := rfl
@[simp] theorem islandOf_setBeams (k : Nat) (x : SwapTable) (j : Nat) : islandOf (setBeams s k x) j = islandOf s j := rfl
@[simp] theorem domainOf_setBeams (k : Nat) (x : SwapTable) (j : Nat) : domainOf (setBeams s k x) j = domainOf s j := rfl
@[simp] theorem cardOf_setBeams (k : Nat) (x : SwapTable) (j : Nat) : cardOf (setBeams s k x) j = cardOf s j := rfl
@[simp] theorem packageOf_setBeams (k : Nat) (x : SwapTable) (j : Nat) : packageOf (setBeams s k x) j = packageOf s j := rfl
@[simp] theorem streamOf_setBeams (k : Nat) (x : SwapTable) (j : Nat) : streamOf (setBeams s k x) j = streamOf s j := rfl
@[simp] theorem physOf_setBeams (k : Nat) (x : SwapTable) (j : Nat) : physOf (setBeams s k x) j = physOf s j := rfl
@[simp] theorem timerOf_setBeams (k : Nat) (x : SwapTable) (j : Nat) : timerOf (setBeams s k x) j = timerOf s j := rfl
@[simp] theorem bellOf_setBeams (k : Nat) (x : SwapTable) (j : Nat) : bellOf (setBeams s k x) j = bellOf s j := rfl
@[simp] theorem xferOf_setBeams (k : Nat) (x : SwapTable) (j : Nat) : xferOf (setBeams s k x) j = xferOf s j := rfl
@[simp] theorem heldOf_setBeams (k : Nat) (x : SwapTable) (j : Nat) : heldOf (setBeams s k x) j = heldOf s j := rfl

/-! ### setPhys -/

@[simp] theorem setPhys_pending (k p : Nat) : (setPhys s k p).pending = s.pending := rfl
@[simp] theorem setPhys_freeCount (k p : Nat) : (setPhys s k p).freeCount = s.freeCount := rfl
@[simp] theorem setPhys_answer (k p : Nat) : (setPhys s k p).answer = s.answer := rfl
@[simp] theorem setPhys_outbox (k p : Nat) : (setPhys s k p).outbox = s.outbox := rfl
@[simp] theorem setPhys_settings (k p : Nat) : (setPhys s k p).settings = s.settings := rfl
@[simp] theorem setPhys_mode (k p : Nat) : (setPhys s k p).mode = s.mode := rfl
@[simp] theorem setPhys_power (k p : Nat) : (setPhys s k p).power = s.power := rfl
@[simp] theorem setPhys_time (k p : Nat) : (setPhys s k p).time = s.time := rfl
@[simp] theorem setPhys_lane (k p : Nat) : (setPhys s k p).lane = s.lane := rfl
@[simp] theorem setPhys_rx (k p : Nat) : (setPhys s k p).rx = s.rx := rfl
@[simp] theorem setPhys_sweep (k p : Nat) : (setPhys s k p).sweep = s.sweep := rfl
@[simp] theorem setPhys_verdict (k p : Nat) : (setPhys s k p).verdict = s.verdict := rfl
@[simp] theorem setPhys_roll (k p : Nat) : (setPhys s k p).roll = s.roll := rfl
@[simp] theorem setPhys_tx (k p : Nat) : (setPhys s k p).tx = s.tx := rfl
@[simp] theorem setPhys_cipher (k p : Nat) : (setPhys s k p).cipher = s.cipher := rfl
@[simp] theorem setPhys_tiles (k p : Nat) : (setPhys s k p).tiles = s.tiles := rfl
@[simp] theorem setPhys_mesh (k p : Nat) : (setPhys s k p).mesh = s.mesh := rfl
@[simp] theorem setPhys_pace (k p : Nat) : (setPhys s k p).pace = s.pace := rfl
@[simp] theorem setPhys_fault (k p : Nat) : (setPhys s k p).fault = s.fault := rfl
@[simp] theorem setPhys_molfen (k p : Nat) : (setPhys s k p).molfen = s.molfen := rfl
@[simp] theorem setPhys_stack (k p : Nat) : (setPhys s k p).stack = s.stack := rfl
@[simp] theorem setPhys_snap (k p : Nat) : (setPhys s k p).snap = s.snap := rfl
@[simp] theorem setPhys_saved (k p : Nat) : (setPhys s k p).saved = s.saved := rfl
@[simp] theorem setPhys_prefect_nodes (k p : Nat) : (setPhys s k p).prefect.nodes = s.prefect.nodes := rfl
@[simp] theorem setPhys_prefect_ordered (k p : Nat) : (setPhys s k p).prefect.ordered = s.prefect.ordered := rfl
@[simp] theorem setPhys_prefect_ops (k p : Nat) : (setPhys s k p).prefect.ops = s.prefect.ops := rfl
@[simp] theorem setPhys_prefect_nextOpseq (k p : Nat) : (setPhys s k p).prefect.nextOpseq = s.prefect.nextOpseq := rfl
@[simp] theorem setPhys_prefect_portFifo (k p : Nat) : (setPhys s k p).prefect.portFifo = s.prefect.portFifo := rfl
@[simp] theorem setPhys_prefect_tileFifo (k p : Nat) : (setPhys s k p).prefect.tileFifo = s.prefect.tileFifo := rfl
@[simp] theorem setPhys_prefect_joins (k p : Nat) : (setPhys s k p).prefect.joins = s.prefect.joins := rfl
@[simp] theorem setPhys_prefect_nextOrd (k p : Nat) : (setPhys s k p).prefect.nextOrd = s.prefect.nextOrd := rfl
@[simp] theorem setPhys_prefect_bufRefs (k p : Nat) : (setPhys s k p).prefect.bufRefs = s.prefect.bufRefs := rfl
@[simp] theorem setPhys_prefect_drain (k p : Nat) : (setPhys s k p).prefect.drain = s.prefect.drain := rfl
@[simp] theorem setPhys_prefect_invalid (k p : Nat) : (setPhys s k p).prefect.invalid = s.prefect.invalid := rfl
@[simp] theorem setPhys_prefect_refusedWrite (k p : Nat) : (setPhys s k p).prefect.refusedWrite = s.prefect.refusedWrite := rfl
@[simp] theorem setPhys_prefect_standFor (k p : Nat) : (setPhys s k p).prefect.standFor = s.prefect.standFor := rfl
@[simp] theorem setPhys_prefect_dropped (k p : Nat) : (setPhys s k p).prefect.dropped = s.prefect.dropped := rfl
@[simp] theorem setPhys_prefect_unbound (k p : Nat) : (setPhys s k p).prefect.unbound = s.prefect.unbound := rfl
@[simp] theorem setPhys_prefect_winBlocks (k p : Nat) : (setPhys s k p).prefect.winBlocks = s.prefect.winBlocks := rfl
@[simp] theorem setPhys_prefect_drainEnded (k p : Nat) : (setPhys s k p).prefect.drainEnded = s.prefect.drainEnded := rfl
@[simp] theorem setPhys_prefect_trace (k p : Nat) : (setPhys s k p).prefect.trace = s.prefect.trace := rfl
@[simp] theorem setPhys_prefect_traceLost (k p : Nat) : (setPhys s k p).prefect.traceLost = s.prefect.traceLost := rfl
@[simp] theorem setPhys_prefect_blockSeen (k p : Nat) : (setPhys s k p).prefect.blockSeen = s.prefect.blockSeen := rfl
@[simp] theorem setPhys_prefect_account (k p : Nat) : (setPhys s k p).prefect.account = s.prefect.account := rfl
@[simp] theorem setPhys_prefect_subst (k p : Nat) : (setPhys s k p).prefect.subst = s.prefect.subst := rfl
@[simp] theorem physOf_setPhys (k p : Nat) : physOf (setPhys s k p) k = p := tabGet_set_self _ _ _ _
@[simp] theorem physOf_setPhys_other (k p : Nat) (j : Nat) (hj : j ≠ k) : physOf (setPhys s k p) j = physOf s j := tabGet_set_other _ _ _ _ hj
@[simp] theorem laneOf_setPhys (k p : Nat) (j : Nat) : laneOf (setPhys s k p) j = laneOf s j := rfl
@[simp] theorem headOf_setPhys (k p : Nat) (j : Nat) : headOf (setPhys s k p) j = headOf s j := rfl
@[simp] theorem cageOf_setPhys (k p : Nat) (j : Nat) : cageOf (setPhys s k p) j = cageOf s j := rfl
@[simp] theorem entryOf_setPhys (k p : Nat) (j : Nat) : entryOf (setPhys s k p) j = entryOf s j := rfl
@[simp] theorem accountOf_setPhys (k p : Nat) (j : Nat) : accountOf (setPhys s k p) j = accountOf s j := rfl
@[simp] theorem captureOf_setPhys (k p : Nat) (j : Nat) : captureOf (setPhys s k p) j = captureOf s j := rfl
@[simp] theorem engineOf_setPhys (k p : Nat) (j : Nat) : engineOf (setPhys s k p) j = engineOf s j := rfl
@[simp] theorem keyOf_setPhys (k p : Nat) (j : Nat) : keyOf (setPhys s k p) j = keyOf s j := rfl
@[simp] theorem tileOf_setPhys (k p : Nat) (j : Nat) : tileOf (setPhys s k p) j = tileOf s j := rfl
@[simp] theorem channelOf_setPhys (k p : Nat) (j : Nat) : channelOf (setPhys s k p) j = channelOf s j := rfl
@[simp] theorem islandOf_setPhys (k p : Nat) (j : Nat) : islandOf (setPhys s k p) j = islandOf s j := rfl
@[simp] theorem domainOf_setPhys (k p : Nat) (j : Nat) : domainOf (setPhys s k p) j = domainOf s j := rfl
@[simp] theorem cardOf_setPhys (k p : Nat) (j : Nat) : cardOf (setPhys s k p) j = cardOf s j := rfl
@[simp] theorem packageOf_setPhys (k p : Nat) (j : Nat) : packageOf (setPhys s k p) j = packageOf s j := rfl
@[simp] theorem streamOf_setPhys (k p : Nat) (j : Nat) : streamOf (setPhys s k p) j = streamOf s j := rfl
@[simp] theorem beamsOf_setPhys (k p : Nat) (j : Nat) : beamsOf (setPhys s k p) j = beamsOf s j := rfl
@[simp] theorem timerOf_setPhys (k p : Nat) (j : Nat) : timerOf (setPhys s k p) j = timerOf s j := rfl
@[simp] theorem bellOf_setPhys (k p : Nat) (j : Nat) : bellOf (setPhys s k p) j = bellOf s j := rfl
@[simp] theorem xferOf_setPhys (k p : Nat) (j : Nat) : xferOf (setPhys s k p) j = xferOf s j := rfl
@[simp] theorem heldOf_setPhys (k p : Nat) (j : Nat) : heldOf (setPhys s k p) j = heldOf s j := rfl

/-! ### setTimer -/

@[simp] theorem setTimer_pending (k : Nat) (x : PaceTimer) : (setTimer s k x).pending = s.pending := rfl
@[simp] theorem setTimer_freeCount (k : Nat) (x : PaceTimer) : (setTimer s k x).freeCount = s.freeCount := rfl
@[simp] theorem setTimer_answer (k : Nat) (x : PaceTimer) : (setTimer s k x).answer = s.answer := rfl
@[simp] theorem setTimer_outbox (k : Nat) (x : PaceTimer) : (setTimer s k x).outbox = s.outbox := rfl
@[simp] theorem setTimer_settings (k : Nat) (x : PaceTimer) : (setTimer s k x).settings = s.settings := rfl
@[simp] theorem setTimer_mode (k : Nat) (x : PaceTimer) : (setTimer s k x).mode = s.mode := rfl
@[simp] theorem setTimer_power (k : Nat) (x : PaceTimer) : (setTimer s k x).power = s.power := rfl
@[simp] theorem setTimer_lane (k : Nat) (x : PaceTimer) : (setTimer s k x).lane = s.lane := rfl
@[simp] theorem setTimer_rx (k : Nat) (x : PaceTimer) : (setTimer s k x).rx = s.rx := rfl
@[simp] theorem setTimer_sweep (k : Nat) (x : PaceTimer) : (setTimer s k x).sweep = s.sweep := rfl
@[simp] theorem setTimer_verdict (k : Nat) (x : PaceTimer) : (setTimer s k x).verdict = s.verdict := rfl
@[simp] theorem setTimer_roll (k : Nat) (x : PaceTimer) : (setTimer s k x).roll = s.roll := rfl
@[simp] theorem setTimer_tx (k : Nat) (x : PaceTimer) : (setTimer s k x).tx = s.tx := rfl
@[simp] theorem setTimer_cipher (k : Nat) (x : PaceTimer) : (setTimer s k x).cipher = s.cipher := rfl
@[simp] theorem setTimer_prefect (k : Nat) (x : PaceTimer) : (setTimer s k x).prefect = s.prefect := rfl
@[simp] theorem setTimer_tiles (k : Nat) (x : PaceTimer) : (setTimer s k x).tiles = s.tiles := rfl
@[simp] theorem setTimer_mesh (k : Nat) (x : PaceTimer) : (setTimer s k x).mesh = s.mesh := rfl
@[simp] theorem setTimer_pace (k : Nat) (x : PaceTimer) : (setTimer s k x).pace = s.pace := rfl
@[simp] theorem setTimer_fault (k : Nat) (x : PaceTimer) : (setTimer s k x).fault = s.fault := rfl
@[simp] theorem setTimer_molfen (k : Nat) (x : PaceTimer) : (setTimer s k x).molfen = s.molfen := rfl
@[simp] theorem setTimer_stack (k : Nat) (x : PaceTimer) : (setTimer s k x).stack = s.stack := rfl
@[simp] theorem setTimer_snap (k : Nat) (x : PaceTimer) : (setTimer s k x).snap = s.snap := rfl
@[simp] theorem setTimer_saved (k : Nat) (x : PaceTimer) : (setTimer s k x).saved = s.saved := rfl
@[simp] theorem setTimer_time_firedAt (k : Nat) (x : PaceTimer) : (setTimer s k x).time.firedAt = s.time.firedAt := rfl
@[simp] theorem setTimer_time_fired (k : Nat) (x : PaceTimer) : (setTimer s k x).time.fired = s.time.fired := rfl
@[simp] theorem setTimer_time_refLost (k : Nat) (x : PaceTimer) : (setTimer s k x).time.refLost = s.time.refLost := rfl
@[simp] theorem setTimer_time_valid (k : Nat) (x : PaceTimer) : (setTimer s k x).time.valid = s.time.valid := rfl
@[simp] theorem setTimer_time_extrap (k : Nat) (x : PaceTimer) : (setTimer s k x).time.extrap = s.time.extrap := rfl
@[simp] theorem setTimer_time_loopLock (k : Nat) (x : PaceTimer) : (setTimer s k x).time.loopLock = s.time.loopLock := rfl
@[simp] theorem setTimer_time_rimStop (k : Nat) (x : PaceTimer) : (setTimer s k x).time.rimStop = s.time.rimStop := rfl
@[simp] theorem setTimer_time_qualified (k : Nat) (x : PaceTimer) : (setTimer s k x).time.qualified = s.time.qualified := rfl
@[simp] theorem setTimer_time_restart (k : Nat) (x : PaceTimer) : (setTimer s k x).time.restart = s.time.restart := rfl
@[simp] theorem setTimer_time_airTime (k : Nat) (x : PaceTimer) : (setTimer s k x).time.airTime = s.time.airTime := rfl
@[simp] theorem setTimer_time_atX (k : Nat) (x : PaceTimer) : (setTimer s k x).time.atX = s.time.atX := rfl
@[simp] theorem setTimer_time_usX (k : Nat) (x : PaceTimer) : (setTimer s k x).time.usX = s.time.usX := rfl
@[simp] theorem setTimer_time_careSince (k : Nat) (x : PaceTimer) : (setTimer s k x).time.careSince = s.time.careSince := rfl
@[simp] theorem setTimer_time_persistedAt (k : Nat) (x : PaceTimer) : (setTimer s k x).time.persistedAt = s.time.persistedAt := rfl
@[simp] theorem setTimer_time_careUs (k : Nat) (x : PaceTimer) : (setTimer s k x).time.careUs = s.time.careUs := rfl
@[simp] theorem setTimer_time_careFrac (k : Nat) (x : PaceTimer) : (setTimer s k x).time.careFrac = s.time.careFrac := rfl
@[simp] theorem setTimer_time_carePersisted (k : Nat) (x : PaceTimer) : (setTimer s k x).time.carePersisted = s.time.carePersisted := rfl
@[simp] theorem setTimer_time_pendingEpoch (k : Nat) (x : PaceTimer) : (setTimer s k x).time.pendingEpoch = s.time.pendingEpoch := rfl
@[simp] theorem setTimer_time_refOffset (k : Nat) (x : PaceTimer) : (setTimer s k x).time.refOffset = s.time.refOffset := rfl
@[simp] theorem setTimer_time_refLosses (k : Nat) (x : PaceTimer) : (setTimer s k x).time.refLosses = s.time.refLosses := rfl
@[simp] theorem setTimer_time_bells (k : Nat) (x : PaceTimer) : (setTimer s k x).time.bells = s.time.bells := rfl
@[simp] theorem setTimer_time_ledger (k : Nat) (x : PaceTimer) : (setTimer s k x).time.ledger = s.time.ledger := rfl
@[simp] theorem setTimer_time_ledgerPersisted (k : Nat) (x : PaceTimer) : (setTimer s k x).time.ledgerPersisted = s.time.ledgerPersisted := rfl
@[simp] theorem setTimer_time_gap (k : Nat) (x : PaceTimer) : (setTimer s k x).time.gap = s.time.gap := rfl
@[simp] theorem setTimer_time_rimHeld (k : Nat) (x : PaceTimer) : (setTimer s k x).time.rimHeld = s.time.rimHeld := rfl
@[simp] theorem setTimer_time_snapshotAt (k : Nat) (x : PaceTimer) : (setTimer s k x).time.snapshotAt = s.time.snapshotAt := rfl
@[simp] theorem timerOf_setTimer (k : Nat) (x : PaceTimer) : timerOf (setTimer s k x) k = x := tabGet_set_self _ _ _ _
@[simp] theorem timerOf_setTimer_other (k : Nat) (x : PaceTimer) (j : Nat) (hj : j ≠ k) : timerOf (setTimer s k x) j = timerOf s j := tabGet_set_other _ _ _ _ hj
@[simp] theorem laneOf_setTimer (k : Nat) (x : PaceTimer) (j : Nat) : laneOf (setTimer s k x) j = laneOf s j := rfl
@[simp] theorem headOf_setTimer (k : Nat) (x : PaceTimer) (j : Nat) : headOf (setTimer s k x) j = headOf s j := rfl
@[simp] theorem cageOf_setTimer (k : Nat) (x : PaceTimer) (j : Nat) : cageOf (setTimer s k x) j = cageOf s j := rfl
@[simp] theorem entryOf_setTimer (k : Nat) (x : PaceTimer) (j : Nat) : entryOf (setTimer s k x) j = entryOf s j := rfl
@[simp] theorem accountOf_setTimer (k : Nat) (x : PaceTimer) (j : Nat) : accountOf (setTimer s k x) j = accountOf s j := rfl
@[simp] theorem captureOf_setTimer (k : Nat) (x : PaceTimer) (j : Nat) : captureOf (setTimer s k x) j = captureOf s j := rfl
@[simp] theorem engineOf_setTimer (k : Nat) (x : PaceTimer) (j : Nat) : engineOf (setTimer s k x) j = engineOf s j := rfl
@[simp] theorem keyOf_setTimer (k : Nat) (x : PaceTimer) (j : Nat) : keyOf (setTimer s k x) j = keyOf s j := rfl
@[simp] theorem tileOf_setTimer (k : Nat) (x : PaceTimer) (j : Nat) : tileOf (setTimer s k x) j = tileOf s j := rfl
@[simp] theorem channelOf_setTimer (k : Nat) (x : PaceTimer) (j : Nat) : channelOf (setTimer s k x) j = channelOf s j := rfl
@[simp] theorem islandOf_setTimer (k : Nat) (x : PaceTimer) (j : Nat) : islandOf (setTimer s k x) j = islandOf s j := rfl
@[simp] theorem domainOf_setTimer (k : Nat) (x : PaceTimer) (j : Nat) : domainOf (setTimer s k x) j = domainOf s j := rfl
@[simp] theorem cardOf_setTimer (k : Nat) (x : PaceTimer) (j : Nat) : cardOf (setTimer s k x) j = cardOf s j := rfl
@[simp] theorem packageOf_setTimer (k : Nat) (x : PaceTimer) (j : Nat) : packageOf (setTimer s k x) j = packageOf s j := rfl
@[simp] theorem streamOf_setTimer (k : Nat) (x : PaceTimer) (j : Nat) : streamOf (setTimer s k x) j = streamOf s j := rfl
@[simp] theorem beamsOf_setTimer (k : Nat) (x : PaceTimer) (j : Nat) : beamsOf (setTimer s k x) j = beamsOf s j := rfl
@[simp] theorem physOf_setTimer (k : Nat) (x : PaceTimer) (j : Nat) : physOf (setTimer s k x) j = physOf s j := rfl
@[simp] theorem bellOf_setTimer (k : Nat) (x : PaceTimer) (j : Nat) : bellOf (setTimer s k x) j = bellOf s j := rfl
@[simp] theorem xferOf_setTimer (k : Nat) (x : PaceTimer) (j : Nat) : xferOf (setTimer s k x) j = xferOf s j := rfl
@[simp] theorem heldOf_setTimer (k : Nat) (x : PaceTimer) (j : Nat) : heldOf (setTimer s k x) j = heldOf s j := rfl

/-! ### setBell -/

@[simp] theorem setBell_pending (k : Nat) (x : Bell) : (setBell s k x).pending = s.pending := rfl
@[simp] theorem setBell_freeCount (k : Nat) (x : Bell) : (setBell s k x).freeCount = s.freeCount := rfl
@[simp] theorem setBell_answer (k : Nat) (x : Bell) : (setBell s k x).answer = s.answer := rfl
@[simp] theorem setBell_outbox (k : Nat) (x : Bell) : (setBell s k x).outbox = s.outbox := rfl
@[simp] theorem setBell_settings (k : Nat) (x : Bell) : (setBell s k x).settings = s.settings := rfl
@[simp] theorem setBell_mode (k : Nat) (x : Bell) : (setBell s k x).mode = s.mode := rfl
@[simp] theorem setBell_power (k : Nat) (x : Bell) : (setBell s k x).power = s.power := rfl
@[simp] theorem setBell_lane (k : Nat) (x : Bell) : (setBell s k x).lane = s.lane := rfl
@[simp] theorem setBell_rx (k : Nat) (x : Bell) : (setBell s k x).rx = s.rx := rfl
@[simp] theorem setBell_sweep (k : Nat) (x : Bell) : (setBell s k x).sweep = s.sweep := rfl
@[simp] theorem setBell_verdict (k : Nat) (x : Bell) : (setBell s k x).verdict = s.verdict := rfl
@[simp] theorem setBell_roll (k : Nat) (x : Bell) : (setBell s k x).roll = s.roll := rfl
@[simp] theorem setBell_tx (k : Nat) (x : Bell) : (setBell s k x).tx = s.tx := rfl
@[simp] theorem setBell_cipher (k : Nat) (x : Bell) : (setBell s k x).cipher = s.cipher := rfl
@[simp] theorem setBell_prefect (k : Nat) (x : Bell) : (setBell s k x).prefect = s.prefect := rfl
@[simp] theorem setBell_tiles (k : Nat) (x : Bell) : (setBell s k x).tiles = s.tiles := rfl
@[simp] theorem setBell_mesh (k : Nat) (x : Bell) : (setBell s k x).mesh = s.mesh := rfl
@[simp] theorem setBell_pace (k : Nat) (x : Bell) : (setBell s k x).pace = s.pace := rfl
@[simp] theorem setBell_fault (k : Nat) (x : Bell) : (setBell s k x).fault = s.fault := rfl
@[simp] theorem setBell_molfen (k : Nat) (x : Bell) : (setBell s k x).molfen = s.molfen := rfl
@[simp] theorem setBell_stack (k : Nat) (x : Bell) : (setBell s k x).stack = s.stack := rfl
@[simp] theorem setBell_snap (k : Nat) (x : Bell) : (setBell s k x).snap = s.snap := rfl
@[simp] theorem setBell_saved (k : Nat) (x : Bell) : (setBell s k x).saved = s.saved := rfl
@[simp] theorem setBell_time_firedAt (k : Nat) (x : Bell) : (setBell s k x).time.firedAt = s.time.firedAt := rfl
@[simp] theorem setBell_time_fired (k : Nat) (x : Bell) : (setBell s k x).time.fired = s.time.fired := rfl
@[simp] theorem setBell_time_refLost (k : Nat) (x : Bell) : (setBell s k x).time.refLost = s.time.refLost := rfl
@[simp] theorem setBell_time_valid (k : Nat) (x : Bell) : (setBell s k x).time.valid = s.time.valid := rfl
@[simp] theorem setBell_time_extrap (k : Nat) (x : Bell) : (setBell s k x).time.extrap = s.time.extrap := rfl
@[simp] theorem setBell_time_loopLock (k : Nat) (x : Bell) : (setBell s k x).time.loopLock = s.time.loopLock := rfl
@[simp] theorem setBell_time_rimStop (k : Nat) (x : Bell) : (setBell s k x).time.rimStop = s.time.rimStop := rfl
@[simp] theorem setBell_time_qualified (k : Nat) (x : Bell) : (setBell s k x).time.qualified = s.time.qualified := rfl
@[simp] theorem setBell_time_restart (k : Nat) (x : Bell) : (setBell s k x).time.restart = s.time.restart := rfl
@[simp] theorem setBell_time_airTime (k : Nat) (x : Bell) : (setBell s k x).time.airTime = s.time.airTime := rfl
@[simp] theorem setBell_time_atX (k : Nat) (x : Bell) : (setBell s k x).time.atX = s.time.atX := rfl
@[simp] theorem setBell_time_usX (k : Nat) (x : Bell) : (setBell s k x).time.usX = s.time.usX := rfl
@[simp] theorem setBell_time_careSince (k : Nat) (x : Bell) : (setBell s k x).time.careSince = s.time.careSince := rfl
@[simp] theorem setBell_time_persistedAt (k : Nat) (x : Bell) : (setBell s k x).time.persistedAt = s.time.persistedAt := rfl
@[simp] theorem setBell_time_careUs (k : Nat) (x : Bell) : (setBell s k x).time.careUs = s.time.careUs := rfl
@[simp] theorem setBell_time_careFrac (k : Nat) (x : Bell) : (setBell s k x).time.careFrac = s.time.careFrac := rfl
@[simp] theorem setBell_time_carePersisted (k : Nat) (x : Bell) : (setBell s k x).time.carePersisted = s.time.carePersisted := rfl
@[simp] theorem setBell_time_pendingEpoch (k : Nat) (x : Bell) : (setBell s k x).time.pendingEpoch = s.time.pendingEpoch := rfl
@[simp] theorem setBell_time_refOffset (k : Nat) (x : Bell) : (setBell s k x).time.refOffset = s.time.refOffset := rfl
@[simp] theorem setBell_time_refLosses (k : Nat) (x : Bell) : (setBell s k x).time.refLosses = s.time.refLosses := rfl
@[simp] theorem setBell_time_paceTimers (k : Nat) (x : Bell) : (setBell s k x).time.paceTimers = s.time.paceTimers := rfl
@[simp] theorem setBell_time_ledger (k : Nat) (x : Bell) : (setBell s k x).time.ledger = s.time.ledger := rfl
@[simp] theorem setBell_time_ledgerPersisted (k : Nat) (x : Bell) : (setBell s k x).time.ledgerPersisted = s.time.ledgerPersisted := rfl
@[simp] theorem setBell_time_gap (k : Nat) (x : Bell) : (setBell s k x).time.gap = s.time.gap := rfl
@[simp] theorem setBell_time_rimHeld (k : Nat) (x : Bell) : (setBell s k x).time.rimHeld = s.time.rimHeld := rfl
@[simp] theorem setBell_time_snapshotAt (k : Nat) (x : Bell) : (setBell s k x).time.snapshotAt = s.time.snapshotAt := rfl
@[simp] theorem bellOf_setBell (k : Nat) (x : Bell) : bellOf (setBell s k x) k = x := tabGet_set_self _ _ _ _
@[simp] theorem bellOf_setBell_other (k : Nat) (x : Bell) (j : Nat) (hj : j ≠ k) : bellOf (setBell s k x) j = bellOf s j := tabGet_set_other _ _ _ _ hj
@[simp] theorem laneOf_setBell (k : Nat) (x : Bell) (j : Nat) : laneOf (setBell s k x) j = laneOf s j := rfl
@[simp] theorem headOf_setBell (k : Nat) (x : Bell) (j : Nat) : headOf (setBell s k x) j = headOf s j := rfl
@[simp] theorem cageOf_setBell (k : Nat) (x : Bell) (j : Nat) : cageOf (setBell s k x) j = cageOf s j := rfl
@[simp] theorem entryOf_setBell (k : Nat) (x : Bell) (j : Nat) : entryOf (setBell s k x) j = entryOf s j := rfl
@[simp] theorem accountOf_setBell (k : Nat) (x : Bell) (j : Nat) : accountOf (setBell s k x) j = accountOf s j := rfl
@[simp] theorem captureOf_setBell (k : Nat) (x : Bell) (j : Nat) : captureOf (setBell s k x) j = captureOf s j := rfl
@[simp] theorem engineOf_setBell (k : Nat) (x : Bell) (j : Nat) : engineOf (setBell s k x) j = engineOf s j := rfl
@[simp] theorem keyOf_setBell (k : Nat) (x : Bell) (j : Nat) : keyOf (setBell s k x) j = keyOf s j := rfl
@[simp] theorem tileOf_setBell (k : Nat) (x : Bell) (j : Nat) : tileOf (setBell s k x) j = tileOf s j := rfl
@[simp] theorem channelOf_setBell (k : Nat) (x : Bell) (j : Nat) : channelOf (setBell s k x) j = channelOf s j := rfl
@[simp] theorem islandOf_setBell (k : Nat) (x : Bell) (j : Nat) : islandOf (setBell s k x) j = islandOf s j := rfl
@[simp] theorem domainOf_setBell (k : Nat) (x : Bell) (j : Nat) : domainOf (setBell s k x) j = domainOf s j := rfl
@[simp] theorem cardOf_setBell (k : Nat) (x : Bell) (j : Nat) : cardOf (setBell s k x) j = cardOf s j := rfl
@[simp] theorem packageOf_setBell (k : Nat) (x : Bell) (j : Nat) : packageOf (setBell s k x) j = packageOf s j := rfl
@[simp] theorem streamOf_setBell (k : Nat) (x : Bell) (j : Nat) : streamOf (setBell s k x) j = streamOf s j := rfl
@[simp] theorem beamsOf_setBell (k : Nat) (x : Bell) (j : Nat) : beamsOf (setBell s k x) j = beamsOf s j := rfl
@[simp] theorem physOf_setBell (k : Nat) (x : Bell) (j : Nat) : physOf (setBell s k x) j = physOf s j := rfl
@[simp] theorem timerOf_setBell (k : Nat) (x : Bell) (j : Nat) : timerOf (setBell s k x) j = timerOf s j := rfl
@[simp] theorem xferOf_setBell (k : Nat) (x : Bell) (j : Nat) : xferOf (setBell s k x) j = xferOf s j := rfl
@[simp] theorem heldOf_setBell (k : Nat) (x : Bell) (j : Nat) : heldOf (setBell s k x) j = heldOf s j := rfl

/-! ### setXfer -/

@[simp] theorem setXfer_pending (k : Nat) (x : Xfer) : (setXfer k x s).pending = s.pending := rfl
@[simp] theorem setXfer_freeCount (k : Nat) (x : Xfer) : (setXfer k x s).freeCount = s.freeCount := rfl
@[simp] theorem setXfer_answer (k : Nat) (x : Xfer) : (setXfer k x s).answer = s.answer := rfl
@[simp] theorem setXfer_outbox (k : Nat) (x : Xfer) : (setXfer k x s).outbox = s.outbox := rfl
@[simp] theorem setXfer_settings (k : Nat) (x : Xfer) : (setXfer k x s).settings = s.settings := rfl
@[simp] theorem setXfer_mode (k : Nat) (x : Xfer) : (setXfer k x s).mode = s.mode := rfl
@[simp] theorem setXfer_power (k : Nat) (x : Xfer) : (setXfer k x s).power = s.power := rfl
@[simp] theorem setXfer_time (k : Nat) (x : Xfer) : (setXfer k x s).time = s.time := rfl
@[simp] theorem setXfer_lane (k : Nat) (x : Xfer) : (setXfer k x s).lane = s.lane := rfl
@[simp] theorem setXfer_rx (k : Nat) (x : Xfer) : (setXfer k x s).rx = s.rx := rfl
@[simp] theorem setXfer_sweep (k : Nat) (x : Xfer) : (setXfer k x s).sweep = s.sweep := rfl
@[simp] theorem setXfer_verdict (k : Nat) (x : Xfer) : (setXfer k x s).verdict = s.verdict := rfl
@[simp] theorem setXfer_roll (k : Nat) (x : Xfer) : (setXfer k x s).roll = s.roll := rfl
@[simp] theorem setXfer_tx (k : Nat) (x : Xfer) : (setXfer k x s).tx = s.tx := rfl
@[simp] theorem setXfer_cipher (k : Nat) (x : Xfer) : (setXfer k x s).cipher = s.cipher := rfl
@[simp] theorem setXfer_prefect (k : Nat) (x : Xfer) : (setXfer k x s).prefect = s.prefect := rfl
@[simp] theorem setXfer_tiles (k : Nat) (x : Xfer) : (setXfer k x s).tiles = s.tiles := rfl
@[simp] theorem setXfer_mesh (k : Nat) (x : Xfer) : (setXfer k x s).mesh = s.mesh := rfl
@[simp] theorem setXfer_pace (k : Nat) (x : Xfer) : (setXfer k x s).pace = s.pace := rfl
@[simp] theorem setXfer_fault (k : Nat) (x : Xfer) : (setXfer k x s).fault = s.fault := rfl
@[simp] theorem setXfer_molfen (k : Nat) (x : Xfer) : (setXfer k x s).molfen = s.molfen := rfl
@[simp] theorem setXfer_snap (k : Nat) (x : Xfer) : (setXfer k x s).snap = s.snap := rfl
@[simp] theorem setXfer_saved (k : Nat) (x : Xfer) : (setXfer k x s).saved = s.saved := rfl
@[simp] theorem setXfer_stack_position (k : Nat) (x : Xfer) : (setXfer k x s).stack.position = s.stack.position := rfl
@[simp] theorem setXfer_stack_members (k : Nat) (x : Xfer) : (setXfer k x s).stack.members = s.stack.members := rfl
@[simp] theorem setXfer_stack_head (k : Nat) (x : Xfer) : (setXfer k x s).stack.head = s.stack.head := rfl
@[simp] theorem setXfer_stack_deputies (k : Nat) (x : Xfer) : (setXfer k x s).stack.deputies = s.stack.deputies := rfl
@[simp] theorem setXfer_stack_functions (k : Nat) (x : Xfer) : (setXfer k x s).stack.functions = s.stack.functions := rfl
@[simp] theorem setXfer_stack_joining (k : Nat) (x : Xfer) : (setXfer k x s).stack.joining = s.stack.joining := rfl
@[simp] theorem setXfer_stack_headLosses (k : Nat) (x : Xfer) : (setXfer k x s).stack.headLosses = s.stack.headLosses := rfl
@[simp] theorem setXfer_stack_beatSeen (k : Nat) (x : Xfer) : (setXfer k x s).stack.beatSeen = s.stack.beatSeen := rfl
@[simp] theorem setXfer_stack_epoch (k : Nat) (x : Xfer) : (setXfer k x s).stack.epoch = s.stack.epoch := rfl
@[simp] theorem setXfer_stack_lostHead (k : Nat) (x : Xfer) : (setXfer k x s).stack.lostHead = s.stack.lostHead := rfl
@[simp] theorem setXfer_stack_drained (k : Nat) (x : Xfer) : (setXfer k x s).stack.drained = s.stack.drained := rfl
@[simp] theorem setXfer_stack_present (k : Nat) (x : Xfer) : (setXfer k x s).stack.present = s.stack.present := rfl
@[simp] theorem setXfer_stack_headset (k : Nat) (x : Xfer) : (setXfer k x s).stack.headset = s.stack.headset := rfl
@[simp] theorem setXfer_stack_directory (k : Nat) (x : Xfer) : (setXfer k x s).stack.directory = s.stack.directory := rfl
@[simp] theorem setXfer_stack_nextDir (k : Nat) (x : Xfer) : (setXfer k x s).stack.nextDir = s.stack.nextDir := rfl
@[simp] theorem setXfer_stack_dirPending (k : Nat) (x : Xfer) : (setXfer k x s).stack.dirPending = s.stack.dirPending := rfl
@[simp] theorem setXfer_stack_gains (k : Nat) (x : Xfer) : (setXfer k x s).stack.gains = s.stack.gains := rfl
@[simp] theorem setXfer_stack_branches (k : Nat) (x : Xfer) : (setXfer k x s).stack.branches = s.stack.branches := rfl
@[simp] theorem setXfer_stack_words (k : Nat) (x : Xfer) : (setXfer k x s).stack.words = s.stack.words := rfl
@[simp] theorem setXfer_stack_sending (k : Nat) (x : Xfer) : (setXfer k x s).stack.sending = s.stack.sending := rfl
@[simp] theorem setXfer_stack_notAssigned (k : Nat) (x : Xfer) : (setXfer k x s).stack.notAssigned = s.stack.notAssigned := rfl
@[simp] theorem xferOf_setXfer (k : Nat) (x : Xfer) : xferOf (setXfer k x s) k = x := tabGet_set_self _ _ _ _
@[simp] theorem xferOf_setXfer_other (k : Nat) (x : Xfer) (j : Nat) (hj : j ≠ k) : xferOf (setXfer k x s) j = xferOf s j := tabGet_set_other _ _ _ _ hj
@[simp] theorem laneOf_setXfer (k : Nat) (x : Xfer) (j : Nat) : laneOf (setXfer k x s) j = laneOf s j := rfl
@[simp] theorem headOf_setXfer (k : Nat) (x : Xfer) (j : Nat) : headOf (setXfer k x s) j = headOf s j := rfl
@[simp] theorem cageOf_setXfer (k : Nat) (x : Xfer) (j : Nat) : cageOf (setXfer k x s) j = cageOf s j := rfl
@[simp] theorem entryOf_setXfer (k : Nat) (x : Xfer) (j : Nat) : entryOf (setXfer k x s) j = entryOf s j := rfl
@[simp] theorem accountOf_setXfer (k : Nat) (x : Xfer) (j : Nat) : accountOf (setXfer k x s) j = accountOf s j := rfl
@[simp] theorem captureOf_setXfer (k : Nat) (x : Xfer) (j : Nat) : captureOf (setXfer k x s) j = captureOf s j := rfl
@[simp] theorem engineOf_setXfer (k : Nat) (x : Xfer) (j : Nat) : engineOf (setXfer k x s) j = engineOf s j := rfl
@[simp] theorem keyOf_setXfer (k : Nat) (x : Xfer) (j : Nat) : keyOf (setXfer k x s) j = keyOf s j := rfl
@[simp] theorem tileOf_setXfer (k : Nat) (x : Xfer) (j : Nat) : tileOf (setXfer k x s) j = tileOf s j := rfl
@[simp] theorem channelOf_setXfer (k : Nat) (x : Xfer) (j : Nat) : channelOf (setXfer k x s) j = channelOf s j := rfl
@[simp] theorem islandOf_setXfer (k : Nat) (x : Xfer) (j : Nat) : islandOf (setXfer k x s) j = islandOf s j := rfl
@[simp] theorem domainOf_setXfer (k : Nat) (x : Xfer) (j : Nat) : domainOf (setXfer k x s) j = domainOf s j := rfl
@[simp] theorem cardOf_setXfer (k : Nat) (x : Xfer) (j : Nat) : cardOf (setXfer k x s) j = cardOf s j := rfl
@[simp] theorem packageOf_setXfer (k : Nat) (x : Xfer) (j : Nat) : packageOf (setXfer k x s) j = packageOf s j := rfl
@[simp] theorem streamOf_setXfer (k : Nat) (x : Xfer) (j : Nat) : streamOf (setXfer k x s) j = streamOf s j := rfl
@[simp] theorem beamsOf_setXfer (k : Nat) (x : Xfer) (j : Nat) : beamsOf (setXfer k x s) j = beamsOf s j := rfl
@[simp] theorem physOf_setXfer (k : Nat) (x : Xfer) (j : Nat) : physOf (setXfer k x s) j = physOf s j := rfl
@[simp] theorem timerOf_setXfer (k : Nat) (x : Xfer) (j : Nat) : timerOf (setXfer k x s) j = timerOf s j := rfl
@[simp] theorem bellOf_setXfer (k : Nat) (x : Xfer) (j : Nat) : bellOf (setXfer k x s) j = bellOf s j := rfl
@[simp] theorem heldOf_setXfer (k : Nat) (x : Xfer) (j : Nat) : heldOf (setXfer k x s) j = heldOf s j := rfl

/-! ### setHeld -/

@[simp] theorem setHeld_pending (k : Nat) (x : List Held) : (setHeld k x s).pending = s.pending := rfl
@[simp] theorem setHeld_freeCount (k : Nat) (x : List Held) : (setHeld k x s).freeCount = s.freeCount := rfl
@[simp] theorem setHeld_answer (k : Nat) (x : List Held) : (setHeld k x s).answer = s.answer := rfl
@[simp] theorem setHeld_outbox (k : Nat) (x : List Held) : (setHeld k x s).outbox = s.outbox := rfl
@[simp] theorem setHeld_settings (k : Nat) (x : List Held) : (setHeld k x s).settings = s.settings := rfl
@[simp] theorem setHeld_mode (k : Nat) (x : List Held) : (setHeld k x s).mode = s.mode := rfl
@[simp] theorem setHeld_power (k : Nat) (x : List Held) : (setHeld k x s).power = s.power := rfl
@[simp] theorem setHeld_time (k : Nat) (x : List Held) : (setHeld k x s).time = s.time := rfl
@[simp] theorem setHeld_lane (k : Nat) (x : List Held) : (setHeld k x s).lane = s.lane := rfl
@[simp] theorem setHeld_rx (k : Nat) (x : List Held) : (setHeld k x s).rx = s.rx := rfl
@[simp] theorem setHeld_sweep (k : Nat) (x : List Held) : (setHeld k x s).sweep = s.sweep := rfl
@[simp] theorem setHeld_roll (k : Nat) (x : List Held) : (setHeld k x s).roll = s.roll := rfl
@[simp] theorem setHeld_tx (k : Nat) (x : List Held) : (setHeld k x s).tx = s.tx := rfl
@[simp] theorem setHeld_cipher (k : Nat) (x : List Held) : (setHeld k x s).cipher = s.cipher := rfl
@[simp] theorem setHeld_prefect (k : Nat) (x : List Held) : (setHeld k x s).prefect = s.prefect := rfl
@[simp] theorem setHeld_tiles (k : Nat) (x : List Held) : (setHeld k x s).tiles = s.tiles := rfl
@[simp] theorem setHeld_mesh (k : Nat) (x : List Held) : (setHeld k x s).mesh = s.mesh := rfl
@[simp] theorem setHeld_pace (k : Nat) (x : List Held) : (setHeld k x s).pace = s.pace := rfl
@[simp] theorem setHeld_fault (k : Nat) (x : List Held) : (setHeld k x s).fault = s.fault := rfl
@[simp] theorem setHeld_molfen (k : Nat) (x : List Held) : (setHeld k x s).molfen = s.molfen := rfl
@[simp] theorem setHeld_stack (k : Nat) (x : List Held) : (setHeld k x s).stack = s.stack := rfl
@[simp] theorem setHeld_snap (k : Nat) (x : List Held) : (setHeld k x s).snap = s.snap := rfl
@[simp] theorem setHeld_saved (k : Nat) (x : List Held) : (setHeld k x s).saved = s.saved := rfl
@[simp] theorem setHeld_verdict_nextVseq (k : Nat) (x : List Held) : (setHeld k x s).verdict.nextVseq = s.verdict.nextVseq := rfl
@[simp] theorem setHeld_verdict_vseqWrapped (k : Nat) (x : List Held) : (setHeld k x s).verdict.vseqWrapped = s.verdict.vseqWrapped := rfl
@[simp] theorem setHeld_verdict_journal (k : Nat) (x : List Held) : (setHeld k x s).verdict.journal = s.verdict.journal := rfl
@[simp] theorem setHeld_verdict_acked (k : Nat) (x : List Held) : (setHeld k x s).verdict.acked = s.verdict.acked := rfl
@[simp] theorem setHeld_verdict_cursor (k : Nat) (x : List Held) : (setHeld k x s).verdict.cursor = s.verdict.cursor := rfl
@[simp] theorem setHeld_verdict_notices (k : Nat) (x : List Held) : (setHeld k x s).verdict.notices = s.verdict.notices := rfl
@[simp] theorem setHeld_verdict_counts (k : Nat) (x : List Held) : (setHeld k x s).verdict.counts = s.verdict.counts := rfl
@[simp] theorem setHeld_verdict_late (k : Nat) (x : List Held) : (setHeld k x s).verdict.late = s.verdict.late := rfl
@[simp] theorem setHeld_verdict_crowd (k : Nat) (x : List Held) : (setHeld k x s).verdict.crowd = s.verdict.crowd := rfl
@[simp] theorem setHeld_verdict_latencies (k : Nat) (x : List Held) : (setHeld k x s).verdict.latencies = s.verdict.latencies := rfl
@[simp] theorem setHeld_verdict_overruns (k : Nat) (x : List Held) : (setHeld k x s).verdict.overruns = s.verdict.overruns := rfl
@[simp] theorem setHeld_verdict_discarded (k : Nat) (x : List Held) : (setHeld k x s).verdict.discarded = s.verdict.discarded := rfl
@[simp] theorem heldOf_setHeld (k : Nat) (x : List Held) : heldOf (setHeld k x s) k = x := tabGet_set_self _ _ _ _
@[simp] theorem heldOf_setHeld_other (k : Nat) (x : List Held) (j : Nat) (hj : j ≠ k) : heldOf (setHeld k x s) j = heldOf s j := tabGet_set_other _ _ _ _ hj
@[simp] theorem laneOf_setHeld (k : Nat) (x : List Held) (j : Nat) : laneOf (setHeld k x s) j = laneOf s j := rfl
@[simp] theorem headOf_setHeld (k : Nat) (x : List Held) (j : Nat) : headOf (setHeld k x s) j = headOf s j := rfl
@[simp] theorem cageOf_setHeld (k : Nat) (x : List Held) (j : Nat) : cageOf (setHeld k x s) j = cageOf s j := rfl
@[simp] theorem entryOf_setHeld (k : Nat) (x : List Held) (j : Nat) : entryOf (setHeld k x s) j = entryOf s j := rfl
@[simp] theorem accountOf_setHeld (k : Nat) (x : List Held) (j : Nat) : accountOf (setHeld k x s) j = accountOf s j := rfl
@[simp] theorem captureOf_setHeld (k : Nat) (x : List Held) (j : Nat) : captureOf (setHeld k x s) j = captureOf s j := rfl
@[simp] theorem engineOf_setHeld (k : Nat) (x : List Held) (j : Nat) : engineOf (setHeld k x s) j = engineOf s j := rfl
@[simp] theorem keyOf_setHeld (k : Nat) (x : List Held) (j : Nat) : keyOf (setHeld k x s) j = keyOf s j := rfl
@[simp] theorem tileOf_setHeld (k : Nat) (x : List Held) (j : Nat) : tileOf (setHeld k x s) j = tileOf s j := rfl
@[simp] theorem channelOf_setHeld (k : Nat) (x : List Held) (j : Nat) : channelOf (setHeld k x s) j = channelOf s j := rfl
@[simp] theorem islandOf_setHeld (k : Nat) (x : List Held) (j : Nat) : islandOf (setHeld k x s) j = islandOf s j := rfl
@[simp] theorem domainOf_setHeld (k : Nat) (x : List Held) (j : Nat) : domainOf (setHeld k x s) j = domainOf s j := rfl
@[simp] theorem cardOf_setHeld (k : Nat) (x : List Held) (j : Nat) : cardOf (setHeld k x s) j = cardOf s j := rfl
@[simp] theorem packageOf_setHeld (k : Nat) (x : List Held) (j : Nat) : packageOf (setHeld k x s) j = packageOf s j := rfl
@[simp] theorem streamOf_setHeld (k : Nat) (x : List Held) (j : Nat) : streamOf (setHeld k x s) j = streamOf s j := rfl
@[simp] theorem beamsOf_setHeld (k : Nat) (x : List Held) (j : Nat) : beamsOf (setHeld k x s) j = beamsOf s j := rfl
@[simp] theorem physOf_setHeld (k : Nat) (x : List Held) (j : Nat) : physOf (setHeld k x s) j = physOf s j := rfl
@[simp] theorem timerOf_setHeld (k : Nat) (x : List Held) (j : Nat) : timerOf (setHeld k x s) j = timerOf s j := rfl
@[simp] theorem bellOf_setHeld (k : Nat) (x : List Held) (j : Nat) : bellOf (setHeld k x s) j = bellOf s j := rfl
@[simp] theorem xferOf_setHeld (k : Nat) (x : List Held) (j : Nat) : xferOf (setHeld k x s) j = xferOf s j := rfl

/-! ### answerOf -/

@[simp] theorem answerOf_pending (st : Status) (n : Nat) : (answerOf st n s).pending = s.pending := rfl
@[simp] theorem answerOf_freeCount (st : Status) (n : Nat) : (answerOf st n s).freeCount = s.freeCount := rfl
@[simp] theorem answerOf_outbox (st : Status) (n : Nat) : (answerOf st n s).outbox = s.outbox := rfl
@[simp] theorem answerOf_settings (st : Status) (n : Nat) : (answerOf st n s).settings = s.settings := rfl
@[simp] theorem answerOf_mode (st : Status) (n : Nat) : (answerOf st n s).mode = s.mode := rfl
@[simp] theorem answerOf_power (st : Status) (n : Nat) : (answerOf st n s).power = s.power := rfl
@[simp] theorem answerOf_time (st : Status) (n : Nat) : (answerOf st n s).time = s.time := rfl
@[simp] theorem answerOf_lane (st : Status) (n : Nat) : (answerOf st n s).lane = s.lane := rfl
@[simp] theorem answerOf_rx (st : Status) (n : Nat) : (answerOf st n s).rx = s.rx := rfl
@[simp] theorem answerOf_sweep (st : Status) (n : Nat) : (answerOf st n s).sweep = s.sweep := rfl
@[simp] theorem answerOf_verdict (st : Status) (n : Nat) : (answerOf st n s).verdict = s.verdict := rfl
@[simp] theorem answerOf_roll (st : Status) (n : Nat) : (answerOf st n s).roll = s.roll := rfl
@[simp] theorem answerOf_tx (st : Status) (n : Nat) : (answerOf st n s).tx = s.tx := rfl
@[simp] theorem answerOf_cipher (st : Status) (n : Nat) : (answerOf st n s).cipher = s.cipher := rfl
@[simp] theorem answerOf_prefect (st : Status) (n : Nat) : (answerOf st n s).prefect = s.prefect := rfl
@[simp] theorem answerOf_tiles (st : Status) (n : Nat) : (answerOf st n s).tiles = s.tiles := rfl
@[simp] theorem answerOf_mesh (st : Status) (n : Nat) : (answerOf st n s).mesh = s.mesh := rfl
@[simp] theorem answerOf_pace (st : Status) (n : Nat) : (answerOf st n s).pace = s.pace := rfl
@[simp] theorem answerOf_fault (st : Status) (n : Nat) : (answerOf st n s).fault = s.fault := rfl
@[simp] theorem answerOf_molfen (st : Status) (n : Nat) : (answerOf st n s).molfen = s.molfen := rfl
@[simp] theorem answerOf_stack (st : Status) (n : Nat) : (answerOf st n s).stack = s.stack := rfl
@[simp] theorem answerOf_snap (st : Status) (n : Nat) : (answerOf st n s).snap = s.snap := rfl
@[simp] theorem answerOf_saved (st : Status) (n : Nat) : (answerOf st n s).saved = s.saved := rfl
@[simp] theorem laneOf_answerOf (st : Status) (n : Nat) (j : Nat) : laneOf (answerOf st n s) j = laneOf s j := rfl
@[simp] theorem headOf_answerOf (st : Status) (n : Nat) (j : Nat) : headOf (answerOf st n s) j = headOf s j := rfl
@[simp] theorem cageOf_answerOf (st : Status) (n : Nat) (j : Nat) : cageOf (answerOf st n s) j = cageOf s j := rfl
@[simp] theorem entryOf_answerOf (st : Status) (n : Nat) (j : Nat) : entryOf (answerOf st n s) j = entryOf s j := rfl
@[simp] theorem accountOf_answerOf (st : Status) (n : Nat) (j : Nat) : accountOf (answerOf st n s) j = accountOf s j := rfl
@[simp] theorem captureOf_answerOf (st : Status) (n : Nat) (j : Nat) : captureOf (answerOf st n s) j = captureOf s j := rfl
@[simp] theorem engineOf_answerOf (st : Status) (n : Nat) (j : Nat) : engineOf (answerOf st n s) j = engineOf s j := rfl
@[simp] theorem keyOf_answerOf (st : Status) (n : Nat) (j : Nat) : keyOf (answerOf st n s) j = keyOf s j := rfl
@[simp] theorem tileOf_answerOf (st : Status) (n : Nat) (j : Nat) : tileOf (answerOf st n s) j = tileOf s j := rfl
@[simp] theorem channelOf_answerOf (st : Status) (n : Nat) (j : Nat) : channelOf (answerOf st n s) j = channelOf s j := rfl
@[simp] theorem islandOf_answerOf (st : Status) (n : Nat) (j : Nat) : islandOf (answerOf st n s) j = islandOf s j := rfl
@[simp] theorem domainOf_answerOf (st : Status) (n : Nat) (j : Nat) : domainOf (answerOf st n s) j = domainOf s j := rfl
@[simp] theorem cardOf_answerOf (st : Status) (n : Nat) (j : Nat) : cardOf (answerOf st n s) j = cardOf s j := rfl
@[simp] theorem packageOf_answerOf (st : Status) (n : Nat) (j : Nat) : packageOf (answerOf st n s) j = packageOf s j := rfl
@[simp] theorem streamOf_answerOf (st : Status) (n : Nat) (j : Nat) : streamOf (answerOf st n s) j = streamOf s j := rfl
@[simp] theorem beamsOf_answerOf (st : Status) (n : Nat) (j : Nat) : beamsOf (answerOf st n s) j = beamsOf s j := rfl
@[simp] theorem physOf_answerOf (st : Status) (n : Nat) (j : Nat) : physOf (answerOf st n s) j = physOf s j := rfl
@[simp] theorem timerOf_answerOf (st : Status) (n : Nat) (j : Nat) : timerOf (answerOf st n s) j = timerOf s j := rfl
@[simp] theorem bellOf_answerOf (st : Status) (n : Nat) (j : Nat) : bellOf (answerOf st n s) j = bellOf s j := rfl
@[simp] theorem xferOf_answerOf (st : Status) (n : Nat) (j : Nat) : xferOf (answerOf st n s) j = xferOf s j := rfl
@[simp] theorem heldOf_answerOf (st : Status) (n : Nat) (j : Nat) : heldOf (answerOf st n s) j = heldOf s j := rfl

/-! ### emit -/

@[simp] theorem emit_pending (e : Emission) : (emit e s).pending = s.pending := rfl
@[simp] theorem emit_freeCount (e : Emission) : (emit e s).freeCount = s.freeCount := rfl
@[simp] theorem emit_answer (e : Emission) : (emit e s).answer = s.answer := rfl
@[simp] theorem emit_settings (e : Emission) : (emit e s).settings = s.settings := rfl
@[simp] theorem emit_mode (e : Emission) : (emit e s).mode = s.mode := rfl
@[simp] theorem emit_power (e : Emission) : (emit e s).power = s.power := rfl
@[simp] theorem emit_time (e : Emission) : (emit e s).time = s.time := rfl
@[simp] theorem emit_lane (e : Emission) : (emit e s).lane = s.lane := rfl
@[simp] theorem emit_rx (e : Emission) : (emit e s).rx = s.rx := rfl
@[simp] theorem emit_sweep (e : Emission) : (emit e s).sweep = s.sweep := rfl
@[simp] theorem emit_verdict (e : Emission) : (emit e s).verdict = s.verdict := rfl
@[simp] theorem emit_roll (e : Emission) : (emit e s).roll = s.roll := rfl
@[simp] theorem emit_tx (e : Emission) : (emit e s).tx = s.tx := rfl
@[simp] theorem emit_cipher (e : Emission) : (emit e s).cipher = s.cipher := rfl
@[simp] theorem emit_prefect (e : Emission) : (emit e s).prefect = s.prefect := rfl
@[simp] theorem emit_tiles (e : Emission) : (emit e s).tiles = s.tiles := rfl
@[simp] theorem emit_mesh (e : Emission) : (emit e s).mesh = s.mesh := rfl
@[simp] theorem emit_pace (e : Emission) : (emit e s).pace = s.pace := rfl
@[simp] theorem emit_fault (e : Emission) : (emit e s).fault = s.fault := rfl
@[simp] theorem emit_molfen (e : Emission) : (emit e s).molfen = s.molfen := rfl
@[simp] theorem emit_stack (e : Emission) : (emit e s).stack = s.stack := rfl
@[simp] theorem emit_snap (e : Emission) : (emit e s).snap = s.snap := rfl
@[simp] theorem emit_saved (e : Emission) : (emit e s).saved = s.saved := rfl
@[simp] theorem laneOf_emit (e : Emission) (j : Nat) : laneOf (emit e s) j = laneOf s j := rfl
@[simp] theorem headOf_emit (e : Emission) (j : Nat) : headOf (emit e s) j = headOf s j := rfl
@[simp] theorem cageOf_emit (e : Emission) (j : Nat) : cageOf (emit e s) j = cageOf s j := rfl
@[simp] theorem entryOf_emit (e : Emission) (j : Nat) : entryOf (emit e s) j = entryOf s j := rfl
@[simp] theorem accountOf_emit (e : Emission) (j : Nat) : accountOf (emit e s) j = accountOf s j := rfl
@[simp] theorem captureOf_emit (e : Emission) (j : Nat) : captureOf (emit e s) j = captureOf s j := rfl
@[simp] theorem engineOf_emit (e : Emission) (j : Nat) : engineOf (emit e s) j = engineOf s j := rfl
@[simp] theorem keyOf_emit (e : Emission) (j : Nat) : keyOf (emit e s) j = keyOf s j := rfl
@[simp] theorem tileOf_emit (e : Emission) (j : Nat) : tileOf (emit e s) j = tileOf s j := rfl
@[simp] theorem channelOf_emit (e : Emission) (j : Nat) : channelOf (emit e s) j = channelOf s j := rfl
@[simp] theorem islandOf_emit (e : Emission) (j : Nat) : islandOf (emit e s) j = islandOf s j := rfl
@[simp] theorem domainOf_emit (e : Emission) (j : Nat) : domainOf (emit e s) j = domainOf s j := rfl
@[simp] theorem cardOf_emit (e : Emission) (j : Nat) : cardOf (emit e s) j = cardOf s j := rfl
@[simp] theorem packageOf_emit (e : Emission) (j : Nat) : packageOf (emit e s) j = packageOf s j := rfl
@[simp] theorem streamOf_emit (e : Emission) (j : Nat) : streamOf (emit e s) j = streamOf s j := rfl
@[simp] theorem beamsOf_emit (e : Emission) (j : Nat) : beamsOf (emit e s) j = beamsOf s j := rfl
@[simp] theorem physOf_emit (e : Emission) (j : Nat) : physOf (emit e s) j = physOf s j := rfl
@[simp] theorem timerOf_emit (e : Emission) (j : Nat) : timerOf (emit e s) j = timerOf s j := rfl
@[simp] theorem bellOf_emit (e : Emission) (j : Nat) : bellOf (emit e s) j = bellOf s j := rfl
@[simp] theorem xferOf_emit (e : Emission) (j : Nat) : xferOf (emit e s) j = xferOf s j := rfl
@[simp] theorem heldOf_emit (e : Emission) (j : Nat) : heldOf (emit e s) j = heldOf s j := rfl

/-! ### emitAll -/

@[simp] theorem emitAll_pending (es : List Emission) : (emitAll es s).pending = s.pending := rfl
@[simp] theorem emitAll_freeCount (es : List Emission) : (emitAll es s).freeCount = s.freeCount := rfl
@[simp] theorem emitAll_answer (es : List Emission) : (emitAll es s).answer = s.answer := rfl
@[simp] theorem emitAll_settings (es : List Emission) : (emitAll es s).settings = s.settings := rfl
@[simp] theorem emitAll_mode (es : List Emission) : (emitAll es s).mode = s.mode := rfl
@[simp] theorem emitAll_power (es : List Emission) : (emitAll es s).power = s.power := rfl
@[simp] theorem emitAll_time (es : List Emission) : (emitAll es s).time = s.time := rfl
@[simp] theorem emitAll_lane (es : List Emission) : (emitAll es s).lane = s.lane := rfl
@[simp] theorem emitAll_rx (es : List Emission) : (emitAll es s).rx = s.rx := rfl
@[simp] theorem emitAll_sweep (es : List Emission) : (emitAll es s).sweep = s.sweep := rfl
@[simp] theorem emitAll_verdict (es : List Emission) : (emitAll es s).verdict = s.verdict := rfl
@[simp] theorem emitAll_roll (es : List Emission) : (emitAll es s).roll = s.roll := rfl
@[simp] theorem emitAll_tx (es : List Emission) : (emitAll es s).tx = s.tx := rfl
@[simp] theorem emitAll_cipher (es : List Emission) : (emitAll es s).cipher = s.cipher := rfl
@[simp] theorem emitAll_prefect (es : List Emission) : (emitAll es s).prefect = s.prefect := rfl
@[simp] theorem emitAll_tiles (es : List Emission) : (emitAll es s).tiles = s.tiles := rfl
@[simp] theorem emitAll_mesh (es : List Emission) : (emitAll es s).mesh = s.mesh := rfl
@[simp] theorem emitAll_pace (es : List Emission) : (emitAll es s).pace = s.pace := rfl
@[simp] theorem emitAll_fault (es : List Emission) : (emitAll es s).fault = s.fault := rfl
@[simp] theorem emitAll_molfen (es : List Emission) : (emitAll es s).molfen = s.molfen := rfl
@[simp] theorem emitAll_stack (es : List Emission) : (emitAll es s).stack = s.stack := rfl
@[simp] theorem emitAll_snap (es : List Emission) : (emitAll es s).snap = s.snap := rfl
@[simp] theorem emitAll_saved (es : List Emission) : (emitAll es s).saved = s.saved := rfl
@[simp] theorem laneOf_emitAll (es : List Emission) (j : Nat) : laneOf (emitAll es s) j = laneOf s j := rfl
@[simp] theorem headOf_emitAll (es : List Emission) (j : Nat) : headOf (emitAll es s) j = headOf s j := rfl
@[simp] theorem cageOf_emitAll (es : List Emission) (j : Nat) : cageOf (emitAll es s) j = cageOf s j := rfl
@[simp] theorem entryOf_emitAll (es : List Emission) (j : Nat) : entryOf (emitAll es s) j = entryOf s j := rfl
@[simp] theorem accountOf_emitAll (es : List Emission) (j : Nat) : accountOf (emitAll es s) j = accountOf s j := rfl
@[simp] theorem captureOf_emitAll (es : List Emission) (j : Nat) : captureOf (emitAll es s) j = captureOf s j := rfl
@[simp] theorem engineOf_emitAll (es : List Emission) (j : Nat) : engineOf (emitAll es s) j = engineOf s j := rfl
@[simp] theorem keyOf_emitAll (es : List Emission) (j : Nat) : keyOf (emitAll es s) j = keyOf s j := rfl
@[simp] theorem tileOf_emitAll (es : List Emission) (j : Nat) : tileOf (emitAll es s) j = tileOf s j := rfl
@[simp] theorem channelOf_emitAll (es : List Emission) (j : Nat) : channelOf (emitAll es s) j = channelOf s j := rfl
@[simp] theorem islandOf_emitAll (es : List Emission) (j : Nat) : islandOf (emitAll es s) j = islandOf s j := rfl
@[simp] theorem domainOf_emitAll (es : List Emission) (j : Nat) : domainOf (emitAll es s) j = domainOf s j := rfl
@[simp] theorem cardOf_emitAll (es : List Emission) (j : Nat) : cardOf (emitAll es s) j = cardOf s j := rfl
@[simp] theorem packageOf_emitAll (es : List Emission) (j : Nat) : packageOf (emitAll es s) j = packageOf s j := rfl
@[simp] theorem streamOf_emitAll (es : List Emission) (j : Nat) : streamOf (emitAll es s) j = streamOf s j := rfl
@[simp] theorem beamsOf_emitAll (es : List Emission) (j : Nat) : beamsOf (emitAll es s) j = beamsOf s j := rfl
@[simp] theorem physOf_emitAll (es : List Emission) (j : Nat) : physOf (emitAll es s) j = physOf s j := rfl
@[simp] theorem timerOf_emitAll (es : List Emission) (j : Nat) : timerOf (emitAll es s) j = timerOf s j := rfl
@[simp] theorem bellOf_emitAll (es : List Emission) (j : Nat) : bellOf (emitAll es s) j = bellOf s j := rfl
@[simp] theorem xferOf_emitAll (es : List Emission) (j : Nat) : xferOf (emitAll es s) j = xferOf s j := rfl
@[simp] theorem heldOf_emitAll (es : List Emission) (j : Nat) : heldOf (emitAll es s) j = heldOf s j := rfl

/-! ### putSetting -/

@[simp] theorem putSetting_pending (vi idx sub el v : Nat) : (putSetting s vi idx sub el v).pending = s.pending := rfl
@[simp] theorem putSetting_freeCount (vi idx sub el v : Nat) : (putSetting s vi idx sub el v).freeCount = s.freeCount := rfl
@[simp] theorem putSetting_answer (vi idx sub el v : Nat) : (putSetting s vi idx sub el v).answer = s.answer := rfl
@[simp] theorem putSetting_outbox (vi idx sub el v : Nat) : (putSetting s vi idx sub el v).outbox = s.outbox := rfl
@[simp] theorem putSetting_mode (vi idx sub el v : Nat) : (putSetting s vi idx sub el v).mode = s.mode := rfl
@[simp] theorem putSetting_power (vi idx sub el v : Nat) : (putSetting s vi idx sub el v).power = s.power := rfl
@[simp] theorem putSetting_time (vi idx sub el v : Nat) : (putSetting s vi idx sub el v).time = s.time := rfl
@[simp] theorem putSetting_lane (vi idx sub el v : Nat) : (putSetting s vi idx sub el v).lane = s.lane := rfl
@[simp] theorem putSetting_rx (vi idx sub el v : Nat) : (putSetting s vi idx sub el v).rx = s.rx := rfl
@[simp] theorem putSetting_sweep (vi idx sub el v : Nat) : (putSetting s vi idx sub el v).sweep = s.sweep := rfl
@[simp] theorem putSetting_verdict (vi idx sub el v : Nat) : (putSetting s vi idx sub el v).verdict = s.verdict := rfl
@[simp] theorem putSetting_roll (vi idx sub el v : Nat) : (putSetting s vi idx sub el v).roll = s.roll := rfl
@[simp] theorem putSetting_tx (vi idx sub el v : Nat) : (putSetting s vi idx sub el v).tx = s.tx := rfl
@[simp] theorem putSetting_cipher (vi idx sub el v : Nat) : (putSetting s vi idx sub el v).cipher = s.cipher := rfl
@[simp] theorem putSetting_prefect (vi idx sub el v : Nat) : (putSetting s vi idx sub el v).prefect = s.prefect := rfl
@[simp] theorem putSetting_tiles (vi idx sub el v : Nat) : (putSetting s vi idx sub el v).tiles = s.tiles := rfl
@[simp] theorem putSetting_mesh (vi idx sub el v : Nat) : (putSetting s vi idx sub el v).mesh = s.mesh := rfl
@[simp] theorem putSetting_pace (vi idx sub el v : Nat) : (putSetting s vi idx sub el v).pace = s.pace := rfl
@[simp] theorem putSetting_fault (vi idx sub el v : Nat) : (putSetting s vi idx sub el v).fault = s.fault := rfl
@[simp] theorem putSetting_molfen (vi idx sub el v : Nat) : (putSetting s vi idx sub el v).molfen = s.molfen := rfl
@[simp] theorem putSetting_stack (vi idx sub el v : Nat) : (putSetting s vi idx sub el v).stack = s.stack := rfl
@[simp] theorem putSetting_snap (vi idx sub el v : Nat) : (putSetting s vi idx sub el v).snap = s.snap := rfl
@[simp] theorem putSetting_saved (vi idx sub el v : Nat) : (putSetting s vi idx sub el v).saved = s.saved := rfl
@[simp] theorem laneOf_putSetting (vi idx sub el v : Nat) (j : Nat) : laneOf (putSetting s vi idx sub el v) j = laneOf s j := rfl
@[simp] theorem headOf_putSetting (vi idx sub el v : Nat) (j : Nat) : headOf (putSetting s vi idx sub el v) j = headOf s j := rfl
@[simp] theorem cageOf_putSetting (vi idx sub el v : Nat) (j : Nat) : cageOf (putSetting s vi idx sub el v) j = cageOf s j := rfl
@[simp] theorem entryOf_putSetting (vi idx sub el v : Nat) (j : Nat) : entryOf (putSetting s vi idx sub el v) j = entryOf s j := rfl
@[simp] theorem accountOf_putSetting (vi idx sub el v : Nat) (j : Nat) : accountOf (putSetting s vi idx sub el v) j = accountOf s j := rfl
@[simp] theorem captureOf_putSetting (vi idx sub el v : Nat) (j : Nat) : captureOf (putSetting s vi idx sub el v) j = captureOf s j := rfl
@[simp] theorem engineOf_putSetting (vi idx sub el v : Nat) (j : Nat) : engineOf (putSetting s vi idx sub el v) j = engineOf s j := rfl
@[simp] theorem keyOf_putSetting (vi idx sub el v : Nat) (j : Nat) : keyOf (putSetting s vi idx sub el v) j = keyOf s j := rfl
@[simp] theorem tileOf_putSetting (vi idx sub el v : Nat) (j : Nat) : tileOf (putSetting s vi idx sub el v) j = tileOf s j := rfl
@[simp] theorem channelOf_putSetting (vi idx sub el v : Nat) (j : Nat) : channelOf (putSetting s vi idx sub el v) j = channelOf s j := rfl
@[simp] theorem islandOf_putSetting (vi idx sub el v : Nat) (j : Nat) : islandOf (putSetting s vi idx sub el v) j = islandOf s j := rfl
@[simp] theorem domainOf_putSetting (vi idx sub el v : Nat) (j : Nat) : domainOf (putSetting s vi idx sub el v) j = domainOf s j := rfl
@[simp] theorem cardOf_putSetting (vi idx sub el v : Nat) (j : Nat) : cardOf (putSetting s vi idx sub el v) j = cardOf s j := rfl
@[simp] theorem packageOf_putSetting (vi idx sub el v : Nat) (j : Nat) : packageOf (putSetting s vi idx sub el v) j = packageOf s j := rfl
@[simp] theorem streamOf_putSetting (vi idx sub el v : Nat) (j : Nat) : streamOf (putSetting s vi idx sub el v) j = streamOf s j := rfl
@[simp] theorem beamsOf_putSetting (vi idx sub el v : Nat) (j : Nat) : beamsOf (putSetting s vi idx sub el v) j = beamsOf s j := rfl
@[simp] theorem physOf_putSetting (vi idx sub el v : Nat) (j : Nat) : physOf (putSetting s vi idx sub el v) j = physOf s j := rfl
@[simp] theorem timerOf_putSetting (vi idx sub el v : Nat) (j : Nat) : timerOf (putSetting s vi idx sub el v) j = timerOf s j := rfl
@[simp] theorem bellOf_putSetting (vi idx sub el v : Nat) (j : Nat) : bellOf (putSetting s vi idx sub el v) j = bellOf s j := rfl
@[simp] theorem xferOf_putSetting (vi idx sub el v : Nat) (j : Nat) : xferOf (putSetting s vi idx sub el v) j = xferOf s j := rfl
@[simp] theorem heldOf_putSetting (vi idx sub el v : Nat) (j : Nat) : heldOf (putSetting s vi idx sub el v) j = heldOf s j := rfl

theorem modTile_eq (k : Nat) (f : Tile → Tile) : modTile s k f = setTile s k (f (tileOf s k)) := rfl
theorem modLane_eq (k : Nat) (f : Lane → Lane) : modLane s k f = setLane s k (f (laneOf s k)) := rfl
theorem modHead_eq (k : Nat) (f : Head → Head) : modHead s k f = setHead s k (f (headOf s k)) := rfl
theorem modCapture_eq (k : Nat) (f : Capture → Capture) : modCapture s k f = setCapture s k (f (captureOf s k)) := rfl

/-! ### drawFree, advanceTo, tick -/

@[simp] theorem laneOf_drawFree (j : Nat) : laneOf (drawFree s).2 j = laneOf s j := rfl
@[simp] theorem laneOf_advanceTo (n j : Nat) : laneOf (advanceTo n s) j = laneOf s j := by unfold advanceTo; split <;> rfl
@[simp] theorem headOf_drawFree (j : Nat) : headOf (drawFree s).2 j = headOf s j := rfl
@[simp] theorem headOf_advanceTo (n j : Nat) : headOf (advanceTo n s) j = headOf s j := by unfold advanceTo; split <;> rfl
@[simp] theorem cageOf_drawFree (j : Nat) : cageOf (drawFree s).2 j = cageOf s j := rfl
@[simp] theorem cageOf_advanceTo (n j : Nat) : cageOf (advanceTo n s) j = cageOf s j := by unfold advanceTo; split <;> rfl
@[simp] theorem entryOf_drawFree (j : Nat) : entryOf (drawFree s).2 j = entryOf s j := rfl
@[simp] theorem entryOf_advanceTo (n j : Nat) : entryOf (advanceTo n s) j = entryOf s j := by unfold advanceTo; split <;> rfl
@[simp] theorem accountOf_drawFree (j : Nat) : accountOf (drawFree s).2 j = accountOf s j := rfl
@[simp] theorem accountOf_advanceTo (n j : Nat) : accountOf (advanceTo n s) j = accountOf s j := by unfold advanceTo; split <;> rfl
@[simp] theorem captureOf_drawFree (j : Nat) : captureOf (drawFree s).2 j = captureOf s j := rfl
@[simp] theorem captureOf_advanceTo (n j : Nat) : captureOf (advanceTo n s) j = captureOf s j := by unfold advanceTo; split <;> rfl
@[simp] theorem engineOf_drawFree (j : Nat) : engineOf (drawFree s).2 j = engineOf s j := rfl
@[simp] theorem engineOf_advanceTo (n j : Nat) : engineOf (advanceTo n s) j = engineOf s j := by unfold advanceTo; split <;> rfl
@[simp] theorem keyOf_drawFree (j : Nat) : keyOf (drawFree s).2 j = keyOf s j := rfl
@[simp] theorem keyOf_advanceTo (n j : Nat) : keyOf (advanceTo n s) j = keyOf s j := by unfold advanceTo; split <;> rfl
@[simp] theorem tileOf_drawFree (j : Nat) : tileOf (drawFree s).2 j = tileOf s j := rfl
@[simp] theorem tileOf_advanceTo (n j : Nat) : tileOf (advanceTo n s) j = tileOf s j := by unfold advanceTo; split <;> rfl
@[simp] theorem channelOf_drawFree (j : Nat) : channelOf (drawFree s).2 j = channelOf s j := rfl
@[simp] theorem channelOf_advanceTo (n j : Nat) : channelOf (advanceTo n s) j = channelOf s j := by unfold advanceTo; split <;> rfl
@[simp] theorem islandOf_drawFree (j : Nat) : islandOf (drawFree s).2 j = islandOf s j := rfl
@[simp] theorem islandOf_advanceTo (n j : Nat) : islandOf (advanceTo n s) j = islandOf s j := by unfold advanceTo; split <;> rfl
@[simp] theorem domainOf_drawFree (j : Nat) : domainOf (drawFree s).2 j = domainOf s j := rfl
@[simp] theorem domainOf_advanceTo (n j : Nat) : domainOf (advanceTo n s) j = domainOf s j := by unfold advanceTo; split <;> rfl
@[simp] theorem cardOf_drawFree (j : Nat) : cardOf (drawFree s).2 j = cardOf s j := rfl
@[simp] theorem cardOf_advanceTo (n j : Nat) : cardOf (advanceTo n s) j = cardOf s j := by unfold advanceTo; split <;> rfl
@[simp] theorem packageOf_drawFree (j : Nat) : packageOf (drawFree s).2 j = packageOf s j := rfl
@[simp] theorem packageOf_advanceTo (n j : Nat) : packageOf (advanceTo n s) j = packageOf s j := by unfold advanceTo; split <;> rfl
@[simp] theorem streamOf_drawFree (j : Nat) : streamOf (drawFree s).2 j = streamOf s j := rfl
@[simp] theorem streamOf_advanceTo (n j : Nat) : streamOf (advanceTo n s) j = streamOf s j := by unfold advanceTo; split <;> rfl
@[simp] theorem beamsOf_drawFree (j : Nat) : beamsOf (drawFree s).2 j = beamsOf s j := rfl
@[simp] theorem beamsOf_advanceTo (n j : Nat) : beamsOf (advanceTo n s) j = beamsOf s j := by unfold advanceTo; split <;> rfl
@[simp] theorem physOf_drawFree (j : Nat) : physOf (drawFree s).2 j = physOf s j := rfl
@[simp] theorem physOf_advanceTo (n j : Nat) : physOf (advanceTo n s) j = physOf s j := by unfold advanceTo; split <;> rfl
@[simp] theorem timerOf_drawFree (j : Nat) : timerOf (drawFree s).2 j = timerOf s j := rfl
@[simp] theorem timerOf_advanceTo (n j : Nat) : timerOf (advanceTo n s) j = timerOf s j := by unfold advanceTo; split <;> rfl
@[simp] theorem bellOf_drawFree (j : Nat) : bellOf (drawFree s).2 j = bellOf s j := rfl
@[simp] theorem bellOf_advanceTo (n j : Nat) : bellOf (advanceTo n s) j = bellOf s j := by unfold advanceTo; split <;> rfl
@[simp] theorem xferOf_drawFree (j : Nat) : xferOf (drawFree s).2 j = xferOf s j := rfl
@[simp] theorem xferOf_advanceTo (n j : Nat) : xferOf (advanceTo n s) j = xferOf s j := by unfold advanceTo; split <;> rfl
@[simp] theorem heldOf_drawFree (j : Nat) : heldOf (drawFree s).2 j = heldOf s j := rfl
@[simp] theorem heldOf_advanceTo (n j : Nat) : heldOf (advanceTo n s) j = heldOf s j := by unfold advanceTo; split <;> rfl
@[simp] theorem drawFree_pending : (drawFree s).2.pending = s.pending := rfl
@[simp] theorem drawFree_answer : (drawFree s).2.answer = s.answer := rfl
@[simp] theorem drawFree_outbox : (drawFree s).2.outbox = s.outbox := rfl
@[simp] theorem drawFree_settings : (drawFree s).2.settings = s.settings := rfl
@[simp] theorem drawFree_mode : (drawFree s).2.mode = s.mode := rfl
@[simp] theorem drawFree_power : (drawFree s).2.power = s.power := rfl
@[simp] theorem drawFree_time : (drawFree s).2.time = s.time := rfl
@[simp] theorem drawFree_lane : (drawFree s).2.lane = s.lane := rfl
@[simp] theorem drawFree_rx : (drawFree s).2.rx = s.rx := rfl
@[simp] theorem drawFree_sweep : (drawFree s).2.sweep = s.sweep := rfl
@[simp] theorem drawFree_verdict : (drawFree s).2.verdict = s.verdict := rfl
@[simp] theorem drawFree_roll : (drawFree s).2.roll = s.roll := rfl
@[simp] theorem drawFree_tx : (drawFree s).2.tx = s.tx := rfl
@[simp] theorem drawFree_cipher : (drawFree s).2.cipher = s.cipher := rfl
@[simp] theorem drawFree_prefect : (drawFree s).2.prefect = s.prefect := rfl
@[simp] theorem drawFree_tiles : (drawFree s).2.tiles = s.tiles := rfl
@[simp] theorem drawFree_mesh : (drawFree s).2.mesh = s.mesh := rfl
@[simp] theorem drawFree_pace : (drawFree s).2.pace = s.pace := rfl
@[simp] theorem drawFree_fault : (drawFree s).2.fault = s.fault := rfl
@[simp] theorem drawFree_molfen : (drawFree s).2.molfen = s.molfen := rfl
@[simp] theorem drawFree_stack : (drawFree s).2.stack = s.stack := rfl
@[simp] theorem drawFree_snap : (drawFree s).2.snap = s.snap := rfl
@[simp] theorem drawFree_saved : (drawFree s).2.saved = s.saved := rfl

@[simp] theorem advanceTo_pending (n : Nat) : (advanceTo n s).pending = s.pending := by unfold advanceTo; split <;> rfl
@[simp] theorem advanceTo_freeCount (n : Nat) : (advanceTo n s).freeCount = s.freeCount := by unfold advanceTo; split <;> rfl
@[simp] theorem advanceTo_answer (n : Nat) : (advanceTo n s).answer = s.answer := by unfold advanceTo; split <;> rfl
@[simp] theorem advanceTo_outbox (n : Nat) : (advanceTo n s).outbox = s.outbox := by unfold advanceTo; split <;> rfl
@[simp] theorem advanceTo_settings (n : Nat) : (advanceTo n s).settings = s.settings := by unfold advanceTo; split <;> rfl
@[simp] theorem advanceTo_mode (n : Nat) : (advanceTo n s).mode = s.mode := by unfold advanceTo; split <;> rfl
@[simp] theorem advanceTo_power (n : Nat) : (advanceTo n s).power = s.power := by unfold advanceTo; split <;> rfl
@[simp] theorem advanceTo_lane (n : Nat) : (advanceTo n s).lane = s.lane := by unfold advanceTo; split <;> rfl
@[simp] theorem advanceTo_rx (n : Nat) : (advanceTo n s).rx = s.rx := by unfold advanceTo; split <;> rfl
@[simp] theorem advanceTo_sweep (n : Nat) : (advanceTo n s).sweep = s.sweep := by unfold advanceTo; split <;> rfl
@[simp] theorem advanceTo_verdict (n : Nat) : (advanceTo n s).verdict = s.verdict := by unfold advanceTo; split <;> rfl
@[simp] theorem advanceTo_roll (n : Nat) : (advanceTo n s).roll = s.roll := by unfold advanceTo; split <;> rfl
@[simp] theorem advanceTo_tx (n : Nat) : (advanceTo n s).tx = s.tx := by unfold advanceTo; split <;> rfl
@[simp] theorem advanceTo_cipher (n : Nat) : (advanceTo n s).cipher = s.cipher := by unfold advanceTo; split <;> rfl
@[simp] theorem advanceTo_prefect (n : Nat) : (advanceTo n s).prefect = s.prefect := by unfold advanceTo; split <;> rfl
@[simp] theorem advanceTo_tiles (n : Nat) : (advanceTo n s).tiles = s.tiles := by unfold advanceTo; split <;> rfl
@[simp] theorem advanceTo_mesh (n : Nat) : (advanceTo n s).mesh = s.mesh := by unfold advanceTo; split <;> rfl
@[simp] theorem advanceTo_pace (n : Nat) : (advanceTo n s).pace = s.pace := by unfold advanceTo; split <;> rfl
@[simp] theorem advanceTo_fault (n : Nat) : (advanceTo n s).fault = s.fault := by unfold advanceTo; split <;> rfl
@[simp] theorem advanceTo_molfen (n : Nat) : (advanceTo n s).molfen = s.molfen := by unfold advanceTo; split <;> rfl
@[simp] theorem advanceTo_stack (n : Nat) : (advanceTo n s).stack = s.stack := by unfold advanceTo; split <;> rfl
@[simp] theorem advanceTo_snap (n : Nat) : (advanceTo n s).snap = s.snap := by unfold advanceTo; split <;> rfl
@[simp] theorem advanceTo_saved (n : Nat) : (advanceTo n s).saved = s.saved := by unfold advanceTo; split <;> rfl
@[simp] theorem advanceTo_time_firedAt (n : Nat) : (advanceTo n s).time.firedAt = s.time.firedAt := by unfold advanceTo; split <;> rfl
@[simp] theorem advanceTo_time_fired (n : Nat) : (advanceTo n s).time.fired = s.time.fired := by unfold advanceTo; split <;> rfl
@[simp] theorem advanceTo_time_refLost (n : Nat) : (advanceTo n s).time.refLost = s.time.refLost := by unfold advanceTo; split <;> rfl
@[simp] theorem advanceTo_time_valid (n : Nat) : (advanceTo n s).time.valid = s.time.valid := by unfold advanceTo; split <;> rfl
@[simp] theorem advanceTo_time_extrap (n : Nat) : (advanceTo n s).time.extrap = s.time.extrap := by unfold advanceTo; split <;> rfl
@[simp] theorem advanceTo_time_loopLock (n : Nat) : (advanceTo n s).time.loopLock = s.time.loopLock := by unfold advanceTo; split <;> rfl
@[simp] theorem advanceTo_time_rimStop (n : Nat) : (advanceTo n s).time.rimStop = s.time.rimStop := by unfold advanceTo; split <;> rfl
@[simp] theorem advanceTo_time_qualified (n : Nat) : (advanceTo n s).time.qualified = s.time.qualified := by unfold advanceTo; split <;> rfl
@[simp] theorem advanceTo_time_restart (n : Nat) : (advanceTo n s).time.restart = s.time.restart := by unfold advanceTo; split <;> rfl
@[simp] theorem advanceTo_time_atX (n : Nat) : (advanceTo n s).time.atX = s.time.atX := by unfold advanceTo; split <;> rfl
@[simp] theorem advanceTo_time_usX (n : Nat) : (advanceTo n s).time.usX = s.time.usX := by unfold advanceTo; split <;> rfl
@[simp] theorem advanceTo_time_careSince (n : Nat) : (advanceTo n s).time.careSince = s.time.careSince := by unfold advanceTo; split <;> rfl
@[simp] theorem advanceTo_time_persistedAt (n : Nat) : (advanceTo n s).time.persistedAt = s.time.persistedAt := by unfold advanceTo; split <;> rfl
@[simp] theorem advanceTo_time_carePersisted (n : Nat) : (advanceTo n s).time.carePersisted = s.time.carePersisted := by unfold advanceTo; split <;> rfl
@[simp] theorem advanceTo_time_pendingEpoch (n : Nat) : (advanceTo n s).time.pendingEpoch = s.time.pendingEpoch := by unfold advanceTo; split <;> rfl
@[simp] theorem advanceTo_time_refOffset (n : Nat) : (advanceTo n s).time.refOffset = s.time.refOffset := by unfold advanceTo; split <;> rfl
@[simp] theorem advanceTo_time_refLosses (n : Nat) : (advanceTo n s).time.refLosses = s.time.refLosses := by unfold advanceTo; split <;> rfl
@[simp] theorem advanceTo_time_bells (n : Nat) : (advanceTo n s).time.bells = s.time.bells := by unfold advanceTo; split <;> rfl
@[simp] theorem advanceTo_time_paceTimers (n : Nat) : (advanceTo n s).time.paceTimers = s.time.paceTimers := by unfold advanceTo; split <;> rfl
@[simp] theorem advanceTo_time_ledger (n : Nat) : (advanceTo n s).time.ledger = s.time.ledger := by unfold advanceTo; split <;> rfl
@[simp] theorem advanceTo_time_ledgerPersisted (n : Nat) : (advanceTo n s).time.ledgerPersisted = s.time.ledgerPersisted := by unfold advanceTo; split <;> rfl
@[simp] theorem advanceTo_time_gap (n : Nat) : (advanceTo n s).time.gap = s.time.gap := by unfold advanceTo; split <;> rfl
@[simp] theorem advanceTo_time_rimHeld (n : Nat) : (advanceTo n s).time.rimHeld = s.time.rimHeld := by unfold advanceTo; split <;> rfl
@[simp] theorem advanceTo_time_snapshotAt (n : Nat) : (advanceTo n s).time.snapshotAt = s.time.snapshotAt := by unfold advanceTo; split <;> rfl
/-- Time passes up to the air time named, where the timebase is valid. -/
theorem advanceTo_airTime (n : Nat) (h : s.time.valid = true) : (advanceTo n s).time.airTime = max s.time.airTime n := by
  unfold advanceTo
  split
  · rename_i g; simp only []; omega
  · rename_i g; simp only [h, true_and, not_lt] at g; omega
theorem advanceTo_invalid (n : Nat) (h : s.time.valid = false) : advanceTo n s = s := by simp [advanceTo, h]

@[simp] theorem tick_pending : (tick s).pending = s.pending := rfl
@[simp] theorem tick_freeCount : (tick s).freeCount = s.freeCount := rfl
@[simp] theorem tick_answer : (tick s).answer = s.answer := rfl
@[simp] theorem tick_outbox : (tick s).outbox = s.outbox := rfl
@[simp] theorem tick_settings : (tick s).settings = s.settings := rfl
@[simp] theorem tick_mode : (tick s).mode = s.mode := rfl
@[simp] theorem tick_power : (tick s).power = s.power := rfl
@[simp] theorem tick_lane : (tick s).lane = s.lane := rfl
@[simp] theorem tick_rx : (tick s).rx = s.rx := rfl
@[simp] theorem tick_sweep : (tick s).sweep = s.sweep := rfl
@[simp] theorem tick_verdict : (tick s).verdict = s.verdict := rfl
@[simp] theorem tick_roll : (tick s).roll = s.roll := rfl
@[simp] theorem tick_tx : (tick s).tx = s.tx := rfl
@[simp] theorem tick_cipher : (tick s).cipher = s.cipher := rfl
@[simp] theorem tick_prefect : (tick s).prefect = s.prefect := rfl
@[simp] theorem tick_tiles : (tick s).tiles = s.tiles := rfl
@[simp] theorem tick_mesh : (tick s).mesh = s.mesh := rfl
@[simp] theorem tick_pace : (tick s).pace = s.pace := rfl
@[simp] theorem tick_fault : (tick s).fault = s.fault := rfl
@[simp] theorem tick_molfen : (tick s).molfen = s.molfen := rfl
@[simp] theorem tick_stack : (tick s).stack = s.stack := rfl
@[simp] theorem tick_snap : (tick s).snap = s.snap := rfl
@[simp] theorem tick_saved : (tick s).saved = s.saved := rfl

end Sys2Proof.Machine
end

