-- ==== Sys2Proof/Laws/Keeps.lean ====
section
/-! SUPPORT. Every shared operation leaves the queue of waiting commands alone, keeps the memories behind the mesh in their
canonical form, and keeps the device-wide sequences away from their reserved numbers. -/

set_option linter.unusedTactic false
set_option linter.unreachableTactic false
set_option linter.unusedSimpArgs false
set_option linter.unusedVariables false

namespace Sys2Proof.Machine

open Sys2Proof.Safety

/-- What every operation keeps, from state s to state u. -/
structure keeps (s u : State) : Prop where
  pending : u.pending = s.pending
  mem : canonical s → canonical u
  seq : numbered s → numbered u

/-- What `keeps` reads of a state. -/
def keptPart (s : State) : List Instr × List Host.Cell × List Nat :=
  (s.pending, s.mesh.mem, [s.fault.nextEseq, s.molfen.nextTseq, s.roll.nextJseq, s.sweep.nextDseq, s.tx.nextRqid,
    s.sweep.dseqReserved, s.tx.rqidReserved])

theorem keeps.refl (s : State) : keeps s s := ⟨rfl, id, id⟩
theorem keeps.trans {s u v : State} (h : keeps s u) (g : keeps u v) : keeps s v :=
  ⟨g.pending.trans h.pending, g.mem ∘ h.mem, g.seq ∘ h.seq⟩
/-- An update of anything else. -/
theorem keeps.of_part {s x u : State} (h : keeps s x) (e : keptPart u = keptPart x) : keeps s u := by
  simp only [keptPart, Prod.mk.injEq, List.cons.injEq, and_true] at e
  obtain ⟨e1, e2, e3, e4, e5, e6, e7, e8, e9⟩ := e
  refine ⟨e1.trans h.pending, fun c => ?_, fun c => ?_⟩
  · unfold canonical; rw [e2]; exact h.mem c
  · have := h.seq c
    unfold numbered at this ⊢
    rw [e3, e4, e5, e6, e7, e8, e9]; exact this
/-- `keeps`, of the parts it reads. -/
def keepsParts (s : State) (p : List Instr) (m : List Host.Cell) (a b c d e f g : Nat) : Prop :=
  p = s.pending ∧ (canonical s → memWf m = true)
    ∧ (numbered s → seqOk a ∧ seqOk b ∧ seqOk c ∧ seqOk d ∧ seqOk e ∧ seqOk f ∧ seqOk g)
theorem keeps_iff_parts {s u : State} : keeps s u ↔ keepsParts s u.pending u.mesh.mem u.fault.nextEseq u.molfen.nextTseq
    u.roll.nextJseq u.sweep.nextDseq u.tx.nextRqid u.sweep.dseqReserved u.tx.rqidReserved :=
  ⟨fun h => ⟨h.pending, h.mem, h.seq⟩, fun h => ⟨h.1, h.2.1, h.2.2⟩⟩
theorem keepsParts_of {s x : State} (h : keeps s x) : keepsParts s x.pending x.mesh.mem x.fault.nextEseq x.molfen.nextTseq
    x.roll.nextJseq x.sweep.nextDseq x.tx.nextRqid x.sweep.dseqReserved x.tx.rqidReserved := keeps_iff_parts.1 h
/-- A record update written out. -/
theorem keeps_mk {s : State} {p fc a o st m pw t l r} {sw : SweepUnit} {v} {ro : RollUnit} {tx : TxUnit} {ci pf ti}
    {me : MeshUnit} {pa} {f : FaultUnit} {mo : MolfenUnit} {sk sn sa} :
    keeps s (State.mk p fc a o st m pw t l r sw v ro tx ci pf ti me pa f mo sk sn sa)
      = keepsParts s p me.mem f.nextEseq mo.nextTseq ro.nextJseq sw.nextDseq tx.nextRqid sw.dseqReserved tx.rqidReserved :=
  propext keeps_iff_parts
theorem keeps.ite {c : Prop} [Decidable c] {s u v : State} (h : keeps s u) (g : keeps s v) : keeps s (if c then u else v) := by
  split <;> assumption
theorem keeps.foldl {α : Type} {s x : State} (f : State → α → State) (l : List α) (h : keeps s x)
    (hf : ∀ y a, keeps s y → keeps s (f y a)) : keeps s (l.foldl f x) := by
  induction l generalizing x with
  | nil => exact h
  | cons a l ih => exact ih (hf x a h)
theorem keeps.foldl2 {α β : Type} {s : State} {x : State × β} (f : State × β → α → State × β) (l : List α) (h : keeps s x.1)
    (hf : ∀ y a, keeps s y.1 → keeps s (f y a).1) : keeps s (l.foldl f x).1 := by
  induction l generalizing x with
  | nil => exact h
  | cons a l ih => exact ih (hf x a h)
theorem seqNext_ok (n : Nat) (h : seqOk n) : seqOk (seqNext n) := by
  unfold seqNext seqOk at *; split <;> omega
theorem seqAdd_ok (n k : Nat) : seqOk (seqAdd n k) := by
  unfold seqAdd seqOk; omega

theorem answerOf_keeps {s0 : State} (st : Status) (data : Nat) {s : State} (h0 : keeps s0 s) :
    keeps s0 (answerOf st data s) := by
  unfold answerOf
  repeat' first
    | with_reducible assumption
    | with_reducible refine keeps.foldl _ _ ?_ (fun y a hy => ?_)
    | with_reducible apply keeps.ite
    | with_reducible apply keepsParts_of
    | simp only [keeps_mk]
    | dsimp only
    | split
    | (intro y hy)

theorem answering_keeps {s0 : State} (st : Status) {s : State} (h0 : keeps s0 s) :
    keeps s0 (answering st s) := by
  unfold answering
  repeat' first
    | with_reducible assumption
    | with_reducible apply answerOf_keeps
    | with_reducible refine keeps.foldl _ _ ?_ (fun y a hy => ?_)
    | with_reducible apply keeps.ite
    | with_reducible apply keepsParts_of
    | simp only [keeps_mk]
    | dsimp only
    | split
    | (intro y hy)

theorem emit_keeps {s0 : State} (e : Emission) {s : State} (h0 : keeps s0 s) :
    keeps s0 (emit e s) := by
  unfold emit
  repeat' first
    | with_reducible assumption
    | with_reducible refine keeps.foldl _ _ ?_ (fun y a hy => ?_)
    | with_reducible apply keeps.ite
    | with_reducible apply keepsParts_of
    | simp only [keeps_mk]
    | dsimp only
    | split
    | (intro y hy)

theorem emitAll_keeps {s0 : State} (es : List Emission) {s : State} (h0 : keeps s0 s) :
    keeps s0 (emitAll es s) := by
  unfold emitAll
  repeat' first
    | with_reducible assumption
    | with_reducible refine keeps.foldl _ _ ?_ (fun y a hy => ?_)
    | with_reducible apply keeps.ite
    | with_reducible apply keepsParts_of
    | simp only [keeps_mk]
    | dsimp only
    | split
    | (intro y hy)

theorem drawFree_keeps {s0 : State} {s : State} (h0 : keeps s0 s) :
    keeps s0 (drawFree s).2 := by
  unfold drawFree
  repeat' first
    | with_reducible assumption
    | with_reducible refine keeps.foldl _ _ ?_ (fun y a hy => ?_)
    | with_reducible apply keeps.ite
    | with_reducible apply keepsParts_of
    | simp only [keeps_mk]
    | dsimp only
    | split
    | (intro y hy)

theorem advanceTo_keeps {s0 : State} (n : Nat) {s : State} (h0 : keeps s0 s) :
    keeps s0 (advanceTo n s) := by
  unfold advanceTo
  repeat' first
    | with_reducible assumption
    | with_reducible refine keeps.foldl _ _ ?_ (fun y a hy => ?_)
    | with_reducible apply keeps.ite
    | with_reducible apply keepsParts_of
    | simp only [keeps_mk]
    | dsimp only
    | split
    | (intro y hy)

theorem markFired_keeps {s0 : State} (k : Nat) (n : Nat) {s : State} (h0 : keeps s0 s) :
    keeps s0 (markFired k n s) := by
  unfold markFired
  repeat' first
    | with_reducible assumption
    | with_reducible refine keeps.foldl _ _ ?_ (fun y a hy => ?_)
    | with_reducible apply keeps.ite
    | with_reducible apply keepsParts_of
    | simp only [keeps_mk]
    | dsimp only
    | split
    | (intro y hy)

theorem setLane_keeps {s0 : State} {s : State} (l : Nat) (x : Lane) (h0 : keeps s0 s) :
    keeps s0 (setLane s l x) := by
  unfold setLane
  repeat' first
    | with_reducible assumption
    | with_reducible refine keeps.foldl _ _ ?_ (fun y a hy => ?_)
    | with_reducible apply keeps.ite
    | with_reducible apply keepsParts_of
    | simp only [keeps_mk]
    | dsimp only
    | split
    | (intro y hy)

theorem modLane_keeps {s0 : State} {s : State} (l : Nat) (f : Lane → Lane) (h0 : keeps s0 s) :
    keeps s0 (modLane s l f) := by
  unfold modLane
  repeat' first
    | with_reducible assumption
    | with_reducible apply setLane_keeps
    | with_reducible refine keeps.foldl _ _ ?_ (fun y a hy => ?_)
    | with_reducible apply keeps.ite
    | with_reducible apply keepsParts_of
    | simp only [keeps_mk]
    | dsimp only
    | split
    | (intro y hy)

theorem setHead_keeps {s0 : State} {s : State} (h : Nat) (x : Head) (h0 : keeps s0 s) :
    keeps s0 (setHead s h x) := by
  unfold setHead
  repeat' first
    | with_reducible assumption
    | with_reducible refine keeps.foldl _ _ ?_ (fun y a hy => ?_)
    | with_reducible apply keeps.ite
    | with_reducible apply keepsParts_of
    | simp only [keeps_mk]
    | dsimp only
    | split
    | (intro y hy)

theorem modHead_keeps {s0 : State} {s : State} (h : Nat) (f : Head → Head) (h0 : keeps s0 s) :
    keeps s0 (modHead s h f) := by
  unfold modHead
  repeat' first
    | with_reducible assumption
    | with_reducible apply setHead_keeps
    | with_reducible refine keeps.foldl _ _ ?_ (fun y a hy => ?_)
    | with_reducible apply keeps.ite
    | with_reducible apply keepsParts_of
    | simp only [keeps_mk]
    | dsimp only
    | split
    | (intro y hy)

theorem setCage_keeps {s0 : State} {s : State} (c : Nat) (x : Cage) (h0 : keeps s0 s) :
    keeps s0 (setCage s c x) := by
  unfold setCage
  repeat' first
    | with_reducible assumption
    | with_reducible refine keeps.foldl _ _ ?_ (fun y a hy => ?_)
    | with_reducible apply keeps.ite
    | with_reducible apply keepsParts_of
    | simp only [keeps_mk]
    | dsimp only
    | split
    | (intro y hy)

theorem setEntry_keeps {s0 : State} {s : State} (slot : Nat) (e : Entry) (h0 : keeps s0 s) :
    keeps s0 (setEntry s slot e) := by
  unfold setEntry
  repeat' first
    | with_reducible assumption
    | with_reducible refine keeps.foldl _ _ ?_ (fun y a hy => ?_)
    | with_reducible apply keeps.ite
    | with_reducible apply keepsParts_of
    | simp only [keeps_mk]
    | dsimp only
    | split
    | (intro y hy)

theorem setAccount_keeps {s0 : State} {s : State} (slot : Nat) (a : Account) (h0 : keeps s0 s) :
    keeps s0 (setAccount s slot a) := by
  unfold setAccount
  repeat' first
    | with_reducible assumption
    | with_reducible refine keeps.foldl _ _ ?_ (fun y a hy => ?_)
    | with_reducible apply keeps.ite
    | with_reducible apply keepsParts_of
    | simp only [keeps_mk]
    | dsimp only
    | split
    | (intro y hy)

theorem setCapture_keeps {s0 : State} {s : State} (c : Nat) (x : Capture) (h0 : keeps s0 s) :
    keeps s0 (setCapture s c x) := by
  unfold setCapture
  repeat' first
    | with_reducible assumption
    | with_reducible refine keeps.foldl _ _ ?_ (fun y a hy => ?_)
    | with_reducible apply keeps.ite
    | with_reducible apply keepsParts_of
    | simp only [keeps_mk]
    | dsimp only
    | split
    | (intro y hy)

theorem modCapture_keeps {s0 : State} {s : State} (c : Nat) (f : Capture → Capture) (h0 : keeps s0 s) :
    keeps s0 (modCapture s c f) := by
  unfold modCapture
  repeat' first
    | with_reducible assumption
    | with_reducible apply setCapture_keeps
    | with_reducible refine keeps.foldl _ _ ?_ (fun y a hy => ?_)
    | with_reducible apply keeps.ite
    | with_reducible apply keepsParts_of
    | simp only [keeps_mk]
    | dsimp only
    | split
    | (intro y hy)

theorem setEngine_keeps {s0 : State} {s : State} (e : Nat) (x : Engine) (h0 : keeps s0 s) :
    keeps s0 (setEngine s e x) := by
  unfold setEngine
  repeat' first
    | with_reducible assumption
    | with_reducible refine keeps.foldl _ _ ?_ (fun y a hy => ?_)
    | with_reducible apply keeps.ite
    | with_reducible apply keepsParts_of
    | simp only [keeps_mk]
    | dsimp only
    | split
    | (intro y hy)

theorem setKey_keeps {s0 : State} {s : State} (h : Nat) (x : KeySlot) (h0 : keeps s0 s) :
    keeps s0 (setKey s h x) := by
  unfold setKey
  repeat' first
    | with_reducible assumption
    | with_reducible refine keeps.foldl _ _ ?_ (fun y a hy => ?_)
    | with_reducible apply keeps.ite
    | with_reducible apply keepsParts_of
    | simp only [keeps_mk]
    | dsimp only
    | split
    | (intro y hy)

theorem setTile_keeps {s0 : State} {s : State} (t : Nat) (x : Tile) (h0 : keeps s0 s) :
    keeps s0 (setTile s t x) := by
  unfold setTile
  repeat' first
    | with_reducible assumption
    | with_reducible refine keeps.foldl _ _ ?_ (fun y a hy => ?_)
    | with_reducible apply keeps.ite
    | with_reducible apply keepsParts_of
    | simp only [keeps_mk]
    | dsimp only
    | split
    | (intro y hy)

theorem modTile_keeps {s0 : State} {s : State} (t : Nat) (f : Tile → Tile) (h0 : keeps s0 s) :
    keeps s0 (modTile s t f) := by
  unfold modTile
  repeat' first
    | with_reducible assumption
    | with_reducible apply setTile_keeps
    | with_reducible refine keeps.foldl _ _ ?_ (fun y a hy => ?_)
    | with_reducible apply keeps.ite
    | with_reducible apply keepsParts_of
    | simp only [keeps_mk]
    | dsimp only
    | split
    | (intro y hy)

theorem setChannel_keeps {s0 : State} {s : State} (c : Nat) (x : Channel) (h0 : keeps s0 s) :
    keeps s0 (setChannel s c x) := by
  unfold setChannel
  repeat' first
    | with_reducible assumption
    | with_reducible refine keeps.foldl _ _ ?_ (fun y a hy => ?_)
    | with_reducible apply keeps.ite
    | with_reducible apply keepsParts_of
    | simp only [keeps_mk]
    | dsimp only
    | split
    | (intro y hy)

theorem setIsland_keeps {s0 : State} {s : State} (i : Nat) (x : Island) (h0 : keeps s0 s) :
    keeps s0 (setIsland s i x) := by
  unfold setIsland
  repeat' first
    | with_reducible assumption
    | with_reducible refine keeps.foldl _ _ ?_ (fun y a hy => ?_)
    | with_reducible apply keeps.ite
    | with_reducible apply keepsParts_of
    | simp only [keeps_mk]
    | dsimp only
    | split
    | (intro y hy)

theorem moveSupply_keeps {s0 : State} (i : Nat) (mv : Nat) {s : State} (h0 : keeps s0 s) :
    keeps s0 (moveSupply i mv s) := by
  unfold moveSupply
  repeat' first
    | with_reducible assumption
    | with_reducible apply emitAll_keeps
    | with_reducible apply setIsland_keeps
    | with_reducible refine keeps.foldl _ _ ?_ (fun y a hy => ?_)
    | with_reducible apply keeps.ite
    | with_reducible apply keepsParts_of
    | simp only [keeps_mk]
    | dsimp only
    | split
    | (intro y hy)

theorem setDomain_keeps {s0 : State} {s : State} (d : Nat) (x : Domain) (h0 : keeps s0 s) :
    keeps s0 (setDomain s d x) := by
  unfold setDomain
  repeat' first
    | with_reducible assumption
    | with_reducible refine keeps.foldl _ _ ?_ (fun y a hy => ?_)
    | with_reducible apply keeps.ite
    | with_reducible apply keepsParts_of
    | simp only [keeps_mk]
    | dsimp only
    | split
    | (intro y hy)

theorem setCard_keeps {s0 : State} {s : State} (u : Nat) (x : Card) (h0 : keeps s0 s) :
    keeps s0 (setCard s u x) := by
  unfold setCard
  repeat' first
    | with_reducible assumption
    | with_reducible refine keeps.foldl _ _ ?_ (fun y a hy => ?_)
    | with_reducible apply keeps.ite
    | with_reducible apply keepsParts_of
    | simp only [keeps_mk]
    | dsimp only
    | split
    | (intro y hy)

theorem setPackage_keeps {s0 : State} {s : State} (id : Nat) (x : Update) (h0 : keeps s0 s) :
    keeps s0 (setPackage s id x) := by
  unfold setPackage
  repeat' first
    | with_reducible assumption
    | with_reducible refine keeps.foldl _ _ ?_ (fun y a hy => ?_)
    | with_reducible apply keeps.ite
    | with_reducible apply keepsParts_of
    | simp only [keeps_mk]
    | dsimp only
    | split
    | (intro y hy)

theorem setStream_keeps {s0 : State} {s : State} (k : Nat) (x : Stream) (h0 : keeps s0 s) :
    keeps s0 (setStream s k x) := by
  unfold setStream
  repeat' first
    | with_reducible assumption
    | with_reducible refine keeps.foldl _ _ ?_ (fun y a hy => ?_)
    | with_reducible apply keeps.ite
    | with_reducible apply keepsParts_of
    | simp only [keeps_mk]
    | dsimp only
    | split
    | (intro y hy)

theorem setBeams_keeps {s0 : State} {s : State} (g : Nat) (x : SwapTable) (h0 : keeps s0 s) :
    keeps s0 (setBeams s g x) := by
  unfold setBeams
  repeat' first
    | with_reducible assumption
    | with_reducible refine keeps.foldl _ _ ?_ (fun y a hy => ?_)
    | with_reducible apply keeps.ite
    | with_reducible apply keepsParts_of
    | simp only [keeps_mk]
    | dsimp only
    | split
    | (intro y hy)

theorem setPhys_keeps {s0 : State} {s : State} (l : Nat) (p : Nat) (h0 : keeps s0 s) :
    keeps s0 (setPhys s l p) := by
  unfold setPhys
  repeat' first
    | with_reducible assumption
    | with_reducible refine keeps.foldl _ _ ?_ (fun y a hy => ?_)
    | with_reducible apply keeps.ite
    | with_reducible apply keepsParts_of
    | simp only [keeps_mk]
    | dsimp only
    | split
    | (intro y hy)

theorem putSetting_keeps {s0 : State} {s : State} (vi : Nat) (idx : Nat) (sub : Nat) (el : Nat) (v : Nat) (h0 : keeps s0 s) :
    keeps s0 (putSetting s vi idx sub el v) := by
  unfold putSetting
  repeat' first
    | with_reducible assumption
    | with_reducible refine keeps.foldl _ _ ?_ (fun y a hy => ?_)
    | with_reducible apply keeps.ite
    | with_reducible apply keepsParts_of
    | simp only [keeps_mk]
    | dsimp only
    | split
    | (intro y hy)

theorem stageSetting_keeps {s0 : State} {s : State} (bell : Nat) (idx : Nat) (sub : Nat) (el : Nat) (v : Nat) (h0 : keeps s0 s) :
    keeps s0 (stageSetting s bell idx sub el v) := by
  unfold stageSetting
  repeat' first
    | with_reducible assumption
    | with_reducible refine keeps.foldl _ _ ?_ (fun y a hy => ?_)
    | with_reducible apply keeps.ite
    | with_reducible apply keepsParts_of
    | simp only [keeps_mk]
    | dsimp only
    | split
    | (intro y hy)

theorem setOffice_keeps {s0 : State} {s : State} (p : Nat) (x : OfficeState) (h0 : keeps s0 s) :
    keeps s0 (setOffice s p x) := by
  unfold setOffice
  repeat' first
    | with_reducible assumption
    | with_reducible refine keeps.foldl _ _ ?_ (fun y a hy => ?_)
    | with_reducible apply keeps.ite
    | with_reducible apply keepsParts_of
    | simp only [keeps_mk]
    | dsimp only
    | split
    | (intro y hy)

theorem countSent_keeps {s0 : State} {s : State} (vi : Nat) (h0 : keeps s0 s) :
    keeps s0 (countSent s vi) := by
  unfold countSent
  repeat' first
    | with_reducible assumption
    | with_reducible refine keeps.foldl _ _ ?_ (fun y a hy => ?_)
    | with_reducible apply keeps.ite
    | with_reducible apply keepsParts_of
    | simp only [keeps_mk]
    | dsimp only
    | split
    | (intro y hy)

theorem notifyOne_keeps {s0 : State} {s : State} (vi : Nat) (c : Nat) (type : Nat) (body : List Nat) (mk : Nat → List Nat → Emission) (h0 : keeps s0 s) :
    keeps s0 (notifyOne s vi c type body mk) := by
  unfold notifyOne
  repeat' first
    | with_reducible assumption
    | with_reducible apply emit_keeps
    | with_reducible apply countSent_keeps
    | with_reducible refine keeps.foldl _ _ ?_ (fun y a hy => ?_)
    | with_reducible apply keeps.ite
    | with_reducible apply keepsParts_of
    | simp only [keeps_mk]
    | dsimp only
    | split
    | (intro y hy)

theorem notifyVi_keeps {s0 : State} {s : State} (vi : Nat) (type : Nat) (body : List Nat) (mk : Nat → Nat → List Nat → Emission) (h0 : keeps s0 s) :
    keeps s0 (notifyVi s vi type body mk) := by
  unfold notifyVi
  repeat' first
    | with_reducible assumption
    | with_reducible apply notifyOne_keeps
    | with_reducible refine keeps.foldl _ _ ?_ (fun y a hy => ?_)
    | with_reducible apply keeps.ite
    | with_reducible apply keepsParts_of
    | simp only [keeps_mk]
    | dsimp only
    | split
    | (intro y hy)

theorem event_keeps {s0 : State} {s : State} (vi : Nat) (kind : Nat) (data : Nat) (h0 : keeps s0 s) :
    keeps s0 (event s vi kind data) := by
  unfold event
  repeat' first
    | with_reducible assumption
    | with_reducible apply notifyVi_keeps
    | with_reducible refine keeps.foldl _ _ ?_ (fun y a hy => ?_)
    | with_reducible apply keeps.ite
    | with_reducible apply keepsParts_of
    | simp only [keeps_mk]
    | dsimp only
    | split
    | (intro y hy)

theorem eventAll_keeps {s0 : State} {s : State} (kind : Nat) (data : Nat) (h0 : keeps s0 s) :
    keeps s0 (eventAll s kind data) := by
  unfold eventAll
  repeat' first
    | with_reducible assumption
    | with_reducible apply event_keeps
    | with_reducible refine keeps.foldl _ _ ?_ (fun y a hy => ?_)
    | with_reducible apply keeps.ite
    | with_reducible apply keepsParts_of
    | simp only [keeps_mk]
    | dsimp only
    | split
    | (intro y hy)

theorem errRecord_keeps {s0 : State} (b : ErrBody) {s : State} (h0 : keeps s0 s) : keeps s0 (errRecord b s) := by
  unfold errRecord
  generalize stamp s = p
  obtain ⟨t, ok⟩ := p
  refine keeps.ite ?_ ?_
  · apply event_keeps
    rw [keeps_mk]
    exact ⟨h0.pending, h0.mem, fun n => (h0.seq n).imp (seqNext_ok _) id⟩
  · rw [keeps_mk]
    exact ⟨h0.pending, h0.mem, fun n => (h0.seq n).imp (seqNext_ok _) id⟩

theorem closeErr_keeps {s0 : State} {s : State} (eseq : Nat) (st : Nat) (h0 : keeps s0 s) :
    keeps s0 (closeErr s eseq st) := by
  unfold closeErr
  repeat' first
    | with_reducible assumption
    | with_reducible refine keeps.foldl _ _ ?_ (fun y a hy => ?_)
    | with_reducible apply keeps.ite
    | with_reducible apply keepsParts_of
    | simp only [keeps_mk]
    | dsimp only
    | split
    | (intro y hy)

theorem detain_keeps {s0 : State} (d : Detained) {s : State} (h0 : keeps s0 s) :
    keeps s0 (detain d s) := by
  unfold detain
  repeat' first
    | with_reducible assumption
    | with_reducible refine keeps.foldl _ _ ?_ (fun y a hy => ?_)
    | with_reducible apply keeps.ite
    | with_reducible apply keepsParts_of
    | simp only [keeps_mk]
    | dsimp only
    | split
    | (intro y hy)

theorem listFence_keeps {s0 : State} (unit : Nat) (ref : Nat) {s : State} (h0 : keeps s0 s) :
    keeps s0 (listFence unit ref s) := by
  unfold listFence
  repeat' first
    | with_reducible assumption
    | with_reducible apply detain_keeps
    | with_reducible apply setCard_keeps
    | with_reducible refine keeps.foldl _ _ ?_ (fun y a hy => ?_)
    | with_reducible apply keeps.ite
    | with_reducible apply keepsParts_of
    | simp only [keeps_mk]
    | dsimp only
    | split
    | (intro y hy)

theorem stageJournal_keeps {s0 : State} (cls : Nat) (mk : Nat → StagedItem) {s : State} (h0 : keeps s0 s) : keeps s0 (stageJournal cls mk s) := by
  unfold stageJournal
  rw [keeps_mk]
  exact ⟨h0.pending, h0.mem, fun n => ⟨(h0.seq n).1, (h0.seq n).2.1, seqNext_ok _ (h0.seq n).2.2.1, (h0.seq n).2.2.2⟩⟩

theorem conserve_keeps {s0 : State} (kind : Nat) (data : Nat) {s : State} (h0 : keeps s0 s) :
    keeps s0 (conserve kind data s) := by
  unfold conserve
  repeat' first
    | with_reducible assumption
    | with_reducible apply stageJournal_keeps
    | with_reducible refine keeps.foldl _ _ ?_ (fun y a hy => ?_)
    | with_reducible apply keeps.ite
    | with_reducible apply keepsParts_of
    | simp only [keeps_mk]
    | dsimp only
    | split
    | (intro y hy)

theorem accountRecord_keeps {s0 : State} (downlink : Bool) (key : Nat) (value : Nat) {s : State} (h0 : keeps s0 s) :
    keeps s0 (accountRecord downlink key value s) := by
  unfold accountRecord
  repeat' first
    | with_reducible assumption
    | with_reducible apply stageJournal_keeps
    | with_reducible refine keeps.foldl _ _ ?_ (fun y a hy => ?_)
    | with_reducible apply keeps.ite
    | with_reducible apply keepsParts_of
    | simp only [keeps_mk]
    | dsimp only
    | split
    | (intro y hy)

theorem frameBump_keeps {s0 : State} (key : Nat) {s : State} (h0 : keeps s0 s) :
    keeps s0 (frameBump key s) := by
  unfold frameBump
  repeat' first
    | with_reducible assumption
    | with_reducible apply accountRecord_keeps
    | with_reducible refine keeps.foldl _ _ ?_ (fun y a hy => ?_)
    | with_reducible apply keeps.ite
    | with_reducible apply keepsParts_of
    | simp only [keeps_mk]
    | dsimp only
    | split
    | (intro y hy)

theorem journalPut_keeps {s0 : State} (mk : Nat → TxRec) {s : State} (h0 : keeps s0 s) : keeps s0 (journalPut mk s) := by
  unfold journalPut
  apply conserve_keeps
  rw [keeps_mk]
  exact ⟨h0.pending, h0.mem, fun n => ⟨(h0.seq n).1, seqNext_ok _ (h0.seq n).2.1, (h0.seq n).2.2⟩⟩

theorem journalMod_keeps {s0 : State} (tseq : Nat) (f : TxRec → TxRec) {s : State} (h0 : keeps s0 s) :
    keeps s0 (journalMod tseq f s) := by
  unfold journalMod
  repeat' first
    | with_reducible assumption
    | with_reducible refine keeps.foldl _ _ ?_ (fun y a hy => ?_)
    | with_reducible apply keeps.ite
    | with_reducible apply keepsParts_of
    | simp only [keeps_mk]
    | dsimp only
    | split
    | (intro y hy)

theorem journalStage_keeps {s0 : State} (cmd : Nat) (st : Nat) {s : State} (h0 : keeps s0 s) :
    keeps s0 (journalStage cmd st s) := by
  unfold journalStage
  repeat' first
    | with_reducible assumption
    | with_reducible apply event_keeps
    | with_reducible apply journalPut_keeps
    | with_reducible refine keeps.foldl _ _ ?_ (fun y a hy => ?_)
    | with_reducible apply keeps.ite
    | with_reducible apply keepsParts_of
    | simp only [keeps_mk]
    | dsimp only
    | split
    | (intro y hy)

theorem recordTransition_keeps {s0 : State} (old : Mode) (new : Mode) (cause : Nat) {s : State} (h0 : keeps s0 s) :
    keeps s0 (recordTransition old new cause s) := by
  unfold recordTransition
  repeat' first
    | with_reducible assumption
    | with_reducible apply journalPut_keeps
    | with_reducible apply eventAll_keeps
    | with_reducible refine keeps.foldl _ _ ?_ (fun y a hy => ?_)
    | with_reducible apply keeps.ite
    | with_reducible apply keepsParts_of
    | simp only [keeps_mk]
    | dsimp only
    | split
    | (intro y hy)

theorem transition_keeps {s0 : State} (cause : Nat) (m : Mode) {s : State} (h0 : keeps s0 s) :
    keeps s0 (transition cause m s) := by
  unfold transition
  repeat' first
    | with_reducible assumption
    | with_reducible apply recordTransition_keeps
    | with_reducible refine keeps.foldl _ _ ?_ (fun y a hy => ?_)
    | with_reducible apply keeps.ite
    | with_reducible apply keepsParts_of
    | simp only [keeps_mk]
    | dsimp only
    | split
    | (intro y hy)

theorem journalRoll_keeps {s0 : State} (cause : Nat) (slot : Nat) (e : Entry) (body : JBody) {s : State} (h0 : keeps s0 s) :
    keeps s0 (journalRoll cause slot e body s) := by
  unfold journalRoll
  repeat' first
    | with_reducible assumption
    | with_reducible apply stageJournal_keeps
    | with_reducible refine keeps.foldl _ _ ?_ (fun y a hy => ?_)
    | with_reducible apply keeps.ite
    | with_reducible apply keepsParts_of
    | simp only [keeps_mk]
    | dsimp only
    | split
    | (intro y hy)

theorem commit_keeps {s0 : State} (cause : Nat) (slot : Nat) (p : Entry × Account) {s : State} (h0 : keeps s0 s) :
    keeps s0 (commit cause slot p s) := by
  unfold commit
  repeat' first
    | with_reducible assumption
    | with_reducible apply journalRoll_keeps
    | with_reducible apply setAccount_keeps
    | with_reducible apply setEntry_keeps
    | with_reducible refine keeps.foldl _ _ ?_ (fun y a hy => ?_)
    | with_reducible apply keeps.ite
    | with_reducible apply keepsParts_of
    | simp only [keeps_mk]
    | dsimp only
    | split
    | (intro y hy)

theorem touch_keeps {s0 : State} (cause : Nat) (slot : Nat) {s : State} (h0 : keeps s0 s) :
    keeps s0 (touch cause slot s) := by
  unfold touch
  repeat' first
    | with_reducible assumption
    | with_reducible apply commit_keeps
    | with_reducible refine keeps.foldl _ _ ?_ (fun y a hy => ?_)
    | with_reducible apply keeps.ite
    | with_reducible apply keepsParts_of
    | simp only [keeps_mk]
    | dsimp only
    | split
    | (intro y hy)

theorem setKeyState_keeps {s0 : State} {s : State} (h : Nat) (k : KeyState) (h0 : keeps s0 s) :
    keeps s0 (setKeyState s h k) := by
  unfold setKeyState
  repeat' first
    | with_reducible assumption
    | with_reducible apply setKey_keeps
    | with_reducible refine keeps.foldl _ _ ?_ (fun y a hy => ?_)
    | with_reducible apply keeps.ite
    | with_reducible apply keepsParts_of
    | simp only [keeps_mk]
    | dsimp only
    | split
    | (intro y hy)

theorem wipeKey_keeps {s0 : State} {s : State} (h : Nat) (h0 : keeps s0 s) :
    keeps s0 (wipeKey s h) := by
  unfold wipeKey
  repeat' first
    | with_reducible assumption
    | with_reducible apply setKey_keeps
    | with_reducible refine keeps.foldl _ _ ?_ (fun y a hy => ?_)
    | with_reducible apply keeps.ite
    | with_reducible apply keepsParts_of
    | simp only [keeps_mk]
    | dsimp only
    | split
    | (intro y hy)

theorem monoBump_keeps {s0 : State} (vi : Nat) (term : Nat) (n : Nat) {s : State} (h0 : keeps s0 s) :
    keeps s0 (monoBump vi term n s) := by
  unfold monoBump
  repeat' first
    | with_reducible assumption
    | with_reducible refine keeps.foldl _ _ ?_ (fun y a hy => ?_)
    | with_reducible apply keeps.ite
    | with_reducible apply keepsParts_of
    | simp only [keeps_mk]
    | dsimp only
    | split
    | (intro y hy)

theorem countAsleep_keeps {s0 : State} (addr : Nat) {s : State} (h0 : keeps s0 s) :
    keeps s0 (countAsleep addr s) := by
  unfold countAsleep
  repeat' first
    | with_reducible assumption
    | with_reducible apply setDomain_keeps
    | with_reducible refine keeps.foldl _ _ ?_ (fun y a hy => ?_)
    | with_reducible apply keeps.ite
    | with_reducible apply keepsParts_of
    | simp only [keeps_mk]
    | dsimp only
    | split
    | (intro y hy)

theorem countDropped_keeps {s0 : State} (addr : Nat) {s : State} (h0 : keeps s0 s) :
    keeps s0 (countDropped addr s) := by
  unfold countDropped
  repeat' first
    | with_reducible assumption
    | with_reducible apply setDomain_keeps
    | with_reducible refine keeps.foldl _ _ ?_ (fun y a hy => ?_)
    | with_reducible apply keeps.ite
    | with_reducible apply keepsParts_of
    | simp only [keeps_mk]
    | dsimp only
    | split
    | (intro y hy)

theorem gPut_keeps {s0 : State} (addr : Nat) (b : BitVec 8) {s : State} (h0 : keeps s0 s) : keeps s0 (gPut addr b s) :=
  ⟨by unfold gPut; split <;> exact h0.pending, fun c => gPut_canonical _ _ _ (h0.mem c), by unfold gPut; split <;> exact h0.seq⟩

theorem gPutAll_keeps {s0 : State} (l : List (BitVec 8)) (a : Nat) {s : State} (h0 : keeps s0 s) : keeps s0 (gPutAll l a s) := by
  induction l generalizing a s with
  | nil => exact h0
  | cons b l ih => exact ih _ (gPut_keeps _ _ h0)

theorem setWordPoison_keeps {s0 : State} (w : Nat) (p : Bool) {s : State} (h0 : keeps s0 s) :
    keeps s0 (setWordPoison w p s) := by
  unfold setWordPoison
  repeat' first
    | with_reducible assumption
    | with_reducible apply modTile_keeps
    | with_reducible refine keeps.foldl _ _ ?_ (fun y a hy => ?_)
    | with_reducible apply keeps.ite
    | with_reducible apply keepsParts_of
    | simp only [keeps_mk]
    | dsimp only
    | split
    | (intro y hy)

theorem memWrite_keeps {s0 : State} (addr : Nat) (bs : List (BitVec 8)) {s : State} (h0 : keeps s0 s) :
    keeps s0 (memWrite addr bs s) := by
  unfold memWrite
  repeat' first
    | with_reducible assumption
    | with_reducible apply setWordPoison_keeps
    | with_reducible apply gPutAll_keeps
    | with_reducible refine keeps.foldl _ _ ?_ (fun y a hy => ?_)
    | with_reducible apply keeps.ite
    | with_reducible apply keepsParts_of
    | simp only [keeps_mk]
    | dsimp only
    | split
    | (intro y hy)

theorem meshRead_keeps {s0 : State} (addr : Nat) (n : Nat) {s : State} (h0 : keeps s0 s) :
    keeps s0 (meshRead addr n s).1 := by
  unfold meshRead
  repeat' first
    | with_reducible assumption
    | with_reducible apply countAsleep_keeps
    | with_reducible refine keeps.foldl _ _ ?_ (fun y a hy => ?_)
    | with_reducible apply keeps.ite
    | with_reducible apply keepsParts_of
    | simp only [keeps_mk]
    | dsimp only
    | split
    | (intro y hy)

theorem recordPoison_keeps {s0 : State} (addr : Nat) {s : State} (h0 : keeps s0 s) :
    keeps s0 (recordPoison addr s) := by
  unfold recordPoison
  repeat' first
    | with_reducible assumption
    | with_reducible apply errRecord_keeps
    | with_reducible refine keeps.foldl _ _ ?_ (fun y a hy => ?_)
    | with_reducible apply keeps.ite
    | with_reducible apply keepsParts_of
    | simp only [keeps_mk]
    | dsimp only
    | split
    | (intro y hy)

theorem meshWrite_keeps {s0 : State} (addr : Nat) (bs : List (BitVec 8)) {s : State} (h0 : keeps s0 s) :
    keeps s0 (meshWrite addr bs s).1 := by
  unfold meshWrite
  repeat' first
    | with_reducible assumption
    | with_reducible apply countAsleep_keeps
    | with_reducible apply recordPoison_keeps
    | with_reducible apply memWrite_keeps
    | with_reducible refine keeps.foldl _ _ ?_ (fun y a hy => ?_)
    | with_reducible apply keeps.ite
    | with_reducible apply keepsParts_of
    | simp only [keeps_mk]
    | dsimp only
    | split
    | (intro y hy)

theorem queueMsg_keeps {s0 : State} (l : Nat) (type : Nat) (seq : Nat) (body : Nat) (n : Nat) {s : State} (h0 : keeps s0 s) :
    keeps s0 (queueMsg l type seq body n s) := by
  unfold queueMsg
  repeat' first
    | with_reducible assumption
    | with_reducible apply emit_keeps
    | with_reducible apply modLane_keeps
    | with_reducible refine keeps.foldl _ _ ?_ (fun y a hy => ?_)
    | with_reducible apply keeps.ite
    | with_reducible apply keepsParts_of
    | simp only [keeps_mk]
    | dsimp only
    | split
    | (intro y hy)

theorem sendMsg_keeps {s0 : State} (l : Nat) (type : Nat) (fields : List (Nat × Nat)) {s : State} (h0 : keeps s0 s) :
    keeps s0 (sendMsg l type fields s) := by
  unfold sendMsg
  repeat' first
    | with_reducible assumption
    | with_reducible apply queueMsg_keeps
    | with_reducible apply setLane_keeps
    | with_reducible refine keeps.foldl _ _ ?_ (fun y a hy => ?_)
    | with_reducible apply keeps.ite
    | with_reducible apply keepsParts_of
    | simp only [keeps_mk]
    | dsimp only
    | split
    | (intro y hy)

theorem sendTxen_keeps {s0 : State} (l : Nat) (mask : Nat) (at_ : Nat) {s : State} (h0 : keeps s0 s) :
    keeps s0 (sendTxen l mask at_ s) := by
  unfold sendTxen
  repeat' first
    | with_reducible assumption
    | with_reducible apply sendMsg_keeps
    | with_reducible refine keeps.foldl _ _ ?_ (fun y a hy => ?_)
    | with_reducible apply keeps.ite
    | with_reducible apply keepsParts_of
    | simp only [keeps_mk]
    | dsimp only
    | split
    | (intro y hy)

theorem sendRampdef_keeps {s0 : State} (l : Nat) (slot : Nat) (profile : Nat) {s : State} (h0 : keeps s0 s) :
    keeps s0 (sendRampdef l slot profile s) := by
  unfold sendRampdef
  repeat' first
    | with_reducible assumption
    | with_reducible apply sendMsg_keeps
    | with_reducible refine keeps.foldl _ _ ?_ (fun y a hy => ?_)
    | with_reducible apply keeps.ite
    | with_reducible apply keepsParts_of
    | simp only [keeps_mk]
    | dsimp only
    | split
    | (intro y hy)

theorem sendParamp_keeps {s0 : State} (l : Nat) (mask : Nat) (slot : Nat) (down : Bool) (now : Bool) (spacing : Nat) (at_ : Nat) {s : State} (h0 : keeps s0 s) :
    keeps s0 (sendParamp l mask slot down now spacing at_ s) := by
  unfold sendParamp
  repeat' first
    | with_reducible assumption
    | with_reducible apply sendMsg_keeps
    | with_reducible refine keeps.foldl _ _ ?_ (fun y a hy => ?_)
    | with_reducible apply keeps.ite
    | with_reducible apply keepsParts_of
    | simp only [keeps_mk]
    | dsimp only
    | split
    | (intro y hy)

theorem sendRole_keeps {s0 : State} (l : Nat) (role : Nat) {s : State} (h0 : keeps s0 s) :
    keeps s0 (sendRole l role s) := by
  unfold sendRole
  repeat' first
    | with_reducible assumption
    | with_reducible apply sendMsg_keeps
    | with_reducible refine keeps.foldl _ _ ?_ (fun y a hy => ?_)
    | with_reducible apply keeps.ite
    | with_reducible apply keepsParts_of
    | simp only [keeps_mk]
    | dsimp only
    | split
    | (intro y hy)

theorem sendTime_keeps {s0 : State} (l : Nat) (seq : Nat) (at_ : Nat) (d : Nat) {s : State} (h0 : keeps s0 s) :
    keeps s0 (sendTime l seq at_ d s) := by
  unfold sendTime
  repeat' first
    | with_reducible assumption
    | with_reducible apply sendMsg_keeps
    | with_reducible refine keeps.foldl _ _ ?_ (fun y a hy => ?_)
    | with_reducible apply keeps.ite
    | with_reducible apply keepsParts_of
    | simp only [keeps_mk]
    | dsimp only
    | split
    | (intro y hy)

theorem sendTapreq_keeps {s0 : State} (l : Nat) (tap : Nat) (step : Int) {s : State} (h0 : keeps s0 s) :
    keeps s0 (sendTapreq l tap step s) := by
  unfold sendTapreq
  repeat' first
    | with_reducible assumption
    | with_reducible apply sendMsg_keeps
    | with_reducible apply modLane_keeps
    | with_reducible refine keeps.foldl _ _ ?_ (fun y a hy => ?_)
    | with_reducible apply keeps.ite
    | with_reducible apply keepsParts_of
    | simp only [keeps_mk]
    | dsimp only
    | split
    | (intro y hy)

theorem sendGain_keeps {s0 : State} (l : Nat) (mask : Nat) (gain : Int) (at_ : Nat) {s : State} (h0 : keeps s0 s) :
    keeps s0 (sendGain l mask gain at_ s) := by
  unfold sendGain
  repeat' first
    | with_reducible assumption
    | with_reducible apply sendMsg_keeps
    | with_reducible refine keeps.foldl _ _ ?_ (fun y a hy => ?_)
    | with_reducible apply keeps.ite
    | with_reducible apply keepsParts_of
    | simp only [keeps_mk]
    | dsimp only
    | split
    | (intro y hy)

theorem addErasure_keeps {s0 : State} (antenna : Nat) (lo : Nat) (hi : Option Nat) (cause : Nat) {s : State} (h0 : keeps s0 s) :
    keeps s0 (addErasure antenna lo hi cause s) := by
  unfold addErasure
  repeat' first
    | with_reducible assumption
    | with_reducible refine keeps.foldl _ _ ?_ (fun y a hy => ?_)
    | with_reducible apply keeps.ite
    | with_reducible apply keepsParts_of
    | simp only [keeps_mk]
    | dsimp only
    | split
    | (intro y hy)

theorem openErasure_keeps {s0 : State} (h : Nat) {s : State} (h0 : keeps s0 s) :
    keeps s0 (openErasure h s) := by
  unfold openErasure
  repeat' first
    | with_reducible assumption
    | with_reducible apply addErasure_keeps
    | with_reducible refine keeps.foldl _ _ ?_ (fun y a hy => ?_)
    | with_reducible apply keeps.ite
    | with_reducible apply keepsParts_of
    | simp only [keeps_mk]
    | dsimp only
    | split
    | (intro y hy)

theorem closeErasure_keeps {s0 : State} (h : Nat) {s : State} (h0 : keeps s0 s) :
    keeps s0 (closeErasure h s) := by
  unfold closeErasure
  repeat' first
    | with_reducible assumption
    | with_reducible refine keeps.foldl _ _ ?_ (fun y a hy => ?_)
    | with_reducible apply keeps.ite
    | with_reducible apply keepsParts_of
    | simp only [keeps_mk]
    | dsimp only
    | split
    | (intro y hy)

theorem txenFor_keeps {s0 : State} (h : Nat) (t : Nat) {s : State} (h0 : keeps s0 s) :
    keeps s0 (txenFor h t s) := by
  unfold txenFor
  repeat' first
    | with_reducible assumption
    | with_reducible apply sendTxen_keeps
    | with_reducible refine keeps.foldl _ _ ?_ (fun y a hy => ?_)
    | with_reducible apply keeps.ite
    | with_reducible apply keepsParts_of
    | simp only [keeps_mk]
    | dsimp only
    | split
    | (intro y hy)

theorem addStep_keeps {s0 : State} (g : GainChange) {s : State} (h0 : keeps s0 s) :
    keeps s0 (addStep g s) := by
  unfold addStep
  repeat' first
    | with_reducible assumption
    | with_reducible refine keeps.foldl _ _ ?_ (fun y a hy => ?_)
    | with_reducible apply keeps.ite
    | with_reducible apply keepsParts_of
    | simp only [keeps_mk]
    | dsimp only
    | split
    | (intro y hy)

theorem foldSteps_keeps {s0 : State} (before : Nat) {s : State} (h0 : keeps s0 s) :
    keeps s0 (foldSteps before s) := by
  unfold foldSteps
  repeat' first
    | with_reducible assumption
    | with_reducible refine keeps.foldl _ _ ?_ (fun y a hy => ?_)
    | with_reducible apply keeps.ite
    | with_reducible apply keepsParts_of
    | simp only [keeps_mk]
    | dsimp only
    | split
    | (intro y hy)

theorem holdGains_keeps {s0 : State} (l : Nat) (h : Nat) {s : State} (h0 : keeps s0 s) :
    keeps s0 (holdGains l h s) := by
  unfold holdGains
  repeat' first
    | with_reducible assumption
    | with_reducible apply sendGain_keeps
    | with_reducible refine keeps.foldl _ _ ?_ (fun y a hy => ?_)
    | with_reducible apply keeps.ite
    | with_reducible apply keepsParts_of
    | simp only [keeps_mk]
    | dsimp only
    | split
    | (intro y hy)

theorem bringUpCommands_keeps {s0 : State} (l : Nat) (h : Nat) (role : Nat) {s : State} (h0 : keeps s0 s) :
    keeps s0 (bringUpCommands l h role s) := by
  unfold bringUpCommands
  repeat' first
    | with_reducible assumption
    | with_reducible apply sendRampdef_keeps
    | with_reducible apply holdGains_keeps
    | with_reducible apply sendRole_keeps
    | with_reducible refine keeps.foldl _ _ ?_ (fun y a hy => ?_)
    | with_reducible apply keeps.ite
    | with_reducible apply keepsParts_of
    | simp only [keeps_mk]
    | dsimp only
    | split
    | (intro y hy)

theorem enableLane_keeps {s0 : State} (l : Nat) {s : State} (h0 : keeps s0 s) :
    keeps s0 (enableLane l s) := by
  unfold enableLane
  repeat' first
    | with_reducible assumption
    | with_reducible apply modLane_keeps
    | with_reducible refine keeps.foldl _ _ ?_ (fun y a hy => ?_)
    | with_reducible apply keeps.ite
    | with_reducible apply keepsParts_of
    | simp only [keeps_mk]
    | dsimp only
    | split
    | (intro y hy)

theorem dropGains_keeps {s0 : State} (l : Nat) {s : State} (h0 : keeps s0 s) :
    keeps s0 (dropGains l s) := by
  unfold dropGains
  repeat' first
    | with_reducible assumption
    | with_reducible apply addErasure_keeps
    | with_reducible refine keeps.foldl _ _ ?_ (fun y a hy => ?_)
    | with_reducible apply keeps.ite
    | with_reducible apply keepsParts_of
    | simp only [keeps_mk]
    | dsimp only
    | split
    | (intro y hy)

theorem unlockLane_keeps {s0 : State} (lossOfFrame : Bool) (l : Nat) {s : State} (h0 : keeps s0 s) :
    keeps s0 (unlockLane lossOfFrame l s) := by
  unfold unlockLane
  repeat' first
    | with_reducible assumption
    | with_reducible apply openErasure_keeps
    | with_reducible apply setLane_keeps
    | with_reducible apply dropGains_keeps
    | with_reducible apply modHead_keeps
    | with_reducible refine keeps.foldl _ _ ?_ (fun y a hy => ?_)
    | with_reducible apply keeps.ite
    | with_reducible apply keepsParts_of
    | simp only [keeps_mk]
    | dsimp only
    | split
    | (intro y hy)

theorem activateLane_keeps {s0 : State} (l : Nat) {s : State} (h0 : keeps s0 s) :
    keeps s0 (activateLane l s) := by
  unfold activateLane
  repeat' first
    | with_reducible assumption
    | with_reducible apply closeErasure_keeps
    | with_reducible apply modHead_keeps
    | with_reducible apply modLane_keeps
    | with_reducible refine keeps.foldl _ _ ?_ (fun y a hy => ?_)
    | with_reducible apply keeps.ite
    | with_reducible apply keepsParts_of
    | simp only [keeps_mk]
    | dsimp only
    | split
    | (intro y hy)

theorem startSwitch_keeps {s0 : State} (h : Nat) (l : Nat) (m : Nat) {s : State} (h0 : keeps s0 s) :
    keeps s0 (startSwitch h l m s) := by
  unfold startSwitch
  repeat' first
    | with_reducible assumption
    | with_reducible apply openErasure_keeps
    | with_reducible apply modLane_keeps
    | with_reducible apply modHead_keeps
    | with_reducible apply sendRole_keeps
    | with_reducible refine keeps.foldl _ _ ?_ (fun y a hy => ?_)
    | with_reducible apply keeps.ite
    | with_reducible apply keepsParts_of
    | simp only [keeps_mk]
    | dsimp only
    | split
    | (intro y hy)

theorem cascadeOut_keeps {s0 : State} (east : Bool) (type : Nat) (dst : Nat) (body : Nat) (n : Nat) {s : State} (h0 : keeps s0 s) :
    keeps s0 (cascadeOut east type dst body n s) := by
  unfold cascadeOut
  repeat' first
    | with_reducible assumption
    | with_reducible apply emit_keeps
    | with_reducible apply modLane_keeps
    | with_reducible refine keeps.foldl _ _ ?_ (fun y a hy => ?_)
    | with_reducible apply keeps.ite
    | with_reducible apply keepsParts_of
    | simp only [keeps_mk]
    | dsimp only
    | split
    | (intro y hy)

theorem cascadeSend_keeps {s0 : State} (dst : Nat) (type : Nat) (fields : List (Nat × Nat)) {s : State} (h0 : keeps s0 s) :
    keeps s0 (cascadeSend dst type fields s) := by
  unfold cascadeSend
  repeat' first
    | with_reducible assumption
    | with_reducible apply cascadeOut_keeps
    | with_reducible refine keeps.foldl _ _ ?_ (fun y a hy => ?_)
    | with_reducible apply keeps.ite
    | with_reducible apply keepsParts_of
    | simp only [keeps_mk]
    | dsimp only
    | split
    | (intro y hy)

theorem sendPrepare_keeps {s0 : State} (slot : Nat) {s : State} (h0 : keeps s0 s) :
    keeps s0 (sendPrepare slot s) := by
  unfold sendPrepare
  repeat' first
    | with_reducible assumption
    | with_reducible apply cascadeSend_keeps
    | with_reducible refine keeps.foldl _ _ ?_ (fun y a hy => ?_)
    | with_reducible apply keeps.ite
    | with_reducible apply keepsParts_of
    | simp only [keeps_mk]
    | dsimp only
    | split
    | (intro y hy)

theorem trace_keeps {s0 : State} (kind : Nat) (opseq : Nat) (level : Nat) (node : Nat) (unit : Nat) (flow : Nat) {s : State} (h0 : keeps s0 s) :
    keeps s0 (trace kind opseq level node unit flow s) := by
  unfold trace
  repeat' first
    | with_reducible assumption
    | with_reducible refine keeps.foldl _ _ ?_ (fun y a hy => ?_)
    | with_reducible apply keeps.ite
    | with_reducible apply keepsParts_of
    | simp only [keeps_mk]
    | dsimp only
    | split
    | (intro y hy)

theorem pfBump_keeps {s0 : State} (term : Nat) {s : State} (h0 : keeps s0 s) :
    keeps s0 (pfBump term s) := by
  unfold pfBump
  repeat' first
    | with_reducible assumption
    | with_reducible refine keeps.foldl _ _ ?_ (fun y a hy => ?_)
    | with_reducible apply keeps.ite
    | with_reducible apply keepsParts_of
    | simp only [keeps_mk]
    | dsimp only
    | split
    | (intro y hy)

theorem bufAddRef_keeps {s0 : State} (h : Nat) {s : State} (h0 : keeps s0 s) :
    keeps s0 (bufAddRef h s) := by
  unfold bufAddRef
  repeat' first
    | with_reducible assumption
    | with_reducible refine keeps.foldl _ _ ?_ (fun y a hy => ?_)
    | with_reducible apply keeps.ite
    | with_reducible apply keepsParts_of
    | simp only [keeps_mk]
    | dsimp only
    | split
    | (intro y hy)

theorem bufDrop_keeps {s0 : State} (h : Nat) {s : State} (h0 : keeps s0 s) :
    keeps s0 (bufDrop h s) := by
  unfold bufDrop
  repeat' first
    | with_reducible assumption
    | with_reducible apply pfBump_keeps
    | with_reducible refine keeps.foldl _ _ ?_ (fun y a hy => ?_)
    | with_reducible apply keeps.ite
    | with_reducible apply keepsParts_of
    | simp only [keeps_mk]
    | dsimp only
    | split
    | (intro y hy)

theorem noteBlock_keeps {s0 : State} (o : OpRec) {s : State} (h0 : keeps s0 s) :
    keeps s0 (noteBlock o s) := by
  unfold noteBlock
  repeat' first
    | with_reducible assumption
    | with_reducible apply trace_keeps
    | with_reducible refine keeps.foldl _ _ ?_ (fun y a hy => ?_)
    | with_reducible apply keeps.ite
    | with_reducible apply keepsParts_of
    | simp only [keeps_mk]
    | dsimp only
    | split
    | (intro y hy)

theorem noteBlocks_keeps {s0 : State} {s : State} (h0 : keeps s0 s) :
    keeps s0 (noteBlocks s) := by
  unfold noteBlocks
  repeat' first
    | with_reducible assumption
    | with_reducible apply noteBlock_keeps
    | with_reducible refine keeps.foldl _ _ ?_ (fun y a hy => ?_)
    | with_reducible apply keeps.ite
    | with_reducible apply keepsParts_of
    | simp only [keeps_mk]
    | dsimp only
    | split
    | (intro y hy)

theorem modOp_keeps {s0 : State} (opseq : Nat) (f : OpRec → OpRec) {s : State} (h0 : keeps s0 s) :
    keeps s0 (modOp opseq f s) := by
  unfold modOp
  repeat' first
    | with_reducible assumption
    | with_reducible refine keeps.foldl _ _ ?_ (fun y a hy => ?_)
    | with_reducible apply keeps.ite
    | with_reducible apply keepsParts_of
    | simp only [keeps_mk]
    | dsimp only
    | split
    | (intro y hy)

theorem newOp_keeps {s0 : State} (t : Token) (n : Node) {s : State} (h0 : keeps s0 s) :
    keeps s0 (newOp t n s) := by
  unfold newOp
  repeat' first
    | with_reducible assumption
    | with_reducible apply noteBlock_keeps
    | with_reducible apply trace_keeps
    | with_reducible apply pfBump_keeps
    | with_reducible refine keeps.foldl _ _ ?_ (fun y a hy => ?_)
    | with_reducible apply keeps.ite
    | with_reducible apply keepsParts_of
    | simp only [keeps_mk]
    | dsimp only
    | split
    | (intro y hy)

theorem setFifo_keeps {s0 : State} (k : Nat) (l : List Token) {s : State} (h0 : keeps s0 s) :
    keeps s0 (setFifo k l s) := by
  unfold setFifo
  repeat' first
    | with_reducible assumption
    | with_reducible refine keeps.foldl _ _ ?_ (fun y a hy => ?_)
    | with_reducible apply keeps.ite
    | with_reducible apply keepsParts_of
    | simp only [keeps_mk]
    | dsimp only
    | split
    | (intro y hy)

theorem forceEnd_keeps {s0 : State} (c : Nat) (detail : Nat) {s : State} (h0 : keeps s0 s) :
    keeps s0 (forceEnd c detail s) := by
  unfold forceEnd
  repeat' first
    | with_reducible assumption
    | with_reducible apply setCapture_keeps
    | with_reducible refine keeps.foldl _ _ ?_ (fun y a hy => ?_)
    | with_reducible apply keeps.ite
    | with_reducible apply keepsParts_of
    | simp only [keeps_mk]
    | dsimp only
    | split
    | (intro y hy)

theorem dropToken_keeps {s0 : State} (k : Nat) (t : Token) (level : Nat) {s : State} (h0 : keeps s0 s) :
    keeps s0 (dropToken k t level s) := by
  unfold dropToken
  repeat' first
    | with_reducible assumption
    | with_reducible apply trace_keeps
    | with_reducible apply pfBump_keeps
    | with_reducible apply bufDrop_keeps
    | with_reducible apply forceEnd_keeps
    | with_reducible refine keeps.foldl _ _ ?_ (fun y a hy => ?_)
    | with_reducible apply keeps.ite
    | with_reducible apply keepsParts_of
    | simp only [keeps_mk]
    | dsimp only
    | split
    | (intro y hy)

theorem intoRecord_keeps {s0 : State} (k : Nat) (t : Token) (n : Node) {s : State} (h0 : keeps s0 s) :
    keeps s0 (intoRecord k t n s) := by
  unfold intoRecord
  repeat' first
    | with_reducible assumption
    | with_reducible apply newOp_keeps
    | with_reducible apply pfBump_keeps
    | with_reducible apply setFifo_keeps
    | with_reducible apply dropToken_keeps
    | with_reducible refine keeps.foldl _ _ ?_ (fun y a hy => ?_)
    | with_reducible apply keeps.ite
    | with_reducible apply keepsParts_of
    | simp only [keeps_mk]
    | dsimp only
    | split
    | (intro y hy)

theorem deliver_keeps {s0 : State} (fuel k : Nat) (l : List Token) {s : State} (h0 : keeps s0 s) : keeps s0 (deliver fuel k l s) := by
  induction fuel generalizing l s with
  | zero => cases l <;> exact h0
  | succ n ih =>
    cases l with
    | nil => exact h0
    | cons t rest =>
      unfold deliver
      repeat' first
        | with_reducible assumption
        | with_reducible apply ih
        | with_reducible apply bufDrop_keeps
        | with_reducible apply intoRecord_keeps
        | with_reducible apply drawFree_keeps
        | with_reducible refine keeps.foldl _ _ ?_ (fun y a hy => ?_)
        | with_reducible apply keeps.ite
        | with_reducible apply keepsParts_of
        | simp only [keeps_mk]
        | dsimp only
        | split

theorem raiseToken_keeps {s0 : State} (port : Nat) (flow : Nat) (arg : Nat) {s : State} (h0 : keeps s0 s) :
    keeps s0 (raiseToken port flow arg s) := by
  unfold raiseToken
  repeat' first
    | with_reducible assumption
    | with_reducible apply trace_keeps
    | with_reducible apply pfBump_keeps
    | with_reducible apply deliver_keeps
    | with_reducible refine keeps.foldl _ _ ?_ (fun y a hy => ?_)
    | with_reducible apply keeps.ite
    | with_reducible apply keepsParts_of
    | simp only [keeps_mk]
    | dsimp only
    | split
    | (intro y hy)

theorem raisePort_keeps {s0 : State} (port : Nat) (arg : Nat) {s : State} (h0 : keeps s0 s) :
    keeps s0 (raisePort port arg s) := by
  unfold raisePort
  repeat' first
    | with_reducible assumption
    | with_reducible apply raiseToken_keeps
    | with_reducible refine keeps.foldl _ _ ?_ (fun y a hy => ?_)
    | with_reducible apply keeps.ite
    | with_reducible apply keepsParts_of
    | simp only [keeps_mk]
    | dsimp only
    | split
    | (intro y hy)

theorem refill_keeps {s0 : State} (fuel : Nat) {s : State} (h0 : keeps s0 s) : keeps s0 (refill fuel s) := by
  induction fuel generalizing s with
  | zero => exact h0
  | succ n ih =>
    unfold refill
    dsimp only
    split
    · exact ih (newOp_keeps _ _ (setFifo_keeps _ _ h0))
    · exact h0

theorem freeRecord_keeps {s0 : State} (opseq : Nat) {s : State} (h0 : keeps s0 s) :
    keeps s0 (freeRecord opseq s) := by
  unfold freeRecord
  repeat' first
    | with_reducible assumption
    | with_reducible apply pfBump_keeps
    | with_reducible refine keeps.foldl _ _ ?_ (fun y a hy => ?_)
    | with_reducible apply keeps.ite
    | with_reducible apply keepsParts_of
    | simp only [keeps_mk]
    | dsimp only
    | split
    | (intro y hy)

theorem releaseOp_keeps {s0 : State} (o : OpRec) {s : State} (h0 : keeps s0 s) :
    keeps s0 (releaseOp o s) := by
  unfold releaseOp
  repeat' first
    | with_reducible assumption
    | with_reducible apply trace_keeps
    | with_reducible apply freeRecord_keeps
    | with_reducible apply deliver_keeps
    | with_reducible refine keeps.foldl _ _ ?_ (fun y a hy => ?_)
    | with_reducible apply keeps.ite
    | with_reducible apply keepsParts_of
    | simp only [keeps_mk]
    | dsimp only
    | split
    | (intro y hy)

theorem releaseHeld_keeps {s0 : State} (fuel cls flow : Nat) {s : State} (h0 : keeps s0 s) : keeps s0 (releaseHeld fuel cls flow s) := by
  induction fuel generalizing s with
  | zero => exact h0
  | succ n ih =>
    unfold releaseHeld
    split
    · split
      · exact ih (releaseOp_keeps _ h0)
      · exact h0
    · exact h0

theorem releaseBlock_keeps {s0 : State} (o : OpRec) {s : State} (h0 : keeps s0 s) :
    keeps s0 (releaseBlock o s) := by
  unfold releaseBlock
  repeat' first
    | with_reducible assumption
    | with_reducible apply setCapture_keeps
    | with_reducible refine keeps.foldl _ _ ?_ (fun y a hy => ?_)
    | with_reducible apply keeps.ite
    | with_reducible apply keepsParts_of
    | simp only [keeps_mk]
    | dsimp only
    | split
    | (intro y hy)

theorem completeOp_keeps {s0 : State} (opseq : Nat) {s : State} (h0 : keeps s0 s) :
    keeps s0 (completeOp opseq s) := by
  unfold completeOp
  repeat' first
    | with_reducible assumption
    | with_reducible apply releaseBlock_keeps
    | with_reducible apply trace_keeps
    | with_reducible apply bufDrop_keeps
    | with_reducible apply modOp_keeps
    | with_reducible apply releaseHeld_keeps
    | with_reducible apply releaseOp_keeps
    | with_reducible apply noteBlocks_keeps
    | with_reducible apply refill_keeps
    | with_reducible refine keeps.foldl _ _ ?_ (fun y a hy => ?_)
    | with_reducible apply keeps.ite
    | with_reducible apply keepsParts_of
    | simp only [keeps_mk]
    | dsimp only
    | split
    | (intro y hy)

theorem trapOp_keeps {s0 : State} (opseq : Nat) {s : State} (h0 : keeps s0 s) :
    keeps s0 (trapOp opseq s) := by
  unfold trapOp
  repeat' first
    | with_reducible assumption
    | with_reducible apply trace_keeps
    | with_reducible apply freeRecord_keeps
    | with_reducible apply bufDrop_keeps
    | with_reducible apply deliver_keeps
    | with_reducible apply forceEnd_keeps
    | with_reducible apply noteBlocks_keeps
    | with_reducible apply refill_keeps
    | with_reducible apply releaseHeld_keeps
    | with_reducible refine keeps.foldl _ _ ?_ (fun y a hy => ?_)
    | with_reducible apply keeps.ite
    | with_reducible apply keepsParts_of
    | simp only [keeps_mk]
    | dsimp only
    | split
    | (intro y hy)

theorem setDlTerm_keeps {s0 : State} (key : Nat) (v : Nat) {s : State} (h0 : keeps s0 s) :
    keeps s0 (setDlTerm key v s) := by
  unfold setDlTerm
  repeat' first
    | with_reducible assumption
    | with_reducible apply accountRecord_keeps
    | with_reducible refine keeps.foldl _ _ ?_ (fun y a hy => ?_)
    | with_reducible apply keeps.ite
    | with_reducible apply keepsParts_of
    | simp only [keeps_mk]
    | dsimp only
    | split
    | (intro y hy)

theorem dlBump_keeps {s0 : State} (vi : Nat) (term : Nat) {s : State} (h0 : keeps s0 s) :
    keeps s0 (dlBump vi term s) := by
  unfold dlBump
  repeat' first
    | with_reducible assumption
    | with_reducible apply setDlTerm_keeps
    | with_reducible refine keeps.foldl _ _ ?_ (fun y a hy => ?_)
    | with_reducible apply keeps.ite
    | with_reducible apply keepsParts_of
    | simp only [keeps_mk]
    | dsimp only
    | split
    | (intro y hy)

theorem dlDrop_keeps {s0 : State} (vi : Nat) (term : Nat) {s : State} (h0 : keeps s0 s) :
    keeps s0 (dlDrop vi term s) := by
  unfold dlDrop
  repeat' first
    | with_reducible assumption
    | with_reducible apply setDlTerm_keeps
    | with_reducible refine keeps.foldl _ _ ?_ (fun y a hy => ?_)
    | with_reducible apply keeps.ite
    | with_reducible apply keepsParts_of
    | simp only [keeps_mk]
    | dsimp only
    | split
    | (intro y hy)

theorem putReq_keeps {s0 : State} (r : ReqRec) {s : State} (h0 : keeps s0 s) :
    keeps s0 (putReq r s) := by
  unfold putReq
  repeat' first
    | with_reducible assumption
    | with_reducible refine keeps.foldl _ _ ?_ (fun y a hy => ?_)
    | with_reducible apply keeps.ite
    | with_reducible apply keepsParts_of
    | simp only [keeps_mk]
    | dsimp only
    | split
    | (intro y hy)

theorem openReq_keeps {s0 : State} (r : ReqRec) {s : State} (h0 : keeps s0 s) :
    keeps s0 (openReq r s) := by
  unfold openReq
  repeat' first
    | with_reducible assumption
    | with_reducible apply putReq_keeps
    | with_reducible refine keeps.foldl _ _ ?_ (fun y a hy => ?_)
    | with_reducible apply keeps.ite
    | with_reducible apply keepsParts_of
    | simp only [keeps_mk]
    | dsimp only
    | split
    | (intro y hy)

theorem modReq_keeps {s0 : State} (rqid : Nat) (f : ReqRec → ReqRec) {s : State} (h0 : keeps s0 s) :
    keeps s0 (modReq rqid f s) := by
  unfold modReq
  repeat' first
    | with_reducible assumption
    | with_reducible apply putReq_keeps
    | with_reducible refine keeps.foldl _ _ ?_ (fun y a hy => ?_)
    | with_reducible apply keeps.ite
    | with_reducible apply keepsParts_of
    | simp only [keeps_mk]
    | dsimp only
    | split
    | (intro y hy)

theorem takeRqid_keeps {s0 : State} {s : State} (h0 : keeps s0 s) : keeps s0 (takeRqid s).2 := by
  unfold takeRqid
  rw [keeps_mk]
  refine ⟨h0.pending, h0.mem, fun n => ?_⟩
  obtain ⟨a, b, c, d, e, f, g⟩ := h0.seq n
  refine ⟨a, b, c, d, seqNext_ok _ e, f, ?_⟩
  dsimp only
  split
  · exact seqAdd_ok _ _
  · exact g

theorem settleCredits_keeps {s0 : State} (cause : Nat) (slot : Nat) (f : Entry × Account → Entry × Account) {s : State} (h0 : keeps s0 s) :
    keeps s0 (settleCredits cause slot f s) := by
  unfold settleCredits
  repeat' first
    | with_reducible assumption
    | with_reducible apply commit_keeps
    | with_reducible refine keeps.foldl _ _ ?_ (fun y a hy => ?_)
    | with_reducible apply keeps.ite
    | with_reducible apply keepsParts_of
    | simp only [keeps_mk]
    | dsimp only
    | split
    | (intro y hy)

theorem refuseReq_keeps {s0 : State} (rqid : Nat) (vi : Nat) (st : Status) {s : State} (h0 : keeps s0 s) :
    keeps s0 (refuseReq rqid vi st s) := by
  unfold refuseReq
  repeat' first
    | with_reducible assumption
    | with_reducible apply dlDrop_keeps
    | with_reducible apply dlBump_keeps
    | with_reducible apply modReq_keeps
    | with_reducible refine keeps.foldl _ _ ?_ (fun y a hy => ?_)
    | with_reducible apply keeps.ite
    | with_reducible apply keepsParts_of
    | simp only [keeps_mk]
    | dsimp only
    | split
    | (intro y hy)

theorem fillBucket_keeps {s0 : State} (h : Nat) {s : State} (h0 : keeps s0 s) :
    keeps s0 (fillBucket h s) := by
  unfold fillBucket
  repeat' first
    | with_reducible assumption
    | with_reducible refine keeps.foldl _ _ ?_ (fun y a hy => ?_)
    | with_reducible apply keeps.ite
    | with_reducible apply keepsParts_of
    | simp only [keeps_mk]
    | dsimp only
    | split
    | (intro y hy)

theorem takeTokens_keeps {s0 : State} (h : Nat) (n : Nat) {s : State} (h0 : keeps s0 s) :
    keeps s0 (takeTokens h n s) := by
  unfold takeTokens
  repeat' first
    | with_reducible assumption
    | with_reducible apply fillBucket_keeps
    | with_reducible refine keeps.foldl _ _ ?_ (fun y a hy => ?_)
    | with_reducible apply keeps.ite
    | with_reducible apply keepsParts_of
    | simp only [keeps_mk]
    | dsimp only
    | split
    | (intro y hy)

theorem giveTokens_keeps {s0 : State} (h : Nat) (n16 : Nat) {s : State} (h0 : keeps s0 s) :
    keeps s0 (giveTokens h n16 s) := by
  unfold giveTokens
  repeat' first
    | with_reducible assumption
    | with_reducible apply fillBucket_keeps
    | with_reducible refine keeps.foldl _ _ ?_ (fun y a hy => ?_)
    | with_reducible apply keeps.ite
    | with_reducible apply keepsParts_of
    | simp only [keeps_mk]
    | dsimp only
    | split
    | (intro y hy)

theorem dropBurst_keeps {s0 : State} (rqid : Nat) {s : State} (h0 : keeps s0 s) :
    keeps s0 (dropBurst rqid s) := by
  unfold dropBurst
  repeat' first
    | with_reducible assumption
    | with_reducible apply raisePort_keeps
    | with_reducible refine keeps.foldl _ _ ?_ (fun y a hy => ?_)
    | with_reducible apply keeps.ite
    | with_reducible apply keepsParts_of
    | simp only [keeps_mk]
    | dsimp only
    | split
    | (intro y hy)

theorem putBurst_keeps {s0 : State} (i : Nat) (b : Burst) {s : State} (h0 : keeps s0 s) :
    keeps s0 (putBurst i b s) := by
  unfold putBurst
  repeat' first
    | with_reducible assumption
    | with_reducible refine keeps.foldl _ _ ?_ (fun y a hy => ?_)
    | with_reducible apply keeps.ite
    | with_reducible apply keepsParts_of
    | simp only [keeps_mk]
    | dsimp only
    | split
    | (intro y hy)

theorem modBurst_keeps {s0 : State} (rqid : Nat) (f : Burst → Burst) {s : State} (h0 : keeps s0 s) :
    keeps s0 (modBurst rqid f s) := by
  unfold modBurst
  repeat' first
    | with_reducible assumption
    | with_reducible refine keeps.foldl _ _ ?_ (fun y a hy => ?_)
    | with_reducible apply keeps.ite
    | with_reducible apply keepsParts_of
    | simp only [keeps_mk]
    | dsimp only
    | split
    | (intro y hy)

theorem endAttempt_keeps {s0 : State} (b : Burst) (o : DlOutcome) (st : Status) (bs : BurstState) (endAt : Nat) (symbolsHeard : Nat) (mask : Bool) {s : State} (h0 : keeps s0 s) :
    keeps s0 (endAttempt b o st bs endAt symbolsHeard mask s) := by
  unfold endAttempt
  repeat' first
    | with_reducible assumption
    | with_reducible apply modReq_keeps
    | with_reducible apply dlDrop_keeps
    | with_reducible apply dlBump_keeps
    | with_reducible apply sendPrepare_keeps
    | with_reducible apply commit_keeps
    | with_reducible refine keeps.foldl _ _ ?_ (fun y a hy => ?_)
    | with_reducible apply keeps.ite
    | with_reducible apply keepsParts_of
    | simp only [keeps_mk]
    | dsimp only
    | split
    | (intro y hy)

theorem txensFor_keeps {s0 : State} (h : Nat) (times : List Nat) {s : State} (h0 : keeps s0 s) :
    keeps s0 (txensFor h times s) := by
  unfold txensFor
  repeat' first
    | with_reducible assumption
    | with_reducible apply txenFor_keeps
    | with_reducible refine keeps.foldl _ _ ?_ (fun y a hy => ?_)
    | with_reducible apply keeps.ite
    | with_reducible apply keepsParts_of
    | simp only [keeps_mk]
    | dsimp only
    | split
    | (intro y hy)

theorem removeBurst_keeps {s0 : State} (b : Burst) {s : State} (h0 : keeps s0 s) :
    keeps s0 (removeBurst b s) := by
  unfold removeBurst
  repeat' first
    | with_reducible assumption
    | with_reducible apply giveTokens_keeps
    | with_reducible apply dropBurst_keeps
    | with_reducible apply txensFor_keeps
    | with_reducible apply endAttempt_keeps
    | with_reducible refine keeps.foldl _ _ ?_ (fun y a hy => ?_)
    | with_reducible apply keeps.ite
    | with_reducible apply keepsParts_of
    | simp only [keeps_mk]
    | dsimp only
    | split
    | (intro y hy)

theorem countBlank_keeps {s0 : State} (h : Nat) (n : Nat) {s : State} (h0 : keeps s0 s) :
    keeps s0 (countBlank h n s) := by
  unfold countBlank
  repeat' first
    | with_reducible assumption
    | with_reducible refine keeps.foldl _ _ ?_ (fun y a hy => ?_)
    | with_reducible apply keeps.ite
    | with_reducible apply keepsParts_of
    | simp only [keeps_mk]
    | dsimp only
    | split
    | (intro y hy)

theorem blankHead_keeps {s0 : State} (h : Nat) (lo : Nat) (hi : Nat) {s : State} (h0 : keeps s0 s) :
    keeps s0 (blankHead h lo hi s) := by
  unfold blankHead
  repeat' first
    | with_reducible assumption
    | with_reducible apply countBlank_keeps
    | with_reducible apply addErasure_keeps
    | with_reducible refine keeps.foldl _ _ ?_ (fun y a hy => ?_)
    | with_reducible apply keeps.ite
    | with_reducible apply keepsParts_of
    | simp only [keeps_mk]
    | dsimp only
    | split
    | (intro y hy)

theorem trimBlank_keeps {s0 : State} (h : Nat) (lo : Nat) (hi : Nat) (z3 : Nat) {s : State} (h0 : keeps s0 s) :
    keeps s0 (trimBlank h lo hi z3 s) := by
  unfold trimBlank
  repeat' first
    | with_reducible assumption
    | with_reducible refine keeps.foldl _ _ ?_ (fun y a hy => ?_)
    | with_reducible apply keeps.ite
    | with_reducible apply keepsParts_of
    | simp only [keeps_mk]
    | dsimp only
    | split
    | (intro y hy)

theorem stopBurst_keeps {s0 : State} (b : Burst) (mask : Bool) {s : State} (h0 : keeps s0 s) :
    keeps s0 (stopBurst b mask s) := by
  unfold stopBurst
  repeat' first
    | with_reducible assumption
    | with_reducible apply giveTokens_keeps
    | with_reducible apply sendParamp_keeps
    | with_reducible apply trimBlank_keeps
    | with_reducible apply emit_keeps
    | with_reducible apply dropBurst_keeps
    | with_reducible apply txensFor_keeps
    | with_reducible apply endAttempt_keeps
    | with_reducible refine keeps.foldl _ _ ?_ (fun y a hy => ?_)
    | with_reducible apply keeps.ite
    | with_reducible apply keepsParts_of
    | simp only [keeps_mk]
    | dsimp only
    | split
    | (intro y hy)

theorem clearTimeline_keeps {s0 : State} {s : State} (h0 : keeps s0 s) :
    keeps s0 (clearTimeline s) := by
  unfold clearTimeline
  repeat' first
    | with_reducible assumption
    | with_reducible apply removeBurst_keeps
    | with_reducible refine keeps.foldl _ _ ?_ (fun y a hy => ?_)
    | with_reducible apply keeps.ite
    | with_reducible apply keepsParts_of
    | simp only [keeps_mk]
    | dsimp only
    | split
    | (intro y hy)

theorem stopAir_keeps {s0 : State} {s : State} (h0 : keeps s0 s) :
    keeps s0 (stopAir s) := by
  unfold stopAir
  repeat' first
    | with_reducible assumption
    | with_reducible apply stopBurst_keeps
    | with_reducible refine keeps.foldl _ _ ?_ (fun y a hy => ?_)
    | with_reducible apply keeps.ite
    | with_reducible apply keepsParts_of
    | simp only [keeps_mk]
    | dsimp only
    | split
    | (intro y hy)

theorem endBurstsOf_keeps {s0 : State} (slot : Nat) {s : State} (h0 : keeps s0 s) :
    keeps s0 (endBurstsOf slot s) := by
  unfold endBurstsOf
  repeat' first
    | with_reducible assumption
    | with_reducible apply stopBurst_keeps
    | with_reducible apply removeBurst_keeps
    | with_reducible refine keeps.foldl _ _ ?_ (fun y a hy => ?_)
    | with_reducible apply keeps.ite
    | with_reducible apply keepsParts_of
    | simp only [keeps_mk]
    | dsimp only
    | split
    | (intro y hy)

theorem dropHead_keeps {s0 : State} (h : Nat) {s : State} (h0 : keeps s0 s) :
    keeps s0 (dropHead h s) := by
  unfold dropHead
  repeat' first
    | with_reducible assumption
    | with_reducible apply modReq_keeps
    | with_reducible apply sendParamp_keeps
    | with_reducible apply stopBurst_keeps
    | with_reducible apply modBurst_keeps
    | with_reducible apply trimBlank_keeps
    | with_reducible apply removeBurst_keeps
    | with_reducible refine keeps.foldl _ _ ?_ (fun y a hy => ?_)
    | with_reducible apply keeps.ite
    | with_reducible apply keepsParts_of
    | simp only [keeps_mk]
    | dsimp only
    | split
    | (intro y hy)

theorem endDeferred_keeps {s0 : State} (d : Deferred) (st : Status) {s : State} (h0 : keeps s0 s) :
    keeps s0 (endDeferred d st s) := by
  unfold endDeferred
  repeat' first
    | with_reducible assumption
    | with_reducible apply takeRqid_keeps
    | with_reducible apply openReq_keeps
    | with_reducible apply dlBump_keeps
    | with_reducible apply settleCredits_keeps
    | with_reducible refine keeps.foldl _ _ ?_ (fun y a hy => ?_)
    | with_reducible apply keeps.ite
    | with_reducible apply keepsParts_of
    | simp only [keeps_mk]
    | dsimp only
    | split
    | (intro y hy)

theorem endDeferredOf_keeps {s0 : State} (slot : Nat) (st : Status) {s : State} (h0 : keeps s0 s) :
    keeps s0 (endDeferredOf slot st s) := by
  unfold endDeferredOf
  repeat' first
    | with_reducible assumption
    | with_reducible apply endDeferred_keeps
    | with_reducible refine keeps.foldl _ _ ?_ (fun y a hy => ?_)
    | with_reducible apply keeps.ite
    | with_reducible apply keepsParts_of
    | simp only [keeps_mk]
    | dsimp only
    | split
    | (intro y hy)

theorem ownRule_keeps {s0 : State} (idx : Nat) (sub : Nat) (f : State → State × Status) {s : State} (hf0 : ∀ y, keeps s0 y → keeps s0 (f y).1) (h1 : keeps s0 s) :
    keeps s0 (ownRule idx sub f s).1 := by
  unfold ownRule
  repeat' first
    | with_reducible assumption
    | with_reducible apply hf0
    | with_reducible refine keeps.foldl _ _ ?_ (fun y a hy => ?_)
    | with_reducible apply keeps.ite
    | with_reducible apply keepsParts_of
    | simp only [keeps_mk]
    | dsimp only
    | split
    | (intro y hy)

theorem checkedWrite_keeps {s0 : State} (vi : Nat) (idx : Nat) (sub : Nat) (el : Nat) (len : Nat) (v : Nat) (f : State → State × Status) {s : State} (hf0 : ∀ y, keeps s0 y → keeps s0 (f y).1) (h1 : keeps s0 s) :
    keeps s0 (checkedWrite vi idx sub el len v f s).1 := by
  unfold checkedWrite
  repeat' first
    | with_reducible assumption
    | with_reducible apply hf0
    | with_reducible apply ownRule_keeps
    | with_reducible refine keeps.foldl _ _ ?_ (fun y a hy => ?_)
    | with_reducible apply keeps.ite
    | with_reducible apply keepsParts_of
    | simp only [keeps_mk]
    | dsimp only
    | split
    | (intro y hy)

theorem plainWrite_keeps {s0 : State} (vi : Nat) (idx : Nat) (sub : Nat) (el : Nat) (v : Nat) {s : State} (h0 : keeps s0 s) :
    keeps s0 (plainWrite vi idx sub el v s).1 := by
  unfold plainWrite
  repeat' first
    | with_reducible assumption
    | with_reducible apply putSetting_keeps
    | with_reducible refine keeps.foldl _ _ ?_ (fun y a hy => ?_)
    | with_reducible apply keeps.ite
    | with_reducible apply keepsParts_of
    | simp only [keeps_mk]
    | dsimp only
    | split
    | (intro y hy)

theorem forceRelease_keeps {s0 : State} (e : Nat) {s : State} (h0 : keeps s0 s) :
    keeps s0 (forceRelease e s) := by
  unfold forceRelease
  repeat' first
    | with_reducible assumption
    | with_reducible apply setEngine_keeps
    | with_reducible apply errRecord_keeps
    | with_reducible refine keeps.foldl _ _ ?_ (fun y a hy => ?_)
    | with_reducible apply keeps.ite
    | with_reducible apply keepsParts_of
    | simp only [keeps_mk]
    | dsimp only
    | split
    | (intro y hy)

theorem releasePassesOf_keeps {s0 : State} (who : Nat) {s : State} (h0 : keeps s0 s) :
    keeps s0 (releasePassesOf who s) := by
  unfold releasePassesOf
  repeat' first
    | with_reducible assumption
    | with_reducible apply forceRelease_keeps
    | with_reducible refine keeps.foldl _ _ ?_ (fun y a hy => ?_)
    | with_reducible apply keeps.ite
    | with_reducible apply keepsParts_of
    | simp only [keeps_mk]
    | dsimp only
    | split
    | (intro y hy)

theorem readPass_keeps {s0 : State} (who : Nat) (e : Nat) {s : State} (h0 : keeps s0 s) :
    keeps s0 (readPass who e s).1 := by
  unfold readPass
  repeat' first
    | with_reducible assumption
    | with_reducible apply setEngine_keeps
    | with_reducible refine keeps.foldl _ _ ?_ (fun y a hy => ?_)
    | with_reducible apply keeps.ite
    | with_reducible apply keepsParts_of
    | simp only [keeps_mk]
    | dsimp only
    | split
    | (intro y hy)

theorem writePass_keeps {s0 : State} (who : Nat) (e : Nat) (v : Nat) {s : State} (h0 : keeps s0 s) :
    keeps s0 (writePass who e v s).1 := by
  unfold writePass
  repeat' first
    | with_reducible assumption
    | with_reducible apply setEngine_keeps
    | with_reducible refine keeps.foldl _ _ ?_ (fun y a hy => ?_)
    | with_reducible apply keeps.ite
    | with_reducible apply keepsParts_of
    | simp only [keeps_mk]
    | dsimp only
    | split
    | (intro y hy)

theorem takeDcnt_keeps {s0 : State} (slot : Nat) {s : State} (h0 : keeps s0 s) :
    keeps s0 (takeDcnt slot s) := by
  unfold takeDcnt
  repeat' first
    | with_reducible assumption
    | with_reducible apply commit_keeps
    | with_reducible apply monoBump_keeps
    | with_reducible apply endDeferredOf_keeps
    | with_reducible refine keeps.foldl _ _ ?_ (fun y a hy => ?_)
    | with_reducible apply keeps.ite
    | with_reducible apply keepsParts_of
    | simp only [keeps_mk]
    | dsimp only
    | split
    | (intro y hy)

theorem writeCmd_keeps {s0 : State} (who : Nat) (e : Nat) (w : Nat) {s : State} (h0 : keeps s0 s) :
    keeps s0 (writeCmd who e w s) := by
  unfold writeCmd
  repeat' first
    | with_reducible assumption
    | with_reducible apply setEngine_keeps
    | with_reducible apply meshRead_keeps
    | with_reducible apply errRecord_keeps
    | with_reducible apply takeDcnt_keeps
    | with_reducible refine keeps.foldl _ _ ?_ (fun y a hy => ?_)
    | with_reducible apply keeps.ite
    | with_reducible apply keepsParts_of
    | simp only [keeps_mk]
    | dsimp only
    | split
    | (intro y hy)

theorem completeCipher_keeps {s0 : State} (e : Nat) {s : State} (h0 : keeps s0 s) :
    keeps s0 (completeCipher e s) := by
  unfold completeCipher
  repeat' first
    | with_reducible assumption
    | with_reducible apply meshWrite_keeps
    | with_reducible apply modBurst_keeps
    | with_reducible apply setEngine_keeps
    | with_reducible apply raisePort_keeps
    | with_reducible refine keeps.foldl _ _ ?_ (fun y a hy => ?_)
    | with_reducible apply keeps.ite
    | with_reducible apply keepsParts_of
    | simp only [keeps_mk]
    | dsimp only
    | split
    | (intro y hy)

theorem engineRead_keeps {s0 : State} (who : Nat) (e : Nat) (off : Nat) (n : Nat) {s : State} (h0 : keeps s0 s) :
    keeps s0 (engineRead who e off n s).1 := by
  unfold engineRead
  repeat' first
    | with_reducible assumption
    | with_reducible apply readPass_keeps
    | with_reducible refine keeps.foldl _ _ ?_ (fun y a hy => ?_)
    | with_reducible apply keeps.ite
    | with_reducible apply keepsParts_of
    | simp only [keeps_mk]
    | dsimp only
    | split
    | (intro y hy)

theorem engineWrite_keeps {s0 : State} (who : Nat) (e : Nat) (off : Nat) (bs : List (BitVec 8)) {s : State} (h0 : keeps s0 s) :
    keeps s0 (engineWrite who e off bs s).1 := by
  unfold engineWrite
  repeat' first
    | with_reducible assumption
    | with_reducible apply writePass_keeps
    | with_reducible apply forceRelease_keeps
    | with_reducible apply writeCmd_keeps
    | with_reducible apply setEngine_keeps
    | with_reducible refine keeps.foldl _ _ ?_ (fun y a hy => ?_)
    | with_reducible apply keeps.ite
    | with_reducible apply keepsParts_of
    | simp only [keeps_mk]
    | dsimp only
    | split
    | (intro y hy)

theorem loadInto_keeps {s0 : State} (vi : Nat) (target : Nat) (len : Nat) (v : Nat) {s : State} (h0 : keeps s0 s) :
    keeps s0 (loadInto vi target len v s).1 := by
  unfold loadInto
  repeat' first
    | with_reducible assumption
    | with_reducible apply setKey_keeps
    | with_reducible refine keeps.foldl _ _ ?_ (fun y a hy => ?_)
    | with_reducible apply keeps.ite
    | with_reducible apply keepsParts_of
    | simp only [keeps_mk]
    | dsimp only
    | split
    | (intro y hy)

theorem writeKeyLoad_keeps {s0 : State} (vi : Nat) (len : Nat) (v : Nat) {s : State} (h0 : keeps s0 s) :
    keeps s0 (writeKeyLoad vi len v s).1 := by
  unfold writeKeyLoad
  repeat' first
    | with_reducible assumption
    | with_reducible apply loadInto_keeps
    | with_reducible refine keeps.foldl _ _ ?_ (fun y a hy => ?_)
    | with_reducible apply keeps.ite
    | with_reducible apply keepsParts_of
    | simp only [keeps_mk]
    | dsimp only
    | split
    | (intro y hy)

theorem writeKeyErase_keeps {s0 : State} (h : Nat) {s : State} (h0 : keeps s0 s) :
    keeps s0 (writeKeyErase h s).1 := by
  unfold writeKeyErase
  repeat' first
    | with_reducible assumption
    | with_reducible apply wipeKey_keeps
    | with_reducible refine keeps.foldl _ _ ?_ (fun y a hy => ?_)
    | with_reducible apply keeps.ite
    | with_reducible apply keepsParts_of
    | simp only [keeps_mk]
    | dsimp only
    | split
    | (intro y hy)

theorem writeViLoadKey_keeps {s0 : State} (el : Nat) (len : Nat) (v : Nat) {s : State} (h0 : keeps s0 s) :
    keeps s0 (writeViLoadKey el len v s).1 := by
  unfold writeViLoadKey
  repeat' first
    | with_reducible assumption
    | with_reducible apply loadInto_keeps
    | with_reducible refine keeps.foldl _ _ ?_ (fun y a hy => ?_)
    | with_reducible apply keeps.ite
    | with_reducible apply keepsParts_of
    | simp only [keeps_mk]
    | dsimp only
    | split
    | (intro y hy)

theorem writeManagementKey_keeps {s0 : State} (vi el len v : Nat) {s : State} (h0 : keeps s0 s) : keeps s0 (writeManagementKey vi el len v s).1 := by
  unfold writeManagementKey
  have h := loadInto_keeps vi (managementKeyOf el) len v h0
  generalize loadInto vi (managementKeyOf el) len v s = r at h
  obtain ⟨t, st⟩ := r
  split
  · rename_i e; cases e
    rw [keeps_mk]; exact ⟨h.pending, h.mem, h.seq⟩
  · exact h

theorem writeBlockOwner_keeps {s0 : State} (blk : Nat) (v : Nat) {s : State} (h0 : keeps s0 s) :
    keeps s0 (writeBlockOwner blk v s).1 := by
  unfold writeBlockOwner
  repeat' first
    | with_reducible assumption
    | with_reducible apply plainWrite_keeps
    | with_reducible refine keeps.foldl _ _ ?_ (fun y a hy => ?_)
    | with_reducible apply keeps.ite
    | with_reducible apply keepsParts_of
    | simp only [keeps_mk]
    | dsimp only
    | split
    | (intro y hy)

theorem recalibrate_keeps {s0 : State} (at_ : Nat) {s : State} (h0 : keeps s0 s) :
    keeps s0 (recalibrate at_ s) := by
  unfold recalibrate
  repeat' first
    | with_reducible assumption
    | with_reducible apply modReq_keeps
    | with_reducible apply modBurst_keeps
    | with_reducible refine keeps.foldl _ _ ?_ (fun y a hy => ?_)
    | with_reducible apply keeps.ite
    | with_reducible apply keepsParts_of
    | simp only [keeps_mk]
    | dsimp only
    | split
    | (intro y hy)

theorem queueBurst_keeps {s0 : State} (b : Burst) {s : State} (h0 : keeps s0 s) :
    keeps s0 (queueBurst b s) := by
  unfold queueBurst
  repeat' first
    | with_reducible assumption
    | with_reducible apply txenFor_keeps
    | with_reducible apply sendParamp_keeps
    | with_reducible apply txensFor_keeps
    | with_reducible refine keeps.foldl _ _ ?_ (fun y a hy => ?_)
    | with_reducible apply keeps.ite
    | with_reducible apply keepsParts_of
    | simp only [keeps_mk]
    | dsimp only
    | split
    | (intro y hy)

theorem placeBurst_keeps {s0 : State} (p : Placing) {s : State} (h0 : keeps s0 s) :
    keeps s0 (placeBurst p s) := by
  unfold placeBurst
  repeat' first
    | with_reducible assumption
    | with_reducible apply takeTokens_keeps
    | with_reducible apply putBurst_keeps
    | with_reducible apply modReq_keeps
    | with_reducible apply raisePort_keeps
    | with_reducible apply queueBurst_keeps
    | with_reducible apply dlBump_keeps
    | with_reducible refine keeps.foldl _ _ ?_ (fun y a hy => ?_)
    | with_reducible apply keeps.ite
    | with_reducible apply keepsParts_of
    | simp only [keeps_mk]
    | dsimp only
    | split
    | (intro y hy)

theorem attemptCommit_keeps {s0 : State} (a : Ask) (outcome : Bool) (hold : Bool) (f : Entry × Account → Entry × Account) {s : State} (h0 : keeps s0 s) :
    keeps s0 (attemptCommit a outcome hold f s) := by
  unfold attemptCommit
  repeat' first
    | with_reducible assumption
    | with_reducible apply commit_keeps
    | with_reducible refine keeps.foldl _ _ ?_ (fun y a hy => ?_)
    | with_reducible apply keeps.ite
    | with_reducible apply keepsParts_of
    | simp only [keeps_mk]
    | dsimp only
    | split
    | (intro y hy)

theorem deferReq_keeps {s0 : State} (rqid : Nat) (a : Ask) {s : State} (h0 : keeps s0 s) :
    keeps s0 (deferReq rqid a s) := by
  unfold deferReq
  repeat' first
    | with_reducible assumption
    | with_reducible apply modReq_keeps
    | with_reducible apply dlBump_keeps
    | with_reducible apply dlDrop_keeps
    | with_reducible refine keeps.foldl _ _ ?_ (fun y a hy => ?_)
    | with_reducible apply keeps.ite
    | with_reducible apply keepsParts_of
    | simp only [keeps_mk]
    | dsimp only
    | split
    | (intro y hy)

theorem tryPlace_keeps {s0 : State} (rqid : Nat) (a : Ask) (refused : State → State) (placed : State → State) {s : State} (hf0 : ∀ y, keeps s0 y → keeps s0 (refused y)) (hf1 : ∀ y, keeps s0 y → keeps s0 (placed y)) (h2 : keeps s0 s) :
    keeps s0 (tryPlace rqid a refused placed s).1 := by
  unfold tryPlace
  repeat' first
    | with_reducible assumption
    | with_reducible apply hf0
    | with_reducible apply hf1
    | with_reducible apply refuseReq_keeps
    | with_reducible apply placeBurst_keeps
    | with_reducible refine keeps.foldl _ _ ?_ (fun y a hy => ?_)
    | with_reducible apply keeps.ite
    | with_reducible apply keepsParts_of
    | simp only [keeps_mk]
    | dsimp only
    | split
    | (intro y hy)

theorem attempt_keeps {s0 : State} (a : Ask) {s : State} (h0 : keeps s0 s) : keeps s0 (attempt a s).1 := by
  unfold attempt
  have h1 := takeRqid_keeps h0
  generalize takeRqid s = r at h1
  obtain ⟨n, t⟩ := r
  dsimp only at h1 ⊢
  have h2 : ∀ q, keeps s0 (dlBump a.vi 4 (dlBump a.vi (if (a.origin == .carried) = true then 1 else 0) (openReq q t))) :=
    fun q => dlBump_keeps _ _ (dlBump_keeps _ _ (openReq_keeps _ h1))
  repeat' first
    | with_reducible assumption
    | with_reducible exact h2 _
    | with_reducible apply refuseReq_keeps
    | with_reducible apply deferReq_keeps
    | with_reducible apply tryPlace_keeps
    | with_reducible apply commit_keeps
    | with_reducible apply modReq_keeps
    | with_reducible apply dlBump_keeps
    | with_reducible apply openReq_keeps
    | with_reducible apply attemptCommit_keeps
    | with_reducible apply refundCredits_keeps
    | (intro y hy)
    | exact hy
    | split

theorem followOns_keeps {s0 : State} (bin mcode : Nat) (cfo : Int) (l : List Deferred) (e : Nat) {s : State} (h0 : keeps s0 s) :
    keeps s0 (followOns bin mcode cfo l e s) := by
  induction l generalizing e s with
  | nil => exact h0
  | cons d rest ih =>
    unfold followOns
    dsimp only
    generalize hr : attempt _ _ = r
    have h : keeps s0 r.1 := hr ▸ attempt_keeps _ (by rw [keeps_mk]; exact ⟨h0.pending, h0.mem, h0.seq⟩)
    split
    · exact ih _ h
    · exact h
    · exact ih _ h

theorem raiseAck_keeps {s0 : State} (slot s16 : Nat) (alarm : Bool) (bin mcode : Nat) (cfo : Int) {s : State} (h0 : keeps s0 s) :
    keeps s0 (raiseAck slot s16 alarm bin mcode cfo s) := by
  unfold raiseAck
  dsimp only
  generalize hr : attempt _ _ = r
  have h : keeps s0 r.1 := hr ▸ attempt_keeps _ h0
  obtain ⟨t, n, q⟩ := r
  have h2 : keeps s0 ((pendingOf s slot true).foldl (fun u d => endDeferred d .late u) t) :=
    keeps.foldl _ _ h (fun y d hy => endDeferred_keeps _ _ hy)
  dsimp only
  split
  · exact followOns_keeps _ _ _ _ _ h2
  · exact h2

theorem raiseReply_keeps {s0 : State} (vi profile meter endAt bin mcode : Nat) (cfo : Int) (w : Tab Nat) {s : State} (h0 : keeps s0 s) :
    keeps s0 (raiseReply vi profile meter endAt bin mcode cfo w s) := by
  unfold raiseReply
  split
  · exact h0
  · exact attempt_keeps _ h0

theorem downlinkRequest_keeps {s0 : State} (vi len v : Nat) {s : State} (h0 : keeps s0 s) : keeps s0 (downlinkRequest vi len v s).1 := by
  unfold downlinkRequest
  dsimp only
  split
  · exact h0
  · split
    · exact h0
    · split
      · exact h0
      · split
        · exact h0
        · generalize hr : attempt _ _ = r
          have h : keeps s0 r.1 := hr ▸ attempt_keeps _ h0
          obtain ⟨t, n, q⟩ := r
          dsimp only at h ⊢
          split <;> exact h

theorem writeReply_keeps {s0 : State} (vi : Nat) (i : Nat) (v : Nat) {s : State} (h0 : keeps s0 s) :
    keeps s0 (writeReply vi i v s).1 := by
  unfold writeReply
  repeat' first
    | with_reducible assumption
    | with_reducible apply putSetting_keeps
    | with_reducible refine keeps.foldl _ _ ?_ (fun y a hy => ?_)
    | with_reducible apply keeps.ite
    | with_reducible apply keepsParts_of
    | simp only [keeps_mk]
    | dsimp only
    | split
    | (intro y hy)

theorem writeRamp_keeps {s0 : State} (slot : Nat) (v : Nat) {s : State} (h0 : keeps s0 s) :
    keeps s0 (writeRamp slot v s).1 := by
  unfold writeRamp
  repeat' first
    | with_reducible assumption
    | with_reducible apply putSetting_keeps
    | with_reducible apply sendRampdef_keeps
    | with_reducible refine keeps.foldl _ _ ?_ (fun y a hy => ?_)
    | with_reducible apply keeps.ite
    | with_reducible apply keepsParts_of
    | simp only [keeps_mk]
    | dsimp only
    | split
    | (intro y hy)

theorem writeCoefficients_keeps {s0 : State} (sub : Nat) (el : Nat) (v : Nat) {s : State} (h0 : keeps s0 s) :
    keeps s0 (writeCoefficients sub el v s).1 := by
  unfold writeCoefficients
  repeat' first
    | with_reducible assumption
    | with_reducible apply plainWrite_keeps
    | with_reducible refine keeps.foldl _ _ ?_ (fun y a hy => ?_)
    | with_reducible apply keeps.ite
    | with_reducible apply keepsParts_of
    | simp only [keeps_mk]
    | dsimp only
    | split
    | (intro y hy)

theorem writeDuty_keeps {s0 : State} (sub : Nat) (h : Nat) (v : Nat) {s : State} (h0 : keeps s0 s) :
    keeps s0 (writeDuty sub h v s).1 := by
  unfold writeDuty
  repeat' first
    | with_reducible assumption
    | with_reducible apply putSetting_keeps
    | with_reducible apply fillBucket_keeps
    | with_reducible refine keeps.foldl _ _ ?_ (fun y a hy => ?_)
    | with_reducible apply keeps.ite
    | with_reducible apply keepsParts_of
    | simp only [keeps_mk]
    | dsimp only
    | split
    | (intro y hy)

theorem startBurst_keeps {s0 : State} (b : Burst) {s : State} (h0 : keeps s0 s) :
    keeps s0 (startBurst b s) := by
  unfold startBurst
  repeat' first
    | with_reducible assumption
    | with_reducible apply modBurst_keeps
    | with_reducible apply modReq_keeps
    | with_reducible apply blankHead_keeps
    | with_reducible apply emit_keeps
    | with_reducible refine keeps.foldl _ _ ?_ (fun y a hy => ?_)
    | with_reducible apply keeps.ite
    | with_reducible apply keepsParts_of
    | simp only [keeps_mk]
    | dsimp only
    | split
    | (intro y hy)

theorem judgeBlock_keeps {s0 : State} (r : Nat) (follows : Bool) {s : State} (h0 : keeps s0 s) :
    keeps s0 (judgeBlock r follows s) := by
  unfold judgeBlock
  repeat' first
    | with_reducible assumption
    | with_reducible apply stopBurst_keeps
    | with_reducible refine keeps.foldl _ _ ?_ (fun y a hy => ?_)
    | with_reducible apply keeps.ite
    | with_reducible apply keepsParts_of
    | simp only [keeps_mk]
    | dsimp only
    | split
    | (intro y hy)

theorem storeSignature_keeps {s0 : State} (slot : Nat) (w : Tab (Int × Int)) {s : State} (h0 : keeps s0 s) :
    keeps s0 (storeSignature slot w s) := by
  unfold storeSignature
  repeat' first
    | with_reducible assumption
    | with_reducible refine keeps.foldl _ _ ?_ (fun y a hy => ?_)
    | with_reducible apply keeps.ite
    | with_reducible apply keepsParts_of
    | simp only [keeps_mk]
    | dsimp only
    | split
    | (intro y hy)

theorem applyVerdict_keeps {s0 : State} (j : Judged) (x : Capture) (d : Detection) {s : State} (h0 : keeps s0 s) :
    keeps s0 (applyVerdict j x d s) := by
  unfold applyVerdict
  repeat' first
    | with_reducible assumption
    | with_reducible apply commit_keeps
    | with_reducible apply storeSignature_keeps
    | with_reducible apply monoBump_keeps
    | with_reducible refine keeps.foldl _ _ ?_ (fun y a hy => ?_)
    | with_reducible apply keeps.ite
    | with_reducible apply keepsParts_of
    | simp only [keeps_mk]
    | dsimp only
    | split
    | (intro y hy)

theorem holdVerdict_keeps {s0 : State} (vi : Nat) (h : Held) {s : State} (h0 : keeps s0 s) :
    keeps s0 (holdVerdict vi h s) := by
  unfold holdVerdict
  repeat' first
    | with_reducible assumption
    | with_reducible refine keeps.foldl _ _ ?_ (fun y a hy => ?_)
    | with_reducible apply keeps.ite
    | with_reducible apply keepsParts_of
    | simp only [keeps_mk]
    | dsimp only
    | split
    | (intro y hy)

theorem releaseLoop_keeps {s0 : State} (d : Detection) {s : State} (h0 : keeps s0 s) :
    keeps s0 (releaseLoop d s) := by
  unfold releaseLoop
  repeat' first
    | with_reducible assumption
    | with_reducible apply setStream_keeps
    | with_reducible refine keeps.foldl _ _ ?_ (fun y a hy => ?_)
    | with_reducible apply keeps.ite
    | with_reducible apply keepsParts_of
    | simp only [keeps_mk]
    | dsimp only
    | split
    | (intro y hy)

theorem uncover_keeps {s0 : State} (dseq : Nat) {s : State} (h0 : keeps s0 s) :
    keeps s0 (uncover dseq s) := by
  unfold uncover
  repeat' first
    | with_reducible assumption
    | with_reducible refine keeps.foldl _ _ ?_ (fun y a hy => ?_)
    | with_reducible apply keeps.ite
    | with_reducible apply keepsParts_of
    | simp only [keeps_mk]
    | dsimp only
    | split
    | (intro y hy)

theorem uncoverElsewhere_keeps {s0 : State} (dseq : Nat) (slot : Option Nat) {s : State} (h0 : keeps s0 s) :
    keeps s0 (uncoverElsewhere dseq slot s) := by
  unfold uncoverElsewhere
  repeat' first
    | with_reducible assumption
    | with_reducible refine keeps.foldl _ _ ?_ (fun y a hy => ?_)
    | with_reducible apply keeps.ite
    | with_reducible apply keepsParts_of
    | simp only [keeps_mk]
    | dsimp only
    | split
    | (intro y hy)

theorem releaseCapture_keeps {s0 : State} (c : Nat) (d : Detection) (cls : VClass) {s : State} (h0 : keeps s0 s) :
    keeps s0 (releaseCapture c d cls s) := by
  unfold releaseCapture
  repeat' first
    | with_reducible assumption
    | with_reducible apply raiseToken_keeps
    | with_reducible apply uncover_keeps
    | with_reducible apply releaseLoop_keeps
    | with_reducible apply setCapture_keeps
    | with_reducible apply frameBump_keeps
    | with_reducible refine keeps.foldl _ _ ?_ (fun y a hy => ?_)
    | with_reducible apply keeps.ite
    | with_reducible apply keepsParts_of
    | simp only [keeps_mk]
    | dsimp only
    | split
    | (intro y hy)

theorem recordEnd_keeps {s0 : State} (j : Judged) (x : Capture) (d : Detection) {s : State} (h0 : keeps s0 s) :
    keeps s0 (recordEnd j x d s).1 := by
  unfold recordEnd
  repeat' first
    | with_reducible assumption
    | with_reducible apply drawFree_keeps
    | with_reducible refine keeps.foldl _ _ ?_ (fun y a hy => ?_)
    | with_reducible apply keeps.ite
    | with_reducible apply keepsParts_of
    | simp only [keeps_mk]
    | dsimp only
    | split
    | (intro y hy)

theorem countVerdict_keeps {s0 : State} (r : Verdict) {s : State} (h0 : keeps s0 s) :
    keeps s0 (countVerdict r s) := by
  unfold countVerdict
  repeat' first
    | with_reducible assumption
    | with_reducible refine keeps.foldl _ _ ?_ (fun y a hy => ?_)
    | with_reducible apply keeps.ite
    | with_reducible apply keepsParts_of
    | simp only [keeps_mk]
    | dsimp only
    | split
    | (intro y hy)

theorem issueVerdict_keeps {s0 : State} (c : Nat) (x : Capture) (d : Detection) (j : Judged) (latency : Nat) (crowd : Bool) {s : State} (h0 : keeps s0 s) :
    keeps s0 (issueVerdict c x d j latency crowd s) := by
  unfold issueVerdict
  repeat' first
    | with_reducible assumption
    | with_reducible apply applyVerdict_keeps
    | with_reducible apply recordEnd_keeps
    | with_reducible apply countVerdict_keeps
    | with_reducible apply holdVerdict_keeps
    | with_reducible apply raiseReply_keeps
    | with_reducible apply raiseAck_keeps
    | with_reducible refine keeps.foldl _ _ ?_ (fun y a hy => ?_)
    | with_reducible apply keeps.ite
    | with_reducible apply keepsParts_of
    | simp only [keeps_mk]
    | dsimp only
    | split
    | (intro y hy)

theorem endCapture_keeps {s0 : State} (c : Nat) (detail : Nat) {s : State} (h0 : keeps s0 s) :
    keeps s0 (endCapture c detail s) := by
  unfold endCapture
  repeat' first
    | with_reducible assumption
    | with_reducible apply drawFree_keeps
    | with_reducible apply releaseCapture_keeps
    | with_reducible apply issueVerdict_keeps
    | with_reducible refine keeps.foldl _ _ ?_ (fun y a hy => ?_)
    | with_reducible apply keeps.ite
    | with_reducible apply keepsParts_of
    | simp only [keeps_mk]
    | dsimp only
    | split
    | (intro y hy)

theorem endAllCaptures_keeps {s0 : State} (detail : Nat) {s : State} (h0 : keeps s0 s) :
    keeps s0 (endAllCaptures detail s) := by
  unfold endAllCaptures
  repeat' first
    | with_reducible assumption
    | with_reducible apply endCapture_keeps
    | with_reducible refine keeps.foldl _ _ ?_ (fun y a hy => ?_)
    | with_reducible apply keeps.ite
    | with_reducible apply keepsParts_of
    | simp only [keeps_mk]
    | dsimp only
    | split
    | (intro y hy)

theorem modDetection_keeps {s0 : State} (dseq : Nat) (f : Detection → Detection) {s : State} (h0 : keeps s0 s) :
    keeps s0 (modDetection dseq f s) := by
  unfold modDetection
  repeat' first
    | with_reducible assumption
    | with_reducible refine keeps.foldl _ _ ?_ (fun y a hy => ?_)
    | with_reducible apply keeps.ite
    | with_reducible apply keepsParts_of
    | simp only [keeps_mk]
    | dsimp only
    | split
    | (intro y hy)

theorem refuseRequest_keeps {s0 : State} (d : Detection) (cause : Refuse) (round : Nat) {s : State} (h0 : keeps s0 s) :
    keeps s0 (refuseRequest d cause round s) := by
  unfold refuseRequest
  repeat' first
    | with_reducible assumption
    | with_reducible apply frameBump_keeps
    | with_reducible apply releaseLoop_keeps
    | with_reducible apply modDetection_keeps
    | with_reducible refine keeps.foldl _ _ ?_ (fun y a hy => ?_)
    | with_reducible apply keeps.ite
    | with_reducible apply keepsParts_of
    | simp only [keeps_mk]
    | dsimp only
    | split
    | (intro y hy)

theorem stopRequests_keeps {s0 : State} {s : State} (h0 : keeps s0 s) :
    keeps s0 (stopRequests s) := by
  unfold stopRequests
  repeat' first
    | with_reducible assumption
    | with_reducible apply refuseRequest_keeps
    | with_reducible refine keeps.foldl _ _ ?_ (fun y a hy => ?_)
    | with_reducible apply keeps.ite
    | with_reducible apply keepsParts_of
    | simp only [keeps_mk]
    | dsimp only
    | split
    | (intro y hy)

theorem stopReceive_keeps {s0 : State} {s : State} (h0 : keeps s0 s) :
    keeps s0 (stopReceive s) := by
  unfold stopReceive
  repeat' first
    | with_reducible assumption
    | with_reducible apply endAllCaptures_keeps
    | with_reducible apply stopRequests_keeps
    | with_reducible refine keeps.foldl _ _ ?_ (fun y a hy => ?_)
    | with_reducible apply keeps.ite
    | with_reducible apply keepsParts_of
    | simp only [keeps_mk]
    | dsimp only
    | split
    | (intro y hy)

theorem staleFloors_keeps {s0 : State} {s : State} (h0 : keeps s0 s) :
    keeps s0 (staleFloors s) := by
  unfold staleFloors
  repeat' first
    | with_reducible assumption
    | with_reducible refine keeps.foldl _ _ ?_ (fun y a hy => ?_)
    | with_reducible apply keeps.ite
    | with_reducible apply keepsParts_of
    | simp only [keeps_mk]
    | dsimp only
    | split
    | (intro y hy)

theorem staleBeams_keeps {s0 : State} (g : Nat) {s : State} (h0 : keeps s0 s) :
    keeps s0 (staleBeams g s) := by
  unfold staleBeams
  repeat' first
    | with_reducible assumption
    | with_reducible refine keeps.foldl _ _ ?_ (fun y a hy => ?_)
    | with_reducible apply keeps.ite
    | with_reducible apply keepsParts_of
    | simp only [keeps_mk]
    | dsimp only
    | split
    | (intro y hy)

theorem startReceive_keeps {s0 : State} {s : State} (h0 : keeps s0 s) :
    keeps s0 (startReceive s) := by
  unfold startReceive
  repeat' first
    | with_reducible assumption
    | with_reducible apply openErasure_keeps
    | with_reducible apply staleFloors_keeps
    | with_reducible refine keeps.foldl _ _ ?_ (fun y a hy => ?_)
    | with_reducible apply keeps.ite
    | with_reducible apply keepsParts_of
    | simp only [keeps_mk]
    | dsimp only
    | split
    | (intro y hy)

theorem settleOnce_keeps {s0 : State} {s : State} (h0 : keeps s0 s) :
    keeps s0 (settleOnce s) := by
  unfold settleOnce
  repeat' first
    | with_reducible assumption
    | with_reducible apply transition_keeps
    | with_reducible refine keeps.foldl _ _ ?_ (fun y a hy => ?_)
    | with_reducible apply keeps.ite
    | with_reducible apply keepsParts_of
    | simp only [keeps_mk]
    | dsimp only
    | split
    | (intro y hy)

theorem settleRelays_keeps {s0 : State} {s : State} (h0 : keeps s0 s) :
    keeps s0 (settleRelays s) := by
  unfold settleRelays
  repeat' first
    | with_reducible assumption
    | with_reducible refine keeps.foldl _ _ ?_ (fun y a hy => ?_)
    | with_reducible apply keeps.ite
    | with_reducible apply keepsParts_of
    | simp only [keeps_mk]
    | dsimp only
    | split
    | (intro y hy)

theorem settle_keeps {s0 : State} {s : State} (h0 : keeps s0 s) :
    keeps s0 (settle s) := by
  unfold settle
  repeat' first
    | with_reducible assumption
    | with_reducible apply settleRelays_keeps
    | with_reducible apply settleOnce_keeps
    | with_reducible refine keeps.foldl _ _ ?_ (fun y a hy => ?_)
    | with_reducible apply keeps.ite
    | with_reducible apply keepsParts_of
    | simp only [keeps_mk]
    | dsimp only
    | split
    | (intro y hy)

theorem dropLane_keeps {s0 : State} (l : Nat) {s : State} (h0 : keeps s0 s) :
    keeps s0 (dropLane l s) := by
  unfold dropLane
  repeat' first
    | with_reducible assumption
    | with_reducible apply modLane_keeps
    | with_reducible apply unlockLane_keeps
    | with_reducible refine keeps.foldl _ _ ?_ (fun y a hy => ?_)
    | with_reducible apply keeps.ite
    | with_reducible apply keepsParts_of
    | simp only [keeps_mk]
    | dsimp only
    | split
    | (intro y hy)

theorem dropLanes_keeps {s0 : State} {s : State} (h0 : keeps s0 s) :
    keeps s0 (dropLanes s) := by
  unfold dropLanes
  repeat' first
    | with_reducible assumption
    | with_reducible apply dropLane_keeps
    | with_reducible refine keeps.foldl _ _ ?_ (fun y a hy => ?_)
    | with_reducible apply keeps.ite
    | with_reducible apply keepsParts_of
    | simp only [keeps_mk]
    | dsimp only
    | split
    | (intro y hy)

theorem dropRadioLanes_keeps {s0 : State} {s : State} (h0 : keeps s0 s) :
    keeps s0 (dropRadioLanes s) := by
  unfold dropRadioLanes
  repeat' first
    | with_reducible assumption
    | with_reducible apply dropLane_keeps
    | with_reducible refine keeps.foldl _ _ ?_ (fun y a hy => ?_)
    | with_reducible apply keeps.ite
    | with_reducible apply keepsParts_of
    | simp only [keeps_mk]
    | dsimp only
    | split
    | (intro y hy)

theorem stopBursts_keeps {s0 : State} {s : State} (h0 : keeps s0 s) :
    keeps s0 (stopBursts s) := by
  unfold stopBursts
  repeat' first
    | with_reducible assumption
    | with_reducible apply clearTimeline_keeps
    | with_reducible apply stopAir_keeps
    | with_reducible refine keeps.foldl _ _ ?_ (fun y a hy => ?_)
    | with_reducible apply keeps.ite
    | with_reducible apply keepsParts_of
    | simp only [keeps_mk]
    | dsimp only
    | split
    | (intro y hy)

theorem loseReference_keeps {s0 : State} {s : State} (h0 : keeps s0 s) :
    keeps s0 (loseReference s) := by
  unfold loseReference
  repeat' first
    | with_reducible assumption
    | with_reducible apply stopBursts_keeps
    | with_reducible apply dropLanes_keeps
    | with_reducible apply stopReceive_keeps
    | with_reducible apply moveSupply_keeps
    | with_reducible refine keeps.foldl _ _ ?_ (fun y a hy => ?_)
    | with_reducible apply keeps.ite
    | with_reducible apply keepsParts_of
    | simp only [keeps_mk]
    | dsimp only
    | split
    | (intro y hy)

theorem setQuiet_keeps {s0 : State} {s : State} (h0 : keeps s0 s) :
    keeps s0 (setQuiet s) := by
  unfold setQuiet
  repeat' first
    | with_reducible assumption
    | with_reducible apply stopBursts_keeps
    | with_reducible refine keeps.foldl _ _ ?_ (fun y a hy => ?_)
    | with_reducible apply keeps.ite
    | with_reducible apply keepsParts_of
    | simp only [keeps_mk]
    | dsimp only
    | split
    | (intro y hy)

theorem toStandby_keeps {s0 : State} (cause : Nat) {s : State} (h0 : keeps s0 s) :
    keeps s0 (toStandby cause s) := by
  unfold toStandby
  repeat' first
    | with_reducible assumption
    | with_reducible apply clearTimeline_keeps
    | with_reducible apply stopRequests_keeps
    | with_reducible apply transition_keeps
    | with_reducible refine keeps.foldl _ _ ?_ (fun y a hy => ?_)
    | with_reducible apply keeps.ite
    | with_reducible apply keepsParts_of
    | simp only [keeps_mk]
    | dsimp only
    | split
    | (intro y hy)

theorem stopTiles_keeps {s0 : State} {s : State} (h0 : keeps s0 s) :
    keeps s0 (stopTiles s) := by
  unfold stopTiles
  repeat' first
    | with_reducible assumption
    | with_reducible apply trapOp_keeps
    | with_reducible refine keeps.foldl _ _ ?_ (fun y a hy => ?_)
    | with_reducible apply keeps.ite
    | with_reducible apply keepsParts_of
    | simp only [keeps_mk]
    | dsimp only
    | split
    | (intro y hy)

theorem enterSafe_keeps {s0 : State} (cause : Nat) {s : State} (h0 : keeps s0 s) :
    keeps s0 (enterSafe cause s) := by
  unfold enterSafe
  repeat' first
    | with_reducible assumption
    | with_reducible apply stopBursts_keeps
    | with_reducible apply transition_keeps
    | with_reducible apply stopTiles_keeps
    | with_reducible apply stopReceive_keeps
    | with_reducible refine keeps.foldl _ _ ?_ (fun y a hy => ?_)
    | with_reducible apply keeps.ite
    | with_reducible apply keepsParts_of
    | simp only [keeps_mk]
    | dsimp only
    | split
    | (intro y hy)

theorem escalate_keeps {s0 : State} {s : State} (h0 : keeps s0 s) :
    keeps s0 (escalate s) := by
  unfold escalate
  repeat' first
    | with_reducible assumption
    | with_reducible apply enterSafe_keeps
    | with_reducible refine keeps.foldl _ _ ?_ (fun y a hy => ?_)
    | with_reducible apply keeps.ite
    | with_reducible apply keepsParts_of
    | simp only [keeps_mk]
    | dsimp only
    | split
    | (intro y hy)

theorem markSafeCause_keeps {s0 : State} (n : Nat) {s : State} (h0 : keeps s0 s) :
    keeps s0 (markSafeCause n s) := by
  unfold markSafeCause
  repeat' first
    | with_reducible assumption
    | with_reducible refine keeps.foldl _ _ ?_ (fun y a hy => ?_)
    | with_reducible apply keeps.ite
    | with_reducible apply keepsParts_of
    | simp only [keeps_mk]
    | dsimp only
    | split
    | (intro y hy)

theorem escalateWith_keeps {s0 : State} (b : ErrBody) {s : State} (h0 : keeps s0 s) :
    keeps s0 (escalateWith b s) := by
  unfold escalateWith
  repeat' first
    | with_reducible assumption
    | with_reducible apply escalate_keeps
    | with_reducible apply markSafeCause_keeps
    | with_reducible apply errRecord_keeps
    | with_reducible refine keeps.foldl _ _ ?_ (fun y a hy => ?_)
    | with_reducible apply keeps.ite
    | with_reducible apply keepsParts_of
    | simp only [keeps_mk]
    | dsimp only
    | split
    | (intro y hy)

theorem ringRecord_keeps {s0 : State} (r : JRec) {s : State} (h0 : keeps s0 s) :
    keeps s0 (ringRecord r s) := by
  unfold ringRecord
  repeat' first
    | with_reducible assumption
    | with_reducible refine keeps.foldl _ _ ?_ (fun y a hy => ?_)
    | with_reducible apply keeps.ite
    | with_reducible apply keepsParts_of
    | simp only [keeps_mk]
    | dsimp only
    | split
    | (intro y hy)

theorem drainItem_keeps {s0 : State} (x : StagedItem) {s : State} (h0 : keeps s0 s) :
    keeps s0 (drainItem x s) := by
  unfold drainItem
  repeat' first
    | with_reducible assumption
    | with_reducible apply ringRecord_keeps
    | with_reducible refine keeps.foldl _ _ ?_ (fun y a hy => ?_)
    | with_reducible apply keeps.ite
    | with_reducible apply keepsParts_of
    | simp only [keeps_mk]
    | dsimp only
    | split
    | (intro y hy)

theorem drainStaging_keeps {s0 : State} {s : State} (h0 : keeps s0 s) :
    keeps s0 (drainStaging s) := by
  unfold drainStaging
  repeat' first
    | with_reducible assumption
    | with_reducible apply drainItem_keeps
    | with_reducible refine keeps.foldl _ _ ?_ (fun y a hy => ?_)
    | with_reducible apply keeps.ite
    | with_reducible apply keepsParts_of
    | simp only [keeps_mk]
    | dsimp only
    | split
    | (intro y hy)

theorem closeGroups_keeps {s0 : State} {s : State} (h0 : keeps s0 s) :
    keeps s0 (closeGroups s) := by
  unfold closeGroups
  repeat' first
    | with_reducible assumption
    | with_reducible refine keeps.foldl _ _ ?_ (fun y a hy => ?_)
    | with_reducible apply keeps.ite
    | with_reducible apply keepsParts_of
    | simp only [keeps_mk]
    | dsimp only
    | split
    | (intro y hy)

theorem drainPrefect_keeps {s0 : State} {s : State} (h0 : keeps s0 s) :
    keeps s0 (drainPrefect s) := by
  unfold drainPrefect
  repeat' first
    | with_reducible assumption
    | with_reducible refine keeps.foldl _ _ ?_ (fun y a hy => ?_)
    | with_reducible apply keeps.ite
    | with_reducible apply keepsParts_of
    | simp only [keeps_mk]
    | dsimp only
    | split
    | (intro y hy)

theorem powerOffIslands_keeps {s0 : State} {s : State} (h0 : keeps s0 s) :
    keeps s0 (powerOffIslands s) := by
  unfold powerOffIslands
  repeat' first
    | with_reducible assumption
    | with_reducible refine keeps.foldl _ _ ?_ (fun y a hy => ?_)
    | with_reducible apply keeps.ite
    | with_reducible apply keepsParts_of
    | simp only [keeps_mk]
    | dsimp only
    | split
    | (intro y hy)

theorem lastGasp_keeps {s0 : State} (cause : Nat) {s : State} (h0 : keeps s0 s) : keeps s0 (lastGasp cause s) := by
  unfold lastGasp
  dsimp only
  rw [keeps_mk]
  apply keepsParts_of
  apply drainStaging_keeps
  generalize hr : powerOffIslands _ = u
  have hu : keeps s0 u := hr ▸ (by
    apply powerOffIslands_keeps
    apply stopReceive_keeps
    apply dropRadioLanes_keeps
    apply stopBursts_keeps
    apply settleRelays_keeps
    apply transition_keeps
    rw [keeps_mk]
    exact ⟨h0.pending, h0.mem, h0.seq⟩)
  generalize hv : closeGroups _ = v
  have h : keeps s0 v := hv ▸ (by
    apply closeGroups_keeps
    apply drainPrefect_keeps
    rw [keeps_mk]
    exact ⟨hu.pending, fun c => memWf_filter _ _ (hu.mem c), hu.seq⟩)
  split
  · exact keeps.ite (setOffice_keeps _ _ h) h
  · exact h

theorem setDrain_keeps {s0 : State} (l : Nat) (b : Bool) {s : State} (h0 : keeps s0 s) :
    keeps s0 (setDrain l b s) := by
  unfold setDrain
  repeat' first
    | with_reducible assumption
    | with_reducible refine keeps.foldl _ _ ?_ (fun y a hy => ?_)
    | with_reducible apply keeps.ite
    | with_reducible apply keepsParts_of
    | simp only [keeps_mk]
    | dsimp only
    | split
    | (intro y hy)

theorem setInvalid_keeps {s0 : State} (l : Nat) (b : Bool) {s : State} (h0 : keeps s0 s) :
    keeps s0 (setInvalid l b s) := by
  unfold setInvalid
  repeat' first
    | with_reducible assumption
    | with_reducible refine keeps.foldl _ _ ?_ (fun y a hy => ?_)
    | with_reducible apply keeps.ite
    | with_reducible apply keepsParts_of
    | simp only [keeps_mk]
    | dsimp only
    | split
    | (intro y hy)

theorem refreshCard_keeps {s0 : State} (u : Nat) {s : State} (h0 : keeps s0 s) :
    keeps s0 (refreshCard u s) := by
  unfold refreshCard
  repeat' first
    | with_reducible assumption
    | with_reducible apply setCard_keeps
    | with_reducible refine keeps.foldl _ _ ?_ (fun y a hy => ?_)
    | with_reducible apply keeps.ite
    | with_reducible apply keepsParts_of
    | simp only [keeps_mk]
    | dsimp only
    | split
    | (intro y hy)

theorem refreshPaces_keeps {s0 : State} {s : State} (h0 : keeps s0 s) :
    keeps s0 (refreshPaces s) := by
  unfold refreshPaces
  repeat' first
    | with_reducible assumption
    | with_reducible apply setIsland_keeps
    | with_reducible refine keeps.foldl _ _ ?_ (fun y a hy => ?_)
    | with_reducible apply keeps.ite
    | with_reducible apply keepsParts_of
    | simp only [keeps_mk]
    | dsimp only
    | split
    | (intro y hy)

theorem bindUnit_keeps {s0 : State} (l : Nat) (p : Nat) {s : State} (h0 : keeps s0 s) :
    keeps s0 (bindUnit l p s) := by
  unfold bindUnit
  repeat' first
    | with_reducible assumption
    | with_reducible apply closeErr_keeps
    | with_reducible apply refreshPaces_keeps
    | with_reducible apply setInvalid_keeps
    | with_reducible apply setDrain_keeps
    | with_reducible apply setPhys_keeps
    | with_reducible refine keeps.foldl _ _ ?_ (fun y a hy => ?_)
    | with_reducible apply keeps.ite
    | with_reducible apply keepsParts_of
    | simp only [keeps_mk]
    | dsimp only
    | split
    | (intro y hy)

theorem undefineCx_keeps {s0 : State} (t : Nat) {s : State} (h0 : keeps s0 s) :
    keeps s0 (undefineCx t s) := by
  unfold undefineCx
  repeat' first
    | with_reducible assumption
    | with_reducible apply modTile_keeps
    | with_reducible refine keeps.foldl _ _ ?_ (fun y a hy => ?_)
    | with_reducible apply keeps.ite
    | with_reducible apply keepsParts_of
    | simp only [keeps_mk]
    | dsimp only
    | split
    | (intro y hy)

theorem loadImage_keeps {s0 : State} (p : Nat) (l : Nat) (img : Image) {s : State} (h0 : keeps s0 s) :
    keeps s0 (loadImage p l img s) := by
  unfold loadImage
  repeat' first
    | with_reducible assumption
    | with_reducible apply undefineCx_keeps
    | with_reducible apply setTile_keeps
    | with_reducible refine keeps.foldl _ _ ?_ (fun y a hy => ?_)
    | with_reducible apply keeps.ite
    | with_reducible apply keepsParts_of
    | simp only [keeps_mk]
    | dsimp only
    | split
    | (intro y hy)

theorem trapServiceOf_keeps {s0 : State} (decoder : Bool) (p : Nat) {s : State} (h0 : keeps s0 s) :
    keeps s0 (trapServiceOf decoder p s) := by
  unfold trapServiceOf
  repeat' first
    | with_reducible assumption
    | with_reducible apply trapOp_keeps
    | with_reducible refine keeps.foldl _ _ ?_ (fun y a hy => ?_)
    | with_reducible apply keeps.ite
    | with_reducible apply keepsParts_of
    | simp only [keeps_mk]
    | dsimp only
    | split
    | (intro y hy)

theorem releasePassesOfNode_keeps {s0 : State} (n : Nat) {s : State} (h0 : keeps s0 s) :
    keeps s0 (releasePassesOfNode n s) := by
  unfold releasePassesOfNode
  repeat' first
    | with_reducible assumption
    | with_reducible apply forceRelease_keeps
    | with_reducible refine keeps.foldl _ _ ?_ (fun y a hy => ?_)
    | with_reducible apply keeps.ite
    | with_reducible apply keepsParts_of
    | simp only [keeps_mk]
    | dsimp only
    | split
    | (intro y hy)

theorem closePort_keeps {s0 : State} (d : Nat) {s : State} (h0 : keeps s0 s) :
    keeps s0 (closePort d s) := by
  unfold closePort
  repeat' first
    | with_reducible assumption
    | with_reducible apply setDomain_keeps
    | with_reducible refine keeps.foldl _ _ ?_ (fun y a hy => ?_)
    | with_reducible apply keeps.ite
    | with_reducible apply keepsParts_of
    | simp only [keeps_mk]
    | dsimp only
    | split
    | (intro y hy)

theorem fenceTile_keeps {s0 : State} (p : Nat) (ref : Nat) {s : State} (h0 : keeps s0 s) :
    keeps s0 (fenceTile p ref s) := by
  unfold fenceTile
  repeat' first
    | with_reducible assumption
    | with_reducible apply emit_keeps
    | with_reducible apply listFence_keeps
    | with_reducible apply releasePassesOfNode_keeps
    | with_reducible apply trapServiceOf_keeps
    | with_reducible apply modTile_keeps
    | with_reducible apply closePort_keeps
    | with_reducible apply setInvalid_keeps
    | with_reducible apply setDrain_keeps
    | with_reducible refine keeps.foldl _ _ ?_ (fun y a hy => ?_)
    | with_reducible apply keeps.ite
    | with_reducible apply keepsParts_of
    | simp only [keeps_mk]
    | dsimp only
    | split
    | (intro y hy)

theorem fenceDecoder_keeps {s0 : State} (u : Nat) (ref : Nat) {s : State} (h0 : keeps s0 s) :
    keeps s0 (fenceDecoder u ref s) := by
  unfold fenceDecoder
  repeat' first
    | with_reducible assumption
    | with_reducible apply closePort_keeps
    | with_reducible apply trapServiceOf_keeps
    | with_reducible apply listFence_keeps
    | with_reducible apply bindUnit_keeps
    | with_reducible apply setInvalid_keeps
    | with_reducible apply setDrain_keeps
    | with_reducible refine keeps.foldl _ _ ?_ (fun y a hy => ?_)
    | with_reducible apply keeps.ite
    | with_reducible apply keepsParts_of
    | simp only [keeps_mk]
    | dsimp only
    | split
    | (intro y hy)

theorem fenceEngine_keeps {s0 : State} (e : Nat) (ref : Nat) {s : State} (h0 : keeps s0 s) :
    keeps s0 (fenceEngine e ref s) := by
  unfold fenceEngine
  repeat' first
    | with_reducible assumption
    | with_reducible apply forceRelease_keeps
    | with_reducible apply listFence_keeps
    | with_reducible apply setEngine_keeps
    | with_reducible apply closePort_keeps
    | with_reducible refine keeps.foldl _ _ ?_ (fun y a hy => ?_)
    | with_reducible apply keeps.ite
    | with_reducible apply keepsParts_of
    | simp only [keeps_mk]
    | dsimp only
    | split
    | (intro y hy)

theorem dropUnanswered_keeps {s0 : State} {s : State} (h0 : keeps s0 s) :
    keeps s0 (dropUnanswered s) := by
  unfold dropUnanswered
  repeat' first
    | with_reducible assumption
    | with_reducible refine keeps.foldl _ _ ?_ (fun y a hy => ?_)
    | with_reducible apply keeps.ite
    | with_reducible apply keepsParts_of
    | simp only [keeps_mk]
    | dsimp only
    | split
    | (intro y hy)

theorem fencePair_keeps {s0 : State} (p : Nat) (ref : Nat) {s : State} (h0 : keeps s0 s) :
    keeps s0 (fencePair p ref s) := by
  unfold fencePair
  repeat' first
    | with_reducible assumption
    | with_reducible apply dropUnanswered_keeps
    | with_reducible apply setOffice_keeps
    | with_reducible apply listFence_keeps
    | with_reducible apply escalate_keeps
    | with_reducible apply markSafeCause_keeps
    | with_reducible refine keeps.foldl _ _ ?_ (fun y a hy => ?_)
    | with_reducible apply keeps.ite
    | with_reducible apply keepsParts_of
    | simp only [keeps_mk]
    | dsimp only
    | split
    | (intro y hy)

theorem fenceUnit_keeps {s0 : State} (u : Nat) (ref : Nat) {s : State} (h0 : keeps s0 s) :
    keeps s0 (fenceUnit u ref s) := by
  unfold fenceUnit
  repeat' first
    | with_reducible assumption
    | with_reducible apply fenceTile_keeps
    | with_reducible apply fenceDecoder_keeps
    | with_reducible apply fenceEngine_keeps
    | with_reducible apply fencePair_keeps
    | with_reducible apply escalate_keeps
    | with_reducible apply markSafeCause_keeps
    | with_reducible apply listFence_keeps
    | with_reducible refine keeps.foldl _ _ ?_ (fun y a hy => ?_)
    | with_reducible apply keeps.ite
    | with_reducible apply keepsParts_of
    | simp only [keeps_mk]
    | dsimp only
    | split
    | (intro y hy)

theorem failTest_keeps {s0 : State} (u : Nat) (parent : Nat) {s : State} (h0 : keeps s0 s) :
    keeps s0 (failTest u parent s) := by
  unfold failTest
  repeat' first
    | with_reducible assumption
    | with_reducible apply fenceUnit_keeps
    | with_reducible apply errRecord_keeps
    | with_reducible refine keeps.foldl _ _ ?_ (fun y a hy => ?_)
    | with_reducible apply keeps.ite
    | with_reducible apply keepsParts_of
    | simp only [keeps_mk]
    | dsimp only
    | split
    | (intro y hy)

theorem moveTile_keeps {s0 : State} (l : Nat) (p : Nat) (img : Image) {s : State} (h0 : keeps s0 s) :
    keeps s0 (moveTile l p img s) := by
  unfold moveTile
  repeat' first
    | with_reducible assumption
    | with_reducible apply loadImage_keeps
    | with_reducible apply modTile_keeps
    | with_reducible apply releasePassesOfNode_keeps
    | with_reducible apply bindUnit_keeps
    | with_reducible refine keeps.foldl _ _ ?_ (fun y a hy => ?_)
    | with_reducible apply keeps.ite
    | with_reducible apply keepsParts_of
    | simp only [keeps_mk]
    | dsimp only
    | split
    | (intro y hy)

theorem failSubstitutes_keeps {s0 : State} (parent : Nat) (l : List Nat) {s : State} (h0 : keeps s0 s) :
    keeps s0 (failSubstitutes parent l s) := by
  induction l generalizing s with
  | nil => exact h0
  | cons p t ih => exact ih (keeps.ite (failTest_keeps _ _ h0) h0)

theorem traceFlit_keeps {s0 : State} (i : Nat) (hdr : Nat) {s : State} (h0 : keeps s0 s) :
    keeps s0 (traceFlit i hdr s) := by
  unfold traceFlit
  repeat' first
    | with_reducible assumption
    | with_reducible refine keeps.foldl _ _ ?_ (fun y a hy => ?_)
    | with_reducible apply keeps.ite
    | with_reducible apply keepsParts_of
    | simp only [keeps_mk]
    | dsimp only
    | split
    | (intro y hy)

theorem probeHop_keeps {s0 : State} (hdr : Nat) (vc : Nat) (h : Hop) (i : Nat) {s : State} (h0 : keeps s0 s) :
    keeps s0 (probeHop hdr vc h i s) := by
  unfold probeHop
  repeat' first
    | with_reducible assumption
    | with_reducible apply traceFlit_keeps
    | with_reducible refine keeps.foldl _ _ ?_ (fun y a hy => ?_)
    | with_reducible apply keeps.ite
    | with_reducible apply keepsParts_of
    | simp only [keeps_mk]
    | dsimp only
    | split
    | (intro y hy)

theorem passPacket_keeps {s0 : State} (path : List Hop) (hdr : Nat) (vc : Nat) (flits : Nat) {s : State} (h0 : keeps s0 s) :
    keeps s0 (passPacket path hdr vc flits s) := by
  unfold passPacket
  repeat' first
    | with_reducible assumption
    | with_reducible apply probeHop_keeps
    | with_reducible refine keeps.foldl _ _ ?_ (fun y a hy => ?_)
    | with_reducible apply keeps.ite
    | with_reducible apply keepsParts_of
    | simp only [keeps_mk]
    | dsimp only
    | split
    | (intro y hy)

theorem passRequest_keeps {s0 : State} (f : Flit) (good : Bool) {s : State} (h0 : keeps s0 s) :
    keeps s0 (passRequest f good s) := by
  unfold passRequest
  repeat' first
    | with_reducible assumption
    | with_reducible apply passPacket_keeps
    | with_reducible refine keeps.foldl _ _ ?_ (fun y a hy => ?_)
    | with_reducible apply keeps.ite
    | with_reducible apply keepsParts_of
    | simp only [keeps_mk]
    | dsimp only
    | split
    | (intro y hy)

theorem passResponse_keeps {s0 : State} (f : Flit) (st : Status) {s : State} (h0 : keeps s0 s) :
    keeps s0 (passResponse f st s) := by
  unfold passResponse
  repeat' first
    | with_reducible assumption
    | with_reducible apply passPacket_keeps
    | with_reducible refine keeps.foldl _ _ ?_ (fun y a hy => ?_)
    | with_reducible apply keeps.ite
    | with_reducible apply keepsParts_of
    | simp only [keeps_mk]
    | dsimp only
    | split
    | (intro y hy)

theorem refuseChannel_keeps {s0 : State} (c : Nat) {s : State} (h0 : keeps s0 s) :
    keeps s0 (refuseChannel c s) := by
  unfold refuseChannel
  repeat' first
    | with_reducible assumption
    | with_reducible apply setChannel_keeps
    | with_reducible refine keeps.foldl _ _ ?_ (fun y a hy => ?_)
    | with_reducible apply keeps.ite
    | with_reducible apply keepsParts_of
    | simp only [keeps_mk]
    | dsimp only
    | split
    | (intro y hy)

theorem channelEvent_keeps {s0 : State} (c : Nat) {s : State} (h0 : keeps s0 s) :
    keeps s0 (channelEvent c s) := by
  unfold channelEvent
  repeat' first
    | with_reducible assumption
    | with_reducible apply setChannel_keeps
    | with_reducible refine keeps.foldl _ _ ?_ (fun y a hy => ?_)
    | with_reducible apply keeps.ite
    | with_reducible apply keepsParts_of
    | simp only [keeps_mk]
    | dsimp only
    | split
    | (intro y hy)

theorem writeCtrl_keeps {s0 : State} (c : Nat) (w : Nat) {s : State} (h0 : keeps s0 s) :
    keeps s0 (writeCtrl c w s) := by
  unfold writeCtrl
  repeat' first
    | with_reducible assumption
    | with_reducible apply refuseChannel_keeps
    | with_reducible apply setChannel_keeps
    | with_reducible refine keeps.foldl _ _ ?_ (fun y a hy => ?_)
    | with_reducible apply keeps.ite
    | with_reducible apply keepsParts_of
    | simp only [keeps_mk]
    | dsimp only
    | split
    | (intro y hy)

theorem writeOwner_keeps {s0 : State} (c : Nat) (w : Nat) {s : State} (h0 : keeps s0 s) :
    keeps s0 (writeOwner c w s) := by
  unfold writeOwner
  repeat' first
    | with_reducible assumption
    | with_reducible apply refuseChannel_keeps
    | with_reducible apply setChannel_keeps
    | with_reducible refine keeps.foldl _ _ ?_ (fun y a hy => ?_)
    | with_reducible apply keeps.ite
    | with_reducible apply keepsParts_of
    | simp only [keeps_mk]
    | dsimp only
    | split
    | (intro y hy)

theorem writeChannelWord_keeps {s0 : State} (c : Nat) (off : Nat) (w : Nat) {s : State} (h0 : keeps s0 s) :
    keeps s0 (writeChannelWord c off w s) := by
  unfold writeChannelWord
  repeat' first
    | with_reducible assumption
    | with_reducible apply writeCtrl_keeps
    | with_reducible apply channelEvent_keeps
    | with_reducible apply refuseChannel_keeps
    | with_reducible apply setChannel_keeps
    | with_reducible apply writeOwner_keeps
    | with_reducible refine keeps.foldl _ _ ?_ (fun y a hy => ?_)
    | with_reducible apply keeps.ite
    | with_reducible apply keepsParts_of
    | simp only [keeps_mk]
    | dsimp only
    | split
    | (intro y hy)

theorem channelWrite_keeps {s0 : State} (who : Nat) (c : Nat) (off : Nat) (bs : List (BitVec 8)) {s : State} (h0 : keeps s0 s) :
    keeps s0 (channelWrite who c off bs s).1 := by
  unfold channelWrite
  repeat' first
    | with_reducible assumption
    | with_reducible apply refuseChannel_keeps
    | with_reducible apply writeChannelWord_keeps
    | with_reducible refine keeps.foldl _ _ ?_ (fun y a hy => ?_)
    | with_reducible apply keeps.ite
    | with_reducible apply keepsParts_of
    | simp only [keeps_mk]
    | dsimp only
    | split
    | (intro y hy)

theorem serveRead_keeps {s0 : State} (who : Nat) (addr : Nat) (n : Nat) {s : State} (h0 : keeps s0 s) :
    keeps s0 (serveRead who addr n s).1 := by
  unfold serveRead
  repeat' first
    | with_reducible assumption
    | with_reducible apply countAsleep_keeps
    | with_reducible apply engineRead_keeps
    | with_reducible apply meshRead_keeps
    | with_reducible refine keeps.foldl _ _ ?_ (fun y a hy => ?_)
    | with_reducible apply keeps.ite
    | with_reducible apply keepsParts_of
    | simp only [keeps_mk]
    | dsimp only
    | split
    | (intro y hy)

theorem serveWrite_keeps {s0 : State} (who addr : Nat) (bs : List (BitVec 8)) {s : State} (h0 : keeps s0 s) :
    keeps s0 (serveWrite who addr bs s).1 := by
  unfold serveWrite
  dsimp only
  split
  · exact countAsleep_keeps _ h0
  · split
    · split
      · refine keeps.foldl2 _ _ h0 (fun y p hy => ?_)
        split
        · exact hy
        · exact channelWrite_keeps _ _ _ _ hy
      · exact h0
    · split
      · split
        · exact engineWrite_keeps _ _ _ _ h0
        · exact h0
      · exact meshWrite_keeps _ _ h0

theorem chooseTid_keeps {s0 : State} (who : Nat) {s : State} (h0 : keeps s0 s) :
    keeps s0 (chooseTid who s).2 := by
  unfold chooseTid
  repeat' first
    | with_reducible assumption
    | with_reducible apply drawFree_keeps
    | with_reducible refine keeps.foldl _ _ ?_ (fun y a hy => ?_)
    | with_reducible apply keeps.ite
    | with_reducible apply keepsParts_of
    | simp only [keeps_mk]
    | dsimp only
    | split
    | (intro y hy)

theorem readTxn_keeps {s0 : State} (who : Nat) (addr : Nat) (n : Nat) {s : State} (h0 : keeps s0 s) :
    keeps s0 (readTxn who addr n s).1 := by
  unfold readTxn
  repeat' first
    | with_reducible assumption
    | with_reducible apply chooseTid_keeps
    | with_reducible apply passRequest_keeps
    | with_reducible apply serveRead_keeps
    | with_reducible apply passResponse_keeps
    | with_reducible refine keeps.foldl _ _ ?_ (fun y a hy => ?_)
    | with_reducible apply keeps.ite
    | with_reducible apply keepsParts_of
    | simp only [keeps_mk]
    | dsimp only
    | split
    | (intro y hy)

theorem writeTxn_keeps {s0 : State} (who : Nat) (addr : Nat) (bs : List (BitVec 8)) {s : State} (h0 : keeps s0 s) :
    keeps s0 (writeTxn who addr bs s).1 := by
  unfold writeTxn
  repeat' first
    | with_reducible assumption
    | with_reducible apply chooseTid_keeps
    | with_reducible apply passRequest_keeps
    | with_reducible apply serveWrite_keeps
    | with_reducible apply passResponse_keeps
    | with_reducible refine keeps.foldl _ _ ?_ (fun y a hy => ?_)
    | with_reducible apply keeps.ite
    | with_reducible apply keepsParts_of
    | simp only [keeps_mk]
    | dsimp only
    | split
    | (intro y hy)

theorem readSplit_keeps {s0 : State} (who : Nat) (addr : Nat) (n : Nat) {s : State} (h0 : keeps s0 s) :
    keeps s0 (readSplit who addr n s).1 := by
  unfold readSplit
  repeat' first
    | with_reducible assumption
    | with_reducible apply readTxn_keeps
    | with_reducible refine keeps.foldl _ _ ?_ (fun y a hy => ?_)
    | with_reducible apply keeps.ite
    | with_reducible apply keepsParts_of
    | simp only [keeps_mk]
    | dsimp only
    | split
    | (intro y hy)

theorem writeSplit_keeps {s0 : State} (who : Nat) (addr : Nat) (bs : List (BitVec 8)) {s : State} (h0 : keeps s0 s) :
    keeps s0 (writeSplit who addr bs s).1 := by
  unfold writeSplit
  repeat' first
    | with_reducible assumption
    | with_reducible apply writeTxn_keeps
    | with_reducible refine keeps.foldl _ _ ?_ (fun y a hy => ?_)
    | with_reducible apply keeps.ite
    | with_reducible apply keepsParts_of
    | simp only [keeps_mk]
    | dsimp only
    | split
    | (intro y hy)

theorem readElem_keeps {s0 : State} (who : Nat) (d : Desc) (i : Nat) {s : State} (h0 : keeps s0 s) :
    keeps s0 (readElem who d i s).1 := by
  unfold readElem
  repeat' first
    | with_reducible assumption
    | with_reducible apply readTxn_keeps
    | with_reducible apply readSplit_keeps
    | with_reducible refine keeps.foldl _ _ ?_ (fun y a hy => ?_)
    | with_reducible apply keeps.ite
    | with_reducible apply keepsParts_of
    | simp only [keeps_mk]
    | dsimp only
    | split
    | (intro y hy)

theorem strayWrites_keeps {s0 : State} (who : Nat) (d : Desc) (bits n i : Nat) {s : State} (h0 : keeps s0 s) :
    keeps s0 (strayWrites who d bits n i s) := by
  induction n generalizing i s with
  | zero => exact h0
  | succ n ih =>
    unfold strayWrites
    have h := readElem_keeps who d i h0
    generalize readElem who d i s = r at h
    obtain ⟨t, st, dst, bs⟩ := r
    dsimp only at h ⊢
    refine keeps.ite (ih _ (keeps.ite (writeSplit_keeps _ _ _ h) h)) (ih _ h0)

theorem pulse_keeps {s0 : State} (c : Nat) (index : Nat) {s : State} (h0 : keeps s0 s) :
    keeps s0 (pulse c index s) := by
  unfold pulse
  repeat' first
    | with_reducible assumption
    | with_reducible apply raisePort_keeps
    | with_reducible apply channelEvent_keeps
    | with_reducible refine keeps.foldl _ _ ?_ (fun y a hy => ?_)
    | with_reducible apply keeps.ite
    | with_reducible apply keepsParts_of
    | simp only [keeps_mk]
    | dsimp only
    | split
    | (intro y hy)

theorem endDesc_keeps {s0 : State} (c : Nat) (d : Desc) (writeBack : Bool) (st : Status) (failIdx : Nat) {s : State} (h0 : keeps s0 s) :
    keeps s0 (endDesc c d writeBack st failIdx s) := by
  unfold endDesc
  repeat' first
    | with_reducible assumption
    | with_reducible apply writeTxn_keeps
    | with_reducible apply setChannel_keeps
    | with_reducible apply detain_keeps
    | with_reducible apply pulse_keeps
    | with_reducible refine keeps.foldl _ _ ?_ (fun y a hy => ?_)
    | with_reducible apply keeps.ite
    | with_reducible apply keepsParts_of
    | simp only [keeps_mk]
    | dsimp only
    | split
    | (intro y hy)

theorem failDesc_keeps {s0 : State} (init : Nat) (elem : Nat) (isWrite : Bool) (st : Status) {s : State} (h0 : keeps s0 s) :
    keeps s0 (failDesc init elem isWrite st s) := by
  unfold failDesc
  repeat' first
    | with_reducible assumption
    | with_reducible apply setChannel_keeps
    | with_reducible refine keeps.foldl _ _ ?_ (fun y a hy => ?_)
    | with_reducible apply keeps.ite
    | with_reducible apply keepsParts_of
    | simp only [keeps_mk]
    | dsimp only
    | split
    | (intro y hy)

theorem postedResponse_keeps {s0 : State} (t : Nat) (st : Status) (addr : Nat) {s : State} (h0 : keeps s0 s) :
    keeps s0 (postedResponse t st addr s) := by
  unfold postedResponse
  repeat' first
    | with_reducible assumption
    | with_reducible apply setTile_keeps
    | with_reducible apply errRecord_keeps
    | with_reducible refine keeps.foldl _ _ ?_ (fun y a hy => ?_)
    | with_reducible apply keeps.ite
    | with_reducible apply keepsParts_of
    | simp only [keeps_mk]
    | dsimp only
    | split
    | (intro y hy)

theorem castVote_keeps {s0 : State} (d : Nat) (client : Nat) (v : Bool) {s : State} (h0 : keeps s0 s) :
    keeps s0 (castVote d client v s) := by
  unfold castVote
  repeat' first
    | with_reducible assumption
    | with_reducible apply setDomain_keeps
    | with_reducible refine keeps.foldl _ _ ?_ (fun y a hy => ?_)
    | with_reducible apply keeps.ite
    | with_reducible apply keepsParts_of
    | simp only [keeps_mk]
    | dsimp only
    | split
    | (intro y hy)

theorem sleepDomain_keeps {s0 : State} (d : Nat) {s : State} (h0 : keeps s0 s) :
    keeps s0 (sleepDomain d s) := by
  unfold sleepDomain
  repeat' first
    | with_reducible assumption
    | with_reducible apply setDomain_keeps
    | with_reducible apply setTile_keeps
    | with_reducible refine keeps.foldl _ _ ?_ (fun y a hy => ?_)
    | with_reducible apply keeps.ite
    | with_reducible apply keepsParts_of
    | simp only [keeps_mk]
    | dsimp only
    | split
    | (intro y hy)

theorem restoreTile_keeps {s0 : State} (t : Nat) (l : List Nat) {s : State} (h0 : keeps s0 s) :
    keeps s0 (restoreTile t l s) := by
  unfold restoreTile
  repeat' first
    | with_reducible assumption
    | with_reducible apply modTile_keeps
    | with_reducible refine keeps.foldl _ _ ?_ (fun y a hy => ?_)
    | with_reducible apply keeps.ite
    | with_reducible apply keepsParts_of
    | simp only [keeps_mk]
    | dsimp only
    | split
    | (intro y hy)

theorem wakeDomain_keeps {s0 : State} (d : Nat) {s : State} (h0 : keeps s0 s) :
    keeps s0 (wakeDomain d s) := by
  unfold wakeDomain
  repeat' first
    | with_reducible assumption
    | with_reducible apply restoreTile_keeps
    | with_reducible apply loadImage_keeps
    | with_reducible apply setDomain_keeps
    | with_reducible refine keeps.foldl _ _ ?_ (fun y a hy => ?_)
    | with_reducible apply keeps.ite
    | with_reducible apply keepsParts_of
    | simp only [keeps_mk]
    | dsimp only
    | split
    | (intro y hy)

theorem writeDomain_keeps {s0 : State} (d : Nat) (v : Nat) {s : State} (h0 : keeps s0 s) :
    keeps s0 (writeDomain d v s).1 := by
  unfold writeDomain
  repeat' first
    | with_reducible assumption
    | with_reducible apply setDomain_keeps
    | with_reducible refine keeps.foldl _ _ ?_ (fun y a hy => ?_)
    | with_reducible apply keeps.ite
    | with_reducible apply keepsParts_of
    | simp only [keeps_mk]
    | dsimp only
    | split
    | (intro y hy)

theorem takeSnap_keeps {s0 : State} {s : State} (h0 : keeps s0 s) :
    keeps s0 (takeSnap s) := by
  unfold takeSnap
  repeat' first
    | with_reducible assumption
    | with_reducible refine keeps.foldl _ _ ?_ (fun y a hy => ?_)
    | with_reducible apply keeps.ite
    | with_reducible apply keepsParts_of
    | simp only [keeps_mk]
    | dsimp only
    | split
    | (intro y hy)

theorem applyStaged_keeps {s0 : State} {s : State} (h0 : keeps s0 s) :
    keeps s0 (applyStaged s) := by
  unfold applyStaged
  repeat' first
    | with_reducible assumption
    | with_reducible apply putSetting_keeps
    | with_reducible refine keeps.foldl _ _ ?_ (fun y a hy => ?_)
    | with_reducible apply keeps.ite
    | with_reducible apply keepsParts_of
    | simp only [keeps_mk]
    | dsimp only
    | split
    | (intro y hy)

theorem missRecord_keeps {s0 : State} (b : Nat) {s : State} (h0 : keeps s0 s) :
    keeps s0 (missRecord b s) := by
  unfold missRecord
  repeat' first
    | with_reducible assumption
    | with_reducible apply errRecord_keeps
    | with_reducible refine keeps.foldl _ _ ?_ (fun y a hy => ?_)
    | with_reducible apply keeps.ite
    | with_reducible apply keepsParts_of
    | simp only [keeps_mk]
    | dsimp only
    | split
    | (intro y hy)

theorem cancelArmed_keeps {s0 : State} (armed : List Nat) {s : State} (h0 : keeps s0 s) :
    keeps s0 (cancelArmed armed s) := by
  unfold cancelArmed
  repeat' first
    | with_reducible assumption
    | with_reducible apply missRecord_keeps
    | with_reducible refine keeps.foldl _ _ ?_ (fun y a hy => ?_)
    | with_reducible apply keeps.ite
    | with_reducible apply keepsParts_of
    | simp only [keeps_mk]
    | dsimp only
    | split
    | (intro y hy)

theorem dropTimebase_keeps {s0 : State} {s : State} (h0 : keeps s0 s) :
    keeps s0 (dropTimebase s) := by
  unfold dropTimebase
  repeat' first
    | with_reducible assumption
    | with_reducible refine keeps.foldl _ _ ?_ (fun y a hy => ?_)
    | with_reducible apply keeps.ite
    | with_reducible apply keepsParts_of
    | simp only [keeps_mk]
    | dsimp only
    | split
    | (intro y hy)

theorem bootUnits_keeps {s0 : State} (warm : Bool) {s : State} (h0 : keeps s0 s) : keeps s0 (bootUnits warm s) := by
  unfold bootUnits
  dsimp only
  have h := applyStaged_keeps (dropTimebase_keeps h0)
  generalize applyStaged (dropTimebase s) = u at h
  refine keeps.foldl _ _ ?_ (fun y d hy => ?_)
  · rw [keeps_mk]
    refine ⟨h.pending, fun c => memWf_filter _ _ (h.mem c), fun n => ?_⟩
    obtain ⟨a, b, c, d, e, f, g⟩ := h.seq n
    exact ⟨a, b, c, f, g, seqAdd_ok _ _, seqAdd_ok _ _⟩
  · split
    · split
      · exact closePort_keeps _ (modTile_keeps _ _ hy)
      · split
        · exact closePort_keeps _ hy
        · split
          · exact closePort_keeps _ hy
          · exact hy
    · exact hy

theorem coldClocks_keeps {s0 : State} {s : State} (h0 : keeps s0 s) :
    keeps s0 (coldClocks s) := by
  unfold coldClocks
  repeat' first
    | with_reducible assumption
    | with_reducible refine keeps.foldl _ _ ?_ (fun y a hy => ?_)
    | with_reducible apply keeps.ite
    | with_reducible apply keepsParts_of
    | simp only [keeps_mk]
    | dsimp only
    | split
    | (intro y hy)

theorem selfTest_keeps {s0 : State} (warm : Bool) (f : BootFacts) {s : State} (h0 : keeps s0 s) :
    keeps s0 (selfTest warm f s) := by
  unfold selfTest
  repeat' first
    | with_reducible assumption
    | with_reducible apply failTest_keeps
    | with_reducible apply refreshCard_keeps
    | with_reducible refine keeps.foldl _ _ ?_ (fun y a hy => ?_)
    | with_reducible apply keeps.ite
    | with_reducible apply keepsParts_of
    | simp only [keeps_mk]
    | dsimp only
    | split
    | (intro y hy)

theorem bootFails_keeps {s0 : State} (b : ErrBody) {s : State} (h0 : keeps s0 s) :
    keeps s0 (bootFails b s) := by
  unfold bootFails
  repeat' first
    | with_reducible assumption
    | with_reducible apply enterSafe_keeps
    | with_reducible apply markSafeCause_keeps
    | with_reducible apply errRecord_keeps
    | with_reducible refine keeps.foldl _ _ ?_ (fun y a hy => ?_)
    | with_reducible apply keeps.ite
    | with_reducible apply keepsParts_of
    | simp only [keeps_mk]
    | dsimp only
    | split
    | (intro y hy)

theorem markUnsealed_keeps {s0 : State} {s : State} (h0 : keeps s0 s) :
    keeps s0 (markUnsealed s) := by
  unfold markUnsealed
  repeat' first
    | with_reducible assumption
    | with_reducible refine keeps.foldl _ _ ?_ (fun y a hy => ?_)
    | with_reducible apply keeps.ite
    | with_reducible apply keepsParts_of
    | simp only [keeps_mk]
    | dsimp only
    | split
    | (intro y hy)

theorem sealCheck_keeps {s0 : State} (f : BootFacts) (found : Nat) {s : State} (h0 : keeps s0 s) :
    keeps s0 (sealCheck f found s) := by
  unfold sealCheck
  repeat' first
    | with_reducible assumption
    | with_reducible apply markUnsealed_keeps
    | with_reducible refine keeps.foldl _ _ ?_ (fun y a hy => ?_)
    | with_reducible apply keeps.ite
    | with_reducible apply keepsParts_of
    | simp only [keeps_mk]
    | dsimp only
    | split
    | (intro y hy)

theorem restoreRoll_keeps {s0 : State} (lost : List (Nat × Nat × Nat)) {s : State} (h0 : keeps s0 s) :
    keeps s0 (restoreRoll lost s) := by
  unfold restoreRoll
  repeat' first
    | with_reducible assumption
    | with_reducible apply wipeKey_keeps
    | with_reducible refine keeps.foldl _ _ ?_ (fun y a hy => ?_)
    | with_reducible apply keeps.ite
    | with_reducible apply keepsParts_of
    | simp only [keeps_mk]
    | dsimp only
    | split
    | (intro y hy)

theorem markLost_keeps {s0 : State} (l : List (Nat × Nat × Nat)) {s : State} (h0 : keeps s0 s) :
    keeps s0 (markLost l s) := by
  unfold markLost
  repeat' first
    | with_reducible assumption
    | with_reducible refine keeps.foldl _ _ ?_ (fun y a hy => ?_)
    | with_reducible apply keeps.ite
    | with_reducible apply keepsParts_of
    | simp only [keeps_mk]
    | dsimp only
    | split
    | (intro y hy)

theorem endAllDeferred_keeps {s0 : State} {s : State} (h0 : keeps s0 s) :
    keeps s0 (endAllDeferred s) := by
  unfold endAllDeferred
  repeat' first
    | with_reducible assumption
    | with_reducible apply endDeferred_keeps
    | with_reducible refine keeps.foldl _ _ ?_ (fun y a hy => ?_)
    | with_reducible apply keeps.ite
    | with_reducible apply keepsParts_of
    | simp only [keeps_mk]
    | dsimp only
    | split
    | (intro y hy)

theorem restoreHeld_keeps {s0 : State} (vi : Nat) {s : State} (h0 : keeps s0 s) :
    keeps s0 (restoreHeld vi s) := by
  unfold restoreHeld
  repeat' first
    | with_reducible assumption
    | with_reducible refine keeps.foldl _ _ ?_ (fun y a hy => ?_)
    | with_reducible apply keeps.ite
    | with_reducible apply keepsParts_of
    | simp only [keeps_mk]
    | dsimp only
    | split
    | (intro y hy)

theorem restoreVerdicts_keeps {s0 : State} {s : State} (h0 : keeps s0 s) :
    keeps s0 (restoreVerdicts s) := by
  unfold restoreVerdicts
  repeat' first
    | with_reducible assumption
    | with_reducible apply restoreHeld_keeps
    | with_reducible refine keeps.foldl _ _ ?_ (fun y a hy => ?_)
    | with_reducible apply keeps.ite
    | with_reducible apply keepsParts_of
    | simp only [keeps_mk]
    | dsimp only
    | split
    | (intro y hy)

theorem fenceImages_keeps {s0 : State} (warm : Bool) (f : BootFacts) {s : State} (h0 : keeps s0 s) :
    keeps s0 (fenceImages warm f s) := by
  unfold fenceImages
  repeat' first
    | with_reducible assumption
    | with_reducible apply failTest_keeps
    | with_reducible refine keeps.foldl _ _ ?_ (fun y a hy => ?_)
    | with_reducible apply keeps.ite
    | with_reducible apply keepsParts_of
    | simp only [keeps_mk]
    | dsimp only
    | split
    | (intro y hy)

theorem startPairs_keeps {s0 : State} (b : Nat) {s : State} (h0 : keeps s0 s) :
    keeps s0 (startPairs b s) := by
  unfold startPairs
  repeat' first
    | with_reducible assumption
    | with_reducible apply setOffice_keeps
    | with_reducible refine keeps.foldl _ _ ?_ (fun y a hy => ?_)
    | with_reducible apply keeps.ite
    | with_reducible apply keepsParts_of
    | simp only [keeps_mk]
    | dsimp only
    | split
    | (intro y hy)

theorem startBoot_keeps {s0 : State} (warm : Bool) (cause : Nat) (f : BootFacts) {s : State} (h0 : keeps s0 s) :
    keeps s0 (startBoot warm cause f s) := by
  unfold startBoot
  repeat' first
    | with_reducible assumption
    | with_reducible apply coldClocks_keeps
    | with_reducible apply bootUnits_keeps
    | with_reducible apply transition_keeps
    | with_reducible apply settleRelays_keeps
    | with_reducible apply cancelArmed_keeps
    | with_reducible apply selfTest_keeps
    | with_reducible apply bootFails_keeps
    | with_reducible apply takeSnap_keeps
    | with_reducible apply startPairs_keeps
    | with_reducible apply fenceImages_keeps
    | with_reducible apply restoreRoll_keeps
    | with_reducible apply sealCheck_keeps
    | with_reducible apply recordTransition_keeps
    | with_reducible apply restoreVerdicts_keeps
    | with_reducible apply endAllDeferred_keeps
    | with_reducible apply markLost_keeps
    | with_reducible refine keeps.foldl _ _ ?_ (fun y a hy => ?_)
    | with_reducible apply keeps.ite
    | with_reducible apply keepsParts_of
    | simp only [keeps_mk]
    | dsimp only
    | split
    | (intro y hy)

theorem enableLanes_keeps {s0 : State} {s : State} (h0 : keeps s0 s) :
    keeps s0 (enableLanes s) := by
  unfold enableLanes
  repeat' first
    | with_reducible assumption
    | with_reducible apply enableLane_keeps
    | with_reducible refine keeps.foldl _ _ ?_ (fun y a hy => ?_)
    | with_reducible apply keeps.ite
    | with_reducible apply keepsParts_of
    | simp only [keeps_mk]
    | dsimp only
    | split
    | (intro y hy)

theorem passBoot_keeps {s0 : State} {s : State} (h0 : keeps s0 s) :
    keeps s0 (passBoot s) := by
  unfold passBoot
  repeat' first
    | with_reducible assumption
    | with_reducible apply enterSafe_keeps
    | with_reducible apply transition_keeps
    | with_reducible apply settle_keeps
    | with_reducible apply startReceive_keeps
    | with_reducible apply enableLanes_keeps
    | with_reducible refine keeps.foldl _ _ ?_ (fun y a hy => ?_)
    | with_reducible apply keeps.ite
    | with_reducible apply keepsParts_of
    | simp only [keeps_mk]
    | dsimp only
    | split
    | (intro y hy)

theorem storeCharged_keeps {s0 : State} (mJ : Nat) {s : State} (h0 : keeps s0 s) :
    keeps s0 (storeCharged mJ s) := by
  unfold storeCharged
  repeat' first
    | with_reducible assumption
    | with_reducible refine keeps.foldl _ _ ?_ (fun y a hy => ?_)
    | with_reducible apply keeps.ite
    | with_reducible apply keepsParts_of
    | simp only [keeps_mk]
    | dsimp only
    | split
    | (intro y hy)

theorem lossInBoot_keeps {s0 : State} {s : State} (h0 : keeps s0 s) : keeps s0 (lossInBoot s) := by
  have ok (n : Nat) : seqOk (seqHeld n) := by unfold seqHeld seqOk; split <;> omega
  unfold lossInBoot
  dsimp only
  generalize s.saved.getD (savedOf s) = m
  repeat' first
    | with_reducible assumption
    | with_reducible apply dropTimebase_keeps
    | with_reducible apply transition_keeps
    | with_reducible apply keepsParts_of
    | simp only [keeps_mk]
  exact ⟨h0.pending, h0.mem, fun n => ⟨ok _, (h0.seq n).2.1, ok _, ok _, ok _, ok _, ok _⟩⟩

theorem writeSeal_keeps {s0 : State} (energy : Nat) (duration : Nat) {s : State} (h0 : keeps s0 s) :
    keeps s0 (writeSeal energy duration s) := by
  unfold writeSeal
  repeat' first
    | with_reducible assumption
    | with_reducible refine keeps.foldl _ _ ?_ (fun y a hy => ?_)
    | with_reducible apply keeps.ite
    | with_reducible apply keepsParts_of
    | simp only [keeps_mk]
    | dsimp only
    | split
    | (intro y hy)

theorem enterService_keeps {s0 : State} {s : State} (h0 : keeps s0 s) :
    keeps s0 (enterService s) := by
  unfold enterService
  repeat' first
    | with_reducible assumption
    | with_reducible apply transition_keeps
    | with_reducible refine keeps.foldl _ _ ?_ (fun y a hy => ?_)
    | with_reducible apply keeps.ite
    | with_reducible apply keepsParts_of
    | simp only [keeps_mk]
    | dsimp only
    | split
    | (intro y hy)

theorem cancelDeferred_keeps {s0 : State} (v : Nat) {s : State} (h0 : keeps s0 s) :
    keeps s0 (cancelDeferred v s) := by
  unfold cancelDeferred
  repeat' first
    | with_reducible assumption
    | with_reducible refine keeps.foldl _ _ ?_ (fun y a hy => ?_)
    | with_reducible apply keeps.ite
    | with_reducible apply keepsParts_of
    | simp only [keeps_mk]
    | dsimp only
    | split
    | (intro y hy)

theorem refuseMode_keeps {s0 : State} {s : State} (h0 : keeps s0 s) :
    keeps s0 (refuseMode s).1 := by
  unfold refuseMode
  repeat' first
    | with_reducible assumption
    | with_reducible refine keeps.foldl _ _ ?_ (fun y a hy => ?_)
    | with_reducible apply keeps.ite
    | with_reducible apply keepsParts_of
    | simp only [keeps_mk]
    | dsimp only
    | split
    | (intro y hy)

theorem requestStandby_keeps {s0 : State} {s : State} (h0 : keeps s0 s) :
    keeps s0 (requestStandby s).1 := by
  unfold requestStandby
  repeat' first
    | with_reducible assumption
    | with_reducible apply settle_keeps
    | with_reducible apply toStandby_keeps
    | with_reducible apply cancelDeferred_keeps
    | with_reducible apply transition_keeps
    | with_reducible apply startReceive_keeps
    | with_reducible apply enableLanes_keeps
    | with_reducible apply refuseMode_keeps
    | with_reducible refine keeps.foldl _ _ ?_ (fun y a hy => ?_)
    | with_reducible apply keeps.ite
    | with_reducible apply keepsParts_of
    | simp only [keeps_mk]
    | dsimp only
    | split
    | (intro y hy)

theorem requestService_keeps {s0 : State} {s : State} (h0 : keeps s0 s) :
    keeps s0 (requestService s).1 := by
  unfold requestService
  repeat' first
    | with_reducible assumption
    | with_reducible apply cancelDeferred_keeps
    | with_reducible apply settle_keeps
    | with_reducible apply enterService_keeps
    | with_reducible apply refuseMode_keeps
    | with_reducible refine keeps.foldl _ _ ?_ (fun y a hy => ?_)
    | with_reducible apply keeps.ite
    | with_reducible apply keepsParts_of
    | simp only [keeps_mk]
    | dsimp only
    | split
    | (intro y hy)

theorem requestSafe_keeps {s0 : State} {s : State} (h0 : keeps s0 s) :
    keeps s0 (requestSafe s).1 := by
  unfold requestSafe
  repeat' first
    | with_reducible assumption
    | with_reducible apply settle_keeps
    | with_reducible apply enterSafe_keeps
    | with_reducible apply cancelDeferred_keeps
    | with_reducible apply refuseMode_keeps
    | with_reducible refine keeps.foldl _ _ ?_ (fun y a hy => ?_)
    | with_reducible apply keeps.ite
    | with_reducible apply keepsParts_of
    | simp only [keeps_mk]
    | dsimp only
    | split
    | (intro y hy)

theorem writeModeRequest_keeps {s0 : State} (v : Nat) {s : State} (h0 : keeps s0 s) :
    keeps s0 (writeModeRequest v s).1 := by
  unfold writeModeRequest
  repeat' first
    | with_reducible assumption
    | with_reducible apply requestStandby_keeps
    | with_reducible apply requestService_keeps
    | with_reducible apply requestSafe_keeps
    | with_reducible refine keeps.foldl _ _ ?_ (fun y a hy => ?_)
    | with_reducible apply keeps.ite
    | with_reducible apply keepsParts_of
    | simp only [keeps_mk]
    | dsimp only
    | split
    | (intro y hy)

theorem writeQuiet_keeps {s0 : State} (v : Nat) {s : State} (h0 : keeps s0 s) :
    keeps s0 (writeQuiet v s).1 := by
  unfold writeQuiet
  repeat' first
    | with_reducible assumption
    | with_reducible apply settle_keeps
    | with_reducible apply setQuiet_keeps
    | with_reducible refine keeps.foldl _ _ ?_ (fun y a hy => ?_)
    | with_reducible apply keeps.ite
    | with_reducible apply keepsParts_of
    | simp only [keeps_mk]
    | dsimp only
    | split
    | (intro y hy)

theorem setBell_keeps {s0 : State} {s : State} (b : Nat) (x : Bell) (h0 : keeps s0 s) :
    keeps s0 (setBell s b x) := by
  unfold setBell
  repeat' first
    | with_reducible assumption
    | with_reducible refine keeps.foldl _ _ ?_ (fun y a hy => ?_)
    | with_reducible apply keeps.ite
    | with_reducible apply keepsParts_of
    | simp only [keeps_mk]
    | dsimp only
    | split
    | (intro y hy)

theorem setSwapTable_keeps {s0 : State} (b : Nat) (t : SwapTable) {s : State} (h0 : keeps s0 s) :
    keeps s0 (setSwapTable b t s) := by
  unfold setSwapTable
  repeat' first
    | with_reducible assumption
    | with_reducible apply setBeams_keeps
    | with_reducible refine keeps.foldl _ _ ?_ (fun y a hy => ?_)
    | with_reducible apply keeps.ite
    | with_reducible apply keepsParts_of
    | simp only [keeps_mk]
    | dsimp only
    | split
    | (intro y hy)

theorem armSwap_keeps {s0 : State} (b : Nat) (v : Nat) {s : State} (h0 : keeps s0 s) :
    keeps s0 (armSwap b v s).1 := by
  unfold armSwap
  repeat' first
    | with_reducible assumption
    | with_reducible apply setSwapTable_keeps
    | with_reducible apply setBell_keeps
    | with_reducible refine keeps.foldl _ _ ?_ (fun y a hy => ?_)
    | with_reducible apply keeps.ite
    | with_reducible apply keepsParts_of
    | simp only [keeps_mk]
    | dsimp only
    | split
    | (intro y hy)

theorem writeShadow_keeps {s0 : State} (b : Nat) (k : Nat) (v : Nat) {s : State} (h0 : keeps s0 s) :
    keeps s0 (writeShadow b k v s).1 := by
  unfold writeShadow
  repeat' first
    | with_reducible assumption
    | with_reducible apply setSwapTable_keeps
    | with_reducible refine keeps.foldl _ _ ?_ (fun y a hy => ?_)
    | with_reducible apply keeps.ite
    | with_reducible apply keepsParts_of
    | simp only [keeps_mk]
    | dsimp only
    | split
    | (intro y hy)

theorem writeShift_keeps {s0 : State} (g : Nat) (v : Nat) {s : State} (h0 : keeps s0 s) :
    keeps s0 (writeShift g v s).1 := by
  unfold writeShift
  repeat' first
    | with_reducible assumption
    | with_reducible apply setBeams_keeps
    | with_reducible refine keeps.foldl _ _ ?_ (fun y a hy => ?_)
    | with_reducible apply keeps.ite
    | with_reducible apply keepsParts_of
    | simp only [keeps_mk]
    | dsimp only
    | split
    | (intro y hy)

theorem computeMasks_keeps {s0 : State} (g : Nat) {s : State} (h0 : keeps s0 s) :
    keeps s0 (computeMasks g s) := by
  unfold computeMasks
  repeat' first
    | with_reducible assumption
    | with_reducible refine keeps.foldl _ _ ?_ (fun y a hy => ?_)
    | with_reducible apply keeps.ite
    | with_reducible apply keepsParts_of
    | simp only [keeps_mk]
    | dsimp only
    | split
    | (intro y hy)

theorem newEpoch_keeps {s0 : State} (g : Nat) {s : State} (h0 : keeps s0 s) :
    keeps s0 (newEpoch g s) := by
  unfold newEpoch
  repeat' first
    | with_reducible assumption
    | with_reducible refine keeps.foldl _ _ ?_ (fun y a hy => ?_)
    | with_reducible apply keeps.ite
    | with_reducible apply keepsParts_of
    | simp only [keeps_mk]
    | dsimp only
    | split
    | (intro y hy)

theorem swapEnables_keeps {s0 : State} (at_ : Nat) {s : State} (h0 : keeps s0 s) :
    keeps s0 (swapEnables at_ s) := by
  unfold swapEnables
  repeat' first
    | with_reducible assumption
    | with_reducible refine keeps.foldl _ _ ?_ (fun y a hy => ?_)
    | with_reducible apply keeps.ite
    | with_reducible apply keepsParts_of
    | simp only [keeps_mk]
    | dsimp only
    | split
    | (intro y hy)

theorem followSwaps_keeps {s0 : State} {s : State} (h0 : keeps s0 s) :
    keeps s0 (followSwaps s) := by
  unfold followSwaps
  repeat' first
    | with_reducible assumption
    | with_reducible refine keeps.foldl _ _ ?_ (fun y a hy => ?_)
    | with_reducible apply keeps.ite
    | with_reducible apply keepsParts_of
    | simp only [keeps_mk]
    | dsimp only
    | split
    | (intro y hy)

theorem afterSwap_keeps {s0 : State} (b : Nat) (at_ : Nat) {s : State} (h0 : keeps s0 s) :
    keeps s0 (afterSwap b at_ s) := by
  unfold afterSwap
  repeat' first
    | with_reducible assumption
    | with_reducible apply staleFloors_keeps
    | with_reducible apply swapEnables_keeps
    | with_reducible apply followSwaps_keeps
    | with_reducible apply recalibrate_keeps
    | with_reducible apply newEpoch_keeps
    | with_reducible apply computeMasks_keeps
    | with_reducible apply staleBeams_keeps
    | with_reducible refine keeps.foldl _ _ ?_ (fun y a hy => ?_)
    | with_reducible apply keeps.ite
    | with_reducible apply keepsParts_of
    | simp only [keeps_mk]
    | dsimp only
    | split
    | (intro y hy)

theorem resetStreams_keeps {s0 : State} (g : Nat) (p : Nat) {s : State} (h0 : keeps s0 s) :
    keeps s0 (resetStreams g p s) := by
  unfold resetStreams
  repeat' first
    | with_reducible assumption
    | with_reducible refine keeps.foldl _ _ ?_ (fun y a hy => ?_)
    | with_reducible apply keeps.ite
    | with_reducible apply keepsParts_of
    | simp only [keeps_mk]
    | dsimp only
    | split
    | (intro y hy)

theorem applyBell_keeps {s0 : State} (b : Nat) {s : State} (h0 : keeps s0 s) :
    keeps s0 (applyBell b s) := by
  unfold applyBell
  repeat' first
    | with_reducible assumption
    | with_reducible apply putSetting_keeps
    | with_reducible apply newEpoch_keeps
    | with_reducible apply resetStreams_keeps
    | with_reducible refine keeps.foldl _ _ ?_ (fun y a hy => ?_)
    | with_reducible apply keeps.ite
    | with_reducible apply keepsParts_of
    | simp only [keeps_mk]
    | dsimp only
    | split
    | (intro y hy)

theorem missBells_keeps {s0 : State} {s : State} (h0 : keeps s0 s) :
    keeps s0 (missBells s) := by
  unfold missBells
  repeat' first
    | with_reducible assumption
    | with_reducible apply setBell_keeps
    | with_reducible apply setSwapTable_keeps
    | with_reducible apply missRecord_keeps
    | with_reducible refine keeps.foldl _ _ ?_ (fun y a hy => ?_)
    | with_reducible apply keeps.ite
    | with_reducible apply keepsParts_of
    | simp only [keeps_mk]
    | dsimp only
    | split
    | (intro y hy)

theorem validTimebaseAt_keeps {s0 : State} (n : Nat) (ex : Bool) {s : State} (h0 : keeps s0 s) :
    keeps s0 (validTimebaseAt n ex s) := by
  unfold validTimebaseAt
  repeat' first
    | with_reducible assumption
    | with_reducible apply missBells_keeps
    | with_reducible apply enableLanes_keeps
    | with_reducible apply startReceive_keeps
    | with_reducible refine keeps.foldl _ _ ?_ (fun y a hy => ?_)
    | with_reducible apply keeps.ite
    | with_reducible apply keepsParts_of
    | simp only [keeps_mk]
    | dsimp only
    | split
    | (intro y hy)

theorem validTimebase_keeps {s0 : State} {s : State} (h0 : keeps s0 s) :
    keeps s0 (validTimebase s) := by
  unfold validTimebase
  repeat' first
    | with_reducible assumption
    | with_reducible apply validTimebaseAt_keeps
    | with_reducible refine keeps.foldl _ _ ?_ (fun y a hy => ?_)
    | with_reducible apply keeps.ite
    | with_reducible apply keepsParts_of
    | simp only [keeps_mk]
    | dsimp only
    | split
    | (intro y hy)

theorem losing_keeps {s0 : State} {s : State} (h0 : keeps s0 s) :
    keeps s0 (losing s) := by
  unfold losing
  repeat' first
    | with_reducible assumption
    | with_reducible apply loseReference_keeps
    | with_reducible apply fillBucket_keeps
    | with_reducible refine keeps.foldl _ _ ?_ (fun y a hy => ?_)
    | with_reducible apply keeps.ite
    | with_reducible apply keepsParts_of
    | simp only [keeps_mk]
    | dsimp only
    | split
    | (intro y hy)

theorem writeEpoch_keeps {s0 : State} (v : Nat) {s : State} (h0 : keeps s0 s) :
    keeps s0 (writeEpoch v s).1 := by
  unfold writeEpoch
  repeat' first
    | with_reducible assumption
    | with_reducible refine keeps.foldl _ _ ?_ (fun y a hy => ?_)
    | with_reducible apply keeps.ite
    | with_reducible apply keepsParts_of
    | simp only [keeps_mk]
    | dsimp only
    | split
    | (intro y hy)

theorem writeRestart_keeps {s0 : State} (v : Nat) {s : State} (h0 : keeps s0 s) :
    keeps s0 (writeRestart v s).1 := by
  unfold writeRestart
  repeat' first
    | with_reducible assumption
    | with_reducible apply losing_keeps
    | with_reducible apply settle_keeps
    | with_reducible refine keeps.foldl _ _ ?_ (fun y a hy => ?_)
    | with_reducible apply keeps.ite
    | with_reducible apply keepsParts_of
    | simp only [keeps_mk]
    | dsimp only
    | split
    | (intro y hy)

theorem fireBell_keeps {s0 : State} (b : Nat) (at_ : Nat) {s : State} (h0 : keeps s0 s) :
    keeps s0 (fireBell b at_ s) := by
  unfold fireBell
  repeat' first
    | with_reducible assumption
    | with_reducible apply setBell_keeps
    | with_reducible apply afterSwap_keeps
    | with_reducible apply setSwapTable_keeps
    | with_reducible apply raisePort_keeps
    | with_reducible apply markFired_keeps
    | with_reducible apply applyBell_keeps
    | with_reducible apply takeSnap_keeps
    | with_reducible refine keeps.foldl _ _ ?_ (fun y a hy => ?_)
    | with_reducible apply keeps.ite
    | with_reducible apply keepsParts_of
    | simp only [keeps_mk]
    | dsimp only
    | split
    | (intro y hy)

theorem writeBell_keeps {s0 : State} (b : Nat) (phase : Bool) (v : Nat) {s : State} (h0 : keeps s0 s) :
    keeps s0 (writeBell b phase v s).1 := by
  unfold writeBell
  repeat' first
    | with_reducible assumption
    | with_reducible apply setBell_keeps
    | with_reducible refine keeps.foldl _ _ ?_ (fun y a hy => ?_)
    | with_reducible apply keeps.ite
    | with_reducible apply keepsParts_of
    | simp only [keeps_mk]
    | dsimp only
    | split
    | (intro y hy)

theorem noteAge_keeps {s0 : State} (i : Nat) (old : Island) (x : Island) {s : State} (h0 : keeps s0 s) :
    keeps s0 (noteAge i old x s) := by
  unfold noteAge
  repeat' first
    | with_reducible assumption
    | with_reducible apply setCard_keeps
    | with_reducible refine keeps.foldl _ _ ?_ (fun y a hy => ?_)
    | with_reducible apply keeps.ite
    | with_reducible apply keepsParts_of
    | simp only [keeps_mk]
    | dsimp only
    | split
    | (intro y hy)

theorem paceIsland_keeps {s0 : State} (i : Nat) (count : Nat) {s : State} (h0 : keeps s0 s) :
    keeps s0 (paceIsland i count s) := by
  unfold paceIsland
  repeat' first
    | with_reducible assumption
    | with_reducible apply noteAge_keeps
    | with_reducible apply moveSupply_keeps
    | with_reducible apply setIsland_keeps
    | with_reducible apply errRecord_keeps
    | with_reducible refine keeps.foldl _ _ ?_ (fun y a hy => ?_)
    | with_reducible apply keeps.ite
    | with_reducible apply keepsParts_of
    | simp only [keeps_mk]
    | dsimp only
    | split
    | (intro y hy)

theorem writeInterval_keeps {s0 : State} (v : Nat) {s : State} (h0 : keeps s0 s) :
    keeps s0 (writeInterval v s).1 := by
  unfold writeInterval
  repeat' first
    | with_reducible assumption
    | with_reducible apply journalRoll_keeps
    | with_reducible refine keeps.foldl _ _ ?_ (fun y a hy => ?_)
    | with_reducible apply keeps.ite
    | with_reducible apply keepsParts_of
    | simp only [keeps_mk]
    | dsimp only
    | split
    | (intro y hy)

theorem tallySample_keeps {s0 : State} (m : Nat) (i : Int) (q : Int) {s : State} (h0 : keeps s0 s) :
    keeps s0 (tallySample m i q s) := by
  unfold tallySample
  repeat' first
    | with_reducible assumption
    | with_reducible refine keeps.foldl _ _ ?_ (fun y a hy => ?_)
    | with_reducible apply keeps.ite
    | with_reducible apply keepsParts_of
    | simp only [keeps_mk]
    | dsimp only
    | split
    | (intro y hy)

theorem antennaSamples_keeps {s0 : State} (l : List Taken) (valid : Nat) (h : Nat) (a : Nat) (t96 : Nat) {s : State} (h0 : keeps s0 s) :
    keeps s0 (antennaSamples l valid h a t96 s) := by
  unfold antennaSamples
  repeat' first
    | with_reducible assumption
    | with_reducible apply addErasure_keeps
    | with_reducible apply tallySample_keeps
    | with_reducible refine keeps.foldl _ _ ?_ (fun y a hy => ?_)
    | with_reducible apply keeps.ite
    | with_reducible apply keepsParts_of
    | simp only [keeps_mk]
    | dsimp only
    | split
    | (intro y hy)

theorem takeSamples_keeps {s0 : State} (l : List Taken) (valid : Nat) (h : Nat) (t96 : Nat) {s : State} (h0 : keeps s0 s) :
    keeps s0 (takeSamples l valid h t96 s) := by
  unfold takeSamples
  repeat' first
    | with_reducible assumption
    | with_reducible apply antennaSamples_keeps
    | with_reducible refine keeps.foldl _ _ ?_ (fun y a hy => ?_)
    | with_reducible apply keeps.ite
    | with_reducible apply keepsParts_of
    | simp only [keeps_mk]
    | dsimp only
    | split
    | (intro y hy)

theorem takeWords_keeps {s0 : State} (l : List Taken) (lane : Nat) (frame : Nat) {s : State} (h0 : keeps s0 s) :
    keeps s0 (takeWords l lane frame s) := by
  unfold takeWords
  repeat' first
    | with_reducible assumption
    | with_reducible refine keeps.foldl _ _ ?_ (fun y a hy => ?_)
    | with_reducible apply keeps.ite
    | with_reducible apply keepsParts_of
    | simp only [keeps_mk]
    | dsimp only
    | split
    | (intro y hy)

theorem receiveFrame_keeps {s0 : State} (l : Nat) (codes : List Nat) (arr16 : Nat) {s : State} (h0 : keeps s0 s) :
    keeps s0 (receiveFrame l codes arr16 s) := by
  unfold receiveFrame
  repeat' first
    | with_reducible assumption
    | with_reducible apply setLane_keeps
    | with_reducible apply takeSamples_keeps
    | with_reducible apply activateLane_keeps
    | with_reducible apply takeWords_keeps
    | with_reducible refine keeps.foldl _ _ ?_ (fun y a hy => ?_)
    | with_reducible apply keeps.ite
    | with_reducible apply keepsParts_of
    | simp only [keeps_mk]
    | dsimp only
    | split
    | (intro y hy)

theorem huntFrame_keeps {s0 : State} (l : Nat) (codes : List Nat) {s : State} (h0 : keeps s0 s) :
    keeps s0 (huntFrame l codes s) := by
  unfold huntFrame
  repeat' first
    | with_reducible assumption
    | with_reducible apply modLane_keeps
    | with_reducible refine keeps.foldl _ _ ?_ (fun y a hy => ?_)
    | with_reducible apply keeps.ite
    | with_reducible apply keepsParts_of
    | simp only [keeps_mk]
    | dsimp only
    | split
    | (intro y hy)

theorem answerQuery_keeps {s0 : State} (l : Nat) (type : Nat) {s : State} (h0 : keeps s0 s) :
    keeps s0 (answerQuery l type s) := by
  unfold answerQuery
  repeat' first
    | with_reducible assumption
    | with_reducible apply modLane_keeps
    | with_reducible refine keeps.foldl _ _ ?_ (fun y a hy => ?_)
    | with_reducible apply keeps.ite
    | with_reducible apply keepsParts_of
    | simp only [keeps_mk]
    | dsimp only
    | split
    | (intro y hy)

theorem laneError_keeps {s0 : State} (l : Nat) {s : State} (h0 : keeps s0 s) :
    keeps s0 (laneError l s) := by
  unfold laneError
  repeat' first
    | with_reducible assumption
    | with_reducible apply errRecord_keeps
    | with_reducible refine keeps.foldl _ _ ?_ (fun y a hy => ?_)
    | with_reducible apply keeps.ite
    | with_reducible apply keepsParts_of
    | simp only [keeps_mk]
    | dsimp only
    | split
    | (intro y hy)

theorem sendTimeNow_keeps {s0 : State} (l : Nat) {s : State} (h0 : keeps s0 s) :
    keeps s0 (sendTimeNow l s) := by
  unfold sendTimeNow
  repeat' first
    | with_reducible assumption
    | with_reducible apply modLane_keeps
    | with_reducible apply sendTime_keeps
    | with_reducible refine keeps.foldl _ _ ?_ (fun y a hy => ?_)
    | with_reducible apply keeps.ite
    | with_reducible apply keepsParts_of
    | simp only [keeps_mk]
    | dsimp only
    | split
    | (intro y hy)

theorem takeAlign_keeps {s0 : State} (l : Nat) (q : Nat) (u : Nat) (delta : Nat) {s : State} (h0 : keeps s0 s) :
    keeps s0 (takeAlign l q u delta s) := by
  unfold takeAlign
  repeat' first
    | with_reducible assumption
    | with_reducible apply answerQuery_keeps
    | with_reducible apply modLane_keeps
    | with_reducible apply sendTimeNow_keeps
    | with_reducible apply activateLane_keeps
    | with_reducible apply bringUpCommands_keeps
    | with_reducible refine keeps.foldl _ _ ?_ (fun y a hy => ?_)
    | with_reducible apply keeps.ite
    | with_reducible apply keepsParts_of
    | simp only [keeps_mk]
    | dsimp only
    | split
    | (intro y hy)

theorem settleGain_keeps {s0 : State} (l : Nat) (seq : Nat) (st : Status) {s : State} (h0 : keeps s0 s) :
    keeps s0 (settleGain l seq st s) := by
  unfold settleGain
  repeat' first
    | with_reducible assumption
    | with_reducible apply addErasure_keeps
    | with_reducible apply addStep_keeps
    | with_reducible apply laneError_keeps
    | with_reducible refine keeps.foldl _ _ ?_ (fun y a hy => ?_)
    | with_reducible apply keeps.ite
    | with_reducible apply keepsParts_of
    | simp only [keeps_mk]
    | dsimp only
    | split
    | (intro y hy)

theorem switchReplied_keeps {s0 : State} (h : Nat) (l : Nat) {s : State} (h0 : keeps s0 s) :
    keeps s0 (switchReplied h l s) := by
  unfold switchReplied
  repeat' first
    | with_reducible assumption
    | with_reducible apply modHead_keeps
    | with_reducible apply holdGains_keeps
    | with_reducible apply sendTxen_keeps
    | with_reducible refine keeps.foldl _ _ ?_ (fun y a hy => ?_)
    | with_reducible apply keeps.ite
    | with_reducible apply keepsParts_of
    | simp only [keeps_mk]
    | dsimp only
    | split
    | (intro y hy)

theorem takeReply_keeps {s0 : State} (l : Nat) (type : Nat) (seq : Nat) (st : Status) {s : State} (h0 : keeps s0 s) :
    keeps s0 (takeReply l type seq st s) := by
  unfold takeReply
  repeat' first
    | with_reducible assumption
    | with_reducible apply settleGain_keeps
    | with_reducible apply modLane_keeps
    | with_reducible apply modHead_keeps
    | with_reducible apply laneError_keeps
    | with_reducible apply switchReplied_keeps
    | with_reducible refine keeps.foldl _ _ ?_ (fun y a hy => ?_)
    | with_reducible apply keeps.ite
    | with_reducible apply keepsParts_of
    | simp only [keeps_mk]
    | dsimp only
    | split
    | (intro y hy)

theorem applyTap_keeps {s0 : State} (l : Nat) {s : State} (h0 : keeps s0 s) :
    keeps s0 (applyTap l s) := by
  unfold applyTap
  repeat' first
    | with_reducible assumption
    | with_reducible apply setLane_keeps
    | with_reducible apply sendMsg_keeps
    | with_reducible refine keeps.foldl _ _ ?_ (fun y a hy => ?_)
    | with_reducible apply keeps.ite
    | with_reducible apply keepsParts_of
    | simp only [keeps_mk]
    | dsimp only
    | split
    | (intro y hy)

theorem switchToSpare_keeps {s0 : State} (h : Nat) (l : Nat) {s : State} (h0 : keeps s0 s) :
    keeps s0 (switchToSpare h l s) := by
  unfold switchToSpare
  repeat' first
    | with_reducible assumption
    | with_reducible apply listFence_keeps
    | with_reducible apply laneError_keeps
    | with_reducible apply startSwitch_keeps
    | with_reducible apply setCard_keeps
    | with_reducible refine keeps.foldl _ _ ?_ (fun y a hy => ?_)
    | with_reducible apply keeps.ite
    | with_reducible apply keepsParts_of
    | simp only [keeps_mk]
    | dsimp only
    | split
    | (intro y hy)

theorem failLane_keeps {s0 : State} (lossOfFrame : Bool) (l : Nat) {s : State} (h0 : keeps s0 s) :
    keeps s0 (failLane lossOfFrame l s) := by
  unfold failLane
  repeat' first
    | with_reducible assumption
    | with_reducible apply unlockLane_keeps
    | with_reducible apply switchToSpare_keeps
    | with_reducible apply dropHead_keeps
    | with_reducible refine keeps.foldl _ _ ?_ (fun y a hy => ?_)
    | with_reducible apply keeps.ite
    | with_reducible apply keepsParts_of
    | simp only [keeps_mk]
    | dsimp only
    | split
    | (intro y hy)

theorem loseFrame_keeps {s0 : State} (l : Nat) {s : State} (h0 : keeps s0 s) :
    keeps s0 (loseFrame l s) := by
  unfold loseFrame
  repeat' first
    | with_reducible assumption
    | with_reducible apply failLane_keeps
    | with_reducible apply modLane_keeps
    | with_reducible refine keeps.foldl _ _ ?_ (fun y a hy => ?_)
    | with_reducible apply keeps.ite
    | with_reducible apply keepsParts_of
    | simp only [keeps_mk]
    | dsimp only
    | split
    | (intro y hy)

theorem ackDirectory_keeps {s0 : State} {s : State} (h0 : keeps s0 s) :
    keeps s0 (ackDirectory s) := by
  unfold ackDirectory
  repeat' first
    | with_reducible assumption
    | with_reducible apply cascadeSend_keeps
    | with_reducible refine keeps.foldl _ _ ?_ (fun y a hy => ?_)
    | with_reducible apply keeps.ite
    | with_reducible apply keepsParts_of
    | simp only [keeps_mk]
    | dsimp only
    | split
    | (intro y hy)

theorem writeRevert_keeps {s0 : State} (j : Nat) {s : State} (h0 : keeps s0 s) :
    keeps s0 (writeRevert j s).1 := by
  unfold writeRevert
  repeat' first
    | with_reducible assumption
    | with_reducible apply settle_keeps
    | with_reducible apply startSwitch_keeps
    | with_reducible apply dropHead_keeps
    | with_reducible refine keeps.foldl _ _ ?_ (fun y a hy => ?_)
    | with_reducible apply keeps.ite
    | with_reducible apply keepsParts_of
    | simp only [keeps_mk]
    | dsimp only
    | split
    | (intro y hy)

theorem startBacking_keeps {s0 : State} (l : Nat) (h : Nat) {s : State} (h0 : keeps s0 s) :
    keeps s0 (startBacking l h s) := by
  unfold startBacking
  repeat' first
    | with_reducible assumption
    | with_reducible apply bringUpCommands_keeps
    | with_reducible refine keeps.foldl _ _ ?_ (fun y a hy => ?_)
    | with_reducible apply keeps.ite
    | with_reducible apply keepsParts_of
    | simp only [keeps_mk]
    | dsimp only
    | split
    | (intro y hy)

theorem writeBacked_keeps {s0 : State} (j : Nat) (v : Nat) {s : State} (h0 : keeps s0 s) :
    keeps s0 (writeBacked j v s).1 := by
  unfold writeBacked
  repeat' first
    | with_reducible assumption
    | with_reducible apply startBacking_keeps
    | with_reducible apply putSetting_keeps
    | with_reducible refine keeps.foldl _ _ ?_ (fun y a hy => ?_)
    | with_reducible apply keeps.ite
    | with_reducible apply keepsParts_of
    | simp only [keeps_mk]
    | dsimp only
    | split
    | (intro y hy)

theorem poisonWords_keeps {s0 : State} (l : List (Nat × Nat × Nat)) {s : State} (h0 : keeps s0 s) :
    keeps s0 (poisonWords l s) := by
  unfold poisonWords
  repeat' first
    | with_reducible assumption
    | with_reducible refine keeps.foldl _ _ ?_ (fun y a hy => ?_)
    | with_reducible apply keeps.ite
    | with_reducible apply keepsParts_of
    | simp only [keeps_mk]
    | dsimp only
    | split
    | (intro y hy)

theorem takeMargin_keeps {s0 : State} (p : Nat) (beam : Nat) (bin : Nat) (m : Nat) (j : Nat) (new : Nat × Nat) {s : State} (h0 : keeps s0 s) :
    keeps s0 (takeMargin p beam bin m j new s) := by
  unfold takeMargin
  repeat' first
    | with_reducible assumption
    | with_reducible refine keeps.foldl _ _ ?_ (fun y a hy => ?_)
    | with_reducible apply keeps.ite
    | with_reducible apply keepsParts_of
    | simp only [keeps_mk]
    | dsimp only
    | split
    | (intro y hy)

theorem takeStream_keeps {s0 : State} (slots : List Nat) (loopSlot : Nat) (beam : Nat) (bin : Nat) (m : Nat) (j : Nat) {s : State} (h0 : keeps s0 s) :
    keeps s0 (takeStream slots loopSlot beam bin m j s) := by
  unfold takeStream
  repeat' first
    | with_reducible assumption
    | with_reducible apply takeMargin_keeps
    | with_reducible apply setStream_keeps
    | with_reducible refine keeps.foldl _ _ ?_ (fun y a hy => ?_)
    | with_reducible apply keeps.ite
    | with_reducible apply keepsParts_of
    | simp only [keeps_mk]
    | dsimp only
    | split
    | (intro y hy)

theorem groupStreams_keeps {s0 : State} (n : Nat) (g : Nat) {s : State} (h0 : keeps s0 s) :
    keeps s0 (groupStreams n g s) := by
  unfold groupStreams
  repeat' first
    | with_reducible assumption
    | with_reducible apply takeStream_keeps
    | with_reducible refine keeps.foldl _ _ ?_ (fun y a hy => ?_)
    | with_reducible apply keeps.ite
    | with_reducible apply keepsParts_of
    | simp only [keeps_mk]
    | dsimp only
    | split
    | (intro y hy)

theorem modHit_keeps {s0 : State} (h : Hit) (f : Hit → Hit) {s : State} (h0 : keeps s0 s) :
    keeps s0 (modHit h f s) := by
  unfold modHit
  repeat' first
    | with_reducible assumption
    | with_reducible refine keeps.foldl _ _ ?_ (fun y a hy => ?_)
    | with_reducible apply keeps.ite
    | with_reducible apply keepsParts_of
    | simp only [keeps_mk]
    | dsimp only
    | split
    | (intro y hy)

theorem countSuppressed_keeps {s0 : State} (h : Hit) {s : State} (h0 : keeps s0 s) :
    keeps s0 (countSuppressed h s) := by
  unfold countSuppressed
  repeat' first
    | with_reducible assumption
    | with_reducible apply modHit_keeps
    | with_reducible apply modDetection_keeps
    | with_reducible refine keeps.foldl _ _ ?_ (fun y a hy => ?_)
    | with_reducible apply keeps.ite
    | with_reducible apply keepsParts_of
    | simp only [keeps_mk]
    | dsimp only
    | split
    | (intro y hy)

theorem settleHits_keeps {s0 : State} {s : State} (h0 : keeps s0 s) :
    keeps s0 (settleHits s) := by
  unfold settleHits
  repeat' first
    | with_reducible assumption
    | with_reducible apply countSuppressed_keeps
    | with_reducible refine keeps.foldl _ _ ?_ (fun y a hy => ?_)
    | with_reducible apply keeps.ite
    | with_reducible apply keepsParts_of
    | simp only [keeps_mk]
    | dsimp only
    | split
    | (intro y hy)

theorem sendGains_keeps {s0 : State} (bin : Nat) {s : State} (h0 : keeps s0 s) :
    keeps s0 (sendGains bin s) := by
  unfold sendGains
  repeat' first
    | with_reducible assumption
    | with_reducible apply cascadeSend_keeps
    | with_reducible refine keeps.foldl _ _ ?_ (fun y a hy => ?_)
    | with_reducible apply keeps.ite
    | with_reducible apply keepsParts_of
    | simp only [keeps_mk]
    | dsimp only
    | split
    | (intro y hy)

theorem writeLoop_keeps {s0 : State} (idx : Nat) (sub : Nat) (el : Nat) (v : Nat) {s : State} (h0 : keeps s0 s) :
    keeps s0 (writeLoop idx sub el v s).1 := by
  unfold writeLoop
  repeat' first
    | with_reducible assumption
    | with_reducible apply sendGains_keeps
    | with_reducible apply putSetting_keeps
    | with_reducible apply stageSetting_keeps
    | with_reducible refine keeps.foldl _ _ ?_ (fun y a hy => ?_)
    | with_reducible apply keeps.ite
    | with_reducible apply keepsParts_of
    | simp only [keeps_mk]
    | dsimp only
    | split
    | (intro y hy)

theorem writePeriod_keeps {s0 : State} (v : Nat) {s : State} (h0 : keeps s0 s) :
    keeps s0 (writePeriod v s).1 := by
  unfold writePeriod
  repeat' first
    | with_reducible assumption
    | with_reducible apply staleFloors_keeps
    | with_reducible apply putSetting_keeps
    | with_reducible refine keeps.foldl _ _ ?_ (fun y a hy => ?_)
    | with_reducible apply keeps.ite
    | with_reducible apply keepsParts_of
    | simp only [keeps_mk]
    | dsimp only
    | split
    | (intro y hy)

theorem gainWindow_keeps {s0 : State} (a : Nat) {s : State} (h0 : keeps s0 s) :
    keeps s0 (gainWindow a s) := by
  unfold gainWindow
  repeat' first
    | with_reducible assumption
    | with_reducible apply sendGain_keeps
    | with_reducible refine keeps.foldl _ _ ?_ (fun y a hy => ?_)
    | with_reducible apply keeps.ite
    | with_reducible apply keepsParts_of
    | simp only [keeps_mk]
    | dsimp only
    | split
    | (intro y hy)

theorem floorSample_keeps {s0 : State} (n : Nat) {s : State} (h0 : keeps s0 s) :
    keeps s0 (floorSample n s) := by
  unfold floorSample
  repeat' first
    | with_reducible assumption
    | with_reducible refine keeps.foldl _ _ ?_ (fun y a hy => ?_)
    | with_reducible apply keeps.ite
    | with_reducible apply keepsParts_of
    | simp only [keeps_mk]
    | dsimp only
    | split
    | (intro y hy)

theorem endFloorPeriod_keeps {s0 : State} {s : State} (h0 : keeps s0 s) :
    keeps s0 (endFloorPeriod s) := by
  unfold endFloorPeriod
  repeat' first
    | with_reducible assumption
    | with_reducible refine keeps.foldl _ _ ?_ (fun y a hy => ?_)
    | with_reducible apply keeps.ite
    | with_reducible apply keepsParts_of
    | simp only [keeps_mk]
    | dsimp only
    | split
    | (intro y hy)

theorem storeBins_keeps {s0 : State} (n : Nat) {s : State} (h0 : keeps s0 s) :
    keeps s0 (storeBins n s) := by
  unfold storeBins
  repeat' first
    | with_reducible assumption
    | with_reducible refine keeps.foldl _ _ ?_ (fun y a hy => ?_)
    | with_reducible apply keeps.ite
    | with_reducible apply keepsParts_of
    | simp only [keeps_mk]
    | dsimp only
    | split
    | (intro y hy)

theorem pruneReceive_keeps {s0 : State} (n : Nat) {s : State} (h0 : keeps s0 s) :
    keeps s0 (pruneReceive n s) := by
  unfold pruneReceive
  repeat' first
    | with_reducible assumption
    | with_reducible apply foldSteps_keeps
    | with_reducible refine keeps.foldl _ _ ?_ (fun y a hy => ?_)
    | with_reducible apply keeps.ite
    | with_reducible apply keepsParts_of
    | simp only [keeps_mk]
    | dsimp only
    | split
    | (intro y hy)

theorem takeDseq_keeps {s0 : State} {s : State} (h0 : keeps s0 s) : keeps s0 (takeDseq s).2 := by
  unfold takeDseq
  rw [keeps_mk]
  refine ⟨h0.pending, h0.mem, fun n => ?_⟩
  obtain ⟨a, b, c, d, e, f, g⟩ := h0.seq n
  refine ⟨a, b, c, seqNext_ok _ d, e, ?_, g⟩
  dsimp only
  split
  · exact seqAdd_ok _ _
  · exact f

theorem raiseDetection_keeps {s0 : State} (h : Hit) {s : State} (h0 : keeps s0 s) :
    keeps s0 (raiseDetection h s) := by
  unfold raiseDetection
  repeat' first
    | with_reducible assumption
    | with_reducible apply countSuppressed_keeps
    | with_reducible apply takeDseq_keeps
    | with_reducible apply setStream_keeps
    | with_reducible apply modHit_keeps
    | with_reducible apply frameBump_keeps
    | with_reducible refine keeps.foldl _ _ ?_ (fun y a hy => ?_)
    | with_reducible apply keeps.ite
    | with_reducible apply keepsParts_of
    | simp only [keeps_mk]
    | dsimp only
    | split
    | (intro y hy)

theorem assignBranch_keeps {s0 : State} (owner : Nat) (c : Nat) (bin : Nat) (mcode : Nat) (peakAt : Nat) {s : State} (h0 : keeps s0 s) :
    keeps s0 (assignBranch owner c bin mcode peakAt s) := by
  unfold assignBranch
  repeat' first
    | with_reducible assumption
    | with_reducible apply drawFree_keeps
    | with_reducible apply cascadeSend_keeps
    | with_reducible refine keeps.foldl _ _ ?_ (fun y a hy => ?_)
    | with_reducible apply keeps.ite
    | with_reducible apply keepsParts_of
    | simp only [keeps_mk]
    | dsimp only
    | split
    | (intro y hy)

theorem branchRequest_keeps {s0 : State} (c : Nat) (d : Detection) {s : State} (h0 : keeps s0 s) :
    keeps s0 (branchRequest c d s) := by
  unfold branchRequest
  repeat' first
    | with_reducible assumption
    | with_reducible apply assignBranch_keeps
    | with_reducible apply cascadeSend_keeps
    | with_reducible refine keeps.foldl _ _ ?_ (fun y a hy => ?_)
    | with_reducible apply keeps.ite
    | with_reducible apply keepsParts_of
    | simp only [keeps_mk]
    | dsimp only
    | split
    | (intro y hy)

theorem grantRequest_keeps {s0 : State} (d : Detection) (round : Nat) {s : State} (h0 : keeps s0 s) :
    keeps s0 (grantRequest d round s) := by
  unfold grantRequest
  repeat' first
    | with_reducible assumption
    | with_reducible apply drawFree_keeps
    | with_reducible apply setCapture_keeps
    | with_reducible apply frameBump_keeps
    | with_reducible apply modDetection_keeps
    | with_reducible apply branchRequest_keeps
    | with_reducible refine keeps.foldl _ _ ?_ (fun y a hy => ?_)
    | with_reducible apply keeps.ite
    | with_reducible apply keepsParts_of
    | simp only [keeps_mk]
    | dsimp only
    | split
    | (intro y hy)

theorem admissionRound_keeps {s0 : State} (r : Nat) {s : State} (h0 : keeps s0 s) :
    keeps s0 (admissionRound r s) := by
  unfold admissionRound
  repeat' first
    | with_reducible assumption
    | with_reducible apply applyBell_keeps
    | with_reducible apply refuseRequest_keeps
    | with_reducible apply grantRequest_keeps
    | with_reducible refine keeps.foldl _ _ ?_ (fun y a hy => ?_)
    | with_reducible apply keeps.ite
    | with_reducible apply keepsParts_of
    | simp only [keeps_mk]
    | dsimp only
    | split
    | (intro y hy)

theorem takeWeights_keeps {s0 : State} (c : Nat) (d : Detection) (branches : List (List Nat)) {s : State} (h0 : keeps s0 s) :
    keeps s0 (takeWeights c d branches s) := by
  unfold takeWeights
  repeat' first
    | with_reducible assumption
    | with_reducible apply setCapture_keeps
    | with_reducible refine keeps.foldl _ _ ?_ (fun y a hy => ?_)
    | with_reducible apply keeps.ite
    | with_reducible apply keepsParts_of
    | simp only [keeps_mk]
    | dsimp only
    | split
    | (intro y hy)

theorem overrun_keeps {s0 : State} (c : Nat) {s : State} (h0 : keeps s0 s) :
    keeps s0 (overrun c s) := by
  unfold overrun
  repeat' first
    | with_reducible assumption
    | with_reducible apply endCapture_keeps
    | with_reducible refine keeps.foldl _ _ ?_ (fun y a hy => ?_)
    | with_reducible apply keeps.ite
    | with_reducible apply keepsParts_of
    | simp only [keeps_mk]
    | dsimp only
    | split
    | (intro y hy)

theorem takeBlock_keeps {s0 : State} (c : Nat) (d : Detection) (branches : List (List Nat)) {s : State} (h0 : keeps s0 s) :
    keeps s0 (takeBlock c d branches s) := by
  unfold takeBlock
  repeat' first
    | with_reducible assumption
    | with_reducible apply raiseToken_keeps
    | with_reducible apply setCapture_keeps
    | with_reducible refine keeps.foldl _ _ ?_ (fun y a hy => ?_)
    | with_reducible apply keeps.ite
    | with_reducible apply keepsParts_of
    | simp only [keeps_mk]
    | dsimp only
    | split
    | (intro y hy)

theorem forwardPart_keeps {s0 : State} (c : Nat) (part : Nat) (home : Nat) (octets : List Nat) {s : State} (h0 : keeps s0 s) :
    keeps s0 (forwardPart c part home octets s) := by
  unfold forwardPart
  repeat' first
    | with_reducible assumption
    | with_reducible apply cascadeSend_keeps
    | with_reducible refine keeps.foldl _ _ ?_ (fun y a hy => ?_)
    | with_reducible apply keeps.ite
    | with_reducible apply keepsParts_of
    | simp only [keeps_mk]
    | dsimp only
    | split
    | (intro y hy)

theorem earlyWork_keeps {s0 : State} (c : Nat) (d : Detection) {s : State} (h0 : keeps s0 s) :
    keeps s0 (earlyWork c d s) := by
  unfold earlyWork
  repeat' first
    | with_reducible assumption
    | with_reducible apply setCapture_keeps
    | with_reducible apply uncoverElsewhere_keeps
    | with_reducible apply forwardPart_keeps
    | with_reducible refine keeps.foldl _ _ ?_ (fun y a hy => ?_)
    | with_reducible apply keeps.ite
    | with_reducible apply keepsParts_of
    | simp only [keeps_mk]
    | dsimp only
    | split
    | (intro y hy)

theorem closeCapture_keeps {s0 : State} (c : Nat) (abandoned : Bool) {s : State} (h0 : keeps s0 s) :
    keeps s0 (closeCapture c abandoned s) := by
  unfold closeCapture
  repeat' first
    | with_reducible assumption
    | with_reducible apply drawFree_keeps
    | with_reducible apply setCapture_keeps
    | with_reducible apply forwardPart_keeps
    | with_reducible refine keeps.foldl _ _ ?_ (fun y a hy => ?_)
    | with_reducible apply keeps.ite
    | with_reducible apply keepsParts_of
    | simp only [keeps_mk]
    | dsimp only
    | split
    | (intro y hy)

theorem setHeld_keeps {s0 : State} (vi : Nat) (l : List Held) {s : State} (h0 : keeps s0 s) :
    keeps s0 (setHeld vi l s) := by
  unfold setHeld
  repeat' first
    | with_reducible assumption
    | with_reducible refine keeps.foldl _ _ ?_ (fun y a hy => ?_)
    | with_reducible apply keeps.ite
    | with_reducible apply keepsParts_of
    | simp only [keeps_mk]
    | dsimp only
    | split
    | (intro y hy)

theorem setCursor_keeps {s0 : State} (vi : Nat) (c : Nat) (v : Nat) {s : State} (h0 : keeps s0 s) :
    keeps s0 (setCursor vi c v s) := by
  unfold setCursor
  repeat' first
    | with_reducible assumption
    | with_reducible refine keeps.foldl _ _ ?_ (fun y a hy => ?_)
    | with_reducible apply keeps.ite
    | with_reducible apply keepsParts_of
    | simp only [keeps_mk]
    | dsimp only
    | split
    | (intro y hy)

theorem sendNotices_keeps {s0 : State} (vi : Nat) {s : State} (h0 : keeps s0 s) :
    keeps s0 (sendNotices vi s) := by
  unfold sendNotices
  repeat' first
    | with_reducible assumption
    | with_reducible apply notifyVi_keeps
    | with_reducible refine keeps.foldl _ _ ?_ (fun y a hy => ?_)
    | with_reducible apply keeps.ite
    | with_reducible apply keepsParts_of
    | simp only [keeps_mk]
    | dsimp only
    | split
    | (intro y hy)

theorem sendBatch_keeps {s0 : State} (vi : Nat) (c : Nat) {s : State} (h0 : keeps s0 s) :
    keeps s0 (sendBatch vi c s) := by
  unfold sendBatch
  repeat' first
    | with_reducible assumption
    | with_reducible apply sendNotices_keeps
    | with_reducible apply notifyOne_keeps
    | with_reducible apply setHeld_keeps
    | with_reducible apply setCursor_keeps
    | with_reducible refine keeps.foldl _ _ ?_ (fun y a hy => ?_)
    | with_reducible apply keeps.ite
    | with_reducible apply keepsParts_of
    | simp only [keeps_mk]
    | dsimp only
    | split
    | (intro y hy)

theorem leaveJournal_keeps {s0 : State} (l : List Held) {s : State} (h0 : keeps s0 s) :
    keeps s0 (leaveJournal l s) := by
  unfold leaveJournal
  repeat' first
    | with_reducible assumption
    | with_reducible refine keeps.foldl _ _ ?_ (fun y a hy => ?_)
    | with_reducible apply keeps.ite
    | with_reducible apply keepsParts_of
    | simp only [keeps_mk]
    | dsimp only
    | split
    | (intro y hy)

theorem releaseAcked_keeps {s0 : State} (vi : Nat) {s : State} (h0 : keeps s0 s) :
    keeps s0 (releaseAcked vi s) := by
  unfold releaseAcked
  repeat' first
    | with_reducible assumption
    | with_reducible apply setHeld_keeps
    | with_reducible apply leaveJournal_keeps
    | with_reducible refine keeps.foldl _ _ ?_ (fun y a hy => ?_)
    | with_reducible apply keeps.ite
    | with_reducible apply keepsParts_of
    | simp only [keeps_mk]
    | dsimp only
    | split
    | (intro y hy)

theorem takeVack_keeps {s0 : State} (vi : Nat) (addr : Nat) (vseq : Nat) {s : State} (h0 : keeps s0 s) :
    keeps s0 (takeVack vi addr vseq s) := by
  unfold takeVack
  repeat' first
    | with_reducible assumption
    | with_reducible apply setCursor_keeps
    | with_reducible apply releaseAcked_keeps
    | with_reducible refine keeps.foldl _ _ ?_ (fun y a hy => ?_)
    | with_reducible apply keeps.ite
    | with_reducible apply keepsParts_of
    | simp only [keeps_mk]
    | dsimp only
    | split
    | (intro y hy)

theorem rewind_keeps {s0 : State} (vi : Nat) (c : Nat) {s : State} (h0 : keeps s0 s) :
    keeps s0 (rewind vi c s) := by
  unfold rewind
  repeat' first
    | with_reducible assumption
    | with_reducible apply setCursor_keeps
    | with_reducible refine keeps.foldl _ _ ?_ (fun y a hy => ?_)
    | with_reducible apply keeps.ite
    | with_reducible apply keepsParts_of
    | simp only [keeps_mk]
    | dsimp only
    | split
    | (intro y hy)

theorem writeCollector_keeps {s0 : State} (vi : Nat) (c : Nat) (v : Nat) {s : State} (h0 : keeps s0 s) :
    keeps s0 (writeCollector vi c v s).1 := by
  unfold writeCollector
  repeat' first
    | with_reducible assumption
    | with_reducible apply putSetting_keeps
    | with_reducible apply setCursor_keeps
    | with_reducible apply releaseAcked_keeps
    | with_reducible refine keeps.foldl _ _ ?_ (fun y a hy => ?_)
    | with_reducible apply keeps.ite
    | with_reducible apply keepsParts_of
    | simp only [keeps_mk]
    | dsimp only
    | split
    | (intro y hy)

theorem setHome_keeps {s0 : State} (tag : Nat) (home : Nat) {s : State} (h0 : keeps s0 s) :
    keeps s0 (setHome tag home s) := by
  unfold setHome
  repeat' first
    | with_reducible assumption
    | with_reducible refine keeps.foldl _ _ ?_ (fun y a hy => ?_)
    | with_reducible apply keeps.ite
    | with_reducible apply keepsParts_of
    | simp only [keeps_mk]
    | dsimp only
    | split
    | (intro y hy)

theorem dirUpdate_keeps {s0 : State} (tag : Nat) (home : Nat) {s : State} (h0 : keeps s0 s) :
    keeps s0 (dirUpdate tag home s) := by
  unfold dirUpdate
  repeat' first
    | with_reducible assumption
    | with_reducible apply cascadeSend_keeps
    | with_reducible apply setHome_keeps
    | with_reducible refine keeps.foldl _ _ ?_ (fun y a hy => ?_)
    | with_reducible apply keeps.ite
    | with_reducible apply keepsParts_of
    | simp only [keeps_mk]
    | dsimp only
    | split
    | (intro y hy)

theorem bindKey_keeps {s0 : State} (h : Nat) {s : State} (h0 : keeps s0 s) :
    keeps s0 (bindKey h s) := by
  unfold bindKey
  repeat' first
    | with_reducible assumption
    | with_reducible apply setKeyState_keeps
    | with_reducible refine keeps.foldl _ _ ?_ (fun y a hy => ?_)
    | with_reducible apply keeps.ite
    | with_reducible apply keepsParts_of
    | simp only [keeps_mk]
    | dsimp only
    | split
    | (intro y hy)

theorem unbindKey_keeps {s0 : State} (h : Nat) {s : State} (h0 : keeps s0 s) :
    keeps s0 (unbindKey h s) := by
  unfold unbindKey
  repeat' first
    | with_reducible assumption
    | with_reducible apply setKeyState_keeps
    | with_reducible refine keeps.foldl _ _ ?_ (fun y a hy => ?_)
    | with_reducible apply keeps.ite
    | with_reducible apply keepsParts_of
    | simp only [keeps_mk]
    | dsimp only
    | split
    | (intro y hy)

theorem occupy_keeps {s0 : State} (cause : Nat) (slot : Nat) (e : Entry) (a : Account) (charge : Nat) {s : State} (h0 : keeps s0 s) :
    keeps s0 (occupy cause slot e a charge s) := by
  unfold occupy
  repeat' first
    | with_reducible assumption
    | with_reducible apply journalRoll_keeps
    | with_reducible apply bindKey_keeps
    | with_reducible apply commit_keeps
    | with_reducible apply setHome_keeps
    | with_reducible apply dirUpdate_keeps
    | with_reducible refine keeps.foldl _ _ ?_ (fun y a hy => ?_)
    | with_reducible apply keeps.ite
    | with_reducible apply keepsParts_of
    | simp only [keeps_mk]
    | dsimp only
    | split
    | (intro y hy)

theorem enrolEntry_keeps {s0 : State} (vi : Nat) (slot : Nat) (b : Enrolment) {s : State} (h0 : keeps s0 s) :
    keeps s0 (enrolEntry vi slot b s) := by
  unfold enrolEntry
  repeat' first
    | with_reducible assumption
    | with_reducible apply occupy_keeps
    | with_reducible refine keeps.foldl _ _ ?_ (fun y a hy => ?_)
    | with_reducible apply keeps.ite
    | with_reducible apply keepsParts_of
    | simp only [keeps_mk]
    | dsimp only
    | split
    | (intro y hy)

theorem retireEntry_keeps {s0 : State} (cause : Nat) (slot : Nat) (transfer : Bool) {s : State} (h0 : keeps s0 s) :
    keeps s0 (retireEntry cause slot transfer s) := by
  unfold retireEntry
  repeat' first
    | with_reducible assumption
    | with_reducible apply endDeferredOf_keeps
    | with_reducible apply endBurstsOf_keeps
    | with_reducible apply journalRoll_keeps
    | with_reducible apply setAccount_keeps
    | with_reducible apply setEntry_keeps
    | with_reducible apply monoBump_keeps
    | with_reducible apply unbindKey_keeps
    | with_reducible apply dirUpdate_keeps
    | with_reducible refine keeps.foldl _ _ ?_ (fun y a hy => ?_)
    | with_reducible apply keeps.ite
    | with_reducible apply keepsParts_of
    | simp only [keeps_mk]
    | dsimp only
    | split
    | (intro y hy)

theorem touchFirst_keeps {s0 : State} (slot : Nat) {s : State} (h0 : keeps s0 s) :
    keeps s0 (touchFirst slot s) := by
  unfold touchFirst
  repeat' first
    | with_reducible assumption
    | with_reducible apply touch_keeps
    | with_reducible refine keeps.foldl _ _ ?_ (fun y a hy => ?_)
    | with_reducible apply keeps.ite
    | with_reducible apply keepsParts_of
    | simp only [keeps_mk]
    | dsimp only
    | split
    | (intro y hy)

theorem enrolCheck_keeps {s0 : State} (vi slot : Nat) (rep : Bool) (b : Enrolment) {s : State} (h0 : keeps s0 s) (r : State × Status)
    (h : enrolCheck vi slot rep b s = some r) : keeps s0 r.1 := by
  unfold enrolCheck at h
  dsimp only at h
  split at h
  · cases h; exact h0
  · split at h
    · cases h; exact h0
    · split at h
      · cases h; exact h0
      · split at h
        · cases h; rw [keeps_mk]; exact ⟨h0.pending, h0.mem, h0.seq⟩
        · split at h
          · cases h; exact h0
          · split at h
            · cases h; exact h0
            · cases h

theorem writeEnrol_keeps {s0 : State} (vi slot v : Nat) {s : State} (h0 : keeps s0 s) : keeps s0 (writeEnrol vi slot v s).1 := by
  unfold writeEnrol
  dsimp only
  split
  · exact h0
  · split
    · rename_i e; exact enrolCheck_keeps _ _ _ _ (touchFirst_keeps _ h0) _ e
    · exact enrolEntry_keeps _ _ _ (touchFirst_keeps _ h0)

theorem writeReplace_keeps {s0 : State} (vi slot v : Nat) {s : State} (h0 : keeps s0 s) : keeps s0 (writeReplace vi slot v s).1 := by
  unfold writeReplace
  dsimp only
  split
  · exact h0
  · split
    · rename_i e; exact enrolCheck_keeps _ _ _ _ (touchFirst_keeps _ h0) _ e
    · exact monoBump_keeps _ _ _ (enrolEntry_keeps _ _ _ (retireEntry_keeps _ _ _ (touchFirst_keeps _ h0)))

theorem writeRetire_keeps {s0 : State} (slot : Nat) {s : State} (h0 : keeps s0 s) :
    keeps s0 (writeRetire slot s).1 := by
  unfold writeRetire
  repeat' first
    | with_reducible assumption
    | with_reducible apply touchFirst_keeps
    | with_reducible apply retireEntry_keeps
    | with_reducible refine keeps.foldl _ _ ?_ (fun y a hy => ?_)
    | with_reducible apply keeps.ite
    | with_reducible apply keepsParts_of
    | simp only [keeps_mk]
    | dsimp only
    | split
    | (intro y hy)

theorem buildBurst_keeps {s0 : State} (b : Burst) {s : State} (h0 : keeps s0 s) :
    keeps s0 (buildBurst b s) := by
  unfold buildBurst
  repeat' first
    | with_reducible assumption
    | with_reducible apply modBurst_keeps
    | with_reducible apply takeDcnt_keeps
    | with_reducible refine keeps.foldl _ _ ?_ (fun y a hy => ?_)
    | with_reducible apply keeps.ite
    | with_reducible apply keepsParts_of
    | simp only [keeps_mk]
    | dsimp only
    | split
    | (intro y hy)

theorem rekeyEntry_keeps {s0 : State} (slot : Nat) (keyh : Nat) (dstart : Nat) {s : State} (h0 : keeps s0 s) :
    keeps s0 (rekeyEntry slot keyh dstart s) := by
  unfold rekeyEntry
  repeat' first
    | with_reducible assumption
    | with_reducible apply buildBurst_keeps
    | with_reducible apply journalRoll_keeps
    | with_reducible apply monoBump_keeps
    | with_reducible apply bindKey_keeps
    | with_reducible apply commit_keeps
    | with_reducible refine keeps.foldl _ _ ?_ (fun y a hy => ?_)
    | with_reducible apply keeps.ite
    | with_reducible apply keepsParts_of
    | simp only [keeps_mk]
    | dsimp only
    | split
    | (intro y hy)

theorem writeRekey_keeps {s0 : State} (vi : Nat) (slot : Nat) (v : Nat) {s : State} (h0 : keeps s0 s) :
    keeps s0 (writeRekey vi slot v s).1 := by
  unfold writeRekey
  repeat' first
    | with_reducible assumption
    | with_reducible apply touchFirst_keeps
    | with_reducible apply rekeyEntry_keeps
    | with_reducible refine keeps.foldl _ _ ?_ (fun y a hy => ?_)
    | with_reducible apply keeps.ite
    | with_reducible apply keepsParts_of
    | simp only [keeps_mk]
    | dsimp only
    | split
    | (intro y hy)

theorem releaseShadow_keeps {s0 : State} (slot : Nat) {s : State} (h0 : keeps s0 s) :
    keeps s0 (releaseShadow slot s) := by
  unfold releaseShadow
  repeat' first
    | with_reducible assumption
    | with_reducible apply wipeKey_keeps
    | with_reducible apply commit_keeps
    | with_reducible refine keeps.foldl _ _ ?_ (fun y a hy => ?_)
    | with_reducible apply keeps.ite
    | with_reducible apply keepsParts_of
    | simp only [keeps_mk]
    | dsimp only
    | split
    | (intro y hy)

theorem entryWrite_keeps {s0 : State} (slot : Nat) (f : State → State × Status) {s : State} (hf0 : ∀ y, keeps s0 y → keeps s0 (f y).1) (h1 : keeps s0 s) :
    keeps s0 (entryWrite slot f s).1 := by
  unfold entryWrite
  repeat' first
    | with_reducible assumption
    | with_reducible apply hf0
    | with_reducible apply touchFirst_keeps
    | with_reducible refine keeps.foldl _ _ ?_ (fun y a hy => ?_)
    | with_reducible apply keeps.ite
    | with_reducible apply keepsParts_of
    | simp only [keeps_mk]
    | dsimp only
    | split
    | (intro y hy)

theorem changeEntry_keeps {s0 : State} (slot : Nat) (f : Entry → Entry) {s : State} (h0 : keeps s0 s) :
    keeps s0 (changeEntry slot f s).1 := by
  unfold changeEntry
  repeat' first
    | with_reducible assumption
    | with_reducible apply commit_keeps
    | with_reducible refine keeps.foldl _ _ ?_ (fun y a hy => ?_)
    | with_reducible apply keeps.ite
    | with_reducible apply keepsParts_of
    | simp only [keeps_mk]
    | dsimp only
    | split
    | (intro y hy)

theorem writeStatus_keeps {s0 : State} (slot v : Nat) {s : State} (h0 : keeps s0 s) : keeps s0 (writeStatus slot v s).1 := by
  unfold writeStatus
  refine entryWrite_keeps _ _ (fun y hy => ?_) h0
  split
  · exact hy
  · split
    · exact changeEntry_keeps _ _ hy
    · split
      · exact changeEntry_keeps _ _ hy
      · exact hy

theorem writeCharge_keeps {s0 : State} (slot v : Nat) {s : State} (h0 : keeps s0 s) : keeps s0 (writeCharge slot v s).1 := by
  unfold writeCharge
  exact entryWrite_keeps _ _ (fun y hy => commit_keeps _ _ _ hy) h0

theorem writeRaise_keeps {s0 : State} (slot v : Nat) {s : State} (h0 : keeps s0 s) : keeps s0 (writeRaise slot v s).1 := by
  unfold writeRaise
  refine entryWrite_keeps _ _ (fun y hy => ?_) h0
  dsimp only
  split
  · exact monoBump_keeps _ _ _ hy
  · exact changeEntry_keeps _ _ hy

theorem writeModel_keeps {s0 : State} (slot : Nat) (v : Nat) {z2 : State} (h0 : keeps s0 z2) :
    keeps s0 (writeModel slot v z2).1 := by
  unfold writeModel
  repeat' first
    | with_reducible assumption
    | with_reducible apply entryWrite_keeps
    | with_reducible apply changeEntry_keeps
    | with_reducible refine keeps.foldl _ _ ?_ (fun y a hy => ?_)
    | with_reducible apply keeps.ite
    | with_reducible apply keepsParts_of
    | simp only [keeps_mk]
    | dsimp only
    | split
    | (intro y hy)

theorem writePlan_keeps {s0 : State} (slot : Nat) (v : Nat) {z2 : State} (h0 : keeps s0 z2) :
    keeps s0 (writePlan slot v z2).1 := by
  unfold writePlan
  repeat' first
    | with_reducible assumption
    | with_reducible apply entryWrite_keeps
    | with_reducible apply changeEntry_keeps
    | with_reducible refine keeps.foldl _ _ ?_ (fun y a hy => ?_)
    | with_reducible apply keeps.ite
    | with_reducible apply keepsParts_of
    | simp only [keeps_mk]
    | dsimp only
    | split
    | (intro y hy)

theorem writeGrant_keeps {s0 : State} (slot v : Nat) {s : State} (h0 : keeps s0 s) : keeps s0 (writeGrant slot v s).1 := by
  unfold writeGrant
  refine entryWrite_keeps _ _ (fun y hy => ?_) h0
  dsimp only
  split
  · exact hy
  · split
    · exact hy
    · exact commit_keeps _ _ _ (by rw [keeps_mk]; exact ⟨hy.pending, hy.mem, hy.seq⟩)

theorem writeBudget_keeps {s0 : State} (vi : Nat) (v : Nat) {s : State} (h0 : keeps s0 s) :
    keeps s0 (writeBudget vi v s).1 := by
  unfold writeBudget
  repeat' first
    | with_reducible assumption
    | with_reducible refine keeps.foldl _ _ ?_ (fun y a hy => ?_)
    | with_reducible apply keeps.ite
    | with_reducible apply keepsParts_of
    | simp only [keeps_mk]
    | dsimp only
    | split
    | (intro y hy)

theorem applySlices_keeps {s0 : State} (l : List SliceItem) {s : State} (h0 : keeps s0 s) :
    keeps s0 (applySlices l s) := by
  unfold applySlices
  repeat' first
    | with_reducible assumption
    | with_reducible apply putSetting_keeps
    | with_reducible refine keeps.foldl _ _ ?_ (fun y a hy => ?_)
    | with_reducible apply keeps.ite
    | with_reducible apply keepsParts_of
    | simp only [keeps_mk]
    | dsimp only
    | split
    | (intro y hy)

theorem writeSlices_keeps {s0 : State} (vi : Nat) (l : List SliceItem) {s : State} (h0 : keeps s0 s) :
    keeps s0 (writeSlices vi l s).1 := by
  unfold writeSlices
  repeat' first
    | with_reducible assumption
    | with_reducible apply applySlices_keeps
    | with_reducible refine keeps.foldl _ _ ?_ (fun y a hy => ?_)
    | with_reducible apply keeps.ite
    | with_reducible apply keepsParts_of
    | simp only [keeps_mk]
    | dsimp only
    | split
    | (intro y hy)

theorem dailySweep_keeps {s0 : State} {s : State} (h0 : keeps s0 s) :
    keeps s0 (dailySweep s) := by
  unfold dailySweep
  repeat' first
    | with_reducible assumption
    | with_reducible apply touch_keeps
    | with_reducible refine keeps.foldl _ _ ?_ (fun y a hy => ?_)
    | with_reducible apply keeps.ite
    | with_reducible apply keepsParts_of
    | simp only [keeps_mk]
    | dsimp only
    | split
    | (intro y hy)

theorem applyJournal_keeps {s0 : State} (n : Nat) {s : State} (h0 : keeps s0 s) :
    keeps s0 (applyJournal n s) := by
  unfold applyJournal
  repeat' first
    | with_reducible assumption
    | with_reducible refine keeps.foldl _ _ ?_ (fun y a hy => ?_)
    | with_reducible apply keeps.ite
    | with_reducible apply keepsParts_of
    | simp only [keeps_mk]
    | dsimp only
    | split
    | (intro y hy)

theorem markUnverified_keeps {s0 : State} (acct : Nat) (first : Nat) (last : Nat) {s : State} (h0 : keeps s0 s) :
    keeps s0 (markUnverified acct first last s) := by
  unfold markUnverified
  repeat' first
    | with_reducible assumption
    | with_reducible refine keeps.foldl _ _ ?_ (fun y a hy => ?_)
    | with_reducible apply keeps.ite
    | with_reducible apply keepsParts_of
    | simp only [keeps_mk]
    | dsimp only
    | split
    | (intro y hy)

theorem repairEntry_keeps {s0 : State} (slot : Nat) (w : Nat) (readable : Bool) {s : State} (h0 : keeps s0 s) :
    keeps s0 (repairEntry slot w readable s) := by
  unfold repairEntry
  repeat' first
    | with_reducible assumption
    | with_reducible apply setEntry_keeps
    | with_reducible apply drawFree_keeps
    | with_reducible apply commit_keeps
    | with_reducible apply monoBump_keeps
    | with_reducible apply markUnverified_keeps
    | with_reducible refine keeps.foldl _ _ ?_ (fun y a hy => ?_)
    | with_reducible apply keeps.ite
    | with_reducible apply keepsParts_of
    | simp only [keeps_mk]
    | dsimp only
    | split
    | (intro y hy)

theorem setPstatus_keeps {s0 : State} (t : Nat) (st : Status) {s : State} (h0 : keeps s0 s) :
    keeps s0 (setPstatus t st s) := by
  unfold setPstatus
  repeat' first
    | with_reducible assumption
    | with_reducible apply modTile_keeps
    | with_reducible refine keeps.foldl _ _ ?_ (fun y a hy => ?_)
    | with_reducible apply keeps.ite
    | with_reducible apply keepsParts_of
    | simp only [keeps_mk]
    | dsimp only
    | split
    | (intro y hy)

theorem emitInto_keeps {s0 : State} (o : OpRec) (dest : Nat) (flow : Nat) (arg : Nat) (buf : Nat) {s : State} (h0 : keeps s0 s) :
    keeps s0 (emitInto o dest flow arg buf s) := by
  unfold emitInto
  repeat' first
    | with_reducible assumption
    | with_reducible apply bufAddRef_keeps
    | with_reducible apply modOp_keeps
    | with_reducible refine keeps.foldl _ _ ?_ (fun y a hy => ?_)
    | with_reducible apply keeps.ite
    | with_reducible apply keepsParts_of
    | simp only [keeps_mk]
    | dsimp only
    | split
    | (intro y hy)

theorem emitToken_keeps {s0 : State} (t : Nat) {s : State} (h0 : keeps s0 s) :
    keeps s0 (emitToken t s) := by
  unfold emitToken
  repeat' first
    | with_reducible assumption
    | with_reducible apply setPstatus_keeps
    | with_reducible apply emitInto_keeps
    | with_reducible refine keeps.foldl _ _ ?_ (fun y a hy => ?_)
    | with_reducible apply keeps.ite
    | with_reducible apply keepsParts_of
    | simp only [keeps_mk]
    | dsimp only
    | split
    | (intro y hy)

theorem doneOp_keeps {s0 : State} (t : Nat) {s : State} (h0 : keeps s0 s) :
    keeps s0 (doneOp t s) := by
  unfold doneOp
  repeat' first
    | with_reducible assumption
    | with_reducible apply setPstatus_keeps
    | with_reducible apply completeOp_keeps
    | with_reducible apply modTile_keeps
    | with_reducible refine keeps.foldl _ _ ?_ (fun y a hy => ?_)
    | with_reducible apply keeps.ite
    | with_reducible apply keepsParts_of
    | simp only [keeps_mk]
    | dsimp only
    | split
    | (intro y hy)

theorem bufAlloc_keeps {s0 : State} (t : Nat) {s : State} (h0 : keeps s0 s) :
    keeps s0 (bufAlloc t s).1 := by
  unfold bufAlloc
  repeat' first
    | with_reducible assumption
    | with_reducible apply drawFree_keeps
    | with_reducible apply pfBump_keeps
    | with_reducible apply modOp_keeps
    | with_reducible apply bufAddRef_keeps
    | with_reducible refine keeps.foldl _ _ ?_ (fun y a hy => ?_)
    | with_reducible apply keeps.ite
    | with_reducible apply keepsParts_of
    | simp only [keeps_mk]
    | dsimp only
    | split
    | (intro y hy)

theorem bufFree_keeps {s0 : State} (t : Nat) (h : Nat) {s : State} (h0 : keeps s0 s) :
    keeps s0 (bufFree t h s) := by
  unfold bufFree
  repeat' first
    | with_reducible assumption
    | with_reducible apply setPstatus_keeps
    | with_reducible apply modOp_keeps
    | with_reducible apply bufDrop_keeps
    | with_reducible refine keeps.foldl _ _ ?_ (fun y a hy => ?_)
    | with_reducible apply keeps.ite
    | with_reducible apply keepsParts_of
    | simp only [keeps_mk]
    | dsimp only
    | split
    | (intro y hy)

theorem windowRead_keeps {s0 : State} (t : Nat) (off : Nat) {s : State} (h0 : keeps s0 s) :
    keeps s0 (windowRead t off s).1 := by
  unfold windowRead
  repeat' first
    | with_reducible assumption
    | with_reducible apply bufAlloc_keeps
    | with_reducible refine keeps.foldl _ _ ?_ (fun y a hy => ?_)
    | with_reducible apply keeps.ite
    | with_reducible apply keepsParts_of
    | simp only [keeps_mk]
    | dsimp only
    | split
    | (intro y hy)

theorem windowWrite_keeps {s0 : State} (t : Nat) (off : Nat) (v : Word) {s : State} (h0 : keeps s0 s) :
    keeps s0 (windowWrite t off v s) := by
  unfold windowWrite
  repeat' first
    | with_reducible assumption
    | with_reducible apply modTile_keeps
    | with_reducible apply emitToken_keeps
    | with_reducible apply doneOp_keeps
    | with_reducible apply bufFree_keeps
    | with_reducible refine keeps.foldl _ _ ?_ (fun y a hy => ?_)
    | with_reducible apply keeps.ite
    | with_reducible apply keepsParts_of
    | simp only [keeps_mk]
    | dsimp only
    | split
    | (intro y hy)

theorem enterHost_keeps {s0 : State} (t : Nat) (w : Trap) (tpc : Word) {s : State} (h0 : keeps s0 s) :
    keeps s0 (enterHost t w tpc s) := by
  unfold enterHost
  repeat' first
    | with_reducible assumption
    | with_reducible apply undefineCx_keeps
    | with_reducible apply modTile_keeps
    | with_reducible refine keeps.foldl _ _ ?_ (fun y a hy => ?_)
    | with_reducible apply keeps.ite
    | with_reducible apply keepsParts_of
    | simp only [keeps_mk]
    | dsimp only
    | split
    | (intro y hy)

theorem trapService_keeps {s0 : State} (t : Nat) {s : State} (h0 : keeps s0 s) :
    keeps s0 (trapService t s) := by
  unfold trapService
  repeat' first
    | with_reducible assumption
    | with_reducible apply trapOp_keeps
    | with_reducible apply modTile_keeps
    | with_reducible refine keeps.foldl _ _ ?_ (fun y a hy => ?_)
    | with_reducible apply keeps.ite
    | with_reducible apply keepsParts_of
    | simp only [keeps_mk]
    | dsimp only
    | split
    | (intro y hy)

theorem countTrap_keeps {s0 : State} (t : Nat) (code : Nat) {s : State} (h0 : keeps s0 s) :
    keeps s0 (countTrap t code s) := by
  unfold countTrap
  repeat' first
    | with_reducible assumption
    | with_reducible apply setCard_keeps
    | with_reducible apply modTile_keeps
    | with_reducible refine keeps.foldl _ _ ?_ (fun y a hy => ?_)
    | with_reducible apply keeps.ite
    | with_reducible apply keepsParts_of
    | simp only [keeps_mk]
    | dsimp only
    | split
    | (intro y hy)

theorem takeStop_keeps {s0 : State} (t : Nat) {s : State} (h0 : keeps s0 s) :
    keeps s0 (takeStop t s) := by
  unfold takeStop
  repeat' first
    | with_reducible assumption
    | with_reducible apply enterHost_keeps
    | with_reducible apply countTrap_keeps
    | with_reducible apply releasePassesOfNode_keeps
    | with_reducible apply trapService_keeps
    | with_reducible refine keeps.foldl _ _ ?_ (fun y a hy => ?_)
    | with_reducible apply keeps.ite
    | with_reducible apply keepsParts_of
    | simp only [keeps_mk]
    | dsimp only
    | split
    | (intro y hy)

theorem fenceEcc_keeps {s0 : State} (t : Nat) (addr : Word) {s : State} (h0 : keeps s0 s) :
    keeps s0 (fenceEcc t addr s) := by
  unfold fenceEcc
  repeat' first
    | with_reducible assumption
    | with_reducible apply settle_keeps
    | with_reducible apply fenceTile_keeps
    | with_reducible apply errRecord_keeps
    | with_reducible refine keeps.foldl _ _ ?_ (fun y a hy => ?_)
    | with_reducible apply keeps.ite
    | with_reducible apply keepsParts_of
    | simp only [keeps_mk]
    | dsimp only
    | split
    | (intro y hy)

theorem takeTrap_keeps {s0 : State} (t : Nat) (w : Trap) {s : State} (h0 : keeps s0 s) :
    keeps s0 (takeTrap t w s) := by
  unfold takeTrap
  repeat' first
    | with_reducible assumption
    | with_reducible apply enterHost_keeps
    | with_reducible apply countTrap_keeps
    | with_reducible apply releasePassesOfNode_keeps
    | with_reducible apply trapService_keeps
    | with_reducible apply fenceEcc_keeps
    | with_reducible apply modTile_keeps
    | with_reducible apply errRecord_keeps
    | with_reducible apply settle_keeps
    | with_reducible apply fenceTile_keeps
    | with_reducible refine keeps.foldl _ _ ?_ (fun y a hy => ?_)
    | with_reducible apply keeps.ite
    | with_reducible apply keepsParts_of
    | simp only [keeps_mk]
    | dsimp only
    | split
    | (intro y hy)

theorem meshLoad_keeps {s0 : State} (t : Nat) (g : Nat) (n : Nat) (resp : Option Status) {s : State} (h0 : keeps s0 s) :
    keeps s0 (meshLoad t g n resp s).1 := by
  unfold meshLoad
  repeat' first
    | with_reducible assumption
    | with_reducible apply chooseTid_keeps
    | with_reducible apply passRequest_keeps
    | with_reducible apply readSplit_keeps
    | with_reducible refine keeps.foldl _ _ ?_ (fun y a hy => ?_)
    | with_reducible apply keeps.ite
    | with_reducible apply keepsParts_of
    | simp only [keeps_mk]
    | dsimp only
    | split
    | (intro y hy)

theorem postStore_keeps {s0 : State} (t : Nat) (r : Run) {s : State} (h0 : keeps s0 s) :
    keeps s0 (postStore t r s) := by
  unfold postStore
  repeat' first
    | with_reducible assumption
    | with_reducible apply chooseTid_keeps
    | with_reducible apply passRequest_keeps
    | with_reducible apply serveWrite_keeps
    | with_reducible apply modTile_keeps
    | with_reducible refine keeps.foldl _ _ ?_ (fun y a hy => ?_)
    | with_reducible apply keeps.ite
    | with_reducible apply keepsParts_of
    | simp only [keeps_mk]
    | dsimp only
    | split
    | (intro y hy)

theorem serve_keeps {s0 : State} (o : OpRec) (l : Nat) (p : Nat) {s : State} (h0 : keeps s0 s) :
    keeps s0 (serve o l p s) := by
  unfold serve
  repeat' first
    | with_reducible assumption
    | with_reducible apply modOp_keeps
    | with_reducible apply noteBlocks_keeps
    | with_reducible apply trace_keeps
    | with_reducible refine keeps.foldl _ _ ?_ (fun y a hy => ?_)
    | with_reducible apply keeps.ite
    | with_reducible apply keepsParts_of
    | simp only [keeps_mk]
    | dsimp only
    | split
    | (intro y hy)

theorem completeWaitop_keeps {s0 : State} (t : Nat) (opseq : Nat) {s : State} (h0 : keeps s0 s) :
    keeps s0 (completeWaitop t opseq s) := by
  unfold completeWaitop
  repeat' first
    | with_reducible assumption
    | with_reducible apply modTile_keeps
    | with_reducible apply castVote_keeps
    | with_reducible refine keeps.foldl _ _ ?_ (fun y a hy => ?_)
    | with_reducible apply keeps.ite
    | with_reducible apply keepsParts_of
    | simp only [keeps_mk]
    | dsimp only
    | split
    | (intro y hy)

theorem writeMap_keeps {s0 : State} (l : Nat) (v : Nat) {s : State} (h0 : keeps s0 s) :
    keeps s0 (writeMap l v s).1 := by
  unfold writeMap
  repeat' first
    | with_reducible assumption
    | with_reducible apply bindUnit_keeps
    | with_reducible apply noteBlocks_keeps
    | with_reducible apply setDrain_keeps
    | with_reducible refine keeps.foldl _ _ ?_ (fun y a hy => ?_)
    | with_reducible apply keeps.ite
    | with_reducible apply keepsParts_of
    | simp only [keeps_mk]
    | dsimp only
    | split
    | (intro y hy)

theorem substitute_keeps {s0 : State} (l : Nat) (failed : List Nat) {s : State} (h0 : keeps s0 s) :
    keeps s0 (substitute l failed s) := by
  unfold substitute
  repeat' first
    | with_reducible assumption
    | with_reducible apply noteBlocks_keeps
    | with_reducible apply setDrain_keeps
    | with_reducible apply failSubstitutes_keeps
    | with_reducible apply moveTile_keeps
    | with_reducible apply closeErr_keeps
    | with_reducible apply setInvalid_keeps
    | with_reducible refine keeps.foldl _ _ ?_ (fun y a hy => ?_)
    | with_reducible apply keeps.ite
    | with_reducible apply keepsParts_of
    | simp only [keeps_mk]
    | dsimp only
    | split
    | (intro y hy)

theorem eccRate_keeps {s0 : State} (u : Nat) {s : State} (h0 : keeps s0 s) :
    keeps s0 (eccRate u s) := by
  unfold eccRate
  repeat' first
    | with_reducible assumption
    | with_reducible apply errRecord_keeps
    | with_reducible apply setCard_keeps
    | with_reducible apply fenceUnit_keeps
    | with_reducible refine keeps.foldl _ _ ?_ (fun y a hy => ?_)
    | with_reducible apply keeps.ite
    | with_reducible apply keepsParts_of
    | simp only [keeps_mk]
    | dsimp only
    | split
    | (intro y hy)

theorem countCorr_keeps {s0 : State} (u : Nat) (n : Nat) {s : State} (h0 : keeps s0 s) :
    keeps s0 (countCorr u n s) := by
  unfold countCorr
  repeat' first
    | with_reducible assumption
    | with_reducible apply setCard_keeps
    | with_reducible apply modTile_keeps
    | with_reducible apply eccRate_keeps
    | with_reducible refine keeps.foldl _ _ ?_ (fun y a hy => ?_)
    | with_reducible apply keeps.ite
    | with_reducible apply keepsParts_of
    | simp only [keeps_mk]
    | dsimp only
    | split
    | (intro y hy)

theorem poisonAt_keeps {s0 : State} (addr : Nat) {s : State} (h0 : keeps s0 s) :
    keeps s0 (poisonAt addr s) := by
  unfold poisonAt
  repeat' first
    | with_reducible assumption
    | with_reducible apply setKey_keeps
    | with_reducible apply setWordPoison_keeps
    | with_reducible refine keeps.foldl _ _ ?_ (fun y a hy => ?_)
    | with_reducible apply keeps.ite
    | with_reducible apply keepsParts_of
    | simp only [keeps_mk]
    | dsimp only
    | split
    | (intro y hy)

theorem uncorrectable_keeps {s0 : State} (u : Nat) (alwaysOn : Bool) (addr : Nat) {s : State} (h0 : keeps s0 s) :
    keeps s0 (uncorrectable u alwaysOn addr s) := by
  unfold uncorrectable
  repeat' first
    | with_reducible assumption
    | with_reducible apply escalateWith_keeps
    | with_reducible apply errRecord_keeps
    | with_reducible apply poisonAt_keeps
    | with_reducible apply fenceUnit_keeps
    | with_reducible refine keeps.foldl _ _ ?_ (fun y a hy => ?_)
    | with_reducible apply keeps.ite
    | with_reducible apply keepsParts_of
    | simp only [keeps_mk]
    | dsimp only
    | split
    | (intro y hy)

theorem scrub_keeps {s0 : State} (u : Nat) (alwaysOn : Bool) (n : Nat) (bad : List Nat) {s : State} (h0 : keeps s0 s) :
    keeps s0 (scrub u alwaysOn n bad s) := by
  unfold scrub
  repeat' first
    | with_reducible assumption
    | with_reducible apply uncorrectable_keeps
    | with_reducible apply countCorr_keeps
    | with_reducible refine keeps.foldl _ _ ?_ (fun y a hy => ?_)
    | with_reducible apply keeps.ite
    | with_reducible apply keepsParts_of
    | simp only [keeps_mk]
    | dsimp only
    | split
    | (intro y hy)

theorem writeAck_keeps {s0 : State} (v : Nat) {s : State} (h0 : keeps s0 s) :
    keeps s0 (writeAck v s).1 := by
  unfold writeAck
  repeat' first
    | with_reducible assumption
    | with_reducible apply settleRelays_keeps
    | with_reducible refine keeps.foldl _ _ ?_ (fun y a hy => ?_)
    | with_reducible apply keeps.ite
    | with_reducible apply keepsParts_of
    | simp only [keeps_mk]
    | dsimp only
    | split
    | (intro y hy)

theorem pairFails_keeps {s0 : State} (p : Nat) (detail : Nat) {s : State} (h0 : keeps s0 s) :
    keeps s0 (pairFails p detail s) := by
  unfold pairFails
  repeat' first
    | with_reducible assumption
    | with_reducible apply fencePair_keeps
    | with_reducible apply errRecord_keeps
    | with_reducible refine keeps.foldl _ _ ?_ (fun y a hy => ?_)
    | with_reducible apply keeps.ite
    | with_reducible apply keepsParts_of
    | simp only [keeps_mk]
    | dsimp only
    | split
    | (intro y hy)

theorem failover_keeps {s0 : State} (p : Nat) {s : State} (h0 : keeps s0 s) :
    keeps s0 (failover p s) := by
  unfold failover
  repeat' first
    | with_reducible assumption
    | with_reducible apply setOffice_keeps
    | with_reducible apply setCard_keeps
    | with_reducible apply event_keeps
    | with_reducible apply closeGroups_keeps
    | with_reducible apply rewind_keeps
    | with_reducible apply setHeld_keeps
    | with_reducible refine keeps.foldl _ _ ?_ (fun y a hy => ?_)
    | with_reducible apply keeps.ite
    | with_reducible apply keepsParts_of
    | simp only [keeps_mk]
    | dsimp only
    | split
    | (intro y hy)

theorem undetain_keeps {s0 : State} (u : Nat) {s : State} (h0 : keeps s0 s) :
    keeps s0 (undetain u s) := by
  unfold undetain
  repeat' first
    | with_reducible assumption
    | with_reducible apply setCard_keeps
    | with_reducible refine keeps.foldl _ _ ?_ (fun y a hy => ?_)
    | with_reducible apply keeps.ite
    | with_reducible apply keepsParts_of
    | simp only [keeps_mk]
    | dsimp only
    | split
    | (intro y hy)

theorem openPort_keeps {s0 : State} (d : Nat) {s : State} (h0 : keeps s0 s) :
    keeps s0 (openPort d s) := by
  unfold openPort
  repeat' first
    | with_reducible assumption
    | with_reducible apply setDomain_keeps
    | with_reducible refine keeps.foldl _ _ ?_ (fun y a hy => ?_)
    | with_reducible apply keeps.ite
    | with_reducible apply keepsParts_of
    | simp only [keeps_mk]
    | dsimp only
    | split
    | (intro y hy)

theorem takeOrphan_keeps {s0 : State} (u : Nat) {s : State} (h0 : keeps s0 s) :
    keeps s0 (takeOrphan u s) := by
  unfold takeOrphan
  repeat' first
    | with_reducible assumption
    | with_reducible apply bindUnit_keeps
    | with_reducible refine keeps.foldl _ _ ?_ (fun y a hy => ?_)
    | with_reducible apply keeps.ite
    | with_reducible apply keepsParts_of
    | simp only [keeps_mk]
    | dsimp only
    | split
    | (intro y hy)

theorem releaseUnit_keeps {s0 : State} (u : Nat) {s : State} (h0 : keeps s0 s) :
    keeps s0 (releaseUnit u s) := by
  unfold releaseUnit
  repeat' first
    | with_reducible assumption
    | with_reducible apply undetain_keeps
    | with_reducible apply refreshCard_keeps
    | with_reducible apply openPort_keeps
    | with_reducible apply setTile_keeps
    | with_reducible apply takeOrphan_keeps
    | with_reducible apply setEngine_keeps
    | with_reducible apply setOffice_keeps
    | with_reducible refine keeps.foldl _ _ ?_ (fun y a hy => ?_)
    | with_reducible apply keeps.ite
    | with_reducible apply keepsParts_of
    | simp only [keeps_mk]
    | dsimp only
    | split
    | (intro y hy)

theorem writeRelease_keeps {s0 : State} (v : Nat) (pass : Bool) {s : State} (h0 : keeps s0 s) :
    keeps s0 (writeRelease v pass s).1 := by
  unfold writeRelease
  repeat' first
    | with_reducible assumption
    | with_reducible apply settle_keeps
    | with_reducible apply releaseUnit_keeps
    | with_reducible refine keeps.foldl _ _ ?_ (fun y a hy => ?_)
    | with_reducible apply keeps.ite
    | with_reducible apply keepsParts_of
    | simp only [keeps_mk]
    | dsimp only
    | split
    | (intro y hy)

theorem clearDescriptors_keeps {s0 : State} {s : State} (h0 : keeps s0 s) :
    keeps s0 (clearDescriptors s).1 := by
  unfold clearDescriptors
  repeat' first
    | with_reducible assumption
    | with_reducible refine keeps.foldl _ _ ?_ (fun y a hy => ?_)
    | with_reducible apply keeps.ite
    | with_reducible apply keepsParts_of
    | simp only [keeps_mk]
    | dsimp only
    | split
    | (intro y hy)

theorem ageIsland_keeps {s0 : State} (dayEnds : Bool) (i : Nat) {s : State} (h0 : keeps s0 s) :
    keeps s0 (ageIsland dayEnds i s) := by
  unfold ageIsland
  repeat' first
    | with_reducible assumption
    | with_reducible apply setCard_keeps
    | with_reducible apply fenceTile_keeps
    | with_reducible apply errRecord_keeps
    | with_reducible refine keeps.foldl _ _ ?_ (fun y a hy => ?_)
    | with_reducible apply keeps.ite
    | with_reducible apply keepsParts_of
    | simp only [keeps_mk]
    | dsimp only
    | split
    | (intro y hy)

theorem hourCard_keeps {s0 : State} (life : List (Nat × Nat)) (u : Nat) {s : State} (h0 : keeps s0 s) :
    keeps s0 (hourCard life u s) := by
  unfold hourCard
  repeat' first
    | with_reducible assumption
    | with_reducible apply setCard_keeps
    | with_reducible refine keeps.foldl _ _ ?_ (fun y a hy => ?_)
    | with_reducible apply keeps.ite
    | with_reducible apply keepsParts_of
    | simp only [keeps_mk]
    | dsimp only
    | split
    | (intro y hy)

theorem writeRelayTest_keeps {s0 : State} (v : Nat) {s : State} (h0 : keeps s0 s) :
    keeps s0 (writeRelayTest v s).1 := by
  unfold writeRelayTest
  repeat' first
    | with_reducible assumption
    | with_reducible apply settleRelays_keeps
    | with_reducible refine keeps.foldl _ _ ?_ (fun y a hy => ?_)
    | with_reducible apply keeps.ite
    | with_reducible apply keepsParts_of
    | simp only [keeps_mk]
    | dsimp only
    | split
    | (intro y hy)

theorem writeMarkAck_keeps {s0 : State} (acct : Nat) {s : State} (h0 : keeps s0 s) :
    keeps s0 (writeMarkAck acct s).1 := by
  unfold writeMarkAck
  repeat' first
    | with_reducible assumption
    | with_reducible refine keeps.foldl _ _ ?_ (fun y a hy => ?_)
    | with_reducible apply keeps.ite
    | with_reducible apply keepsParts_of
    | simp only [keeps_mk]
    | dsimp only
    | split
    | (intro y hy)

theorem emitFrame_keeps {s0 : State} (l : Nat) (n : Nat) {s : State} (h0 : keeps s0 s) :
    keeps s0 (emitFrame l n s) := by
  unfold emitFrame
  repeat' first
    | with_reducible assumption
    | with_reducible apply emit_keeps
    | with_reducible apply setLane_keeps
    | with_reducible refine keeps.foldl _ _ ?_ (fun y a hy => ?_)
    | with_reducible apply keeps.ite
    | with_reducible apply keepsParts_of
    | simp only [keeps_mk]
    | dsimp only
    | split
    | (intro y hy)

theorem sendBeat_keeps {s0 : State} (east : Bool) {s : State} (h0 : keeps s0 s) :
    keeps s0 (sendBeat east s) := by
  unfold sendBeat
  repeat' first
    | with_reducible assumption
    | with_reducible apply cascadeOut_keeps
    | with_reducible refine keeps.foldl _ _ ?_ (fun y a hy => ?_)
    | with_reducible apply keeps.ite
    | with_reducible apply keepsParts_of
    | simp only [keeps_mk]
    | dsimp only
    | split
    | (intro y hy)

theorem receiveCascade_keeps {s0 : State} (east : Bool) (src : Nat) (dst : Nat) (type : Nat) (fields : List (Nat × Nat)) (take : State → State) {s : State} (hf0 : ∀ y, keeps s0 y → keeps s0 (take y)) (h1 : keeps s0 s) :
    keeps s0 (receiveCascade east src dst type fields take s) := by
  unfold receiveCascade
  repeat' first
    | with_reducible assumption
    | with_reducible apply hf0
    | with_reducible apply cascadeOut_keeps
    | with_reducible refine keeps.foldl _ _ ?_ (fun y a hy => ?_)
    | with_reducible apply keeps.ite
    | with_reducible apply keepsParts_of
    | simp only [keeps_mk]
    | dsimp only
    | split
    | (intro y hy)

theorem replyTo_keeps {s0 : State} (dst : Nat) (type : Nat) (seq : Nat) (st : Status) {s : State} (h0 : keeps s0 s) :
    keeps s0 (replyTo dst type seq st s) := by
  unfold replyTo
  repeat' first
    | with_reducible assumption
    | with_reducible apply cascadeSend_keeps
    | with_reducible refine keeps.foldl _ _ ?_ (fun y a hy => ?_)
    | with_reducible apply keeps.ite
    | with_reducible apply keepsParts_of
    | simp only [keeps_mk]
    | dsimp only
    | split
    | (intro y hy)

theorem beatBoth_keeps {s0 : State} {s : State} (h0 : keeps s0 s) :
    keeps s0 (beatBoth s) := by
  unfold beatBoth
  repeat' first
    | with_reducible assumption
    | with_reducible apply sendBeat_keeps
    | with_reducible refine keeps.foldl _ _ ?_ (fun y a hy => ?_)
    | with_reducible apply keeps.ite
    | with_reducible apply keepsParts_of
    | simp only [keeps_mk]
    | dsimp only
    | split
    | (intro y hy)

theorem writeHead_keeps {s0 : State} (order : Bool) (v : Nat) {s : State} (h0 : keeps s0 s) :
    keeps s0 (writeHead order v s).1 := by
  unfold writeHead
  repeat' first
    | with_reducible assumption
    | with_reducible apply cascadeSend_keeps
    | with_reducible refine keeps.foldl _ _ ?_ (fun y a hy => ?_)
    | with_reducible apply keeps.ite
    | with_reducible apply keepsParts_of
    | simp only [keeps_mk]
    | dsimp only
    | split
    | (intro y hy)

theorem writeRing_keeps {s0 : State} (sub : Nat) (v : Nat) {s : State} (h0 : keeps s0 s) :
    keeps s0 (writeRing sub v s).1 := by
  unfold writeRing
  repeat' first
    | with_reducible assumption
    | with_reducible refine keeps.foldl _ _ ?_ (fun y a hy => ?_)
    | with_reducible apply keeps.ite
    | with_reducible apply keepsParts_of
    | simp only [keeps_mk]
    | dsimp only
    | split
    | (intro y hy)

theorem writeDrain_keeps {s0 : State} (p : Nat) {s : State} (h0 : keeps s0 s) :
    keeps s0 (writeDrain p s).1 := by
  unfold writeDrain
  repeat' first
    | with_reducible assumption
    | with_reducible refine keeps.foldl _ _ ?_ (fun y a hy => ?_)
    | with_reducible apply keeps.ite
    | with_reducible apply keepsParts_of
    | simp only [keeps_mk]
    | dsimp only
    | split
    | (intro y hy)

theorem contribute_keeps {s0 : State} (owner : Nat) (capid : Nat) (bin : Nat) (mcode : Nat) (peakAt : Nat) (positions : List Nat) {s : State} (h0 : keeps s0 s) :
    keeps s0 (contribute owner capid bin mcode peakAt positions s) := by
  unfold contribute
  repeat' first
    | with_reducible assumption
    | with_reducible refine keeps.foldl _ _ ?_ (fun y a hy => ?_)
    | with_reducible apply keeps.ite
    | with_reducible apply keepsParts_of
    | simp only [keeps_mk]
    | dsimp only
    | split
    | (intro y hy)

theorem headUpdate_keeps {s0 : State} (src : Nat) (tag : Nat) (home : Nat) (seq : Nat) {s : State} (h0 : keeps s0 s) :
    keeps s0 (headUpdate src tag home seq s) := by
  unfold headUpdate
  repeat' first
    | with_reducible assumption
    | with_reducible apply replyTo_keeps
    | with_reducible apply setHome_keeps
    | with_reducible apply cascadeSend_keeps
    | with_reducible refine keeps.foldl _ _ ?_ (fun y a hy => ?_)
    | with_reducible apply keeps.ite
    | with_reducible apply keepsParts_of
    | simp only [keeps_mk]
    | dsimp only
    | split
    | (intro y hy)

theorem setXfer_keeps {s0 : State} (slot : Nat) (x : Xfer) {s : State} (h0 : keeps s0 s) :
    keeps s0 (setXfer slot x s) := by
  unfold setXfer
  repeat' first
    | with_reducible assumption
    | with_reducible refine keeps.foldl _ _ ?_ (fun y a hy => ?_)
    | with_reducible apply keeps.ite
    | with_reducible apply keepsParts_of
    | simp only [keeps_mk]
    | dsimp only
    | split
    | (intro y hy)

theorem sendXfer_keeps {s0 : State} (peer : Nat) (phase : Nat) (slot : Nat) (dest : Nat) (atK : Nat) (entry : Option Entry) {s : State} (h0 : keeps s0 s) :
    keeps s0 (sendXfer peer phase slot dest atK entry s) := by
  unfold sendXfer
  repeat' first
    | with_reducible assumption
    | with_reducible apply cascadeSend_keeps
    | with_reducible refine keeps.foldl _ _ ?_ (fun y a hy => ?_)
    | with_reducible apply keeps.ite
    | with_reducible apply keepsParts_of
    | simp only [keeps_mk]
    | dsimp only
    | split
    | (intro y hy)

theorem writeTransfer_keeps {s0 : State} (slot : Nat) (v : Nat) {s : State} (h0 : keeps s0 s) :
    keeps s0 (writeTransfer slot v s).1 := by
  unfold writeTransfer
  repeat' first
    | with_reducible assumption
    | with_reducible apply entryWrite_keeps
    | with_reducible apply endDeferredOf_keeps
    | with_reducible apply commit_keeps
    | with_reducible apply sendPrepare_keeps
    | with_reducible apply setXfer_keeps
    | with_reducible refine keeps.foldl _ _ ?_ (fun y a hy => ?_)
    | with_reducible apply keeps.ite
    | with_reducible apply keepsParts_of
    | simp only [keeps_mk]
    | dsimp only
    | split
    | (intro y hy)

theorem clearMigrating_keeps {s0 : State} (slot : Nat) {s : State} (h0 : keeps s0 s) :
    keeps s0 (clearMigrating slot s) := by
  unfold clearMigrating
  repeat' first
    | with_reducible assumption
    | with_reducible apply commit_keeps
    | with_reducible refine keeps.foldl _ _ ?_ (fun y a hy => ?_)
    | with_reducible apply keeps.ite
    | with_reducible apply keepsParts_of
    | simp only [keeps_mk]
    | dsimp only
    | split
    | (intro y hy)

theorem sendAway_keeps {s0 : State} (slot : Nat) {s : State} (h0 : keeps s0 s) :
    keeps s0 (sendAway slot s) := by
  unfold sendAway
  repeat' first
    | with_reducible assumption
    | with_reducible apply setXfer_keeps
    | with_reducible apply retireEntry_keeps
    | with_reducible refine keeps.foldl _ _ ?_ (fun y a hy => ?_)
    | with_reducible apply keeps.ite
    | with_reducible apply keepsParts_of
    | simp only [keeps_mk]
    | dsimp only
    | split
    | (intro y hy)

theorem takeOver_keeps {s0 : State} (dest : Nat) (e : Entry) {s : State} (h0 : keeps s0 s) :
    keeps s0 (takeOver dest e s) := by
  unfold takeOver
  repeat' first
    | with_reducible assumption
    | with_reducible apply occupy_keeps
    | with_reducible apply monoBump_keeps
    | with_reducible apply setXfer_keeps
    | with_reducible refine keeps.foldl _ _ ?_ (fun y a hy => ?_)
    | with_reducible apply keeps.ite
    | with_reducible apply keepsParts_of
    | simp only [keeps_mk]
    | dsimp only
    | split
    | (intro y hy)

theorem linkCorrected_keeps {s0 : State} (r : Nat) {s : State} (h0 : keeps s0 s) :
    keeps s0 (linkCorrected r s) := by
  unfold linkCorrected
  repeat' first
    | with_reducible assumption
    | with_reducible apply setCard_keeps
    | with_reducible apply errRecord_keeps
    | with_reducible refine keeps.foldl _ _ ?_ (fun y a hy => ?_)
    | with_reducible apply keeps.ite
    | with_reducible apply keepsParts_of
    | simp only [keeps_mk]
    | dsimp only
    | split
    | (intro y hy)

theorem countCorrected_keeps {s0 : State} (l : List Nat) {s : State} (h0 : keeps s0 s) :
    keeps s0 (countCorrected l s) := by
  unfold countCorrected
  repeat' first
    | with_reducible assumption
    | with_reducible apply linkCorrected_keeps
    | with_reducible refine keeps.foldl _ _ ?_ (fun y a hy => ?_)
    | with_reducible apply keeps.ite
    | with_reducible apply keepsParts_of
    | simp only [keeps_mk]
    | dsimp only
    | split
    | (intro y hy)

theorem addOutstanding_keeps {s0 : State} (init : Nat) (tid : Nat) (isRead : Bool) {s : State} (h0 : keeps s0 s) :
    keeps s0 (addOutstanding init tid isRead s) := by
  unfold addOutstanding
  repeat' first
    | with_reducible assumption
    | with_reducible refine keeps.foldl _ _ ?_ (fun y a hy => ?_)
    | with_reducible apply keeps.ite
    | with_reducible apply keepsParts_of
    | simp only [keeps_mk]
    | dsimp only
    | split
    | (intro y hy)

theorem addResponse_keeps {s0 : State} (r : Resp) {s : State} (h0 : keeps s0 s) :
    keeps s0 (addResponse r s) := by
  unfold addResponse
  repeat' first
    | with_reducible assumption
    | with_reducible refine keeps.foldl _ _ ?_ (fun y a hy => ?_)
    | with_reducible apply keeps.ite
    | with_reducible apply keepsParts_of
    | simp only [keeps_mk]
    | dsimp only
    | split
    | (intro y hy)

theorem postedWrite_keeps {s0 : State} (f : Flit) (data : List (BitVec 8)) (dataErr : Bool) (good : Bool) {s : State} (h0 : keeps s0 s) :
    keeps s0 (postedWrite f data dataErr good s) := by
  unfold postedWrite
  repeat' first
    | with_reducible assumption
    | with_reducible apply countDropped_keeps
    | with_reducible apply serveWrite_keeps
    | with_reducible refine keeps.foldl _ _ ?_ (fun y a hy => ?_)
    | with_reducible apply keeps.ite
    | with_reducible apply keepsParts_of
    | simp only [keeps_mk]
    | dsimp only
    | split
    | (intro y hy)

theorem serveRequest_keeps {s0 : State} (f : Flit) (data : List (BitVec 8)) (dataErr : Bool) (good : Bool) {s : State} (h0 : keeps s0 s) :
    keeps s0 (serveRequest f data dataErr good s) := by
  unfold serveRequest
  repeat' first
    | with_reducible assumption
    | with_reducible apply serveRead_keeps
    | with_reducible apply serveWrite_keeps
    | with_reducible apply answerOf_keeps
    | with_reducible apply addResponse_keeps
    | with_reducible apply addOutstanding_keeps
    | with_reducible refine keeps.foldl _ _ ?_ (fun y a hy => ?_)
    | with_reducible apply keeps.ite
    | with_reducible apply keepsParts_of
    | simp only [keeps_mk]
    | dsimp only
    | split
    | (intro y hy)

theorem takeResponse_keeps {s0 : State} (init : Nat) (elem : Nat) (isRead : Bool) (st : Status) (addr : Nat) {s : State} (h0 : keeps s0 s) :
    keeps s0 (takeResponse init elem isRead st addr s) := by
  unfold takeResponse
  repeat' first
    | with_reducible assumption
    | with_reducible apply failDesc_keeps
    | with_reducible apply postedResponse_keeps
    | with_reducible refine keeps.foldl _ _ ?_ (fun y a hy => ?_)
    | with_reducible apply keeps.ite
    | with_reducible apply keepsParts_of
    | simp only [keeps_mk]
    | dsimp only
    | split
    | (intro y hy)

theorem dropOutstanding_keeps {s0 : State} (init : Nat) (tid : Nat) {s : State} (h0 : keeps s0 s) :
    keeps s0 (dropOutstanding init tid s) := by
  unfold dropOutstanding
  repeat' first
    | with_reducible assumption
    | with_reducible refine keeps.foldl _ _ ?_ (fun y a hy => ?_)
    | with_reducible apply keeps.ite
    | with_reducible apply keepsParts_of
    | simp only [keeps_mk]
    | dsimp only
    | split
    | (intro y hy)

theorem dropResponse_keeps {s0 : State} (init : Nat) (tid : Nat) {s : State} (h0 : keeps s0 s) :
    keeps s0 (dropResponse init tid s) := by
  unfold dropResponse
  repeat' first
    | with_reducible assumption
    | with_reducible refine keeps.foldl _ _ ?_ (fun y a hy => ?_)
    | with_reducible apply keeps.ite
    | with_reducible apply keepsParts_of
    | simp only [keeps_mk]
    | dsimp only
    | split
    | (intro y hy)

theorem deliverResponse_keeps {s0 : State} (r : Resp) (dataErr : Bool) (elem : Nat) {s : State} (h0 : keeps s0 s) :
    keeps s0 (deliverResponse r dataErr elem s) := by
  unfold deliverResponse
  repeat' first
    | with_reducible assumption
    | with_reducible apply passResponse_keeps
    | with_reducible apply dropResponse_keeps
    | with_reducible apply answerOf_keeps
    | with_reducible apply takeResponse_keeps
    | with_reducible apply dropOutstanding_keeps
    | with_reducible refine keeps.foldl _ _ ?_ (fun y a hy => ?_)
    | with_reducible apply keeps.ite
    | with_reducible apply keepsParts_of
    | simp only [keeps_mk]
    | dsimp only
    | split
    | (intro y hy)

theorem countTimeout_keeps {s0 : State} (init : Nat) {s : State} (h0 : keeps s0 s) :
    keeps s0 (countTimeout init s) := by
  unfold countTimeout
  repeat' first
    | with_reducible assumption
    | with_reducible refine keeps.foldl _ _ ?_ (fun y a hy => ?_)
    | with_reducible apply keeps.ite
    | with_reducible apply keepsParts_of
    | simp only [keeps_mk]
    | dsimp only
    | split
    | (intro y hy)

theorem loseColumn_keeps {s0 : State} (lost : List (Nat × Nat × Nat)) (credits : Nat) {s : State} (h0 : keeps s0 s) :
    keeps s0 (loseColumn lost credits s) := by
  unfold loseColumn
  repeat' first
    | with_reducible assumption
    | with_reducible apply dropResponse_keeps
    | with_reducible refine keeps.foldl _ _ ?_ (fun y a hy => ?_)
    | with_reducible apply keeps.ite
    | with_reducible apply keepsParts_of
    | simp only [keeps_mk]
    | dsimp only
    | split
    | (intro y hy)

theorem writeTraceMode_keeps {s0 : State} (v : Nat) {s : State} (h0 : keeps s0 s) :
    keeps s0 (writeTraceMode v s).1 := by
  unfold writeTraceMode
  repeat' first
    | with_reducible assumption
    | with_reducible apply putSetting_keeps
    | with_reducible refine keeps.foldl _ _ ?_ (fun y a hy => ?_)
    | with_reducible apply keeps.ite
    | with_reducible apply keepsParts_of
    | simp only [keeps_mk]
    | dsimp only
    | split
    | (intro y hy)

theorem startDesc_keeps {s0 : State} (c : Nat) {s : State} (h0 : keeps s0 s) :
    keeps s0 (startDesc c s) := by
  unfold startDesc
  repeat' first
    | with_reducible assumption
    | with_reducible apply readTxn_keeps
    | with_reducible apply endDesc_keeps
    | with_reducible apply setChannel_keeps
    | with_reducible refine keeps.foldl _ _ ?_ (fun y a hy => ?_)
    | with_reducible apply keeps.ite
    | with_reducible apply keepsParts_of
    | simp only [keeps_mk]
    | dsimp only
    | split
    | (intro y hy)

theorem failedWrite_keeps {s0 : State} (who : Nat) (d : Desc) (i : Nat) (st : Status) {s : State} (h0 : keeps s0 s) :
    keeps s0 (failedWrite who d i st s).1 := by
  unfold failedWrite
  have h := drawFree_keeps h0
  generalize drawFree s = r at h
  obtain ⟨n, t⟩ := r
  dsimp only at h ⊢
  have h2 := strayWrites_keeps who d n 15 (i + 1) h
  exact keeps.ite (strayWrites_keeps _ _ _ _ _ h2) h2

theorem moveElems_keeps {s0 : State} (who : Nat) (d : Desc) (n i : Nat) {s : State} (h0 : keeps s0 s) :
    keeps s0 (moveElems who d n i s).1 := by
  induction n generalizing i s with
  | zero => exact h0
  | succ n ih =>
    unfold moveElems
    have h := readElem_keeps who d i h0
    generalize readElem who d i s = r at h
    obtain ⟨t, st, dst, bs⟩ := r
    dsimp only at h ⊢
    have h2 := writeSplit_keeps who dst bs h
    generalize writeSplit who dst bs t = r at h2
    obtain ⟨t2, st2⟩ := r
    dsimp only at h2 ⊢
    split
    · exact h0
    · split
      · exact h
      · split
        · exact failedWrite_keeps _ _ _ _ h
        · split
          · exact failedWrite_keeps _ _ _ _ h2
          · exact ih _ h2

theorem completeDesc_keeps {s0 : State} (c : Nat) (d : Desc) {s : State} (h0 : keeps s0 s) : keeps s0 (completeDesc c d s) := by
  unfold completeDesc
  have h := moveElems_keeps (channelIdentity c) d d.nelem 0 h0
  generalize moveElems (channelIdentity c) d d.nelem 0 s = r at h
  obtain ⟨t, st, b, i⟩ := r
  exact endDesc_keeps _ _ _ _ _ h

theorem setTimer_keeps {s0 : State} {s : State} (t : Nat) (x : PaceTimer) (h0 : keeps s0 s) :
    keeps s0 (setTimer s t x) := by
  unfold setTimer
  repeat' first
    | with_reducible assumption
    | with_reducible refine keeps.foldl _ _ ?_ (fun y a hy => ?_)
    | with_reducible apply keeps.ite
    | with_reducible apply keepsParts_of
    | simp only [keeps_mk]
    | dsimp only
    | split
    | (intro y hy)

theorem writeTimer_keeps {s0 : State} (t : Nat) (phase : Bool) (v : Nat) {s : State} (h0 : keeps s0 s) :
    keeps s0 (writeTimer t phase v s).1 := by
  unfold writeTimer
  repeat' first
    | with_reducible assumption
    | with_reducible apply setTimer_keeps
    | with_reducible refine keeps.foldl _ _ ?_ (fun y a hy => ?_)
    | with_reducible apply keeps.ite
    | with_reducible apply keepsParts_of
    | simp only [keeps_mk]
    | dsimp only
    | split
    | (intro y hy)

theorem setFirmware_keeps {s0 : State} (x : Update) {s : State} (h0 : keeps s0 s) :
    keeps s0 (setFirmware x s) := by
  unfold setFirmware
  repeat' first
    | with_reducible assumption
    | with_reducible refine keeps.foldl _ _ ?_ (fun y a hy => ?_)
    | with_reducible apply keeps.ite
    | with_reducible apply keepsParts_of
    | simp only [keeps_mk]
    | dsimp only
    | split
    | (intro y hy)

theorem setVersion_keeps {s0 : State} (b : Nat) (v : Nat) {s : State} (h0 : keeps s0 s) :
    keeps s0 (setVersion b v s) := by
  unfold setVersion
  repeat' first
    | with_reducible assumption
    | with_reducible refine keeps.foldl _ _ ?_ (fun y a hy => ?_)
    | with_reducible apply keeps.ite
    | with_reducible apply keepsParts_of
    | simp only [keeps_mk]
    | dsimp only
    | split
    | (intro y hy)

theorem fwStage_keeps {s0 : State} (cmd : Nat) (u : UpdState) {s : State} (h0 : keeps s0 s) :
    keeps s0 (fwStage cmd u s) := by
  unfold fwStage
  repeat' first
    | with_reducible assumption
    | with_reducible apply journalStage_keeps
    | with_reducible apply setFirmware_keeps
    | with_reducible refine keeps.foldl _ _ ?_ (fun y a hy => ?_)
    | with_reducible apply keeps.ite
    | with_reducible apply keepsParts_of
    | simp only [keeps_mk]
    | dsimp only
    | split
    | (intro y hy)

theorem rotateOffice_keeps {s0 : State} {s : State} (h0 : keeps s0 s) :
    keeps s0 (rotateOffice s) := by
  unfold rotateOffice
  repeat' first
    | with_reducible assumption
    | with_reducible apply setCard_keeps
    | with_reducible apply setOffice_keeps
    | with_reducible apply rewind_keeps
    | with_reducible refine keeps.foldl _ _ ?_ (fun y a hy => ?_)
    | with_reducible apply keeps.ite
    | with_reducible apply keepsParts_of
    | simp only [keeps_mk]
    | dsimp only
    | split
    | (intro y hy)

theorem updateRecord_keeps {s0 : State} {s : State} (h0 : keeps s0 s) :
    keeps s0 (updateRecord s) := by
  unfold updateRecord
  repeat' first
    | with_reducible assumption
    | with_reducible apply drawFree_keeps
    | with_reducible apply errRecord_keeps
    | with_reducible refine keeps.foldl _ _ ?_ (fun y a hy => ?_)
    | with_reducible apply keeps.ite
    | with_reducible apply keepsParts_of
    | simp only [keeps_mk]
    | dsimp only
    | split
    | (intro y hy)

theorem firmwareCommand_keeps {s0 : State} (cmd : Nat) (pass : Bool) {s : State} (h0 : keeps s0 s) :
    keeps s0 (firmwareCommand cmd pass s).1 := by
  unfold firmwareCommand
  repeat' first
    | with_reducible assumption
    | with_reducible apply fwStage_keeps
    | with_reducible apply setVersion_keeps
    | with_reducible apply setFirmware_keeps
    | with_reducible apply settle_keeps
    | with_reducible apply rotateOffice_keeps
    | with_reducible apply updateRecord_keeps
    | with_reducible refine keeps.foldl _ _ ?_ (fun y a hy => ?_)
    | with_reducible apply keeps.ite
    | with_reducible apply keepsParts_of
    | simp only [keeps_mk]
    | dsimp only
    | split
    | (intro y hy)

theorem writeFirmware_keeps {s0 : State} (cmd : Nat) (pass : Bool) {s : State} (h0 : keeps s0 s) : keeps s0 (writeFirmware cmd pass s).1 := by
  unfold writeFirmware
  have h := firmwareCommand_keeps cmd pass h0
  split
  · rename_i e; rw [e] at h; exact putSetting_keeps _ _ _ _ _ h
  · exact h

theorem writeFirmwareChunk_keeps {s0 : State} (el : Nat) (len : Nat) (v : Nat) {s : State} (h0 : keeps s0 s) :
    keeps s0 (writeFirmwareChunk el len v s).1 := by
  unfold writeFirmwareChunk
  repeat' first
    | with_reducible assumption
    | with_reducible apply setFirmware_keeps
    | with_reducible refine keeps.foldl _ _ ?_ (fun y a hy => ?_)
    | with_reducible apply keeps.ite
    | with_reducible apply keepsParts_of
    | simp only [keeps_mk]
    | dsimp only
    | split
    | (intro y hy)

theorem pkgStage_keeps {s0 : State} (cmd : Nat) (id : Nat) (x : Update) {s : State} (h0 : keeps s0 s) :
    keeps s0 (pkgStage cmd id x s) := by
  unfold pkgStage
  repeat' first
    | with_reducible assumption
    | with_reducible apply journalStage_keeps
    | with_reducible apply setPackage_keeps
    | with_reducible refine keeps.foldl _ _ ?_ (fun y a hy => ?_)
    | with_reducible apply keeps.ite
    | with_reducible apply keepsParts_of
    | simp only [keeps_mk]
    | dsimp only
    | split
    | (intro y hy)

theorem unloadTile_keeps {s0 : State} (l : Nat) {s : State} (h0 : keeps s0 s) :
    keeps s0 (unloadTile l s) := by
  unfold unloadTile
  repeat' first
    | with_reducible assumption
    | with_reducible apply setDrain_keeps
    | with_reducible apply modTile_keeps
    | with_reducible refine keeps.foldl _ _ ?_ (fun y a hy => ?_)
    | with_reducible apply keeps.ite
    | with_reducible apply keepsParts_of
    | simp only [keeps_mk]
    | dsimp only
    | split
    | (intro y hy)

theorem putNodes_keeps {s0 : State} (id : Nat) (old : Package) (x : Package) {s : State} (h0 : keeps s0 s) :
    keeps s0 (putNodes id old x s) := by
  unfold putNodes
  repeat' first
    | with_reducible assumption
    | with_reducible refine keeps.foldl _ _ ?_ (fun y a hy => ?_)
    | with_reducible apply keeps.ite
    | with_reducible apply keepsParts_of
    | simp only [keeps_mk]
    | dsimp only
    | split
    | (intro y hy)

theorem installPackage_keeps {s0 : State} (id : Nat) {s : State} (h0 : keeps s0 s) :
    keeps s0 (installPackage id s) := by
  unfold installPackage
  repeat' first
    | with_reducible assumption
    | with_reducible apply putNodes_keeps
    | with_reducible apply unloadTile_keeps
    | with_reducible apply pkgStage_keeps
    | with_reducible apply refreshPaces_keeps
    | with_reducible refine keeps.foldl _ _ ?_ (fun y a hy => ?_)
    | with_reducible apply keeps.ite
    | with_reducible apply keepsParts_of
    | simp only [keeps_mk]
    | dsimp only
    | split
    | (intro y hy)

theorem endBack_keeps {s0 : State} (id : Nat) {s : State} (h0 : keeps s0 s) :
    keeps s0 (endBack id s) := by
  unfold endBack
  repeat' first
    | with_reducible assumption
    | with_reducible apply unloadTile_keeps
    | with_reducible apply refreshPaces_keeps
    | with_reducible apply pkgStage_keeps
    | with_reducible refine keeps.foldl _ _ ?_ (fun y a hy => ?_)
    | with_reducible apply keeps.ite
    | with_reducible apply keepsParts_of
    | simp only [keeps_mk]
    | dsimp only
    | split
    | (intro y hy)

theorem drainTile_keeps {s0 : State} (l : Nat) {s : State} (h0 : keeps s0 s) :
    keeps s0 (drainTile l s) := by
  unfold drainTile
  repeat' first
    | with_reducible assumption
    | with_reducible apply noteBlocks_keeps
    | with_reducible apply setDrain_keeps
    | with_reducible refine keeps.foldl _ _ ?_ (fun y a hy => ?_)
    | with_reducible apply keeps.ite
    | with_reducible apply keepsParts_of
    | simp only [keeps_mk]
    | dsimp only
    | split
    | (intro y hy)

theorem nextTile_keeps {s0 : State} (id : Nat) {s : State} (h0 : keeps s0 s) :
    keeps s0 (nextTile id s) := by
  unfold nextTile
  repeat' first
    | with_reducible assumption
    | with_reducible apply drainTile_keeps
    | with_reducible apply installPackage_keeps
    | with_reducible apply endBack_keeps
    | with_reducible refine keeps.foldl _ _ ?_ (fun y a hy => ?_)
    | with_reducible apply keeps.ite
    | with_reducible apply keepsParts_of
    | simp only [keeps_mk]
    | dsimp only
    | split
    | (intro y hy)

theorem placeTile_keeps {s0 : State} (live : Bool) (l : Nat) (img : Image) {s : State} (h0 : keeps s0 s) (t : State)
    (h : placeTile live l img s = some t) : keeps s0 t := by
  unfold placeTile at h
  split at h
  · cases h
  · split at h
    · cases hf : (freeTiles s).head? with
      | none => rw [hf] at h; cases h
      | some q => rw [hf] at h; cases h; exact noteBlocks_keeps (moveTile_keeps _ _ _ h0)
    · split at h
      · cases h
      · cases h; exact setDrain_keeps _ _ (loadImage_keeps _ _ _ h0)

theorem rotationStep_keeps {s0 : State} (id : Nat) {s : State} (h0 : keeps s0 s) : keeps s0 (rotationStep id s) := by
  unfold rotationStep
  dsimp only
  split
  · split
    · rename_i e; exact nextTile_keeps _ (setPackage_keeps _ _ (placeTile_keeps _ _ _ h0 _ e))
    · exact h0
  · split
    · split
      · rename_i e; exact nextTile_keeps _ (setPackage_keeps _ _ (placeTile_keeps _ _ _ h0 _ e))
      · exact h0
    · exact nextTile_keeps _ (setPackage_keeps _ _ (unloadTile_keeps _ h0))
  · exact h0

theorem activatePackage_keeps {s0 : State} (id : Nat) {s : State} (h0 : keeps s0 s) :
    keeps s0 (activatePackage id s).1 := by
  unfold activatePackage
  repeat' first
    | with_reducible assumption
    | with_reducible apply settle_keeps
    | with_reducible apply nextTile_keeps
    | with_reducible apply pkgStage_keeps
    | with_reducible refine keeps.foldl _ _ ?_ (fun y a hy => ?_)
    | with_reducible apply keeps.ite
    | with_reducible apply keepsParts_of
    | simp only [keeps_mk]
    | dsimp only
    | split
    | (intro y hy)

theorem packageCommand_keeps {s0 : State} (id : Nat) (cmd : Nat) (found : Package) {s : State} (h0 : keeps s0 s) :
    keeps s0 (packageCommand id cmd found s).1 := by
  unfold packageCommand
  repeat' first
    | with_reducible assumption
    | with_reducible apply settle_keeps
    | with_reducible apply pkgStage_keeps
    | with_reducible apply activatePackage_keeps
    | with_reducible refine keeps.foldl _ _ ?_ (fun y a hy => ?_)
    | with_reducible apply keeps.ite
    | with_reducible apply keepsParts_of
    | simp only [keeps_mk]
    | dsimp only
    | split
    | (intro y hy)

theorem writePackage_keeps {s0 : State} (id cmd : Nat) (p : Package) {s : State} (h0 : keeps s0 s) : keeps s0 (writePackage id cmd p s).1 := by
  unfold writePackage
  have h := packageCommand_keeps id cmd p h0
  split
  · rename_i e; rw [e] at h; exact putSetting_keeps _ _ _ _ _ h
  · exact h

theorem writePackageChunk_keeps {s0 : State} (el : Nat) (len : Nat) (v : Nat) {s : State} (h0 : keeps s0 s) :
    keeps s0 (writePackageChunk el len v s).1 := by
  unfold writePackageChunk
  repeat' first
    | with_reducible assumption
    | with_reducible apply setPackage_keeps
    | with_reducible refine keeps.foldl _ _ ?_ (fun y a hy => ?_)
    | with_reducible apply keeps.ite
    | with_reducible apply keepsParts_of
    | simp only [keeps_mk]
    | dsimp only
    | split
    | (intro y hy)

theorem writeEnable_keeps {s0 : State} (vi : Nat) (v : Nat) {s : State} (h0 : keeps s0 s) :
    keeps s0 (writeEnable vi v s).1 := by
  unfold writeEnable
  repeat' first
    | with_reducible assumption
    | with_reducible apply plainWrite_keeps
    | with_reducible refine keeps.foldl _ _ ?_ (fun y a hy => ?_)
    | with_reducible apply keeps.ite
    | with_reducible apply keepsParts_of
    | simp only [keeps_mk]
    | dsimp only
    | split
    | (intro y hy)

theorem writeAddress_keeps {s0 : State} (l : Nat) (v : Nat) {s : State} (h0 : keeps s0 s) :
    keeps s0 (writeAddress l v s).1 := by
  unfold writeAddress
  repeat' first
    | with_reducible assumption
    | with_reducible apply putSetting_keeps
    | with_reducible refine keeps.foldl _ _ ?_ (fun y a hy => ?_)
    | with_reducible apply keeps.ite
    | with_reducible apply keepsParts_of
    | simp only [keeps_mk]
    | dsimp only
    | split
    | (intro y hy)

theorem writeLabel_keeps {s0 : State} (vi : Nat) (v : Nat) {s : State} (h0 : keeps s0 s) :
    keeps s0 (writeLabel vi v s).1 := by
  unfold writeLabel
  repeat' first
    | with_reducible assumption
    | with_reducible apply putSetting_keeps
    | with_reducible refine keeps.foldl _ _ ?_ (fun y a hy => ?_)
    | with_reducible apply keeps.ite
    | with_reducible apply keepsParts_of
    | simp only [keeps_mk]
    | dsimp only
    | split
    | (intro y hy)

theorem writeSlotProfile_keeps {s0 : State} (el : Nat) (v : Nat) {s : State} (h0 : keeps s0 s) :
    keeps s0 (writeSlotProfile el v s).1 := by
  unfold writeSlotProfile
  repeat' first
    | with_reducible assumption
    | with_reducible apply stageSetting_keeps
    | with_reducible refine keeps.foldl _ _ ?_ (fun y a hy => ?_)
    | with_reducible apply keeps.ite
    | with_reducible apply keepsParts_of
    | simp only [keeps_mk]
    | dsimp only
    | split
    | (intro y hy)

theorem sendFixedGain_keeps {s0 : State} (a : Nat) {s : State} (h0 : keeps s0 s) :
    keeps s0 (sendFixedGain a s) := by
  unfold sendFixedGain
  repeat' first
    | with_reducible assumption
    | with_reducible apply sendGain_keeps
    | with_reducible refine keeps.foldl _ _ ?_ (fun y a hy => ?_)
    | with_reducible apply keeps.ite
    | with_reducible apply keepsParts_of
    | simp only [keeps_mk]
    | dsimp only
    | split
    | (intro y hy)

theorem writeHeadGain_keeps {s0 : State} (sub : Nat) (el : Nat) (v : Nat) {s : State} (h0 : keeps s0 s) :
    keeps s0 (writeHeadGain sub el v s).1 := by
  unfold writeHeadGain
  repeat' first
    | with_reducible assumption
    | with_reducible apply putSetting_keeps
    | with_reducible apply sendFixedGain_keeps
    | with_reducible refine keeps.foldl _ _ ?_ (fun y a hy => ?_)
    | with_reducible apply keeps.ite
    | with_reducible apply keepsParts_of
    | simp only [keeps_mk]
    | dsimp only
    | split
    | (intro y hy)

theorem writeLow_keeps {s0 : State} (r : ObjRow) (vi : Nat) (idx : Nat) (sub : Nat) (el : Nat) (v : Nat) {z6 : State} (h0 : keeps s0 z6) :
    keeps s0 (writeLow r vi idx sub el v z6).1 := by
  unfold writeLow
  repeat' first
    | with_reducible assumption
    | with_reducible apply writeLabel_keeps
    | with_reducible apply writeEnable_keeps
    | with_reducible apply stageSetting_keeps
    | with_reducible apply writeAddress_keeps
    | with_reducible apply writeModeRequest_keeps
    | with_reducible apply writeQuiet_keeps
    | with_reducible apply writeEpoch_keeps
    | with_reducible apply writeRestart_keeps
    | with_reducible apply writeBell_keeps
    | with_reducible apply writeDomain_keeps
    | with_reducible apply writeBacked_keeps
    | with_reducible apply writeRevert_keeps
    | with_reducible apply plainWrite_keeps
    | with_reducible refine keeps.foldl _ _ ?_ (fun y a hy => ?_)
    | with_reducible apply keeps.ite
    | with_reducible apply keepsParts_of
    | simp only [keeps_mk]
    | dsimp only
    | split
    | (intro y hy)

theorem writeAir_keeps {s0 : State} (r : ObjRow) (vi : Nat) (idx : Nat) (sub : Nat) (el : Nat) (v : Nat) {z6 : State} (h0 : keeps s0 z6) :
    keeps s0 (writeAir r vi idx sub el v z6).1 := by
  unfold writeAir
  repeat' first
    | with_reducible assumption
    | with_reducible apply writeShadow_keeps
    | with_reducible apply armSwap_keeps
    | with_reducible apply writeShift_keeps
    | with_reducible apply writeLoop_keeps
    | with_reducible apply writeHeadGain_keeps
    | with_reducible apply writePeriod_keeps
    | with_reducible apply writeSlotProfile_keeps
    | with_reducible apply stageSetting_keeps
    | with_reducible apply writeCollector_keeps
    | with_reducible apply writeCoefficients_keeps
    | with_reducible apply writeRamp_keeps
    | with_reducible apply writeDuty_keeps
    | with_reducible apply writeReply_keeps
    | with_reducible apply plainWrite_keeps
    | with_reducible refine keeps.foldl _ _ ?_ (fun y a hy => ?_)
    | with_reducible apply keeps.ite
    | with_reducible apply keepsParts_of
    | simp only [keeps_mk]
    | dsimp only
    | split
    | (intro y hy)

theorem writeRollCipher_keeps {s0 : State} (r : ObjRow) (vi : Nat) (idx : Nat) (sub : Nat) (el : Nat) (len : Nat) (v : Nat) {z7 : State} (h0 : keeps s0 z7) :
    keeps s0 (writeRollCipher r vi idx sub el len v z7).1 := by
  unfold writeRollCipher
  repeat' first
    | with_reducible assumption
    | with_reducible apply writeBudget_keeps
    | with_reducible apply writeInterval_keeps
    | with_reducible apply writeStatus_keeps
    | with_reducible apply writeCharge_keeps
    | with_reducible apply writeRaise_keeps
    | with_reducible apply writeModel_keeps
    | with_reducible apply writePlan_keeps
    | with_reducible apply writeEnrol_keeps
    | with_reducible apply writeRetire_keeps
    | with_reducible apply writeReplace_keeps
    | with_reducible apply writeRekey_keeps
    | with_reducible apply writeGrant_keeps
    | with_reducible apply writeBlockOwner_keeps
    | with_reducible apply writeKeyLoad_keeps
    | with_reducible apply writeKeyErase_keeps
    | with_reducible apply writeViLoadKey_keeps
    | with_reducible apply writeManagementKey_keeps
    | with_reducible apply plainWrite_keeps
    | with_reducible refine keeps.foldl _ _ ?_ (fun y a hy => ?_)
    | with_reducible apply keeps.ite
    | with_reducible apply keepsParts_of
    | simp only [keeps_mk]
    | dsimp only
    | split
    | (intro y hy)

theorem writeHigh_keeps {s0 : State} (r : ObjRow) (aid : Aid) (vi : Nat) (idx : Nat) (sub : Nat) (el : Nat) (len : Nat) (v : Nat) {z8 : State} (h0 : keeps s0 z8) :
    keeps s0 (writeHigh r aid vi idx sub el len v z8).1 := by
  unfold writeHigh
  repeat' first
    | with_reducible assumption
    | with_reducible apply writeMap_keeps
    | with_reducible apply writeTimer_keeps
    | with_reducible apply writeTraceMode_keeps
    | with_reducible apply writeFirmware_keeps
    | with_reducible apply writeFirmwareChunk_keeps
    | with_reducible apply writePackage_keeps
    | with_reducible apply writePackageChunk_keeps
    | with_reducible apply writeAck_keeps
    | with_reducible apply writeRelease_keeps
    | with_reducible apply clearDescriptors_keeps
    | with_reducible apply writeRelayTest_keeps
    | with_reducible apply writeMarkAck_keeps
    | with_reducible apply writeHead_keeps
    | with_reducible apply writeDrain_keeps
    | with_reducible apply writeRing_keeps
    | with_reducible apply writeTransfer_keeps
    | with_reducible apply setQuiet_keeps
    | with_reducible apply plainWrite_keeps
    | with_reducible refine keeps.foldl _ _ ?_ (fun y a hy => ?_)
    | with_reducible apply keeps.ite
    | with_reducible apply keepsParts_of
    | simp only [keeps_mk]
    | dsimp only
    | split
    | (intro y hy)

theorem objWrite_keeps {s0 : State} (aid : Aid) (r : ObjRow) (vi : Nat) (el : Nat) (len : Nat) (v : Nat) {s : State} (h0 : keeps s0 s) :
    keeps s0 (objWrite aid r vi el len v s).1 := by
  unfold objWrite
  repeat' first
    | with_reducible assumption
    | with_reducible apply downlinkRequest_keeps
    | with_reducible apply settle_keeps
    | with_reducible apply ownRule_keeps
    | with_reducible apply writeLow_keeps
    | with_reducible apply writeAir_keeps
    | with_reducible apply writeRollCipher_keeps
    | with_reducible apply writeHigh_keeps
    | with_reducible refine keeps.foldl _ _ ?_ (fun y a hy => ?_)
    | with_reducible apply keeps.ite
    | with_reducible apply keepsParts_of
    | simp only [keeps_mk]
    | dsimp only
    | split
    | (intro y hy)

theorem takeCnt_keeps {s0 : State} (vi : Nat) (cnt : Nat) {s : State} (h0 : keeps s0 s) :
    keeps s0 (takeCnt vi cnt s) := by
  unfold takeCnt
  repeat' first
    | with_reducible assumption
    | with_reducible refine keeps.foldl _ _ ?_ (fun y a hy => ?_)
    | with_reducible apply keeps.ite
    | with_reducible apply keepsParts_of
    | simp only [keeps_mk]
    | dsimp only
    | split
    | (intro y hy)

theorem discardMsg_keeps {s0 : State} (d : Datagram) {s : State} (h0 : keeps s0 s) :
    keeps s0 (discardMsg d s) := by
  unfold discardMsg
  repeat' first
    | with_reducible assumption
    | with_reducible refine keeps.foldl _ _ ?_ (fun y a hy => ?_)
    | with_reducible apply keeps.ite
    | with_reducible apply keepsParts_of
    | simp only [keeps_mk]
    | dsimp only
    | split
    | (intro y hy)

theorem leaveInbox_keeps {s0 : State} (d : Datagram) {s : State} (h0 : keeps s0 s) :
    keeps s0 (leaveInbox d s) := by
  unfold leaveInbox
  repeat' first
    | with_reducible assumption
    | with_reducible refine keeps.foldl _ _ ?_ (fun y a hy => ?_)
    | with_reducible apply keeps.ite
    | with_reducible apply keepsParts_of
    | simp only [keeps_mk]
    | dsimp only
    | split
    | (intro y hy)

theorem closeRec_keeps {s0 : State} (tseq : Nat) (gst : Nat) (done : Nat) (failItem : Nat) (failStat : Status) {s : State} (h0 : keeps s0 s) :
    keeps s0 (closeRec tseq gst done failItem failStat s) := by
  unfold closeRec
  repeat' first
    | with_reducible assumption
    | with_reducible apply journalMod_keeps
    | with_reducible refine keeps.foldl _ _ ?_ (fun y a hy => ?_)
    | with_reducible apply keeps.ite
    | with_reducible apply keepsParts_of
    | simp only [keeps_mk]
    | dsimp only
    | split
    | (intro y hy)

theorem openGroup_keeps {s0 : State} (vi : Nat) (cnt : Nat) (token : Nat) (writes : Nat) {s : State} (h0 : keeps s0 s) :
    keeps s0 (openGroup vi cnt token writes s) := by
  unfold openGroup
  repeat' first
    | with_reducible assumption
    | with_reducible apply journalPut_keeps
    | with_reducible refine keeps.foldl _ _ ?_ (fun y a hy => ?_)
    | with_reducible apply keeps.ite
    | with_reducible apply keepsParts_of
    | simp only [keeps_mk]
    | dsimp only
    | split
    | (intro y hy)

theorem runItem_keeps {s0 : State} (aid : Aid) (vi : Nat) (i : Item) (more : Bool) {r : GroupRun} (h0 : keeps s0 r.s) :
    keeps s0 (runItem aid vi i more r).s := by
  unfold runItem
  dsimp only
  split
  · exact h0
  · split
    · exact h0
    · split
      · exact h0
      · exact objWrite_keeps _ _ _ _ _ _ h0

theorem runItems_keeps {s0 : State} (aid : Aid) (vi : Nat) (cut : Option Nat) (l : List Item) {r : GroupRun} (h0 : keeps s0 r.s) :
    keeps s0 (runItems aid vi cut l r).s := by
  induction l generalizing cut r with
  | nil => rcases cut with _ | _ | n <;> exact h0
  | cons i t ih =>
    rcases cut with _ | _ | n
    · exact ih _ (runItem_keeps _ _ _ _ h0)
    · exact h0
    · exact ih _ (runItem_keeps _ _ _ _ h0)

theorem serveItems_keeps {s0 : State} (aid : Aid) (care : Bool) (vi cnt token : Nat) (l : List Item) (cut : Option Nat) {s : State}
    (h0 : keeps s0 s) : keeps s0 (serveItems aid care vi cnt token l cut s).s := by
  unfold serveItems
  dsimp only
  split
  · exact h0
  · split
    · exact h0
    · split
      · exact closeRec_keeps _ _ _ _ _ (openGroup_keeps _ _ _ _ h0)
      · have h := runItems_keeps aid vi cut l (r := ({ s := openGroup vi cnt token (l.filter isWrite).length s } : GroupRun)) (openGroup_keeps _ _ _ _ h0)
        split
        · rw [keeps_mk]
          have := fun q f => journalMod_keeps q f h
          exact ⟨(this _ _).pending, (this _ _).mem, (this _ _).seq⟩
        · exact closeRec_keeps _ _ _ _ _ h

theorem sendReply_keeps {s0 : State} (d : Datagram) (vi token : Nat) {x : Served} (h0 : keeps s0 x.s) : keeps s0 (sendReply d vi token x) := by
  unfold sendReply
  split
  · exact emit_keeps _ h0
  · split
    · exact emit_keeps _ (countSent_keeps _ h0)
    · exact h0

theorem emergencyReset_keeps {s0 : State} (f : BootFacts) {s : State} (h0 : keeps s0 s) :
    keeps s0 (emergencyReset f s) := by
  unfold emergencyReset
  repeat' first
    | with_reducible assumption
    | with_reducible apply stopReceive_keeps
    | with_reducible apply stopBursts_keeps
    | with_reducible apply startBoot_keeps
    | with_reducible apply drainStaging_keeps
    | with_reducible apply drainPrefect_keeps
    | with_reducible apply closeGroups_keeps
    | with_reducible refine keeps.foldl _ _ ?_ (fun y a hy => ?_)
    | with_reducible apply keeps.ite
    | with_reducible apply keepsParts_of
    | simp only [keeps_mk]
    | dsimp only
    | split
    | (intro y hy)

theorem finishServe_keeps {s0 : State} (aid : Aid) (d : Datagram) (vi token : Nat) {x : Served} (h0 : keeps s0 x.s) :
    keeps s0 (finishServe aid d vi token x) := by
  have h1 := sendReply_keeps d vi token h0
  have h2 : keeps s0 (match x.out.head? with
      | some y => answerOf y.1 y.2.2 (sendReply d vi token x)
      | none => sendReply d vi token x) := by
    split
    · exact answerOf_keeps _ _ h1
    · exact h1
  unfold finishServe
  exact keeps.ite h0 (keeps.ite (emergencyReset_keeps _ h2) h2)

theorem bumpAnswered_keeps {s0 : State} {s : State} (h0 : keeps s0 s) :
    keeps s0 (bumpAnswered s) := by
  unfold bumpAnswered
  repeat' first
    | with_reducible assumption
    | with_reducible refine keeps.foldl _ _ ?_ (fun y a hy => ?_)
    | with_reducible apply keeps.ite
    | with_reducible apply keepsParts_of
    | simp only [keeps_mk]
    | dsimp only
    | split
    | (intro y hy)

theorem bumpRefused_keeps {s0 : State} {s : State} (h0 : keeps s0 s) :
    keeps s0 (bumpRefused s) := by
  unfold bumpRefused
  repeat' first
    | with_reducible assumption
    | with_reducible refine keeps.foldl _ _ ?_ (fun y a hy => ?_)
    | with_reducible apply keeps.ite
    | with_reducible apply keepsParts_of
    | simp only [keeps_mk]
    | dsimp only
    | split
    | (intro y hy)

theorem careServe_keeps {s0 : State} (aid : Aid) (d : Datagram) (ok : Bool) (vi cnt token : Nat) (l : List Item) {s : State}
    (h0 : keeps s0 s) : keeps s0 (careServe aid d ok vi cnt token l s) := by
  unfold careServe
  dsimp only
  split
  · exact h0
  · split
    · exact finishServe_keeps _ _ _ _ (serveItems_keeps _ _ _ _ _ _ _ (bumpAnswered_keeps (keeps.ite (takeCnt_keeps _ _ h0) h0)))
    · have := bumpRefused_keeps h0
      rw [keeps_mk]; exact ⟨this.pending, this.mem, this.seq⟩

theorem keepWaiting_keeps {s0 : State} (d : Datagram) {s : State} (h0 : keeps s0 s) :
    keeps s0 (keepWaiting d s) := by
  unfold keepWaiting
  repeat' first
    | with_reducible assumption
    | with_reducible refine keeps.foldl _ _ ?_ (fun y a hy => ?_)
    | with_reducible apply keeps.ite
    | with_reducible apply keepsParts_of
    | simp only [keeps_mk]
    | dsimp only
    | split
    | (intro y hy)

theorem officeVack_keeps {s0 : State} (d : Datagram) (m : Msg) {s : State} (h0 : keeps s0 s) :
    keeps s0 (officeVack d m s) := by
  unfold officeVack
  repeat' first
    | with_reducible assumption
    | with_reducible apply takeVack_keeps
    | with_reducible refine keeps.foldl _ _ ?_ (fun y a hy => ?_)
    | with_reducible apply keeps.ite
    | with_reducible apply keepsParts_of
    | simp only [keeps_mk]
    | dsimp only
    | split
    | (intro y hy)

theorem officeTake_keeps {s0 : State} (aid : Aid) (d : Datagram) (m : Msg) (cut : Option Nat) {s : State} (h0 : keeps s0 s) :
    keeps s0 (officeTake aid d m cut s) := by
  have h1 := takeCnt_keeps m.vi m.cnt (leaveInbox_keeps d h0)
  unfold officeTake
  split
  · split
    · exact keepWaiting_keeps _ h0
    · exact officeVack_keeps _ _ h1
  · split
    · exact discardMsg_keeps _ (leaveInbox_keeps _ h0)
    · split
      · exact finishServe_keeps _ _ _ _ h1
      · split
        · exact keepWaiting_keeps _ h0
        · exact finishServe_keeps _ _ _ _ (serveItems_keeps _ _ _ _ _ _ _ h1)

theorem takeMessage_keeps {s0 : State} (aid : Aid) (d : Datagram) (cut : Option Nat) {s : State} (h0 : keeps s0 s) :
    keeps s0 (takeMessage aid d cut s) := by
  unfold takeMessage
  repeat' first
    | with_reducible assumption
    | with_reducible apply discardMsg_keeps
    | with_reducible apply leaveInbox_keeps
    | with_reducible apply careServe_keeps
    | with_reducible apply officeTake_keeps
    | with_reducible refine keeps.foldl _ _ ?_ (fun y a hy => ?_)
    | with_reducible apply keeps.ite
    | with_reducible apply keepsParts_of
    | simp only [keeps_mk]
    | dsimp only
    | split
    | (intro y hy)

theorem arrive_keeps {s0 : State} (d : Datagram) {s : State} (h0 : keeps s0 s) :
    keeps s0 (arrive d s) := by
  unfold arrive
  repeat' first
    | with_reducible assumption
    | with_reducible refine keeps.foldl _ _ ?_ (fun y a hy => ?_)
    | with_reducible apply keeps.ite
    | with_reducible apply keepsParts_of
    | simp only [keeps_mk]
    | dsimp only
    | split
    | (intro y hy)

theorem discardFrame_keeps {s0 : State} {s : State} (h0 : keeps s0 s) :
    keeps s0 (discardFrame s) := by
  unfold discardFrame
  repeat' first
    | with_reducible assumption
    | with_reducible refine keeps.foldl _ _ ?_ (fun y a hy => ?_)
    | with_reducible apply keeps.ite
    | with_reducible apply keepsParts_of
    | simp only [keeps_mk]
    | dsimp only
    | split
    | (intro y hy)

theorem landCx_keeps {s0 : State} (t : Nat) (k : Nat) {s : State} (h0 : keeps s0 s) :
    keeps s0 (landCx t k s) := by
  unfold landCx
  repeat' first
    | with_reducible assumption
    | with_reducible apply modTile_keeps
    | with_reducible refine keeps.foldl _ _ ?_ (fun y a hy => ?_)
    | with_reducible apply keeps.ite
    | with_reducible apply keepsParts_of
    | simp only [keeps_mk]
    | dsimp only
    | split
    | (intro y hy)

theorem poisonBundle_keeps {s0 : State} (t : Nat) {s : State} (h0 : keeps s0 s) :
    keeps s0 (poisonBundle t s) := by
  unfold poisonBundle
  repeat' first
    | with_reducible assumption
    | with_reducible apply modTile_keeps
    | with_reducible refine keeps.foldl _ _ ?_ (fun y a hy => ?_)
    | with_reducible apply keeps.ite
    | with_reducible apply keepsParts_of
    | simp only [keeps_mk]
    | dsimp only
    | split
    | (intro y hy)

theorem loadTile_keeps {s0 : State} (t : Nat) (img : Image) {s : State} (h0 : keeps s0 s) :
    keeps s0 (loadTile t img s) := by
  unfold loadTile
  repeat' first
    | with_reducible assumption
    | with_reducible apply emit_keeps
    | with_reducible apply releasePassesOfNode_keeps
    | with_reducible apply trapService_keeps
    | with_reducible apply loadImage_keeps
    | with_reducible refine keeps.foldl _ _ ?_ (fun y a hy => ?_)
    | with_reducible apply keeps.ite
    | with_reducible apply keepsParts_of
    | simp only [keeps_mk]
    | dsimp only
    | split
    | (intro y hy)

/-- An operation of a bundle keeps what `keeps` says. -/
structure actKeeps (a : SlotAct) : Prop where
  access : ∀ s0 s, keeps s0 s → keeps s0 (a.access s).state
  after : ∀ s0 s u, keeps s0 u → keeps s0 (a.after s u)
theorem issue_keeps {s0 : State} (t : Nat) (acts : List (Option SlotAct)) (ha : ∀ a, some a ∈ acts → actKeeps a) {s : State} (h0 : keeps s0 s) :
    match issue t acts s with
    | .stalled => True
    | .trapped u => keeps s0 u
    | .done u => keeps s0 u := by
  have hl : ∀ a ∈ acts.filterMap id, actKeeps a := by
    intro a h; rw [List.mem_filterMap] at h; obtain ⟨o, ho, e⟩ := h; exact ha a (by rw [← e]; exact ho)
  unfold issue
  dsimp only
  generalize acts.filterMap id = l at hl
  have hm : ∀ (l : List SlotAct), (∀ a ∈ l, actKeeps a) → ∀ r : Access, keeps s0 r.state → keeps s0 (l.foldl (fun (r : Access) a => match r.trap with
              | some _ => r
              | none =>
                if (a.access r.state).trap.isSome ∨ (a.access r.state).bytes ≠ [] then a.access r.state
                else { a.access r.state with bytes := r.bytes, good := max (a.access r.state).good r.good }) r).state := by
    intro l hl
    induction l with
    | nil => exact fun r h => h
    | cons a l ih =>
      intro r h
      refine ih (fun b hb => hl b (List.mem_cons_of_mem _ hb)) _ ?_
      have := (hl a List.mem_cons_self).access s0 r.state h
      dsimp only
      split
      · exact h
      · split
        · exact this
        · exact this
  have hm' := hm l hl { state := s } h0
  have haft : ∀ (l : List SlotAct), (∀ a ∈ l, actKeeps a) → ∀ u : State, keeps s0 u → keeps s0 (l.foldl (fun u a => a.after s u) u) := by
    intro l hl
    induction l with
    | nil => exact fun u h => h
    | cons a l ih => exact fun u h => ih (fun b hb => hl b (List.mem_cons_of_mem _ hb)) _ ((hl a List.mem_cons_self).after s0 s u h)
  split
  · trivial
  · rename_i u e
    repeat' (first | split at e | (cases e <;> first | exact takeTrap_keeps _ _ h0 | exact takeTrap_keeps _ _ hm'))
  · rename_i u e
    repeat' (first | split at e | (cases e <;> exact haft l hl _ (setTile_keeps _ _ hm')))

end Sys2Proof.Machine
end

