-- ==== Sys2Proof/Laws/KeepsTile.lean ====
section
/-! SUPPORT. A bundle, a Mover's command and the remaining compound operations keep what `keeps` says, and answer a next state. -/

namespace Sys2Proof.Machine

open Sys2Proof.Safety

/-! ### Outcomes -/

/-- An outcome is a next state that `keeps` what s has. -/
def nextKeeps (s : State) (o : Out) : Prop := ∃ u, o = .next u ∧ keeps s u
theorem nextKeeps.next {s u : State} (h : keeps s u) : nextKeeps s (.next u) := ⟨u, rfl, h⟩
theorem nextKeeps.answered {s : State} {r : State × Status} (h : keeps s r.1) : nextKeeps s (answered r) :=
  ⟨_, rfl, answering_keeps _ h⟩
theorem nextKeeps.ite {c : Prop} [Decidable c] {s : State} {a b : Out} (h : nextKeeps s a) (g : nextKeeps s b) :
    nextKeeps s (if c then a else b) := by split <;> assumption

/-! ### Bundles -/

/-- An operation that touches nothing but registers. -/
theorem actKeeps.registers {a : SlotAct} (h : a.access = fun s => { state := s }) (g : a.after = fun _ u => u) : actKeeps a :=
  ⟨fun s0 s k => by rw [h]; exact k, fun s0 s u k => by rw [g]; exact k⟩
theorem nopAct_keeps : actKeeps nopAct := .registers rfl rfl
theorem scalarAct_keeps (fn sd sa sb : Nat) : actKeeps (scalarAct fn sd sa sb) := .registers rfl rfl
theorem immAct_keeps (m sd sa : Nat) (imm : BitVec 16) : actKeeps (immAct m sd sa imm) := .registers rfl rfl
theorem paddAct_keeps (pd pa : Nat) (imm : BitVec 16) : actKeeps (paddAct pd pa imm) := .registers rfl rfl
theorem movxAct_keeps (d s dk sk : Nat) : actKeeps (movxAct d s dk sk) := .registers rfl rfl
theorem brAct_keeps (sa sb c : Nat) (off : BitVec 13) : actKeeps (brAct sa sb c off) := .registers rfl rfl
theorem jalAct_keeps (sd : Nat) (off : BitVec 13) : actKeeps (jalAct sd off) := .registers rfl rfl
theorem jrAct_keeps (sa : Nat) : actKeeps (jrAct sa) := .registers rfl rfl
theorem loopAct_keeps (t : Nat) (level : Bool) (rot : BitVec 2) (sc len : Nat) : actKeeps (loopAct t level rot sc len) :=
  ⟨fun _ _ k => k, fun _ _ _ k => keeps.ite (modTile_keeps _ _ k) k⟩
theorem csrrAct_keeps (t sd n : Nat) : actKeeps (csrrAct t sd n) := .registers rfl rfl
theorem csrwAct_keeps (sa n : Nat) : actKeeps (csrwAct sa n) := .registers rfl rfl
theorem rteAct_keeps (t : Nat) : actKeeps (rteAct t) := ⟨fun _ _ k => k, fun _ _ _ k => undefineCx_keeps _ (modTile_keeps _ _ k)⟩
theorem waitopAct_keeps (t sd : Nat) : actKeeps (waitopAct t sd) :=
  ⟨fun _ _ k => k, fun _ _ _ k => castVote_keeps _ _ _ (modTile_keeps _ _ (trapService_keeps _ k))⟩
theorem fenceAct_keeps (sd : Nat) : actKeeps (fenceAct sd) := .registers rfl rfl
theorem yieldAct_keeps (t : Nat) : actKeeps (yieldAct t) :=
  ⟨fun _ _ k => k, fun _ _ _ k => trapService_keeps _ (enterHost_keeps _ _ _ k)⟩
theorem haltAct_keeps (t : Nat) : actKeeps (haltAct t) :=
  ⟨fun _ _ k => k, fun _ _ _ k => modTile_keeps t (fun x => { x with tstate := .halted }) (trapService_keeps t k)⟩
theorem vectorAct_keeps (fn vd va vb ew : Nat) (sat : Bool) : actKeeps (vectorAct fn vd va vb ew sat) := by
  unfold vectorAct; split <;> exact .registers rfl rfl
theorem shiftAct_keeps (fn vd va n ew : Nat) (sat : Bool) : actKeeps (shiftAct fn vd va n ew sat) := .registers rfl rfl
theorem macAct_keeps (fn ad va vb sk : Nat) : actKeeps (macAct fn ad va vb sk) := .registers rfl rfl
theorem vextaAct_keeps (vd a n : Nat) (sat : Bool) : actKeeps (vextaAct vd a n sat) := .registers rfl rfl
theorem vclraAct_keeps (a : Nat) : actKeeps (vclraAct a) := .registers rfl rfl
theorem vbcastAct_keeps (vd sa ew : Nat) : actKeeps (vbcastAct vd sa ew) := .registers rfl rfl
theorem cxAct_keeps (fn cd ca cb : Nat) : actKeeps (cxAct fn cd ca cb) := .registers rfl rfl
theorem movcAct_keeps (r c d : Nat) (k : Bool) : actKeeps (movcAct r c d k) := .registers rfl rfl
theorem pmodAct_keeps (p am : Nat) (f : BitVec 16) : actKeeps (pmodAct p am f) := .registers rfl rfl
theorem access_keeps (s0 : State) {c : Prop} {d : Decidable c} (u v : State) (b b' : Option Trap) (r r' : List (BitVec 8)) (g g' : Nat)
    (hu : keeps s0 u) (hv : keeps s0 v) :
    keeps s0 (if c then Access.mk u b r g else Access.mk v b' r' g').state := by split <;> assumption
theorem loadBytes_keeps {s0 : State} (t : Nat) (a : Word) (n : Nat) (sc : Bool) (resp : Option Status) {s : State} (h0 : keeps s0 s) :
    keeps s0 (loadBytes t a n sc resp s).state := by
  rcases hr : regionOf (tileOf s t) a.toNat n with _ | r
  · rw [loadBytes]; simp only [hr]; exact h0
  · rcases r with _ | _ | _ | _
    · rw [loadBytes]; simp only [hr]; exact access_keeps _ _ _ _ _ _ _ _ _ h0 h0
    · rw [loadBytes]; simp only [hr]; exact access_keeps _ _ _ _ _ _ _ _ _ h0 h0
    · rw [loadBytes]; simp only [hr]; exact access_keeps _ _ _ _ _ _ _ _ _ (windowRead_keeps _ _ h0) h0
    · have h := meshLoad_keeps t (globalOf (tileOf s t) a.toNat) n resp h0
      rw [loadBytes]; simp only [hr]; exact access_keeps _ _ _ _ _ _ _ _ _ h h
theorem loadFirst_keeps {s0 : State} (t w : Nat) (resp : Option Status) (n i : Nat) (a : Word) {s : State} (h0 : keeps s0 s) :
    keeps s0 (loadFirst t w resp n i a s).state := by
  induction n generalizing i a s with
  | zero => exact h0
  | succ n ih =>
    unfold loadFirst
    simp only []
    have h : ∀ q, keeps s0 (loadBytes t a w false q s).state := fun q => loadBytes_keeps t a w false q h0
    have h := h (if i = 0 then resp else none)
    generalize loadBytes t a w false (if i = 0 then resp else none) s = r at h ⊢
    cases r.trap with
    | none => exact ih _ _ h
    | some w =>
      by_cases hi : i = 0 <;> simp only [hi, if_true, if_false]
      · exact h
      · by_cases he : w.ecc = true
        · rw [if_pos he]; exact fenceEcc_keeps _ _ h
        · rw [if_neg he]; exact h
theorem storeLocal_keeps {s0 : State} (t : Nat) (a : Word) (runs : List Run) {s : State} (h0 : keeps s0 s) :
    keeps s0 (storeLocal t a runs s).state := by
  unfold storeLocal
  dsimp only
  split
  · exact h0
  · have := setTile_keeps t
      (runs.foldl (fun y r => (r.2.foldl (fun (z : Tile × Nat) b => (localPut z.2 b z.1, z.2 + 1)) (y, r.1)).1)
        (((storeWords runs).filter (fun w => tabGet false (tileOf s t).poison w)).foldl
          (fun y w => { y with poison := tabSet false y.poison w false }) (tileOf s t))) h0
    rw [keeps_mk]
    exact ⟨this.pending, this.mem, this.seq⟩
theorem storeBytes_keeps {s0 : State} (t : Nat) (a : Word) (n : Nat) (sc : Bool) (runs : List Run) {s : State} (h0 : keeps s0 s) :
    keeps s0 (storeBytes t a n sc runs s).state := by
  rcases hr : regionOf (tileOf s t) a.toNat n with _ | r
  · rw [storeBytes]; simp only [hr]; exact h0
  · rcases r with _ | _ | _ | _
    · rw [storeBytes]; simp only [hr]; exact storeLocal_keeps _ _ _ h0
    · rw [storeBytes]; simp only [hr]; exact storeLocal_keeps _ _ _ h0
    · rw [storeBytes]; simp only [hr]; exact access_keeps _ _ _ _ _ _ _ _ _ (windowWrite_keeps _ _ _ h0) h0
    · rw [storeBytes]; simp only [hr]; exact keeps.foldl _ _ h0 (fun y r hy => postStore_keeps _ _ hy)
theorem storeMasked_keeps {s0 : State} (t : Nat) (a : Word) (span : Nat × Nat) (runs : List Run) {s : State} (h0 : keeps s0 s) :
    keeps s0 (storeMasked t a span runs s).state := by
  by_cases hz : span.2 = 0
  · rw [storeMasked]; simp only [hz, if_true]; exact h0
  rcases hr : regionOf (tileOf s t) span.1 span.2 with _ | r
  · rw [storeMasked]; simp only [hr, hz, if_false]; exact h0
  · rcases r with _ | _ | _ | _
    · rw [storeMasked]; simp only [hr, hz, if_false]; exact storeLocal_keeps _ _ _ h0
    · rw [storeMasked]; simp only [hr, hz, if_false]; exact storeLocal_keeps _ _ _ h0
    · rw [storeMasked]; simp only [hr, hz, if_false]; exact h0
    · rw [storeMasked]; simp only [hr, hz, if_false]; exact keeps.foldl _ _ h0 (fun y r hy => postStore_keeps _ _ hy)
theorem loadAct_keeps (t m sd p am : Nat) (f : BitVec 16) (r : Option Status) : actKeeps (loadAct t m sd p am f r) :=
  ⟨fun _ _ k => loadBytes_keeps _ _ _ _ _ k, fun _ _ _ k => k⟩
theorem vldAct_keeps (t vd p am : Nat) (f : BitVec 16) (r : Option Status) : actKeeps (vldAct t vd p am f r) :=
  ⟨fun _ _ k => loadBytes_keeps _ _ _ _ _ k, fun _ _ _ k => k⟩
theorem vldffAct_keeps (t w vd p am : Nat) (f : BitVec 16) (r : Option Status) : actKeeps (vldffAct t w vd p am f r) :=
  ⟨fun _ _ k => loadFirst_keeps _ _ _ _ _ _ k, fun _ _ _ k => k⟩
theorem storeAct_keeps (t m sd p am : Nat) (f : BitVec 16) : actKeeps (storeAct t m sd p am f) :=
  ⟨fun _ _ k => storeBytes_keeps _ _ _ _ _ k, fun _ _ _ k => k⟩
theorem vstAct_keeps (t v p am : Nat) (f : BitVec 16) : actKeeps (vstAct t v p am f) :=
  ⟨fun _ _ k => storeBytes_keeps _ _ _ _ _ k, fun _ _ _ k => k⟩
theorem vstfAct_keeps (t v p am : Nat) (f : BitVec 16) : actKeeps (vstfAct t v p am f) :=
  ⟨fun _ _ k => storeMasked_keeps _ _ _ _ k, fun _ _ _ k => k⟩
theorem need_keeps {ok : Bool} {a b : SlotAct} (ha : actKeeps a) (h : need ok a = some b) : actKeeps b := by
  unfold need at h; split at h
  · cases h; exact ha
  · cases h
theorem decodeScalar_keeps {w : Nat} {a : SlotAct} (h : decodeScalar w = some a) : actKeeps a := by
  unfold decodeScalar at h
  dsimp only at h
  split at h
  · exact need_keeps (scalarAct_keeps _ _ _ _) h
  · split at h
    · cases h; exact immAct_keeps _ _ _ _
    · split at h
      · exact need_keeps (paddAct_keeps _ _ _) h
      · split at h
        · exact need_keeps (movxAct_keeps _ _ _ _) h
        · cases h
theorem decodeSys_keeps {t w : Nat} {a : SlotAct} (h : decodeSys t w = some a) : actKeeps a := by
  unfold decodeSys at h
  dsimp only at h
  split at h
  · exact need_keeps (csrrAct_keeps _ _ _) h
  · exact need_keeps (csrwAct_keeps _ _) h
  · exact need_keeps (rteAct_keeps _) h
  · exact need_keeps (waitopAct_keeps _ _) h
  · exact need_keeps (fenceAct_keeps _) h
  · exact need_keeps (yieldAct_keeps _) h
  · exact need_keeps (haltAct_keeps _) h
  · cases h
theorem decodeS0_keeps {t w : Nat} {a : SlotAct} (h : decodeS0 t w = some a) : actKeeps a := by
  unfold decodeS0 at h
  split at h
  · cases h; exact nopAct_keeps
  · split at h
    · cases h; exact brAct_keeps _ _ _ _
    · exact need_keeps (jalAct_keeps _ _) h
    · exact need_keeps (jrAct_keeps _) h
    · exact need_keeps (loopAct_keeps _ _ _ _ _) h
    · exact decodeSys_keeps h
    · exact decodeScalar_keeps h
theorem decodeS1_keeps {w : Nat} {a : SlotAct} (h : decodeS1 w = some a) : actKeeps a := by
  unfold decodeS1 at h
  split at h
  · cases h; exact nopAct_keeps
  · split at h
    · exact need_keeps (cxAct_keeps _ _ _ _) h
    · exact decodeScalar_keeps h
theorem decodeV_keeps {w : Nat} {a : SlotAct} (h : decodeV w = some a) : actKeeps a := by
  unfold decodeV at h
  simp only [] at h
  split at h
  · cases h; exact nopAct_keeps
  · split at h
    · exact need_keeps (vectorAct_keeps _ _ _ _ _ _) h
    · exact need_keeps (shiftAct_keeps _ _ _ _ _ _) h
    · exact need_keeps (macAct_keeps _ _ _ _ _) h
    · split at h
      · cases h
      · split at h
        · cases h; exact vextaAct_keeps _ _ _ _
        · exact need_keeps (vclraAct_keeps _) h
        · cases h
    · exact need_keeps (vbcastAct_keeps _ _ _) h
    · cases h
theorem decodeM_keeps {t w : Nat} {r : Option Status} {a : SlotAct} (h : decodeM t r w = some a) : actKeeps a := by
  unfold decodeM at h
  simp only [] at h
  split at h
  · cases h; exact nopAct_keeps
  · split at h
    · cases h; exact loadAct_keeps _ _ _ _ _ _ _
    · split at h
      · cases h; exact storeAct_keeps _ _ _ _ _ _
      · split at h
        · cases h; exact vldAct_keeps _ _ _ _ _ _
        · cases h; exact vstAct_keeps _ _ _ _ _
        · cases h; exact vldffAct_keeps _ _ _ _ _ _ _
        · cases h; exact vstfAct_keeps _ _ _ _ _
        · cases h; exact vldffAct_keeps _ _ _ _ _ _ _
        · exact need_keeps (pmodAct_keeps _ _ _) h
        · exact need_keeps (movcAct_keeps _ _ _ _) h
        · cases h
theorem slotsOf_keeps (t : Nat) (b : Beside) : ∀ a, some a ∈ slotsOf t b → actKeeps a := by
  intro a h
  simp only [slotsOf, List.mem_cons, List.not_mem_nil, or_false] at h
  rcases h with h | h | h | h
  · exact decodeS0_keeps h.symm
  · exact decodeS1_keeps h.symm
  · exact decodeV_keeps h.symm
  · exact decodeM_keeps h.symm
theorem issued_keeps (t : Nat) (acts : List (Option SlotAct)) (ha : ∀ a, some a ∈ acts → actKeeps a) (s : State) :
    keeps s (issued s (issue t acts s)) := by
  have h := issue_keeps t acts ha (keeps.refl s)
  generalize issue t acts s = i at h
  cases i with
  | stalled => exact keeps.refl s
  | trapped u => exact h
  | done u => exact h
/-- A bundle keeps what `keeps` says, whatever stands in its four slots. -/
theorem runSlot_keeps (t k : Nat) (b : Beside) (a : SlotAct) (s : State) (h : actKeeps a) : nextKeeps s (runSlot t k b a s) := by
  refine .next (issued_keeps _ _ (fun c hc => ?_) s)
  rcases List.mem_or_eq_of_mem_set hc with hc | hc
  · exact slotsOf_keeps _ _ _ hc
  · cases hc; exact h
theorem runScalar_keeps (t : Nat) (b : Beside) (a : SlotAct) (s : State) (h : actKeeps a) : nextKeeps s (runScalar t b a s) :=
  runSlot_keeps _ _ _ _ _ h
theorem trapOnly_keeps {s0 : State} (t : Nat) (b : Beside) {u s : State} (hu : keeps s0 u) (h0 : keeps s0 s) :
    keeps s0 (trapOnly t b u s) := by
  have h := issue_keeps t (slotsOf t b) (slotsOf_keeps t b) hu
  unfold trapOnly
  split
  · rename_i e; rw [e] at h; exact h
  · exact h0

theorem slotsNop_keeps : ∀ a, some a ∈ [some nopAct, some nopAct, some nopAct, some nopAct] → actKeeps a := by
  intro a h
  simp only [List.mem_cons, List.not_mem_nil, or_false, or_self] at h
  cases h; exact nopAct_keeps

/-! ### The other operations that answer -/

theorem runCmd_keeps (e who w : Nat) (s : State) : nextKeeps s (runCmd e who w s) :=
  .next (answering_keeps _ (writeCmd_keeps _ _ _ (keeps.refl s)))
theorem onTile_keeps (t : Nat) (s : State) (f : State → State) (h : keeps s (f s)) : nextKeeps s (onTile t s f) := by
  unfold onTile; exact .ite (.next h) (.next (keeps.refl s))

end Sys2Proof.Machine
end

