-- ==== Sys2Proof/WellFormed.lean ====
section
/-! DEFINITION. Which commands are well formed: their octets are octets, their air times 64-bit, their mesh addresses 40-bit,
a lane frame has 3,072 codes of 10 bits, branch words have 32 bits, and what a cage reports is of its length (04 R83, R85,
R113; 13 R343; 14 R373; 16 R413; 18 R451). -/
namespace Sys2Proof

def octetsOk (l : List Nat) : Bool := l.all (fun o => decide (o < 256))
def u64 (n : Nat) : Bool := decide (n < 2 ^ 64)
/-- The 10-bit codes of a lane frame: 3,072 characters (04 R83, R85). -/
def codesOk (l : List Nat) : Bool := l.length == 3072 && l.all (fun c => decide (c < 1024))
/-- Words of a branch (18 R451; 05 Table 5.1). -/
def wordsOk (l : List Nat) : Bool := l.all (fun w => decide (w < 2 ^ 32))
/-- The check of one command; the other operands are bounded by their types or by the command's own meaning. -/
def wellFormed (i : Instr) : Bool :=
  match i with
  | .bellFire _ airTime => u64 airTime
  | .paceTimerFire _ airTime => u64 airTime
  | .laneFrameSend _ airTime => u64 airTime
  | .laneFrameReceived _ codes arr16 => codesOk codes && decide (arr16 < 16 * 2 ^ 64)
  | .reply _ _ _ _ airTime => u64 airTime
  | .align _ _ _ _ airTime => u64 airTime
  | .time _ airTime _ _ => u64 airTime
  | .headid _ body => decide (body < 256 ^ 25)
  | .headstat _ body => decide (body < 256 ^ 23)
  | .binSample _ airTime _ => u64 airTime
  | .captureClose _ _ _ airTime => u64 airTime
  | .tagAndFcntCommitted _ _ airTime => u64 airTime
  | .headGainWindow airTime => u64 airTime
  | .floorPeriodEnd _ _ airTime => u64 airTime
  | .maskBlockEnd _ airTime => u64 airTime
  | .substitution _ _ airTime => u64 airTime
  | .wakeComplete _ _ airTime => u64 airTime
  | .reportCardUpdate _ airTime => u64 airTime
  | .cageInsertion _ _ identity => decide (identity < 256 ^ 256)
  | .cageDiagnosticsRead _ diag => decide (diag < 256 ^ 10)
  | .detectionRaised _ _ _ peakAt airTime => u64 peakAt && u64 airTime
  | .captureWeightsReady _ _ branches airTime => branches.all wordsOk && u64 airTime
  | .captureBlockComplete _ _ branches => branches.all wordsOk
  | .weightRecompute _ x => x.branches.all wordsOk
  | .lifeLimit _ airTime => u64 airTime
  | .vack d => octetsOk d.octets
  | .burstStart _ airTime => u64 airTime
  | .meshRequest _ _ _ addr _ _ data _ _ => decide (addr < 2 ^ 40) && octetsOk data
  | .request d _ _ => octetsOk d.octets
  | .rs485FrameReceived octets => octetsOk octets
  | .beat _ _ _ _ epoch => u64 epoch
  | .headset _ _ _ _ _ _ airTime => u64 airTime
  | .branchmap _ _ _ _ _ _ _ peakAt _ => u64 peakAt
  | .xferCommit _ _ _ _ _ atK _ => u64 atK
  | .xferAtK _ airTime => u64 airTime
  | .ethernetFrameReceived _ _ _ _ _ _ octets => octetsOk octets
  | .auxiliaryRailValid .. | .bootPass .. | .holdupChargeTimeout .. | .mainsDip | .mainsLoss
  | .mainsLossBeforeStep7 | .sealComplete .. | .holdupExhausted | .holdupCapacityTest .. | .thermalLimit ..
  | .modeRequestStandby .. | .modeRequestService .. | .modeRequestSafe .. | .serviceEntry | .quietSet ..
  | .quietRelease .. | .escalationToSafe .. | .referenceLost | .referenceQualified | .timebaseValid
  | .timebaseRestart .. | .bellWrite .. | .paceTimerWrite .. | .paceWindowEnd .. | .ledgerSecond
  | .unpoweredIntervalWrite .. | .laneEnable .. | .clockRecovered .. | .commaLock ..
  | .lossOfFrame .. | .lossOfSignal .. | .signalRestored .. | .tapreq .. | .taprep ..
  | .tapAdaptation .. | .tapreqAbandoned .. | .commandResend .. | .crcAlarmEvaluation .. | .switchoverDeadline ..
  | .spareRevert .. | .backedHeadWrite .. | .cageRemoval .. | .calibrationSwapArm .. | .calibrationCopyDone ..
  | .admissionRound ..
  | .captureRingOverrun .. | .historyOverwritten ..
  | .verdictIssued .. | .verdictBatchSend .. | .resendInterval .. | .collectorWrite ..
  | .averagingPeriodWrite .. | .loopSettingWrite .. | .enrol ..
  | .retire .. | .replace .. | .rekey .. | .rekeyShadowRelease .. | .statusWrite .. | .chargeSet ..
  | .uplinkCounterRaise .. | .chargeModelAssign .. | .creditPlanAssign .. | .grant .. | .grantBudgetAdd ..
  | .sliceWrite .. | .dailySweep | .journalApply .. | .rollPoisonRepair .. | .downlinkRequest ..
  | .stagedReplyWrite .. | .buildDeadline .. | .burstEnd .. | .rampProfileWrite ..
  | .coefficientSetWrite .. | .dutyBucketWrite .. | .hallPassRead .. | .hallPassRelease .. | .forcedRelease ..
  | .holdLimitExpiry .. | .ccmDownlinkBuild .. | .ccmUplinkVerify .. | .ctr .. | .cipherCmac ..
  | .cipherOperationComplete .. | .keyLoad .. | .keyErase .. | .viLoadKey .. | .viManagementKey ..
  | .blockOwnerWrite .. | .tokenArrival .. | .dispatch .. | .emit .. | .done .. | .bufalloc .. | .buffree ..
  | .hostctlWrite .. | .dispatchMapWrite .. | .drainLimitExpiry .. | .add .. | .sub ..
  | .and .. | .or .. | .xor .. | .shl .. | .shr .. | .sra .. | .mul .. | .qmul .. | .min .. | .max .. | .slt ..
  | .sltu .. | .adds .. | .subs .. | .nsb .. | .rshr .. | .addi .. | .andi .. | .ori .. | .xori .. | .shli ..
  | .shri .. | .srai .. | .movi .. | .movhi .. | .padd .. | .movx .. | .br .. | .jal .. | .jr .. | .loop ..
  | .loopEnd .. | .csrr .. | .csrw .. | .rte .. | .waitop .. | .fence .. | .yield .. | .halt .. | .vadd ..
  | .vsub .. | .vmul .. | .vand .. | .vor .. | .vxor .. | .vmin .. | .vmax .. | .vabs .. | .vneg .. | .vshl ..
  | .vsra .. | .vrsra .. | .vcmpeq .. | .vcmplt .. | .vavg .. | .cmul .. | .cmulj .. | .vconj .. | .vbexp ..
  | .vsel .. | .vshli .. | .vshri .. | .vsrai .. | .vrsrai .. | .vmac .. | .vmsu .. | .cmac .. | .cmacj ..
  | .vmacb .. | .vmula .. | .cmula .. | .vexta .. | .vclra .. | .vbcast .. | .ld .. | .ldh .. | .ldhu ..
  | .ldb .. | .ldbu .. | .st .. | .sth .. | .stb .. | .vld .. | .vst .. | .vldff16 .. | .vldff32 .. | .vstf ..
  | .pmod .. | .movc .. | .cxphase .. | .cxdiv .. | .cxrecip .. | .cxrsqrt .. | .cxlog2 .. | .cxexp2 ..
  | .cxResult .. | .trap .. | .postedStoreResponse .. | .tileImageLoad .. | .moverCtrlWrite .. | .kick ..
  | .moverEvent .. | .descriptorStart .. | .descriptorComplete .. | .ownerWrite .. | .meshResponse ..
  | .meshTimeout .. | .quarantineExpiry .. | .headerFlitUncorrectable .. | .columnSwitchover ..
  | .probeConfigurationWrite .. | .traceModeWrite .. | .domainVote .. | .idleDelayExpiry .. | .portClosed ..
  | .scrub .. | .errorRecordHandlingLimit .. | .errorAcknowledge .. | .officeHeartbeatLoss
  | .lockstepMismatch .. | .officeFailover | .substituteTest .. | .fenceRelease .. | .clearBadDescriptors ..
  | .prefectWatchdog | .relayTest .. | .relayTestEnd | .accountMarkAcknowledge ..
  | .rs485FrameTimeout | .addressChangeEffective .. | .firmwareOpen .. | .firmwareChunk .. | .firmwareVerify ..
  | .firmwareActivate .. | .firmwareCommit .. | .firmwareAbandon .. | .probationExpiry | .packageOpen ..
  | .packageChunk .. | .packageVerify .. | .packageActivate .. | .packageAbandon .. | .packageRotationStep ..
  | .emergencyStatusRead .. | .forceSilent .. | .emergencyReset .. | .headLoss | .headChangeEffective | .gains ..
  | .dirupd .. | .fwdframe .. | .fwdverdict .. | .transferWrite .. | .xferPrepare .. | .xferReady ..
  | .xferAbort .. | .xferQuery .. | .memberDrain .. | .accelOperationDone .. | .wipeComplete .. | .nop ..
  | .ethernetLinkDown .. | .ethernetLinkUp .. | .stagingBufferDrain | .officePairReloadAndTest .. => true

end Sys2Proof
end

