-- ==== Sys2Proof/Laws/PerInstr.lean ====
section
/-! SUPPORT. Statements made once per command. -/
namespace Sys2Proof.Laws.Widths

/-- The air times a command carries (01 R17: 64 bits). -/
def airTimes (i : Instr) : List Nat :=
  match i with
  | .bellFire _ x => [x]
  | .paceTimerFire _ x => [x]
  | .laneFrameSend _ x => [x]
  | .align _ _ _ _ x => [x]
  | .time _ x _ _ => [x]
  | .reply _ _ _ _ x => [x]
  | .binSample _ x _ => [x]
  | .detectionRaised _ _ _ x y => [x, y]
  | .captureWeightsReady _ _ _ x => [x]
  | .captureClose _ _ _ x => [x]
  | .tagAndFcntCommitted _ _ x => [x]
  | .headGainWindow x => [x]
  | .floorPeriodEnd _ _ x => [x]
  | .maskBlockEnd _ x => [x]
  | .substitution _ _ x => [x]
  | .wakeComplete _ _ x => [x]
  | .reportCardUpdate _ x => [x]
  | .lifeLimit _ x => [x]
  | .burstStart _ x => [x]
  | .beat _ _ _ _ x => [x]
  | .headset _ _ _ _ _ _ x => [x]
  | .branchmap _ _ _ _ _ _ _ x _ => [x]
  | .xferCommit _ _ _ _ _ x _ => [x]
  | .xferAtK _ x => [x]
  | _ => []
/-- The octet strings a command carries: of a message, a frame, or the data of a mesh request. -/
def octetStrings (i : Instr) : List (List Nat) :=
  match i with
  | .vack x => [x.octets]
  | .meshRequest _ _ _ _ _ _ x _ _ => [x]
  | .request x _ _ => [x.octets]
  | .rs485FrameReceived x => [x]
  | .ethernetFrameReceived _ _ _ _ _ _ x => [x]
  | _ => []
/-- A well-formed command carries 64-bit air times and strings of octets. -/
def Statement (i : Instr) : Prop :=
  wellFormed i = true → (∀ t ∈ airTimes i, t < 2 ^ 64) ∧ ∀ l ∈ octetStrings i, ∀ o ∈ l, o < 256

theorem u64_lt (n : Nat) (h : u64 n = true) : n < 2 ^ 64 := of_decide_eq_true h
theorem octetsOk_lt (l : List Nat) (h : octetsOk l = true) (o : Nat) (ho : o ∈ l) : o < 256 :=
  of_decide_eq_true (List.all_eq_true.mp h o ho)
theorem neither (i : Instr) (h : airTimes i = []) (h' : octetStrings i = []) : Statement i := by
  intro _; simp [h, h']
theorem time64 (i : Instr) (t : Nat) (h : airTimes i = [t]) (h' : octetStrings i = []) (hw : wellFormed i = u64 t) :
    Statement i := by
  intro w; rw [hw] at w; simpa [h, h'] using u64_lt t w
theorem timed (i : Instr) (l : List Nat) (h : airTimes i = l) (h' : octetStrings i = [])
    (hw : wellFormed i = true → ∀ t ∈ l, u64 t = true) : Statement i := by
  intro w; simpa [h, h'] using fun t ht => u64_lt t (hw w t ht)
theorem octets (i : Instr) (l : List Nat) (h : airTimes i = []) (h' : octetStrings i = [l])
    (hw : wellFormed i = true → octetsOk l = true) : Statement i := by
  intro w; simpa [h, h'] using octetsOk_lt l (hw w)

theorem auxiliaryRailValid (a0 : BootFacts) : Statement (.auxiliaryRailValid a0) := neither _ rfl rfl
theorem bootPass (a0 : Nat) (a1 : Bool) : Statement (.bootPass a0 a1) := neither _ rfl rfl
theorem holdupChargeTimeout (a0 : Nat) : Statement (.holdupChargeTimeout a0) := neither _ rfl rfl
theorem mainsDip : Statement (.mainsDip) := neither _ rfl rfl
theorem mainsLoss : Statement (.mainsLoss) := neither _ rfl rfl
theorem mainsLossBeforeStep7 : Statement (.mainsLossBeforeStep7) := neither _ rfl rfl
theorem sealComplete (a0 : Bool) (a1 : Nat) (a2 : Nat) (a3 : BootFacts) : Statement (.sealComplete a0 a1 a2 a3) :=
    neither _ rfl rfl
theorem holdupExhausted : Statement (.holdupExhausted) := neither _ rfl rfl
theorem holdupCapacityTest (a0 : Nat) : Statement (.holdupCapacityTest a0) := neither _ rfl rfl
theorem thermalLimit (a0 : Readings) (a1 : Int) :
    Statement (.thermalLimit a0 a1) := neither _ rfl rfl
theorem modeRequestStandby (a0 : Fin 16) : Statement (.modeRequestStandby a0) := neither _ rfl rfl
theorem modeRequestService (a0 : Fin 16) : Statement (.modeRequestService a0) := neither _ rfl rfl
theorem modeRequestSafe (a0 : Fin 16) : Statement (.modeRequestSafe a0) := neither _ rfl rfl
theorem serviceEntry : Statement (.serviceEntry) := neither _ rfl rfl
theorem quietSet (a0 : Fin 16) : Statement (.quietSet a0) := neither _ rfl rfl
theorem quietRelease (a0 : Fin 16) : Statement (.quietRelease a0) := neither _ rfl rfl
theorem escalationToSafe (a0 : Fin 8) (a1 : Nat) : Statement (.escalationToSafe a0 a1) := neither _ rfl rfl
theorem referenceLost : Statement (.referenceLost) := neither _ rfl rfl
theorem referenceQualified : Statement (.referenceQualified) := neither _ rfl rfl
theorem timebaseValid : Statement (.timebaseValid) := neither _ rfl rfl
theorem timebaseRestart (a0 : Fin 16) (a1 : Nat) : Statement (.timebaseRestart a0 a1) := neither _ rfl rfl
theorem bellFire (a0 : Fin 64) (a1 : Nat) : Statement (.bellFire a0 a1) := time64 _ a1 rfl rfl rfl
theorem bellWrite (a0 : Fin 16) (a1 : Bool) (a2 : Nat) (a3 : Nat) : Statement (.bellWrite a0 a1 a2 a3) := neither _
    rfl rfl
theorem paceTimerFire (a0 : Fin 16) (a1 : Nat) : Statement (.paceTimerFire a0 a1) := time64 _ a1 rfl rfl rfl
theorem paceTimerWrite (a0 : Fin 16) (a1 : Bool) (a2 : Nat) (a3 : Nat) : Statement (.paceTimerWrite a0 a1 a2 a3) :=
    neither _ rfl rfl
theorem paceWindowEnd (a0 : List Nat) : Statement (.paceWindowEnd a0) := neither _ rfl rfl
theorem ledgerSecond : Statement (.ledgerSecond) := neither _ rfl rfl
theorem unpoweredIntervalWrite (a0 : Fin 16) (a1 : Nat) : Statement (.unpoweredIntervalWrite a0 a1) := neither _ rfl
    rfl
theorem laneEnable (a0 : Fin 20) : Statement (.laneEnable a0) := neither _ rfl rfl
theorem laneFrameSend (a0 : Fin 20) (a1 : Nat) : Statement (.laneFrameSend a0 a1) := time64 _ a1 rfl rfl rfl
theorem clockRecovered (a0 : Fin 20) : Statement (.clockRecovered a0) := neither _ rfl rfl
theorem commaLock (a0 : Fin 20) : Statement (.commaLock a0) := neither _ rfl rfl
theorem laneFrameReceived (a0 : Fin 20) (a1 : List Nat) (a2 : Nat) : Statement (.laneFrameReceived a0 a1 a2) :=
    neither _ rfl rfl
theorem lossOfFrame (a0 : Fin 20) : Statement (.lossOfFrame a0) := neither _ rfl rfl
theorem lossOfSignal (a0 : Fin 20) (a1 : Bool) (a2 : Bool) : Statement (.lossOfSignal a0 a1 a2) := neither _ rfl rfl
theorem signalRestored (a0 : Fin 20) : Statement (.signalRestored a0) := neither _ rfl rfl
theorem headid (a0 : Fin 16) (a1 : Nat) :
    Statement (.headid a0 a1) := neither _ rfl rfl
theorem headstat (a0 : Fin 16) (a1 : Nat) :
    Statement (.headstat a0 a1) := neither _ rfl rfl
theorem align (a0 : Fin 20) (a1 : Fin 256) (a2 : Fin 256) (a3 : Fin 3072) (a4 : Nat) :
    Statement (.align a0 a1 a2 a3 a4) := time64 _ a4 rfl rfl rfl
theorem time (a0 : Fin 20) (a1 : Nat) (a2 : Nat) (a3 : Nat) :
    Statement (.time a0 a1 a2 a3) := time64 _ a1 rfl rfl rfl
theorem reply (a0 : Fin 20) (a1 : Fin 256) (a2 : Fin 256) (a3 : Status) (a4 : Nat) :
    Statement (.reply a0 a1 a2 a3 a4) := time64 _ a4 rfl rfl rfl
theorem tapreq (a0 : Fin 20) (a1 : Fin 256) (a2 : Bool) (a3 : Bool) :
    Statement (.tapreq a0 a1 a2 a3) := neither _ rfl rfl
theorem taprep (a0 : Fin 20) (a1 : Fin 256) (a2 : Fin 256) (a3 : Fin 256) :
    Statement (.taprep a0 a1 a2 a3) := neither _ rfl rfl
theorem tapAdaptation (a0 : Fin 20) (a1 : Bool) (a2 : Bool) : Statement (.tapAdaptation a0 a1 a2) := neither _ rfl rfl
theorem tapreqAbandoned (a0 : Fin 20) : Statement (.tapreqAbandoned a0) := neither _ rfl rfl
theorem commandResend (a0 : Fin 16) (a1 : Fin 256) : Statement (.commandResend a0 a1) := neither _ rfl rfl
theorem crcAlarmEvaluation (a0 : Fin 20) : Statement (.crcAlarmEvaluation a0) := neither _ rfl rfl
theorem switchoverDeadline (a0 : Fin 12) : Statement (.switchoverDeadline a0) := neither _ rfl rfl
theorem spareRevert (a0 : Fin 16) (a1 : Nat) (a2 : Nat) : Statement (.spareRevert a0 a1 a2) := neither _ rfl rfl
theorem backedHeadWrite (a0 : Fin 16) (a1 : Nat) (a2 : Nat) : Statement (.backedHeadWrite a0 a1 a2) := neither _ rfl
    rfl
theorem cageInsertion (a0 : Fin 22) (a1 : Bool) (a2 : Nat) : Statement (.cageInsertion a0 a1 a2) := neither _ rfl rfl
theorem cageRemoval (a0 : Fin 22) : Statement (.cageRemoval a0) := neither _ rfl rfl
theorem cageDiagnosticsRead (a0 : Fin 22) (a1 : Nat) : Statement (.cageDiagnosticsRead a0 a1) := neither _ rfl rfl
theorem calibrationSwapArm (a0 : Fin 16) (a1 : Nat) : Statement (.calibrationSwapArm a0 a1) := neither _ rfl rfl
theorem calibrationCopyDone (a0 : Fin 10) : Statement (.calibrationCopyDone a0) := neither _ rfl rfl
theorem binSample (a0 : Nat) (a1 : Nat) (a2 : List (Nat × Nat × Nat)) :
    Statement (.binSample a0 a1 a2) := time64 _ a1 rfl rfl rfl
theorem detectionRaised (a0 : Fin 2) (a1 : Fin 32) (a2 : Fin 512) (a3 : Nat) (a4 : Nat) :
    Statement (.detectionRaised a0 a1 a2 a3 a4) := timed _ [a3, a4] rfl rfl (by simp [wellFormed])
theorem admissionRound (a0 : Nat) : Statement (.admissionRound a0) := neither _ rfl rfl
theorem captureWeightsReady (a0 : Fin 4096) (a1 : List (Nat × Nat × Nat)) (a2 : List (List Nat)) (a3 : Nat) :
    Statement (.captureWeightsReady a0 a1 a2 a3) := timed _ [a3] rfl rfl (by simp [wellFormed])
theorem captureBlockComplete (a0 : Fin 4096) (a1 : List (Nat × Nat × Nat)) (a2 : List (List Nat)) : Statement
    (.captureBlockComplete a0 a1 a2) := neither _ rfl rfl
theorem captureRingOverrun (a0 : Fin 4096) : Statement (.captureRingOverrun a0) := neither _ rfl rfl
theorem weightRecompute (a0 : Fin 4096) (a1 : Decided) :
    Statement (.weightRecompute a0 a1) := neither _ rfl rfl
theorem captureClose (a0 : Fin 4096) (a1 : Bool) (a2 : Decisions) (a3 : Nat) :
    Statement (.captureClose a0 a1 a2 a3) := time64 _ a3 rfl rfl rfl
theorem lifeLimit (a0 : Fin 4096) (a1 : Nat) : Statement (.lifeLimit a0 a1) := time64 _ a1 rfl rfl rfl
theorem historyOverwritten (a0 : Bool) (a1 : Nat) : Statement (.historyOverwritten a0 a1) := neither _ rfl rfl
theorem tagAndFcntCommitted (a0 : Fin 4096) (a1 : Decisions) (a2 : Nat) :
    Statement (.tagAndFcntCommitted a0 a1 a2) := time64 _ a2 rfl rfl rfl
theorem verdictIssued (a0 : Fin 4096) (a1 : Nat) (a2 : Bool) : Statement (.verdictIssued a0 a1 a2) := neither _ rfl
    rfl
theorem verdictBatchSend (a0 : Fin 16) (a1 : Fin 4) : Statement (.verdictBatchSend a0 a1) := neither _ rfl rfl
theorem vack (a0 : Datagram) : Statement (.vack a0) := octets _ a0.octets rfl rfl id
theorem resendInterval (a0 : Fin 16) (a1 : Fin 4) : Statement (.resendInterval a0 a1) := neither _ rfl rfl
theorem collectorWrite (a0 : Fin 16) (a1 : Nat) (a2 : Nat) : Statement (.collectorWrite a0 a1 a2) := neither _ rfl rfl
theorem headGainWindow (a0 : Nat) :
    Statement (.headGainWindow a0) := time64 _ a0 rfl rfl rfl
theorem floorPeriodEnd (a0 : Nat) (a1 : Nat) (a2 : Nat) :
    Statement (.floorPeriodEnd a0 a1 a2) := time64 _ a2 rfl rfl rfl
theorem averagingPeriodWrite (a0 : Fin 16) (a1 : Nat) : Statement (.averagingPeriodWrite a0 a1) := neither _ rfl rfl
theorem loopSettingWrite (a0 : Fin 16) (a1 : Fin 5) (a2 : Nat) (a3 : Nat) : Statement (.loopSettingWrite a0 a1 a2 a3)
    := neither _ rfl rfl
theorem enrol (a0 : Fin 16) (a1 : Nat) (a2 : Nat) : Statement (.enrol a0 a1 a2) := neither _ rfl rfl
theorem retire (a0 : Fin 16) (a1 : Nat) (a2 : Nat) : Statement (.retire a0 a1 a2) := neither _ rfl rfl
theorem replace (a0 : Fin 16) (a1 : Nat) (a2 : Nat) : Statement (.replace a0 a1 a2) := neither _ rfl rfl
theorem rekey (a0 : Fin 16) (a1 : Nat) (a2 : Nat) : Statement (.rekey a0 a1 a2) := neither _ rfl rfl
theorem rekeyShadowRelease (a0 : Fin 262144) : Statement (.rekeyShadowRelease a0) := neither _ rfl rfl
theorem statusWrite (a0 : Fin 16) (a1 : Nat) (a2 : Nat) : Statement (.statusWrite a0 a1 a2) := neither _ rfl rfl
theorem chargeSet (a0 : Fin 16) (a1 : Nat) (a2 : Nat) : Statement (.chargeSet a0 a1 a2) := neither _ rfl rfl
theorem uplinkCounterRaise (a0 : Fin 16) (a1 : Nat) (a2 : Nat) : Statement (.uplinkCounterRaise a0 a1 a2) := neither _
    rfl rfl
theorem chargeModelAssign (a0 : Fin 16) (a1 : Nat) (a2 : Nat) : Statement (.chargeModelAssign a0 a1 a2) := neither _
    rfl rfl
theorem creditPlanAssign (a0 : Fin 16) (a1 : Nat) (a2 : Nat) : Statement (.creditPlanAssign a0 a1 a2) := neither _ rfl
    rfl
theorem grant (a0 : Fin 16) (a1 : Nat) (a2 : Nat) : Statement (.grant a0 a1 a2) := neither _ rfl rfl
theorem grantBudgetAdd (a0 : Fin 16) (a1 : Nat) (a2 : Nat) : Statement (.grantBudgetAdd a0 a1 a2) := neither _ rfl rfl
theorem sliceWrite (a0 : Fin 16) (a1 : List (Bool × Nat × Nat)) : Statement (.sliceWrite a0 a1) := neither _ rfl rfl
theorem dailySweep : Statement (.dailySweep) := neither _ rfl rfl
theorem journalApply (a0 : Nat) : Statement (.journalApply a0) := neither _ rfl rfl
theorem rollPoisonRepair (a0 : Fin 262144) (a1 : Fin 8) (a2 : Bool) : Statement (.rollPoisonRepair a0 a1 a2) :=
    neither _ rfl rfl
theorem downlinkRequest (a0 : Fin 16) (a1 : Nat) (a2 : Nat) : Statement (.downlinkRequest a0 a1 a2) := neither _ rfl
    rfl
theorem stagedReplyWrite (a0 : Fin 16) (a1 : Nat) (a2 : Nat) : Statement (.stagedReplyWrite a0 a1 a2) := neither _ rfl
    rfl
theorem buildDeadline (a0 : Nat) : Statement (.buildDeadline a0) := neither _ rfl rfl
theorem burstStart (a0 : Nat) (a1 : Nat) : Statement (.burstStart a0 a1) := time64 _ a1 rfl rfl rfl
theorem burstEnd (a0 : Nat) : Statement (.burstEnd a0) := neither _ rfl rfl
theorem maskBlockEnd (a0 : Nat) (a1 : Nat) :
    Statement (.maskBlockEnd a0 a1) := time64 _ a1 rfl rfl rfl
theorem rampProfileWrite (a0 : Fin 16) (a1 : Nat) (a2 : Nat) : Statement (.rampProfileWrite a0 a1 a2) := neither _ rfl
    rfl
theorem coefficientSetWrite (a0 : Fin 16) (a1 : Bool) (a2 : Nat) (a3 : Nat) : Statement (.coefficientSetWrite a0 a1 a2
    a3) := neither _ rfl rfl
theorem dutyBucketWrite (a0 : Fin 16) (a1 : Bool) (a2 : Nat) (a3 : Nat) : Statement (.dutyBucketWrite a0 a1 a2 a3) :=
    neither _ rfl rfl
theorem hallPassRead (a0 : Fin 8) (a1 : Nat) : Statement (.hallPassRead a0 a1) := neither _ rfl rfl
theorem hallPassRelease (a0 : Fin 8) (a1 : Nat) (a2 : Nat) : Statement (.hallPassRelease a0 a1 a2) := neither _ rfl
    rfl
theorem forcedRelease (a0 : Fin 8) (a1 : Nat) : Statement (.forcedRelease a0 a1) := neither _ rfl rfl
theorem holdLimitExpiry (a0 : Fin 8) : Statement (.holdLimitExpiry a0) := neither _ rfl rfl
theorem ccmDownlinkBuild (a0 : Fin 8) (a1 : Nat) (a2 : Nat) (a3 : Bool) : Statement (.ccmDownlinkBuild a0 a1 a2 a3) :=
    neither _ rfl rfl
theorem ccmUplinkVerify (a0 : Fin 8) (a1 : Nat) (a2 : Nat) (a3 : Bool) : Statement (.ccmUplinkVerify a0 a1 a2 a3) :=
    neither _ rfl rfl
theorem ctr (a0 : Fin 8) (a1 : Nat) (a2 : Nat) (a3 : Bool) : Statement (.ctr a0 a1 a2 a3) := neither _ rfl rfl
theorem cipherCmac (a0 : Fin 8) (a1 : Nat) (a2 : Nat) (a3 : Bool) : Statement (.cipherCmac a0 a1 a2 a3) := neither _
    rfl rfl
theorem cipherOperationComplete (a0 : Fin 8) : Statement (.cipherOperationComplete a0) := neither _ rfl rfl
theorem keyLoad (a0 : Fin 16) (a1 : Nat) (a2 : Nat) : Statement (.keyLoad a0 a1 a2) := neither _ rfl rfl
theorem keyErase (a0 : Fin 16) (a1 : Nat) (a2 : Nat) : Statement (.keyErase a0 a1 a2) := neither _ rfl rfl
theorem viLoadKey (a0 : Fin 16) (a1 : Nat) (a2 : Nat) (a3 : Nat) : Statement (.viLoadKey a0 a1 a2 a3) := neither _ rfl
    rfl
theorem viManagementKey (a0 : Fin 16) (a1 : Nat) (a2 : Nat) (a3 : Nat) : Statement (.viManagementKey a0 a1 a2 a3) :=
    neither _ rfl rfl
theorem blockOwnerWrite (a0 : Fin 16) (a1 : Nat) (a2 : Nat) : Statement (.blockOwnerWrite a0 a1 a2) := neither _ rfl
    rfl
theorem tokenArrival (a0 : Fin 256) (a1 : Nat) (a2 : Nat) : Statement (.tokenArrival a0 a1 a2) := neither _ rfl rfl
theorem dispatch (a0 : Fin 60) : Statement (.dispatch a0) := neither _ rfl rfl
theorem emit (a0 : Fin 52) : Statement (.emit a0) := neither _ rfl rfl
theorem done (a0 : Fin 52) : Statement (.done a0) := neither _ rfl rfl
theorem bufalloc (a0 : Fin 52) : Statement (.bufalloc a0) := neither _ rfl rfl
theorem buffree (a0 : Fin 52) (a1 : Nat) : Statement (.buffree a0 a1) := neither _ rfl rfl
theorem hostctlWrite (a0 : Fin 52) (a1 : Word) : Statement (.hostctlWrite a0 a1) := neither _ rfl rfl
theorem dispatchMapWrite (a0 : Fin 16) (a1 : Nat) (a2 : Nat) : Statement (.dispatchMapWrite a0 a1 a2) := neither _ rfl
    rfl
theorem substitution (a0 : Fin 48) (a1 : List Nat) (a2 : Nat) :
    Statement (.substitution a0 a1 a2) := time64 _ a2 rfl rfl rfl
theorem drainLimitExpiry (a0 : Fin 52) : Statement (.drainLimitExpiry a0) := neither _ rfl rfl
theorem add (a0 : Fin 52) (a1 : Beside) (a2 : Fin 32) (a3 : Fin 32) (a4 : Fin 32) : Statement (.add a0 a1 a2 a3 a4) :=
    neither _ rfl rfl
theorem sub (a0 : Fin 52) (a1 : Beside) (a2 : Fin 32) (a3 : Fin 32) (a4 : Fin 32) : Statement (.sub a0 a1 a2 a3 a4) :=
    neither _ rfl rfl
theorem and (a0 : Fin 52) (a1 : Beside) (a2 : Fin 32) (a3 : Fin 32) (a4 : Fin 32) : Statement (.and a0 a1 a2 a3 a4) :=
    neither _ rfl rfl
theorem or (a0 : Fin 52) (a1 : Beside) (a2 : Fin 32) (a3 : Fin 32) (a4 : Fin 32) : Statement (.or a0 a1 a2 a3 a4) :=
    neither _ rfl rfl
theorem xor (a0 : Fin 52) (a1 : Beside) (a2 : Fin 32) (a3 : Fin 32) (a4 : Fin 32) : Statement (.xor a0 a1 a2 a3 a4) :=
    neither _ rfl rfl
theorem shl (a0 : Fin 52) (a1 : Beside) (a2 : Fin 32) (a3 : Fin 32) (a4 : Fin 32) : Statement (.shl a0 a1 a2 a3 a4) :=
    neither _ rfl rfl
theorem shr (a0 : Fin 52) (a1 : Beside) (a2 : Fin 32) (a3 : Fin 32) (a4 : Fin 32) : Statement (.shr a0 a1 a2 a3 a4) :=
    neither _ rfl rfl
theorem sra (a0 : Fin 52) (a1 : Beside) (a2 : Fin 32) (a3 : Fin 32) (a4 : Fin 32) : Statement (.sra a0 a1 a2 a3 a4) :=
    neither _ rfl rfl
theorem mul (a0 : Fin 52) (a1 : Beside) (a2 : Fin 32) (a3 : Fin 32) (a4 : Fin 32) : Statement (.mul a0 a1 a2 a3 a4) :=
    neither _ rfl rfl
theorem qmul (a0 : Fin 52) (a1 : Beside) (a2 : Fin 32) (a3 : Fin 32) (a4 : Fin 32) : Statement (.qmul a0 a1 a2 a3 a4)
    := neither _ rfl rfl
theorem min (a0 : Fin 52) (a1 : Beside) (a2 : Fin 32) (a3 : Fin 32) (a4 : Fin 32) : Statement (.min a0 a1 a2 a3 a4) :=
    neither _ rfl rfl
theorem max (a0 : Fin 52) (a1 : Beside) (a2 : Fin 32) (a3 : Fin 32) (a4 : Fin 32) : Statement (.max a0 a1 a2 a3 a4) :=
    neither _ rfl rfl
theorem slt (a0 : Fin 52) (a1 : Beside) (a2 : Fin 32) (a3 : Fin 32) (a4 : Fin 32) : Statement (.slt a0 a1 a2 a3 a4) :=
    neither _ rfl rfl
theorem sltu (a0 : Fin 52) (a1 : Beside) (a2 : Fin 32) (a3 : Fin 32) (a4 : Fin 32) : Statement (.sltu a0 a1 a2 a3 a4)
    := neither _ rfl rfl
theorem adds (a0 : Fin 52) (a1 : Beside) (a2 : Fin 32) (a3 : Fin 32) (a4 : Fin 32) : Statement (.adds a0 a1 a2 a3 a4)
    := neither _ rfl rfl
theorem subs (a0 : Fin 52) (a1 : Beside) (a2 : Fin 32) (a3 : Fin 32) (a4 : Fin 32) : Statement (.subs a0 a1 a2 a3 a4)
    := neither _ rfl rfl
theorem nsb (a0 : Fin 52) (a1 : Beside) (a2 : Fin 32) (a3 : Fin 32) (a4 : Fin 32) : Statement (.nsb a0 a1 a2 a3 a4) :=
    neither _ rfl rfl
theorem rshr (a0 : Fin 52) (a1 : Beside) (a2 : Fin 32) (a3 : Fin 32) (a4 : Fin 32) : Statement (.rshr a0 a1 a2 a3 a4)
    := neither _ rfl rfl
theorem addi (a0 : Fin 52) (a1 : Beside) (a2 : Fin 32) (a3 : Fin 32) (a4 : BitVec 16) : Statement (.addi a0 a1 a2 a3
    a4) := neither _ rfl rfl
theorem andi (a0 : Fin 52) (a1 : Beside) (a2 : Fin 32) (a3 : Fin 32) (a4 : BitVec 16) : Statement (.andi a0 a1 a2 a3
    a4) := neither _ rfl rfl
theorem ori (a0 : Fin 52) (a1 : Beside) (a2 : Fin 32) (a3 : Fin 32) (a4 : BitVec 16) : Statement (.ori a0 a1 a2 a3 a4)
    := neither _ rfl rfl
theorem xori (a0 : Fin 52) (a1 : Beside) (a2 : Fin 32) (a3 : Fin 32) (a4 : BitVec 16) : Statement (.xori a0 a1 a2 a3
    a4) := neither _ rfl rfl
theorem shli (a0 : Fin 52) (a1 : Beside) (a2 : Fin 32) (a3 : Fin 32) (a4 : BitVec 16) : Statement (.shli a0 a1 a2 a3
    a4) := neither _ rfl rfl
theorem shri (a0 : Fin 52) (a1 : Beside) (a2 : Fin 32) (a3 : Fin 32) (a4 : BitVec 16) : Statement (.shri a0 a1 a2 a3
    a4) := neither _ rfl rfl
theorem srai (a0 : Fin 52) (a1 : Beside) (a2 : Fin 32) (a3 : Fin 32) (a4 : BitVec 16) : Statement (.srai a0 a1 a2 a3
    a4) := neither _ rfl rfl
theorem movi (a0 : Fin 52) (a1 : Beside) (a2 : Fin 32) (a3 : BitVec 16) : Statement (.movi a0 a1 a2 a3) := neither _
    rfl rfl
theorem movhi (a0 : Fin 52) (a1 : Beside) (a2 : Fin 32) (a3 : Fin 32) (a4 : BitVec 16) : Statement (.movhi a0 a1 a2 a3
    a4) := neither _ rfl rfl
theorem padd (a0 : Fin 52) (a1 : Beside) (a2 : Fin 8) (a3 : Fin 8) (a4 : BitVec 16) : Statement (.padd a0 a1 a2 a3 a4)
    := neither _ rfl rfl
theorem movx (a0 : Fin 52) (a1 : Beside) (a2 : Fin 32) (a3 : Fin 32) (a4 : Fin 8) (a5 : Fin 8) : Statement (.movx a0
    a1 a2 a3 a4 a5) := neither _ rfl rfl
theorem br (a0 : Fin 52) (a1 : Beside) (a2 : Fin 32) (a3 : Fin 32) (a4 : Fin 8) (a5 : BitVec 13) : Statement (.br a0
    a1 a2 a3 a4 a5) := neither _ rfl rfl
theorem jal (a0 : Fin 52) (a1 : Beside) (a2 : Fin 32) (a3 : BitVec 13) : Statement (.jal a0 a1 a2 a3) := neither _ rfl
    rfl
theorem jr (a0 : Fin 52) (a1 : Beside) (a2 : Fin 32) : Statement (.jr a0 a1 a2) := neither _ rfl rfl
theorem loop (a0 : Fin 52) (a1 : Beside) (a2 : Bool) (a3 : BitVec 2) (a4 : Fin 32) (a5 : Fin 4096) : Statement (.loop
    a0 a1 a2 a3 a4 a5) := neither _ rfl rfl
theorem loopEnd (a0 : Fin 52) (a1 : Beside) : Statement (.loopEnd a0 a1) := neither _ rfl rfl
theorem csrr (a0 : Fin 52) (a1 : Beside) (a2 : Fin 32) (a3 : Fin 4096) : Statement (.csrr a0 a1 a2 a3) := neither _
    rfl rfl
theorem csrw (a0 : Fin 52) (a1 : Beside) (a2 : Fin 32) (a3 : Fin 4096) : Statement (.csrw a0 a1 a2 a3) := neither _
    rfl rfl
theorem rte (a0 : Fin 52) (a1 : Beside) : Statement (.rte a0 a1) := neither _ rfl rfl
theorem waitop (a0 : Fin 52) (a1 : Beside) (a2 : Fin 32) : Statement (.waitop a0 a1 a2) := neither _ rfl rfl
theorem fence (a0 : Fin 52) (a1 : Beside) (a2 : Fin 32) : Statement (.fence a0 a1 a2) := neither _ rfl rfl
theorem yield (a0 : Fin 52) (a1 : Beside) : Statement (.yield a0 a1) := neither _ rfl rfl
theorem halt (a0 : Fin 52) (a1 : Beside) : Statement (.halt a0 a1) := neither _ rfl rfl
theorem vadd (a0 : Fin 52) (a1 : Beside) (a2 : Fin 32) (a3 : Fin 32) (a4 : Fin 32) (a5 : Fin 4) (a6 : Bool) :
    Statement (.vadd a0 a1 a2 a3 a4 a5 a6) := neither _ rfl rfl
theorem vsub (a0 : Fin 52) (a1 : Beside) (a2 : Fin 32) (a3 : Fin 32) (a4 : Fin 32) (a5 : Fin 4) (a6 : Bool) :
    Statement (.vsub a0 a1 a2 a3 a4 a5 a6) := neither _ rfl rfl
theorem vmul (a0 : Fin 52) (a1 : Beside) (a2 : Fin 32) (a3 : Fin 32) (a4 : Fin 32) (a5 : Fin 4) (a6 : Bool) :
    Statement (.vmul a0 a1 a2 a3 a4 a5 a6) := neither _ rfl rfl
theorem vand (a0 : Fin 52) (a1 : Beside) (a2 : Fin 32) (a3 : Fin 32) (a4 : Fin 32) (a5 : Fin 4) (a6 : Bool) :
    Statement (.vand a0 a1 a2 a3 a4 a5 a6) := neither _ rfl rfl
theorem vor (a0 : Fin 52) (a1 : Beside) (a2 : Fin 32) (a3 : Fin 32) (a4 : Fin 32) (a5 : Fin 4) (a6 : Bool) : Statement
    (.vor a0 a1 a2 a3 a4 a5 a6) := neither _ rfl rfl
theorem vxor (a0 : Fin 52) (a1 : Beside) (a2 : Fin 32) (a3 : Fin 32) (a4 : Fin 32) (a5 : Fin 4) (a6 : Bool) :
    Statement (.vxor a0 a1 a2 a3 a4 a5 a6) := neither _ rfl rfl
theorem vmin (a0 : Fin 52) (a1 : Beside) (a2 : Fin 32) (a3 : Fin 32) (a4 : Fin 32) (a5 : Fin 4) (a6 : Bool) :
    Statement (.vmin a0 a1 a2 a3 a4 a5 a6) := neither _ rfl rfl
theorem vmax (a0 : Fin 52) (a1 : Beside) (a2 : Fin 32) (a3 : Fin 32) (a4 : Fin 32) (a5 : Fin 4) (a6 : Bool) :
    Statement (.vmax a0 a1 a2 a3 a4 a5 a6) := neither _ rfl rfl
theorem vabs (a0 : Fin 52) (a1 : Beside) (a2 : Fin 32) (a3 : Fin 32) (a4 : Fin 4) (a5 : Bool) : Statement (.vabs a0 a1
    a2 a3 a4 a5) := neither _ rfl rfl
theorem vneg (a0 : Fin 52) (a1 : Beside) (a2 : Fin 32) (a3 : Fin 32) (a4 : Fin 4) (a5 : Bool) : Statement (.vneg a0 a1
    a2 a3 a4 a5) := neither _ rfl rfl
theorem vshl (a0 : Fin 52) (a1 : Beside) (a2 : Fin 32) (a3 : Fin 32) (a4 : Fin 32) (a5 : Fin 4) (a6 : Bool) :
    Statement (.vshl a0 a1 a2 a3 a4 a5 a6) := neither _ rfl rfl
theorem vsra (a0 : Fin 52) (a1 : Beside) (a2 : Fin 32) (a3 : Fin 32) (a4 : Fin 32) (a5 : Fin 4) (a6 : Bool) :
    Statement (.vsra a0 a1 a2 a3 a4 a5 a6) := neither _ rfl rfl
theorem vrsra (a0 : Fin 52) (a1 : Beside) (a2 : Fin 32) (a3 : Fin 32) (a4 : Fin 32) (a5 : Fin 4) (a6 : Bool) :
    Statement (.vrsra a0 a1 a2 a3 a4 a5 a6) := neither _ rfl rfl
theorem vcmpeq (a0 : Fin 52) (a1 : Beside) (a2 : Fin 32) (a3 : Fin 32) (a4 : Fin 32) (a5 : Fin 4) (a6 : Bool) :
    Statement (.vcmpeq a0 a1 a2 a3 a4 a5 a6) := neither _ rfl rfl
theorem vcmplt (a0 : Fin 52) (a1 : Beside) (a2 : Fin 32) (a3 : Fin 32) (a4 : Fin 32) (a5 : Fin 4) (a6 : Bool) :
    Statement (.vcmplt a0 a1 a2 a3 a4 a5 a6) := neither _ rfl rfl
theorem vavg (a0 : Fin 52) (a1 : Beside) (a2 : Fin 32) (a3 : Fin 32) (a4 : Fin 32) (a5 : Fin 4) (a6 : Bool) :
    Statement (.vavg a0 a1 a2 a3 a4 a5 a6) := neither _ rfl rfl
theorem cmul (a0 : Fin 52) (a1 : Beside) (a2 : Fin 32) (a3 : Fin 32) (a4 : Fin 32) (a5 : Fin 4) (a6 : Bool) :
    Statement (.cmul a0 a1 a2 a3 a4 a5 a6) := neither _ rfl rfl
theorem cmulj (a0 : Fin 52) (a1 : Beside) (a2 : Fin 32) (a3 : Fin 32) (a4 : Fin 32) (a5 : Fin 4) (a6 : Bool) :
    Statement (.cmulj a0 a1 a2 a3 a4 a5 a6) := neither _ rfl rfl
theorem vconj (a0 : Fin 52) (a1 : Beside) (a2 : Fin 32) (a3 : Fin 32) (a4 : Fin 4) (a5 : Bool) : Statement (.vconj a0
    a1 a2 a3 a4 a5) := neither _ rfl rfl
theorem vbexp (a0 : Fin 52) (a1 : Beside) (a2 : Fin 32) (a3 : Fin 4) (a4 : Bool) : Statement (.vbexp a0 a1 a2 a3 a4)
    := neither _ rfl rfl
theorem vsel (a0 : Fin 52) (a1 : Beside) (a2 : Fin 32) (a3 : Fin 32) (a4 : Fin 32) (a5 : Fin 4) (a6 : Bool) :
    Statement (.vsel a0 a1 a2 a3 a4 a5 a6) := neither _ rfl rfl
theorem vshli (a0 : Fin 52) (a1 : Beside) (a2 : Fin 32) (a3 : Fin 32) (a4 : Fin 32) (a5 : Fin 4) (a6 : Bool) :
    Statement (.vshli a0 a1 a2 a3 a4 a5 a6) := neither _ rfl rfl
theorem vshri (a0 : Fin 52) (a1 : Beside) (a2 : Fin 32) (a3 : Fin 32) (a4 : Fin 32) (a5 : Fin 4) (a6 : Bool) :
    Statement (.vshri a0 a1 a2 a3 a4 a5 a6) := neither _ rfl rfl
theorem vsrai (a0 : Fin 52) (a1 : Beside) (a2 : Fin 32) (a3 : Fin 32) (a4 : Fin 32) (a5 : Fin 4) (a6 : Bool) :
    Statement (.vsrai a0 a1 a2 a3 a4 a5 a6) := neither _ rfl rfl
theorem vrsrai (a0 : Fin 52) (a1 : Beside) (a2 : Fin 32) (a3 : Fin 32) (a4 : Fin 32) (a5 : Fin 4) (a6 : Bool) :
    Statement (.vrsrai a0 a1 a2 a3 a4 a5 a6) := neither _ rfl rfl
theorem vmac (a0 : Fin 52) (a1 : Beside) (a2 : Fin 4) (a3 : Fin 32) (a4 : Fin 32) : Statement (.vmac a0 a1 a2 a3 a4)
    := neither _ rfl rfl
theorem vmsu (a0 : Fin 52) (a1 : Beside) (a2 : Fin 4) (a3 : Fin 32) (a4 : Fin 32) : Statement (.vmsu a0 a1 a2 a3 a4)
    := neither _ rfl rfl
theorem cmac (a0 : Fin 52) (a1 : Beside) (a2 : Fin 4) (a3 : Fin 32) (a4 : Fin 32) : Statement (.cmac a0 a1 a2 a3 a4)
    := neither _ rfl rfl
theorem cmacj (a0 : Fin 52) (a1 : Beside) (a2 : Fin 4) (a3 : Fin 32) (a4 : Fin 32) : Statement (.cmacj a0 a1 a2 a3 a4)
    := neither _ rfl rfl
theorem vmacb (a0 : Fin 52) (a1 : Beside) (a2 : Fin 4) (a3 : Fin 32) (a4 : Fin 32) (a5 : Fin 32) : Statement (.vmacb
    a0 a1 a2 a3 a4 a5) := neither _ rfl rfl
theorem vmula (a0 : Fin 52) (a1 : Beside) (a2 : Fin 4) (a3 : Fin 32) (a4 : Fin 32) : Statement (.vmula a0 a1 a2 a3 a4)
    := neither _ rfl rfl
theorem cmula (a0 : Fin 52) (a1 : Beside) (a2 : Fin 4) (a3 : Fin 32) (a4 : Fin 32) : Statement (.cmula a0 a1 a2 a3 a4)
    := neither _ rfl rfl
theorem vexta (a0 : Fin 52) (a1 : Beside) (a2 : Fin 32) (a3 : Fin 4) (a4 : Fin 32) (a5 : Bool) : Statement (.vexta a0
    a1 a2 a3 a4 a5) := neither _ rfl rfl
theorem vclra (a0 : Fin 52) (a1 : Beside) (a2 : Fin 4) : Statement (.vclra a0 a1 a2) := neither _ rfl rfl
theorem vbcast (a0 : Fin 52) (a1 : Beside) (a2 : Fin 32) (a3 : Fin 32) (a4 : Fin 4) : Statement (.vbcast a0 a1 a2 a3
    a4) := neither _ rfl rfl
theorem ld (a0 : Fin 52) (a1 : Beside) (a2 : Fin 32) (a3 : Fin 8) (a4 : Fin 4) (a5 : BitVec 16) : Statement (.ld a0 a1
    a2 a3 a4 a5) := neither _ rfl rfl
theorem ldh (a0 : Fin 52) (a1 : Beside) (a2 : Fin 32) (a3 : Fin 8) (a4 : Fin 4) (a5 : BitVec 16) : Statement (.ldh a0
    a1 a2 a3 a4 a5) := neither _ rfl rfl
theorem ldhu (a0 : Fin 52) (a1 : Beside) (a2 : Fin 32) (a3 : Fin 8) (a4 : Fin 4) (a5 : BitVec 16) : Statement (.ldhu
    a0 a1 a2 a3 a4 a5) := neither _ rfl rfl
theorem ldb (a0 : Fin 52) (a1 : Beside) (a2 : Fin 32) (a3 : Fin 8) (a4 : Fin 4) (a5 : BitVec 16) : Statement (.ldb a0
    a1 a2 a3 a4 a5) := neither _ rfl rfl
theorem ldbu (a0 : Fin 52) (a1 : Beside) (a2 : Fin 32) (a3 : Fin 8) (a4 : Fin 4) (a5 : BitVec 16) : Statement (.ldbu
    a0 a1 a2 a3 a4 a5) := neither _ rfl rfl
theorem st (a0 : Fin 52) (a1 : Beside) (a2 : Fin 32) (a3 : Fin 8) (a4 : Fin 4) (a5 : BitVec 16) : Statement (.st a0 a1
    a2 a3 a4 a5) := neither _ rfl rfl
theorem sth (a0 : Fin 52) (a1 : Beside) (a2 : Fin 32) (a3 : Fin 8) (a4 : Fin 4) (a5 : BitVec 16) : Statement (.sth a0
    a1 a2 a3 a4 a5) := neither _ rfl rfl
theorem stb (a0 : Fin 52) (a1 : Beside) (a2 : Fin 32) (a3 : Fin 8) (a4 : Fin 4) (a5 : BitVec 16) : Statement (.stb a0
    a1 a2 a3 a4 a5) := neither _ rfl rfl
theorem vld (a0 : Fin 52) (a1 : Beside) (a2 : Fin 32) (a3 : Fin 8) (a4 : Fin 4) (a5 : BitVec 16) : Statement (.vld a0
    a1 a2 a3 a4 a5) := neither _ rfl rfl
theorem vst (a0 : Fin 52) (a1 : Beside) (a2 : Fin 32) (a3 : Fin 8) (a4 : Fin 4) (a5 : BitVec 16) : Statement (.vst a0
    a1 a2 a3 a4 a5) := neither _ rfl rfl
theorem vldff16 (a0 : Fin 52) (a1 : Beside) (a2 : Fin 32) (a3 : Fin 8) (a4 : Fin 4) (a5 : BitVec 16) : Statement
    (.vldff16 a0 a1 a2 a3 a4 a5) := neither _ rfl rfl
theorem vldff32 (a0 : Fin 52) (a1 : Beside) (a2 : Fin 32) (a3 : Fin 8) (a4 : Fin 4) (a5 : BitVec 16) : Statement
    (.vldff32 a0 a1 a2 a3 a4 a5) := neither _ rfl rfl
theorem vstf (a0 : Fin 52) (a1 : Beside) (a2 : Fin 32) (a3 : Fin 8) (a4 : Fin 4) (a5 : BitVec 16) : Statement (.vstf
    a0 a1 a2 a3 a4 a5) := neither _ rfl rfl
theorem pmod (a0 : Fin 52) (a1 : Beside) (a2 : Fin 8) (a3 : Fin 4) (a4 : BitVec 16) : Statement (.pmod a0 a1 a2 a3 a4)
    := neither _ rfl rfl
theorem movc (a0 : Fin 52) (a1 : Beside) (a2 : Fin 32) (a3 : Fin 8) (a4 : Fin 4) (a5 : Bool) : Statement (.movc a0 a1
    a2 a3 a4 a5) := neither _ rfl rfl
theorem cxphase (a0 : Fin 52) (a1 : Beside) (a2 : Fin 8) (a3 : Fin 8) : Statement (.cxphase a0 a1 a2 a3) := neither _
    rfl rfl
theorem cxdiv (a0 : Fin 52) (a1 : Beside) (a2 : Fin 8) (a3 : Fin 8) (a4 : Fin 8) : Statement (.cxdiv a0 a1 a2 a3 a4)
    := neither _ rfl rfl
theorem cxrecip (a0 : Fin 52) (a1 : Beside) (a2 : Fin 8) (a3 : Fin 8) : Statement (.cxrecip a0 a1 a2 a3) := neither _
    rfl rfl
theorem cxrsqrt (a0 : Fin 52) (a1 : Beside) (a2 : Fin 8) (a3 : Fin 8) : Statement (.cxrsqrt a0 a1 a2 a3) := neither _
    rfl rfl
theorem cxlog2 (a0 : Fin 52) (a1 : Beside) (a2 : Fin 8) (a3 : Fin 8) : Statement (.cxlog2 a0 a1 a2 a3) := neither _
    rfl rfl
theorem cxexp2 (a0 : Fin 52) (a1 : Beside) (a2 : Fin 8) (a3 : Fin 8) : Statement (.cxexp2 a0 a1 a2 a3) := neither _
    rfl rfl
theorem cxResult (a0 : Fin 52) (a1 : Fin 4) : Statement (.cxResult a0 a1) := neither _ rfl rfl
theorem trap (a0 : Fin 52) (a1 : Beside) (a2 : Bool) : Statement (.trap a0 a1 a2) := neither _ rfl rfl
theorem postedStoreResponse (a0 : Fin 52) (a1 : Nat) : Statement (.postedStoreResponse a0 a1) := neither _ rfl rfl
theorem tileImageLoad (a0 : Fin 52) (a1 : Image) : Statement (.tileImageLoad a0 a1) := neither _ rfl rfl
theorem moverCtrlWrite (a0 : Fin 64) (a1 : Nat) (a2 : Nat) : Statement (.moverCtrlWrite a0 a1 a2) := neither _ rfl rfl
theorem kick (a0 : Fin 64) (a1 : Nat) (a2 : Nat) : Statement (.kick a0 a1 a2) := neither _ rfl rfl
theorem moverEvent (a0 : MoverSignal) :
    Statement (.moverEvent a0) := neither _ rfl rfl
theorem descriptorStart (a0 : Fin 64) : Statement (.descriptorStart a0) := neither _ rfl rfl
theorem descriptorComplete (a0 : Fin 64) : Statement (.descriptorComplete a0) := neither _ rfl rfl
theorem ownerWrite (a0 : Fin 64) (a1 : Nat) (a2 : Nat) : Statement (.ownerWrite a0 a1 a2) := neither _ rfl rfl
theorem meshRequest (a0 : Fin 8) (a1 : Nat) (a2 : Nat) (a3 : Nat) (a4 : Fin 256) (a5 : Fin 64) (a6 : List Nat) (a7 :
    Bool) (a8 : List Nat) : Statement (.meshRequest a0 a1 a2 a3 a4 a5 a6 a7 a8) := octets _ a6 rfl rfl fun h =>
    (Bool.and_eq_true _ _ ▸ h).2
theorem meshResponse (a0 : Nat) (a1 : Nat) (a2 : Bool) (a3 : Nat) (a4 : List Nat) : Statement (.meshResponse a0 a1 a2
    a3 a4) := neither _ rfl rfl
theorem meshTimeout (a0 : Nat) (a1 : Nat) (a2 : Nat) (a3 : Bool) : Statement (.meshTimeout a0 a1 a2 a3) := neither _
    rfl rfl
theorem quarantineExpiry (a0 : Nat) (a1 : Nat) : Statement (.quarantineExpiry a0 a1) := neither _ rfl rfl
theorem headerFlitUncorrectable (a0 : Fin 72) (a1 : Nat) (a2 : LostPacket) :
    Statement (.headerFlitUncorrectable a0 a1 a2) := neither _ rfl rfl
theorem columnSwitchover (a0 : Fin 9) (a1 : List (Nat × Nat × Nat)) (a2 : Nat) : Statement (.columnSwitchover a0 a1
    a2) := neither _ rfl rfl
theorem probeConfigurationWrite (a0 : Fin 16) (a1 : Nat) (a2 : Nat) : Statement (.probeConfigurationWrite a0 a1 a2) :=
    neither _ rfl rfl
theorem traceModeWrite (a0 : Fin 16) (a1 : Nat) : Statement (.traceModeWrite a0 a1) := neither _ rfl rfl
theorem domainVote (a0 : Fin 65) (a1 : Fin 5) (a2 : Bool) : Statement (.domainVote a0 a1 a2) := neither _ rfl rfl
theorem idleDelayExpiry (a0 : Fin 65) : Statement (.idleDelayExpiry a0) := neither _ rfl rfl
theorem portClosed (a0 : Fin 65) : Statement (.portClosed a0) := neither _ rfl rfl
theorem wakeComplete (a0 : Fin 65) (a1 : Bool) (a2 : Nat) :
    Statement (.wakeComplete a0 a1 a2) := time64 _ a2 rfl rfl rfl
theorem scrub (a0 : Nat) (a1 : Bool) (a2 : Nat) (a3 : List Nat) : Statement (.scrub a0 a1 a2 a3) := neither _ rfl rfl
theorem errorRecordHandlingLimit (a0 : Nat) : Statement (.errorRecordHandlingLimit a0) := neither _ rfl rfl
theorem errorAcknowledge (a0 : Fin 16) (a1 : Nat) : Statement (.errorAcknowledge a0 a1) := neither _ rfl rfl
theorem officeHeartbeatLoss : Statement (.officeHeartbeatLoss) := neither _ rfl rfl
theorem lockstepMismatch (a0 : Fin 2) : Statement (.lockstepMismatch a0) := neither _ rfl rfl
theorem officeFailover : Statement (.officeFailover) := neither _ rfl rfl
theorem substituteTest (a0 : Fin 52) (a1 : Bool) : Statement (.substituteTest a0 a1) := neither _ rfl rfl
theorem fenceRelease (a0 : Fin 16) (a1 : Nat) (a2 : Bool) : Statement (.fenceRelease a0 a1 a2) := neither _ rfl rfl
theorem clearBadDescriptors (a0 : Fin 16) (a1 : Nat) : Statement (.clearBadDescriptors a0 a1) := neither _ rfl rfl
theorem reportCardUpdate (a0 : List (Nat × Nat)) (a1 : Nat) :
    Statement (.reportCardUpdate a0 a1) := time64 _ a1 rfl rfl rfl
theorem prefectWatchdog : Statement (.prefectWatchdog) := neither _ rfl rfl
theorem relayTest (a0 : Fin 16) (a1 : Nat) : Statement (.relayTest a0 a1) := neither _ rfl rfl
theorem relayTestEnd : Statement (.relayTestEnd) := neither _ rfl rfl
theorem accountMarkAcknowledge (a0 : Fin 16) (a1 : Nat) (a2 : Nat) : Statement (.accountMarkAcknowledge a0 a1 a2) :=
    neither _ rfl rfl
theorem request (a0 : Datagram) (a1 : Option Nat) (a2 : Aid) : Statement (.request a0 a1 a2) := octets _ a0.octets rfl
    rfl id
theorem rs485FrameReceived (a0 : List Nat) : Statement (.rs485FrameReceived a0) := octets _ a0 rfl rfl id
theorem rs485FrameTimeout : Statement (.rs485FrameTimeout) := neither _ rfl rfl
theorem addressChangeEffective (a0 : Fin 2) : Statement (.addressChangeEffective a0) := neither _ rfl rfl
theorem firmwareOpen (a0 : Fin 16) : Statement (.firmwareOpen a0) := neither _ rfl rfl
theorem firmwareChunk (a0 : Fin 16) (a1 : Nat) (a2 : Nat) (a3 : Nat) : Statement (.firmwareChunk a0 a1 a2 a3) :=
    neither _ rfl rfl
theorem firmwareVerify (a0 : Fin 16) : Statement (.firmwareVerify a0) := neither _ rfl rfl
theorem firmwareActivate (a0 : Fin 16) (a1 : Bool) : Statement (.firmwareActivate a0 a1) := neither _ rfl rfl
theorem firmwareCommit (a0 : Fin 16) : Statement (.firmwareCommit a0) := neither _ rfl rfl
theorem firmwareAbandon (a0 : Fin 16) : Statement (.firmwareAbandon a0) := neither _ rfl rfl
theorem probationExpiry : Statement (.probationExpiry) := neither _ rfl rfl
theorem packageOpen (a0 : Fin 16) (a1 : Nat) : Statement (.packageOpen a0 a1) := neither _ rfl rfl
theorem packageChunk (a0 : Fin 16) (a1 : Nat) (a2 : Nat) (a3 : Nat) : Statement (.packageChunk a0 a1 a2 a3) := neither
    _ rfl rfl
theorem packageVerify (a0 : Fin 16) (a1 : Nat) (a2 : Package) : Statement (.packageVerify a0 a1 a2) := neither _ rfl
    rfl
theorem packageActivate (a0 : Fin 16) (a1 : Nat) : Statement (.packageActivate a0 a1) := neither _ rfl rfl
theorem packageAbandon (a0 : Fin 16) (a1 : Nat) : Statement (.packageAbandon a0 a1) := neither _ rfl rfl
theorem packageRotationStep (a0 : Fin 256) : Statement (.packageRotationStep a0) := neither _ rfl rfl
theorem emergencyStatusRead (a0 : Fin 65536) : Statement (.emergencyStatusRead a0) := neither _ rfl rfl
theorem forceSilent (a0 : Fin 16) (a1 : Nat) (a2 : Nat) (a3 : Fin 65536) : Statement (.forceSilent a0 a1 a2 a3) :=
    neither _ rfl rfl
theorem emergencyReset (a0 : Fin 16) (a1 : Nat) (a2 : Nat) (a3 : Fin 65536) (a4 : BootFacts) : Statement
    (.emergencyReset a0 a1 a2 a3 a4) := neither _ rfl rfl
theorem beat (a0 : Bool) (a1 : Fin 256) (a2 : Fin 256) (a3 : Bool) (a4 : Nat) : Statement (.beat a0 a1 a2 a3 a4) :=
    time64 _ a4 rfl rfl rfl
theorem headLoss : Statement (.headLoss) := neither _ rfl rfl
theorem headset (a0 : Bool) (a1 : Fin 256) (a2 : Fin 256) (a3 : Fin 256) (a4 : Fin 8) (a5 : Nat) (a6 : Nat) :
    Statement (.headset a0 a1 a2 a3 a4 a5 a6) := time64 _ a6 rfl rfl rfl
theorem headChangeEffective : Statement (.headChangeEffective) := neither _ rfl rfl
theorem branchmap (a0 : Bool) (a1 : Fin 256) (a2 : Fin 256) (a3 : Fin 4096) (a4 : Fin 8) (a5 : Fin 512) (a6 : Fin 6)
    (a7 : Nat) (a8 : List Nat) : Statement (.branchmap a0 a1 a2 a3 a4 a5 a6 a7 a8) := time64 _ a7 rfl rfl rfl
theorem gains (a0 : Bool) (a1 : Fin 256) (a2 : Fin 256) (a3 : Fin 481) (a4 : List Int) : Statement (.gains a0 a1 a2 a3
    a4) := neither _ rfl rfl
theorem dirupd (a0 : Bool) (a1 : Fin 256) (a2 : Fin 256) (a3 : BitVec 32) (a4 : Fin 256) (a5 : BitVec 32) : Statement
    (.dirupd a0 a1 a2 a3 a4 a5) := neither _ rfl rfl
theorem fwdframe (a0 : Bool) (a1 : Fin 256) (a2 : Fin 256) (a3 : Fin 4096) (a4 : Fin 2) (a5 : Forwarded) : Statement
    (.fwdframe a0 a1 a2 a3 a4 a5) := neither _ rfl rfl
theorem fwdverdict (a0 : Bool) (a1 : Fin 256) (a2 : Fin 256) (a3 : Nat) : Statement (.fwdverdict a0 a1 a2 a3) :=
    neither _ rfl rfl
theorem transferWrite (a0 : Fin 16) (a1 : Nat) (a2 : Nat) : Statement (.transferWrite a0 a1 a2) := neither _ rfl rfl
theorem xferPrepare (a0 : Bool) (a1 : Fin 256) (a2 : Fin 256) (a3 : Fin 262144) (a4 : Fin 262144) (a5 : Fin 16) (a6 :
    Nat) : Statement (.xferPrepare a0 a1 a2 a3 a4 a5 a6) := neither _ rfl rfl
theorem xferReady (a0 : Bool) (a1 : Fin 256) (a2 : Fin 256) (a3 : Fin 262144) (a4 : Fin 262144) : Statement
    (.xferReady a0 a1 a2 a3 a4) := neither _ rfl rfl
theorem xferCommit (a0 : Bool) (a1 : Fin 256) (a2 : Fin 256) (a3 : Fin 262144) (a4 : Fin 262144) (a5 : Nat) (a6 : Nat)
    : Statement (.xferCommit a0 a1 a2 a3 a4 a5 a6) := time64 _ a5 rfl rfl rfl
theorem xferAbort (a0 : Bool) (a1 : Fin 256) (a2 : Fin 256) (a3 : Fin 262144) (a4 : Fin 262144) : Statement
    (.xferAbort a0 a1 a2 a3 a4) := neither _ rfl rfl
theorem xferQuery (a0 : Bool) (a1 : Fin 256) (a2 : Fin 256) (a3 : Fin 262144) (a4 : Fin 262144) : Statement
    (.xferQuery a0 a1 a2 a3 a4) := neither _ rfl rfl
theorem xferAtK (a0 : Fin 262144) (a1 : Nat) : Statement (.xferAtK a0 a1) := time64 _ a1 rfl rfl rfl
theorem memberDrain (a0 : Fin 16) (a1 : Nat) (a2 : Nat) : Statement (.memberDrain a0 a1 a2) := neither _ rfl rfl
theorem accelOperationDone (a0 : Fin 8) (a1 : List (Nat × Nat × Nat)) : Statement (.accelOperationDone a0 a1) :=
    neither _ rfl rfl
theorem wipeComplete (a0 : Fin 8) : Statement (.wipeComplete a0) := neither _ rfl rfl
theorem nop (a0 : Fin 52) : Statement (.nop a0) := neither _ rfl rfl
theorem ethernetFrameReceived (a0 : Fin 2) (a1 : Fin 5) (a2 : Nat) (a3 : Nat) (a4 : Nat) (a5 : Bool) (a6 : List Nat) :
    Statement (.ethernetFrameReceived a0 a1 a2 a3 a4 a5 a6) := octets _ a6 rfl rfl id
theorem ethernetLinkDown (a0 : Fin 2) : Statement (.ethernetLinkDown a0) := neither _ rfl rfl
theorem ethernetLinkUp (a0 : Fin 2) : Statement (.ethernetLinkUp a0) := neither _ rfl rfl
theorem stagingBufferDrain : Statement (.stagingBufferDrain) := neither _ rfl rfl
theorem officePairReloadAndTest (a0 : Fin 2) (a1 : Bool) : Statement (.officePairReloadAndTest a0 a1) := neither _ rfl
    rfl
end Sys2Proof.Laws.Widths
end

