-- ==== Sys2Proof/Laws/Prefect.lean ====
section
/-! SUPPORT. The Prefect's operations change the Prefect, captures' tasks forced to end, and free values drawn: nothing
else. -/

namespace Sys2Proof.Machine

/-- u differs from s at most in the Prefect, the captures and the count of free values. -/
def prefectOnly (s u : State) : Prop :=
  u = { s with prefect := u.prefect, freeCount := u.freeCount, sweep := { s.sweep with captures := u.sweep.captures } }

theorem prefectOnly.refl (s : State) : prefectOnly s s := rfl
theorem prefectOnly.trans {s u v : State} (h : prefectOnly s u) (g : prefectOnly u v) : prefectOnly s v := by
  unfold prefectOnly at *; rw [g, h]
theorem prefectOnly.tiles {s u : State} (h : prefectOnly s u) : u.tiles = s.tiles := by rw [h]
theorem prefectOnly.tileOf {s u : State} (h : prefectOnly s u) (t : Nat) : tileOf u t = tileOf s t := by
  simp only [Machine.tileOf, h.tiles]
theorem prefectOnly.mesh {s u : State} (h : prefectOnly s u) : u.mesh = s.mesh := by rw [h]
theorem prefectOnly.pending {s u : State} (h : prefectOnly s u) : u.pending = s.pending := by rw [h]

theorem prefectOnly.ite {c : Prop} [Decidable c] {s u v : State} (h : prefectOnly s u) (g : prefectOnly s v) :
    prefectOnly s (if c then u else v) := by split <;> assumption

theorem foldl_prefectOnly {α : Type} (f : State → α → State) (hf : ∀ s a, prefectOnly s (f s a)) (l : List α) (s : State) :
    prefectOnly s (l.foldl f s) := by
  induction l generalizing s with
  | nil => exact .refl s
  | cons a l ih => exact (hf s a).trans (ih _)

theorem trace_only (kind opseq level node unit flow : Nat) (s : State) : prefectOnly s (trace kind opseq level node unit flow s) := by
  unfold trace; split <;> rfl
theorem pfBump_only (term : Nat) (s : State) : prefectOnly s (pfBump term s) := rfl
theorem bufAddRef_only (h : Nat) (s : State) : prefectOnly s (bufAddRef h s) := by unfold bufAddRef; split <;> rfl
theorem bufDrop_only (h : Nat) (s : State) : prefectOnly s (bufDrop h s) := by
  unfold bufDrop; simp only; split
  · rfl
  · split <;> rfl
theorem noteBlock_only (o : OpRec) (s : State) : prefectOnly s (noteBlock o s) := by
  unfold noteBlock; simp only; split
  · rfl
  · split
    · rfl
    · exact prefectOnly.trans (by rfl) (trace_only _ _ _ _ _ _ _)
theorem noteBlocks_only (s : State) : prefectOnly s (noteBlocks s) := foldl_prefectOnly _ (fun s o => noteBlock_only o s) _ _
theorem newOp_only (t : Token) (n : Node) (s : State) : prefectOnly s (newOp t n s) := by
  unfold newOp
  exact prefectOnly.trans (by rfl) ((((pfBump_only _ _).trans (pfBump_only _ _)).trans (trace_only _ _ _ _ _ _ _)).trans (noteBlock_only _ _))
theorem setFifo_only (k : Nat) (l : List Token) (s : State) : prefectOnly s (setFifo k l s) := by unfold setFifo; split <;> rfl
theorem forceEnd_only (c detail : Nat) (s : State) : prefectOnly s (forceEnd c detail s) := by unfold forceEnd; simp only; split <;> rfl
theorem dropToken_only (k : Nat) (t : Token) (level : Nat) (s : State) : prefectOnly s (dropToken k t level s) := by
  have h : prefectOnly s (bufDrop t.buf (trace 6 0 level t.dest 0 t.flow (pfBump 9 (pfBump 6
      { s with prefect := { s.prefect with dropped := bump s.prefect.dropped k } })))) :=
    (((prefectOnly.trans (u := { s with prefect := { s.prefect with dropped := bump s.prefect.dropped k } }) (by rfl)
      (pfBump_only _ _)).trans (pfBump_only _ _)).trans (trace_only _ _ _ _ _ _ _)).trans (bufDrop_only _ _)
  unfold dropToken
  simp only
  split
  · exact h.trans (forceEnd_only _ _ _)
  · exact h
theorem intoRecord_only (k : Nat) (t : Token) (n : Node) (s : State) : prefectOnly s (intoRecord k t n s) := by
  unfold intoRecord; split
  · exact (pfBump_only _ _).trans (newOp_only _ _ _)
  · split
    · exact (setFifo_only _ _ _).trans (pfBump_only _ _)
    · exact dropToken_only _ _ _ _
theorem deliver_only (fuel k : Nat) (l : List Token) (s : State) : prefectOnly s (deliver fuel k l s) := by
  induction fuel generalizing l s with
  | zero => cases l <;> rfl
  | succ n ih =>
    cases l with
    | nil => rfl
    | cons t rest =>
      unfold deliver
      split
      · exact (bufDrop_only _ _).trans (ih _ _)
      · split
        · exact ih _ _
        · simp only
          split
          · refine prefectOnly.trans ?_ (ih _ _)
            refine prefectOnly.trans ?_ (foldl_prefectOnly _ (fun s x => bufDrop_only _ s) _ _)
            rfl
          · exact prefectOnly.trans (by rfl) (ih _ _)
        · exact (intoRecord_only _ _ _ _).trans (ih _ _)
theorem raiseToken_only (port flow arg : Nat) (s : State) : prefectOnly s (raiseToken port flow arg s) := by
  unfold raiseToken; split
  · rfl
  · generalize (sourcesOf s port).filter _ = src
    show prefectOnly s (if src.isEmpty = true then _ else _)
    by_cases h : src.isEmpty = true
    · rw [if_pos h]; exact prefectOnly.trans (by rfl) (trace_only _ _ _ _ _ _ _)
    · rw [if_neg h]; exact deliver_only _ _ _ _
theorem raisePort_only (port arg : Nat) (s : State) : prefectOnly s (raisePort port arg s) := raiseToken_only _ _ _ _
theorem refill_only (fuel : Nat) (s : State) : prefectOnly s (refill fuel s) := by
  induction fuel generalizing s with
  | zero => rfl
  | succ n ih =>
    unfold refill; simp only; split
    · exact ((setFifo_only _ _ _).trans (newOp_only _ _ _)).trans (ih _)
    · rfl
theorem freeRecord_only (q : Nat) (s : State) : prefectOnly s (freeRecord q s) := rfl
theorem releaseOp_only (o : OpRec) (s : State) : prefectOnly s (releaseOp o s) :=
  ((freeRecord_only _ _).trans (trace_only _ _ _ _ _ _ _)).trans (deliver_only _ _ _ _)
theorem releaseHeld_only (fuel cls flow : Nat) (s : State) : prefectOnly s (releaseHeld fuel cls flow s) := by
  induction fuel generalizing s with
  | zero => rfl
  | succ n ih =>
    unfold releaseHeld; split
    · split
      · exact (releaseOp_only _ _).trans (ih _)
      · rfl
    · rfl
theorem modOp_only (q : Nat) (f : OpRec → OpRec) (s : State) : prefectOnly s (modOp q f s) := rfl
theorem releaseBlock_only (o : OpRec) (s : State) : prefectOnly s (releaseBlock o s) := by
  unfold releaseBlock; dsimp only; split <;> rfl
theorem completeOp_only (q : Nat) (s : State) : prefectOnly s (completeOp q s) := by
  unfold completeOp; split
  · rfl
  · rename_i o ho
    have h : prefectOnly s (releaseBlock o (trace 2 o.opseq o.level o.node 0 o.flow
        (o.held.foldl (fun u h => bufDrop h u) s))) :=
      ((foldl_prefectOnly _ (fun s x => bufDrop_only x s) _ _).trans (trace_only _ _ _ _ _ _ _)).trans (releaseBlock_only _ _)
    refine prefectOnly.trans ?_ ((refill_only _ _).trans (noteBlocks_only _))
    split
    · exact h.trans (modOp_only _ _ _)
    · exact (h.trans (releaseOp_only _ _)).trans (releaseHeld_only _ _ _ _)
theorem trapOp_only (q : Nat) (s : State) : prefectOnly s (trapOp q s) := by
  unfold trapOp; split
  · rfl
  · rename_i o ho
    have drops : ∀ (l : List Nat) (u : State), prefectOnly u (l.foldl (fun u h => bufDrop h u) u) :=
      fun l u => foldl_prefectOnly _ (fun s x => bufDrop_only x s) l u
    have h : prefectOnly s (o.out.foldl (fun u t => bufDrop t.buf u)
        (trace 5 o.opseq o.level o.node 0 o.flow (freeRecord q s))) :=
      ((freeRecord_only _ _).trans (trace_only _ _ _ _ _ _ _)).trans (foldl_prefectOnly _ (fun s x => bufDrop_only _ s) _ _)
    refine prefectOnly.trans ?_ ((releaseHeld_only _ _ _ _).trans ((refill_only _ _).trans (noteBlocks_only _)))
    split <;> split
    · exact ((h.trans (drops _ _)).trans (deliver_only _ _ _ _)).trans (forceEnd_only _ _ _)
    · exact (h.trans (drops _ _)).trans (forceEnd_only _ _ _)
    · exact (h.trans (drops _ _)).trans (deliver_only _ _ _ _)
    · exact h.trans (drops _ _)

/-- u differs from s at most in the decision trace and in what was noted of blocked operations. -/
def tracedOnly (s u : State) : Prop :=
  u = { s with prefect := { s.prefect with trace := u.prefect.trace, traceLost := u.prefect.traceLost
                                           blockSeen := u.prefect.blockSeen, winBlocks := u.prefect.winBlocks } }

theorem tracedOnly.refl (s : State) : tracedOnly s s := rfl
theorem tracedOnly.trans {s u v : State} (h : tracedOnly s u) (g : tracedOnly u v) : tracedOnly s v := by
  unfold tracedOnly at *; rw [g, h]
theorem trace_traced (kind opseq level node unit flow : Nat) (s : State) : tracedOnly s (trace kind opseq level node unit flow s) := by
  unfold trace; split <;> rfl
theorem noteBlock_traced (o : OpRec) (s : State) : tracedOnly s (noteBlock o s) := by
  unfold noteBlock; simp only; split
  · rfl
  · split
    · rfl
    · exact tracedOnly.trans (by rfl) (trace_traced _ _ _ _ _ _ _)
theorem noteBlocks_traced (s : State) : tracedOnly s (noteBlocks s) := by
  unfold noteBlocks
  generalize s.prefect.ops = l
  induction l generalizing s with
  | nil => rfl
  | cons o l ih => exact (noteBlock_traced o s).trans (ih _)
theorem tracedOnly.ops {s u : State} (h : tracedOnly s u) : u.prefect.ops = s.prefect.ops := by rw [h]
theorem tracedOnly.nextOpseq {s u : State} (h : tracedOnly s u) : u.prefect.nextOpseq = s.prefect.nextOpseq := by rw [h]
theorem tracedOnly.nextOrd {s u : State} (h : tracedOnly s u) : u.prefect.nextOrd = s.prefect.nextOrd := by rw [h]
theorem tracedOnly.bufRefs {s u : State} (h : tracedOnly s u) : u.prefect.bufRefs = s.prefect.bufRefs := by rw [h]
theorem tracedOnly.portFifo {s u : State} (h : tracedOnly s u) : u.prefect.portFifo = s.prefect.portFifo := by rw [h]
theorem tracedOnly.tileFifo {s u : State} (h : tracedOnly s u) : u.prefect.tileFifo = s.prefect.tileFifo := by rw [h]
theorem tracedOnly.drain {s u : State} (h : tracedOnly s u) : u.prefect.drain = s.prefect.drain := by rw [h]
theorem tracedOnly.phys {s u : State} (h : tracedOnly s u) : u.prefect.phys = s.prefect.phys := by rw [h]
theorem tracedOnly.invalid {s u : State} (h : tracedOnly s u) : u.prefect.invalid = s.prefect.invalid := by rw [h]
theorem tracedOnly.tiles {s u : State} (h : tracedOnly s u) : u.tiles = s.tiles := by rw [h]
theorem tracedOnly.sweep {s u : State} (h : tracedOnly s u) : u.sweep = s.sweep := by rw [h]
theorem tracedOnly.pace {s u : State} (h : tracedOnly s u) : u.pace = s.pace := by rw [h]

end Sys2Proof.Machine
end

