-- ==== Sys2Proof/Laws/Report.lean ====
section
/-! SUPPORT. Records, notifications and journals change the fault queue, the counters and journals of Molfen, the staging
buffer, the word of the last transition and what is sent: nothing else. -/

namespace Sys2Proof.Machine

/-- u differs from s at most in what a record, a notification or a journal entry changes. -/
def reportOnly (s u : State) : Prop :=
  u = { s with
    fault := u.fault, outbox := u.outbox
    molfen := { s.molfen with txCnt := u.molfen.txCnt, txReserved := u.molfen.txReserved, nextTseq := u.molfen.nextTseq,
                              newestTseq := u.molfen.newestTseq, journal := u.molfen.journal }
    roll := { s.roll with nextJseq := u.roll.nextJseq, newestJseq := u.roll.newestJseq, staging := u.roll.staging }
    mode := { s.mode with lastTransition := u.mode.lastTransition } }

theorem reportOnly.refl (s : State) : reportOnly s s := rfl
theorem reportOnly.trans {s u v : State} (h : reportOnly s u) (g : reportOnly u v) : reportOnly s v := by
  unfold reportOnly at *; rw [g, h]
theorem reportOnly.tiles {s u : State} (h : reportOnly s u) : u.tiles = s.tiles := by rw [h]
theorem reportOnly.tileOf {s u : State} (h : reportOnly s u) (t : Nat) : tileOf u t = tileOf s t := by
  simp only [Machine.tileOf, h.tiles]
theorem reportOnly.mesh {s u : State} (h : reportOnly s u) : u.mesh = s.mesh := by rw [h]
theorem reportOnly.pending {s u : State} (h : reportOnly s u) : u.pending = s.pending := by rw [h]
theorem reportOnly.mode {s u : State} (h : reportOnly s u) : u.mode = { s.mode with lastTransition := u.mode.lastTransition } := by
  rw [h]

theorem reportOnly.ite {c : Prop} [Decidable c] {s u v : State} (h : reportOnly s u) (g : reportOnly s v) :
    reportOnly s (if c then u else v) := by split <;> assumption

theorem foldl_reportOnly {α : Type} (f : State → α → State) (hf : ∀ s a, reportOnly s (f s a)) (l : List α) (s : State) :
    reportOnly s (l.foldl f s) := by
  induction l generalizing s with
  | nil => exact .refl s
  | cons a l ih => exact (hf s a).trans (ih _)

theorem emit_report (e : Emission) (s : State) : reportOnly s (emit e s) := rfl
theorem countSent_report (s : State) (vi : Nat) : reportOnly s (countSent s vi) := rfl
theorem notifyOne_report (s : State) (vi c type : Nat) (body : List Nat) (mk : Nat → List Nat → Emission) :
    reportOnly s (notifyOne s vi c type body mk) := by
  unfold notifyOne; split
  · rfl
  · split <;> rfl
theorem notifyVi_report (s : State) (vi type : Nat) (body : List Nat) (mk : Nat → Nat → List Nat → Emission) :
    reportOnly s (notifyVi s vi type body mk) := by
  unfold notifyVi; split
  · exact foldl_reportOnly _ (fun s c => notifyOne_report s _ _ _ _ _) _ _
  · rfl
theorem event_report (s : State) (vi kind data : Nat) : reportOnly s (event s vi kind data) := notifyVi_report _ _ _ _ _
theorem eventAll_report (s : State) (kind data : Nat) : reportOnly s (eventAll s kind data) :=
  foldl_reportOnly _ (fun s _ => event_report s _ _ _) _ _
theorem errRecord_report (b : ErrBody) (s : State) : reportOnly s (errRecord b s) := by
  unfold errRecord
  generalize stamp s = p
  obtain ⟨t, ok⟩ := p
  exact reportOnly.ite (reportOnly.trans (by rfl) (event_report _ _ _ _)) (by rfl)
theorem closeErr_report (s : State) (q st : Nat) : reportOnly s (closeErr s q st) := rfl
theorem detain_report (d : Detained) (s : State) : reportOnly s (detain d s) := by
  unfold detain; split
  · rfl
  · split <;> rfl
theorem listFence_report (unit ref : Nat) (s : State) : reportOnly s (listFence unit ref s) := by
  unfold listFence; split
  · rfl
  · exact (detain_report _ _).trans (by rfl)
theorem stageJournal_report (cls : Nat) (mk : Nat → StagedItem) (s : State) : reportOnly s (stageJournal cls mk s) := rfl
theorem conserve_report (kind data : Nat) (s : State) : reportOnly s (conserve kind data s) := rfl
theorem journalPut_report (mk : Nat → TxRec) (s : State) : reportOnly s (journalPut mk s) := rfl
theorem journalMod_report (q : Nat) (f : TxRec → TxRec) (s : State) : reportOnly s (journalMod q f s) := by
  unfold journalMod; split
  · split <;> rfl
  · rfl
theorem journalStage_report (cmd st : Nat) (s : State) : reportOnly s (journalStage cmd st s) := by
  unfold journalStage
  generalize stamp s = p
  obtain ⟨t, ok⟩ := p
  exact (journalPut_report _ _).trans (event_report _ _ _ _)
theorem recordTransition_report (old new : Mode) (cause : Nat) (s : State) : reportOnly s (recordTransition old new cause s) := by
  unfold recordTransition
  generalize stamp s = p
  obtain ⟨t, ok⟩ := p
  exact reportOnly.trans (by rfl) ((journalPut_report _ _).trans (eventAll_report _ _ _))

/-! ### Transitions and the end of a control command -/

/-- u differs from s at most in what is sent, the counters and journals that sending moves, the mode and its last
transition, and the two relays. -/
def settledOnly (s u : State) : Prop :=
  u = { s with
    outbox := u.outbox
    fault := { s.fault with major := u.fault.major, minor := u.fault.minor }
    molfen := { s.molfen with txCnt := u.molfen.txCnt, txReserved := u.molfen.txReserved, nextTseq := u.molfen.nextTseq,
                              newestTseq := u.molfen.newestTseq, journal := u.molfen.journal }
    roll := { s.roll with nextJseq := u.roll.nextJseq, newestJseq := u.roll.newestJseq, staging := u.roll.staging }
    mode := { s.mode with mode := u.mode.mode, silentFrom := u.mode.silentFrom, lastTransition := u.mode.lastTransition } }

theorem settledOnly.refl (s : State) : settledOnly s s := rfl
theorem settledOnly.trans {s u v : State} (h : settledOnly s u) (g : settledOnly u v) : settledOnly s v := by
  unfold settledOnly at *; rw [g, h]
theorem foldl_settledOnly {α : Type} (f : State → α → State) (hf : ∀ s a, settledOnly s (f s a)) (l : List α) (s : State) :
    settledOnly s (l.foldl f s) := by
  induction l generalizing s with
  | nil => exact .refl s
  | cons a l ih => exact (hf s a).trans (ih _)
theorem notifyOne_settled (s : State) (vi c type : Nat) (body : List Nat) (mk : Nat → List Nat → Emission) :
    settledOnly s (notifyOne s vi c type body mk) := by
  unfold notifyOne; split
  · rfl
  · split <;> rfl
theorem notifyVi_settled (s : State) (vi type : Nat) (body : List Nat) (mk : Nat → Nat → List Nat → Emission) :
    settledOnly s (notifyVi s vi type body mk) := by
  unfold notifyVi; split
  · exact foldl_settledOnly _ (fun s c => notifyOne_settled s _ _ _ _ _) _ _
  · rfl
theorem eventAll_settled (s : State) (kind data : Nat) : settledOnly s (eventAll s kind data) :=
  foldl_settledOnly _ (fun s _ => notifyVi_settled s _ _ _ _) _ _
theorem recordTransition_settled (old new : Mode) (cause : Nat) (s : State) : settledOnly s (recordTransition old new cause s) := by
  unfold recordTransition
  generalize stamp s = p
  obtain ⟨t, ok⟩ := p
  exact settledOnly.trans (by rfl) (eventAll_settled _ _ _)
theorem transition_settled (cause : Nat) (m : Mode) (s : State) : settledOnly s (transition cause m s) :=
  settledOnly.trans (by rfl) (recordTransition_settled _ _ _ _)
theorem settleOnce_settled (s : State) : settledOnly s (settleOnce s) := by
  have h : ∀ (c : Nat) (m f : Mode), settledOnly s (transition c m { s with mode := { s.mode with silentFrom := f } }) :=
    fun c m f => settledOnly.trans (by rfl) (transition_settled _ _ _)
  have g : ∀ (c : Prop) [Decidable c] (u v : State), settledOnly s u → settledOnly s v → settledOnly s (if c then u else v) :=
    fun c _ u v hu hv => by split <;> assumption
  unfold settleOnce
  split
  · exact g _ _ _ (h _ _ _) (.refl s)
  · exact g _ _ _ (h _ _ _) (g _ _ _ (transition_settled _ _ _) (.refl s))
  · exact g _ _ _ (h _ _ _) (g _ _ _ (transition_settled _ _ _) (.refl s))
  · exact g _ _ _ (.refl s) (transition_settled _ _ _)
  · exact .refl s
/-- A control command's end (02 R35, R36, R40, R41, R44; 15 R411, R412). -/
theorem settle_settled (s : State) : settledOnly s (settle s) :=
  (settleOnce_settled s).trans (by rfl)
/-- Outside STANDBY, SERVICE, DEGRADED and SILENT no cause changes the mode. -/
theorem settleOnce_other (s : State) (h : s.mode.mode ≠ .standby) (h1 : s.mode.mode ≠ .service) (h2 : s.mode.mode ≠ .degraded)
    (h3 : s.mode.mode ≠ .silent) : settleOnce s = s := by
  unfold settleOnce
  split <;> first | rfl | contradiction

end Sys2Proof.Machine
end

