-- ==== Sys2Proof/Laws/Tiles.lean ====
section
/-! SUPPORT. What a bundle that holds one operation does: the shared form of the tile operations. -/

namespace Sys2Proof.Machine

open Sys2Proof.Safety

theorem decodeS0_zero (t : Nat) : decodeS0 t 0 = some nopAct := rfl
theorem decodeS1_zero : decodeS1 0 = some nopAct := rfl
theorem decodeV_zero : decodeV 0 = some nopAct := rfl
theorem decodeM_zero (t : Nat) (r : Option Status) : decodeM t r 0 = some nopAct := rfl

theorem ready_parts {s : State} {t : Nat} (h : ready s t = true) : tileRuns s t = true ∧ fetchTrap (tileOf s t) = none := by
  simpa [ready, Option.isNone_iff_eq_none] using h

/-! A bundle issued changes no field but the two counts. -/

@[simp] theorem countBundle_tstate (z : Tile) : (countBundle z).tstate = z.tstate := rfl
@[simp] theorem countBundle_s (z : Tile) : (countBundle z).s = z.s := rfl
@[simp] theorem countBundle_p (z : Tile) : (countBundle z).p = z.p := rfl
@[simp] theorem countBundle_m (z : Tile) : (countBundle z).m = z.m := rfl
@[simp] theorem countBundle_v (z : Tile) : (countBundle z).v = z.v := rfl
@[simp] theorem countBundle_acc (z : Tile) : (countBundle z).acc = z.acc := rfl
@[simp] theorem countBundle_c (z : Tile) : (countBundle z).c = z.c := rfl
@[simp] theorem countBundle_ffm (z : Tile) : (countBundle z).ffm = z.ffm := rfl
@[simp] theorem countBundle_bexp (z : Tile) : (countBundle z).bexp = z.bexp := rfl
@[simp] theorem countBundle_pc (z : Tile) : (countBundle z).pc = z.pc := rfl
@[simp] theorem countBundle_task (z : Tile) : (countBundle z).task = z.task := rfl
@[simp] theorem countBundle_ptask (z : Tile) : (countBundle z).ptask = z.ptask := rfl
@[simp] theorem countBundle_cxeh (z : Tile) : (countBundle z).cxeh = z.cxeh := rfl
@[simp] theorem countBundle_cxet (z : Tile) : (countBundle z).cxet = z.cxet := rfl
@[simp] theorem countBundle_tglobal (z : Tile) : (countBundle z).tglobal = z.tglobal := rfl
@[simp] theorem countBundle_asat (z : Tile) : (countBundle z).asat = z.asat := rfl
@[simp] theorem countBundle_vsat (z : Tile) : (countBundle z).vsat = z.vsat := rfl
@[simp] theorem countBundle_tvec (z : Tile) : (countBundle z).tvec = z.tvec := rfl
@[simp] theorem countBundle_tcause (z : Tile) : (countBundle z).tcause = z.tcause := rfl
@[simp] theorem countBundle_tpc (z : Tile) : (countBundle z).tpc = z.tpc := rfl
@[simp] theorem countBundle_taddr (z : Tile) : (countBundle z).taddr = z.taddr := rfl
@[simp] theorem countBundle_tstat (z : Tile) : (countBundle z).tstat = z.tstat := rfl
@[simp] theorem countBundle_tbase (z : Tile) : (countBundle z).tbase = z.tbase := rfl
@[simp] theorem countBundle_tlimit (z : Tile) : (countBundle z).tlimit = z.tlimit := rfl
@[simp] theorem countBundle_gseg (z : Tile) : (countBundle z).gseg = z.gseg := rfl
@[simp] theorem countBundle_l0 (z : Tile) : (countBundle z).l0 = z.l0 := rfl
@[simp] theorem countBundle_l1 (z : Tile) : (countBundle z).l1 = z.l1 := rfl
@[simp] theorem countBundle_rrb (z : Tile) : (countBundle z).rrb = z.rrb := rfl
@[simp] theorem countBundle_cx (z : Tile) : (countBundle z).cx = z.cx := rfl
@[simp] theorem countBundle_cxerr (z : Tile) : (countBundle z).cxerr = z.cxerr := rfl
@[simp] theorem countBundle_logical (z : Tile) : (countBundle z).logical = z.logical := rfl
@[simp] theorem countBundle_imem (z : Tile) : (countBundle z).imem = z.imem := rfl
@[simp] theorem countBundle_dmem (z : Tile) : (countBundle z).dmem = z.dmem := rfl
@[simp] theorem countBundle_poison (z : Tile) : (countBundle z).poison = z.poison := rfl
@[simp] theorem countBundle_posted (z : Tile) : (countBundle z).posted = z.posted := rfl
@[simp] theorem countBundle_curOpseq (z : Tile) : (countBundle z).curOpseq = z.curOpseq := rfl
@[simp] theorem countBundle_emitDst (z : Tile) : (countBundle z).emitDst = z.emitDst := rfl
@[simp] theorem countBundle_emitBuf (z : Tile) : (countBundle z).emitBuf = z.emitBuf := rfl
@[simp] theorem countBundle_emitArg (z : Tile) : (countBundle z).emitArg = z.emitArg := rfl
@[simp] theorem countBundle_pstatus (z : Tile) : (countBundle z).pstatus = z.pstatus := rfl
@[simp] theorem countBundle_accept (z : Tile) : (countBundle z).accept = z.accept := rfl
@[simp] theorem countBundle_waiting (z : Tile) : (countBundle z).waiting = z.waiting := rfl
@[simp] theorem countBundle_waitSd (z : Tile) : (countBundle z).waitSd = z.waitSd := rfl
@[simp] theorem countBundle_done (z : Tile) : (countBundle z).done = z.done := rfl
@[simp] theorem countBundle_traps (z : Tile) : (countBundle z).traps = z.traps := rfl
@[simp] theorem countBundle_lastTrap (z : Tile) : (countBundle z).lastTrap = z.lastTrap := rfl
@[simp] theorem countBundle_image (z : Tile) : (countBundle z).image = z.image := rfl
@[simp] theorem countBundle_storeFails (z : Tile) : (countBundle z).storeFails = z.storeFails := rfl
@[simp] theorem countBundle_corrected (z : Tile) : (countBundle z).corrected = z.corrected := rfl

/-- What one operation leaves: its writes after its access m, the branch it takes or the next bundle, one bundle counted. -/
def oneOperation (s : State) (t : Nat) (a : SlotAct) (m : Access) : State :=
  let z := a.run (tileOf s t) m (tileOf m.state t)
  let z := match a.jump (tileOf s t) with
    | some j => branchTo (tileOf s t) j z
    | none => advance (tileOf s t) z
  setTile m.state t (countBundle z)

/-- A bundle with one operation that is legal, neither waits nor traps, in any slot. -/
theorem runSlot_alone {t k : Nat} {a : SlotAct} {s : State} (hr : ready s t = true) (hk : k < 4)
    (hi : a.illegal = false) (ht : a.traps s (tileOf s t) = [])
    (hb : branchTrap (tileOf s t) (a.jump (tileOf s t)) = [])
    (hw : a.waits s (tileOf s t) = false) (hm : (a.access s).trap = none) (sec : Bool) :
    runSlot t k (alone sec) a s = .next (a.after s (oneOperation s t a (a.access s))) := by
  obtain ⟨h1, h2⟩ := ready_parts hr
  unfold runSlot slotsOf alone
  simp only [show (0 : Word).toNat = 0 from rfl, decodeS0_zero, decodeS1_zero, decodeV_zero, decodeM_zero]
  rcases k with _ | _ | _ | _ | k
  all_goals first | omega | skip
  all_goals
    rcases hx : a.access s with ⟨s', tr, _ | ⟨b, bytes⟩, good⟩ <;> rcases hj : a.jump (tileOf s t) with _ | j <;>
    simp only [hx, hj] at hm hb <;>
    simp_all [issue, illegalTrap, nopAct, clash, List.zipIdx, List.find?, worstTrap, issued, oneOperation]

/-- An operation on registers alone: the bundle completes with what it writes. -/
theorem runSlot_registers {t k : Nat} {a : SlotAct} {s : State} (hr : ready s t = true) (hk : k < 4)
    (hi : a.illegal = false) (ht : a.traps s (tileOf s t) = []) (hj : a.jump (tileOf s t) = none)
    (hw : a.waits s (tileOf s t) = false) (hm : a.access s = { state := s }) (ha : a.after s = id) (sec : Bool) :
    runSlot t k (alone sec) a s = .next (done s t (a.run (tileOf s t) { state := s } (tileOf s t))) := by
  rw [runSlot_alone hr hk hi ht (by simp [hj, branchTrap]) hw (by simp [hm]) sec, ha, hm]
  simp [oneOperation, hj, done]
theorem runScalar_registers {t : Nat} {a : SlotAct} {s : State} (hr : ready s t = true)
    (hi : a.illegal = false) (ht : a.traps s (tileOf s t) = []) (hj : a.jump (tileOf s t) = none)
    (hw : a.waits s (tileOf s t) = false) (hm : a.access s = { state := s }) (ha : a.after s = id) (sec : Bool) :
    runScalar t (alone sec) a s = .next (done s t (a.run (tileOf s t) { state := s } (tileOf s t))) :=
  runSlot_registers hr (by split <;> decide) hi ht hj hw hm ha sec
/-- A taken branch outside the last bundle of a loop. -/
theorem runSlot_branch {t k : Nat} {a : SlotAct} {s : State} {w : Word} (hr : ready s t = true) (hk : k < 4)
    (hi : a.illegal = false) (ht : a.traps s (tileOf s t) = []) (hj : a.jump (tileOf s t) = some w)
    (hl : atLend (tileOf s t) = false)
    (hw : a.waits s (tileOf s t) = false) (hm : a.access s = { state := s }) (ha : a.after s = id) (sec : Bool) :
    runSlot t k (alone sec) a s = .next (jumped s t w (a.run (tileOf s t) { state := s } (tileOf s t))) := by
  rw [runSlot_alone hr hk hi ht (by simp [hj, branchTrap, hl]) hw (by simp [hm]) sec, ha, hm]
  simp [oneOperation, hj, jumped]

end Sys2Proof.Machine
end

