-- ==== Sys2Proof/Laws/TileMemory.lean ====
section
/-! SUPPORT. Loads and stores of a tile's own memories: which bytes a store's runs write, and what the bundle leaves. -/

namespace Sys2Proof.Machine

open Sys2Proof.Safety

theorem postModify_eq (pre : Tile) (p : Nat) (am : Fin 4) (f : BitVec 16) (y : Tile) :
    postModify pre p am f y = if am.val = 1 ∨ am.val = 2 then setP p (amPointer pre p am f) y else y := by
  rcases am with ⟨_ | _ | _ | _ | _, ha⟩ <;> rfl
theorem loadBytes_local {t : Nat} {a : Word} {s : State} {m : Nat} {sc : Bool}
   (hr : regionOf (tileOf s t) a.toNat m = some .dmem ∨ regionOf (tileOf s t) a.toNat m = some .imem) (hq : localPoison (tileOf s t) a.toNat m = false) :
      loadBytes t a m sc none s = { state := s, bytes := localBytes (tileOf s t) a.toNat m, good := 1 } := by
    unfold loadBytes
    rcases hr with hr | hr <;> simp only [hr, hq] <;> rfl
theorem runSlot_load {t k : Nat} {a : SlotAct} {s : State} {bs : List (BitVec 8)} {g : Nat} (hr : ready s t = true) (hk : k < 4)
    (hi : a.illegal = false) (ht : a.traps s (tileOf s t) = [])
    (hb : a.jump (tileOf s t) = none)
    (hw : a.waits s (tileOf s t) = false) (hm : a.access s = { state := s, bytes := bs, good := g }) (ha : a.after s = id) (sec : Bool) :
    runSlot t k (alone sec) a s = .next (done s t (a.run (tileOf s t) { state := s, bytes := bs, good := g } (tileOf s t))) := by
  rw [runSlot_alone hr hk hi ht (by simp [hb, branchTrap]) hw (by simp [hm]) sec, ha, hm]
  simp [oneOperation, hb, done]
theorem localByte_put (a : Nat) (b : BitVec 8) (x : Tile) (k : Nat) : localByte (localPut a b x) k = if k = a then b else localByte x k := by
  unfold localPut localByte
  by_cases ha : a < 0x10000 <;> simp only [ha, if_true, if_false] <;> by_cases hk : k < 0x10000 <;> simp only [hk, if_true, if_false]
  · by_cases e : k = a
    · subst e; simp
    · simp [e]
  · rw [if_neg (by omega)]
  · rw [if_neg (by omega)]
  · by_cases e : k = a
    · subst e; simp
    · simp [e]
/-- The tile after one run of bytes is stored. -/
def putRun (x : Tile) (r : Run) : Tile := (r.2.foldl (fun (z : Tile × Nat) b => (localPut z.2 b z.1, z.2 + 1)) (x, r.1)).1
theorem localByte_putRun (x : Tile) (r : Run) (k : Nat) : localByte (putRun x r) k = if r.1 ≤ k ∧ k < r.1 + r.2.length then r.2.getD (k - r.1) 0 else localByte x k := by
  obtain ⟨a, l⟩ := r
  unfold putRun
  induction l generalizing x a with
  | nil => simp
  | cons b l ih =>
    simp only [List.foldl_cons]
    have := ih (localPut a b x) (a+1)
    simp only at this
    rw [this, localByte_put]
    simp only [List.length_cons]
    by_cases h1 : k = a
    · subst h1; simp
    · by_cases h2 : a + 1 ≤ k ∧ k < a + 1 + l.length
      · rw [if_pos h2, if_pos (by omega)]
        rw [show k - a = (k - (a+1)) + 1 by omega]; rfl
      · rw [if_neg h2, if_neg h1, if_neg (by omega)]
theorem putRun_regs (x : Tile) (r : Run) : putRun x r = { x with imem := (putRun x r).imem, dmem := (putRun x r).dmem } := by
  obtain ⟨a, l⟩ := r
  unfold putRun
  induction l generalizing x a with
  | nil => rfl
  | cons b l ih =>
    simp only [List.foldl_cons]
    have := ih (localPut a b x) (a+1)
    simp only at this
    rw [this]
    unfold localPut
    split <;> rfl
theorem putRuns_regs (rs : List Run) (x : Tile) : rs.foldl putRun x = { x with imem := (rs.foldl putRun x).imem, dmem := (rs.foldl putRun x).dmem } := by
  induction rs generalizing x with
  | nil => rfl
  | cons r rs ih => simp only [List.foldl_cons]; rw [ih, putRun_regs]
theorem storeLocal_clear {t : Nat} {a : Word} {runs : List Run} {s : State} (h : ∀ w ∈ storeWords runs, tabGet false (tileOf s t).poison w = false) :
   storeLocal t a runs s = { state := { setTile s t (runs.foldl putRun (tileOf s t)) with fault := { s.fault with poisonCleared := s.fault.poisonCleared % 2^32 } } } := by
  unfold storeLocal
  simp only
  have h1 : (storeWords runs).any (fun w => tabGet false (tileOf s t).poison w && !wholeWord runs w) = false := by
    rw [List.any_eq_false]; intro w hw; simp [h w hw]
  have h2 : (storeWords runs).filter (fun w => tabGet false (tileOf s t).poison w) = [] := by
    rw [List.filter_eq_nil_iff]; intro w hw; simp [h w hw]
  rw [h1, h2]; rfl
theorem storeWords_one (a : Nat) (l : List (BitVec 8)) : ∀ w ∈ storeWords [(a, l)], w ∈ wordsOf a l.length := by
  intro w hw; simpa [storeWords] using hw
theorem poison_words {x : Tile} {a n : Nat} (h : localPoison x a n = false) : ∀ w ∈ wordsOf a n, tabGet false x.poison w = false := by
  intro w hw; unfold localPoison at h; rw [List.any_eq_false] at h; simpa using h w hw
theorem bytesLE_get (n v k : Nat) (h : k < n) : (bytesLE n v).getD k 0 = BitVec.ofNat 8 (v >>> (8 * k)) := by
  unfold bytesLE
  induction n generalizing v k with
  | zero => omega
  | succ n ih =>
    rcases k with _ | k
    · simp [octetsLE]; apply BitVec.eq_of_toNat_eq; simp
    · have := ih (v/256) k (by omega)
      simp only [octetsLE, List.map_cons, List.getD_cons_succ]
      rw [this]
      congr 1
      rw [Nat.shiftRight_eq_div_pow, Nat.shiftRight_eq_div_pow, Nat.div_div_eq_div_mul, show 8*(k+1) = 8 + 8*k by ring, pow_add]
      rfl
theorem bytesLE_length (n v : Nat) : (bytesLE n v).length = n := by
  unfold bytesLE; rw [List.length_map]
  induction n generalizing v with
  | zero => rfl
  | succ n ih => simp [octetsLE, ih]
theorem runSlot_storeLocal {t : Fin 52} {p : Fin 8} {am : Fin 4} {f : BitVec 16} {act : SlotAct} {s : State} {runs : List Run} {a : Word}
   (hr : ready s t = true) (hl : amLegal am f = true)
   (hi : act.illegal = !amLegal am f) (ht : act.traps s (tileOf s t) = [])
   (hj : act.jump (tileOf s t) = none) (ha : act.after s = id)
   (hw : act.waits s (tileOf s t) = false) (hacc : act.access s = storeLocal t a runs s)
   (hrun : ∀ m y, act.run (tileOf s t) m y = postModify (tileOf s t) p am f y)
   (hc : ∀ w ∈ storeWords runs, tabGet false (tileOf s t).poison w = false) :
   ∃ u, runSlot t 3 (alone false) act s = .next u ∧ (tileOf u t).p = (if am.val = 1 ∨ am.val = 2 then tabSet 0 (tileOf s t).p p (amPointer (tileOf s t) p am f) else (tileOf s t).p)
    ∧ (tileOf u t).s = (tileOf s t).s ∧ (tileOf u t).v = (tileOf s t).v
    ∧ (∀ k, localByte (tileOf u t) k = localByte (runs.foldl putRun (tileOf s t)) k)
    ∧ (∀ k, k ≠ t.val → tileOf u k = tileOf s k) ∧ u.mesh = s.mesh := by
  rw [storeLocal_clear hc] at hacc
  refine ⟨_, runSlot_alone hr (by decide) (by rw [hi, hl]; rfl) ht (by rw [hj]; rfl) hw (by rw [hacc]) false, ?_⟩
  rw [ha, hacc]
  simp only [oneOperation, hj, id, hrun, postModify_eq]
  have e2 : ∀ (s' : State) (n : FaultUnit) (k : Nat), tileOf { s' with fault := n } k = tileOf s' k := fun _ _ _ => rfl
  have eadv : ∀ z : Tile, (advance (tileOf s t) z).p = z.p ∧ (advance (tileOf s t) z).s = z.s ∧ (advance (tileOf s t) z).v = z.v ∧ (advance (tileOf s t) z).imem = z.imem ∧ (advance (tileOf s t) z).dmem = z.dmem := by
    intro z; unfold advance; split
    · exact ⟨rfl,rfl,rfl,rfl,rfl⟩
    · split <;> exact ⟨rfl,rfl,rfl,rfl,rfl⟩
  simp only [tileOf_setTile, e2, countBundle_p, countBundle_s, countBundle_v]
  have hreg := putRuns_regs runs (tileOf s t)
  generalize hz : runs.foldl putRun (tileOf s t) = z at hreg
  refine ⟨?_, ?_, ?_, ?_, ?_, rfl⟩
  · rw [(eadv _).1]; split <;> rw [hreg] <;> rfl
  · rw [(eadv _).2.1]; split <;> rw [hreg] <;> rfl
  · rw [(eadv _).2.2.1]; split <;> rw [hreg] <;> rfl
  · intro k; simp only [localByte, countBundle_imem, countBundle_dmem]; rw [(eadv _).2.2.2.1, (eadv _).2.2.2.2]; by_cases hm : am.val = 1 ∨ am.val = 2 <;> simp only [hm, if_true, if_false] <;> rfl
  · intro k hk; rw [tileOf_setTile_other _ _ _ _ hk, e2, tileOf_setTile_other _ _ _ _ hk]
theorem runSlot_store {t : Fin 52} {p : Fin 8} {am : Fin 4} {f : BitVec 16} {act : SlotAct} {s : State} {n : Nat} {runs : List Run} {sc : Bool}
   (hr : ready s t = true) (hl : amLegal am f = true)
   (hown : (regionOf (tileOf s t) (amAddr (tileOf s t) p am f).toNat n = some .dmem ∨ regionOf (tileOf s t) (amAddr (tileOf s t) p am f).toNat n = some .imem))
   (hi : act.illegal = !amLegal am f) (ht : act.traps s (tileOf s t) = [])
   (hj : act.jump (tileOf s t) = none) (ha : act.after s = id)
   (hw : act.waits s (tileOf s t) = storeWaits (amAddr (tileOf s t) p am f).toNat n runs (tileOf s t))
   (hacc : act.access s = storeBytes t (amAddr (tileOf s t) p am f) n sc runs s)
   (hrun : ∀ m y, act.run (tileOf s t) m y = postModify (tileOf s t) p am f y)
   (hc : ∀ w ∈ storeWords runs, tabGet false (tileOf s t).poison w = false) :
   ∃ u, runSlot t 3 (alone false) act s = .next u ∧ (tileOf u t).p = (if am.val = 1 ∨ am.val = 2 then tabSet 0 (tileOf s t).p p (amPointer (tileOf s t) p am f) else (tileOf s t).p)
    ∧ (tileOf u t).s = (tileOf s t).s ∧ (tileOf u t).v = (tileOf s t).v
    ∧ (∀ k, localByte (tileOf u t) k = localByte (runs.foldl putRun (tileOf s t)) k)
    ∧ (∀ k, k ≠ t.val → tileOf u k = tileOf s k) ∧ u.mesh = s.mesh := by
  refine runSlot_storeLocal (a := amAddr (tileOf s t) p am f) hr hl hi ht hj ha ?_ ?_ hrun hc
  · rw [hw]; unfold storeWaits; rcases hown with h | h <;> rw [h] <;> rfl
  · rw [hacc]; unfold storeBytes; rcases hown with h | h <;> simp only [h]
theorem localByte_oneRun (x : Tile) (a n v : Nat) (k : Nat) : localByte ([((a, bytesLE n v) : Run)].foldl putRun x) k = if a ≤ k ∧ k < a + n ∧ true = true then BitVec.ofNat 8 (v >>> (8 * (k - a))) else localByte x k := by
  simp only [List.foldl_cons, List.foldl_nil, localByte_putRun, bytesLE_length, and_true]
  split
  · rw [bytesLE_get _ _ _ (by omega)]
  · rfl
theorem putRun_append (x : Tile) (a : Nat) (l1 l2 : List (BitVec 8)) : putRun x (a, l1 ++ l2) = putRun (putRun x (a, l1)) (a + l1.length, l2) := by
  have : ∀ (l : List (BitVec 8)) (x : Tile) (a : Nat), l.foldl (fun (z : Tile × Nat) b => (localPut z.2 b z.1, z.2 + 1)) (x, a) = (putRun x (a, l), a + l.length) := by
    intro l
    induction l with
    | nil => intro x a; rfl
    | cons b l ih => intro x a; simp only [List.foldl_cons, ih]; unfold putRun; simp only [List.foldl_cons, ih, List.length_cons]; ext <;> simp [putRun]; omega
  show ((l1 ++ l2).foldl (fun (z : Tile × Nat) b => (localPut z.2 b z.1, z.2 + 1)) (x, a)).1 = _
  rw [List.foldl_append, this l1, this l2]
theorem ffRuns_fold (v m a n i : Nat) (x : Tile) : (ffRuns v m a (n+1) i).foldl putRun x = (ffRuns v m a n (i+1)).foldl putRun (if m.testBit i then putRun x (a + 2*i, bytesLE 2 (v >>> (16*i))) else x) := by
  simp only [ffRuns]
  split
  · split
    · rename_i b l t e
      split
      · rename_i hb
        simp only [List.foldl_cons]
        rw [putRun_append, e, bytesLE_length, hb, List.foldl_cons]; rfl
      · rw [e]; rfl
    · rename_i e; rw [e]; rfl
  · rfl
theorem ffRuns_byte (v m a n i : Nat) (x : Tile) (k : Nat) : localByte ((ffRuns v m a n i).foldl putRun x) k
   = if a + 2*i ≤ k ∧ k < a + 2*(i+n) ∧ m.testBit ((k-a)/2) = true then BitVec.ofNat 8 (v >>> (8*(k-a))) else localByte x k := by
  induction n generalizing i x with
  | zero => simp only [ffRuns, List.foldl_nil]; rw [if_neg (by omega)]
  | succ n ih =>
    rw [ffRuns_fold, ih]
    by_cases h1 : a + 2*(i+1) ≤ k ∧ k < a + 2*(i+1+n) ∧ m.testBit ((k-a)/2) = true
    · rw [if_pos h1, if_pos ⟨by omega, by omega, h1.2.2⟩]
    · rw [if_neg h1]
      by_cases h2 : a + 2*i ≤ k ∧ k < a + 2*i + 2
      · have hk : (k - a)/2 = i := by omega
        rw [hk]
        by_cases hb : m.testBit i = true
        · simp only [hb, if_true, localByte_putRun, bytesLE_length]
          rw [if_pos h2, if_pos ⟨by omega, by omega, trivial⟩, bytesLE_get _ _ _ (by omega), ← Nat.shiftRight_add]
          congr 2; omega
        · simp [hb]
      · rw [if_neg (c := _ ∧ _ ∧ _) (fun q => h1 ⟨by omega, by omega, q.2.2⟩)]
        split
        · rw [localByte_putRun, bytesLE_length]; rw [if_neg (by simpa using h2)]
        · rfl
theorem ffRuns_words (v m a n i : Nat) : ∀ r ∈ ffRuns v m a n i, a + 2 * i ≤ r.1 ∧ r.1 + r.2.length ≤ a + 2*(i+n) := by
  induction n generalizing i with
  | zero => simp [ffRuns]
  | succ n ih =>
    intro r hr
    simp only [ffRuns] at hr
    have ih' := ih (i+1)
    split at hr
    · split at hr
      · rename_i b l t e
        rw [e] at ih'
        have hb := ih' (b,l) (by simp)
        simp only at hb
        split at hr
        · rename_i hbe
          simp only [List.mem_cons] at hr
          rcases hr with rfl | hr
          · simp [bytesLE_length]; omega
          · have := ih' r (by simp [hr]); omega
        · simp only [List.mem_cons] at hr
          rcases hr with rfl | rfl | hr
          · simp [bytesLE_length]; omega
          · simp at hb ⊢; omega
          · have := ih' r (by simp [hr]); omega
      · simp only [List.mem_singleton] at hr; subst hr; simp [bytesLE_length]; omega
    · have := ih' r hr; omega
/-- The runs of a masked store lie between its first and its last element. -/
theorem ffRuns_between (v m a lo hi n i : Nat) (h : ∀ j, i ≤ j → j < i + n → m.testBit j = true → lo ≤ j ∧ j ≤ hi) :
    ∀ r ∈ ffRuns v m a n i, a + 2 * lo ≤ r.1 ∧ r.1 + r.2.length ≤ a + 2 * (hi + 1) := by
  induction n generalizing i with
  | zero => simp [ffRuns]
  | succ n ih =>
    intro r hr
    simp only [ffRuns] at hr
    have ih' := ih (i+1) (fun j h1 h2 h3 => h j (by omega) (by omega) h3)
    split at hr
    · rename_i hbit
      have hi' := h i (by omega) (by omega) hbit
      split at hr
      · rename_i b l t e
        rw [e] at ih'
        have hb := ih' (b,l) (by simp)
        simp only at hb
        split at hr
        · rename_i hbe
          simp only [List.mem_cons] at hr
          rcases hr with rfl | hr
          · simp [bytesLE_length]; omega
          · exact ih' r (by simp [hr])
        · simp only [List.mem_cons] at hr
          rcases hr with rfl | rfl | hr
          · simp [bytesLE_length]; omega
          · exact hb
          · exact ih' r (by simp [hr])
      · simp only [List.mem_singleton] at hr; subst hr; simp [bytesLE_length]; omega
    · exact ih' r hr
/-- Every set bit of an 8-bit mask lies in the span it gives. -/
theorem ffSpan_bits (m a : Nat) (hm : m < 256) : ((ffSpan m a).2 = 0 ↔ m = 0)
    ∧ ∀ j, j < 8 → m.testBit j = true → (ffSpan m a).1 ≤ a + 2 * j ∧ a + 2 * j + 2 ≤ (ffSpan m a).1 + (ffSpan m a).2 := by
  unfold ffSpan
  have hlog : ∀ j, m.testBit j = true → j ≤ m.log2 := fun j hj => by
    have h2 := Nat.ge_two_pow_of_testBit hj
    exact (Nat.le_log2 (by have := Nat.two_pow_pos j; omega)).mpr h2
  rcases hf : (List.range 8).find? (fun i => m.testBit i) with _ | i
  · have hz : ∀ j, j < 8 → m.testBit j = false := by
      intro j hj; have := List.find?_eq_none.mp hf j (by simpa using hj); simpa using this
    have : m = 0 := by
      apply Nat.eq_of_testBit_eq; intro j
      by_cases hj : j < 8
      · rw [hz j hj]; simp
      · rw [Nat.testBit_lt_two_pow (lt_of_lt_of_le hm (by simpa using Nat.pow_le_pow_right (n := 2) (by decide) (show 8 ≤ j by omega)))]; simp
    exact ⟨by simp [this], fun j hj hb => by rw [hz j hj] at hb; cases hb⟩
  · obtain ⟨hb, _, hlow⟩ := List.find?_range_eq_some.mp hf
    have hi := hlog i hb
    refine ⟨⟨fun h => ?_, fun h => ?_⟩, fun j hj hjb => ?_⟩
    · simp only at h; omega
    · subst h; simp at hb
    · have h1 := hlog j hjb
      have h2 : i ≤ j := by
        by_contra hc; have := hlow j (by omega); simp [hjb] at this
      simp only; omega
theorem mem_wordsOf (a n w : Nat) : w ∈ wordsOf a n ↔ n ≠ 0 ∧ a / 8 ≤ w ∧ w ≤ (a + n - 1) / 8 := by
  unfold wordsOf
  split
  · simp; omega
  · simp only [List.mem_map, List.mem_range]
    constructor
    · rintro ⟨i, hi, rfl⟩; omega
    · intro hw; exact ⟨w - a/8, by omega, by omega⟩

end Sys2Proof.Machine
end

