-- ==== Sys2Proof/Tests/Slice0.lean ====
section
/-! SUPPORT. The model's own tests: the well-formedness smoke, the witnesses of the statements' hypotheses, and small checks
of commands against values the spec gives. -/
namespace Sys2Proof.Tests

open Sys2Proof.Machine Sys2Proof.Safety

set_option Elab.async false

/-! ### Well-formedness -/

theorem test_wf_accepts : wellFormed (.bellFire 0 (2 ^ 64 - 1)) = true
    ∧ wellFormed (.laneFrameReceived 19 (List.replicate 3072 1023) (16 * 2 ^ 64 - 1)) = true
    ∧ wellFormed (.vack { port := 0, octets := [0, 255] }) = true ∧ wellFormed (.captureBlockComplete 0 [] [[2 ^ 32 - 1]]) = true
    ∧ wellFormed (.meshRequest 0 0x8000 0 (2 ^ 40 - 1) 0 0 [255] false []) = true := by decide +kernel
theorem test_wf_air_time : wellFormed (.bellFire 0 (2 ^ 64)) = false ∧ wellFormed (.paceTimerFire 0 (2 ^ 64)) = false
    ∧ wellFormed (.laneFrameSend 0 (2 ^ 64)) = false ∧ wellFormed (.reply 0 0 0 .ok (2 ^ 64)) = false
    ∧ wellFormed (.burstStart 0 (2 ^ 64)) = false ∧ wellFormed (.lifeLimit 0 (2 ^ 64)) = false
    ∧ wellFormed (.xferAtK 0 (2 ^ 64)) = false ∧ wellFormed (.detectionRaised 0 0 0 (2 ^ 64) 0) = false
    ∧ wellFormed (.detectionRaised 0 0 0 0 (2 ^ 64)) = false := by decide +kernel
theorem test_wf_event_times : wellFormed (.align 0 0 0 0 (2 ^ 64)) = false ∧ wellFormed (.time 0 (2 ^ 64) 0 0) = false
    ∧ wellFormed (.binSample 0 (2 ^ 64) []) = false ∧ wellFormed (.captureClose 0 true {} (2 ^ 64)) = false
    ∧ wellFormed (.tagAndFcntCommitted 0 {} (2 ^ 64)) = false ∧ wellFormed (.captureWeightsReady 0 [] [] (2 ^ 64)) = false
    ∧ wellFormed (.headGainWindow (2 ^ 64)) = false ∧ wellFormed (.floorPeriodEnd 0 0 (2 ^ 64)) = false
    ∧ wellFormed (.maskBlockEnd 0 (2 ^ 64)) = false ∧ wellFormed (.substitution 0 [] (2 ^ 64)) = false
    ∧ wellFormed (.wakeComplete 0 false (2 ^ 64)) = false ∧ wellFormed (.reportCardUpdate [] (2 ^ 64)) = false
    ∧ wellFormed (.headid 0 (256 ^ 25)) = false ∧ wellFormed (.headstat 0 (256 ^ 23)) = false := by decide +kernel
theorem test_wf_stack_times : wellFormed (.beat true 0 0 true (2 ^ 64)) = false
    ∧ wellFormed (.headset true 0 0 0 0 0 (2 ^ 64)) = false ∧ wellFormed (.xferCommit true 0 0 0 0 (2 ^ 64) 0) = false
    ∧ wellFormed (.branchmap true 0 0 0 0 0 0 (2 ^ 64) []) = false := by decide +kernel
theorem test_wf_octets : wellFormed (.vack { port := 0, octets := [256] }) = false
    ∧ wellFormed (.request { port := 0, octets := [0, 256] } none {}) = false ∧ wellFormed (.rs485FrameReceived [256]) = false
    ∧ wellFormed (.ethernetFrameReceived 0 3 0 0 0 false [256]) = false
    ∧ wellFormed (.meshRequest 1 0x8000 0 0 0 0 [256] false []) = false := by decide +kernel
theorem test_wf_lengths : wellFormed (.meshRequest 0 0x8000 0 (2 ^ 40) 0 0 [] false []) = false
    ∧ wellFormed (.cageInsertion 0 true (256 ^ 256)) = false ∧ wellFormed (.cageDiagnosticsRead 0 (256 ^ 10)) = false := by
  decide +kernel
theorem test_wf_frames : wellFormed (.laneFrameReceived 0 (List.replicate 3071 0) 0) = false
    ∧ wellFormed (.laneFrameReceived 0 (1024 :: List.replicate 3071 0) 0) = false
    ∧ wellFormed (.laneFrameReceived 0 (List.replicate 3072 0) (16 * 2 ^ 64)) = false := by decide +kernel
theorem test_wf_branch_words : wellFormed (.captureWeightsReady 0 [] [[2 ^ 32]] 0) = false
    ∧ wellFormed (.captureBlockComplete 0 [] [[0], [2 ^ 32]]) = false
    ∧ wellFormed (.weightRecompute 0 ⟨[], 0, [[2 ^ 32]]⟩) = false := by decide +kernel

/-! ### Small states -/

/-- A state in which tile 0 is x. -/
def tl (x : Tile) : State := setTile State.reset 0 x
def host : Tile := { tstate := .host }
def task : Tile := { tstate := .task, task := true, tbase := 0x100000, tlimit := 0x140000 }

/-! ### Witnesses: tiles -/

theorem test_meets_ScalarOperations : ready (tl host) 0 = true ∧ ready (tl task) 0 = true := by decide +kernel
theorem test_meets_ImmediatesAndMoves : ready (tl host) 0 = true ∧ (31#16).toNat < 32
    ∧ ((2 : Fin 8).val ≤ 2 ∧ (0 : Fin 8).val ≤ 2 ∧ ((2 : Fin 8).val ≠ 0 → (7 : Fin 32).val < 8)
      ∧ ((0 : Fin 8).val ≠ 0 → (31 : Fin 32).val < 8)) := by decide +kernel
theorem test_meets_BranchesAndLoops :
    (ready (tl host) 0 = true ∧ atLend (tileOf (tl host) 0) = false ∧ (5 : Fin 8).val ≤ 5 ∧ (sReg (tileOf (tl host) 0) 0).toNat % 16 = 0)
    ∧ ((4095 : Fin 4096).val ≠ 0 ∧ loopBad (tileOf (tl { host with pc := 0 }) 0) true ((tileOf (tl host) 0).pc + 16)
        ((tileOf (tl host) 0).pc + BitVec.ofNat 32 (16 * (4095 : Fin 4096).val)) = false)
    ∧ (let s := tl { host with pc := 0xFFF0, l0 := { start := 16, end_ := 0xFFF0, count := 1, act := true } }
      ready s 0 = true ∧ (tileOf s 0).l0.act = true ∧ (tileOf s 0).l0.end_ = (tileOf s 0).pc)
    ∧ (let s := tl { host with pc := 32, l1 := { start := 16, end_ := 32, count := 0, act := true } }
      ready s 0 = true ∧ ((tileOf s 0).l0.act = false ∨ (tileOf s 0).l0.end_ ≠ (tileOf s 0).pc) ∧ (tileOf s 0).l1.act = true
        ∧ (tileOf s 0).l1.end_ = (tileOf s 0).pc) := by decide +kernel
theorem test_meets_ParallelBundles : ready (tl host) 0 = true ∧ ((1 : Fin 32) ≠ 2 ∨ (1 : Fin 32) = 0)
    ∧ ((0 : Fin 32) ≠ 0 ∨ (0 : Fin 32) = 0) ∧ ((31 : Fin 32) = 31 ∧ (31 : Fin 32) ≠ 0) := by decide +kernel
theorem test_meets_SystemOperations :
    (ready (tl host) 0 = true ∧ csrExists 0x030 = true ∧ (tileOf (tl host) 0).task = false ∧ (tileOf (tl host) 0).posted = 0)
    ∧ (ready (tl task) 0 = true ∧ csrExists 0x017 = true ∧ csrHostOnly 0x017 = false ∧ csrTaskWrites 0x017 = true) := by
  decide +kernel
theorem test_meets_VectorElements : ready (tl host) 51 = false ∧ ready (tl task) 0 = true ∧ (3 : Fin 4).val ≠ 2 := by decide +kernel
theorem test_meets_VectorComplex : ready (tl host) 0 = true ∧ ((0 : Fin 4).val = 0 ∨ (0 : Fin 4).val = 3)
    ∧ ((3 : Fin 4).val = 0 ∨ (3 : Fin 4).val = 3) := by decide +kernel
theorem test_meets_Accumulators : ready (tl host) 0 = true ∧ (30 : Fin 32).val % 2 = 0 := by decide +kernel

/-- Tile 0 with its pointer p1 at an address. -/
def ptr (x : Tile) (a : Word) : State := tl { x with p := [(1, a)] }
theorem test_meets_LocalLoads :
    (let s := ptr task 0x13FFFC
     ready s 0 = true ∧ amLegal 1 0xFFFF = true ∧ regionOf (tileOf s 0) (amAddr (tileOf s 0) 1 1 0xFFFF).toNat 4 = some .dmem
      ∧ localPoison (tileOf s 0) (amAddr (tileOf s 0) 1 1 0xFFFF).toNat 4 = false
      ∧ (amAddr (tileOf s 0) 1 1 0xFFFF).toNat % 4 = 0)
    ∧ (let s := ptr host 0xFFFE
     ready s 0 = true ∧ amLegal 2 0xE000 = true ∧ regionOf (tileOf s 0) (amAddr (tileOf s 0) 1 2 0xE000).toNat 2 = some .imem
      ∧ localPoison (tileOf s 0) (amAddr (tileOf s 0) 1 2 0xE000).toNat 2 = false
      ∧ (amAddr (tileOf s 0) 1 2 0xE000).toNat % 2 = 0)
    ∧ (let s := ptr host 0xFFF0
     regionOf (tileOf s 0) (amAddr (tileOf s 0) 1 0 15).toNat 1 = some .imem
      ∧ localPoison (tileOf s 0) (amAddr (tileOf s 0) 1 0 15).toNat 1 = false)
    ∧ (let s := ptr task 0x13FFF0
     ready s 0 = true ∧ amLegal 1 0 = true ∧ regionOf (tileOf s 0) (amAddr (tileOf s 0) 1 1 0).toNat 16 = some .dmem
      ∧ localPoison (tileOf s 0) (amAddr (tileOf s 0) 1 1 0).toNat 16 = false
      ∧ (amAddr (tileOf s 0) 1 1 0).toNat % 4 = 0 ∧ (amAddr (tileOf s 0) 1 1 0).toNat % 2 = 0) := by decide +kernel
theorem test_meets_LocalStores :
    (let s := ptr task 0x13FFFC
     ready s 0 = true ∧ amLegal 2 0 = true ∧ regionOf (tileOf s 0) (amAddr (tileOf s 0) 1 2 0).toNat 4 = some .dmem
      ∧ localPoison (tileOf s 0) (amAddr (tileOf s 0) 1 2 0).toNat 4 = false ∧ (amAddr (tileOf s 0) 1 2 0).toNat % 4 = 0)
    ∧ (let s := ptr host 0xFFF0
     ready s 0 = true ∧ amLegal 0 0 = true ∧ regionOf (tileOf s 0) (amAddr (tileOf s 0) 1 0 0).toNat 16 = some .imem
      ∧ regionOf (tileOf s 0) (amAddr (tileOf s 0) 1 0 0).toNat 2 = some .imem
      ∧ regionOf (tileOf s 0) (amAddr (tileOf s 0) 1 0 0).toNat 1 = some .imem
      ∧ localPoison (tileOf s 0) (amAddr (tileOf s 0) 1 0 0).toNat 16 = false
      ∧ localPoison (tileOf s 0) (amAddr (tileOf s 0) 1 0 0).toNat 2 = false
      ∧ localPoison (tileOf s 0) (amAddr (tileOf s 0) 1 0 0).toNat 1 = false ∧ (amAddr (tileOf s 0) 1 0 0).toNat % 2 = 0)
    ∧ (let s := ptr { task with ffm := 0x01 } 0x13FFFE
       let span := ffSpan (tileOf s 0).ffm.toNat (amAddr (tileOf s 0) 1 0 0).toNat
       span.2 ≠ 0 ∧ regionOf (tileOf s 0) span.1 span.2 = some .dmem ∧ localPoison (tileOf s 0) span.1 span.2 = false)
    ∧ (let s := ptr { task with ffm := 0 } 0x13FFFE
       (ffSpan (tileOf s 0).ffm.toNat (amAddr (tileOf s 0) 1 0 0).toNat).2 = 0)
    ∧ (let s := ptr { task with ffm := 0x02 } 0x13FFFE
       let span := ffSpan (tileOf s 0).ffm.toNat (amAddr (tileOf s 0) 1 0 0).toNat
       ready s 0 = true ∧ amLegal 0 0 = true ∧ span.2 ≠ 0 ∧ regionOf (tileOf s 0) span.1 span.2 = none
        ∧ (amAddr (tileOf s 0) 1 0 0).toNat % 2 = 0) := by
  decide +kernel
theorem test_meets_AccessRules :
    (let s := ptr task 0x13FFFD
     ready s 0 = true ∧ amLegal 0 0 = true ∧ (amAddr (tileOf s 0) 1 0 0).toNat % 4 ≠ 0 ∧ (amAddr (tileOf s 0) 1 0 0).toNat % 2 ≠ 0)
    ∧ (let s := ptr task 0x140000
     ready s 0 = true ∧ (amAddr (tileOf s 0) 1 0 0).toNat % 4 = 0
      ∧ regionOf (tileOf s 0) (amAddr (tileOf s 0) 1 0 0).toNat 4 = none
      ∧ regionOf (tileOf s 0) (amAddr (tileOf s 0) 1 0 0).toNat 2 = none
      ∧ regionOf (tileOf s 0) (amAddr (tileOf s 0) 1 0 0).toNat 1 = none
      ∧ regionOf (tileOf s 0) (amAddr (tileOf s 0) 1 0 0).toNat 16 = none)
    ∧ (let s := ptr { task with ffm := 0xFF } 0x140000
     (tileOf s 0).ffm = 0xFF ∧ (amAddr (tileOf s 0) 1 0 0).toNat % 2 = 0
      ∧ regionOf (tileOf s 0) (amAddr (tileOf s 0) 1 0 0).toNat 16 = none) := by decide +kernel
theorem test_meets_CxOperations :
    (let s := tl { host with cxeh := true, cx := [⟨0, 1, 0, 0⟩, ⟨0, 2, 0, 0⟩, ⟨0, 3, 0, 0⟩] }
     ready s 0 = true ∧ (if (tileOf s 0).task then (tileOf s 0).cxet else (tileOf s 0).cxeh) = true ∧ (tileOf s 0).cx.length < 4
      ∧ (∀ o ∈ (tileOf s 0).cx, o.cd ≠ (7 : Fin 8).val ∧ o.cd ≠ (0 : Fin 8).val ∧ o.cd ≠ (4 : Fin 8).val))
    ∧ (tileOf (tl { host with cx := [⟨4, 1, 8, 0⟩] }) 0).cx[(0 : Fin 4).val]? = some ⟨4, 1, 8, 0⟩
    ∧ (0x500000000#64).toNat % 2 ^ 32 = 0
    ∧ ((0x80000000#64).toNat % 2 ^ 32 = 2 ^ 31 ∧ 0 < 31 ∧ 31 < 32) := by decide +kernel
theorem test_meets_TrapsEnterHost :
    ready (tl task) 0 = true ∧ (tileOf (tl task) 0).task = true ∧ decodeS0 0 (0xFFFFFFFF#32).toNat = none
    ∧ csrExists 0x00A = true ∧ csrHostOnly 0x00A = true
    ∧ atLend (tileOf (tl { task with l1 := { start := 0, end_ := 0, count := 1, act := true } }) 0) = true
    ∧ ((sReg (tileOf (tl { task with s := [(5, 24)] }) 0) 5).toNat % 16 ≠ 0 ∧ atLend (tileOf (tl { task with s := [(5, 24)] }) 0) = false)
    ∧ (tileOf (tl task) 0).cxet = false := by decide +kernel
theorem test_meets_ImageAndResponses :
    isFenced (tl host) (unitTile 0) = false ∧ serviceOf (tl host) 0 = none
    ∧ (let s := { tl { host with posted := 8 } with mesh := { responses := [⟨identityOf 0 0, 7, 0, 3, false, .access, []⟩] } }
       s.mesh.responses.find? (fun x => x.init == identityOf (0 : Fin 52) 0 && x.tid == 7 && !x.isRead)
          = some ⟨identityOf 0 0, 7, 0, 3, false, .access, []⟩
        ∧ s.mesh.quarantine.contains (identityOf 0 0, 7) = false ∧ (tileOf s 0).posted ≠ 0) := by decide +kernel

/-- The module up in a mode, VI 0 enabled, an Office pair in service and the timebase valid. -/
def up (m : Mode) : State := { State.reset with
  mode := { mode := m }
  time := { valid := true, refLost := false, rimStop := false }
  fault := { officeA := .active, officeB := .standby } }

/-! ### Witnesses: the machine, the Prefect, mesh and Movers -/

theorem test_meets_IdleTick : State.reset.pending = [] := rfl
/-- A memory that lists a byte, and the error sequence at its last number. -/
def edge : State := { State.reset with mesh := { mem := [(2 ^ 40 - 1, 1)] }, fault := { nextEseq := 0xFFFFFFFE } }
theorem test_meets_StepKeepsCanonical : canonical edge ∧ ∃ u, step edge = .next u := ⟨by unfold canonical; decide +kernel, _, rfl⟩
theorem test_meets_StepKeepsNumbered : numbered edge ∧ ∃ u, step edge = .next u := ⟨by unfold numbered seqOk; decide +kernel, _, rfl⟩

/-- A node table of a SOURCE at port 3 and its TASK for the logical tile 0. -/
def graph : PrefectUnit :=
  { nodes := [(1, some { kind := .source, port := some 3, succ := [2] }), (2, some { kind := .task, level := 4, target := 1, succ := [2] })] }
def op7 : OpRec := { opseq := 7, node := 2, level := 4, cls := 0, flow := 9, arg := 5 }
theorem test_meets_TokensAndDispatch :
    (let s : State := { up .service with prefect := graph }
     ((3 : Fin 256).val ≠ 200 ∧ (3 : Fin 256).val ≠ 201 ∧ ((3 : Fin 256).val < 128 → s.time.valid = true))
      ∧ sourcesOf s 3 = [(1, { kind := .source, port := some 3, succ := [2] })]
      ∧ nodeOf s 2 = some { kind := .task, level := 4, target := 1, succ := [2] } ∧ recordFree s 4 = true ∧ fifoOf s 3 = [])
    ∧ (let d : Detection := { dseq := 8, peakAt := 0, beam := 0, slot := 0, rap := false, stale := false, bin := 0, mcode := 0, cls := 0
                              profile := 1, margin := 0, floor := 0, loopGain := 0, nbHits := 0 }
       let s : State := { setCapture (up .service) 4095 { stage := 2, det := some d } with prefect :=
         { nodes := [(1, some { kind := .source, port := some 200, package := 1, succ := [2] }), (2, some { kind := .accel })] } }
       (captureOf s (0x1FFF % 4096)).det = some d ∧ d.profile = 1 ∧ recordFree s 0 = true ∧ fifoOf s 200 = []
        ∧ sourcesOf s 200 = [(1, { kind := .source, port := some 200, package := 1, succ := [2] })])
    ∧ (let s : State := { tl { host with accept := true, waiting := true, waitSd := 31 } with prefect := { graph with ops := [op7] } }
     freeUnit s 0 = some 0 ∧ drained s 0 = false ∧ chooseOp s 0 = some op7)
    ∧ (let s : State := { State.reset with prefect := { ops := [op7], nodes := [(2, some { kind := .accel, target := 2 ^ 48 })] } }
     freeUnit s 52 = some 48 ∧ drained s 48 = false ∧ chooseOp s 48 = some op7) := by decide +kernel

/-- Tile 0 serves op7. -/
def busy (x : Tile) : State := { tl { x with curOpseq := 7 } with
  prefect := { graph with ops := [{ op7 with stage := .inService }] } }
theorem test_meets_WindowAndBuffers :
    (tileRuns (busy host) 0 = true ∧ serviceOf (busy host) 0 = some { op7 with stage := .inService })
    ∧ emitCheck (busy host) { op7 with stage := .inService } 2 0 0xFFFF = .ok ∧ (tileOf (busy host) 0).task = false
    ∧ (let s := { busy host with prefect := { (busy host).prefect with bufRefs := [(16383, 1)] } }
       16383 < 16384 ∧ tabGet 0 s.prefect.bufRefs 16383 ≠ 0 ∧ tabGet 0 s.prefect.bufRefs 16382 = 0) := by decide +kernel
theorem test_meets_OperationEndsAndMap :
    (let s := busy host
     let o : OpRec := { op7 with stage := .inService }
     findOp s o.opseq = some o ∧ o.out = [] ∧ runsInOrder s o = false ∧ s.prefect.portFifo = [] ∧ s.prefect.tileFifo = []
      ∧ s.prefect.ops.all (fun x => x.stage ≠ .doneHeld) = true ∧ tileRuns s 0 = true ∧ serviceOf s 0 = some o)
    ∧ (let o : OpRec := { op7 with stage := .inService, lunit := 51, punit := 7 }
       let s : State := { State.reset with prefect := { ops := [o] } }
       findOp s o.opseq = some o ∧ runsInOrder s o = false
        ∧ s.prefect.ops.find? (fun x => x.stage == .inService && decide (48 ≤ x.lunit) && x.punit == (7 : Fin 8).val) = some o)
    ∧ (let s := up .service
       writable s 0 0x8020 1 47 4 (47 + 64) = true ∧ (47 + 64) % 64 = physOf s 47 ∧ heldElsewhere s 47 ((47 + 64) % 64) = false
        ∧ isFenced s (physUnit 47 47) = false ∧ ((47 : Nat) < 48 → (47 + 64) % 64 ≤ 51) ∧ ((48 : Nat) ≤ 47 → (47 + 64) % 64 ≤ 7))
    ∧ (let s := { busy host with prefect := { (busy host).prefect with drain := [(0, true)] } }
       s.prefect.ops.find? (fun x => x.stage == .inService && x.lunit == (0 : Fin 52).val) = some { op7 with stage := .inService }
        ∧ tabGet false s.prefect.drain (0 : Fin 52).val = true)
    ∧ (State.reset.prefect.subst = [] ∧ inServiceOf State.reset 47 = false ∧ freeTiles State.reset = [48, 49, 50, 51]) := by
  decide +kernel

/-- The base of the MRAM's node. -/
def mram : Nat := 85 * 2 ^ 33
theorem test_meets_MeshPackets :
    (let s := State.reset
     isIdentity 0x8000 = true ∧ nodeExists (initNode 0x8000) = true ∧ 255 < 256 ∧ mram + 2 ^ 26 - 256 < 2 ^ 40
      ∧ mayIssue s 0x8000 255 = true ∧ (mram + 2 ^ 26 - 256) % 256 + ((255 : Fin 256).val + 1) ≤ 256
      ∧ inMemory (mram + 2 ^ 26 - 256) 256 = true ∧ portClosedAt s (mram + 2 ^ 26 - 256) = false
      ∧ readPoison s (mram + 2 ^ 26 - 256) 256 = false ∧ writePoison s (mram + 2 ^ 26 - 256) 256 = false)
    ∧ (let r : Resp := ⟨0x8000, 9, mram, 3, true, .ok, [1, 2, 3, 4]⟩
       let s : State := { State.reset with mesh := { responses := [r], outstanding := [(0x8000, 9, true)] } }
       s.mesh.responses.find? (fun x => x.init == 0x8000 && x.tid == 9) = some r ∧ s.mesh.quarantine.contains (r.init, r.tid) = false
        ∧ s.mesh.outstanding.any (fun x => x.1 == 0x8000 && x.2.1 == 9) = true)
    ∧ (isIdentity 0x8000 = true ∧ nodeExists (initNode 0x8000) = true ∧ 9 < 256 ∧ mayIssue State.reset 0x8000 9 = true)
    ∧ (State.reset.mesh.failedColumn = 0xFF ∧ (7 : Fin 9).val ≠ 8)
    ∧ writable (up .standby) 0 0x8061 1 0 36 0 = true ∧ writable (up .standby) 0 0x8061 3 0 1 1 = true := by decide +kernel
theorem test_meets_MoverRegisters :
    (let s := State.reset
     isIdentity 0xD200 = true ∧ mayWriteChannel s 0xD200 63 = true ∧ 0x7E5 < 2 ^ 32 ∧ (channelOf s 63).run = none
      ∧ 0x7E5 / 2 % 8 ≤ 2 ∧ (0x7E5 / 2 % 8 = 1 → 0x7E5 / 16 % 64 ≤ 15) ∧ (0x7E5 / 2 % 8 = 2 → 0x7E5 / 16 % 64 ≠ (63 : Fin 64).val)
      ∧ isOffice 0xD200 = true ∧ (63 % 64 ≤ 51 ∨ 63 % 64 = 63)
      ∧ takesEvent { (channelOf s 63) with evkind := 1, evsrc := 15 } (.timer 15) = true
      ∧ takesEvent { (channelOf s 63) with evkind := 2, evsrc := 62 } (.channel 62) = true)
    ∧ (let s := { up .service with time := { (up .service).time with paceTimers := [(15, { period := 100, phase := 7 })] } }
       s.time.valid = true ∧ s.time.airTime ≤ 107 ∧ (timerOf s 15).period ≠ 0 ∧ 107 % (timerOf s 15).period = (timerOf s 15).phase
        ∧ hasFired (64 + 15) 107 s = false
        ∧ writable s 0 0x8051 1 15 4 50 = true ∧ writable s 0 0x8051 2 15 4 99 = true
        ∧ 99 < (timerOf s 15).newPeriod.getD (timerOf s 15).period) := by decide +kernel
/-- A READY descriptor of one element of one octet, from an address to another. -/
def rawDesc (src dst : Nat) : Nat := 2 ^ 16 + 2 ^ 48 + src * 2 ^ 64 + dst * 2 ^ 128
theorem test_meets_MoverDescriptors :
    (let raw := rawDesc (mram + 64) (mram + 96)
     let s : State := { State.reset with mesh := { channels := [(0, { enable := true, pending := 1, ring := mram })]
                                                   mem := (List.range 32).filterMap (fun k =>
                                                     let b : BitVec 8 := BitVec.ofNat 8 (raw >>> (8 * k))
                                                     if b = 0 then none else some (mram + k, b)) } }
     let x := channelOf s 0
     let a := (x.ring + 32 * x.next) % 2 ^ 40
     x.enable = true ∧ x.pending ≠ 0 ∧ x.run = none ∧ a % 32 = 0 ∧ inMemory a 32 = true ∧ portClosedAt s a = false
      ∧ readPoison s a 32 = false ∧ (valueLE (gBytes s a 32)).testBit 16 = true
      ∧ malformed (descOf x.next a (valueLE (gBytes s a 32))) = false)
    ∧ (let d := descOf 0 mram (rawDesc (mram + 64) (mram + 96))
       let s : State := { State.reset with mesh := { channels := [(63, { enable := true, run := some d })] } }
       (channelOf s 63).run = some d ∧ d.kind = 0 ∧ d.nelem = 1 ∧ d.cls = .ok ∧ d.addr < 2 ^ 40 ∧ d.src + d.esize ≤ 2 ^ 40
        ∧ d.dst + d.esize ≤ 2 ^ 40 ∧ 1 ≤ d.esize ∧ d.src % 256 + d.esize ≤ 256 ∧ d.dst % 256 + d.esize ≤ 256 ∧ d.addr % 32 = 0
        ∧ 52 ≤ nodeNum d.src ∧ 52 ≤ nodeNum d.dst ∧ 52 ≤ nodeNum d.addr ∧ inMemory d.src d.esize = true
        ∧ inMemory d.dst d.esize = true ∧ inMemory d.addr 32 = true ∧ portClosedAt s d.src = false ∧ portClosedAt s d.dst = false
        ∧ portClosedAt s d.addr = false ∧ readPoison s d.src d.esize = false ∧ writePoison s d.dst d.esize = false
        ∧ writePoison s d.addr 32 = false ∧ (d.dst + d.esize ≤ d.addr ∨ d.addr + 32 ≤ d.dst)) := by decide +kernel

/-! ### Witnesses: power, modes and time -/

theorem test_meets_PowerDomains :
    (let s := setDomain State.reset 64 { delay := true, vPrefect := false, vMovers := false, vOffice := false, vCaretaker := false, vSelf := false }
     (domainOf s 64).delay = true ∧ anyVote (domainOf s 64) = false ∧ (domainOf s 64).dstate = .run)
    ∧ (let s := setDomain State.reset 51 { port := .closing, dstate := .transition }
       (domainOf s 51).port = .closing ∧ s.mesh.outstanding = [] ∧ (domainOf s 51).idle ≠ 2)
    ∧ (let s := setDomain State.reset 51 { port := .closing, dstate := .transition, idle := 2 }
       (domainOf s 51).port = .closing ∧ s.mesh.outstanding = [] ∧ (domainOf s 51).idle = 2 ∧ (51 : Fin 65).val < 52)
    ∧ (let s := setDomain State.reset 0 { port := .closed, dstate := .recess, wake := true }
       (domainOf s 0).wake = true ∧ (domainOf s 0).port = .closed ∧ (domainOf s 0).dstate = .recess
        ∧ isFenced s (domainUnit 0) = false) := by decide +kernel
theorem test_meets_BootSteps :
    (let s := State.reset
     let f : BootFacts := {}
     s.mode.mode = .off ∧ f.fatal = none ∧ f.failed = [] ∧ f.keyStore = true ∧ bootBank false f s = some 0 ∧ s.fault.detention = [])
    ∧ (let f : BootFacts := { imageA := false, imageB := false }
       f.failed = [] ∧ bootBank false f State.reset = none ∧ ({ fatal := some 0 } : BootFacts).fatal ≠ none
        ∧ ({ keyStore := false } : BootFacts).keyStore = false)
    ∧ (let s : State := { State.reset with mode := { mode := .boot, bootStep := 6 } }
       s.mode.mode = .boot ∧ s.mode.bootStep = 6 ∧ 3500 ≤ 3500 ∧ s.mode.safeAtBoot = false ∧ s.time.valid = false)
    ∧ (let s : State := { up .boot with mode := { mode := .boot, bootStep := 6 } }
       s.mode.mode = .boot ∧ s.mode.bootStep = 6 ∧ s.mode.safeAtBoot = false ∧ s.time.valid = true ∧ silentCause s = false)
    ∧ (let s : State := { State.reset with mode := { mode := .boot, bootStep := 6, safeAtBoot := true } }
       s.mode.mode = .boot ∧ s.mode.bootStep = 6 ∧ s.mode.safeAtBoot = true) := by decide +kernel
theorem test_meets_MainsLoss :
    (let s : State := { up .silent with power := { mains := true } }
     s.power.mains = true ∧ s.mode.mode = .silent)
    ∧ (let s : State := { up .lastGasp with power := { gaspOpen := true } }
       let f : BootFacts := {}
       s.mode.mode = .lastGasp ∧ s.power.gaspOpen = true ∧ f.fatal = none ∧ f.failed = [] ∧ f.keyStore = true)
    ∧ (let s : State := { up .boot with mode := { mode := .boot, bootStep := 6 } }
       s.mode.mode = .boot ∧ s.mode.bootStep = 6)
    ∧ (let s : State := { up .boot with saved := some {} }
       s.mode.mode = .boot ∧ s.saved = some {} ∧ s.mode.bootStep ≠ 6) := by decide +kernel
theorem test_meets_ModeRequests :
    (let s : State := { up .safe with fault := { (up .safe).fault with safeCause := [] } }
     writable s 0 0x2000 5 0 1 2 = true ∧ s.mode.mode = .safe ∧ s.fault.safeCause = [])
    ∧ (writable (up .degraded) 0 0x2000 5 0 1 2 = true ∧ silentCause (up .degraded) = false ∧ (up .degraded).mode.mode = .degraded)
    ∧ (writable (up .standby) 0 0x2000 5 0 1 3 = true ∧ serviceUnmet (up .standby) ≠ 0)
    ∧ (writable (up .silent) 0 0x2000 5 0 1 7 = true ∧ (up .silent).mode.mode = .silent) := by decide +kernel

/-- STANDBY with every condition of 02 Table 2.6 met. -/
def readyToServe : State := { up .standby with
  lane := { lanes := [(11, { locked := true, headId := true })] }
  molfen := { packages := [(0, { ustate := .installed })] }
  rx := { firstFloor := true } }
theorem test_meets_ModeRequests_service : writable readyToServe 0 0x2000 5 0 1 3 = true ∧ readyToServe.mode.mode = .standby
    ∧ serviceUnmet readyToServe = 0 := by decide +kernel
theorem test_meets_ModeChanges :
    (writable (up .standby) 0 0x2000 6 0 1 1 = true ∧ (up .standby).mode.mode = .standby)
    ∧ (let s : State := { up .silent with mode := { mode := .silent, silentFrom := .standby, causeQuiet := true } }
       writable s 0 0x2000 6 0 1 0 = true ∧ s.mode.mode = .silent ∧ s.mode.causeRef = false ∧ s.mode.silentFrom = .standby)
    ∧ (let s : State := { readyToServe with mode := { mode := .standby, serviceDeferred := true } }
       s.mode.mode = .standby ∧ serviceUnmet s = 0 ∧ serviceWanted s = true)
    ∧ (up .boot).mode.mode = .boot ∧ (up .lastGasp).mode.mode = .lastGasp := by decide +kernel
theorem test_meets_Timebase :
    ((up .degraded).mode.mode = .degraded ∧ (up .degraded).time.valid = true)
    ∧ (let s : State := { up .boot with time := { qualified := true } }
       s.mode.mode ≠ .off ∧ s.time.refLost = true ∧ s.mode.mode ≠ .lastGasp ∧ s.time.qualified = true ∧ followsHead s = false
        ∧ s.time.pendingEpoch = 0)
    ∧ (let s : State := { up .boot with time := { qualified := true, pendingEpoch := 64 } }
       s.time.qualified = true ∧ s.time.pendingEpoch ≠ 0)
    ∧ (writable (up .standby) 0 0x2010 5 0 1 1 = true ∧ isServing (up .standby) = false ∧ followsHead (up .standby) = false) := by
  decide +kernel
theorem test_meets_Bells :
    (let s : State := { up .service with time := { (up .service).time with bells := [(10, { armed := 1 }), (9, { period := 100, phase := 7 })] } }
     (s.time.valid = true ∧ s.time.airTime ≤ 1 ∧ (1 : Nat) ≠ 0 ∧ (bellOf s 10).armed = 1)
      ∧ (s.time.airTime ≤ 107 ∧ (bellOf s 9).armed = 0 ∧ (bellOf s 9).period ≠ 0 ∧ 107 % (bellOf s 9).period = (bellOf s 9).phase
        ∧ hasFired 9 107 s = false))
    ∧ (writable (up .standby) 0 0x2030 1 20 4 50 = true ∧ 20 ≤ 20)
    ∧ (writable (up .standby) 0 0x4001 3 0 8 64 = true ∧ (up .standby).rx.cal.swapState = 0 ∧ (up .standby).time.airTime + 64 ≤ 64
      ∧ ((up .standby).rx.cal.last = 0 ∨ (up .standby).rx.cal.last + 256000 ≤ 64))
    ∧ (let s : State := { up .standby with tx := { cal := { swapState := 2 } } }
       (swapTable s (10 + (1 : Fin 10).val)).swapState = 2) := by decide +kernel
theorem test_meets_PaceLedgerAndTests :
    ((up .safe).time.valid = true ∧ (up .safe).mode.mode ≠ .boot ∧ (up .safe).mode.mode ≠ .off ∧ (18 : Nat) < 19
      ∧ ((List.replicate 19 16)[18]? = some 16))
    ∧ (let s : State := { up .standby with time := { (up .standby).time with gap := true } }
       writable s 0 0x6001 2 0 4 16777215 = true ∧ s.time.gap = true)
    ∧ ((up .safe).mode.mode ≠ .off ∧ 4000 ≤ 4000 ∧ 3999 < 4000)
    ∧ ((1100 : Int) < 1101 ∧ (up .safe).mode.mode ≠ .lastGasp) := by decide +kernel

/-! ### Witnesses: cipher engines and keys -/

/-- The key and the wrapped key of RFC 3394, 4.1. -/
def kek : List Nat := [0x00, 0x01, 0x02, 0x03, 0x04, 0x05, 0x06, 0x07, 0x08, 0x09, 0x0A, 0x0B, 0x0C, 0x0D, 0x0E, 0x0F]
def wrapped : List Nat := [0x1F, 0xA6, 0x8B, 0x0A, 0x81, 0x12, 0xB4, 0x47, 0xAE, 0xF3, 0x4B, 0xD8, 0xFB, 0x5A, 0x7B, 0x82,
  0x9D, 0x3E, 0x86, 0x23, 0x71, 0xD2, 0xCF, 0xE5]
def unwrapped : List Nat := [0x00, 0x11, 0x22, 0x33, 0x44, 0x55, 0x66, 0x77, 0x88, 0x99, 0xAA, 0xBB, 0xCC, 0xDD, 0xEE, 0xFF]
/-- A key block (10 Table 10.6) for a handle: TYPE 1, the wrapped key. -/
def keyBlock (h : Nat) : Nat := fromBE (octetsBE 4 h ++ [1, 0, 0, 0] ++ wrapped)
/-- VI 0 holds the load key of RFC 3394, and an entry's key is loaded. -/
def keyed : State := { up .standby with
  cipher := { keys := [(1, { kstate := .loaded, key := unwrapped }), (326656, { kstate := .loaded, key := kek }), (326672, { kstate := .loaded, key := kek })] }
  roll := { entries := [(5, { status := .active, identity := 0x70, tag := 0x71, keyh := 2 })] } }
/-- An engine held, set up for an operation on len octets under a KEYSEL. -/
def engined (who keysel len : Nat) : State := setEngine keyed 4 { pass := who, keysel := keysel, len := len, src := mram }
theorem test_meets_CipherEngines :
    (isIdentity 0x8000 = true ∧ (engineOf State.reset 7).wiping = false ∧ (engineOf State.reset 7).fenced = false
      ∧ (engineOf State.reset 7).pass = 0)
    ∧ (engineOf (setEngine State.reset 7 { fenced := true }) 7).fenced = true
    ∧ (let s := setEngine State.reset 7 { pass := 0x8000 }
       (engineOf s 7).wiping = false ∧ (engineOf s 7).fenced = false ∧ (engineOf s 7).pass ≠ 0)
    ∧ isCaretaker 0xD400 = true
    ∧ (let r : CipherOp := { op := 4, tlen := 4, result := .ok, out := [], tag := [1], evt := false }
       let s := setEngine State.reset 4 { pass := 0x8000, run := some r }
       4 ≤ (4 : Fin 8).val ∧ (engineOf s 4).pass ≠ 0 ∧ (engineOf s 4).cmdWritten = false ∧ (engineOf s 4).run = some r
        ∧ r.out = [] ∧ r.evt = false ∧ r.build = none)
    ∧ cmdCheck (engined 0x8000 5 96) 0x8000 4 (cmdWord 1 2 false) = none
    ∧ cmdCheck (engined 0xC100 5 0) 0xC100 4 (cmdWord 2 1 true) = none
    ∧ cmdCheck (engined 0x8000 1 4096) 0x8000 4 (cmdWord 3 0 false) = none
    ∧ (let s := engined 0xD200 1 64
       cmdCheck s 0xD200 4 (cmdWord 4 4 false) = none ∧ 4 < 16 ∧ portClosedAt s (engineOf s 4).src = false
        ∧ inMemory (engineOf s 4).src (engineOf s 4).len = true ∧ readPoison s (engineOf s 4).src (engineOf s 4).len = false
        ∧ (keyOf s (engineOf s 4).keysel).poison = false) := by decide +kernel
theorem test_meets_PassRelease :
    (let s := setEngine State.reset 0 { pass := 0xFFFE }
     0xFFFE ≠ 0 ∧ 0xFFFE < 65536 ∧ 0xFFFE ≠ markerIdentity ∧ (engineOf s 0).pass = 0xFFFE ∧ (engineOf s 0).run = none)
    ∧ (let s := setEngine State.reset 0 { pass := 0x8000, run := some { op := 3, tlen := 0, result := .ok, out := [], tag := [], evt := false } }
       (engineOf s 0).pass = 0x8000 ∧ (engineOf s 0).run ≠ none)
    ∧ 0x8000 ≠ markerIdentity ∧ ((engineOf State.reset 0).pass ≠ 0x8000 ∨ 0x8000 ≠ 0x8000 ∨ 0x8000 = markerIdentity)
    ∧ (markerIdentity ≠ 0 ∧ markerIdentity < 65536) := by decide +kernel
theorem test_meets_KeyWrites_load :
    writable keyed 0 0x7010 1 0 32 (keyBlock 2) = true ∧ keyAssigned keyed 0 (octField 32 (keyBlock 2) 0 3) = true
    ∧ blockForm 32 (keyBlock 2) = true ∧ (keyOf keyed (loadKeyOf 0)).kstate ≠ .empty
    ∧ (keyOf keyed (octField 32 (keyBlock 2) 0 3)).kstate ≠ .bound
    ∧ aesUnwrap (keyOf keyed (loadKeyOf 0)).key (wrappedOf 32 (keyBlock 2)) = some unwrapped := by decide +kernel
theorem test_meets_KeyWrites :
    (writable keyed 0 0x7010 2 1 1 1 = true ∧ (keyOf keyed 1).kstate ≠ .bound)
    ∧ (writable keyed 0 0x7011 1 15 32 (keyBlock 0) = true ∧ (keyOf keyed (loadKeyOf 15)).kstate ≠ .bound)
    ∧ (writable keyed 0 0x7011 2 0 32 (keyBlock 0) = true ∧ (keyOf keyed (managementKeyOf 0)).kstate ≠ .bound)
    ∧ (writable keyed 0 0x7000 1 318 1 15 = true
      ∧ keyed.cipher.keys.any (fun p => p.1 / 1024 == 318 && p.2.kstate ≠ .empty) = false) := by decide +kernel

/-! ### Witnesses: lanes -/

/-- Lane l is x. -/
def ln (l : Nat) (x : Lane) : State := setLane (up .standby) l x
theorem test_meets_LaneStates :
    (let s := setCage (up .standby) 19 { present := true }
     lanesRun s 19 = true ∧ (cageOf s (19 : Fin 20)).present = true ∧ (cageOf s (19 : Fin 20)).txDisable = false
      ∧ (laneOf s (19 : Fin 20)).enabled = false)
    ∧ (laneOf (ln 11 { los := false }) 11).los = false
    ∧ (let s := ln 11 { los := false, lol := false, hunt := some 30719, commas := 2 }
       (List.replicate 3072 0).length = 3072 ∧ (laneOf s 11).los = false ∧ (laneOf s 11).lol = false ∧ (laneOf s 11).locked = false
        ∧ (laneOf s 11).hunt = some 30719)
    ∧ (let s := ln 11 { los := false, lol := false, enabled := true, commas := 3 }
       (laneOf s 11).enabled = true ∧ (laneOf s 11).los = false ∧ (laneOf s 11).lol = false ∧ (laneOf s 11).locked = false
        ∧ (laneOf s 11).commas = 3 ∧ 11 < 12 ∧ s.time.valid = true)
    ∧ (laneOf (ln 0 { locked := true, missed := 4 }) 0).locked = true ∧ 4 ≤ (laneOf (ln 0 { locked := true, missed := 4 }) 0).missed
    ∧ (let s := ln 0 { los := false, lol := false, locked := true, missed := 4 }
       (laneOf s 0).los = false ∧ (laneOf s 0).lol = false ∧ (laneOf s 0).locked = true ∧ 4 ≤ (laneOf s 0).missed)
    ∧ (false || true) = true := by decide +kernel
theorem test_meets_LaneFrames :
    (let s := ln 0 { enabled := true }
     s.time.valid = true ∧ (laneOf s 0).enabled = true ∧ 64 % 32 = 0 ∧ s.time.airTime ≤ 64)
    ∧ (let s := ln 19 { los := false, lol := false, locked := true, missed := 3 }
       (laneOf s 19).locked = true ∧ (laneOf s 19).los = false ∧ (laneOf s 19).lol = false ∧ (laneOf s 19).missed < 4
        ∧ (List.replicate 3072 0).length = 3072) := by decide +kernel
theorem test_meets_LaneControl_messages :
    (let s := ln 11 { inbox := [(0x21, 0, 23, 5), (0x20, 1, 25, 9)] }
     oldestMsg 11 0x20 25 (fun _ b => b == 9) s = some (0x20, 1, 25, 9) ∧ headOfLane s 11 = some 11
      ∧ oldestMsg 11 0x21 23 (fun _ b => b == 5) s = some (0x21, 0, 23, 5) ∧ (laneOf s 12).inbox = []) := by decide +kernel
theorem test_meets_LaneControl_align :
    (let names (b : Nat) : Bool := octAt 4 b 0 == (0 : Fin 256).val && octAt 4 b 1 == (255 : Fin 256).val && octField 4 b 2 3 == (3071 : Fin 3072).val
       let b := fromBE [0, 255] * 65536 + 3071
       let x : Lane := { inbox := [(0x22, 0, 4, b)], rxFrame := 254, rxCount := 256, arrivals := [(255, 16384)] }
       oldestMsg 0 0x22 4 (fun _ b => names b) (ln 0 x) = some (0x22, 0, 4, b)
        ∧ frameCount (laneOf (ln 0 x) 0) 255 = some 0 ∧ frameCount (laneOf (ln 0 { x with rxCount := 255 }) 0) 255 = none
        ∧ oldestMsg 19 0x22 4 (fun _ b => names b) (ln 19 { inbox := [(0x22, 0, 6, fromBE [1, 0] * 256 ^ 4 + b)] })
          = some (0x22, 0, 6, fromBE [1, 0] * 256 ^ 4 + b)) := by decide +kernel
theorem test_meets_LaneControl_replies :
    (let c : LaneCmd := { type := 1, seq := 255, body := 0, len := 11 }
       let m : Nat × Nat × Nat × Nat := (0x3D, 7, 3, fromBE [1, 255, 0])
       let s : State := { ln 15 { locked := true, cmds := [c], inbox := [m] } with
         settings := [(skey 0 0x3030 1 3, 11)], rx := { gainPending := [⟨176, 5, 0, 255, 15⟩] } }
       oldestMsg 15 0x3D 3 (fun _ b => octAt 3 b 0 == 1 && octAt 3 b 1 == 255 && statusOf (octAt 3 b 2) == .ok) s = some m
        ∧ headOfLane s 15 = some 11 ∧ (laneOf s 15).cmds.find? (fun c => c.type == 1 && c.seq == 255) = some c
        ∧ s.rx.gainPending.filter (fun g => g.lane == (15 : Fin 20).val && g.seq == 255) = [⟨176, 5, 0, 255, 15⟩])
    ∧ (let m : Nat × Nat × Nat × Nat := (0x3D, 7, 5, fromBE [1, 0, 0x42, 9, 0])
       let s : State := { ln 16 { inbox := [m] } with stack := { position := 0, members := 3, dirPending := [(5, 1, 9, 1, 1)] } }
       oldestMsg 16 0x3D 3 (fun _ b => octAt 3 b 0 == 0x42 && octAt 3 b 1 == 9 && statusOf (octAt 3 b 2) == .ok) s = some m
        ∧ isHead s = true ∧ s.stack.dirPending = (5, 1, 9, 1, 1) :: []) := by
  decide +kernel
theorem test_meets_LaneControl :
    (let m : Nat × Nat × Nat × Nat := (0x10, 255, 4, fromBE [1, 0, 1, 255])
     oldestMsg 19 0x10 2 (fun q b => q == 255 && octAt 2 b 0 == b2n true && toSigned 8 (octAt 2 b 1) == -1) (ln 19 { inbox := [m] }) = some m)
    ∧ (let m : Nat × Nat × Nat × Nat := (0x11, 0, 3, fromBE [255, 0, 15])
       let r : TapReq := { seq := 255, tap := 1, step := -1 }
       let s := ln 15 { inbox := [m], tapReq := some r }
       oldestMsg 15 0x11 3 (fun _ b => octAt 3 b 0 == 255 && octAt 3 b 1 == 0 && octAt 3 b 2 == 15) s = some m
        ∧ (laneOf s 15).tapReq = some r ∧ r.seq = (255 : Fin 256).val)
    ∧ (let x : Lane := { locked := true, enabled := true, sinceTap := 64, sinceLock := 64 }
       let s := ln 19 x
       let s' := ln 19 { x with undoStep := true, lastStep := some (1, -1), sinceLock := 0 }
       (laneOf s 19).locked = true ∧ (laneOf s 19).enabled = true ∧ (laneOf s 19).tapReq = none ∧ 64 ≤ (laneOf s 19).sinceTap
        ∧ 64 ≤ (laneOf s 19).sinceLock ∧ setting s 0x3000 3 0 = 1 ∧ (laneOf s 19).undoStep = false
        ∧ (laneOf s' 19).undoStep = true ∧ (laneOf s' 19).lastStep = some (1, -1) ∧ (laneOf s' 19).tapReq = none)
    ∧ (let s := ln 0 { tapReq := some { seq := 0, tap := 0, step := 1, waited := 64 } }
       (laneOf s 0).tapReq = some { seq := 0, tap := 0, step := 1, waited := 64 } ∧ 64 ≤ 64)
    ∧ (let c : LaneCmd := { type := 2, seq := 7, body := 0, len := 1, waited := 8, resends := 1 }
       (laneOf (ln 15 { cmds := [c] }) 15).cmds.find? (fun c => c.seq == (7 : Fin 256).val && decide (8 ≤ c.waited)) = some c
        ∧ c.resends < 2
        ∧ (laneOf (ln 15 { cmds := [{ c with resends := 2 }] }) 15).cmds.find? (fun c => c.seq == (7 : Fin 256).val && decide (8 ≤ c.waited))
          = some { c with resends := 2 }) := by decide +kernel
theorem test_meets_SparesAndCages :
    (headOf (setHead State.reset 11 { switching := true }) (11 : Fin 12)).switching = true
    ∧ (let s := setLane (setHead (ln 15 { active := true, locked := true, serial := 9 }) 0 { serving := 15 }) 0
          { locked := true, headId := true, serial := 9 }
       writable s 0 0x3030 2 3 1 1 = true ∧ (List.range 12).find? (fun h => activeLane s h == some (12 + 3)) = some 0
        ∧ canSwitch s (12 + 3) 0 = true)
    ∧ (writable (up .standby) 0 0x3030 1 3 1 0xFF = true ∧ (0xFF = 0xFF ∨ spareOf (up .standby) 0xFF = none))
    ∧ (writable (up .standby) 0 0x3030 1 3 1 11 = true ∧ (11 = 0xFF ∨ spareOf (up .standby) 11 = none))
    ∧ ((cageOf State.reset (21 : Fin 22)).present = false
      ∧ (cageOf (setCage State.reset 0 { present := true }) (0 : Fin 22)).present = true) := by decide +kernel

/-! ### Witnesses: receive chain, Sweep, captures and verdicts -/

/-- A stack of five members, of which this one is at a position. -/
def big (position : Nat) : State := { up .standby with stack := { position := position, members := 31 } }
theorem test_meets_ReceiveChain :
    (let s : State := { up .service with rx := { running := true }, settings := [(skey 0 0x4005 2 0, 1)] }
     s.rx.running = true ∧ s.time.valid = true ∧ 191 < 192 ∧ 511 < 512 ∧ 31 < 32 ∧ setting s 0x4005 2 0 = 1)
    ∧ (let s : State := { up .service with rx := { running := true, periodFrom := 7, histNext := 250507 } }
       s.rx.running = true ∧ periodOver s = true)
    ∧ writable (up .standby) 0 0x4006 1 0 1 1 = true
    ∧ (bigStack (up .standby) = false ∧ writable (up .standby) 0 0x4003 1 15 1 32 = true
      ∧ writable (up .standby) 0 0x4004 4 511 2 65476 = true)
    ∧ (bigStack (big 0) = true ∧ followsHead (big 0) = false ∧ writable (big 0) 0 0x4004 1 7 1 0 = true
      ∧ followsHead (big 4) = true ∧ writable (big 4) 0 0x4004 4 7 2 65476 = true) := by decide +kernel
/-- A hit of bin group 0 and its detection. -/
def hit0 : Hit := { p := 0, g := 0, bin := 3, mcode := 0, beam := 4, peakAt := 25600, margin := (9, 1), rap := false, stale := false }
def det0 : Detection :=
  { dseq := 8, peakAt := 102400, beam := 4, slot := 0, rap := false, stale := false, bin := 3, mcode := 0, cls := 0,
    profile := 1, margin := 9, floor := 0, loopGain := 0, nbHits := 0 }
theorem test_meets_Detections :
    (let s : State := { up .service with sweep := { hits := [hit0] }, rx := { histNext := 100000 },
                                         settings := [(skey 0 0x4010 1 0, 1)] }
     s.sweep.hits.find? (fun h => h.p == (0 : Fin 2).val && h.beam == (4 : Fin 32).val && h.bin == (3 : Fin 512).val && h.peakAt == 25600) = some hit0
      ∧ sweepRuns s = true ∧ hit0.done = false ∧ windowDone s hit0 = true ∧ suppressor s hit0 = none)
    ∧ (let s : State := { up .standby with sweep := { requests := [det0] } }
       s.time.valid = true ∧ s.time.airTime ≤ 256 * 4 ∧ s.rx.staged = [] ∧ refusedAtOnce s det0 = some .mode)
    ∧ (let s : State := { up .service with sweep := { requests := [det0] } }
       s.time.valid = true ∧ s.time.airTime ≤ 256 * 4 ∧ s.rx.staged = [] ∧ s.sweep.requests = [det0] ∧ refusedAtOnce s det0 = none
        ∧ runningCount s < min 4096 (effectiveCeiling s) ∧ spanFull s det0 = false ∧ 4095 < 4096 ∧ (captureOf s 4095).stage = 0) := by
  decide +kernel
/-- Capture 4095 is x, of det0, with bin samples stored up to one. -/
def cap (newest : Nat) (x : Capture) : State :=
  setCapture { up .service with rx := { histNext := newest + 1 } } 4095 { x with det := some det0 }
theorem test_meets_Captures :
    (let s := cap 424 { stage := 1 }
     (captureOf s 4095).stage = 1 ∧ (captureOf s 4095).det = some det0 ∧ windowLost s det0 = false ∧ windowReady s det0 = true)
    ∧ (let s := cap (75 + 496 + 15) { stage := 2, samples := 496, blocks := 31 }
       (captureOf s 4095).stage = 2 ∧ firstSample det0 + 496 + 15 ≤ newestSample s 1
        ∧ sampleLost s det0.mcode (windowStart det0 + 496 * 256) = false ∧ 31 < (captureOf s 4095).released + 32)
    ∧ (let s := cap 600 { stage := 2, samples := 512, lastRecompute := some 257 }
       (captureOf s 4095).lastRecompute.any (fun n => decide ((captureOf s 4095).samples < n + 256)) = true)
    ∧ (let s := cap 600 { stage := 2, samples := 512, lastRecompute := some 256 }
       (captureOf s 4095).lastRecompute.any (fun n => decide ((captureOf s 4095).samples < n + 256)) = false
        ∧ 1024 < (List.replicate 1025 ((0 : Int), (0 : Int))).length
        ∧ (List.replicate 512 ((1 : Int), (0 : Int))).length ≤ 1024 ∧ 511 < (captureOf s 4095).samples
        ∧ sampleLost s det0.mcode (windowStart det0 + (511 + 1 - 512) * 256) = false)
    ∧ (let f : FrameInfo := { headed := true, tagged := true, header := crc8 [0, 0], tag := 5, fcnt := 6 }
       let s := cap 600 { stage := 2, frame := f, predicted := some 9 }
       let y := takeDecisions s (captureOf s 4095) det0 {}
       (captureOf s 4095).tagDone = false ∧ y.frame.tagged = true ∧ vendorFormat s det0.profile = true
        ∧ headerAccepted s det0.profile y.frame = true ∧ closes s y det0 = true ∧ y.predicted = some 9) := by decide +kernel
theorem test_meets_Captures_ends :
    (let s := cap 600 { stage := 2, blocks := 33, released := 1 }
     (captureOf s 4095).det = some det0 ∧ (captureOf s 4095).stage = 2 ∧ (captureOf s 4095).released + 32 ≤ (captureOf s 4095).blocks)
    ∧ (let s := cap 600 { stage := 2 }
       (captureOf s 4095).predicted = none ∧ s.time.valid = true ∧ s.time.airTime ≤ 2 ^ 40 ∧ det0.peakAt + lifeLimit s det0 ≤ 2 ^ 40)
    ∧ (let s := cap 100000 { stage := 1 }
       (captureOf s 4095).stage = 1 ∧ windowLost s det0 = true)
    ∧ (let s := cap 100000 { stage := 2, samples := 16 }
       (captureOf s 4095).stage = 2 ∧ sampleLost s det0.mcode (windowStart det0 + 16 * 256) = true)
    ∧ (let s := cap 600 { stage := 3 }
       (captureOf s 4095).stage = 3 ∧ (captureOf s 4095).forwarded = false ∧ comesAfter s 4095 (captureOf s 4095) det0 = false)
    ∧ (let s := cap 600 { stage := 3, forwarded := true, forced := 4 }
       (captureOf s 4095).forced ≠ 0 ∧ comesAfter s 4095 (captureOf s 4095) det0 = false)
    ∧ (let s : State := { cap 100000 { stage := 3 } with sweep := { requests := [det0] } }
       s.sweep.requests.find? (fun d => d.dseq == 8) = some det0 ∧ windowLost s det0 = true) := by decide +kernel
/-- VI 15 with one collector and one verdict held. -/
def rec1 : Verdict :=
  { vseq := 1, dseq := 8, cls := .incomplete, vi := 15, detail := 1, flags := 0, profile := 1, bin := 3, mcode := 0, capClass := 0
    ant := 0, endAt := 0, identity := 0, slot := 0, fcnt := 0, charge := 0, credits := 0, margin := 9, snr := 0, cfo := 0
    latency := 0, len := 0, ftype := 0, refresh := 0, capid := 0 }
def held1 : Held := { record := rec1, octets := [] }
def sends (h : Held) : State := { up .service with
  settings := [(skey 0 0x1010 1 15, 1), (skey 15 0x4040 1 3, 0xFE80 * 2 ^ 128 + 517)]
  molfen := { linkUp := [(1, true)] }
  verdict := { held := [(15, [h])], cursor := [(63, 1)] } }
theorem test_meets_VerdictDelivery :
    (let s := sends held1
     canNotify s 15 3 = true ∧ s.verdict.notices = [] ∧ heldOf s 15 = [held1] ∧ cursorOf s 15 3 = held1.record.vseq ∧ held1.octets = []
      ∧ notifyLane s (collector s 15 3 / 65536) = some 1)
    ∧ (let s := sends { held1 with sent := true }
       canNotify s 15 3 = true ∧ heldOf s 15 = [{ held1 with sent := true }]
        ∧ tabGet 0 s.verdict.acked (4 * (15 : Fin 16).val + (3 : Fin 4).val) ≠ held1.record.vseq)
    ∧ (let s := up .standby
       writable s 0 0x4040 1 3 18 (2 ^ 143) = true ∧ collector s 0 3 ≠ 2 ^ 143 ∧ 2 ^ 143 ≠ 0)
    ∧ (let s : State := { up .standby with settings := [(skey 0 0x4040 1 3, 517)] }
       writable s 0 0x4040 1 3 18 0 = true ∧ collector s 0 3 ≠ 0) := by decide +kernel

/-! ### Witnesses: the Roll and the downlink -/

/-- An enrolment block (08 Table 8.4): IDENTITY, TAG, PROFILE, CMODEL, CPLAN, KEYH, UFLOOR, DSTART, CHARGE. -/
def enrolBlock (identity tag keyh : Nat) : Nat :=
  fromBE (octetsBE 8 identity ++ octetsBE 4 tag ++ [1, 63, 63, 0] ++ octetsBE 4 keyh ++ octetsBE 4 7 ++ octetsBE 4 0xFFFFFFFE ++ octetsBE 4 9)
/-- VI 0 owns every slot; slot 5 is ACTIVE with key 2, keys 1 and 2 hold a key. -/
def rolled : State := { up .standby with
  settings := [(skey 0 0x6000 2 0, 256)]
  cipher := { keys := [(1, { kstate := .loaded, key := unwrapped }), (2, { kstate := .bound, key := unwrapped })] }
  roll := { entries := [(5, { status := .active, identity := 0x70, tag := 0x71, keyh := 2, profile := 1, lastAt := 1, credits := 50 })]
            budgetLeft := [(0, 100)] } }
theorem test_meets_Enrolments_enrol :
    (let b := enrolmentOf (enrolBlock 0xA1 0xB1 1)
     writable rolled 0 0x6011 1 262143 32 (enrolBlock 0xA1 0xB1 1) = true ∧ (entryOf rolled 262143).status = .free
      ∧ enrolRange rolled b = true ∧ keyAssigned rolled 0 b.keyh = true ∧ (keyOf rolled b.keyh).kstate ≠ .empty
      ∧ heldAlready rolled b = false ∧ homedElsewhere rolled b.tag = false ∧ placeableAt rolled 262143 b.tag = true
      ∧ (entryOf rolled 262143).migrating = false ∧ boundToOther rolled 262143 b.keyh = false ∧ inShadow rolled b.keyh = false) := by
  decide +kernel
theorem test_meets_Enrolments_replace :
    (let b := enrolmentOf (enrolBlock 0xA1 0xB1 2)
     writable rolled 0 0x6011 3 5 32 (enrolBlock 0xA1 0xB1 2) = true ∧ (entryOf rolled 5).status ≠ .free
      ∧ enrolRange rolled b = true ∧ keyAssigned rolled 0 b.keyh = true ∧ (keyOf rolled b.keyh).kstate ≠ .empty
      ∧ heldAlready rolled b = false ∧ homedElsewhere rolled b.tag = false ∧ placeableAt rolled 5 b.tag = true
      ∧ (entryOf rolled 5).migrating = false ∧ boundToOther rolled 5 b.keyh = false ∧ inShadow rolled b.keyh = false
      ∧ rolled.tx.bursts = [] ∧ rolled.tx.deferred = [])
    ∧ (writable rolled 0 0x6011 2 5 1 1 = true ∧ inShadow rolled (entryOf rolled 5).keyh = false) := by decide +kernel
theorem test_meets_Enrolments_rekey :
    (let v := fromBE (octetsBE 4 1 ++ octetsBE 4 0xFFFFFFFE)
     writable rolled 0 0x6011 4 5 8 v = true ∧ octField 8 v 4 7 ≠ 0xFFFFFFFF ∧ keyAssigned rolled 0 (octField 8 v 0 3) = true
      ∧ (keyOf rolled (octField 8 v 0 3)).kstate = .loaded ∧ inShadow rolled (octField 8 v 0 3) = false
      ∧ (entryOf rolled 5).status ≠ .free ∧ (entryOf rolled 5).migrating = false ∧ tabGet none rolled.roll.shadows 5 = none
      ∧ shadowCount rolled < 4096)
    ∧ (let s : State := { rolled with roll := { shadows := [(262143, some ⟨3, 0, false, []⟩)] } }
       tabGet none s.roll.shadows (262143 : Fin 262144) = some ⟨3, 0, false, []⟩) := by decide +kernel
theorem test_meets_FreeSlots :
    (portsServe rolled 0x6010 = true ∧ rolled.molfen.openGroups = [])
    ∧ inSlice (up .standby) 1 262143 = false
    ∧ (inSlice rolled 0 262143 = true ∧ decide ((4 : Nat) < 4) = false ∧ decide ((3 : Nat) < 4) = true
      ∧ (entryOf rolled 262143).status = .free ∧ (entryOf rolled 5).status ≠ .free)
    ∧ (snapWithheld rolled = false ∧ (entryOf (snapView rolled) 262143).status = .free) := by decide +kernel
theorem test_meets_EntryWrites :
    (writable rolled 0 0x6010 2 5 1 2 = true ∧ (entryOf rolled 5).status ≠ .free ∧ (entryOf rolled 5).status ≠ .exhausted)
    ∧ writable rolled 0 0x6010 4 5 4 (2 ^ 32 - 1) = true
    ∧ (writable rolled 0 0x6010 5 5 4 1 = true ∧ (entryOf rolled 5).ucnt < 1)
    ∧ writable rolled 0 0x6010 6 5 1 63 = true ∧ writable rolled 0 0x6010 7 5 1 63 = true
    ∧ (writable rolled 0 0x6011 5 5 2 100 = true
      ∧ (touchedPair rolled 5).1.credits + (touchedPair rolled 5).1.held + 100 ≤ 65534
      ∧ 100 ≤ budgetLeft rolled (entryOf rolled 5).vi) := by decide +kernel
theorem test_meets_RollUpkeep :
    writable rolled 0 0x6000 3 15 4 (2 ^ 32 - 1) = true
    ∧ (writeCheck rolled 0 0x6000 2 0 2 1 = none ∧ sliceCheck rolled [⟨true, 0, 1⟩] = none)
    ∧ ((entryOf { rolled with time := { ledger := 86400 } } 5).status ≠ .free
      ∧ 86400 ≤ sinceTouch { rolled with time := { ledger := 86400 } } (entryOf rolled 5))
    ∧ (isUnit (unitTile 51) = true ∧ [(unitTile 51, 65535)].find? (fun p => p.1 == unitTile 51) = some (unitTile 51, 65535)
      ∧ unitFlash 1 / 256 ≠ 1)
    ∧ (let r : JRec := { jseq := 1, slot := 5, vi := 0, cause := 0, gen := 1, lclk := 0, body := .enrol {} 0, crc := 0 }
       let s : State := { rolled with roll := { rolled.roll with staging := [(5, .roll r)] } }
       5 < 6 ∧ s.roll.staging = [(5, .roll r)]) := by decide +kernel
/-- A downlink request (09 Table 9.2) of 96 octets to slot 5 for the next receive window. -/
def ask : Nat := fromBE (octetsBE 4 5 ++ [0, 1, 96, 0] ++ octetsBE 8 0 ++ List.replicate 96 1)
theorem test_meets_Downlinks :
    (let len := 112
     writeCheck rolled 0 0x5030 1 0 len ask = none ∧ inSlice rolled 0 (octField len ask 0 3) = true ∧ octAt len ask 4 = 0
      ∧ octAt len ask 5 ≤ 1 ∧ octAt len ask 6 ≤ 96 ∧ len = 16 + octAt len ask 6 ∧ octAt len ask 7 = 0 ∧ octField len ask 8 15 = 0
      ∧ (entryOf rolled (octField len ask 0 3)).status = .active ∧ isVendor (entryOf rolled (octField len ask 0 3)).profile = true
      ∧ (entryOf rolled (octField len ask 0 3)).lastAt ≠ 0 ∧ (entryOf rolled (octField len ask 0 3)).migrating = false
      ∧ (entryOf rolled (octField len ask 0 3)).defer ≠ 15
      ∧ requestCost (octAt len ask 6) ≤ (entryOf rolled (octField len ask 0 3)).credits)
    ∧ (let ask1 := fromBE (octetsBE 4 5 ++ [1, 1, 0, 15] ++ octetsBE 8 (2 ^ 64 - 1))
       writeCheck rolled 0 0x5030 1 0 16 ask1 = none ∧ inSlice rolled 0 (octField 16 ask1 0 3) = true ∧ octAt 16 ask1 4 = 1
        ∧ octAt 16 ask1 6 = 0 ∧ octAt 16 ask1 7 ≤ 15 ∧ (entryOf rolled (octField 16 ask1 0 3)).status ≠ .free) := by
  decide +kernel
/-- A burst of request 3 whose first ramp sample leaves the Shaper in tick 256. -/
def burst3 : Burst := { rqid := 3, slot := 5, s16 := 0, heads := 2048, ramp := 0, rampSlot := 0, spacing := 1, symbols := 1, symEnd16 := 16
                        end16 := 16, tokens := 0, shaper := 256 * tickUnit }
def bursting (b : Burst) : State :=
  { rolled with tx := { bursts := [(0, some b)], records := [(3, some { rqid := 3, slot := 5, origin := .station, vi := 0 })] } }
theorem test_meets_Downlinks_bursts :
    (let s := bursting burst3
     findBurst s 3 = some burst3 ∧ reqOf s 3 = some { rqid := 3, slot := 5, origin := .station, vi := 0 } ∧ burst3.inAir = false
      ∧ burst3.frame = none ∧ s.time.valid = true ∧ s.time.airTime ≤ 255 ∧ (255 : Int) < startTick burst3 ∧ startTick burst3 = 256
      ∧ startTick burst3 < 257)
    ∧ (let b : Burst := { burst3 with frame := some [0] }
       findBurst (bursting b) 3 = some b ∧ b.frame ≠ none ∧ startTick b = 256 ∧ b.heads.testBit 11 = true)
    ∧ findBurst (bursting { burst3 with inAir := true }) 3 = some { burst3 with inAir := true }
    ∧ (let s : State := { rolled with tx := { maskLast := some 7 } }
       s.tx.maskLast.all (fun n => decide (n < 8)) = true) := by decide +kernel
/-- A reply of one octet, a ramp of two points and a unit-gain coefficient set. -/
def reply1 : Nat := 256 ^ 255
def ramp2 : Nat := 2 * 256 ^ 65 + 65535 * 256 ^ 60
def unitTap : Nat := 16384 * 256 ^ 134 + 16384 * 256 ^ 132
theorem test_meets_DownlinkSettings :
    (writable rolled 0 0x5030 2 255 265 reply1 = true ∧ 1 ≤ replyLength reply1 ∧ replyLength reply1 ≤ 255)
    ∧ (writable rolled 0 0x5020 1 3 66 ramp2 = true ∧ rampOk ramp2 = true ∧ rampBusy rolled 3 = false)
    ∧ (writable rolled 0 0x5010 1 0 136 unitTap = true ∧ tapSum unitTap = 32768)
    ∧ (let s : State := { rolled with settings := [(skey 0 0x5010 1 0, unitTap)] }
       writable s 0 0x5010 2 1 1 0 = true ∧ tapSum (setting s 0x5010 1 0) = 32768)
    ∧ writable rolled 0 0x5022 2 11 4 1 = true ∧ writable rolled 0 0x5022 1 11 2 1 = true := by decide +kernel

/-! ### Witnesses: faults, management, update and stack -/

theorem test_meets_ErrorRecords :
    (let r : ErrRec := { eseq := 5, time := 0, timeOk := false, unit := 0, code := .watchdog, severity := .major }
     let s : State := { up .service with fault := { (up .service).fault with queue := [r], newest := 5, nextEseq := 6 } }
     s.fault.queue.find? (fun r => r.eseq == 5) = some r ∧ r.handled = 0 ∧ s.mode.mode = .service
      ∧ writable s 0 0x9000 6 0 4 5 = true ∧ eseqAbove 5 s.fault.newest = false)
    ∧ (let s : State := { tl { host with accept := true, waiting := true } with mode := { mode := .standby }, prefect := { graph with ops := [op7] } }
       workWaits s = true ∧ s.mode.mode = .standby)
    ∧ isUnit (unitTile 51) = true
    ∧ (writable (up .standby) 0 0x9030 2 0 1 60 = true ∧ 60 ≠ 0) ∧ writable (up .standby) 0 0x9061 3 7 1 1 = true := by decide +kernel
theorem test_meets_FencesAndPairs :
    (activePair (up .standby) = some 0 ∧ officePair (up .standby) (1 : Fin 2) ≠ .fenced)
    ∧ (let s : State := { up .standby with fault := { officeA := .standby, officeB := .fenced } }
       officeInService s = false ∧ s.fault.officeA = .standby ∧ officePair s (1 : Fin 2) = .fenced
        ∧ tabGet 0 s.fault.officeTwice ((1 : Fin 2) + 2) = 0)
    ∧ (let s : State := { up .standby with prefect := { subst := [(47, 0)] } }
       s.prefect.subst = (47, 0) :: [] ∧ (freeTiles s).contains (51 : Fin 52).val = true)
    ∧ (let s : State := { up .standby with fault := { (up .standby).fault with detention := [.unit (unitTile 51) 3] } }
       writable s 0 0x9020 3 0 2 (unitTile 51) = true ∧ isFenced s (unitTile 51) = true)
    ∧ writable (up .standby) 0 0x9020 4 0 1 1 = true := by decide +kernel

/-- A message of VI 0 (16 Table 16.1) with its MAC under the key of RFC 3394, on Ethernet lane 1. -/
def datagram (type cnt : Nat) (body : List Nat) : Datagram :=
  let m := [1, type, 0, 0] ++ octetsBE 6 cnt ++ octetsBE 2 body.length ++ body
  { port := 1, src := 77, octets := m ++ (aesCmac kek m).take 8 }
/-- A request with one item; a READ of an object's element, or a WRITE of one octet. -/
def oneItem (item : List Nat) : List Nat := octetsBE 2 0xBEEF ++ [1, 0] ++ item
def readItem (idx sub el : Nat) : List Nat := [1, 0] ++ octetsBE 2 idx ++ [sub, 0] ++ octetsBE 4 el ++ [0, 0]
def writeItem (idx sub el v : Nat) : List Nat := [2, 0] ++ octetsBE 2 idx ++ [sub, 0] ++ octetsBE 4 el ++ [0, 1, v]
def reached : State := { keyed with molfen := { linkUp := [(1, true)], rxCnt := [(0, 9)], rxWindow := [(0, 1)] } }
def meetsRequest (s : State) (d : Datagram) (m : Msg) (l : List Item) : Prop :=
  readMsg d.octets = some m ∧ m.type = 0x01 ∧ emergencyOf d m = none ∧ officePort s d.port = true ∧ acceptable s d m = true
    ∧ readBody m.body = some (0xBEEF, l)
def ahead (s : State) (d : Datagram) (m : Msg) : Nat := (ofVi s m.vi (aheadOf d s.molfen.inbox)).length
theorem test_meets_RequestsAndAcknowledgements_read :
    (let d := datagram 1 10 (oneItem (readItem 0x2000 1 0))
     let m : Msg := ⟨1, 0, 10, oneItem (readItem 0x2000 1 0)⟩
     let i : Item := { op := 1, idx := 0x2000, sub := 1, el := 0, len := 0, v := 0, zero := true }
     meetsRequest reached d m [i] ∧ ahead reached d m < 16 ∧ mustWait reached d m = false ∧ txCntOf reached m.vi < txLimit
      ∧ [i].any isWrite = false) := by
  unfold meetsRequest; decide +kernel
theorem test_meets_RequestsAndAcknowledgements_refused :
    (let d := datagram 1 8 (oneItem (writeItem 0x2000 1 0 3))
     let m : Msg := ⟨1, 0, 8, oneItem (writeItem 0x2000 1 0 3)⟩
     let i : Item := { op := 2, idx := 0x2000, sub := 1, el := 0, len := 1, v := 3, zero := true }
     meetsRequest reached d m [i] ∧ ahead reached d m < 16 ∧ mustWait reached d m = false ∧ txCntOf reached m.vi < txLimit
      ∧ [i].any isWrite = true
      ∧ (checkAll (takeCnt m.vi m.cnt (leaveInbox d reached)) false m.vi [i]).any (·.isSome) = true) := by
  unfold meetsRequest; decide +kernel
theorem test_meets_RequestsAndAcknowledgements_write :
    (let d := datagram 1 10 (oneItem (writeItem 0x2000 6 0 1))
     let m : Msg := ⟨1, 0, 10, oneItem (writeItem 0x2000 6 0 1)⟩
     let i : Item := { op := 2, idx := 0x2000, sub := 6, el := 0, len := 1, v := 1, zero := true }
     meetsRequest reached d m [i] ∧ ahead reached d m < 16 ∧ mustWait reached d m = false
      ∧ isWrite i = true ∧ i.idx ≠ 0xF000 ∧ checkAll (takeCnt m.vi m.cnt (leaveInbox d reached)) false m.vi [i] = [none]
      ∧ (findObj i.idx i.sub).isSome = true) := by
  unfold meetsRequest; decide +kernel
theorem test_meets_RequestsAndAcknowledgements_waits :
    (let d := datagram 1 10 (oneItem (readItem 0x2000 1 0))
     let m : Msg := ⟨1, 0, 10, oneItem (readItem 0x2000 1 0)⟩
     let e := datagram 1 8 (oneItem (readItem 0x2000 1 0))
     let s : State := { reached with molfen := { reached.molfen with inbox := [e, d] } }
     acceptable s d m = true ∧ ahead s d m < 16 ∧ mustWait s d m = true) := by decide +kernel
theorem test_meets_RequestsAndAcknowledgements_busy :
    (let d := datagram 1 10 (oneItem (readItem 0x2000 1 0))
     let m : Msg := ⟨1, 0, 10, oneItem (readItem 0x2000 1 0)⟩
     let e := datagram 1 11 (oneItem (readItem 0x2000 1 0))
     let s : State := { reached with molfen := { reached.molfen with inbox := List.replicate 16 e ++ [d] } }
     acceptable s d m = true ∧ 16 ≤ ahead s d m ∧ txCntOf s m.vi + 1 < 2 ^ 48) := by decide +kernel
theorem test_meets_RequestsAndAcknowledgements_vack :
    (let s : State := { reached with settings := [(skey 0 0x4040 1 3, 77)], verdict := { held := [(0, [held1])] } }
     let d := datagram 0x12 10 (octetsBE 4 1)
     let m : Msg := ⟨0x12, 0, 10, octetsBE 4 1⟩
     readMsg d.octets = some m ∧ m.type = 0x12 ∧ d.port ≠ 2 ∧ officePort s d.port = true ∧ acceptable s d m = true
      ∧ mustWait s d m = false ∧ m.body.length = 4 ∧ collectors s m.vi = [3] ∧ collector s m.vi 3 = d.src
      ∧ placeIn (heldOf s m.vi) (fromBE m.body) = some 0 ∧ ackedCount s m.vi 3 ≤ 0) := by decide +kernel
theorem test_meets_RequestsAndAcknowledgements_ignored :
    (let d := datagram 0x12 10 (octetsBE 4 2)
     let m : Msg := ⟨0x12, 0, 10, octetsBE 4 2⟩
     readMsg d.octets = some m ∧ m.type = 0x12 ∧ officePort reached d.port = true ∧ acceptable reached d m = true
      ∧ mustWait reached d m = false ∧ placeIn (heldOf reached m.vi) (fromBE m.body) = none) := by decide +kernel
theorem test_meets_PortsAndEmergency :
    (let o := [0x11, 0x22] ++ octetsBE 2 (crc16 [0x11, 0x22])
     (up .boot).mode.mode ≠ .off ∧ o ≠ [] ∧ 2 < (unstuff o).length
      ∧ crc16 ((unstuff o).take ((unstuff o).length - 2)) = fromBE ((unstuff o).drop ((unstuff o).length - 2)))
    ∧ (unstuff [0x11, 0x22]).length ≤ 2
    ∧ (ethernetUp reached (1 : Fin 2) = true ∧ (2 : Fin 5).val < 3 ∧ (3 : Fin 5) = 3 ∧ setting reached 0x1020 4 0 = setting reached 0x1020 4 0)
    ∧ (up .safe).mode.mode = .safe
    ∧ (let s : State := { up .standby with molfen := { addrPending := [(1, 5)] } }
       s.molfen.addrPending.find? (fun p => p.1 == (1 : Fin 2).val) = some ((1 : Fin 2).val, 5))
    ∧ (viEnabled (up .boot) 0 = true ∧ freshCnt (up .boot) 0 0 = false ∧ (1 : Fin 16) ≠ 0)
    ∧ (let f : BootFacts := {}
       txCntOf (up .silent) 0 < txLimit ∧ viEnabled (up .silent) 0 = true ∧ freshCnt (up .silent) 0 1 = true
        ∧ (up .silent).molfen.openGroups = [] ∧ (up .silent).mode.mode ≠ .lastGasp ∧ (up .silent).mode.mode = .silent
        ∧ f.fatal = none ∧ f.failed = [] ∧ f.keyStore = true) := by decide +kernel
/-- STANDBY with a firmware image in a state. -/
def fwIn (u : UpdState) : State := { up .standby with molfen := { firmware := { ustate := u } } }
theorem test_meets_LiveUpdate_firmware :
    (writable (fwIn .bad) 0 0x8070 1 0 1 1 = true ∧ (fwIn .bad).molfen.firmware.ustate ≠ .probation
      ∧ isFenced (fwIn .bad) (unitFlash (otherBank (fwIn .bad))) = false)
    ∧ (writable (fwIn .staging) 0 0x8070 3 0 1024 7 = true ∧ (fwIn .staging).molfen.firmware.ustate = .staging)
    ∧ writable (fwIn .staging) 0 0x8070 1 0 1 2 = true
    ∧ (let s : State := { fwIn .verified with fault := { officeA := .active, officeB := .fenced } }
       writable s 0 0x8070 1 0 1 3 = true ∧ s.molfen.firmware.ustate = .verified ∧ (true && standbyPresent s) = false)
    ∧ (writable (fwIn .probation) 0 0x8070 1 0 1 5 = true ∧ (fwIn .probation).molfen.firmware.ustate = .probation)
    ∧ (writable (fwIn .verified) 0 0x8070 1 0 1 3 = true ∧ standbyPresent (fwIn .verified) = true)
    ∧ (writable (fwIn .probation) 0 0x8070 1 0 1 4 = true ∧ (fwIn .probation).molfen.firmware.ustate = .probation)
    ∧ writable (fwIn .verified) 0 0x8070 1 0 1 5 = true := by decide +kernel
/-- STANDBY with a package x under profile 0x80. -/
def pkIn (x : Update) : State := { up .standby with molfen := { packages := [(0x80, x)] } }
theorem test_meets_LiveUpdate_package :
    (writable (pkIn {}) 0 0x8080 1 0x80 1 1 = true ∧ (packageOf (pkIn {}) 0x80).ustate ≠ .rotating ∧ isLicensed (pkIn {}) 0x80 = true)
    ∧ (let s := pkIn { ustate := .staging }
       writable s 0 0x8080 3 (0x80 * 2 ^ 24) 1024 7 = true ∧ 0x80 * 2 ^ 24 / 2 ^ 24 = 0x80 ∧ (packageOf s 0x80).ustate = .staging
        ∧ writable s 0 0x8080 1 0x80 1 2 = true ∧ tableOk s 0x80 {} = true ∧ tableOk s 0x80 { ordered := [64] } = false)
    ∧ (let s := pkIn { ustate := .verified, staged := { images := [(47, {})] }, wasInstalled := true, inst := { images := [(46, {})] } }
       writable s 0 0x8080 1 0x80 1 3 = true ∧ (packageOf s 0x80).ustate = .verified ∧ (packageOf s 0x80).wasInstalled = true
        ∧ (packageOf s 0x80).staged.bufFormat = (packageOf s 0x80).inst.bufFormat
        ∧ (packageOf s 0x80).staged.raw = (packageOf s 0x80).inst.raw ∧ freeTiles s ≠ []
        ∧ (packageOf s 0x80).staged.images.any (fun i => tileTaken s 0x80 i.1 || tabGet false s.prefect.invalid i.1) = false)
    ∧ (let s := pkIn { ustate := .verified, staged := { images := [(47, {})] } }
       writable s 0 0x8080 1 0x80 1 3 = true ∧ (packageOf s 0x80).ustate = .verified ∧ (packageOf s 0x80).wasInstalled = false
        ∧ (packageOf s 0x80).staged.images ≠ []
        ∧ (packageOf s 0x80).staged.images.any (fun i => tileTaken s 0x80 i.1 || tabGet false s.prefect.invalid i.1) = false
        ∧ writable s 0 0x8080 1 0x80 1 5 = true)
    ∧ (let s := pkIn { ustate := .rotating, toRotate := [47] }
       (0x80 : Nat) < 256 ∧ (packageOf s 0x80).ustate = .rotating ∧ (packageOf s 0x80).toRotate = [47] ∧ (packageOf s 0x80).back = false
        ∧ (packageOf s 0x80).wasInstalled = false ∧ inServiceOf s 47 = false ∧ isFenced s (unitTile (physOf s 47)) = false) := by
  decide +kernel
/-- Member 1 of a stack of two whose head is 0; its west link is up. -/
def member : State := { ln 18 { locked := true, inbox := [(0x30, 0, 15, 5)] } with
  stack := { position := 1, members := 3, head := 0, functions := 3, headset := some (1, [1], 64) } }
theorem test_meets_StackMessages :
    (oldestMsg 18 0x30 13 (fun _ b => octField 13 b 1 8 == 0 && octField 13 b 9 12 == 5) member = some (0x30, 0, 15, 5) ∧ 16 ≤ (18 : Fin 20).val
      ∧ followsHead member = true ∧ decide ((18 : Fin 20).val < 18) = pathEast member ∧ member.mode.mode ≠ .off ∧ member.mode.mode ≠ .lastGasp ∧ member.time.valid = true)
    ∧ (stacked member = true ∧ linkUp member (!true) = true ∧ (0 : Fin 256).val ≠ member.stack.position
      ∧ (0 : Fin 256).val = member.stack.head ∧ ((1 : Fin 256).val = member.stack.position ∨ (1 : Fin 256).val = 0x80)
      ∧ ((0x80 : Fin 256).val = member.stack.position ∨ (0x80 : Fin 256).val = 0x80) ∧ widens member = true)
    ∧ (let s : State := { member with time := { qualified := true } }
       s.time.valid = false ∧ s.time.qualified = true ∧ followsHead s = true)
    ∧ member.stack.headset = some (1, [1], 64)
    ∧ (let s : State := { up .standby with stack := { position := 0, members := 3, head := 0 } }
       writable s 0 0xA000 8 7 1 1 = true ∧ isHead s = true)
    ∧ (stacked member = true ∧ stackFunction member 1 = true ∧ isHead member = false ∧ (0 : Fin 256).val = member.stack.head)
    ∧ (let s : State := { ln 16 { locked := true } with stack := { position := 0, members := 3, head := 0, functions := 2 } }
       stacked s = true ∧ linkUp s true = true ∧ (1 : Fin 256).val ≠ s.stack.position ∧ stackFunction s 1 = true ∧ isHead s = true
        ∧ (0 : Fin 256).val = s.stack.position ∧ (0 : Fin 256).val ≠ s.stack.lostHead)
    ∧ (let s := setCapture member 4095 { stage := 3, forwarded := true, det := some det0 }
       (captureOf s (bitsOf (4095 * 2 ^ 464) 479 464)).det = some det0 ∧ (captureOf s (bitsOf (4095 * 2 ^ 464) 479 464)).stage = 3
        ∧ (captureOf s (bitsOf (4095 * 2 ^ 464) 479 464)).forwarded = true) := by decide +kernel
theorem test_meets_Transfers_offer :
    (let v := fromBE ([1, 0, 0, 0] ++ octetsBE 4 262143 ++ octetsBE 4 327679)
     let s : State := { rolled with stack := { position := 0, members := 3 } }
     writable s 0 0xA020 1 5 12 v = true ∧ octField 12 v 1 3 = 0 ∧ octAt 12 v 0 ≤ 7 ∧ octAt 12 v 0 ≠ s.stack.position
      ∧ octField 12 v 4 7 < 262144 ∧ octField 12 v 8 11 < 327680 ∧ (entryOf s 5).status ≠ .free ∧ stacked s = true
      ∧ s.stack.members.testBit (octAt 12 v 0) = true ∧ xferOpen s 5 = false ∧ s.tx.deferred = []) := by decide +kernel
/-- Member 1 as above, with a transfer of slot 5. -/
def moving (x : Xfer) : State := { rolled with
  lane := member.lane, stack := { member.stack with xfers := [(5, x)] } }
theorem test_meets_Transfers :
    (prepareOk (moving {}) 0 6 1 = true ∧ xferOpen (moving {}) (6 : Fin 262144) = false ∧ stacked (moving {}) = true
      ∧ linkUp (moving {}) false = true)
    ∧ prepareOk (moving {}) 0 5 1 = false
    ∧ (let s := moving { xstate := .prepared, receiver := false, peer := 0 }
       (xferOf s (5 : Fin 262144)).xstate = .prepared ∧ (xferOf s (5 : Fin 262144)).receiver = false ∧ (xferOf s (5 : Fin 262144)).peer = (0 : Fin 256).val)
    ∧ (let s := moving { xstate := .ready, receiver := true, peer := 0 }
       (xferOf s (5 : Fin 262144)).xstate = .ready ∧ (xferOf s (5 : Fin 262144)).receiver = true ∧ s.time.valid = true
        ∧ (xferOf s (5 : Fin 262144)).peer = (0 : Fin 256).val)
    ∧ (let s := moving { xstate := .inDoubt, receiver := true, peer := 0 }
       (xferOf s (5 : Fin 262144)).xstate = .inDoubt ∧ (xferOf s (5 : Fin 262144)).receiver = true)
    ∧ (let s := moving { xstate := .committed, receiver := true, entry := some { identity := 9 }, atK := 256 }
       let s' : State := { s with roll := {} }
       s'.time.valid = true ∧ (xferOf s' (5 : Fin 262144)).xstate = .committed ∧ (xferOf s' (5 : Fin 262144)).entry = some { identity := 9 }
        ∧ (xferOf s' (5 : Fin 262144)).atK ≤ 256 ∧ (entryOf s' (5 : Fin 262144)).status = .free)
    ∧ (let s : State := { moving { xstate := .committed, entry := some {}, atK := 256 } with roll := { entries := [(5, { status := .active, migrating := true })] } }
       (xferOf s (5 : Fin 262144)).receiver = false ∧ (entryOf s (5 : Fin 262144)).migrating = true ∧ s.tx.bursts = [] ∧ s.tx.deferred = []) := by
  decide +kernel
theorem test_meets_FailedWrites :
    writeCheck State.reset 0 0x7010 2 1 1 1 = some .access
    ∧ (let s : State := { up .standby with time := { rimStop := true } }
       writeCheck s 0 0x2030 1 20 4 50 = none ∧ s.time.rimStop = true ∧ rimObject 0x2030 1 = true) := by decide +kernel

/-! ### The spec's worked examples and check values -/

/-- The next state of an outcome. -/
def after (o : Out) : State := match o with
  | .next u => u
  | _ => State.reset
/-- "123456789". -/
def digits : List Nat := [0x31, 0x32, 0x33, 0x34, 0x35, 0x36, 0x37, 0x38, 0x39]
/-- 04 R89, R90; 07 Table 7.3: the check values. -/
theorem test_crc32 : crc32 digits = 0xCBF43926 := by decide +kernel
theorem test_crc16 : crc16 digits = 0x29B1 := by decide +kernel
theorem test_crc8 : crc8 digits = 0xF4 := by decide +kernel
/-- 04 R83 by IEEE 802.3 clause 36: D21.5 is 1010101010 at either disparity, K28.5 its comma, and each character decodes to itself. -/
theorem test_codes : (encodeChar false 0xB5 false, encodeChar true 0xB5 false, encodeChar false 0xBC true, encodeChar true 0xBC true)
    = (0b1010101010, 0b1010101010, 0b0011111010, 0b1100000101) := by decide +kernel
theorem test_codes_back : (List.range 256).all (fun o => [false, true].all (fun rd =>
    decodeAt rd (encodeChar rd o false) == some (o, false))) = true := by decide +kernel
/-- 07 R176, R184: a header block of the vendor air frame, as soft decisions, decodes to its word. -/
theorem test_decoder : vendorHeader ((codedBlock [0x12, 0x34, 0x56]).map (fun b => if b then 100 else -100)) = some 0x123456 := by
  decide +kernel
/-- 10 R267 by FIPS 197, appendix C.1, and RFC 4493, example 1. -/
theorem test_aes : aesEncrypt kek unwrapped = [0x69, 0xC4, 0xE0, 0xD8, 0x6A, 0x7B, 0x04, 0x30, 0xD8, 0xCD, 0xB7, 0x80, 0x70, 0xB4, 0xC5, 0x5A] := by
  decide +kernel
theorem test_cmac : aesCmac [0x2B, 0x7E, 0x15, 0x16, 0x28, 0xAE, 0xD2, 0xA6, 0xAB, 0xF7, 0x15, 0x88, 0x09, 0xCF, 0x4F, 0x3C] []
    = [0xBB, 0x1D, 0x69, 0x29, 0xE9, 0x59, 0x37, 0x28, 0x7F, 0xA3, 0x7D, 0x12, 0x9B, 0x75, 0x67, 0x46] := by decide +kernel
/-- 10, the example: the nonce of endpoint A's acknowledgement. -/
theorem test_nonce : ccmNonce 0x00415A000002C7E1 4411 true 4
    = [0x00, 0x41, 0x5A, 0x00, 0x00, 0x02, 0xC7, 0xE1, 0x00, 0x00, 0x11, 0x3B, 0x81] := by decide +kernel

/-- 12, the example after R321: VEXTA with shift 15. -/
theorem test_vexta : (let s := after (exec (.vexta 0 (alone false) 2 0 15 true) (tl { host with acc := [(0, 0xC000), (1, 0x4000)] }))
    (vReg (tileOf s 0) 2).toNat) = 2 := by decide +kernel
/-- 12, the example's body bundle: one bundle of ADDI, VMACB and VLD, each from the registers before it. -/
def body : State := after (exec (.vld 0 { s0 := 0x08420001, v := 0x88880500 } 16 0 2 0)
  (tl { host with p := [(0, 0x00102020)], m := [(0, 0xFFFFFFFE)], v := [(0, 3), (17, 5)], dmem := [(0x102020, 9)] }))
theorem test_bundle : (sReg (tileOf body 0) 2, pReg (tileOf body 0) 0, (vReg (tileOf body 0) 16).toNat, accLane (tileOf body 0) 0 0)
    = (1, 0x0010201E, 9, 15) := by decide +kernel
/-- 12 R325, the example: the last bundle of the loop rotates by 1, so RRB 0 becomes 15 and the loop starts again. -/
theorem test_rotate : (let s := after (exec (.loopEnd 0 (alone false))
      (tl { host with pc := 32, l0 := { start := 32, end_ := 32, count := 15, act := true, rot := 1 } }))
    ((tileOf s 0).rrb, (tileOf s 0).pc, (tileOf s 0).l0.count)) = (15, 32, 14) := by decide +kernel
/-- 12 R319: ADDS saturates at 2^31 - 1 and sets VSAT; SUB wraps. -/
theorem test_adds : (let x := tileOf (after (exec (.adds 0 (alone true) 1 1 2) (tl { host with s := [(1, 0x7FFFFFFF), (2, 1)] }))) 0
    (sReg x 1, x.vsat)) = (0x7FFFFFFF, true) := by decide +kernel
theorem test_sub_wraps : (let x := tileOf (after (exec (.sub 0 (alone false) 1 0 2) (tl { host with s := [(2, 1)] }))) 0
    (sReg x 1, x.vsat)) = (0xFFFFFFFF, false) := by decide +kernel

/-- 00, the example to R11: VI 3 writes a reserved profile identifier to an object of access RWA. -/
theorem test_access_first : writeCheck (up .standby) 3 0x4010 1 0 1 0xFE = some .access := by decide +kernel
/-- 02, the example: in DEGRADED the reference fails; a lane that locks clears REF, and QUIET holds the module SILENT. -/
theorem test_reference_lost : (let s := after (exec .referenceLost (up .degraded))
    (s.mode.mode, s.mode.causeRef, s.time.valid)) = (.silent, true, false) := by decide +kernel
theorem test_quiet_stays : (let s := after (exec (.commaLock 0) { ln 0 { enabled := true, los := false, lol := false, commas := 3 } with
      mode := { mode := .silent, silentFrom := .degraded, causeRef := true, causeQuiet := true } })
    (s.mode.mode, s.mode.causeRef, s.mode.causeQuiet)) = (.silent, false, true) := by decide +kernel
/-- 04, the example: d is 198.4375 ticks, 3,175 sixteenths. -/
def aligned : Lane :=
  { locked := true, inbox := [(0x22, 0, 4, 0x13 * 65536 + 1200)], rxFrame := 0x13, rxCount := 1, arrivals := [(0x13, 65536006550)] }
theorem test_align : (let s := after (exec (.align 4 0 0x13 1200 4096000409) { ln 4 aligned with
      time := { (up .standby).time with airTime := 4096000000 } })
    ((laneOf s 4).delay, (laneOf s 4).delayKnown)) = (3175, true) := by decide +kernel
/-- 04 Table 4.5 and 05 R136, the example: a level 8.5 dB above the target lowers the gain from +10 dB to +4 dB, the limit. -/
theorem test_gain_step : (let s := after (exec (.headGainWindow 0) { setHead (ln 4 { locked := true, enabled := true, active := true }) 4 { serving := 4, identity := 0xEC * 256 ^ 3 + 0x3C * 256 ^ 2 } with
      settings := [(skey 0 0x4005 2 0, 1)]
      rx := { running := true, headGain := [(64, 20)], wideSum := [(64, (1, 120468461))] } })
    (s.rx.gainPending.map (fun g => (g.antenna, g.gain)))) = [(64, 8)] := by decide +kernel

/-- 08, the example: the touch at ledger second 312,026,400, here before a credit plan is assigned. -/
def slotA : State := { rolled with
  time := { (up .standby).time with ledger := 312026400 }
  settings := [(skey 0 0x6000 2 0, 256), (skey 0 0x6020 1 12, fromBE (octetsBE 4 55 ++ octetsBE 4 1200 ++ octetsBE 2 120 ++ octetsBE 4 2600 ++ octetsBE 2 40)),
               (skey 0 0x6021 1 3, fromBE (octetsBE 4 388 ++ octetsBE 2 12 ++ octetsBE 2 0))]
  roll := { entries := [(18301, { status := .active, identity := 0x70, tag := 0x3A910C44, keyh := 2, profile := 1, cmodel := 12, cplan := 3
                                  touch := 312004800, charge := 1843200, chfrac := 40000, credits := 12, crfrac := 9000000 })] } }
theorem test_touch : (let s := after (exec (.creditPlanAssign 0 18301 3) slotA)
    let e := entryOf s 18301
    let a := accountOf s 18301
    [e.charge, e.chfrac, e.credits, e.crfrac, e.touch, a.sleep, a.earned, a.forfeit])
    = [1843182, 31648, 12, 603584, 312026400, 1188000, 1, 1] := by decide +kernel
/-- 16, the example: 50 is granted against a budget of 40. -/
theorem test_grant_refused : (let s := after (exec (.grant 0 5 50) { rolled with roll := { rolled.roll with budgetLeft := [(0, 40)] } })
    (s.answer.status, (entryOf s 5).credits, budgetLeft s 0)) = (.noCredit, 50, 40) := by decide +kernel
/-- 11, the example: operation 41,201 reads BLOCK ATOMIC, and tile 13 takes operation 41,202. -/
def pool : PrefectUnit := { nodes := [(2, some { kind := .task, level := 6, target := 7 * 2 ^ 12 })], ops := [
  { opseq := 41200, node := 2, level := 6, cls := 1, flow := 0xF4B7, arg := 0, stage := .inService, lunit := 12, punit := 12 },
  { opseq := 41201, node := 2, level := 6, cls := 1, flow := 0xF4B7, arg := 0 }, { opseq := 41202, node := 2, level := 6, cls := 1, flow := 0xFBB1, arg := 0 }] }
theorem test_dispatch : (let s := after (exec (.dispatch 13) { setTile State.reset 13 { host with accept := true, waiting := true } with prefect := pool })
    ((tileOf s 13).curOpseq, s.prefect.ops.map (fun o => (o.opseq, o.stage, o.lunit))))
    = (41202, [(41200, .inService, 12), (41201, .ready, 0), (41202, .inService, 13)]) := by decide +kernel
/-- 10, the example: the build takes DCNT 4,411. -/
theorem test_dcnt : (let s := after (exec (.ccmDownlinkBuild 5 0x8000 1 true) (setEngine
      { keyed with roll := { entries := [(18301, { status := .active, identity := 0x00415A000002C7E1, keyh := 1, dcnt := 4411, profile := 1 })] } }
      5 { pass := 0x8000, keysel := 18301, iv := [0x00, 0x60] }))
    ((engineOf s 5).cntUsed, (entryOf s 18301).dcnt, (engineOf s 5).run.isSome)) = (4411, 4412, true) := by decide +kernel
/-- 17, the example: one RS-485 request writes QUIET and reads the emergency status, which shows it. -/
def emergency : State := { keyed with
  settings := [(skey 0 0x3000 1 0, 0)]
  mode := { mode := .degraded }
  time := { (up .standby).time with loopLock := true }
  power := { sealResult := 0 }
  prefect := { standFor := [(17, unitTile 17)], phys := [(17, 48)] }
  fault := { (up .standby).fault with detention := [.unit (unitTile 17) 1], major := true } }
def emergencyAsk : Datagram :=
  let b := octetsBE 2 0x0101 ++ [2, 0] ++ readItem 0xF000 1 0 ++ writeItem 0xF000 2 0 1
  let m := [1, 1, 0, 0] ++ octetsBE 6 0x431 ++ octetsBE 2 b.length ++ b
  { port := 2, octets := m ++ (aesCmac kek m).take 8 }
theorem test_emergency_message : (emergencyAsk.octets.length, (emergencyAsk.octets.drop 10).take 2) = (49, [0x00, 0x1D]) := by decide +kernel
theorem test_emergency : (match (after (exec (.request emergencyAsk none {}) emergency)).outbox with
    | .reply 2 0 0 0 1 0x0101 1 1 [(.ok, 32, v), (.ok, 0, 0)] _ :: _ => v / 256 ^ 24
    | _ => 0) = 0x0502_0001_0A_02_04_00 := by decide +kernel
/-- 14 R370: one tick on an empty queue. -/
theorem test_tick : (let s := after (step { up .standby with time := { (up .standby).time with airTime := 31, careUs := 7, careFrac := 28 } })
    (s.time.airTime, s.time.careUs, s.time.careFrac)) = (32, 8, 1) := by decide +kernel
/-- 03 R68, the example: a dip increments 0x2020:05. -/
theorem test_dip : (after (exec .mainsDip { up .service with power := { mains := true, dips := 4 } })).power.dips = 5 := by decide +kernel

end Sys2Proof.Tests
end

section
/-! O20 (00 R468): every command keeps the device-wide sequences away from their reserved numbers. `keeps` already holds of
every shared operation; here it is brought up to the commands, chapter by chapter, then to `exec`, then to `step`. -/

namespace Sys2Proof.Machine

open Sys2Proof.Safety

/-! ### Shapes that many commands have -/

/-- A checked object write, where the rule that owns the object keeps what `keeps` says. -/
theorem objectWrite_keeps {vi idx sub el len v : Nat} {f : State → State × Status} {s : State}
    (hf : ∀ y, keeps s y → keeps s (f y).1) : nextKeeps s (answered (checkedWrite vi idx sub el len v f s)) :=
  .answered (checkedWrite_keeps _ _ _ _ _ _ _ hf (.refl s))
/-- A message taken from a lane's inbox touches that lane alone. -/
theorem takeMsg_keeps {s0 s u : State} {l type len : Nat} {named : Nat → Nat → Bool} (h0 : keeps s0 s)
    (e : takeMsg l type len named s = some u) : keeps s0 u := by
  obtain ⟨m, -, rfl⟩ := Option.map_eq_some_iff.mp e
  exact modLane_keeps _ _ h0
/-- A message from the cascade, where what it does to the member it reaches keeps what `keeps` says. -/
theorem cascade_keeps {east : Bool} {src dst type : Nat} {fields : List (Nat × Nat)} {take : State → State} {s : State}
    (hf : ∀ y, keeps s y → keeps s (take y)) : nextKeeps s (.next (receiveCascade east src dst type fields take s)) :=
  .next (receiveCascade_keeps _ _ _ _ _ _ hf (.refl s))
theorem nextKeeps.unchanged (s : State) : nextKeeps s (.next s) := .next (.refl s)

/-! ### Updates of one unit that issue no sequence number -/

section
variable {s u : State} (h : keeps s u)
include h
theorem keeps.mode (x : ModeUnit) : keeps s { u with mode := x } := h.of_part rfl
theorem keeps.power (x : PowerUnit) : keeps s { u with power := x } := h.of_part rfl
theorem keeps.time (x : TimeUnit) : keeps s { u with time := x } := h.of_part rfl
theorem keeps.rx (x : RxUnit) : keeps s { u with rx := x } := h.of_part rfl
theorem keeps.prefect (x : PrefectUnit) : keeps s { u with prefect := x } := h.of_part rfl
theorem keeps.pace (x : PaceUnit) : keeps s { u with pace := x } := h.of_part rfl
theorem keeps.stack (x : StackUnit) : keeps s { u with stack := x } := h.of_part rfl
/-- An update of the fault unit that issues no ESEQ. -/
theorem keeps.fault {x : FaultUnit} (e : x.nextEseq = u.fault.nextEseq) : keeps s { u with fault := x } :=
  h.of_part (by simp only [keptPart, e])
/-- An update of the mesh that writes none of its memories. -/
theorem keeps.mesh {x : MeshUnit} (e : x.mem = u.mesh.mem) : keeps s { u with mesh := x } :=
  h.of_part (by simp only [keptPart, e])
/-- An update of Molfen that issues no TSEQ. -/
theorem keeps.molfen {x : MolfenUnit} (e : x.nextTseq = u.molfen.nextTseq) : keeps s { u with molfen := x } :=
  h.of_part (by simp only [keptPart, e])
/-- An update of Sweep that issues no DSEQ. -/
theorem keeps.sweep {x : SweepUnit} (e : x.nextDseq = u.sweep.nextDseq) (er : x.dseqReserved = u.sweep.dseqReserved) :
    keeps s { u with sweep := x } := h.of_part (by simp only [keptPart, e, er])
/-- An update of the downlink that issues no RQID. -/
theorem keeps.tx {x : TxUnit} (e : x.nextRqid = u.tx.nextRqid) (er : x.rqidReserved = u.tx.rqidReserved) :
    keeps s { u with tx := x } := h.of_part (by simp only [keptPart, e, er])
end

/-! ### Cipher engines (10) -/

theorem execHallPassRead_keeps (e who) (s : State) : nextKeeps s (execHallPassRead e who s) :=
  .ite (.next (answerOf_keeps _ _ (readPass_keeps _ _ (.refl s)))) (.unchanged s)
theorem execForcedRelease_keeps (e who) (s : State) : nextKeeps s (execForcedRelease e who s) :=
  .ite (.answered (forceRelease_keeps _ (.refl s))) (.answered (.refl s))
theorem execHoldLimitExpiry_keeps (e) (s : State) : nextKeeps s (execHoldLimitExpiry e s) :=
  .ite (.next (forceRelease_keeps _ (.refl s))) (.unchanged s)

/-! ### Downlink (09) -/

theorem execDownlinkRequest_keeps (vi len v) (s : State) : nextKeeps s (execDownlinkRequest vi len v s) := by
  unfold execDownlinkRequest
  split
  · exact .next (answering_keeps _ (.refl s))
  · exact .next (answerOf_keeps _ _ (downlinkRequest_keeps _ _ _ (.refl s)))
theorem execCoefficientSetWrite_keeps (vi selection el v) (s : State) :
    nextKeeps s (execCoefficientSetWrite vi selection el v s) := by
  cases selection <;> exact objectWrite_keeps fun _ h => writeCoefficients_keeps _ _ _ h
theorem execDutyBucketWrite_keeps (vi depth h v) (s : State) : nextKeeps s (execDutyBucketWrite vi depth h v s) := by
  cases depth <;> exact objectWrite_keeps fun _ h => writeDuty_keeps _ _ _ h
theorem execBuildDeadline_keeps (rqid) (s : State) : nextKeeps s (execBuildDeadline rqid s) := by
  unfold execBuildDeadline
  split
  · exact .ite (.unchanged s) (.next (removeBurst_keeps _ (advanceTo_keeps _ (.refl s))))
  · exact .unchanged s
theorem execBurstStart_keeps (rqid airTime) (s : State) : nextKeeps s (execBurstStart rqid airTime s) := by
  have h : keeps s (advanceTo airTime s) := advanceTo_keeps _ (.refl s)
  unfold execBurstStart
  dsimp only
  split
  · exact .ite (.next h) (.ite (.next (removeBurst_keeps _ h)) (.next (startBurst_keeps _ h)))
  · exact .next h
theorem execBurstEnd_keeps (rqid) (s : State) : nextKeeps s (execBurstEnd rqid s) := by
  unfold execBurstEnd
  split
  case h_2 => exact .unchanged s
  case h_1 b _ =>
    refine .ite (.next (endAttempt_keeps _ _ _ _ _ _ _ ?_)) (.unchanged s)
    split
    · exact putSetting_keeps _ _ _ _ _ (dropBurst_keeps _ ((advanceTo_keeps _ (.refl s)).tx rfl rfl))
    · exact dropBurst_keeps _ ((advanceTo_keeps _ (.refl s)).tx rfl rfl)
theorem execMaskBlockEnd_keeps (r airTime) (s : State) : nextKeeps s (execMaskBlockEnd r airTime s) := by
  have h : keeps s (advanceTo (max (256 * (r + 1)) airTime) s) := advanceTo_keeps _ (.refl s)
  unfold execMaskBlockEnd
  dsimp only
  split
  · exact .ite (.next h) (.next (judgeBlock_keeps _ _ h))
  · exact .next (judgeBlock_keeps _ _ h)

/-! ### Domains (14) -/

theorem execIdleDelayExpiry_keeps (d) (s : State) : nextKeeps s (execIdleDelayExpiry d s) :=
  .next (.ite (setDomain_keeps _ _ (.refl s)) (.refl s))
theorem execPortClosed_keeps (d) (s : State) : nextKeeps s (execPortClosed d s) :=
  .ite (.next (.ite (sleepDomain_keeps _ (setDomain_keeps _ _ (.refl s))) (setDomain_keeps _ _ (.refl s)))) (.unchanged s)
theorem execWakeComplete_keeps (d poison airTime) (s : State) : nextKeeps s (execWakeComplete d poison airTime s) := by
  have h : keeps s (advanceTo airTime s) := advanceTo_keeps _ (.refl s)
  exact .ite (.ite (.next (settle_keeps (fenceUnit_keeps _ _ (errRecord_keeps _ (setDomain_keeps _ _ h)))))
    (.next (setDomain_keeps _ _ (.ite (wakeDomain_keeps _ h) h)))) (.next h)

/-! ### Power and modes (02, 03) -/

theorem execAuxiliaryRailValid_keeps (f) (s : State) : nextKeeps s (execAuxiliaryRailValid f s) :=
  .ite (.next (startBoot_keeps _ _ _ (.refl s))) (.unchanged s)
theorem execBootPass_keeps (mJ slow) (s : State) : nextKeeps s (execBootPass mJ slow s) := by
  have h : keeps s (storeCharged mJ s) := storeCharged_keeps _ (.refl s)
  exact .ite (.next (passBoot_keeps (.ite (refreshCard_keeps _ (errRecord_keeps _ h)) h))) (.unchanged s)
theorem execHoldupChargeTimeout_keeps (mJ) (s : State) : nextKeeps s (execHoldupChargeTimeout mJ s) :=
  .ite (.next (bootFails_keeps _ (storeCharged_keeps _ (.refl s)))) (.unchanged s)
theorem execMainsDip_keeps (s : State) : nextKeeps s (execMainsDip s) :=
  .ite (.next (.power (.refl s) _)) (.unchanged s)
theorem execMainsLoss_keeps (s : State) : nextKeeps s (execMainsLoss s) := by
  unfold execMainsLoss
  split
  · exact .unchanged s
  · exact .ite (.next (lastGasp_keeps _ (.of_part (.refl s) rfl))) (.next (lossInBoot_keeps (.refl s)))
  · exact .next (.power (.refl s) _)
  · exact .next (lastGasp_keeps _ (.refl s))
theorem execMainsLossBeforeStep7_keeps (s : State) : nextKeeps s (execMainsLossBeforeStep7 s) :=
  .ite (.next (lossInBoot_keeps (.refl s))) (.unchanged s)
/-- Every lane is dropped: what the end of a last gasp begins with. -/
theorem dropEveryLane_keeps (s : State) : keeps s ((List.range 20).foldl (fun t l => dropLane l t) s) :=
  .foldl _ _ (.refl s) fun _ _ h => dropLane_keeps _ h
theorem execSealComplete_keeps (mains energy duration f) (s : State) :
    nextKeeps s (execSealComplete mains energy duration f s) := by
  have h := dropEveryLane_keeps s
  exact .ite (.ite (.next (startBoot_keeps _ _ _ (writeSeal_keeps _ _ (drainStaging_keeps h))))
    (.next (.power (dropTimebase_keeps (writeSeal_keeps _ _ (drainStaging_keeps (transition_keeps _ _ h)))) _))) (.unchanged s)
theorem execHoldupExhausted_keeps (s : State) : nextKeeps s (execHoldupExhausted s) := by
  have h := dropTimebase_keeps (dropEveryLane_keeps s)
  unfold execHoldupExhausted
  generalize dropTimebase ((List.range 20).foldl (fun t l => dropLane l t) s) = u at h ⊢
  exact .ite (.next (h.of_part rfl)) (.unchanged s)
theorem execHoldupCapacityTest_keeps (mJ) (s : State) : nextKeeps s (execHoldupCapacityTest mJ s) := by
  have h : keeps s { s with power := { s.power with capacity := min mJ 65535 } } := .power (.refl s) _
  exact .ite (.unchanged s) (.ite (.next (settle_keeps (refreshCard_keeps _ (errRecord_keeps _ h)))) (.next h))
theorem execThermalLimit_keeps (m junction) (s : State) : nextKeeps s (execThermalLimit m junction s) := by
  have h : keeps s { s with power := { s.power with
      baseplate := m.base, junction := junction, voltage := min m.voltage 65535, powerDrawn := min m.power 65535
      holdup := min m.holdup 65535 } } := .power (.refl s) _
  have hb := keeps.ite (c := 850 < m.base) (errRecord_keeps
    { unit := unitCaretaker, code := .thermal, severity := .major, detail := ofSigned 32 m.base } h) h
  exact .ite (.unchanged s) (.next (settle_keeps (.ite (escalateWith_keeps _ hb) hb)))
theorem execServiceEntry_keeps (s : State) : nextKeeps s (execServiceEntry s) :=
  .ite (.next (settle_keeps (enterService_keeps (.refl s)))) (.unchanged s)
theorem execEscalationToSafe_keeps (cause unit) (s : State) : nextKeeps s (execEscalationToSafe cause unit s) := by
  have h (c : Prop) [Decidable c] : keeps s (if c then { listFence unit (nextEseq s) s with
      fault := { (listFence unit (nextEseq s) s).fault with dramFenced := true } } else s) :=
    .ite (.fault (listFence_keeps _ _ (.refl s)) rfl) (.refl s)
  exact .ite (.unchanged s) (.next (settle_keeps (escalateWith_keeps _ (.ite (.pace (h _) _) (h _)))))

/-! ### The Prefect (11) -/

theorem execTokenArrival_keeps (port flow arg) (s : State) : nextKeeps s (execTokenArrival port flow arg s) :=
  .next (.ite (raisePort_keeps _ _ (.refl s)) (.ite (raiseToken_keeps _ _ _ (.refl s)) (raiseToken_keeps _ _ _ (.refl s))))
theorem execDispatch_keeps (u) (s : State) : nextKeeps s (execDispatch u s) := by
  unfold execDispatch
  split
  · exact .unchanged s
  · refine .ite (.unchanged s) ?_
    split
    · exact .unchanged s
    · exact .ite (.next (completeWaitop_keeps _ _ (serve_keeps _ _ _ (.refl s)))) (.next (serve_keeps _ _ _ (.refl s)))
theorem execHostctlWrite_keeps (t v) (s : State) : nextKeeps s (execHostctlWrite t v s) :=
  .ite (.unchanged s) (.ite (.next (answering_keeps _ (.refl s)))
    (.next (answering_keeps _ (windowWrite_keeps _ _ _ (.refl s)))))
theorem execAccelOperationDone_keeps (u out) (s : State) : nextKeeps s (execAccelOperationDone u out s) := by
  unfold execAccelOperationDone
  split
  · exact .unchanged s
  · refine .next (completeOp_keeps _ (.foldl _ _ (.refl s) fun y x h => ?_))
    split
    · exact .ite (emitInto_keeps _ _ _ _ _ h) h
    · exact h
theorem execDispatchMapWrite_keeps (vi l v) (s : State) : nextKeeps s (execDispatchMapWrite vi l v s) :=
  .next (settle_keeps (answering_keeps _ (checkedWrite_keeps _ _ _ _ _ _ _ (fun _ h => writeMap_keeps _ _ h) (.refl s))))
theorem execDrainLimitExpiry_keeps (l) (s : State) : nextKeeps s (execDrainLimitExpiry l s) := by
  have h : keeps s { s with prefect := { s.prefect with drainEnded := bump s.prefect.drainEnded l } } :=
    .prefect (.refl s) _
  unfold execDrainLimitExpiry
  split
  · exact .unchanged s
  · exact .ite (.next (.ite (takeStop_keeps _ (emit_keeps _ h)) (trapOp_keeps _ h))) (.unchanged s)

/-! ### Lanes and heads (04) -/

theorem execLaneEnable_keeps (l) (s : State) : nextKeeps s (execLaneEnable l s) :=
  .ite (.next (enableLane_keeps _ (.refl s))) (.unchanged s)
theorem execClockRecovered_keeps (l) (s : State) : nextKeeps s (execClockRecovered l s) :=
  .ite (.unchanged s) (.next (modLane_keeps _ _ (.refl s)))
theorem execCommaLock_keeps (l) (s : State) : nextKeeps s (execCommaLock l s) := by
  have h (x : Lane) : keeps s (setLane s l x) := setLane_keeps _ _ (.refl s)
  exact .ite (.next (settle_keeps (.ite (.mode (h _) _) (h _)))) (.unchanged s)
theorem execLaneFrameReceived_keeps (l codes arr16) (s : State) : nextKeeps s (execLaneFrameReceived l codes arr16 s) := by
  have h : keeps s (advanceTo (arr16 / 16) s) := advanceTo_keeps _ (.refl s)
  exact .ite (.unchanged s) (.ite (.next (settle_keeps (receiveFrame_keeps _ _ _ h)))
    (.ite (.next (settle_keeps (huntFrame_keeps _ _ (loseFrame_keeps _ h)))) (.next (huntFrame_keeps _ _ h))))
theorem execLossOfFrame_keeps (l) (s : State) : nextKeeps s (execLossOfFrame l s) :=
  .ite (.next (settle_keeps (loseFrame_keeps _ (.refl s)))) (.unchanged s)
theorem execLossOfSignal_keeps (l los lol) (s : State) : nextKeeps s (execLossOfSignal l los lol s) :=
  .ite (.next (settle_keeps (modLane_keeps _ _ (.ite (failLane_keeps _ _ (.refl s)) (.refl s))))) (.unchanged s)
theorem execSignalRestored_keeps (l) (s : State) : nextKeeps s (execSignalRestored l s) :=
  .ite (.next (modLane_keeps _ _ (.refl s))) (.unchanged s)
theorem execHeadid_keeps (l body) (s : State) : nextKeeps s (execHeadid l body s) := by
  unfold execHeadid
  split
  case h_2 => exact .unchanged s
  case h_1 u e =>
    have h := answerQuery_keeps l 0x20 (takeMsg_keeps (.refl s) e)
    refine .next (settle_keeps ?_)
    split
    · exact modHead_keeps _ _ (modLane_keeps _ _ h)
    · exact modLane_keeps _ _ h
theorem execHeadstat_keeps (l body) (s : State) : nextKeeps s (execHeadstat l body s) := by
  unfold execHeadstat
  split
  case h_2 => exact .unchanged s
  case h_1 u e =>
    have h := answerQuery_keeps l 0x21 (takeMsg_keeps (.refl s) e)
    refine .next ?_
    split
    · exact modHead_keeps _ _ h
    · exact h
theorem execAlign_keeps (l q u delta airTime) (s : State) : nextKeeps s (execAlign l q u delta airTime s) := by
  unfold execAlign
  split
  case h_1 v e => exact .next (settle_keeps (takeAlign_keeps _ _ _ _ (takeMsg_keeps (advanceTo_keeps _ (.refl s)) e)))
  case h_2 => exact .unchanged s
theorem execReply_keeps (l ty seq status airTime) (s : State) : nextKeeps s (execReply l ty seq status airTime s) := by
  unfold execReply
  split
  case h_1 u e =>
    have h := takeMsg_keeps (advanceTo_keeps _ (.refl s)) e
    exact .ite (.next (.ite (ackDirectory_keeps h) h)) (.next (settle_keeps (takeReply_keeps _ _ _ _ h)))
  case h_2 => exact .unchanged s
theorem execTapreq_keeps (l seq post up) (s : State) : nextKeeps s (execTapreq l seq post up s) := by
  unfold execTapreq
  dsimp only
  split
  case h_1 u e => exact .next (modLane_keeps _ _ (applyTap_keeps _ (takeMsg_keeps (.refl s) e)))
  case h_2 => exact .unchanged s
theorem execTaprep_keeps (l seq result value) (s : State) : nextKeeps s (execTaprep l seq result value s) := by
  unfold execTaprep
  split
  case h_2 => exact .unchanged s
  case h_1 u e =>
    have h := takeMsg_keeps (.refl s) e
    dsimp only
    split
    · exact .ite (.next (setLane_keeps _ _ h)) (.next h)
    · exact .next h
theorem execTapAdaptation_keeps (l post up) (s : State) : nextKeeps s (execTapAdaptation l post up s) := by
  refine .ite ?_ (.unchanged s)
  split
  · exact .next (modLane_keeps _ _ (sendTapreq_keeps _ _ _ (.refl s)))
  · exact .ite (.next (sendTapreq_keeps _ _ _ (.refl s))) (.unchanged s)
theorem execTapreqAbandoned_keeps (l) (s : State) : nextKeeps s (execTapreqAbandoned l s) := by
  unfold execTapreqAbandoned
  dsimp only
  split
  · exact .ite (.next (setLane_keeps _ _ (.refl s))) (.unchanged s)
  · exact .unchanged s
theorem execCommandResend_keeps (l seq) (s : State) : nextKeeps s (execCommandResend l seq s) := by
  unfold execCommandResend
  dsimp only
  split
  · exact .unchanged s
  · exact .ite (.next (queueMsg_keeps _ _ _ _ _ (setLane_keeps _ _ (.refl s))))
      (.next (settle_keeps (laneError_keeps _ (setLane_keeps _ _ (.refl s)))))
theorem execCrcAlarmEvaluation_keeps (l) (s : State) : nextKeeps s (execCrcAlarmEvaluation l s) := by
  have h (x : Lane) : keeps s (setLane s l x) := setLane_keeps _ _ (.refl s)
  unfold execCrcAlarmEvaluation
  dsimp only
  split
  · split
    · exact .ite (.next (settle_keeps (switchToSpare_keeps _ _ (dropHead_keeps _ (h _))))) (.next (settle_keeps (h _)))
    · exact .next (settle_keeps (h _))
  · exact .next (settle_keeps (h _))
theorem execSwitchoverDeadline_keeps (h) (s : State) : nextKeeps s (execSwitchoverDeadline h s) :=
  .ite (.next (settle_keeps (modHead_keeps _ _ (.refl s)))) (.unchanged s)
theorem execCageInsertion_keeps (c ok identity) (s : State) : nextKeeps s (execCageInsertion c ok identity s) := by
  have hc (x : Cage) : keeps s (setCage s c x) := setCage_keeps _ _ (.refl s)
  have h (x : Cage) (f : Lane → Lane) : keeps s (if c.val < 20 then modLane (setCage s c x) c f else setCage s c x) :=
    .ite (modLane_keeps _ _ (hc x)) (hc x)
  exact .ite (.unchanged s) (.ite (.next (.ite (enableLane_keeps _ (h _ _)) (h _ _)))
    (.next (settle_keeps (errRecord_keeps _ (h _ _)))))
theorem execCageRemoval_keeps (c) (s : State) : nextKeeps s (execCageRemoval c s) := by
  have h : keeps s (setCage s c { cageOf s c with present := false, txDisable := false }) := setCage_keeps _ _ (.refl s)
  exact .ite (.next (settle_keeps (modLane_keeps _ _ (.ite (failLane_keeps _ _ h) h)))) (.next (.molfen h rfl))
theorem execCageDiagnosticsRead_keeps (c diag) (s : State) : nextKeeps s (execCageDiagnosticsRead c diag s) :=
  .ite (.next (setCage_keeps _ _ (.refl s))) (.unchanged s)
theorem execLaneFrameSend_keeps (l airTime) (s : State) : nextKeeps s (execLaneFrameSend l airTime s) := by
  have h (x : Lane) : keeps s (setLane (applyTap l (advanceTo airTime s)) l x) :=
    setLane_keeps _ _ (applyTap_keeps _ (advanceTo_keeps _ (.refl s)))
  have hb (x : Lane) (c : Prop) [Decidable c] (east : Bool) := keeps.ite (c := c) (sendBeat_keeps east (h x)) (h x)
  exact .ite (.next (emitFrame_keeps _ _ (.ite (sendTime_keeps _ _ _ _ (hb _ _ _)) (hb _ _ _)))) (.unchanged s)

/-! ### Time (14) -/

theorem execReferenceLost_keeps (s : State) : nextKeeps s (execReferenceLost s) := by
  unfold execReferenceLost
  split
  · exact .unchanged s
  · exact .unchanged s
  · exact .ite (.next (settle_keeps (errRecord_keeps _ ((losing_keeps (.refl s)).time _)))) (.next (.time (.refl s) _))
theorem execReferenceQualified_keeps (s : State) : nextKeeps s (execReferenceQualified s) :=
  .ite (.next (.time (.refl s) _)) (.unchanged s)
theorem execTimebaseValid_keeps (s : State) : nextKeeps s (execTimebaseValid s) := by
  unfold execTimebaseValid
  split
  · exact .unchanged s
  · exact .unchanged s
  · exact .ite (.next (settle_keeps (validTimebase_keeps (.refl s)))) (.unchanged s)
theorem execBellFire_keeps (b at_) (s : State) : nextKeeps s (execBellFire b at_ s) :=
  .ite (.next (settle_keeps (fireBell_keeps _ _ (advanceTo_keeps _ (.refl s))))) (.unchanged s)
theorem execPaceWindowEnd_keeps (counts) (s : State) : nextKeeps s (execPaceWindowEnd counts s) := by
  refine .ite (.unchanged s) (.next (settle_keeps (.foldl _ _ (.refl s) fun y i h => ?_)))
  split
  · exact paceIsland_keeps _ _ h
  · exact h
theorem execLedgerSecond_keeps (s : State) : nextKeeps s (execLedgerSecond s) :=
  .ite (.unchanged s) (.next (.of_part (.refl s) rfl))
theorem execPaceTimerFire_keeps (t at_) (s : State) : nextKeeps s (execPaceTimerFire t at_ s) :=
  .ite (.next (.foldl _ _ (setTimer_keeps _ _ (markFired_keeps _ _ (advanceTo_keeps _ (.refl s))))
    fun _ _ h => channelEvent_keeps _ h)) (.unchanged s)
theorem execTime_keeps (l airTime d since16) (s : State) : nextKeeps s (execTime l airTime d since16 s) := by
  unfold execTime
  split
  case h_2 => exact .unchanged s
  case h_1 u e =>
    have h := takeMsg_keeps (.refl s) e
    refine .ite ?_ (.next h)
    split
    · exact .next h
    · exact .next h
    · exact .ite (.next (advanceTo_keeps _ h)) (.ite (.next (settle_keeps (validTimebaseAt_keeps _ _ h))) (.next h))

/-! ### The receive chain (05) -/

theorem execCalibrationCopyDone_keeps (t) (s : State) : nextKeeps s (execCalibrationCopyDone t s) :=
  .ite (.next (setSwapTable_keeps _ _ (.refl s))) (.unchanged s)
theorem execBinSample_keeps (n airTime poison) (s : State) : nextKeeps s (execBinSample n airTime poison s) := by
  have h : keeps s (advanceTo (max (256 * n) airTime) s) := advanceTo_keeps _ (.refl s)
  exact .ite (.next (pruneReceive_keeps _ (floorSample_keeps _ (poisonWords_keeps _ (settleHits_keeps
    (.foldl _ _ (storeBins_keeps _ (.ite (endFloorPeriod_keeps h) h)) fun _ _ k => groupStreams_keeps _ _ k)))))) (.unchanged s)
theorem execHeadGainWindow_keeps (airTime) (s : State) : nextKeeps s (execHeadGainWindow airTime s) :=
  .ite (.next (.rx (.foldl _ _ (advanceTo_keeps _ (.refl s)) fun _ _ h => gainWindow_keeps _ h) _)) (.unchanged s)
theorem execFloorPeriodEnd_keeps (first count airTime) (s : State) : nextKeeps s (execFloorPeriodEnd first count airTime s) :=
  .ite (.next (endFloorPeriod_keeps (advanceTo_keeps _ (.refl s)))) (.unchanged s)

/-! ### Detections and captures (06, 07) -/

theorem execDetectionRaised_keeps (p beam bin peakAt airTime) (s : State) :
    nextKeeps s (execDetectionRaised p beam bin peakAt airTime s) := by
  unfold execDetectionRaised
  split
  · exact .ite (.next (raiseDetection_keeps _ (advanceTo_keeps _ (.refl s)))) (.unchanged s)
  · exact .unchanged s
theorem execAdmissionRound_keeps (r) (s : State) : nextKeeps s (execAdmissionRound r s) :=
  .ite (.next (admissionRound_keeps _ (advanceTo_keeps _ (.refl s)))) (.unchanged s)
theorem execCaptureWeightsReady_keeps (c poison branches airTime) (s : State) :
    nextKeeps s (execCaptureWeightsReady c poison branches airTime s) := by
  have h : keeps s (advanceTo airTime s) := advanceTo_keeps _ (.refl s)
  unfold execCaptureWeightsReady
  dsimp only
  split
  · exact .ite (.next (endCapture_keeps _ _ h)) (.ite (.next (takeWeights_keeps _ _ _ (poisonWords_keeps _ h))) (.next h))
  · exact .next h
theorem execCaptureBlockComplete_keeps (c poison branches) (s : State) :
    nextKeeps s (execCaptureBlockComplete c poison branches s) := by
  unfold execCaptureBlockComplete
  dsimp only
  split
  · exact .ite (.unchanged s) (.ite (.next (endCapture_keeps _ _ (.refl s)))
      (.ite (.next (overrun_keeps _ (.refl s))) (.next (takeBlock_keeps _ _ _ (poisonWords_keeps _ (.refl s))))))
  · exact .unchanged s
theorem execCaptureRingOverrun_keeps (c) (s : State) : nextKeeps s (execCaptureRingOverrun c s) :=
  .ite (.next (overrun_keeps _ (.refl s))) (.unchanged s)
theorem execWeightRecompute_keeps (c q) (s : State) : nextKeeps s (execWeightRecompute c q s) := by
  unfold execWeightRecompute
  dsimp only
  split
  · exact .ite (.next (answering_keeps _ (.refl s))) (.ite (.next (answering_keeps _ (.refl s)))
      (.next (answering_keeps _ (setCapture_keeps _ _ (.refl s)))))
  · exact .unchanged s
theorem execTagAndFcntCommitted_keeps (c q airTime) (s : State) : nextKeeps s (execTagAndFcntCommitted c q airTime s) := by
  have h : keeps s (advanceTo airTime s) := advanceTo_keeps _ (.refl s)
  unfold execTagAndFcntCommitted
  dsimp only
  split
  · exact .next (earlyWork_keeps _ _ (setCapture_keeps _ _ h))
  · exact .next h
theorem execCaptureClose_keeps (c abandoned q airTime) (s : State) :
    nextKeeps s (execCaptureClose c abandoned q airTime s) := by
  have h : keeps s (advanceTo airTime s) := advanceTo_keeps _ (.refl s)
  unfold execCaptureClose
  dsimp only
  split
  · exact .next (.ite (closeCapture_keeps _ _ (earlyWork_keeps _ _ (setCapture_keeps _ _ h)))
      (earlyWork_keeps _ _ (setCapture_keeps _ _ h)))
  · exact .next h
theorem execLifeLimit_keeps (c airTime) (s : State) : nextKeeps s (execLifeLimit c airTime s) := by
  have h : keeps s (advanceTo airTime s) := advanceTo_keeps _ (.refl s)
  unfold execLifeLimit
  dsimp only
  split
  · exact .ite (.next (endCapture_keeps _ _ (h.sweep rfl rfl))) (.next h)
  · exact .next h
theorem execHistoryOverwritten_keeps (pending id) (s : State) : nextKeeps s (execHistoryOverwritten pending id s) := by
  refine .ite ?_ ?_
  · split
    · exact .ite (.next (refuseRequest_keeps _ _ _ (.refl s))) (.unchanged s)
    · exact .unchanged s
  · dsimp only
    split
    · exact .ite (.next (endCapture_keeps _ _ (.refl s))) (.unchanged s)
    · exact .ite (.next (endCapture_keeps _ _ (.refl s))) (.unchanged s)
    · exact .unchanged s
theorem execVerdictIssued_keeps (c latency crowd) (s : State) : nextKeeps s (execVerdictIssued c latency crowd s) := by
  unfold execVerdictIssued
  dsimp only
  split
  · exact .ite (.unchanged s) (.next (settle_keeps (releaseCapture_keeps _ _ _ (issueVerdict_keeps _ _ _ _ _ _ (.refl s)))))
  · exact .unchanged s

/-! ### Faults (15) -/

theorem execScrub_keeps (unit alwaysOn corrected bad) (s : State) : nextKeeps s (execScrub unit alwaysOn corrected bad s) :=
  .ite (.next (settle_keeps (scrub_keeps _ _ _ _ (.refl s)))) (.unchanged s)
theorem execErrorRecordHandlingLimit_keeps (eseq) (s : State) : nextKeeps s (execErrorRecordHandlingLimit eseq s) := by
  unfold execErrorRecordHandlingLimit
  split
  · exact .ite (.next (settle_keeps (escalateWith_keeps _ (closeErr_keeps _ _ (.refl s))))) (.unchanged s)
  · exact .unchanged s
theorem execOfficeHeartbeatLoss_keeps (s : State) : nextKeeps s (execOfficeHeartbeatLoss s) := by
  unfold execOfficeHeartbeatLoss
  split
  · exact .next (settle_keeps (pairFails_keeps _ _ (.refl s)))
  · exact .unchanged s
theorem execOfficeFailover_keeps (s : State) : nextKeeps s (execOfficeFailover s) := by
  unfold execOfficeFailover
  split
  · exact .next (settle_keeps (failover_keeps _ (.refl s)))
  · exact .unchanged s
theorem execOfficePairReloadAndTest_keeps (p pass) (s : State) : nextKeeps s (execOfficePairReloadAndTest p pass s) := by
  have h : keeps s (setOffice s p .standby) := setOffice_keeps _ _ (.refl s)
  unfold execOfficePairReloadAndTest
  split
  · exact .ite (.next (settle_keeps (refreshCard_keeps _ (undetain_keeps _ h)))) (.unchanged s)
  · exact .ite (.next (settle_keeps h)) (.unchanged s)
  · exact .unchanged s
theorem execSubstituteTest_keeps (p pass) (s : State) : nextKeeps s (execSubstituteTest p pass s) := by
  unfold execSubstituteTest
  split
  · exact .ite (.ite (.next (.prefect (.refl s) _)) (.next (settle_keeps (failTest_keeps _ _ (.refl s))))) (.unchanged s)
  · exact .unchanged s
theorem execReportCardUpdate_keeps (life airTime) (s : State) : nextKeeps s (execReportCardUpdate life airTime s) := by
  have h : keeps s (allUnits.foldl (fun t u => hourCard life u t) (advanceTo airTime s)) :=
    .foldl _ _ (advanceTo_keeps _ (.refl s)) fun _ _ k => hourCard_keeps _ _ k
  exact .next (settle_keeps (.foldl _ _ (h.fault rfl) fun _ _ k => ageIsland_keeps _ _ k))
theorem execPrefectWatchdog_keeps (s : State) : nextKeeps s (execPrefectWatchdog s) :=
  .ite (.next (settle_keeps (escalateWith_keeps _ (.refl s)))) (.unchanged s)

/-! ### The mesh and the Movers (13) -/

theorem execMeshRequest_keeps (type init tid addr len age data dataErr fixed) (s : State) :
    nextKeeps s (execMeshRequest type init tid addr len age data dataErr fixed s) := by
  have h (f : Flit) (good : Bool) : keeps s (countCorrected fixed (passRequest f good s)) :=
    countCorrected_keeps _ (passRequest_keeps _ _ (.refl s))
  exact .ite (.unchanged s) (.ite (.unchanged s) (.ite (.unchanged s) (.ite
    (.next (.ite ((h _ _).time _) (addOutstanding_keeps _ _ _ (h _ _))))
    (.ite (.next (postedWrite_keeps _ _ _ _ (h _ _))) (.next (serveRequest_keeps _ _ _ _ (h _ _)))))))
theorem execMeshResponse_keeps (init tid dataErr elem fixed) (s : State) :
    nextKeeps s (execMeshResponse init tid dataErr elem fixed s) := by
  unfold execMeshResponse
  split
  · exact .next (deliverResponse_keeps _ _ _ (countCorrected_keeps _ (.refl s)))
  · exact .unchanged s
theorem execPostedStoreResponse_keeps (t tid) (s : State) : nextKeeps s (execPostedStoreResponse t tid s) := by
  unfold execPostedStoreResponse
  split
  · exact .next (deliverResponse_keeps _ _ _ (.refl s))
  · exact .unchanged s
theorem execMeshTimeout_keeps (init tid elem isWrite) (s : State) : nextKeeps s (execMeshTimeout init tid elem isWrite s) := by
  have h : keeps s (countTimeout init s) := countTimeout_keeps _ (.refl s)
  unfold execMeshTimeout
  split
  · exact .next (answering_keeps _ (takeResponse_keeps _ _ _ _ _ (.mesh (dropOutstanding_keeps _ _ h) rfl)))
  · exact .ite (.next (answering_keeps _ (failDesc_keeps _ _ _ _ h))) (.unchanged s)
theorem lostRequest_keeps {s0 : State} (init tid : Nat) (rd : Bool) {s : State} (h0 : keeps s0 s) :
    keeps s0 (lostRequest init tid rd s) := .ite (addOutstanding_keeps _ _ _ h0) h0
theorem execHeaderFlitUncorrectable_keeps (router init packet) (s : State) :
    nextKeeps s (execHeaderFlitUncorrectable router init packet s) := by
  have h : keeps s { s with mesh := { s.mesh with discards := bump s.mesh.discards router } } := .mesh (.refl s) rfl
  cases packet with
  | read tid => exact .next (lostRequest_keeps _ _ _ h)
  | write tid => exact .next (lostRequest_keeps _ _ _ h)
  | response tid => exact .next (dropResponse_keeps _ _ h)
theorem execColumnSwitchover_keeps (f lost credits) (s : State) : nextKeeps s (execColumnSwitchover f lost credits s) := by
  have h (x : Card) : keeps s (setCard s (unitColumn f) x) := setCard_keeps _ _ (.refl s)
  exact .ite (.next (.ite (.refl s) (settle_keeps (escalateWith_keeps _ (loseColumn_keeps _ _ (.refl s))))))
    (.ite (.next (setCard_keeps _ _ (.refl s)))
      (.next (settle_keeps (listFence_keeps _ _ (errRecord_keeps _ (loseColumn_keeps _ _ ((h _).mesh rfl)))))))
theorem channelCommand_keeps (who c off w) (s : State) : nextKeeps s (channelCommand who c off w s) :=
  .ite (.answered (channelWrite_keeps _ _ _ _ (.refl s))) (.unchanged s)
theorem execDescriptorComplete_keeps (c) (s : State) : nextKeeps s (execDescriptorComplete c s) := by
  unfold execDescriptorComplete
  split
  · exact .next (completeDesc_keeps _ _ (.refl s))
  · exact .unchanged s

/-! ### The stack (18) -/

theorem execBeat_keeps (east src dst head epoch) (s : State) : nextKeeps s (execBeat east src dst head epoch s) :=
  .ite (.next (settle_keeps (errRecord_keeps _ (.stack (.refl s) _)))) (cascade_keeps fun _ h => .ite (h.stack _) h)
theorem execHeadLoss_keeps (s : State) : nextKeeps s (execHeadLoss s) := by
  refine .ite ?_ (.unchanged s)
  dsimp only
  split
  · exact .next (.ite (beatBoth_keeps (.stack (.refl s) _)) (.stack (.refl s) _))
  · exact .next (.stack (.refl s) _)
theorem execHeadset_keeps (east src dst seq head deputies at_) (s : State) :
    nextKeeps s (execHeadset east src dst seq head deputies at_ s) :=
  cascade_keeps fun _ h => .ite (replyTo_keeps _ _ _ _ (h.stack _)) h
theorem execHeadChangeEffective_keeps (s : State) : nextKeeps s (execHeadChangeEffective s) := by
  unfold execHeadChangeEffective
  split
  case h_2 => exact .unchanged s
  case h_1 head deps at_ _ =>
    have h : keeps s { advanceTo at_ s with
        stack := { (advanceTo at_ s).stack with head := head, deputies := deps, headset := none } } :=
      (advanceTo_keeps at_ (.refl s)).stack _
    exact .ite (.next (.ite (beatBoth_keeps h) h)) (.unchanged s)
theorem execBranchmap_keeps (east src dst capid owner bin mcode peakAt positions) (s : State) :
    nextKeeps s (execBranchmap east src dst capid owner bin mcode peakAt positions s) :=
  cascade_keeps fun _ h => .ite h (.ite (assignBranch_keeps _ _ _ _ _ h) (.ite h
    (.ite (contribute_keeps _ _ _ _ _ _ (h.stack _)) (.ite (h.stack _) h))))
theorem execGains_keeps (east src dst bin gains) (s : State) : nextKeeps s (execGains east src dst bin gains s) :=
  cascade_keeps fun _ h => .ite (h.stack _) h
theorem execDirupd_keeps (east src dst tag home seq) (s : State) : nextKeeps s (execDirupd east src dst tag home seq s) :=
  .ite (.unchanged s) (.ite (.next (replyTo_keeps _ _ _ _ (.refl s)))
    (cascade_keeps fun _ h => .ite (.ite (headUpdate_keeps _ _ _ _ h) h)
      (.ite (replyTo_keeps _ _ _ _ (setHome_keeps _ _ h)) h)))
theorem execFwdframe_keeps (east src dst capid part x) (s : State) :
    nextKeeps s (execFwdframe east src dst capid part x s) := by
  refine cascade_keeps fun y h => .ite h ?_
  dsimp only
  split
  · exact settle_keeps (cascadeSend_keeps _ _ _ (issueVerdict_keeps _ _ _ _ _ _ h))
  · exact issueVerdict_keeps _ _ _ _ _ _ h
theorem execFwdverdict_keeps (east src dst record) (s : State) : nextKeeps s (execFwdverdict east src dst record s) := by
  refine cascade_keeps fun y h => ?_
  dsimp only
  split
  · exact .ite (settle_keeps (releaseCapture_keeps _ _ _ h)) h
  · exact h
theorem execXferPrepare_keeps (east src dst slot dest vi keyh) (s : State) :
    nextKeeps s (execXferPrepare east src dst slot dest vi keyh s) :=
  cascade_keeps fun _ h => .ite (sendXfer_keeps _ _ _ _ _ _ (setXfer_keeps _ _ h)) (sendXfer_keeps _ _ _ _ _ _ h)
theorem execXferReady_keeps (east src dst slot dest) (s : State) : nextKeeps s (execXferReady east src dst slot dest s) :=
  cascade_keeps fun _ h => .ite (sendXfer_keeps _ _ _ _ _ _ (setXfer_keeps _ _ (touch_keeps _ _ h))) h
theorem execXferCommit_keeps (east src dst slot dest atK entry) (s : State) :
    nextKeeps s (execXferCommit east src dst slot dest atK entry s) :=
  cascade_keeps fun _ h => .ite (setXfer_keeps _ _ h) h
theorem execXferAbort_keeps (east src dst slot dest) (s : State) : nextKeeps s (execXferAbort east src dst slot dest s) :=
  cascade_keeps fun _ h => .ite (clearMigrating_keeps _ (setXfer_keeps _ _ h)) (.ite (setXfer_keeps _ _ h) h)
theorem execXferQuery_keeps (east src dst slot dest) (s : State) : nextKeeps s (execXferQuery east src dst slot dest s) :=
  cascade_keeps fun _ h => .ite (sendXfer_keeps _ _ _ _ _ _ h) (sendXfer_keeps _ _ _ _ _ _ h)
theorem execXferAtK_keeps (slot airTime) (s : State) : nextKeeps s (execXferAtK slot airTime s) := by
  have h : keeps s (advanceTo airTime s) := advanceTo_keeps _ (.refl s)
  refine .ite ?_ (.unchanged s)
  dsimp only
  split
  · exact .ite (.next (sendAway_keeps _ h)) (.unchanged s)
  · exact .ite (.next (takeOver_keeps _ _ h)) (.unchanged s)
  · exact .next (sendXfer_keeps _ _ _ _ _ _ (setXfer_keeps _ _ h))
  · exact .unchanged s

/-! ### Molfen and updates (16) -/

theorem execProbationExpiry_keeps (s : State) : nextKeeps s (execProbationExpiry s) :=
  .ite (.next (settle_keeps (updateRecord_keeps (setFirmware_keeps _ (rotateOffice_keeps (.refl s)))))) (.unchanged s)
theorem execVack_keeps (d) (s : State) : nextKeeps s (execVack d s) := by
  unfold execVack
  split
  · exact .ite (.next (takeMessage_keeps _ _ _ (.refl s))) (.unchanged s)
  · exact .unchanged s
theorem execRs485FrameReceived_keeps (octets) (s : State) : nextKeeps s (execRs485FrameReceived octets s) :=
  .ite (.unchanged s) (.ite (.next (arrive_keeps _ (.refl s))) (.next (discardFrame_keeps (.refl s))))
theorem execRs485FrameTimeout_keeps (s : State) : nextKeeps s (execRs485FrameTimeout s) :=
  .ite (.unchanged s) (.next (discardFrame_keeps (.refl s)))
theorem execAddressChangeEffective_keeps (l) (s : State) : nextKeeps s (execAddressChangeEffective l s) := by
  unfold execAddressChangeEffective
  split
  · exact .next (.molfen (.refl s) rfl)
  · exact .unchanged s
theorem execEthernetFrameReceived_keeps (l kind src dport vlan fragmented octets) (s : State) :
    nextKeeps s (execEthernetFrameReceived l kind src dport vlan fragmented octets s) :=
  .ite (.unchanged s) (.ite (.next (emit_keeps _ (.refl s))) (.ite (.next (arrive_keeps _ (.refl s))) (.unchanged s)))
theorem execEthernetLinkUp_keeps (l) (s : State) : nextKeeps s (execEthernetLinkUp l s) := by
  unfold execEthernetLinkUp
  split
  · exact .unchanged s
  · exact .unchanged s
  · exact .unchanged s
  · exact .next (.molfen (.refl s) rfl)

/-! ### Tiles (12) -/

theorem execLoopEnd_keeps (t b) (s : State) : nextKeeps s (execLoopEnd t b s) :=
  .ite (.next (issued_keeps _ _ (slotsOf_keeps _ _) s)) (.unchanged s)
theorem execTrap_keeps (t b ecc) (s : State) : nextKeeps s (execTrap t b ecc s) :=
  .next (trapOnly_keeps _ _ (.ite (poisonBundle_keeps _ (.refl s)) (.refl s)) (.refl s))

/-! ### Every command and every step -/

/-- Every command answers a next state and keeps what `keeps` says. -/
theorem exec_keeps (i : Instr) (s : State) : nextKeeps s (exec i s) := by
  cases i with
  | auxiliaryRailValid => exact execAuxiliaryRailValid_keeps ..
  | bootPass => exact execBootPass_keeps ..
  | holdupChargeTimeout => exact execHoldupChargeTimeout_keeps ..
  | mainsDip => exact execMainsDip_keeps ..
  | mainsLoss => exact execMainsLoss_keeps ..
  | mainsLossBeforeStep7 => exact execMainsLossBeforeStep7_keeps ..
  | sealComplete => exact execSealComplete_keeps ..
  | holdupExhausted => exact execHoldupExhausted_keeps ..
  | holdupCapacityTest => exact execHoldupCapacityTest_keeps ..
  | thermalLimit => exact execThermalLimit_keeps ..
  | modeRequestStandby => exact objectWrite_keeps fun _ h => requestStandby_keeps h
  | modeRequestService => exact objectWrite_keeps fun _ h => requestService_keeps h
  | modeRequestSafe => exact objectWrite_keeps fun _ h => requestSafe_keeps h
  | serviceEntry => exact execServiceEntry_keeps ..
  | quietSet | quietRelease => exact objectWrite_keeps fun _ h => writeQuiet_keeps _ h
  | escalationToSafe => exact execEscalationToSafe_keeps ..
  | referenceLost => exact execReferenceLost_keeps ..
  | referenceQualified => exact execReferenceQualified_keeps ..
  | timebaseValid => exact execTimebaseValid_keeps ..
  | timebaseRestart => exact objectWrite_keeps fun _ h => writeRestart_keeps _ h
  | bellFire => exact execBellFire_keeps ..
  | bellWrite => exact objectWrite_keeps fun _ h => writeBell_keeps _ _ _ h
  | paceTimerFire => exact execPaceTimerFire_keeps ..
  | paceTimerWrite => exact objectWrite_keeps fun _ h => writeTimer_keeps _ _ _ h
  | paceWindowEnd => exact execPaceWindowEnd_keeps ..
  | ledgerSecond => exact execLedgerSecond_keeps ..
  | unpoweredIntervalWrite => exact objectWrite_keeps fun _ h => writeInterval_keeps _ h
  | laneEnable => exact execLaneEnable_keeps ..
  | laneFrameSend => exact execLaneFrameSend_keeps ..
  | clockRecovered => exact execClockRecovered_keeps ..
  | commaLock => exact execCommaLock_keeps ..
  | laneFrameReceived => exact execLaneFrameReceived_keeps ..
  | lossOfFrame => exact execLossOfFrame_keeps ..
  | lossOfSignal => exact execLossOfSignal_keeps ..
  | signalRestored => exact execSignalRestored_keeps ..
  | headid => exact execHeadid_keeps ..
  | headstat => exact execHeadstat_keeps ..
  | align => exact execAlign_keeps ..
  | time => exact execTime_keeps ..
  | reply => exact execReply_keeps ..
  | tapreq => exact execTapreq_keeps ..
  | taprep => exact execTaprep_keeps ..
  | tapAdaptation => exact execTapAdaptation_keeps ..
  | tapreqAbandoned => exact execTapreqAbandoned_keeps ..
  | commandResend => exact execCommandResend_keeps ..
  | crcAlarmEvaluation => exact execCrcAlarmEvaluation_keeps ..
  | switchoverDeadline => exact execSwitchoverDeadline_keeps ..
  | spareRevert => exact objectWrite_keeps fun _ h => writeRevert_keeps _ h
  | backedHeadWrite => exact objectWrite_keeps fun _ h => writeBacked_keeps _ _ h
  | cageInsertion => exact execCageInsertion_keeps ..
  | cageRemoval => exact execCageRemoval_keeps ..
  | cageDiagnosticsRead => exact execCageDiagnosticsRead_keeps ..
  | calibrationSwapArm => exact objectWrite_keeps fun _ h => armSwap_keeps _ _ h
  | calibrationCopyDone => exact execCalibrationCopyDone_keeps ..
  | binSample => exact execBinSample_keeps ..
  | detectionRaised => exact execDetectionRaised_keeps ..
  | admissionRound => exact execAdmissionRound_keeps ..
  | captureWeightsReady => exact execCaptureWeightsReady_keeps ..
  | captureBlockComplete => exact execCaptureBlockComplete_keeps ..
  | captureRingOverrun => exact execCaptureRingOverrun_keeps ..
  | weightRecompute => exact execWeightRecompute_keeps ..
  | captureClose => exact execCaptureClose_keeps ..
  | lifeLimit => exact execLifeLimit_keeps ..
  | historyOverwritten => exact execHistoryOverwritten_keeps ..
  | tagAndFcntCommitted => exact execTagAndFcntCommitted_keeps ..
  | verdictIssued => exact execVerdictIssued_keeps ..
  | verdictBatchSend => exact .next (sendBatch_keeps _ _ (.refl s))
  | vack => exact execVack_keeps ..
  | resendInterval => exact .next (sendBatch_keeps _ _ (rewind_keeps _ _ (.refl s)))
  | collectorWrite => exact objectWrite_keeps fun _ h => writeCollector_keeps _ _ _ h
  | headGainWindow => exact execHeadGainWindow_keeps ..
  | floorPeriodEnd => exact execFloorPeriodEnd_keeps ..
  | averagingPeriodWrite => exact objectWrite_keeps fun _ h => writePeriod_keeps _ h
  | loopSettingWrite => exact objectWrite_keeps fun _ h => writeLoop_keeps _ _ _ _ h
  | enrol => exact objectWrite_keeps fun _ h => writeEnrol_keeps _ _ _ h
  | retire => exact objectWrite_keeps fun _ h => writeRetire_keeps _ h
  | replace => exact objectWrite_keeps fun _ h => writeReplace_keeps _ _ _ h
  | rekey => exact objectWrite_keeps fun _ h => writeRekey_keeps _ _ _ h
  | rekeyShadowRelease => exact .next (releaseShadow_keeps _ (.refl s))
  | statusWrite => exact objectWrite_keeps fun _ h => writeStatus_keeps _ _ h
  | chargeSet => exact objectWrite_keeps fun _ h => writeCharge_keeps _ _ h
  | uplinkCounterRaise => exact objectWrite_keeps fun _ h => writeRaise_keeps _ _ h
  | chargeModelAssign => exact objectWrite_keeps fun _ h => writeModel_keeps _ _ h
  | creditPlanAssign => exact objectWrite_keeps fun _ h => writePlan_keeps _ _ h
  | grant => exact objectWrite_keeps fun _ h => writeGrant_keeps _ _ h
  | grantBudgetAdd => exact objectWrite_keeps fun _ h => writeBudget_keeps _ _ h
  | sliceWrite => exact .answered (writeSlices_keeps _ _ (.refl s))
  | dailySweep => exact .next (dailySweep_keeps (.refl s))
  | journalApply => exact .next (applyJournal_keeps _ (.refl s))
  | rollPoisonRepair => exact .next (settle_keeps (repairEntry_keeps _ _ _ (.refl s)))
  | downlinkRequest => exact execDownlinkRequest_keeps ..
  | stagedReplyWrite => exact objectWrite_keeps fun _ h => writeReply_keeps _ _ _ h
  | buildDeadline => exact execBuildDeadline_keeps ..
  | burstStart => exact execBurstStart_keeps ..
  | burstEnd => exact execBurstEnd_keeps ..
  | maskBlockEnd => exact execMaskBlockEnd_keeps ..
  | rampProfileWrite => exact objectWrite_keeps fun _ h => writeRamp_keeps _ _ h
  | coefficientSetWrite => exact execCoefficientSetWrite_keeps ..
  | dutyBucketWrite => exact execDutyBucketWrite_keeps ..
  | hallPassRead => exact execHallPassRead_keeps ..
  | hallPassRelease => exact .answered (writePass_keeps _ _ _ (.refl s))
  | forcedRelease => exact execForcedRelease_keeps ..
  | holdLimitExpiry => exact execHoldLimitExpiry_keeps ..
  | ccmDownlinkBuild | ccmUplinkVerify | ctr | cipherCmac => exact runCmd_keeps ..
  | cipherOperationComplete => exact .next (completeCipher_keeps _ (.refl s))
  | keyLoad => exact objectWrite_keeps fun _ h => writeKeyLoad_keeps _ _ _ h
  | keyErase => exact objectWrite_keeps fun _ h => writeKeyErase_keeps _ h
  | viLoadKey => exact objectWrite_keeps fun _ h => writeViLoadKey_keeps _ _ _ h
  | viManagementKey => exact objectWrite_keeps fun _ h => writeManagementKey_keeps _ _ _ _ h
  | blockOwnerWrite => exact objectWrite_keeps fun _ h => writeBlockOwner_keeps _ _ h
  | tokenArrival => exact execTokenArrival_keeps ..
  | dispatch => exact execDispatch_keeps ..
  | emit => exact onTile_keeps _ _ _ (emitToken_keeps _ (.refl s))
  | done => exact onTile_keeps _ _ _ (doneOp_keeps _ (.refl s))
  | bufalloc => exact .ite (.next (answerOf_keeps _ _ (bufAlloc_keeps _ (.refl s)))) (.unchanged s)
  | buffree => exact onTile_keeps _ _ _ (bufFree_keeps _ _ (.refl s))
  | hostctlWrite => exact execHostctlWrite_keeps ..
  | dispatchMapWrite => exact execDispatchMapWrite_keeps ..
  | substitution => exact .next (settle_keeps (substitute_keeps _ _ (advanceTo_keeps _ (.refl s))))
  | drainLimitExpiry => exact execDrainLimitExpiry_keeps ..
  | add | sub | and | or | xor | shl | shr | sra | mul | qmul | min | max | slt | sltu | adds | subs | nsb
  | rshr => exact runScalar_keeps _ _ _ _ (scalarAct_keeps ..)
  | addi | andi | ori | xori | shli | shri | srai | movi | movhi => exact runScalar_keeps _ _ _ _ (immAct_keeps ..)
  | padd => exact runScalar_keeps _ _ _ _ (paddAct_keeps ..)
  | movx => exact runScalar_keeps _ _ _ _ (movxAct_keeps ..)
  | br => exact runSlot_keeps _ _ _ _ _ (brAct_keeps ..)
  | jal => exact runSlot_keeps _ _ _ _ _ (jalAct_keeps ..)
  | jr => exact runSlot_keeps _ _ _ _ _ (jrAct_keeps ..)
  | loop => exact runSlot_keeps _ _ _ _ _ (loopAct_keeps ..)
  | loopEnd => exact execLoopEnd_keeps ..
  | csrr => exact runSlot_keeps _ _ _ _ _ (csrrAct_keeps ..)
  | csrw => exact runSlot_keeps _ _ _ _ _ (csrwAct_keeps ..)
  | rte => exact runSlot_keeps _ _ _ _ _ (rteAct_keeps ..)
  | waitop => exact runSlot_keeps _ _ _ _ _ (waitopAct_keeps ..)
  | fence => exact runSlot_keeps _ _ _ _ _ (fenceAct_keeps ..)
  | yield => exact runSlot_keeps _ _ _ _ _ (yieldAct_keeps ..)
  | halt => exact runSlot_keeps _ _ _ _ _ (haltAct_keeps ..)
  | vadd | vsub | vmul | vand | vor | vxor | vmin | vmax | vabs | vneg | vshl | vsra | vrsra | vcmpeq | vcmplt
  | vavg | cmul | cmulj | vconj | vbexp | vsel => exact runSlot_keeps _ _ _ _ _ (vectorAct_keeps ..)
  | vshli | vshri | vsrai | vrsrai => exact runSlot_keeps _ _ _ _ _ (shiftAct_keeps ..)
  | vmac | vmsu | cmac | cmacj | vmacb | vmula | cmula => exact runSlot_keeps _ _ _ _ _ (macAct_keeps ..)
  | vexta => exact runSlot_keeps _ _ _ _ _ (vextaAct_keeps ..)
  | vclra => exact runSlot_keeps _ _ _ _ _ (vclraAct_keeps ..)
  | vbcast => exact runSlot_keeps _ _ _ _ _ (vbcastAct_keeps ..)
  | ld | ldh | ldhu | ldb | ldbu => exact runSlot_keeps _ _ _ _ _ (loadAct_keeps ..)
  | st | sth | stb => exact runSlot_keeps _ _ _ _ _ (storeAct_keeps ..)
  | vld => exact runSlot_keeps _ _ _ _ _ (vldAct_keeps ..)
  | vst => exact runSlot_keeps _ _ _ _ _ (vstAct_keeps ..)
  | vldff16 | vldff32 => exact runSlot_keeps _ _ _ _ _ (vldffAct_keeps ..)
  | vstf => exact runSlot_keeps _ _ _ _ _ (vstfAct_keeps ..)
  | pmod => exact runSlot_keeps _ _ _ _ _ (pmodAct_keeps ..)
  | movc => exact runSlot_keeps _ _ _ _ _ (movcAct_keeps ..)
  | cxphase | cxdiv | cxrecip | cxrsqrt | cxlog2 | cxexp2 => exact runSlot_keeps _ _ _ _ _ (cxAct_keeps ..)
  | cxResult => exact .next (landCx_keeps _ _ (.refl s))
  | trap => exact execTrap_keeps ..
  | postedStoreResponse => exact execPostedStoreResponse_keeps ..
  | tileImageLoad => exact .next (loadTile_keeps _ _ (.refl s))
  | moverCtrlWrite | kick | ownerWrite => exact channelCommand_keeps ..
  | moverEvent => exact .next (.ite (channelEvent_keeps _ (.refl s)) (.refl s))
  | descriptorStart => exact .next (.ite (startDesc_keeps _ (.refl s)) (.refl s))
  | descriptorComplete => exact execDescriptorComplete_keeps ..
  | meshRequest => exact execMeshRequest_keeps ..
  | meshResponse => exact execMeshResponse_keeps ..
  | meshTimeout => exact execMeshTimeout_keeps ..
  | quarantineExpiry => exact .next (.mesh (.refl s) rfl)
  | headerFlitUncorrectable => exact execHeaderFlitUncorrectable_keeps ..
  | columnSwitchover => exact execColumnSwitchover_keeps ..
  | probeConfigurationWrite => exact objectWrite_keeps fun _ h => plainWrite_keeps _ _ _ _ _ h
  | traceModeWrite => exact objectWrite_keeps fun _ h => writeTraceMode_keeps _ h
  | domainVote => exact .next (castVote_keeps _ _ _ (.refl s))
  | idleDelayExpiry => exact execIdleDelayExpiry_keeps ..
  | portClosed => exact execPortClosed_keeps ..
  | wakeComplete => exact execWakeComplete_keeps ..
  | scrub => exact execScrub_keeps ..
  | errorRecordHandlingLimit => exact execErrorRecordHandlingLimit_keeps ..
  | errorAcknowledge => exact objectWrite_keeps fun _ h => writeAck_keeps _ h
  | officeHeartbeatLoss => exact execOfficeHeartbeatLoss_keeps ..
  | lockstepMismatch => exact .next (settle_keeps (pairFails_keeps _ _ (.refl s)))
  | officeFailover => exact execOfficeFailover_keeps ..
  | substituteTest => exact execSubstituteTest_keeps ..
  | fenceRelease => exact objectWrite_keeps fun _ h => writeRelease_keeps _ _ h
  | clearBadDescriptors => exact objectWrite_keeps fun _ h => clearDescriptors_keeps h
  | reportCardUpdate => exact execReportCardUpdate_keeps ..
  | prefectWatchdog => exact execPrefectWatchdog_keeps ..
  | relayTest => exact objectWrite_keeps fun _ h => writeRelayTest_keeps _ h
  | relayTestEnd => exact .next (settleRelays_keeps (.fault (.refl s) rfl))
  | accountMarkAcknowledge => exact objectWrite_keeps fun _ h => writeMarkAck_keeps _ h
  | request => exact .next (takeMessage_keeps _ _ _ (.refl s))
  | rs485FrameReceived => exact execRs485FrameReceived_keeps ..
  | rs485FrameTimeout => exact execRs485FrameTimeout_keeps ..
  | addressChangeEffective => exact execAddressChangeEffective_keeps ..
  | firmwareOpen | firmwareVerify | firmwareActivate | firmwareCommit | firmwareAbandon =>
    exact objectWrite_keeps fun _ h => writeFirmware_keeps _ _ h
  | firmwareChunk => exact objectWrite_keeps fun _ h => writeFirmwareChunk_keeps _ _ _ h
  | probationExpiry => exact execProbationExpiry_keeps ..
  | packageOpen | packageVerify | packageActivate | packageAbandon =>
    exact objectWrite_keeps fun _ h => writePackage_keeps _ _ _ h
  | packageChunk => exact objectWrite_keeps fun _ h => writePackageChunk_keeps _ _ _ h
  | packageRotationStep => exact .next (settle_keeps (rotationStep_keeps _ (.refl s)))
  | emergencyStatusRead | forceSilent | emergencyReset => exact .next (careServe_keeps _ _ _ _ _ _ _ (.refl s))
  | beat => exact execBeat_keeps ..
  | headLoss => exact execHeadLoss_keeps ..
  | headset => exact execHeadset_keeps ..
  | headChangeEffective => exact execHeadChangeEffective_keeps ..
  | branchmap => exact execBranchmap_keeps ..
  | gains => exact execGains_keeps ..
  | dirupd => exact execDirupd_keeps ..
  | fwdframe => exact execFwdframe_keeps ..
  | fwdverdict => exact execFwdverdict_keeps ..
  | transferWrite => exact objectWrite_keeps fun _ h => writeTransfer_keeps _ _ h
  | xferPrepare => exact execXferPrepare_keeps ..
  | xferReady => exact execXferReady_keeps ..
  | xferCommit => exact execXferCommit_keeps ..
  | xferAbort => exact execXferAbort_keeps ..
  | xferQuery => exact execXferQuery_keeps ..
  | xferAtK => exact execXferAtK_keeps ..
  | memberDrain => exact objectWrite_keeps fun _ h => writeDrain_keeps _ h
  | accelOperationDone => exact execAccelOperationDone_keeps ..
  | wipeComplete => exact .next (setEngine_keeps _ _ (.refl s))
  | nop => exact .next (issued_keeps _ _ slotsNop_keeps s)
  | ethernetFrameReceived => exact execEthernetFrameReceived_keeps ..
  | ethernetLinkDown => exact .next (.molfen (.refl s) rfl)
  | ethernetLinkUp => exact execEthernetLinkUp_keeps ..
  | stagingBufferDrain => exact .next (drainStaging_keeps (.refl s))
  | officePairReloadAndTest => exact execOfficePairReloadAndTest_keeps ..

/-- The queue of waiting commands and the clocks hold no sequence. -/
theorem numbered_dequeue {s : State} (h : numbered s) : numbered s.dequeue := h
theorem numbered_tick {s : State} (h : numbered s) : numbered (tick s) := h
/-- A command's outcome keeps the sequences numbered. -/
theorem numbered_of_exec {i : Instr} {s u : State} (h : numbered s) (e : exec i s = .next u) : numbered u := by
  obtain ⟨v, ev, hv⟩ := exec_keeps i s
  cases ev.symm.trans e
  exact hv.seq h

/-- Settles O20: the front command keeps the sequences numbered by `exec_keeps`; a tick of the idle block touches
none of them. -/
theorem stepKeepsNumbered : Obligations.StepKeepsNumbered := by
  unfold Obligations.StepKeepsNumbered
  intro s u h e
  unfold step at e
  split at e
  · cases e
    exact numbered_tick h
  · exact numbered_of_exec (numbered_dequeue h) e

end Sys2Proof.Machine
end

section
/-! O33 (14 R375, R376; 05 R120; 01 R30): the firing of a bell is followed through its three steps, the swap or snapshot, its
port's token and the end of the command; the last two leave the clocks, the receive chain and the snapshot alone. -/

namespace Sys2Proof.Machine

open Sys2Proof.Safety

/-! ### What the Prefect's tokens and a command's end leave -/

theorem prefectOnly.time {s u : State} (h : prefectOnly s u) : u.time = s.time := by rw [h]
theorem prefectOnly.rx {s u : State} (h : prefectOnly s u) : u.rx = s.rx := by rw [h]
theorem prefectOnly.snap {s u : State} (h : prefectOnly s u) : u.snap = s.snap := by rw [h]
theorem settledOnly.time {s u : State} (h : settledOnly s u) : u.time = s.time := by rw [h]
theorem settledOnly.rx {s u : State} (h : settledOnly s u) : u.rx = s.rx := by rw [h]
theorem settledOnly.snap {s u : State} (h : settledOnly s u) : u.snap = s.snap := by rw [h]

@[simp] theorem settle_raisePort_time (port arg : Nat) (s : State) : (settle (raisePort port arg s)).time = s.time :=
  (settle_settled _).time.trans (raisePort_only _ _ _).time
@[simp] theorem settle_raisePort_rx (port arg : Nat) (s : State) : (settle (raisePort port arg s)).rx = s.rx :=
  (settle_settled _).rx.trans (raisePort_only _ _ _).rx
@[simp] theorem settle_raisePort_snap (port arg : Nat) (s : State) : (settle (raisePort port arg s)).snap = s.snap :=
  (settle_settled _).snap.trans (raisePort_only _ _ _).snap
@[simp] theorem bellOf_settle_raisePort (port arg b : Nat) (s : State) :
    bellOf (settle (raisePort port arg s)) b = bellOf s b := by simp [bellOf]

/-! ### Object writes that pass their checks -/

/-- A write that passes the item checks, of an object whose clock runs, is its owning rule's. -/
theorem checkedWrite_of_writable {s : State} {vi idx sub el len v : Nat} (h : writable s vi idx sub el len v = true)
    (f : State → State × Status) : checkedWrite vi idx sub el len v f s = f s := by
  simp only [writable, Bool.and_eq_true, Option.isNone_iff_eq_none, Bool.not_eq_true'] at h
  obtain ⟨hcheck, hrim⟩ := h
  simp [checkedWrite, ownRule, hcheck, hrim]

/-! ### Swap tables -/

theorem swapTable_setSwapTable (b : Nat) (t : SwapTable) (s : State) : swapTable (setSwapTable b t s) b = t := by
  by_cases h10 : b = 10
  · simp [swapTable, setSwapTable, h10]
  · by_cases h11 : b = 11
    · simp [swapTable, setSwapTable, h11]
    · simp [swapTable, setSwapTable, h10, h11]
/-- What the swap of the receive calibration brings with it leaves the clocks and the table swapped. -/
theorem afterSwap_receive_time (n : Nat) (s : State) : (afterSwap 10 n s).time = s.time := rfl
theorem afterSwap_receive_cal (n : Nat) (s : State) : (afterSwap 10 n s).rx.cal = s.rx.cal := rfl

/-! ### Firings -/

@[simp] theorem hasFired_advanceTo (k n m : Nat) (s : State) : hasFired k n (advanceTo m s) = hasFired k n s := by
  simp [hasFired]
/-- Air time is that of a command which does not lie in the past. -/
theorem advanceTo_airTime_of_le {n : Nat} {s : State} (hv : s.time.valid = true) (hle : s.time.airTime ≤ n) :
    (advanceTo n s).time.airTime = n := by rw [advanceTo_airTime _ _ hv, Nat.max_eq_right hle]
theorem execBellFire_of_le {n : Nat} {s : State} (b : Fin 64) (hv : s.time.valid = true) (hle : s.time.airTime ≤ n) :
    execBellFire b n s = .next (settle (fireBell b n (advanceTo n s))) := if_pos ⟨hv, hle⟩
/-- Bell 10, armed for this air time, swaps the receive calibration. -/
theorem fireBell_receive {n : Nat} {s : State} (h0 : n ≠ 0) (ha : (bellOf s 10).armed = n) :
    fireBell 10 n s = raisePort 10 n (afterSwap 10 n (setSwapTable 10 (swapped s.rx.cal n)
      (setBell s 10 { bellOf s 10 with armed := 0 }))) := by
  simp [fireBell, ha, h0, swapTable]
/-- Bell 9, not armed and at its phase, takes the snapshot. -/
theorem fireBell_snapshot {n : Nat} {s : State} (ha : (bellOf s 9).armed = 0) (hp : (bellOf s 9).period ≠ 0)
    (hn : n % (bellOf s 9).period = (bellOf s 9).phase) (hf : hasFired 9 n s = false) :
    let x := setBell (markFired 9 n s) 9 (afterFiring (bellOf s 9))
    fireBell 9 n s = raisePort 9 n (takeSnap { x with time := { x.time with snapshotAt := n } }) := by
  have hidle : ¬((bellOf s 9).armed = n ∧ n ≠ 0) := fun ⟨h, h0⟩ => h0 (h.symm.trans ha)
  have hfires : periodicFires (bellOf s 9) n = true := by simp [periodicFires, hp, hn]
  simp [fireBell, hidle, hfires, hf]

/-! ### The statement, clause by clause -/

theorem bellFire_receive {n : Nat} {s : State} (hv : s.time.valid = true) (hle : s.time.airTime ≤ n) (h0 : n ≠ 0)
    (ha : (bellOf s 10).armed = n) :
    ∃ u, execBellFire 10 n s = .next u ∧ u.time.airTime = n ∧ (bellOf u 10).armed = 0 ∧ u.rx.cal = swapped s.rx.cal n := by
  refine ⟨_, execBellFire_of_le 10 hv hle, ?_⟩
  have hfire := fireBell_receive (s := advanceTo n s) h0 (by simpa using ha)
  have hbell : ∀ x t, bellOf (afterSwap 10 n (setSwapTable 10 t (setBell (advanceTo n s) 10 x))) 10 = x := fun x t => by
    rw [bellOf, afterSwap_receive_time]; exact bellOf_setBell _ _ _
  rw [show ((10 : Fin 64) : Nat) = 10 from rfl, hfire]
  refine ⟨?_, ?_, ?_⟩
  · simpa [afterSwap_receive_time, setSwapTable] using advanceTo_airTime_of_le hv hle
  · simp [hbell]
  · simp [afterSwap_receive_cal, setSwapTable]
theorem bellFire_snapshot {n : Nat} {s : State} (hv : s.time.valid = true) (hle : s.time.airTime ≤ n)
    (ha : (bellOf s 9).armed = 0) (hp : (bellOf s 9).period ≠ 0) (hn : n % (bellOf s 9).period = (bellOf s 9).phase)
    (hf : hasFired 9 n s = false) :
    ∃ u, execBellFire 9 n s = .next u ∧ u.time.airTime = n ∧ u.time.snapshotAt = n ∧ u.snap.settings = s.settings
      ∧ u.snap.roll = s.roll ∧ u.snap.sweep = s.sweep ∧ u.snap.lane = s.lane := by
  refine ⟨_, execBellFire_of_le 9 hv hle, ?_⟩
  have hfire := fireBell_snapshot (n := n) (s := advanceTo n s) (by simpa using ha) (by simpa using hp) (by simpa using hn)
    (by simpa using hf)
  rw [show ((9 : Fin 64) : Nat) = 9 from rfl, hfire]
  simp [takeSnap, markFired, advanceTo_airTime_of_le hv hle]
theorem bellWrite_period {vi : Fin 16} {b v : Nat} {s : State} (h : writable s vi 0x2030 1 b 4 v = true) (hb : 20 ≤ b) :
    execBellWrite vi false b v s = took (setBell s b
      (if (bellOf s b).period = 0 then { bellOf s b with period := v } else { bellOf s b with newPeriod := some v })) := by
  have hw := checkedWrite_of_writable h (writeBell b false v)
  have h9 : b ≠ 9 := by omega
  have hown : ¬(b < 9 ∨ 10 ≤ b ∧ b < 20) := by omega
  simp only [execBellWrite, Bool.false_eq_true, if_false, hw, answered, took]
  by_cases hp : (bellOf s b).period = 0 <;> simp [writeBell, h9, hown, hp]
theorem swapArm_idle {vi : Fin 16} {v : Nat} {s : State} (h : writable s vi 0x4001 3 0 8 v = true)
    (hidle : s.rx.cal.swapState = 0) (hv : s.time.airTime + 64 ≤ v)
    (hlast : s.rx.cal.last = 0 ∨ s.rx.cal.last + 256000 ≤ v) :
    ∃ u, execCalibrationSwapArm vi v s = .next u ∧ u.answer.status = .ok ∧ (bellOf u 10).armed = v
      ∧ u.rx.cal = { s.rx.cal with swapState := 1 } := by
  have hw := checkedWrite_of_writable h (armSwap 10 v)
  have harm : armSwap 10 v s = (setSwapTable 10 { s.rx.cal with swapState := 1 }
      (setBell s 10 { bellOf s 10 with armed := v }), .ok) := by
    have h0 : v ≠ 0 := by omega
    have hlate : ¬v < s.time.airTime + 64 := by omega
    have hfar : ¬(v ≠ 0 ∧ s.rx.cal.last ≠ 0 ∧ v < s.rx.cal.last + 256000) := by omega
    simp only [armSwap, swapTable, if_true, true_and, hfar, hidle, if_false, hlate, h0]
    simp
  exact ⟨_, by rw [execCalibrationSwapArm, hw, harm]; rfl, rfl, congrArg Bell.armed (bellOf_setBell _ _ _), rfl⟩
theorem copyDone_copying {t : Fin 10} {s : State} (h : (swapTable s (10 + t)).swapState = 2) :
    ∃ u, execCalibrationCopyDone t s = .next u ∧ swapTable u (10 + t) = copied (swapTable s (10 + t)) :=
  ⟨_, if_pos h, swapTable_setSwapTable _ _ _⟩

/-- Settles O33, from the equation of each bell's firing. -/
theorem bells : Obligations.Bells :=
  ⟨fun _ _ => bellFire_receive, fun _ _ => bellFire_snapshot, fun _ _ _ _ => bellWrite_period, fun _ _ _ => swapArm_idle,
    fun _ _ => copyDone_copying⟩

end Sys2Proof.Machine
end

section
/-! O50 (09 R237 to R246, R258, R259; 08 R224; 01 R20). Placing, starting and ending a burst send lane messages, move tokens,
credits and account terms, and raise tokens of the Prefect; none of that touches the request records, the numbers and queues of
the downlink, the mask's counts or the clocks (`dlView`). What is left of a command is then what it does to its request's
record. -/

namespace Sys2Proof.Machine

open Sys2Proof.Safety

/-! ### The part of the state the statement speaks of -/

/-- The downlink's number, queue and mask counts, and the clocks. -/
structure DlRest where
  nextRqid : Nat
  deferred : List Deferred
  maskLast : Option Nat
  maskBlocks : Tab Nat
  time : TimeUnit
/-- The request records, and the rest of what is judged of a downlink command. -/
def dlView (s : State) : Tab (Option ReqRec) × DlRest :=
  (s.tx.records, ⟨s.tx.nextRqid, s.tx.deferred, s.tx.maskLast, s.tx.maskBlocks, s.time⟩)

/-- What each step of a fold leaves, the fold leaves. -/
theorem foldl_view {α β : Type} (v : State → β) {f : State → α → State} (hf : ∀ t a, v (f t a) = v t) (l : List α) (s : State) :
    v (l.foldl f s) = v s := by
  induction l generalizing s with
  | nil => rfl
  | cons a l ih => exact (ih _).trans (hf s a)
theorem tx_nextRqid_of_view {s u : State} (h : (dlView u).2 = (dlView s).2) : u.tx.nextRqid = s.tx.nextRqid :=
  congrArg DlRest.nextRqid h
theorem tx_deferred_of_view {s u : State} (h : (dlView u).2 = (dlView s).2) : u.tx.deferred = s.tx.deferred :=
  congrArg DlRest.deferred h
theorem tx_maskLast_of_view {s u : State} (h : (dlView u).2 = (dlView s).2) : u.tx.maskLast = s.tx.maskLast :=
  congrArg DlRest.maskLast h
theorem tx_maskBlocks_of_view {s u : State} (h : (dlView u).2 = (dlView s).2) : u.tx.maskBlocks = s.tx.maskBlocks :=
  congrArg DlRest.maskBlocks h
theorem time_of_view {s u : State} (h : (dlView u).2 = (dlView s).2) : u.time = s.time := congrArg DlRest.time h
theorem reqOf_of_view {s u : State} (h : dlView u = dlView s) (q : Nat) : reqOf u q = reqOf s q := by
  rw [reqOf, show u.tx.records = s.tx.records from congrArg Prod.fst h]; rfl

/-! ### Operations that leave the view -/

@[simp] theorem dlView_emit (e : Emission) (s : State) : dlView (emit e s) = dlView s := rfl
@[simp] theorem dlView_sendMsg (l type : Nat) (fields : List (Nat × Nat)) (s : State) :
    dlView (sendMsg l type fields s) = dlView s := by
  unfold sendMsg; dsimp only; split <;> rfl
@[simp] theorem dlView_sendParamp (l mask slot : Nat) (down now : Bool) (spacing at_ : Nat) (s : State) :
    dlView (sendParamp l mask slot down now spacing at_ s) = dlView s := dlView_sendMsg _ _ _ _
@[simp] theorem dlView_txenFor (h t : Nat) (s : State) : dlView (txenFor h t s) = dlView s := by
  unfold txenFor
  split
  · exact dlView_sendMsg _ _ _ _
  · rfl
@[simp] theorem dlView_txensFor (h : Nat) (times : List Nat) (s : State) : dlView (txensFor h times s) = dlView s :=
  foldl_view _ (fun t a => dlView_txenFor h a t) _ _
@[simp] theorem dlView_giveTokens (h n : Nat) (s : State) : dlView (giveTokens h n s) = dlView s := rfl
@[simp] theorem dlView_takeTokens (h n : Nat) (s : State) : dlView (takeTokens h n s) = dlView s := rfl
@[simp] theorem dlView_raisePort (port arg : Nat) (s : State) : dlView (raisePort port arg s) = dlView s := by
  rw [raisePort_only port arg s]; rfl
@[simp] theorem dlView_dropBurst (q : Nat) (s : State) : dlView (dropBurst q s) = dlView s := by
  unfold dropBurst
  split
  · exact dlView_raisePort _ _ _
  · rfl
@[simp] theorem dlView_putBurst (i : Nat) (b : Burst) (s : State) : dlView (putBurst i b s) = dlView s := rfl
@[simp] theorem dlView_modBurst (q : Nat) (f : Burst → Burst) (s : State) : dlView (modBurst q f s) = dlView s := rfl
@[simp] theorem dlView_dlBump (vi term : Nat) (s : State) : dlView (dlBump vi term s) = dlView s := rfl
@[simp] theorem dlView_dlDrop (vi term : Nat) (s : State) : dlView (dlDrop vi term s) = dlView s := rfl
@[simp] theorem dlView_commit (cause slot : Nat) (p : Entry × Account) (s : State) : dlView (commit cause slot p s) = dlView s := rfl
@[simp] theorem dlView_putSetting (vi idx sub el v : Nat) (s : State) : dlView (putSetting s vi idx sub el v) = dlView s := rfl
theorem dlView_cascadeSend (dst type : Nat) (fields : List (Nat × Nat)) (s : State) :
    dlView (cascadeSend dst type fields s) = dlView s := by
  unfold cascadeSend; dsimp only; split <;> rfl
@[simp] theorem dlView_sendPrepare (slot : Nat) (s : State) : dlView (sendPrepare slot s) = dlView s := by
  unfold sendPrepare
  dsimp only
  split
  · exact dlView_cascadeSend _ _ _ _
  · rfl
theorem dlView_addErasures (l : List Nat) (lo : Nat) (hi : Option Nat) (cause : Nat) (s : State) :
    dlView (l.foldl (fun t a => addErasure a lo hi cause t) s) = dlView s :=
  foldl_view dlView (f := fun t a => addErasure a lo hi cause t) (fun _ _ => rfl) l s
@[simp] theorem dlView_blankHead (h lo hi : Nat) (s : State) : dlView (blankHead h lo hi s) = dlView s :=
  dlView_addErasures _ _ _ _ _
@[simp] theorem dlView_trimBlank (h lo hi hi' : Nat) (s : State) : dlView (trimBlank h lo hi hi' s) = dlView s := by
  unfold trimBlank; split <;> rfl
@[simp] theorem dlView_queueBurst (b : Burst) (s : State) : dlView (queueBurst b s) = dlView s :=
  foldl_view _ (fun t h => by dsimp only; split <;> simp) _ _
@[simp] theorem dlView_attemptCommit (a : Ask) (outcome hold : Bool) (f : Entry × Account → Entry × Account) (s : State) :
    dlView (attemptCommit a outcome hold f s) = dlView s := by
  unfold attemptCommit; split <;> rfl
@[simp] theorem entryOf_dlBump (vi term : Nat) (s : State) (k : Nat) : entryOf (dlBump vi term s) k = entryOf s k := rfl
@[simp] theorem entryOf_dlDrop (vi term : Nat) (s : State) (k : Nat) : entryOf (dlDrop vi term s) k = entryOf s k := rfl
@[simp] theorem entryOf_journalRoll (cause slot : Nat) (e : Entry) (body : JBody) (s : State) (k : Nat) :
    entryOf (journalRoll cause slot e body s) k = entryOf s k := rfl

/-! ### Request records -/

theorem reqOf_putReq (r : ReqRec) (s : State) : reqOf (putReq r s) r.rqid = some r := by simp [reqOf, putReq]
/-- A record that the ring holds stands under its own number. -/
theorem rqid_of_reqOf {s : State} {q : Nat} {r : ReqRec} (h : reqOf s q = some r) : r.rqid = q := by
  unfold reqOf at h
  split at h
  · split at h
    · cases h; assumption
    · cases h
  · cases h
/-- A record that is held is changed in its place. -/
theorem reqOf_modReq {s : State} {q : Nat} {r : ReqRec} {f : ReqRec → ReqRec} (hf : ∀ r, (f r).rqid = r.rqid)
    (h : reqOf s q = some r) : reqOf (modReq q f s) q = some (f r) := by
  have hq : (f r).rqid = q := (hf r).trans (rqid_of_reqOf h)
  simp only [modReq, h]
  simpa [hq] using reqOf_putReq (f r) s
/-- A change of records touches the records alone. -/
@[simp] theorem dlView_modReq_snd (q : Nat) (f : ReqRec → ReqRec) (s : State) : (dlView (modReq q f s)).2 = (dlView s).2 := by
  unfold modReq; split <;> rfl
@[simp] theorem entryOf_modReq (q : Nat) (f : ReqRec → ReqRec) (s : State) (k : Nat) : entryOf (modReq q f s) k = entryOf s k := by
  unfold modReq; split <;> rfl

/-! ### The end of a placed attempt (09 R239) -/

/-- An end moves credits and account terms besides: the view shows its record alone. -/
theorem dlView_endAttempt (b : Burst) (o : DlOutcome) (st : Status) (bs : BurstState) (endAt n : Nat) (m : Bool) (s : State) :
    dlView (endAttempt b o st bs endAt n m s) = dlView (modReq b.rqid
      (fun r => { r with outcome := o, status := st, burst := bs, endAt := endAt, mask := r.mask || m }) s) := by
  simp only [endAttempt, apply_ite dlView, dlView_sendPrepare, dlView_commit, dlView_dlDrop, dlView_dlBump, ite_self]
theorem endAttempt_rest (b : Burst) (o : DlOutcome) (st : Status) (bs : BurstState) (endAt n : Nat) (m : Bool) (s : State) :
    (dlView (endAttempt b o st bs endAt n m s)).2 = (dlView s).2 :=
  (congrArg Prod.snd (dlView_endAttempt ..)).trans (dlView_modReq_snd _ _ _)
theorem reqOf_endAttempt {b : Burst} {o : DlOutcome} {st : Status} {bs : BurstState} {endAt n : Nat} {s : State} {r : ReqRec}
    (h : reqOf s b.rqid = some r) : reqOf (endAttempt b o st bs endAt n false s) b.rqid
      = some { r with outcome := o, status := st, burst := bs, endAt := endAt } := by
  rw [reqOf_of_view (dlView_endAttempt ..)]
  simpa using reqOf_modReq
    (f := fun r => { r with outcome := o, status := st, burst := bs, endAt := endAt, mask := r.mask || false }) (fun _ => rfl) h
/-- A burst that leaves the timeline before its start: NOT_SENT, INCOMPLETE (09 R239, R246). -/
theorem reqOf_removeBurst {b : Burst} {s : State} {r : ReqRec} (h : reqOf s b.rqid = some r) :
    reqOf (removeBurst b s) b.rqid = some { r with outcome := .refused, status := .incomplete, burst := .notSent, endAt := 0 } := by
  refine reqOf_endAttempt ((reqOf_of_view ?_ _).trans h)
  rw [foldl_view dlView (fun t h => dlView_txensFor _ _ t), dlView_dropBurst, foldl_view dlView (fun t h => dlView_giveTokens _ _ t)]
/-- A stop changes no more of the view than the record of its attempt: not what the mask has counted. -/
theorem stopBurst_rest (b : Burst) (m : Bool) (s : State) : (dlView (stopBurst b m s)).2 = (dlView s).2 := by
  refine (endAttempt_rest _ _ _ _ _ _ _ _).trans (congrArg Prod.snd ?_)
  rw [foldl_view dlView (fun t h => dlView_txensFor _ _ t), dlView_dropBurst]
  -- The note of the samples still on their way out lies outside the view.
  refine Eq.trans (b := dlView ((bitList 12 b.heads).foldl _ ((bitList 12 b.taken).foldl _ s))) rfl ?_
  rw [foldl_view dlView (fun t h => ?_), foldl_view dlView (fun t h => dlView_giveTokens _ _ t)]
  simp only [dlView_emit, dlView_trimBlank]
  split <;> simp

/-! ### A burst on the timeline -/

theorem rqid_of_findBurst {s : State} {q : Nat} {b : Burst} (h : findBurst s q = some b) : b.rqid = q := by
  simpa using List.find?_some h
@[simp] theorem findBurst_advanceTo (n q : Nat) (s : State) : findBurst (advanceTo n s) q = findBurst s q := by
  simp [findBurst, burstList]
@[simp] theorem reqOf_advanceTo (n q : Nat) (s : State) : reqOf (advanceTo n s) q = reqOf s q := by simp [reqOf]

theorem startBurst_rest (b : Burst) (s : State) : (dlView (startBurst b s)).2 = (dlView s).2 := by
  unfold startBurst
  dsimp only
  rw [foldl_view dlView (fun t h => by simp)]
  simp
theorem reqOf_startBurst {b : Burst} {s : State} {r : ReqRec} (h : reqOf s b.rqid = some r) :
    reqOf (startBurst b s) b.rqid = some { r with burst := .inAir } := by
  refine (reqOf_of_view (foldl_view dlView (fun t h => by simp) _ _) _).trans ?_
  exact reqOf_modReq (s := modBurst _ _ s) (f := fun r => { r with burst := .inAir }) (fun _ => rfl) h
@[simp] theorem blankHead_outbox (h lo hi : Nat) (s : State) : (blankHead h lo hi s).outbox = s.outbox :=
  foldl_view State.outbox (f := fun t a => addErasure a lo (some hi) causeBlank t) (fun _ _ => rfl) (antennasOf h) s
/-- A fold that sends one emission of each element sends those of all of them. -/
theorem mem_outbox_foldl {α : Type} {f : State → α → State} {e : α → Emission} (hf : ∀ t a, (f t a).outbox = e a :: t.outbox)
    {l : List α} {a : α} (ha : a ∈ l) (s : State) : e a ∈ (l.foldl f s).outbox := by
  have hall : (l.foldl f s).outbox = (l.map e).reverse ++ s.outbox := by
    clear ha
    induction l generalizing s with
    | nil => rfl
    | cons x l ih => simp [ih, hf]
  rw [hall]
  exact List.mem_append_left _ (List.mem_reverse.mpr (List.mem_map_of_mem ha))
theorem startBurst_emits {b : Burst} {h : Nat} (hh : h < 12) (hb : b.heads.testBit h = true) (s : State) :
    .burst b.rqid h ∈ (startBurst b s).outbox :=
  mem_outbox_foldl (e := fun h => Emission.burst b.rqid h) (fun t a => by simp [emit])
    (by simp [bitList, hh, hb]) _

/-! ### The commands of a burst, by the burst's state -/

section
variable {q : Nat} {s : State} {b : Burst} {r : ReqRec} (hb : findBurst s q = some b) (hr : reqOf s q = some r)
include hb

theorem buildDeadline_built (h : b.frame ≠ none) : execBuildDeadline q s = .next s := by
  simp [execBuildDeadline, hb, Option.isSome_iff_ne_none.mpr h]
theorem burstStart_early {n : Nat} (hv : s.time.valid = true) (hle : s.time.airTime ≤ n) (hn : (n : Int) < startTick b) :
    execBurstStart q n s = .next (advanceTo n s) := by
  simp [execBurstStart, hb, advanceTo_airTime_of_le hv hle, hn]
/-- The burst leaves the timeline, and a staged reply its entry, before the attempt ends. -/
theorem burstEnd_eq (hair : b.inAir = true) : ∃ t, dlView t = dlView (advanceTo (ceil16 b.end16) s)
    ∧ execBurstEnd q s = .next (endAttempt b .served .ok .sent (b.end16 / 16) b.symbols false t) := by
  simp only [execBurstEnd, hb, hair, if_true]
  cases b.replyIdx with
  | none =>
    refine ⟨_, ?_, rfl⟩
    exact dlView_dropBurst _ _
  | some i =>
    refine ⟨_, ?_, rfl⟩
    exact (dlView_putSetting _ _ _ _ _ _).trans (dlView_dropBurst _ _)

include hr

theorem buildDeadline_missed (hair : b.inAir = false) (h : b.frame = none) :
    ∃ u, execBuildDeadline q s = .next u
      ∧ reqOf u q = some { r with outcome := .refused, status := .incomplete, burst := .notSent, endAt := 0 } := by
  obtain rfl := rqid_of_findBurst hb
  exact ⟨removeBurst b (advanceTo ((startTick b).toNat - 64) s), by simp [execBuildDeadline, hb, hair, h],
    reqOf_removeBurst (by simpa using hr)⟩
theorem burstStart_due {n : Nat} (hair : b.inAir = false) (hv : s.time.valid = true) (hle : s.time.airTime ≤ n)
    (hn : (n : Int) = startTick b) (hf : b.frame ≠ none) :
    ∃ u, execBurstStart q n s = .next u ∧ u.time.airTime = n ∧ reqOf u q = some { r with burst := .inAir }
      ∧ ∀ h, h < 12 → b.heads.testBit h = true → .burst q h ∈ u.outbox := by
  have hat := advanceTo_airTime_of_le hv hle
  obtain rfl := rqid_of_findBurst hb
  refine ⟨startBurst b (advanceTo n s), ?_, ?_, reqOf_startBurst (by simpa using hr), fun h hh hbit => startBurst_emits hh hbit _⟩
  · simp [execBurstStart, hb, hair, hv, hat, hn, hf]
  · rw [time_of_view (startBurst_rest _ _), hat]
theorem burstStart_missed {n : Nat} (hair : b.inAir = false) (hv : s.time.valid = true) (hle : s.time.airTime ≤ n)
    (hn : startTick b < (n : Int) ∨ ((n : Int) = startTick b ∧ b.frame = none)) :
    ∃ u, execBurstStart q n s = .next u
      ∧ reqOf u q = some { r with outcome := .refused, status := .incomplete, burst := .notSent, endAt := 0 } := by
  have hat := advanceTo_airTime_of_le hv hle
  obtain rfl := rqid_of_findBurst hb
  refine ⟨removeBurst b (advanceTo n s), ?_, reqOf_removeBurst (by simpa using hr)⟩
  have hlate : ¬(n : Int) < startTick b := by omega
  have hnot : b.frame = none ∨ startTick b < (n : Int) := hn.symm.imp And.right id
  simp [execBurstStart, hb, hair, hv, hat, hlate, hnot]
theorem burstEnd_sent (hair : b.inAir = true) :
    ∃ u, execBurstEnd q s = .next u
      ∧ reqOf u q = some { r with outcome := .served, status := .ok, burst := .sent, endAt := b.end16 / 16 } := by
  obtain ⟨t, ht, hexec⟩ := burstEnd_eq hb hair
  obtain rfl := rqid_of_findBurst hb
  exact ⟨_, hexec, reqOf_endAttempt ((reqOf_of_view ht _).trans (by simpa using hr))⟩
end

/-! ### The mask (09 R259) -/

/-- Counters raised once each. -/
theorem tabGet_foldl_bump {l : List Nat} (hl : l.Nodup) (t : Tab Nat) (i : Nat) :
    tabGet 0 (l.foldl (fun t i => bump t i) t) i = if i ∈ l then (tabGet 0 t i + 1) % 2 ^ 32 else tabGet 0 t i := by
  induction l generalizing t with
  | nil => rfl
  | cons k l ih =>
    obtain ⟨hk, hl⟩ := List.nodup_cons.mp hl
    rw [List.foldl_cons, ih hl, bump, bumpBy, tabMod, tabGet_set]
    by_cases hik : i = k
    · subst hik; simp [hk]
    · simp [hik]
theorem exceededSegments_lt {s : State} {a r i : Nat} (h : i ∈ exceededSegments s a r) : i < 16 := by
  have hrange : ∀ (c : Prop) [Decidable c] (p : Nat → Bool), i ∈ (if c then [] else (List.range 16).filter p) → i < 16 := by
    intro c _ p hi
    split at hi
    · cases hi
    · exact List.mem_range.mp (List.mem_of_mem_filter hi)
  exact hrange _ _ h
/-- The segments judged are those that some emitting antenna exceeds. -/
theorem mem_exceededKeys {s : State} {r i : Nat} (hi : i < 16) :
    i ∈ (((emittingAntennas s).flatMap (fun a => (exceededSegments s a r).map (fun i => 16 * a + i))).map (fun k => k % 16)).dedup
      ↔ (emittingAntennas s).any (fun a => (exceededSegments s a r).contains i) = true := by
  simp only [List.mem_dedup, List.mem_map, List.mem_flatMap, List.any_eq_true, List.contains_iff_mem]
  constructor
  · rintro ⟨_, ⟨a, ha, j, hj, rfl⟩, rfl⟩
    have := exceededSegments_lt hj
    exact ⟨a, ha, by rwa [show (16 * a + j) % 16 = j by omega]⟩
  · rintro ⟨a, ha, hj⟩
    exact ⟨_, ⟨a, ha, i, hj, rfl⟩, by omega⟩
/-- A block judged: its number, and each segment that an emitting antenna exceeds counted once. -/
theorem judgeBlock_counts (r : Nat) (follows : Bool) (s : State) : (judgeBlock r follows s).tx.maskLast = some r
    ∧ ∀ i, i < 16 → tabGet 0 (judgeBlock r follows s).tx.maskBlocks i =
        if (emittingAntennas s).any (fun a => (exceededSegments s a r).contains i) = true
        then (tabGet 0 s.tx.maskBlocks i + 1) % 2 ^ 32 else tabGet 0 s.tx.maskBlocks i := by
  have hstops : ∀ (l : List Burst) (t : State), (dlView (l.foldl (fun t b => stopBurst b true t) t)).2 = (dlView t).2 :=
    foldl_view (fun t => (dlView t).2) (fun t b => stopBurst_rest b true t)
  constructor
  · exact tx_maskLast_of_view (hstops _ _)
  · intro i hi
    refine (congrArg (tabGet 0 · i) (tx_maskBlocks_of_view (hstops _ _))).trans ?_
    refine (tabGet_foldl_bump (List.nodup_dedup _) _ _).trans ?_
    simp only [mem_exceededKeys hi]
theorem maskBlockEnd_judges {r k : Nat} {s : State} (h : ∀ n, s.tx.maskLast = some n → n < r) :
    ∃ follows, execMaskBlockEnd r k s = .next (judgeBlock r follows (advanceTo (max (256 * (r + 1)) k) s)) := by
  simp only [execMaskBlockEnd, advanceTo_tx]
  cases hlast : s.tx.maskLast with
  | none => exact ⟨_, rfl⟩
  | some n => exact ⟨_, if_neg (Nat.not_le.mpr (h n hlast))⟩

/-! ### An attempt of a station's request (09 R238) -/

/-- The attempt numbered n stands on the ring under its slot and origin, and the next number is taken. -/
def standsAs (a : Ask) (n : Nat) (u : State) : Prop :=
  u.tx.nextRqid = seqNext n ∧ ∃ r, reqOf u n = some r ∧ r.slot = a.slot ∧ r.origin = a.origin
theorem standsAs.of_view {a : Ask} {n : Nat} {s u : State} (h : standsAs a n s) (e : dlView u = dlView s) : standsAs a n u := by
  obtain ⟨hn, r, hr, hrest⟩ := h
  exact ⟨(tx_nextRqid_of_view (congrArg Prod.snd e)).trans hn, r, (reqOf_of_view e n).trans hr, hrest⟩
theorem standsAs.modReq {a : Ask} {n : Nat} {s : State} {f : ReqRec → ReqRec} (h : standsAs a n s)
    (hf : ∀ r, (f r).rqid = r.rqid ∧ (f r).slot = r.slot ∧ (f r).origin = r.origin) : standsAs a n (modReq n f s) := by
  obtain ⟨hn, r, hr, hslot, horigin⟩ := h
  obtain ⟨-, hfslot, hforigin⟩ := hf r
  exact ⟨(tx_nextRqid_of_view (dlView_modReq_snd _ _ _)).trans hn, f r, reqOf_modReq (fun r => (hf r).1) hr,
    hfslot.trans hslot, hforigin.trans horigin⟩
theorem standsAs.attemptCommit {a : Ask} {n : Nat} {s : State} (h : standsAs a n s) (outcome hold : Bool)
    (f : Entry × Account → Entry × Account) : standsAs a n (attemptCommit a outcome hold f s) :=
  h.of_view (dlView_attemptCommit ..)

/-- The record of a new attempt that is not CARRIED. -/
def newRecord (a : Ask) (n : Nat) : ReqRec :=
  { rqid := n, slot := a.slot, origin := a.origin, vi := a.vi, profile := a.profile, prev := a.prev }
/-- Such an attempt, numbered and counted, before its checks. -/
def opened (a : Ask) (s : State) : State :=
  dlBump a.vi 4 (dlBump a.vi 0 (openReq (newRecord a s.tx.nextRqid) (takeRqid s).2))
theorem dlView_opened (a : Ask) (s : State) :
    dlView (opened a s) = dlView (putReq (newRecord a s.tx.nextRqid) (takeRqid s).2) := by
  rw [opened, dlView_dlBump, dlView_dlBump]; rfl
theorem opened_stands (a : Ask) (s : State) : standsAs a s.tx.nextRqid (opened a s) := by
  refine standsAs.of_view ⟨rfl, newRecord a s.tx.nextRqid, ?_, rfl, rfl⟩ (dlView_opened a s)
  exact reqOf_putReq _ _
theorem entryOf_opened (a : Ask) (s : State) (k : Nat) : entryOf (opened a s) k = entryOf s k := by
  rw [opened, entryOf_dlBump, entryOf_dlBump]; rfl
theorem deferred_opened (a : Ask) (s : State) : (opened a s).tx.deferred = s.tx.deferred :=
  (tx_deferred_of_view (congrArg Prod.snd (dlView_opened a s))).trans rfl
/-- The attempt's cost, noted once it has passed the checks of its entry. -/
def priced (a : Ask) (s : State) : State := modReq s.tx.nextRqid (fun r => { r with cost := a.cost }) (opened a s)
theorem priced_stands (a : Ask) (s : State) : standsAs a s.tx.nextRqid (priced a s) :=
  (opened_stands a s).modReq fun _ => ⟨rfl, rfl, rfl⟩
theorem deferred_priced (a : Ask) (s : State) : (priced a s).tx.deferred = s.tx.deferred :=
  (tx_deferred_of_view (dlView_modReq_snd _ _ _)).trans (deferred_opened a s)

/-- One request more waits for the entry. -/
def deferMore (p : Entry × Account) : Entry × Account := ({ p.1 with defer := p.1.defer + 1 }, p.2)
/-- A station's attempt, by the outcome of checks 4 to 7. -/
theorem attempt_station {a : Ask} (h : a.origin = .station) (s : State) : attempt a s =
    match entryChecks (opened a s) a with
    | some st => (attemptCommit a true false id (refuseReq s.tx.nextRqid a.vi st (opened a s)), s.tx.nextRqid, .refused)
    | none =>
      if wouldDefer (priced a s) a then
        (attemptCommit a true true deferMore (deferReq s.tx.nextRqid a (priced a s)), s.tx.nextRqid, .waiting)
      else tryPlace s.tx.nextRqid a (attemptCommit a true true (refundCredits a.cost)) (attemptCommit a false true id) (priced a s) := by
  obtain ⟨origin, slot, vi, profile⟩ := a
  subst h
  rfl
theorem refuseReq_stands {a : Ask} {n : Nat} {s : State} (h : standsAs a n s) (vi : Nat) (st : Status) :
    standsAs a n (refuseReq n vi st s) :=
  (h.modReq (f := fun r => { r with outcome := .refused, status := st }) fun _ => ⟨rfl, rfl, rfl⟩).of_view rfl
/-- A request joins those that wait. -/
def enqueue (d : Deferred) (s : State) : State := { s with tx := { s.tx with deferred := s.tx.deferred ++ [d] } }
theorem entryOf_enqueue (d : Deferred) (s : State) (k : Nat) : entryOf (enqueue d s) k = entryOf s k := rfl
theorem reqOf_enqueue (d : Deferred) (s : State) (q : Nat) : reqOf (enqueue d s) q = reqOf s q := rfl
theorem nextRqid_enqueue (d : Deferred) (s : State) : (enqueue d s).tx.nextRqid = s.tx.nextRqid := rfl
theorem deferred_enqueue (d : Deferred) (s : State) : (enqueue d s).tx.deferred = s.tx.deferred ++ [d] := rfl
theorem deferReq_eq (n : Nat) (a : Ask) (s : State) : deferReq n a s =
    enqueue ⟨n, a.slot, a.vi, a.cost, a.isAck, a.payload, a.micl⟩
      (dlBump a.vi 3 (dlDrop a.vi 4 (modReq n (fun r => { r with outcome := .deferred, status := .deferred }) s))) := rfl
theorem entryOf_deferReq (n : Nat) (a : Ask) (s : State) (k : Nat) : entryOf (deferReq n a s) k = entryOf s k := by
  rw [deferReq_eq, entryOf_enqueue, entryOf_dlBump, entryOf_dlDrop, entryOf_modReq]
theorem reqOf_deferReq {n : Nat} {a : Ask} {s : State} {r : ReqRec} (h : reqOf s n = some r) :
    reqOf (deferReq n a s) n = some { r with outcome := .deferred, status := .deferred } := by
  rw [deferReq_eq, reqOf_enqueue, reqOf_of_view ((dlView_dlBump _ _ _).trans (dlView_dlDrop _ _ _))]
  exact reqOf_modReq (fun _ => rfl) h
theorem deferred_deferReq (n : Nat) (a : Ask) (s : State) : (deferReq n a s).tx.deferred
    = s.tx.deferred ++ [⟨n, a.slot, a.vi, a.cost, a.isAck, a.payload, a.micl⟩] := by
  rw [deferReq_eq, deferred_enqueue, tx_deferred_of_view (u := dlBump _ _ _) (s := s) (by simp)]
theorem deferReq_stands {a : Ask} {n : Nat} {s : State} (h : standsAs a n s) : standsAs a n (deferReq n a s) := by
  obtain ⟨hn, r, hr, hrest⟩ := h
  refine ⟨?_, _, reqOf_deferReq hr, hrest⟩
  rw [deferReq_eq, nextRqid_enqueue, tx_nextRqid_of_view (u := dlBump _ _ _) (s := s) (by simp), hn]
/-- A place that the checks allow is one for the attempt's own number. -/
theorem placeChecks_rqid {s : State} {n : Nat} {a : Ask} {p : Placing} (h : placeChecks s n a = .inr p) : p.burst.rqid = n := by
  unfold placeChecks at h
  dsimp only at h
  repeat' split at h
  all_goals cases h
  rfl
theorem placeBurst_stands {a : Ask} {n : Nat} {p : Placing} {s : State} (h : standsAs a n s) (hp : p.burst.rqid = n) :
    standsAs a n (placeBurst p s) := by
  subst hp
  have htaken : standsAs a p.burst.rqid
      (putBurst p.place p.burst ((bitList 12 p.burst.heads).foldl (fun t h => takeTokens h p.burst.tokens t) s)) :=
    h.of_view ((dlView_putBurst _ _ _).trans (foldl_view dlView (fun t h => dlView_takeTokens _ _ t) _ _))
  refine (htaken.modReq (f := fun r => { r with
    burst := .placed, start := p.burst.s16 / 16, frac := p.burst.s16 % 16, heads := p.burst.heads, clamped := p.clamped,
    fallback := p.fallback, dlpend := p.burst.dlpend, level := p.level }) fun _ => ⟨rfl, rfl, rfl⟩).of_view ?_
  simp only [placeBurst, dlView_raisePort, dlView_queueBurst, dlView_dlBump]
theorem tryPlace_stands {a : Ask} {n : Nat} {refused placed : State → State} {s : State} (h : standsAs a n s)
    (hr : ∀ t, dlView (refused t) = dlView t) (hp : ∀ t, dlView (placed t) = dlView t) :
    standsAs a n (tryPlace n a refused placed s).1 ∧ (tryPlace n a refused placed s).2.1 = n := by
  unfold tryPlace
  split
  · exact ⟨(refuseReq_stands h _ _).of_view (hr _), rfl⟩
  case h_2 p hplace => exact ⟨placeBurst_stands (h.of_view (hp _)) (placeChecks_rqid hplace), rfl⟩
/-- Whatever the checks say, the attempt has taken the next number and stands on the ring under it. -/
theorem attempt_station_stands {a : Ask} (h : a.origin = .station) (s : State) :
    standsAs a s.tx.nextRqid (attempt a s).1 ∧ (attempt a s).2.1 = s.tx.nextRqid := by
  rw [attempt_station h]
  split
  · exact ⟨(refuseReq_stands (opened_stands a s) _ _).attemptCommit _ _ _, rfl⟩
  · split
    · exact ⟨(deferReq_stands (priced_stands a s)).attemptCommit _ _ _, rfl⟩
    · exact tryPlace_stands (priced_stands a s) (fun _ => dlView_attemptCommit ..) (fun _ => dlView_attemptCommit ..)

/-! ### A request for the next receive window (09 R240; 08 R224) -/

theorem debit_held (t : Term) (n : Nat) (p : Entry × Account) :
    (debit t n p).1.held = p.1.held ∧ (debit t n p).1.defer = p.1.defer := by
  unfold debit
  dsimp only
  split <;> exact ⟨rfl, rfl⟩
theorem accrue_held (rate cap dt : Nat) (p : Entry × Account) :
    (accrue rate cap dt p).1.held = p.1.held ∧ (accrue rate cap dt p).1.defer = p.1.defer := ⟨rfl, rfl⟩
theorem touchBase_held (m : Model) (rate cap now : Nat) (p : Entry × Account) :
    (touchBase m rate cap now p).1.held = p.1.held ∧ (touchBase m rate cap now p).1.defer = p.1.defer := by
  simp only [touchBase, accrue_held, debit_held, and_self]
/-- A touch moves neither the credits held nor the requests that wait. -/
theorem touchedPair_held (s : State) (slot : Nat) :
    (touchedPair s slot).1.held = (entryOf s slot).held ∧ (touchedPair s slot).1.defer = (entryOf s slot).defer :=
  touchBase_held _ _ _ _ _
theorem entryOf_commit (cause slot : Nat) (p : Entry × Account) (s : State) (k : Nat) :
    entryOf (commit cause slot p s) k = if k = slot then (markLow p).1 else entryOf s k := by
  by_cases h : k = slot <;> simp [commit, h]
/-- The commit of an attempt that holds its cost. -/
theorem entryOf_attemptCommit_hold {a : Ask} {s : State} (ho : a.origin ≠ .carried) (hlive : (entryOf s a.slot).status ≠ .free)
    (f : Entry × Account → Entry × Account) (k : Nat) : entryOf (attemptCommit a true true f s) k
      = if k = a.slot then (markLow (f (holdCredits a.cost (touchedPair s a.slot)))).1 else entryOf s k := by
  rw [← entryOf_commit causeDownlink]
  simp only [attemptCommit, hlive, ho, if_false, if_true]
/-- An endpoint that can take a request passes checks 4 to 6. -/
theorem entryChecks_pass {s : State} {a : Ask} {e : Entry} (he : entryOf s a.slot = e) (ha : e.status = .active)
    (hl : e.lastAt ≠ 0) (hm : e.migrating = false) (hd : e.defer ≠ 15) (hc : a.cost ≤ e.credits) : entryChecks s a = none := by
  simp [entryChecks, he, ha, hl, hm, hd, hc]
theorem deferMore_held (c : Nat) (p : Entry × Account) : (markLow (deferMore (holdCredits c p))).1.held = p.1.held + c
    ∧ (markLow (deferMore (holdCredits c p))).1.defer = p.1.defer + 1 := ⟨rfl, rfl⟩

section
variable {a : Ask} {s : State} (ho : a.origin = .station) (hw : a.window = true) (ha : (entryOf s a.slot).status = .active)
  (hl : (entryOf s a.slot).lastAt ≠ 0) (hm : (entryOf s a.slot).migrating = false) (hd : (entryOf s a.slot).defer ≠ 15)
  (hc : a.cost ≤ (entryOf s a.slot).credits)
include ho hw ha hl hm hd hc

theorem attempt_window_eq : (attempt a s).1 = attemptCommit a true true deferMore (deferReq s.tx.nextRqid a (priced a s)) := by
  have hpass : entryChecks (opened a s) a = none := entryChecks_pass (entryOf_opened a s a.slot) ha hl hm hd hc
  have hdefer : wouldDefer (priced a s) a = true := by simp [wouldDefer, hw, ho]
  rw [attempt_station ho, hpass]
  dsimp only
  rw [if_pos hdefer]
/-- Its record reads DEFERRED. -/
theorem attempt_window_status {r : ReqRec} (hr : reqOf (attempt a s).1 s.tx.nextRqid = some r) : r.status = .deferred := by
  obtain ⟨_, q, hq, _⟩ := priced_stands a s
  rw [attempt_window_eq ho hw ha hl hm hd hc, reqOf_of_view (dlView_attemptCommit ..), reqOf_deferReq hq] at hr
  cases hr
  rfl
/-- It waits at the queue's end. -/
theorem attempt_window_deferred : (attempt a s).1.tx.deferred
    = s.tx.deferred ++ [⟨s.tx.nextRqid, a.slot, a.vi, a.cost, a.isAck, a.payload, a.micl⟩] := by
  rw [attempt_window_eq ho hw ha hl hm hd hc, tx_deferred_of_view (congrArg Prod.snd (dlView_attemptCommit ..)),
    deferred_deferReq, deferred_priced]
/-- Its cost is held, on its entry alone. -/
theorem entryOf_attempt_window : (entryOf (attempt a s).1 a.slot).held = (entryOf s a.slot).held + a.cost
    ∧ (entryOf (attempt a s).1 a.slot).defer = (entryOf s a.slot).defer + 1
    ∧ ∀ k, k ≠ a.slot → entryOf (attempt a s).1 k = entryOf s k := by
  have hentry : ∀ k, entryOf (deferReq s.tx.nextRqid a (priced a s)) k = entryOf s k := fun k => by
    rw [entryOf_deferReq, priced, entryOf_modReq, entryOf_opened]
  rw [attempt_window_eq ho hw ha hl hm hd hc]
  generalize deferReq s.tx.nextRqid a (priced a s) = x at hentry
  have hlive : (entryOf x a.slot).status ≠ .free := by rw [hentry, ha]; decide
  have hcommit := entryOf_attemptCommit_hold (a := a) (by rw [ho]; decide) hlive deferMore
  obtain ⟨hheld, hdefer⟩ := touchedPair_held x a.slot
  refine ⟨?_, ?_, fun k hk => ?_⟩
  · rw [hcommit, if_pos rfl, (deferMore_held _ _).1, hheld, hentry]
  · rw [hcommit, if_pos rfl, (deferMore_held _ _).2, hdefer, hentry]
  · rw [hcommit, if_neg hk, hentry]
end

/-! ### The object write (09 R237) -/

/-- What a request of Table 9.1 asks for. -/
def stationAsk (s : State) (len v : Nat) : Ask :=
  let slot := octField len v 0 3
  let n := octAt len v 6
  let e := entryOf s slot
  { origin := .station, slot := slot, vi := e.vi, profile := e.profile
    payload := (List.range n).map (fun i => octAt len v (16 + i)), micl := octAt len v 5 = 1, window := octAt len v 4 = 0
    s16 := 16 * octField len v 8 15 + octAt len v 7, bin := e.lastBin, mcode := e.lastMcode, cost := requestCost n
    symbols := downlinkSymbols e.profile n (octAt len v 5 = 1) }
/-- A request that Table 9.1 allows, for an endpoint whose profile has a downlink. -/
structure allowed (vi : Fin 16) (len v : Nat) (s : State) : Prop where
  checked : writeCheck s vi 0x5030 1 0 len v = none
  slice : inSlice s vi (octField len v 0 3) = true
  mode : octAt len v 4 ≤ 1
  flags : octAt len v 5 ≤ 1
  size : octAt len v 6 ≤ 96
  length : len = 16 + octAt len v 6
  frac : octAt len v 7 ≤ 15
  window : octAt len v 4 = 0 → octAt len v 7 = 0 ∧ octField len v 8 15 = 0
  bound : (entryOf s (octField len v 0 3)).status ≠ .free
  profile : isVendor (entryOf s (octField len v 0 3)).profile = true
    ∨ (isCustomer (entryOf s (octField len v 0 3)).profile = true
        ∧ (packageOf s (entryOf s (octField len v 0 3)).profile).inst.raw = false)
/-- An allowed request is an attempt, answered with its number and its record's status. -/
theorem downlinkRequest_allowed {vi : Fin 16} {len v : Nat} {s : State} (h : allowed vi len v s) {r : ReqRec}
    (hr : reqOf (attempt (stationAsk s len v) s).1 s.tx.nextRqid = some r) :
    execDownlinkRequest vi len v s
      = .next (answerOf r.status s.tx.nextRqid (attempt (stationAsk s len v) s).1) := by
  have hq : (attempt (stationAsk s len v) s).2.1 = s.tx.nextRqid := (attempt_station_stands rfl s).2
  have hform : ¬(1 < octAt len v 4 ∨ 1 < octAt len v 5 ∨ 96 < octAt len v 6 ∨ 15 < octAt len v 7 ∨ len ≠ 16 + octAt len v 6
      ∨ (octAt len v 4 = 0 ∧ (octAt len v 7 ≠ 0 ∨ octField len v 8 15 ≠ 0))) := by
    have := h.mode; have := h.flags; have := h.size; have := h.length; have := h.frac; have := h.window
    omega
  have hprof : (isVendor (entryOf s (octField len v 0 3)).profile || (isCustomer (entryOf s (octField len v 0 3)).profile
      && !(packageOf s (entryOf s (octField len v 0 3)).profile).inst.raw)) = true := by simpa using h.profile
  have hreq : downlinkRequest vi len v s = ((attempt (stationAsk s len v) s).1, r.status, s.tx.nextRqid) := by
    simp only [downlinkRequest, h.slice, hform, h.bound, hprof, Bool.not_true, Bool.false_eq_true, if_false]
    change (match reqOf (attempt (stationAsk s len v) s).1 (attempt (stationAsk s len v) s).2.1 with
      | some r => ((attempt (stationAsk s len v) s).1, r.status, (attempt (stationAsk s len v) s).2.1)
      | none => ((attempt (stationAsk s len v) s).1, .ok, (attempt (stationAsk s len v) s).2.1)) = _
    rw [hq, hr]
  simp only [execDownlinkRequest, h.checked, hreq]

/-! ### The statement, part by part -/

/-- An allowed request: its number, its record, and its waiting where it asks for the next receive window. -/
theorem downlinkRequest_answers {vi : Fin 16} {len v : Nat} {s : State} (h : allowed vi len v s) :
    let slot := octField len v 0 3
    let n := octAt len v 6
    let e := entryOf s slot
    ∃ u, execDownlinkRequest vi len v s = .next u ∧ u.answer.data = s.tx.nextRqid ∧ u.tx.nextRqid = seqNext s.tx.nextRqid
      ∧ (∃ r, reqOf u s.tx.nextRqid = some r ∧ r.status = u.answer.status ∧ r.slot = slot ∧ r.origin = .station)
      ∧ (octAt len v 4 = 0 → e.status = .active → e.lastAt ≠ 0 → e.migrating = false → e.defer ≠ 15 →
          requestCost n ≤ e.credits →
          u.answer.status = .deferred ∧ (entryOf u slot).held = e.held + requestCost n
            ∧ (entryOf u slot).defer = e.defer + 1
            ∧ (∃ d, u.tx.deferred = s.tx.deferred ++ [d] ∧ d.rqid = s.tx.nextRqid ∧ d.slot = slot
                ∧ d.payload = (List.range n).map (fun i => octAt len v (16 + i)))
            ∧ ∀ k, k ≠ slot → entryOf u k = entryOf s k) := by
  obtain ⟨⟨hnext, r, hr, hslot, horigin⟩, -⟩ := attempt_station_stands (a := stationAsk s len v) rfl s
  refine ⟨_, downlinkRequest_allowed h hr, rfl, hnext, ⟨r, hr, rfl, hslot, horigin⟩, fun hmode ha hl hm hd hc => ?_⟩
  have hw : (stationAsk s len v).window = true := decide_eq_true hmode
  obtain ⟨hheld, hdefer, hother⟩ := entryOf_attempt_window (a := stationAsk s len v) rfl hw ha hl hm hd hc
  have hwaits := attempt_window_deferred (a := stationAsk s len v) rfl hw ha hl hm hd hc
  exact ⟨attempt_window_status rfl hw ha hl hm hd hc hr, hheld, hdefer, ⟨_, hwaits, rfl, rfl, rfl⟩, hother⟩

/-- Settles O50: a request by the checks of its attempt, a burst by its place before, in or after the tick of its start, a
mask block by the segments its antennas exceed. -/
theorem downlinks : Obligations.Downlinks := by
  refine ⟨?_, ?_, ?_⟩
  · intro vi len v s slot mode n e hcheck hslice hmode hflags hsize hlen hfrac hwindow hbound hprofile
    exact downlinkRequest_answers ⟨hcheck, hslice, hmode, hflags, hsize, hlen, hfrac, hwindow, hbound, hprofile⟩
  · intro q s b r hb hr
    exact ⟨buildDeadline_missed hb hr, fun _ => buildDeadline_built hb,
      fun n hair hv hle => ⟨burstStart_early hb hv hle, burstStart_due hb hr hair hv hle, burstStart_missed hb hr hair hv hle⟩,
      burstEnd_sent hb hr⟩
  · intro r k s hlast
    obtain ⟨follows, hexec⟩ := maskBlockEnd_judges (k := k) hlast
    obtain ⟨hjudged, hcounts⟩ := judgeBlock_counts r follows (advanceTo (max (256 * (r + 1)) k) s)
    exact ⟨_, hexec, hjudged, by simpa only [advanceTo_tx] using hcounts⟩

end Sys2Proof.Machine
end

section
/-! What bursts, captures, lanes and tokens leave alone of the state: the mode, mains, the clocks, the fault unit, the settings and
the tiles (`standing`). The commands of 02 and 03 stop and start all of these on their way from one mode to another. -/

namespace Sys2Proof.Machine

/-! ### What traffic leaves -/

/-- The parts of the state that bursts, captures, lanes and tokens leave alone, as far as modes and mains read them. -/
structure Standing where
  mode : ModeUnit
  power : PowerUnit
  time : TimeUnit
  fault : FaultUnit
  settings : Tab Nat
  tiles : Tab Tile
def standing (s : State) : Standing := ⟨s.mode, s.power, s.time, s.fault, s.settings, s.tiles⟩
/-- A record update written out. -/
theorem standing_mk {p fc a o st m pw t l r sw v ro tx ci pf ti me pa f mo sk sn sa} :
    standing (State.mk p fc a o st m pw t l r sw v ro tx ci pf ti me pa f mo sk sn sa) = ⟨m, pw, t, f, st, ti⟩ := rfl

theorem standing_of_prefectOnly {s u : State} (h : prefectOnly s u) : standing u = standing s := by rw [h]; rfl

/-! Messages, tokens and records of a burst. -/

@[simp] theorem standing_emit (e : Emission) (s : State) : standing (emit e s) = standing s := rfl
@[simp] theorem standing_sendMsg (l type : Nat) (fields : List (Nat × Nat)) (s : State) :
    standing (sendMsg l type fields s) = standing s := by
  unfold sendMsg; dsimp only; split <;> rfl
@[simp] theorem standing_txenFor (h t : Nat) (s : State) : standing (txenFor h t s) = standing s := by
  unfold txenFor
  split
  · exact standing_sendMsg _ _ _ _
  · rfl
@[simp] theorem standing_txensFor (h : Nat) (times : List Nat) (s : State) : standing (txensFor h times s) = standing s :=
  foldl_view _ (fun t a => standing_txenFor h a t) _ _
@[simp] theorem standing_giveTokens (h n : Nat) (s : State) : standing (giveTokens h n s) = standing s := rfl
@[simp] theorem standing_trimBlank (h lo hi hi' : Nat) (s : State) : standing (trimBlank h lo hi hi' s) = standing s := by
  unfold trimBlank; split <;> rfl
@[simp] theorem standing_dropBurst (q : Nat) (s : State) : standing (dropBurst q s) = standing s := by
  unfold dropBurst
  split
  · exact (standing_of_prefectOnly (raisePort_only _ _ _)).trans rfl
  · rfl
@[simp] theorem standing_modReq (q : Nat) (f : ReqRec → ReqRec) (s : State) : standing (modReq q f s) = standing s := by
  unfold modReq; split <;> rfl
@[simp] theorem standing_dlBump (vi term : Nat) (s : State) : standing (dlBump vi term s) = standing s := rfl
@[simp] theorem standing_dlDrop (vi term : Nat) (s : State) : standing (dlDrop vi term s) = standing s := rfl
theorem standing_journalRoll (cause slot : Nat) (e : Entry) (body : JBody) (s : State) :
    standing (journalRoll cause slot e body s) = standing s := rfl
theorem standing_setAccount (s : State) (slot : Nat) (a : Account) : standing (setAccount s slot a) = standing s := rfl
theorem standing_setEntry (s : State) (slot : Nat) (e : Entry) : standing (setEntry s slot e) = standing s := rfl
@[simp] theorem standing_commit (cause slot : Nat) (p : Entry × Account) (s : State) :
    standing (commit cause slot p s) = standing s := by
  unfold commit; dsimp only; rw [standing_journalRoll, standing_setAccount, standing_setEntry]
theorem standing_cascadeSend (dst type : Nat) (fields : List (Nat × Nat)) (s : State) :
    standing (cascadeSend dst type fields s) = standing s := by
  unfold cascadeSend; dsimp only; split <;> rfl
@[simp] theorem standing_sendPrepare (slot : Nat) (s : State) : standing (sendPrepare slot s) = standing s := by
  unfold sendPrepare
  dsimp only
  split
  · exact standing_cascadeSend _ _ _ _
  · rfl

/-! Bursts. -/

@[simp] theorem standing_endAttempt (b : Burst) (o : DlOutcome) (st : Status) (bs : BurstState) (endAt n : Nat) (m : Bool)
    (s : State) : standing (endAttempt b o st bs endAt n m s) = standing s := by
  simp only [endAttempt, apply_ite standing, standing_sendPrepare, standing_commit, standing_dlDrop, standing_dlBump,
    standing_modReq, ite_self]
@[simp] theorem standing_removeBurst (b : Burst) (s : State) : standing (removeBurst b s) = standing s := by
  refine (standing_endAttempt ..).trans ?_
  rw [foldl_view standing (fun t h => standing_txensFor _ _ t), standing_dropBurst,
    foldl_view standing (fun t h => standing_giveTokens _ _ t)]
@[simp] theorem standing_stopBurst (b : Burst) (m : Bool) (s : State) : standing (stopBurst b m s) = standing s := by
  refine (standing_endAttempt ..).trans ?_
  rw [foldl_view standing (fun t h => standing_txensFor _ _ t), standing_dropBurst]
  refine Eq.trans (b := standing ((bitList 12 b.heads).foldl _ ((bitList 12 b.taken).foldl _ s))) rfl ?_
  rw [foldl_view standing (fun t h => ?_), foldl_view standing (fun t h => standing_giveTokens _ _ t)]
  simp only [standing_emit, standing_trimBlank]
  split <;> simp [sendParamp]
@[simp] theorem standing_clearTimeline (s : State) : standing (clearTimeline s) = standing s :=
  foldl_view standing (fun t b => by split <;> simp) _ _
@[simp] theorem standing_stopBursts (s : State) : standing (stopBursts s) = standing s :=
  (standing_clearTimeline _).trans (foldl_view standing (fun t b => by split <;> simp) _ _)

/-! Requests and captures. -/

theorem standing_stopRequests (s : State) : standing (stopRequests s) = standing s :=
  foldl_view standing (f := fun t d => refuseRequest d .mode (roundAt t) t) (fun _ _ => rfl) _ _
theorem standing_releaseLoop (d : Detection) (s : State) : standing (releaseLoop d s) = standing s := rfl
theorem standing_uncover (dseq : Nat) (s : State) : standing (uncover dseq s) = standing s := rfl
theorem standing_setCapture (s : State) (c : Nat) (x : Capture) : standing (setCapture s c x) = standing s := rfl
theorem standing_frameBump (key : Nat) (s : State) : standing (frameBump key s) = standing s := rfl
theorem standing_releaseCapture (c : Nat) (d : Detection) (cls : VClass) (s : State) :
    standing (releaseCapture c d cls s) = standing s := by
  have h : standing (uncover d.dseq (releaseLoop d (raiseToken 201 (0xF000 + c) (vclassCode cls) s))) = standing s := by
    rw [standing_uncover, standing_releaseLoop, standing_of_prefectOnly (raiseToken_only _ _ _ _)]
  unfold releaseCapture
  dsimp only
  generalize uncover d.dseq _ = x at h ⊢
  rw [standing_setCapture, standing_frameBump]
  exact h
theorem standing_recordEnd (j : Judged) (x : Capture) (d : Detection) (s : State) :
    standing (recordEnd j x d s).1 = standing s := by
  unfold recordEnd; split <;> [rfl; (split <;> rfl)]
theorem standing_countVerdict (r : Verdict) (s : State) : standing (countVerdict r s) = standing s := rfl
theorem standing_holdVerdict (vi : Nat) (h : Held) (s : State) : standing (holdVerdict vi h s) = standing s := rfl
/-- A verdict that names no slot and answers no one is a record, its count, and its place in the ring. -/
theorem standing_issueVerdict_incomplete (c detail latency : Nat) (x : Capture) (d : Detection) (crowd : Bool) (s : State) :
    standing (issueVerdict c x d { cls := .incomplete, detail := detail } latency crowd s) = standing s := by
  unfold issueVerdict
  dsimp only [applyVerdict]
  rw [standing_holdVerdict, standing_countVerdict, standing_recordEnd]
theorem standing_endCapture (c detail : Nat) (s : State) : standing (endCapture c detail s) = standing s := by
  unfold endCapture
  dsimp only
  split
  · rfl
  · rfl
  · exact (standing_releaseCapture ..).trans (standing_issueVerdict_incomplete ..)
@[simp] theorem standing_stopReceive (s : State) : standing (stopReceive s) = standing s :=
  Eq.trans (b := standing (endAllCaptures 2 (stopRequests s))) rfl
    ((foldl_view standing (fun t c => standing_endCapture c 2 t) _ _).trans (standing_stopRequests s))

/-! Lanes and the receive chain. -/

@[simp] theorem standing_openErasure (h : Nat) (s : State) : standing (openErasure h s) = standing s :=
  foldl_view standing (f := fun t a => addErasure a t.time.airTime none causeLane t) (fun _ _ => rfl) _ _
theorem standing_dropGains (l : Nat) (s : State) : standing (dropGains l s) = standing s :=
  foldl_view standing (f := fun t (g : GainChange) => addErasure g.antenna (g.atG - 2) (some t.time.airTime) causeGain t)
    (fun _ _ => rfl) _ { s with rx := { s.rx with gainPending := s.rx.gainPending.filter (fun g => g.lane ≠ l) } }
theorem standing_unlockLane (lossOfFrame : Bool) (l : Nat) (s : State) : standing (unlockLane lossOfFrame l s) = standing s := by
  have hopen : standing (match (laneOf s l).active, headOfLane s l with
      | true, some h => openErasure h s
      | _, _ => s) = standing s := by
    split
    · exact standing_openErasure _ _
    · rfl
  unfold unlockLane
  dsimp only
  split
  · exact (standing_dropGains _ _).trans hopen
  · exact (standing_dropGains _ _).trans hopen
theorem standing_dropLane (l : Nat) (s : State) : standing (dropLane l s) = standing s := standing_unlockLane false l s
theorem standing_dropLanes (l : List Nat) (s : State) : standing (l.foldl (fun t l => dropLane l t) s) = standing s :=
  foldl_view standing (fun t l => standing_dropLane l t) l s
theorem standing_enableLanes (s : State) : standing (enableLanes s) = standing s :=
  foldl_view standing (fun t l => by split <;> rfl) _ _
theorem standing_staleFloors (s : State) : standing (staleFloors s) = standing s := rfl
theorem standing_startReceive (s : State) : standing (startReceive s) = standing s := by
  have herase : ∀ (l : List Nat) (x : State),
      standing (l.foldl (fun t h => if (activeLane t h).isNone then openErasure h t else t) x) = standing x :=
    foldl_view standing (fun t h => by split <;> simp)
  unfold startReceive
  dsimp only
  rw [standing_staleFloors, herase]
  simp only [standing]

/-! The drain of the staging buffer (03 R71). -/

/-- u differs from s at most in what the Roll and the verdict journal hold, the staging buffer apart. -/
def storedOnly (s u : State) : Prop :=
  u = { s with verdict := u.verdict, roll := { u.roll with staging := s.roll.staging } }

theorem storedOnly.trans {s u v : State} (h : storedOnly s u) (g : storedOnly u v) : storedOnly s v := by
  unfold storedOnly at *; rw [g, h]
theorem storedOnly.prefect {s u : State} (h : storedOnly s u) : u.prefect = s.prefect := by rw [h]
theorem storedOnly.molfen {s u : State} (h : storedOnly s u) : u.molfen = s.molfen := by rw [h]
theorem storedOnly.staging {s u : State} (h : storedOnly s u) : u.roll.staging = s.roll.staging := by rw [h]
theorem storedOnly.standing {s u : State} (h : storedOnly s u) : standing u = standing s := by rw [h]; rfl
theorem ringRecord_eq (r : JRec) (s : State) :
    ∃ im l, ringRecord r s = { s with roll := { s.roll with image := im, backlog := l } } := ⟨_, _, rfl⟩
theorem drainItem_stored (x : StagedItem) (s : State) : storedOnly s (drainItem x s) := by
  cases x with
  | verdict h =>
    dsimp only [drainItem]
    split <;> rfl
  | roll r =>
    obtain ⟨im, l, h⟩ := ringRecord_eq r s
    rw [drainItem, h]; rfl
  | conservation k d => rfl
  | account d k v => rfl
theorem foldl_drainItem_stored (l : List (Nat × StagedItem)) (s : State) :
    storedOnly s (l.foldl (fun t p => drainItem p.2 t) s) := by
  induction l generalizing s with
  | nil => rfl
  | cons p l ih => exact (drainItem_stored p.2 s).trans (ih _)
theorem drainStaging_stored (s : State) : storedOnly { s with roll := { s.roll with staging := [] } } (drainStaging s) :=
  foldl_drainItem_stored _ _
theorem drainStaging_staging (s : State) : (drainStaging s).roll.staging = [] := (drainStaging_stored s).staging
theorem drainStaging_prefect (s : State) : (drainStaging s).prefect = s.prefect := (drainStaging_stored s).prefect
theorem drainStaging_molfen (s : State) : (drainStaging s).molfen = s.molfen := (drainStaging_stored s).molfen
@[simp] theorem standing_drainStaging (s : State) : standing (drainStaging s) = standing s := by
  rw [(drainStaging_stored s).standing]; rfl

section
variable {s u : State} (h : standing u = standing s)
include h
theorem mode_of_standing : u.mode = s.mode := congrArg Standing.mode h
theorem power_of_standing : u.power = s.power := congrArg Standing.power h
theorem time_of_standing : u.time = s.time := congrArg Standing.time h
theorem fault_of_standing : u.fault = s.fault := congrArg Standing.fault h
theorem settings_of_standing : u.settings = s.settings := congrArg Standing.settings h
theorem tiles_of_standing : u.tiles = s.tiles := congrArg Standing.tiles h
end

end Sys2Proof.Machine
end

section
/-! O30, O31 and O18 (02 R34, R39 to R44, R49 to R55; 15 R400). A transition sets the mode; what it stops or starts leaves it
standing; the end of the command then moves it once more where the causes or the reason bits call for that (`settle`). -/

namespace Sys2Proof.Machine

open Sys2Proof.Safety

/-! ### Transitions and the end of a control command (02 R50, R35, R36, R40, R41, R44) -/

theorem settledOnly.settings {s u : State} (h : settledOnly s u) : u.settings = s.settings := by rw [h]
theorem settledOnly.tiles {s u : State} (h : settledOnly s u) : u.tiles = s.tiles := by rw [h]
theorem settledOnly.power {s u : State} (h : settledOnly s u) : u.power = s.power := by rw [h]
theorem settledOnly.newest {s u : State} (h : settledOnly s u) : u.fault.newest = s.fault.newest := by rw [h]
theorem settledOnly.mode {s u : State} (h : settledOnly s u) :
    u.mode = { s.mode with mode := u.mode.mode, silentFrom := u.mode.silentFrom, lastTransition := u.mode.lastTransition } := by
  rw [h]
/-- No reason of Table 2.3 lies in what a transition moves. -/
theorem settledOnly.degradedReasons {s u : State} (h : settledOnly s u) :
    Machine.degradedReasons u = Machine.degradedReasons s := by rw [h]; rfl
theorem degradedReasons_mode (m : ModeUnit) (s : State) : degradedReasons { s with mode := m } = degradedReasons s := rfl

theorem transition_mode (cause : Nat) (m : Mode) (s : State) : (transition cause m s).mode
    = { s.mode with mode := m, lastTransition := (transition cause m s).mode.lastTransition } := by
  have h := recordTransition_report s.mode.mode m cause { s with mode := { s.mode with mode := m } }
  unfold transition
  generalize recordTransition _ _ _ _ = u at h ⊢
  exact h.mode
@[simp] theorem transition_mode_mode (cause : Nat) (m : Mode) (s : State) : (transition cause m s).mode.mode = m := by
  rw [transition_mode]
@[simp] theorem silentCause_transition (cause : Nat) (m : Mode) (s : State) : silentCause (transition cause m s) = silentCause s := by
  simp only [silentCause]; rw [transition_mode]
@[simp] theorem transition_power (cause : Nat) (m : Mode) (s : State) : (transition cause m s).power = s.power :=
  (transition_settled _ _ _).power
@[simp] theorem transition_time (cause : Nat) (m : Mode) (s : State) : (transition cause m s).time = s.time :=
  (transition_settled _ _ _).time

/-- The relays apart, a command's end is the transition that its causes call for. -/
theorem settle_mode (s : State) : (settle s).mode = (settleOnce s).mode := rfl

section
variable {s : State}
theorem settle_mode_of_standby (h : s.mode.mode = .standby) :
    (settle s).mode.mode = if silentCause s then .silent else .standby := by
  rw [settle_mode]
  simp only [settleOnce, h]
  split
  · exact transition_mode_mode _ _ _
  · exact h
/-- A set cause takes the module to SILENT (02 R40, R41). -/
theorem settle_mode_of_cause (h : s.mode.mode = .standby ∨ s.mode.mode = .service ∨ s.mode.mode = .degraded)
    (hc : silentCause s = true) : (settle s).mode.mode = .silent := by
  rw [settle_mode]
  rcases h with h | h | h <;> simp only [settleOnce, h, hc, if_true, transition_mode_mode]
/-- SERVICE and DEGRADED stand where the reason bits say so and no cause is set (02 R35, R36). -/
theorem settle_mode_of_serving (h : s.mode.mode = if degradedReasons s = 0 then .service else .degraded)
    (hc : silentCause s = false) : (settle s).mode.mode = s.mode.mode := by
  rw [settle_mode]
  by_cases hd : degradedReasons s = 0
  · simp [settleOnce, h, hc, hd]
  · simp [settleOnce, h, hc, hd]
/-- The causes are gone: back to STANDBY where SILENT was entered from it (02 R44). -/
theorem settle_mode_of_silent (h : s.mode.mode = .silent) (hc : silentCause s = false) (hf : s.mode.silentFrom = .standby) :
    (settle s).mode.mode = .standby := by
  rw [settle_mode]
  simp [settleOnce, h, hc, hf]
theorem settle_mode_of_safe (h : s.mode.mode = .safe) : (settle s).mode = s.mode :=
  (settle_mode s).trans (congrArg State.mode (settleOnce_other s (by simp [h]) (by simp [h]) (by simp [h]) (by simp [h])))
theorem settle_mode_of_lastGasp (h : s.mode.mode = .lastGasp) : (settle s).mode = s.mode :=
  (settle_mode s).trans (congrArg State.mode (settleOnce_other s (by simp [h]) (by simp [h]) (by simp [h]) (by simp [h])))
end

/-! ### Entry into STANDBY, SERVICE and SAFE (02 R49, R51, R52, R55) -/

/-- What STANDBY ends, besides the mode, is traffic. -/
theorem standing_toStandby (cause : Nat) (s : State) : standing (toStandby cause s)
    = standing (transition cause .standby { s with mode := { s.mode with fromBoot := false, serviceDeferred := false } }) :=
  (standing_clearTimeline _).trans (standing_stopRequests _)

theorem serviceUnmet_silentCause {s : State} (h : serviceUnmet s = 0) : silentCause s = false := by
  cases hc : silentCause s with
  | false => rfl
  | true =>
    have hbit : b2n (s.mode.causeRef || s.mode.causeQuiet) = 1 := congrArg b2n hc
    unfold serviceUnmet at h
    omega
/-- SERVICE entered with no condition unmet stands, or DEGRADED where a reason bit is set. -/
theorem settle_enterService_mode {s : State} (hc : silentCause s = false) :
    (settle (enterService s)).mode.mode = if degradedReasons s = 0 then .service else .degraded := by
  have hd : degradedReasons (enterService s) = degradedReasons s := by
    rw [enterService, (transition_settled _ _ _).degradedReasons, degradedReasons_mode]
  have hm : (enterService s).mode.mode = if degradedReasons s = 0 then .service else .degraded := by
    rw [enterService, transition_mode_mode, degradedReasons_mode]
  have hsilent : silentCause (enterService s) = false := by rw [enterService, silentCause_transition]; exact hc
  rw [settle_mode_of_serving (by rw [hm, hd]) hsilent, hm]
theorem settle_enterService_serviceDeferred (s : State) : (settle (enterService s)).mode.serviceDeferred = false := by
  rw [(settle_settled _).mode, enterService, transition_mode]

/-- The tiles' stop moves the Prefect and the tiles alone. -/
theorem stopTiles_only (s : State) : prefectOnly s { stopTiles s with tiles := s.tiles } := by
  have h := foldl_prefectOnly _ (fun s (o : OpRec) => trapOp_only o.opseq s) (s.prefect.ops.filter (fun o => o.stage == .inService)) s
  unfold stopTiles
  dsimp only
  generalize List.foldl (fun t (o : OpRec) => trapOp o.opseq t) s _ = u at h ⊢
  rw [h]; rfl
theorem prefectOnly.mode {s u : State} (h : prefectOnly s u) : u.mode = s.mode := by rw [h]
theorem prefectOnly.fault {s u : State} (h : prefectOnly s u) : u.fault = s.fault := by rw [h]
@[simp] theorem stopTiles_mode (s : State) : (stopTiles s).mode = s.mode := (stopTiles_only s).mode
@[simp] theorem stopTiles_fault (s : State) : (stopTiles s).fault = s.fault := (stopTiles_only s).fault

theorem enterSafe_mode (cause : Nat) (s : State) : (enterSafe cause s).mode = { s.mode with
    upBeforeSafe := (List.range 20).filter (fun l => (laneOf s l).enabled), serviceDeferred := false, bootStep := 0
    mode := .safe, lastTransition := (enterSafe cause s).mode.lastTransition } := by
  have h : ∀ x, (stopTiles (stopReceive (stopBursts x))).mode = x.mode := fun x => by
    rw [stopTiles_mode]
    exact mode_of_standing ((standing_stopReceive _).trans (standing_stopBursts _))
  unfold enterSafe
  rw [h, transition_mode]
theorem enterSafe_newest (cause : Nat) (s : State) : (enterSafe cause s).fault.newest = s.fault.newest := by
  have h : ∀ x, (stopTiles (stopReceive (stopBursts x))).fault = x.fault := fun x => by
    rw [stopTiles_fault]
    exact fault_of_standing ((standing_stopReceive _).trans (standing_stopBursts _))
  unfold enterSafe
  rw [h]
  exact (transition_settled _ _ _).newest

/-! ### Mode requests (02 R39) -/

/-- A write that passes its checks leaves and answers what its owning rule does. -/
theorem answered_of_writable {vi idx sub el len v : Nat} {f : State → State × Status} {s u : State} {st : Status}
    (h : writable s vi idx sub el len v = true) (hf : f s = (u, st)) :
    answered (checkedWrite vi idx sub el len v f s) = .next (answering st u) := by
  rw [checkedWrite_of_writable h, hf]; rfl

@[simp] theorem answering_mode (st : Status) (s : State) : (answering st s).mode = s.mode := rfl
theorem cancelDeferred_time (v : Nat) (s : State) : (cancelDeferred v s).time = s.time := rfl
theorem silentCause_cancelDeferred (v : Nat) (s : State) : silentCause (cancelDeferred v s) = silentCause s := rfl
theorem laneOf_cancelDeferred (v : Nat) (s : State) (l : Nat) : laneOf (cancelDeferred v s) l = laneOf s l := rfl
theorem degradedReasons_cancelDeferred (v : Nat) (s : State) : degradedReasons (cancelDeferred v s) = degradedReasons s :=
  degradedReasons_mode _ _

/-- SAFE left for STANDBY: the lanes and the receive chain start, or the reference is taken as lost (02 R55). -/
def safeLeft (s : State) : State :=
  let x := transition 0x0F .standby { s with mode := { s.mode with upBeforeSafe := [], fromBoot := false } }
  if x.time.valid then startReceive (enableLanes x) else { x with mode := { x.mode with causeRef := true } }
theorem requestStandby_safe {s : State} (h : s.mode.mode = .safe) (hf : s.fault.safeCause = []) :
    requestStandby s = (settle (safeLeft (cancelDeferred 2 s)), .ok) := by
  simp only [requestStandby, h, hf, List.isEmpty_nil, if_true, safeLeft]
theorem safeLeft_mode_valid {s : State} (hv : s.time.valid = true) : (safeLeft s).mode
    = (transition 0x0F .standby { s with mode := { s.mode with upBeforeSafe := [], fromBoot := false } }).mode := by
  unfold safeLeft
  dsimp only
  rw [transition_time, if_pos hv]
  exact mode_of_standing ((standing_startReceive _).trans (standing_enableLanes _))
theorem safeLeft_mode_invalid {s : State} (hv : s.time.valid = false) : (safeLeft s).mode
    = { (transition 0x0F .standby { s with mode := { s.mode with upBeforeSafe := [], fromBoot := false } }).mode with
        causeRef := true } := by
  unfold safeLeft
  dsimp only
  rw [transition_time, if_neg (by simp [hv])]
theorem safeLeft_mode (s : State) : (safeLeft s).mode.mode = .standby := by
  cases hv : s.time.valid with
  | true => rw [safeLeft_mode_valid hv, transition_mode_mode]
  | false => rw [safeLeft_mode_invalid hv, transition_mode]
theorem safeLeft_silentCause_valid {s : State} (hv : s.time.valid = true) : silentCause (safeLeft s) = silentCause s := by
  simp only [silentCause]
  rw [safeLeft_mode_valid hv, transition_mode]
theorem safeLeft_silentCause_invalid {s : State} (hv : s.time.valid = false) : silentCause (safeLeft s) = true := by
  simp only [silentCause]
  rw [safeLeft_mode_invalid hv]
  rfl

theorem requestStandby_serving {s : State} (h : s.mode.mode = .service ∨ s.mode.mode = .degraded) :
    requestStandby s = (settle (toStandby 0x08 (cancelDeferred 2 s)), .ok) := by
  rcases h with h | h <;> simp only [requestStandby, h]
theorem requestSafe_running {s : State}
    (h : s.mode.mode = .standby ∨ s.mode.mode = .service ∨ s.mode.mode = .degraded ∨ s.mode.mode = .silent) :
    requestSafe s = (settle (enterSafe 0x11 (cancelDeferred 7 s)), .ok) := by
  rcases h with h | h | h | h <;> simp only [requestSafe, h]

section
variable {vi : Fin 16} {s : State}

theorem modeRequestStandby_serving (hw : writable s vi 0x2000 5 0 1 2 = true) (hc : silentCause s = false)
    (h : s.mode.mode = .service ∨ s.mode.mode = .degraded) :
    ∃ u, execModeRequestStandby vi s = .next u ∧ u.answer.status = .ok ∧ u.mode.mode = .standby ∧ u.mode.request = 2
      ∧ u.tiles = s.tiles ∧ u.settings = s.settings := by
  refine ⟨_, answered_of_writable hw (requestStandby_serving h), rfl, ?_⟩
  have hs := standing_toStandby 0x08 (cancelDeferred 2 s)
  generalize toStandby 0x08 (cancelDeferred 2 s) = x at hs ⊢
  have hmode : x.mode.mode = .standby := by rw [mode_of_standing hs, transition_mode_mode]
  have hcause : silentCause x = false := by
    simp only [silentCause]; rw [mode_of_standing hs]; exact (silentCause_transition _ _ _).trans hc
  have hsettled := settle_settled x
  refine ⟨?_, ?_, ?_, ?_⟩
  · exact (settle_mode_of_standby hmode).trans (by simp [hcause])
  · change (settle x).mode.request = 2
    rw [hsettled.mode, mode_of_standing hs, transition_mode]
    rfl
  · exact hsettled.tiles.trans ((tiles_of_standing hs).trans (transition_settled _ _ _).tiles)
  · exact hsettled.settings.trans ((settings_of_standing hs).trans (transition_settled _ _ _).settings)
theorem modeRequestService_met (hw : writable s vi 0x2000 5 0 1 3 = true) (h : s.mode.mode = .standby) (hu : serviceUnmet s = 0) :
    ∃ u, execModeRequestService vi s = .next u ∧ u.answer.status = .ok
      ∧ u.mode.mode = (if degradedReasons s = 0 then .service else .degraded) ∧ u.mode.serviceDeferred = false := by
  have hunmet : serviceUnmet (cancelDeferred 3 s) = 0 := hu
  have hreq : requestService s = (settle (enterService (cancelDeferred 3 s)), .ok) := by
    simp only [requestService, h, hunmet, if_true]
  refine ⟨_, answered_of_writable hw hreq, rfl, ?_, ?_⟩
  · rw [answering_mode, settle_enterService_mode (serviceUnmet_silentCause hunmet), degradedReasons_cancelDeferred]
  · rw [answering_mode, settle_enterService_serviceDeferred]
theorem modeRequestService_unmet (hw : writable s vi 0x2000 5 0 1 3 = true) (h : s.mode.mode = .standby)
    (hu : serviceUnmet s ≠ 0) :
    ∃ u, execModeRequestService vi s = .next u ∧ u.answer.status = .deferred ∧ u.mode.mode = .standby
      ∧ u.mode.serviceDeferred = true := by
  let x := cancelDeferred 3 s
  have hunmet : serviceUnmet (cancelDeferred 3 s) ≠ 0 := hu
  have hreq : requestService s = ({ x with mode := { x.mode with serviceDeferred := true } }, .deferred) := by
    simp only [requestService, h, hunmet, if_false]; rfl
  exact ⟨_, answered_of_writable hw hreq, rfl, h, rfl⟩
theorem modeRequestSafe_running (hw : writable s vi 0x2000 5 0 1 7 = true)
    (h : s.mode.mode = .standby ∨ s.mode.mode = .service ∨ s.mode.mode = .degraded ∨ s.mode.mode = .silent) :
    ∃ u, execModeRequestSafe vi s = .next u ∧ u.answer.status = .ok ∧ u.mode.mode = .safe
      ∧ u.mode.upBeforeSafe = (List.range 20).filter (fun l => (laneOf s l).enabled) := by
  have hsettle : (settle (enterSafe 0x11 (cancelDeferred 7 s))).mode = (enterSafe 0x11 (cancelDeferred 7 s)).mode :=
    settle_mode_of_safe (by rw [enterSafe_mode])
  refine ⟨_, answered_of_writable hw (requestSafe_running h), rfl, ?_, ?_⟩
  · rw [answering_mode, hsettle, enterSafe_mode]
  · rw [answering_mode, hsettle, enterSafe_mode]
    dsimp only
    simp only [laneOf_cancelDeferred]
/-- SAFE left for STANDBY: the lanes and the receive chain start, or the reference is lost and SILENT follows (02 R55). -/
theorem modeRequestStandby_safe (hw : writable s vi 0x2000 5 0 1 2 = true) (h : s.mode.mode = .safe) (hf : s.fault.safeCause = []) :
    ∃ u, execModeRequestStandby vi s = .next u ∧ u.answer.status = .ok
      ∧ u.mode.mode = (if s.time.valid = true ∧ silentCause s = false then .standby else .silent) := by
  refine ⟨_, answered_of_writable hw (requestStandby_safe h hf), rfl, ?_⟩
  rw [answering_mode, settle_mode_of_standby (safeLeft_mode _)]
  by_cases hv : s.time.valid = true
  · rw [safeLeft_silentCause_valid (by rw [cancelDeferred_time, hv]), silentCause_cancelDeferred]
    cases silentCause s <;> simp [hv]
  · rw [safeLeft_silentCause_invalid (by rw [cancelDeferred_time]; exact eq_false_of_ne_true hv)]
    simp [hv]
end

/-- Settles O30: each request by the transition it takes, followed through what the command's end makes of the mode. -/
theorem modeRequests : Obligations.ModeRequests := fun _ _ =>
  ⟨modeRequestStandby_serving, modeRequestService_met, modeRequestService_unmet, modeRequestSafe_running, modeRequestStandby_safe⟩

/-! ### QUIET and the automatic entry into SERVICE (02 R42 to R44, R49) -/

theorem setQuiet_mode_mode (s : State) : (setQuiet s).mode.mode = s.mode.mode := by
  unfold setQuiet
  split
  · rfl
  · rw [mode_of_standing (standing_stopBursts _)]
theorem setQuiet_causeQuiet (s : State) : (setQuiet s).mode.causeQuiet = true := by
  unfold setQuiet
  split
  · assumption
  · rw [mode_of_standing (standing_stopBursts _)]
theorem silentCause_of_causeQuiet {s : State} (h : s.mode.causeQuiet = true) : silentCause s = true := by
  simp [silentCause, h]
theorem settle_causeQuiet (s : State) : (settle s).mode.causeQuiet = s.mode.causeQuiet := by rw [(settle_settled s).mode]

section
variable {vi : Fin 16} {s : State}

theorem quietSet_enters (hw : writable s vi 0x2000 6 0 1 1 = true)
    (h : s.mode.mode = .standby ∨ s.mode.mode = .service ∨ s.mode.mode = .degraded) :
    ∃ u, execQuietSet vi s = .next u ∧ u.answer.status = .ok ∧ u.mode.mode = .silent ∧ u.mode.causeQuiet = true := by
  have hquiet : writeQuiet 1 s = (settle (setQuiet s), .ok) := rfl
  refine ⟨_, answered_of_writable hw hquiet, rfl, ?_, ?_⟩
  · rw [answering_mode]
    exact settle_mode_of_cause (by rwa [setQuiet_mode_mode]) (silentCause_of_causeQuiet (setQuiet_causeQuiet s))
  · rw [answering_mode, settle_causeQuiet, setQuiet_causeQuiet]
theorem quietRelease_returns (hw : writable s vi 0x2000 6 0 1 0 = true) (h : s.mode.mode = .silent) (hr : s.mode.causeRef = false)
    (hf : s.mode.silentFrom = .standby) :
    ∃ u, execQuietRelease vi s = .next u ∧ u.answer.status = .ok ∧ u.mode.mode = .standby ∧ u.mode.causeQuiet = false := by
  have hquiet : writeQuiet 0 s = (settle { s with mode := { s.mode with causeQuiet := false } }, .ok) := rfl
  refine ⟨_, answered_of_writable hw hquiet, rfl, ?_, ?_⟩
  · rw [answering_mode]
    exact settle_mode_of_silent h (by simp [silentCause, hr]) hf
  · rw [answering_mode, settle_causeQuiet]
end

theorem serviceEntry_wanted {s : State} (h : s.mode.mode = .standby) (hu : serviceUnmet s = 0) (hw : serviceWanted s = true) :
    ∃ u, execServiceEntry s = .next u ∧ u.mode.mode = (if degradedReasons s = 0 then .service else .degraded) :=
  ⟨_, if_pos ⟨h, hu, hw⟩, settle_enterService_mode (serviceUnmet_silentCause hu)⟩

/-! ### Escalation (15 R400; 02 R53) -/

/-- A record takes the next ESEQ and is the newest. -/
theorem errRecord_newest (b : ErrBody) (s : State) : (errRecord b s).fault.newest = s.fault.nextEseq := by
  have htold : ∀ (c : Prop) [Decidable c] (u : State) (vi kind data : Nat),
      (if c then event u vi kind data else u).fault.newest = u.fault.newest := fun c _ u vi kind data => by
    split
    · exact (notifyVi_settled _ _ _ _ _).newest
    · rfl
  unfold errRecord
  generalize stamp s = p
  obtain ⟨t, ok⟩ := p
  exact htold _ _ _ _ _
theorem errRecord_mode_mode (b : ErrBody) (s : State) : (errRecord b s).mode.mode = s.mode.mode := by
  rw [(errRecord_report b s).mode]
theorem markSafeCause_mode (n : Nat) (s : State) : (markSafeCause n s).mode = s.mode := by unfold markSafeCause; split <;> rfl
theorem markSafeCause_newest (n : Nat) (s : State) : (markSafeCause n s).fault.newest = s.fault.newest := by
  unfold markSafeCause; split <;> rfl

theorem escalate_mode {s : State} (h : s.mode.mode ≠ .off) (hg : s.mode.mode ≠ .lastGasp) : (escalate s).mode.mode = .safe := by
  unfold escalate
  split
  · contradiction
  · assumption
  · contradiction
  · rw [enterSafe_mode]
theorem escalate_newest (s : State) : (escalate s).fault.newest = s.fault.newest := by
  unfold escalate
  split
  · rfl
  · rfl
  · rfl
  · exact enterSafe_newest _ _
/-- In LAST_GASP an escalation waits for the next BOOT (02 R53). -/
theorem escalate_lastGasp {s : State} (h : s.mode.mode = .lastGasp) :
    escalate s = { s with mode := { s.mode with safeAtBoot := true } } := by
  simp only [escalate, h]

section
variable (b : ErrBody) (s : State)
theorem escalateWith_newest : (escalateWith b s).fault.newest = s.fault.nextEseq := by
  rw [escalateWith, escalate_newest, markSafeCause_newest, errRecord_newest]
theorem escalateWith_mode (h : s.mode.mode ≠ .off) (hg : s.mode.mode ≠ .lastGasp) : (escalateWith b s).mode.mode = .safe :=
  escalate_mode (by rwa [markSafeCause_mode, errRecord_mode_mode]) (by rwa [markSafeCause_mode, errRecord_mode_mode])
theorem escalateWith_lastGasp (h : s.mode.mode = .lastGasp) :
    (escalateWith b s).mode.mode = .lastGasp ∧ (escalateWith b s).mode.safeAtBoot = true := by
  have hm : (markSafeCause (nextEseq s) (errRecord b s)).mode.mode = .lastGasp := by
    rw [markSafeCause_mode, errRecord_mode_mode, h]
  rw [escalateWith, escalate_lastGasp hm]
  exact ⟨hm, rfl⟩
end

theorem listFence_mode_mode (unit ref : Nat) (s : State) : (listFence unit ref s).mode.mode = s.mode.mode := by
  rw [(listFence_report unit ref s).mode]
theorem detain_nextEseq (d : Detained) (s : State) : (detain d s).fault.nextEseq = s.fault.nextEseq := by
  unfold detain
  split
  · rfl
  · split <;> rfl
theorem listFence_nextEseq (unit ref : Nat) (s : State) : (listFence unit ref s).fault.nextEseq = s.fault.nextEseq := by
  unfold listFence
  split
  · rfl
  · exact detain_nextEseq _ _
/-- What the Caretaker notes of a failed memory or supply before the escalation moves neither the mode nor the next ESEQ. -/
theorem escalationToSafe_eq (cause : Fin 8) (unit : Nat) {s : State} (h : s.mode.mode ≠ .off) :
    ∃ b x, execEscalationToSafe cause unit s = .next (settle (escalateWith b x)) ∧ x.mode.mode = s.mode.mode
      ∧ x.fault.nextEseq = s.fault.nextEseq := by
  have hfenced : ∀ (c : Prop) [Decidable c],
      let x := if c then { listFence unit (nextEseq s) s with
        fault := { (listFence unit (nextEseq s) s).fault with dramFenced := true } } else s
      x.mode.mode = s.mode.mode ∧ x.fault.nextEseq = s.fault.nextEseq := fun c _ => by
    dsimp only
    split
    · exact ⟨listFence_mode_mode _ _ _, listFence_nextEseq _ _ _⟩
    · exact ⟨rfl, rfl⟩
  refine ⟨_, _, if_neg h, ?_⟩
  split
  · exact hfenced _
  · exact hfenced _
theorem escalationToSafe_enters (cause : Fin 8) (unit : Nat) {s : State} (h : s.mode.mode ≠ .off) (hg : s.mode.mode ≠ .lastGasp) :
    ∃ u, execEscalationToSafe cause unit s = .next u ∧ u.mode.mode = .safe ∧ u.fault.newest = s.fault.nextEseq := by
  obtain ⟨b, x, hexec, hmode, heseq⟩ := escalationToSafe_eq cause unit h
  have hsafe := escalateWith_mode b x (by rwa [hmode]) (by rwa [hmode])
  refine ⟨_, hexec, ?_, ?_⟩
  · rw [settle_mode_of_safe hsafe, hsafe]
  · rw [(settle_settled _).newest, escalateWith_newest, heseq]
theorem escalationToSafe_waits (cause : Fin 8) (unit : Nat) {s : State} (h : s.mode.mode = .lastGasp) :
    ∃ u, execEscalationToSafe cause unit s = .next u ∧ u.mode.mode = .lastGasp ∧ u.mode.safeAtBoot = true := by
  obtain ⟨b, x, hexec, hmode, -⟩ := escalationToSafe_eq cause unit (s := s) (by simp [h])
  obtain ⟨hgasp, hwaits⟩ := escalateWith_lastGasp b x (hmode.trans h)
  refine ⟨_, hexec, ?_, ?_⟩
  · rw [settle_mode_of_lastGasp hgasp, hgasp]
  · rw [settle_mode_of_lastGasp hgasp, hwaits]

/-- Settles O31: the mode before a command's end and the causes set decide the mode after it; an escalation's record is the
newest. -/
theorem modeChanges : Obligations.ModeChanges := fun _ _ =>
  ⟨quietSet_enters, quietRelease_returns, serviceEntry_wanted, fun cause unit =>
    ⟨escalationToSafe_enters cause unit, escalationToSafe_waits cause unit⟩⟩

/-! ### Reset (02 R34; 00 R468) -/

/-- Settles O18, by evaluation. -/
theorem resetState : Obligations.ResetState := by
  refine ⟨?_, ?_, ?_⟩
  · exact ⟨rfl, rfl, rfl, rfl, rfl, rfl, rfl, rfl, rfl, rfl, rfl, rfl, rfl, rfl, rfl, rfl,
      fun _ => rfl, fun _ => rfl, fun _ => rfl⟩
  · rfl
  · simp [numbered, seqOk, State.reset]

end Sys2Proof.Machine
end

section
/-! O29 (03 R68, R70, R73, R75; 02 R48, R54). The last gasp and the warm BOOT are cut into their stages, and each stage is
followed by the few fields that the statement speaks of. -/

namespace Sys2Proof.Machine

open Sys2Proof.Safety

/-! ### The last gasp, stage by stage (03 Table 3.4) -/

/-- Mains is lost: the counts and times of the loss, what the seal will say of it, and the ceiling at 0. -/
def gaspOpened (cause : Nat) (s : State) : State :=
  let s := { s with power := { s.power with
      mains := false, inrush := true, losses := inc32 s.power.losses, lossSinceCheck := true, gaspOpen := true
      lossAt := if s.time.valid then s.time.airTime else 0xFFFFFFFFFFFFFFFF
      lossUs := s.time.careUs, lossCause := cause } }
  { s with sweep := { s.sweep with gaspZero := true } }
/-- The tiles and the memories behind the mesh lose what they hold. -/
def clearVolatile (s : State) : State :=
  { s with
    tiles := [], mesh := { s.mesh with mem := s.mesh.mem.filter (fun p => nodeNum p.1 < 96)
                                       responses := [], outstanding := [], quarantine := [] } }
/-- A standby pair starts with the active one. -/
def startOther (s : State) : State :=
  match activePair s with
  | some p => if officePair s (1 - p) = .standby then setOffice s (1 - p) .starting else s
  | none => s
/-- The account snapshots and the clocks reach MRAM. -/
def gaspPersisted (s : State) : State :=
  { s with
    power := { s.power with accSnap := accountWords s }
    time := { s.time with
      persistedAt := if s.time.valid then s.time.airTime else s.time.persistedAt
      carePersisted := s.time.careUs, ledgerPersisted := s.time.ledger } }
/-- Every unit is stopped, and what MRAM does not hold is lost. -/
def gaspStopped (s : State) : State :=
  closeGroups (drainPrefect (clearVolatile (powerOffIslands (stopReceive (dropRadioLanes (stopBursts s))))))
/-- The stages before the accounts are taken. -/
def gaspDrained (cause : Nat) (s : State) : State :=
  drainStaging (startOther (gaspStopped (settleRelays (transition 0x0B .lastGasp (gaspOpened cause s)))))
theorem lastGasp_eq (cause : Nat) (s : State) : lastGasp cause s = gaspPersisted (gaspDrained cause s) := by
  unfold lastGasp gaspDrained gaspStopped gaspOpened
  dsimp only
  generalize powerOffIslands _ = x
  unfold clearVolatile
  dsimp only
  generalize closeGroups (drainPrefect _) = y
  rfl

theorem standing_dropRadioLanes (s : State) : standing (dropRadioLanes s) = standing s := standing_dropLanes _ s
/-- The mode, mains and the clocks: what the stages between the entry into LAST_GASP and the snapshots leave alone. -/
def watched (s : State) : ModeUnit × PowerUnit × TimeUnit := (s.mode, s.power, s.time)
theorem watched_of_standing {s u : State} (h : standing u = standing s) : watched u = watched s := by
  rw [watched, mode_of_standing h, power_of_standing h, time_of_standing h]; rfl
theorem watched_settleRelays (s : State) : watched (settleRelays s) = watched s := rfl
theorem watched_powerOffIslands (s : State) : watched (powerOffIslands s) = watched s := by
  simp only [watched, powerOffIslands]
theorem watched_clearVolatile (s : State) : watched (clearVolatile s) = watched s := rfl
theorem watched_drainPrefect (s : State) : watched (drainPrefect s) = watched s := rfl
theorem watched_closeGroups (s : State) : watched (closeGroups s) = watched s := rfl
theorem startOther_eq (s : State) : startOther s = { s with fault := (startOther s).fault } := by
  unfold startOther
  split
  · unfold setOffice
    split
    · split <;> rfl
    · rfl
  · rfl
theorem startOther_prefect (s : State) : (startOther s).prefect = s.prefect := by rw [startOther_eq]
theorem startOther_molfen (s : State) : (startOther s).molfen = s.molfen := by rw [startOther_eq]
theorem watched_startOther (s : State) : watched (startOther s) = watched s := by rw [startOther_eq]; rfl
theorem watched_gaspStopped (s : State) : watched (gaspStopped s) = watched s := by
  rw [gaspStopped, watched_closeGroups, watched_drainPrefect, watched_clearVolatile, watched_powerOffIslands,
    watched_of_standing (standing_stopReceive _), watched_of_standing (standing_dropRadioLanes _),
    watched_of_standing (standing_stopBursts _)]
theorem gaspStopped_ops (s : State) : (gaspStopped s).prefect.ops = [] := rfl
theorem gaspStopped_openGroups (s : State) : (gaspStopped s).molfen.openGroups = [] := rfl

section
variable (cause : Nat) (s : State)

theorem watched_gaspDrained :
    watched (gaspDrained cause s) = watched (transition 0x0B .lastGasp (gaspOpened cause s)) := by
  rw [gaspDrained, watched_of_standing (standing_drainStaging _), watched_startOther, watched_gaspStopped,
    watched_settleRelays]
theorem gaspDrained_leaves : (gaspDrained cause s).mode.mode = .lastGasp
    ∧ (gaspDrained cause s).power = (gaspOpened cause s).power ∧ (gaspDrained cause s).time = s.time := by
  have h := watched_gaspDrained cause s
  simp only [watched, Prod.mk.injEq, transition_power, transition_time] at h
  obtain ⟨hmode, hpower, htime⟩ := h
  exact ⟨by rw [hmode, transition_mode_mode], hpower, htime⟩
theorem gaspDrained_empty : (gaspDrained cause s).prefect.ops = [] ∧ (gaspDrained cause s).molfen.openGroups = []
    ∧ (gaspDrained cause s).roll.staging = [] := by
  unfold gaspDrained
  rw [drainStaging_prefect, drainStaging_molfen, drainStaging_staging, startOther_prefect, startOther_molfen, gaspStopped_ops,
    gaspStopped_openGroups]
  exact ⟨rfl, rfl, rfl⟩

/-- What a last gasp leaves of the modes, mains and the queues (03 R68, R70 steps 1 to 6). -/
theorem lastGasp_leaves : (lastGasp cause s).mode.mode = .lastGasp
    ∧ (lastGasp cause s).power = { (gaspOpened cause s).power with accSnap := (lastGasp cause s).power.accSnap }
    ∧ (lastGasp cause s).time.carePersisted = s.time.careUs
    ∧ (lastGasp cause s).prefect.ops = [] ∧ (lastGasp cause s).molfen.openGroups = [] ∧ (lastGasp cause s).roll.staging = [] := by
  obtain ⟨hmode, hpower, htime⟩ := gaspDrained_leaves cause s
  obtain ⟨hops, hgroups, hstaging⟩ := gaspDrained_empty cause s
  rw [lastGasp_eq]
  generalize gaspDrained cause s = x at hmode hpower htime hops hgroups hstaging ⊢
  refine ⟨hmode, ?_, ?_, hops, hgroups, hstaging⟩
  · rw [← hpower]; rfl
  · rw [← htime]; rfl
end

/-! ### Loss of mains (03 R68, R70; 02 R48) -/

/-- The loss of mains in a mode that has a last gasp. -/
theorem execMainsLoss_gasp {s : State} (h : s.mode.mode = .standby ∨ s.mode.mode = .service ∨ s.mode.mode = .degraded
      ∨ s.mode.mode = .silent ∨ s.mode.mode = .safe ∨ (s.mode.mode = .boot ∧ s.mode.bootStep = 6)) :
    ∃ x, execMainsLoss s = .next (lastGasp (sealCause s) x) ∧ x.power = s.power ∧ x.time = s.time := by
  rcases h with h | h | h | h | h | ⟨h, h6⟩
  case inr.inr.inr.inr.inr => exact ⟨{ s with saved := none }, by simp only [execMainsLoss, h, h6, if_true], rfl, rfl⟩
  all_goals exact ⟨s, by simp only [execMainsLoss, h], rfl, rfl⟩
theorem mainsLoss_gasp {s : State} (h : s.mode.mode = .standby ∨ s.mode.mode = .service ∨ s.mode.mode = .degraded
      ∨ s.mode.mode = .silent ∨ s.mode.mode = .safe ∨ (s.mode.mode = .boot ∧ s.mode.bootStep = 6)) :
    ∃ u, execMainsLoss s = .next u ∧ u.mode.mode = .lastGasp ∧ u.power.mains = false ∧ u.power.inrush = true
      ∧ u.power.lossCause = (if s.mode.mode = .boot then 3 else if s.time.refLost = true then 2 else 1)
      ∧ u.power.losses = inc32 s.power.losses ∧ u.power.gaspOpen = true ∧ u.power.sealRec = s.power.sealRec
      ∧ u.prefect.ops = [] ∧ u.molfen.openGroups = [] ∧ u.roll.staging = [] ∧ u.time.carePersisted = s.time.careUs := by
  obtain ⟨x, hexec, hpower, htime⟩ := execMainsLoss_gasp h
  obtain ⟨hmode, hgasp, hcare, hops, hgroups, hstaging⟩ := lastGasp_leaves (sealCause s) x
  refine ⟨_, hexec, hmode, ?_⟩
  rw [hgasp, hcare, htime]
  dsimp only [gaspOpened]
  rw [hpower]
  exact ⟨rfl, rfl, rfl, rfl, rfl, rfl, hops, hgroups, hstaging, rfl⟩

/-! ### The end of the last gasp (03 R70 steps 7 and 8, R75; 02 R54) -/

/-- Every lane is dropped. -/
def allLanesDropped (s : State) : State := (List.range 20).foldl (fun t l => dropLane l t) s
theorem standing_allLanesDropped (s : State) : standing (allLanesDropped s) = standing s := standing_dropLanes _ s
/-- The state that a seal without mains is written over. -/
def sealedOff (s : State) : State := drainStaging (transition 0x0C .off (allLanesDropped s))
theorem sealedOff_mode (s : State) : (sealedOff s).mode.mode = .off := by
  rw [sealedOff, mode_of_standing (standing_drainStaging _), transition_mode_mode]
theorem sealedOff_power (s : State) : (sealedOff s).power = s.power := by
  rw [sealedOff, power_of_standing (standing_drainStaging _), transition_power, power_of_standing (standing_allLanesDropped _)]

section
variable {s : State} (h : s.mode.mode = .lastGasp) (hopen : s.power.gaspOpen = true)
include h hopen

/-- Without mains, the seal ends in OFF. -/
theorem sealComplete_off (e d : Nat) (f : BootFacts) :
    ∃ u, execSealComplete false e d f s = .next u ∧ u.mode.mode = .off ∧ u.power.gaspOpen = false ∧ u.time.valid = false
      ∧ u.power.sealRec.mark = 0x5EA10001 ∧ u.power.sealRec.energy = e % 65536 ∧ u.power.sealRec.duration = d % 65536
      ∧ u.power.sealRec.cause = s.power.lossCause ∧ u.power.sealRec.accCrc = snapshotCrc s.power.accSnap := by
  have hmode := sealedOff_mode s
  have hpower := sealedOff_power s
  have hexec : execSealComplete false e d f s = .next (let x := writeSeal e d (sealedOff s)
      { dropTimebase x with power := { x.power with mains := false, inrush := true } }) := by
    simp only [execSealComplete, h, hopen, and_self, if_true, Bool.false_eq_true, if_false, sealedOff,
      allLanesDropped]
  refine ⟨_, hexec, ?_⟩
  generalize sealedOff s = x at hmode hpower ⊢
  rw [← hpower]
  exact ⟨hmode, rfl, rfl, rfl, rfl, rfl, rfl, rfl⟩
/-- The store is exhausted before the seal (03 R75). -/
theorem holdupExhausted_off :
    ∃ u, execHoldupExhausted s = .next u ∧ u.mode.mode = .off ∧ u.mode.exhaustedAtLoss = true
      ∧ u.power.sealRec = s.power.sealRec ∧ u.power.gaspOpen = false ∧ u.time.valid = false := by
  have hexec : execHoldupExhausted s = .next (let x := dropTimebase (allLanesDropped s)
      { x with mode := { x.mode with mode := .off, exhaustedAtLoss := true }
               power := { x.power with gaspOpen := false, mains := false, inrush := true, holdup := 0 } }) := by
    simp only [execHoldupExhausted, h, hopen, and_self, if_true, allLanesDropped]
  have hpower := power_of_standing (standing_allLanesDropped s)
  refine ⟨_, hexec, ?_⟩
  generalize allLanesDropped s = x at hpower ⊢
  rw [← hpower]
  exact ⟨rfl, rfl, rfl, rfl, rfl⟩
end

/-! ### Mains lost during BOOT (02 R48) -/

theorem settledOnly.entries {s u : State} (h : settledOnly s u) : u.roll.entries = s.roll.entries := by rw [h]
theorem settledOnly.backlog {s u : State} (h : settledOnly s u) : u.roll.backlog = s.roll.backlog := by rw [h]
theorem settledOnly.cipher {s u : State} (h : settledOnly s u) : u.cipher = s.cipher := by rw [h]
theorem settledOnly.verdict {s u : State} (h : settledOnly s u) : u.verdict = s.verdict := by rw [h]

/-- What MRAM held at the start of the BOOT is back. -/
def mramRestored (m : Saved) (s : State) : State := { s with
  roll := { m.roll with nextJseq := seqHeld m.roll.nextJseq }
  tx := { m.tx with nextRqid := seqHeld m.tx.nextRqid, rqidReserved := seqHeld m.tx.rqidReserved }
  sweep := { m.sweep with nextDseq := seqHeld m.sweep.nextDseq, dseqReserved := seqHeld m.sweep.dseqReserved }
  fault := { m.fault with nextEseq := seqHeld m.fault.nextEseq }
  cipher := m.cipher, verdict := m.verdict, power := m.power }
/-- The end of a BOOT that is cut short: OFF, with the transition recorded. -/
def bootCut (m : Saved) (s : State) : State :=
  let s := dropTimebase s
  { s with
    saved := none
    mode := { s.mode with bootStep := 0, safeAtBoot := m.mode.safeAtBoot, exhaustedAtLoss := m.mode.exhaustedAtLoss }
    fault := { s.fault with major := false, minor := false }
    power := { s.power with mains := false, inrush := true } }
theorem lossInBoot_eq {s : State} {m : Saved} (h : s.saved = some m) :
    lossInBoot s = bootCut m (transition 0x04 .off (mramRestored m s)) := by
  simp only [lossInBoot, h, Option.getD_some, bootCut, mramRestored]

theorem mainsLossBeforeStep7_restores {s : State} {m : Saved} (hb : s.mode.mode = .boot) (h : s.saved = some m) :
    ∃ u, execMainsLossBeforeStep7 s = .next u ∧ u.mode.mode = .off ∧ u.power.mains = false ∧ u.saved = none
      ∧ u.roll.entries = m.roll.entries ∧ u.roll.backlog = m.roll.backlog ∧ u.cipher = m.cipher ∧ u.verdict = m.verdict
      ∧ u.power.sealRec = m.power.sealRec ∧ (s.mode.bootStep ≠ 6 → execMainsLoss s = .next u) := by
  have hsettled := transition_settled 0x04 .off (mramRestored m s)
  have hoff := transition_mode_mode 0x04 .off (mramRestored m s)
  refine ⟨lossInBoot s, if_pos hb, ?_⟩
  have hloss : s.mode.bootStep ≠ 6 → execMainsLoss s = .next (lossInBoot s) := fun h6 => by
    simp only [execMainsLoss, hb, h6, if_false]
  generalize hu : lossInBoot s = u at hloss ⊢
  rw [lossInBoot_eq h] at hu
  generalize transition 0x04 .off (mramRestored m s) = x at hu hsettled hoff
  subst hu
  have hseal : x.power.sealRec = m.power.sealRec := congrArg PowerUnit.sealRec hsettled.power
  exact ⟨hoff, rfl, rfl, hsettled.entries, hsettled.backlog, hsettled.cipher, hsettled.verdict, hseal, hloss⟩

/-! ### A warm BOOT (02 R46, R54) -/

/-- What a warm BOOT is judged by: its mode, that it is warm, mains, the gasp and the timebase. -/
structure BootMarks where
  mode : Mode
  warm : Bool
  mains : Bool
  gaspOpen : Bool
  valid : Bool
def bootMarks (s : State) : BootMarks := ⟨s.mode.mode, s.mode.bootWarm, s.power.mains, s.power.gaspOpen, s.time.valid⟩
/-- A record update written out. -/
theorem bootMarks_mk {p fc a o st m pw t l r sw v ro tx ci pf ti me pa f mo sk sn sa} :
    bootMarks (State.mk p fc a o st m pw t l r sw v ro tx ci pf ti me pa f mo sk sn sa)
      = ⟨m.mode, m.bootWarm, pw.mains, pw.gaspOpen, t.valid⟩ := rfl
theorem bootMarks_putSetting (s : State) (vi idx sub el v : Nat) : bootMarks (putSetting s vi idx sub el v) = bootMarks s := rfl
theorem bootMarks_applyStaged (s : State) : bootMarks (applyStaged s) = bootMarks s := by
  unfold applyStaged
  rw [foldl_view bootMarks (fun t x => bootMarks_putSetting t _ _ _ _ _)]
  rfl
theorem bootMarks_closePort (d : Nat) (s : State) : bootMarks (closePort d s) = bootMarks s := rfl
theorem bootMarks_modTile (s : State) (t : Nat) (f : Tile → Tile) : bootMarks (modTile s t f) = bootMarks s := rfl
/-- The units start anew: the timebase is invalid, and the mode stands. -/
theorem bootMarks_bootUnits (warm : Bool) (s : State) :
    bootMarks (bootUnits warm s) = { bootMarks s with warm := warm, valid := false } := by
  have h : bootMarks (applyStaged (dropTimebase s)) = { bootMarks s with valid := false } := bootMarks_applyStaged _
  unfold bootUnits
  dsimp only
  generalize applyStaged (dropTimebase s) = x at h ⊢
  rw [foldl_view bootMarks (fun t d => ?_), bootMarks_mk]
  · simp only [bootMarks, BootMarks.mk.injEq] at h
    obtain ⟨hmode, -, hmains, hgasp, hvalid⟩ := h
    simp only [hmode, hmains, hgasp, hvalid, bootMarks]
  · cases d with
    | unit u ref => simp only [apply_ite bootMarks, bootMarks_closePort, bootMarks_modTile, ite_self]
    | desc => rfl

/-! Steps 1 to 3. -/

theorem bootMarks_report {s u : State} (h : reportOnly s u) : bootMarks u = bootMarks s := by rw [h]; rfl
theorem bootMarks_cancelArmed (armed : List Nat) (s : State) : bootMarks (cancelArmed armed s) = bootMarks s := by
  unfold cancelArmed
  rw [foldl_view bootMarks (fun t b => ?_)]
  rw [missRecord, bootMarks_report (errRecord_report _ _)]
  rfl
theorem bootMarks_settleRelays (s : State) : bootMarks (settleRelays s) = bootMarks s := rfl
theorem bootMarks_refreshCard (u : Nat) (s : State) : bootMarks (refreshCard u s) = bootMarks s := rfl
/-- A self-test without a failing unit updates the cards. -/
theorem bootMarks_selfTest {warm : Bool} {f : BootFacts} (hf : f.failed = []) (s : State) :
    bootMarks (selfTest warm f s) = bootMarks s := by
  simp only [selfTest, hf, List.filter_nil, List.foldl_nil]
  exact foldl_view bootMarks (fun t u => bootMarks_refreshCard u t) _ _

/-- Mains is back: the copy that R48 goes back to is taken, and the gasp is over. -/
def mainsBack (warm : Bool) (f : BootFacts) (s : State) : State :=
  let s := { s with saved := some (savedOf s) }
  let s := if warm then s else coldClocks s
  { s with mode := { s.mode with bootAtUs := s.time.careUs }
           power := { s.power with mains := true, inrush := !f.bulkUp, gaspOpen := false } }
/-- A BOOT up to its self-test. -/
def bootTested (warm : Bool) (cause : Nat) (f : BootFacts) (s : State) : State :=
  let armed := (s.time.bells.filter (fun p => p.2.armed ≠ 0)).map (·.1)
  selfTest warm f (settleRelays (cancelArmed armed (bootUnits warm (transition cause .boot (mainsBack warm f s)))))
theorem bootMarks_bootTested (warm : Bool) (cause : Nat) {f : BootFacts} (hf : f.failed = []) (s : State) :
    bootMarks (bootTested warm cause f s) = ⟨.boot, warm, true, false, false⟩ := by
  rw [bootTested, bootMarks_selfTest hf, bootMarks_settleRelays, bootMarks_cancelArmed, bootMarks_bootUnits, bootMarks,
    transition_mode_mode, transition_power, mainsBack]

/-! Steps 5 and 6. -/

theorem bootMarks_startPairs (b : Nat) (s : State) : bootMarks (startPairs b s) = bootMarks s := by
  have hset : ∀ (t : State) (p : Nat) (x : OfficeState), bootMarks (setOffice t p x) = bootMarks t := fun t p x => by
    unfold setOffice; split <;> rfl
  have hite : ∀ (c : Prop) [Decidable c] (t : State) (p : Nat) (x y : OfficeState),
      bootMarks (if c then setOffice t p x else setOffice t p y) = bootMarks t := fun c _ t p x y => by
    split <;> exact hset _ _ _
  unfold startPairs
  dsimp only
  rw [hite, hite]
  rfl
theorem bootMarks_wipeKey (s : State) (h : Nat) : bootMarks (wipeKey s h) = bootMarks s := rfl
theorem bootMarks_restoreRoll (lost : List (Nat × Nat × Nat)) (s : State) : bootMarks (restoreRoll lost s) = bootMarks s := by
  unfold restoreRoll
  dsimp only
  rw [foldl_view bootMarks (fun t h => bootMarks_wipeKey t h), bootMarks_mk]
  rfl
theorem bootMarks_markUnsealed (s : State) : bootMarks (markUnsealed s) = bootMarks s := rfl
theorem bootMarks_sealCheck (f : BootFacts) (found : Nat) (s : State) : bootMarks (sealCheck f found s) = bootMarks s := by
  unfold sealCheck
  dsimp only
  split
  · rfl
  · split
    · rfl
    · rw [bootMarks_markUnsealed]; rfl
/-- The transition that an exhausted store left unwritten. -/
def exhaustionWritten (s : State) : State :=
  if s.mode.exhaustedAtLoss then
    let s := recordTransition .lastGasp .off 0x12 s
    { s with mode := { s.mode with exhaustedAtLoss := false } }
  else s
theorem bootMarks_exhaustionWritten (s : State) : bootMarks (exhaustionWritten s) = bootMarks s := by
  unfold exhaustionWritten
  split
  · have h := bootMarks_report (recordTransition_report .lastGasp .off 0x12 s)
    generalize recordTransition .lastGasp .off 0x12 s = x at h ⊢
    exact h
  · rfl
theorem bootMarks_markLost (l : List (Nat × Nat × Nat)) (s : State) : bootMarks (markLost l s) = bootMarks s :=
  foldl_view bootMarks (f := fun t (x : Nat × Nat × Nat) => { t with fault := { t.fault with
    unverified := tabSet false t.fault.unverified (x.1 % 8) true
    lost := tabSet 0 t.fault.lost (x.1 % 8) (x.2.1 % 2 ^ 32 * 2 ^ 32 + x.2.2 % 2 ^ 32) } }) (fun _ _ => rfl) l s
theorem standing_settleCredits (cause slot : Nat) (g : Entry × Account → Entry × Account) (s : State) :
    standing (settleCredits cause slot g s) = standing s := by
  unfold settleCredits
  split
  · rfl
  · exact standing_commit _ _ _ _
theorem standing_openReq (r : ReqRec) (s : State) : standing (openReq r s) = standing s := rfl
theorem standing_endDeferred (d : Deferred) (st : Status) (s : State) : standing (endDeferred d st s) = standing s := by
  unfold endDeferred takeRqid
  dsimp only
  rw [standing_settleCredits, standing_dlBump, standing_dlBump, standing_openReq, standing_mk]
  rfl
theorem bootMarks_endAllDeferred (s : State) : bootMarks (endAllDeferred s) = bootMarks s := by
  have h : standing (endAllDeferred s) = standing s :=
    foldl_view standing (fun t d => standing_endDeferred d .incomplete t) _ _
  rw [bootMarks, mode_of_standing h, power_of_standing h, time_of_standing h]
  rfl
theorem bootMarks_restoreVerdicts (s : State) : bootMarks (restoreVerdicts s) = bootMarks s :=
  foldl_view bootMarks (f := fun t vi => restoreHeld vi t) (fun _ _ => rfl) _ s
/-- Step 6: the Roll, the seal, the accounts and the verdicts. -/
def bootRestored (f : BootFacts) (found : Nat) (s : State) : State :=
  restoreVerdicts (endAllDeferred (markLost f.lost (exhaustionWritten (sealCheck f found (restoreRoll f.lost s)))))
theorem bootMarks_bootRestored (f : BootFacts) (found : Nat) (s : State) : bootMarks (bootRestored f found s) = bootMarks s := by
  rw [bootRestored, bootMarks_restoreVerdicts, bootMarks_endAllDeferred, bootMarks_markLost, bootMarks_exhaustionWritten,
    bootMarks_sealCheck, bootMarks_restoreRoll]

theorem bootBank_warm (f : BootFacts) (s : State) : bootBank true f s = some s.molfen.bank := rfl
theorem fenceImages_warm (f : BootFacts) (s : State) : fenceImages true f s = s := rfl
/-- Step 6 of a BOOT under way is noted. -/
def stepSixReached (s : State) : State :=
  takeSnap (if s.mode.mode = .boot then { s with mode := { s.mode with bootStep := 6 } } else { s with saved := none })
/-- A warm BOOT that finds nothing failing reaches step 6. -/
theorem startBoot_warm_eq (cause : Nat) {f : BootFacts} (hfatal : f.fatal = none) (hkey : f.keyStore = true) (s : State) :
    startBoot true cause f s = stepSixReached (bootRestored f (lastJseq s)
      (startPairs (bootTested true cause f s).molfen.bank (bootTested true cause f s))) := by
  unfold startBoot bootTested mainsBack
  rw [hfatal]
  dsimp only [Option.filter]
  generalize selfTest true f _ = t
  rw [bootBank_warm, hkey]
  dsimp only
  rw [if_neg (by decide), fenceImages_warm]
  unfold bootRestored exhaustionWritten
  generalize sealCheck f _ _ = x
  rfl

theorem stepSixReached_of_boot {s : State} (h : s.mode.mode = .boot) :
    bootMarks (stepSixReached s) = bootMarks s ∧ (stepSixReached s).mode.bootStep = 6 := by
  rw [stepSixReached, if_pos h]
  exact ⟨rfl, rfl⟩
theorem startBoot_warm_leaves (cause : Nat) {f : BootFacts} (hfatal : f.fatal = none) (hfailed : f.failed = [])
    (hkey : f.keyStore = true) (s : State) :
    bootMarks (startBoot true cause f s) = ⟨.boot, true, true, false, false⟩ ∧ (startBoot true cause f s).mode.bootStep = 6 := by
  have hmarks := bootMarks_bootRestored f (lastJseq s) (startPairs (bootTested true cause f s).molfen.bank (bootTested true cause f s))
  rw [bootMarks_startPairs, bootMarks_bootTested true cause hfailed] at hmarks
  rw [startBoot_warm_eq cause hfatal hkey]
  obtain ⟨hreached, hstep⟩ := stepSixReached_of_boot (congrArg BootMarks.mode hmarks)
  exact ⟨hreached.trans hmarks, hstep⟩

/-- With mains present, the seal ends in a warm BOOT. -/
theorem sealComplete_boot {s : State} (h : s.mode.mode = .lastGasp) (hopen : s.power.gaspOpen = true) (e d : Nat) {f : BootFacts}
    (hfatal : f.fatal = none) (hfailed : f.failed = []) (hkey : f.keyStore = true) :
    ∃ u, execSealComplete true e d f s = .next u ∧ u.mode.mode = .boot ∧ u.mode.bootWarm = true ∧ u.mode.bootStep = 6
      ∧ u.power.gaspOpen = false ∧ u.power.mains = true ∧ u.time.valid = false := by
  have hexec : execSealComplete true e d f s
      = .next (startBoot true 0x0D f (writeSeal e d (drainStaging (allLanesDropped s)))) := by
    simp only [execSealComplete, h, hopen, and_self, if_true, allLanesDropped]
  obtain ⟨hmarks, hstep⟩ := startBoot_warm_leaves 0x0D hfatal hfailed hkey (writeSeal e d (drainStaging (allLanesDropped s)))
  simp only [bootMarks, BootMarks.mk.injEq] at hmarks
  obtain ⟨hmode, hwarm, hmains, hgasp, hvalid⟩ := hmarks
  exact ⟨_, hexec, hmode, hwarm, hstep, hgasp, hmains, hvalid⟩

/-- Settles O29: the stages of the last gasp, its three ends, and a BOOT cut short, each by what it leaves of the mode, mains
and the seal. -/
theorem mainsLoss : Obligations.MainsLoss := fun _ =>
  ⟨fun h => if_pos h, mainsLoss_gasp, fun e d f h hopen => sealComplete_off h hopen e d f,
    fun e d _ h hopen => sealComplete_boot h hopen e d, holdupExhausted_off, fun _ => mainsLossBeforeStep7_restores⟩

end Sys2Proof.Machine
end

section
/-! O34 (03 R64, R76, R78; 08 R219; 14 R383): a pace window notes each island's count and then moves supplies and cards alone; a
record, an escalation and a command's end leave what the Caretaker has measured. -/

namespace Sys2Proof.Machine

open Sys2Proof.Safety

/-! ### Folds that reach one key -/

/-- Where each step keeps Q, and the step at k takes P to Q, a fold over a list that names k leaves Q. -/
theorem foldl_reaches {P Q : State → Prop} {f : State → Nat → State} {k : Nat} (hbefore : ∀ t i, i ≠ k → P t → P (f t i))
    (hat : ∀ t, P t → Q (f t k)) (hafter : ∀ t i, Q t → Q (f t i)) {l : List Nat} (hk : k ∈ l) {s : State} (hs : P s) :
    Q (l.foldl f s) := by
  induction l generalizing s with
  | nil => cases hk
  | cons i l ih =>
    by_cases hik : i = k
    · subst hik
      exact List.foldlRecOn l f (hat s hs) fun t ht j _ => hafter t j ht
    · exact ih (List.mem_of_ne_of_mem (Ne.symm hik) hk) (hbefore s i hik hs)

/-! ### Pace windows (14 R383) -/

theorem settledOnly.pace {s u : State} (h : settledOnly s u) : u.pace = s.pace := by rw [h]
theorem reportOnly.pace {s u : State} (h : reportOnly s u) : u.pace = s.pace := by rw [h]
theorem islandOf_of_pace {s u : State} (h : u.pace = s.pace) (i : Nat) : islandOf u i = islandOf s i := by
  simp only [islandOf, h]

/-- Whatever a window calls for, its count is noted. -/
theorem paceRule_measured (all : Bool) (margin n : Nat) (x : Island) : (paceRule all margin n x).1.measured = n := by
  unfold paceRule
  extract_lets req target at85 low y
  have hnoted : y.measured = n := rfl
  clear_value y
  repeat' split
  all_goals exact hnoted
theorem moveSupply_measured (i mv : Nat) (s : State) (j : Nat) :
    (islandOf (moveSupply i mv s) j).measured = (islandOf s j).measured := by
  unfold moveSupply
  dsimp only
  split
  · rfl
  · by_cases h : j = i
    · subst h; simp
    · simp [h]
theorem noteAge_pace (i : Nat) (old x : Island) (s : State) : (noteAge i old x s).pace = s.pace := by
  unfold noteAge
  dsimp only
  split <;> rfl
/-- One island's window notes its count, and no other island's. -/
theorem paceIsland_measured (i n : Nat) (s : State) (j : Nat) :
    (islandOf (paceIsland i n s) j).measured = if j = i then n / 16 else (islandOf s j).measured := by
  have hnoted := paceRule_measured (allShed s) (setting s 0x2040 1 0) (n / 16) (islandOf s i)
  unfold paceIsland
  dsimp only
  generalize paceRule _ _ _ _ = p at hnoted ⊢
  obtain ⟨x, late⟩ := p
  have hbefore : (islandOf (noteAge i (islandOf s i) x (moveSupply i x.supply
      (setIsland s i { x with supply := (islandOf s i).supply }))) j).measured
        = if j = i then n / 16 else (islandOf s j).measured := by
    rw [islandOf_of_pace (noteAge_pace _ _ _ _), moveSupply_measured]
    by_cases h : j = i
    · subst h; simpa using hnoted
    · simp [h]
  split
  · rw [islandOf_of_pace (errRecord_report _ _).pace]
    exact hbefore
  · exact hbefore

theorem paceWindowEnd_measures (counts : List Nat) {s : State} (hv : s.time.valid = true) (hb : s.mode.mode ≠ .boot)
    (ho : s.mode.mode ≠ .off) : ∃ u, execPaceWindowEnd counts s = .next u
      ∧ ∀ i c, i < 19 → counts[i]? = some c → (islandOf u i).measured = c / 16 := by
  refine ⟨_, if_neg (by simp [hv, hb, ho]), fun i c hi hc => ?_⟩
  rw [islandOf_of_pace (settle_settled _).pace]
  refine foldl_reaches (P := fun _ => True) (Q := fun t => (islandOf t i).measured = c / 16) (fun _ _ _ _ => trivial) ?_ ?_
    (List.mem_range.mpr hi) trivial
  · intro t _
    simp only [hc, paceIsland_measured, if_true]
  · intro t j ht
    split
    case h_1 d hd =>
      rw [paceIsland_measured]
      split
      case isTrue h => subst h; rw [hc] at hd; cases hd; rfl
      case isFalse => exact ht
    case h_2 => exact ht

/-! ### The ledger clock (08 R219) -/

theorem ledgerSecond_counts {s : State} (h : s.mode.mode ≠ .off) :
    ∃ u, execLedgerSecond s = .next u ∧ u.time.ledger = inc32 s.time.ledger ∧ u.time.ledgerPersisted = inc32 s.time.ledger
      ∧ u.time.careUs = max s.time.careUs (s.time.carePersisted + 1000000) ∧ u.time.carePersisted = u.time.careUs
      ∧ u.power.poweredSeconds = inc32 s.power.poweredSeconds ∧ u.roll = s.roll :=
  ⟨_, if_neg h, rfl, rfl, rfl, rfl, rfl, rfl⟩
theorem writeInterval_gap (v : Nat) {s : State} (h : s.time.gap = true) : writeInterval v s =
    (journalRoll causeStation 0 {} (.clock v) { s with time := { s.time with
      ledger := (s.time.ledger + v) % 2 ^ 32, ledgerPersisted := (s.time.ledger + v) % 2 ^ 32, gap := false } }, .ok) :=
  if_pos h
theorem unpoweredInterval_taken {vi : Fin 16} {v : Nat} {s : State} (hw : writable s vi 0x6001 2 0 4 v = true)
    (h : s.time.gap = true) : ∃ u, execUnpoweredIntervalWrite vi v s = .next u ∧ u.answer.status = .ok ∧ u.time.gap = false
      ∧ u.time.ledger = (s.time.ledger + v) % 2 ^ 32 ∧ u.roll.entries = s.roll.entries :=
  ⟨_, answered_of_writable hw (writeInterval_gap v h), rfl, rfl, rfl, rfl⟩

/-! ### The capacity test (03 R64) -/

theorem reportOnly.power {s u : State} (h : reportOnly s u) : u.power = s.power := by rw [h]
theorem settledOnly.nextEseq {s u : State} (h : settledOnly s u) : u.fault.nextEseq = s.fault.nextEseq := by rw [h]
/-- The number after a record's is the next. -/
theorem errRecord_nextEseq (b : ErrBody) (s : State) : (errRecord b s).fault.nextEseq = seqNext s.fault.nextEseq := by
  have htold : ∀ (c : Prop) [Decidable c] (u : State) (vi kind data : Nat),
      (if c then event u vi kind data else u).fault.nextEseq = u.fault.nextEseq := fun c _ u vi kind data => by
    split
    · exact (notifyVi_settled _ _ _ _ _).nextEseq
    · rfl
  unfold errRecord
  generalize stamp s = p
  obtain ⟨t, ok⟩ := p
  exact htold _ _ _ _ _

theorem capacityTest_enough {mJ : Nat} {s : State} (h : s.mode.mode ≠ .off) (hm : 4000 ≤ mJ) :
    execHoldupCapacityTest mJ s = .next { s with power := { s.power with capacity := min mJ 65535 } } :=
  (if_neg h).trans (if_neg (Nat.not_lt.mpr hm))
theorem capacityTest_low {mJ : Nat} {s : State} (h : s.mode.mode ≠ .off) (hm : mJ < 4000) :
    ∃ u, execHoldupCapacityTest mJ s = .next u ∧ u.power.capacity = mJ
      ∧ u.fault.newest = s.fault.nextEseq ∧ u.fault.nextEseq = seqNext s.fault.nextEseq := by
  refine ⟨_, (if_neg h).trans (if_pos hm), ?_, ?_, ?_⟩
  · rw [(settle_settled _).power, refreshCard, setCard_power, (errRecord_report _ _).power]
    exact Nat.min_eq_left (by omega)
  · rw [(settle_settled _).newest]
    exact errRecord_newest _ _
  · rw [(settle_settled _).nextEseq]
    exact errRecord_nextEseq _ _

/-! ### Temperatures (03 R76, R78) -/

theorem prefectOnly.power {s u : State} (h : prefectOnly s u) : u.power = s.power := by rw [h]
@[simp] theorem stopTiles_power (s : State) : (stopTiles s).power = s.power := (stopTiles_only s).power
theorem enterSafe_power (cause : Nat) (s : State) : (enterSafe cause s).power = s.power := by
  have hstopped : ∀ x, (stopTiles (stopReceive (stopBursts x))).power = x.power := fun x => by
    rw [stopTiles_power]
    exact power_of_standing ((standing_stopReceive _).trans (standing_stopBursts _))
  unfold enterSafe
  rw [hstopped, transition_power]
theorem escalate_power (s : State) : (escalate s).power = s.power := by
  unfold escalate
  split
  · rfl
  · rfl
  · rfl
  · exact enterSafe_power _ _
theorem markSafeCause_power (n : Nat) (s : State) : (markSafeCause n s).power = s.power := by
  unfold markSafeCause; split <;> rfl
theorem escalateWith_power (b : ErrBody) (s : State) : (escalateWith b s).power = s.power := by
  rw [escalateWith, escalate_power, markSafeCause_power, (errRecord_report _ _).power]

/-- What the Caretaker measures, as it is noted. -/
def readingsNoted (m : Readings) (junction : Int) (p : PowerUnit) : PowerUnit :=
  { p with baseplate := m.base, junction := junction, voltage := min m.voltage 65535, powerDrawn := min m.power 65535
           holdup := min m.holdup 65535 }
/-- The readings are noted, a hot baseplate is recorded, and the junction is judged. -/
theorem thermalLimit_eq (m : Readings) (junction : Int) {s : State} (h : s.mode.mode ≠ .off) :
    ∃ b x, execThermalLimit m junction s = .next (settle (if 1100 < junction then escalateWith b x else x))
      ∧ x.power = readingsNoted m junction s.power ∧ x.mode.mode = s.mode.mode := by
  refine ⟨_, _, if_neg h, ?_⟩
  split
  · exact ⟨(errRecord_report _ _).power, errRecord_mode_mode _ _⟩
  · exact ⟨rfl, rfl⟩
theorem thermalLimit_notes (m : Readings) (junction : Int) {s : State} (h : s.mode.mode ≠ .off) :
    ∃ u, execThermalLimit m junction s = .next u ∧ u.power.baseplate = m.base ∧ u.power.junction = junction
      ∧ u.power.voltage = min m.voltage 65535 ∧ u.power.powerDrawn = min m.power 65535 ∧ u.power.holdup = min m.holdup 65535
      ∧ (1100 < junction → s.mode.mode ≠ .lastGasp → u.mode.mode = .safe) := by
  obtain ⟨b, x, hexec, hpower, hmode⟩ := thermalLimit_eq m junction h
  have hnoted : (settle (if 1100 < junction then escalateWith b x else x)).power = readingsNoted m junction s.power := by
    rw [(settle_settled _).power, apply_ite State.power, escalateWith_power, ite_self, hpower]
  refine ⟨_, hexec, ?_⟩
  rw [hnoted]
  refine ⟨rfl, rfl, rfl, rfl, rfl, fun hhot hg => ?_⟩
  have hsafe := escalateWith_mode b x (by rwa [hmode]) (by rwa [hmode])
  rw [if_pos hhot, settle_mode_of_safe hsafe, hsafe]

/-- Settles O34, from what each command of the Caretaker notes. -/
theorem paceLedgerAndTests : Obligations.PaceLedgerAndTests :=
  ⟨⟨fun counts _ => paceWindowEnd_measures counts, fun _ => ledgerSecond_counts, fun _ _ _ => unpoweredInterval_taken⟩,
    fun _ h => ⟨fun _ => capacityTest_enough h, fun _ => capacityTest_low h, fun m junction => thermalLimit_notes m junction h⟩⟩

end Sys2Proof.Machine
end

section
/-! O49 (03 R69, R71; 08 R207, R221, R225, R226; 15 R395, R407). The daily sweep and the hour of a report card are folds over
slots and units; what follows a card's hour, the ageing of islands and the fence of a tile, leaves the hour's marks of every
card but the state of a tile's. -/

namespace Sys2Proof.Machine

open Sys2Proof.Safety

/-! ### Budgets, slices, applier and repair (08 R207, R225, R226; 15 R395) -/

theorem grantBudget_added {vi : Fin 16} {t v : Nat} {s : State} (hw : writable s vi 0x6000 3 t 4 v = true) :
    ∃ u, execGrantBudgetAdd vi t v s = .next u ∧ u.answer.status = .ok
      ∧ budgetLeft u t = (budgetLeft s t + v) % 2 ^ 32 ∧ u.roll.entries = s.roll.entries :=
  ⟨_, answered_of_writable hw rfl, rfl, tabGet_set_self _ _ _ _, rfl⟩
/-- A group of one slice write that passes its checks sets that size or base. -/
theorem sliceWrite_lone {vi : Fin 16} {size : Bool} {w n : Nat} {s : State}
    (hw : writeCheck s vi 0x6000 (if size then 2 else 1) w 2 n = none) (hc : sliceCheck s [⟨size, w, n⟩] = none) :
    execSliceWrite vi [(size, w, n)] s = took (putSetting s 0 0x6000 (if size then 2 else 1) w n) := by
  have hitem : sliceItemCheck s vi [⟨size, w, n⟩] = none := by simp [sliceItemCheck, hw]
  simp only [execSliceWrite, List.map_cons, List.map_nil, writeSlices, hitem, hc]
  rfl
/-- A poisoned word is repaired from MRAM. -/
theorem rollPoisonRepair_readable (slot : Fin 262144) (w : Fin 8) (s : State) :
    ∃ u, execRollPoisonRepair slot w true s = .next u
      ∧ entryOf u slot = { journaledEntry s slot with
          sigStore := (entryOf s slot).sigStore, rekeyShadow := (entryOf s slot).rekeyShadow }
      ∧ ∀ k, k ≠ slot.val → entryOf u k = entryOf s k := by
  have hentry : ∀ (x : State) (k : Nat), entryOf (settle x) k = entryOf x k := fun x k => by
    simp only [entryOf, (settle_settled x).entries]
  refine ⟨_, rfl, ?_, fun k hk => ?_⟩
  · rw [hentry]
    exact entryOf_setEntry _ _ _
  · rw [hentry]
    exact entryOf_setEntry_other _ _ _ _ hk

/-! ### The daily sweep (08 R221) -/

/-- A key that does not read the default is held. -/
theorem mem_of_tabGet_ne {α : Type} {d : α} {t : Tab α} {k : Nat} (h : tabGet d t k ≠ d) : (k, tabGet d t k) ∈ t := by
  induction t with
  | nil => exact absurd rfl h
  | cons p t ih =>
    obtain ⟨k', v⟩ := p
    by_cases hk : k = k'
    · simp [tabGet, hk]
    · simp only [tabGet, hk, if_false] at h ⊢
      exact List.mem_cons_of_mem _ (ih h)
/-- Every entry a day old is due. -/
theorem mem_sweepDue {s : State} {k : Nat} (hlive : (entryOf s k).status ≠ .free) (hold : 86400 ≤ sinceTouch s (entryOf s k)) :
    k ∈ sweepDue s := by
  have hheld : (k, entryOf s k) ∈ s.roll.entries := mem_of_tabGet_ne fun h => hlive (congrArg Entry.status h)
  exact List.mem_map.mpr ⟨_, List.mem_filter.mpr ⟨hheld, by simp [hlive, hold]⟩, rfl⟩

theorem journalRoll_report (cause slot : Nat) (e : Entry) (body : JBody) (s : State) :
    reportOnly s (journalRoll cause slot e body s) := stageJournal_report _ _ s
theorem reportOnly.cipher {s u : State} (h : reportOnly s u) : u.cipher = s.cipher := by rw [h]
theorem reportOnly.tx {s u : State} (h : reportOnly s u) : u.tx = s.tx := by rw [h]
theorem commit_cipher (cause slot : Nat) (p : Entry × Account) (s : State) : (commit cause slot p s).cipher = s.cipher := by
  rw [commit, (journalRoll_report _ _ _ _ _).cipher, setAccount_cipher, setEntry_cipher]
theorem commit_tx (cause slot : Nat) (p : Entry × Account) (s : State) : (commit cause slot p s).tx = s.tx := by
  rw [commit, (journalRoll_report _ _ _ _ _).tx, setAccount_tx, setEntry_tx]
/-- A touch commits an entry or does nothing: what every commit leaves, it leaves. -/
theorem touch_view {β : Type} {v : State → β} (hv : ∀ cause slot p s, v (commit cause slot p s) = v s) (cause slot : Nat)
    (s : State) : v (touch cause slot s) = v s := by
  unfold touch
  split
  · rfl
  · exact hv _ _ _ _
theorem touch_time (cause slot : Nat) (s : State) : (touch cause slot s).time = s.time :=
  touch_view (v := State.time) (fun _ _ _ _ => time_of_standing (standing_commit _ _ _ _)) _ _ _
theorem entryOf_touch_other (cause : Nat) {slot k : Nat} (h : k ≠ slot) (s : State) :
    entryOf (touch cause slot s) k = entryOf s k := by
  unfold touch
  split
  · rfl
  · rw [entryOf_commit, if_neg h]
/-- An entry that is not FREE is touched at the ledger clock. -/
theorem touch_touch (cause : Nat) {slot : Nat} {s : State} (h : (entryOf s slot).status ≠ .free) :
    (entryOf (touch cause slot s) slot).touch = s.time.ledger := by
  rw [touch, if_neg h, entryOf_commit, if_pos rfl]
  rfl
/-- A slot touched at the ledger clock reads so after any touch in the same second. -/
theorem touch_touch_again (cause slot : Nat) {k : Nat} {s : State} (h : (entryOf s k).touch = s.time.ledger) :
    (entryOf (touch cause slot s) k).touch = s.time.ledger := by
  by_cases hk : k = slot
  · subst hk
    by_cases hfree : (entryOf s k).status = .free
    · rwa [touch, if_pos hfree]
    · exact touch_touch cause hfree
  · rwa [entryOf_touch_other cause hk]
theorem dailySweep_leaves (s : State) : (dailySweep s).cipher = s.cipher ∧ (dailySweep s).tx = s.tx :=
  ⟨foldl_view State.cipher (fun t slot => touch_view commit_cipher causeSweep slot t) _ _,
    foldl_view State.tx (fun t slot => touch_view commit_tx causeSweep slot t) _ _⟩
theorem dailySweep_touches {s : State} {k : Nat} (hlive : (entryOf s k).status ≠ .free)
    (hold : 86400 ≤ sinceTouch s (entryOf s k)) : (entryOf (dailySweep s) k).touch = s.time.ledger := by
  obtain ⟨-, hswept⟩ : (dailySweep s).time = s.time ∧ (entryOf (dailySweep s) k).touch = s.time.ledger := by
    refine foldl_reaches (P := fun t => t.time = s.time ∧ (entryOf t k).status ≠ .free)
      (Q := fun t => t.time = s.time ∧ (entryOf t k).touch = s.time.ledger) ?_ ?_ ?_ (mem_sweepDue hlive hold) ⟨rfl, hlive⟩
    · rintro t slot hslot ⟨htime, hfree⟩
      exact ⟨(touch_time _ _ _).trans htime, by rwa [entryOf_touch_other _ (Ne.symm hslot)]⟩
    · rintro t ⟨htime, hfree⟩
      exact ⟨(touch_time _ _ _).trans htime, by rw [touch_touch _ hfree, htime]⟩
    · rintro t slot ⟨htime, htouch⟩
      exact ⟨(touch_time _ _ _).trans htime, by rw [touch_touch_again _ _ (by rwa [htime]), htime]⟩
  exact hswept

/-! ### The staging buffer (03 R69, R71) -/

theorem drainItem_entries (x : StagedItem) (s : State) : (drainItem x s).roll.entries = s.roll.entries := by
  cases x with
  | verdict h =>
    dsimp only [drainItem]
    split <;> rfl
  | roll r =>
    obtain ⟨im, l, h⟩ := ringRecord_eq r s
    rw [drainItem, h]
  | conservation k d => rfl
  | account d k v => rfl
theorem drainStaging_entries (s : State) : (drainStaging s).roll.entries = s.roll.entries :=
  foldl_view (fun t => t.roll.entries) (f := fun t (p : Nat × StagedItem) => drainItem p.2 t)
    (fun t p => drainItem_entries p.2 t) _ _
/-- A Roll record staged alone joins the ring. -/
theorem drainStaging_lone {s : State} {c : Nat} {r : JRec} (hc : c < 6) (h : s.roll.staging = [(c, .roll r)]) :
    drainStaging s = ringRecord r { s with roll := { s.roll with staging := [] } } := by
  have hlist : (List.range 6).flatMap (fun i => s.roll.staging.filter (fun p => p.1 == i)) = [(c, .roll r)] := by
    rw [h]
    interval_cases c <;> rfl
  simp only [drainStaging, hlist]
  rfl
theorem ringRecord_backlog (r : JRec) (s : State) : (ringRecord r s).roll.backlog
    = s.roll.backlog.drop (s.roll.backlog.length + 1 - journalRing) ++ [r] := rfl
theorem stagingBufferDrain_drains (s : State) : ∃ u, execStagingBufferDrain s = .next u ∧ u.roll.staging = []
    ∧ u.roll.entries = s.roll.entries ∧ ∀ (c : Nat) (r : JRec), c < 6 → s.roll.staging = [(c, .roll r)] →
      u.roll.backlog = s.roll.backlog.drop (s.roll.backlog.length + 1 - 131072) ++ [r] :=
  ⟨_, rfl, drainStaging_staging s, drainStaging_entries s, fun _ _ hc h => by
    rw [drainStaging_lone hc h, ringRecord_backlog, journalRing]⟩

/-! ### The units of Table 15.1 -/

theorem unitRange_le (k : Nat) : unitRange k ≤ 64 := by
  unfold unitRange
  split <;> decide
theorem unitRange_pos {k : Nat} (h : 0 < unitRange k) : k < 18 := by
  by_contra hk
  unfold unitRange at h
  split at h <;> omega
theorem mem_allUnits {u : Nat} (h : isUnit u = true) : u ∈ allUnits := by
  simp only [isUnit, Bool.and_eq_true, decide_eq_true_eq] at h
  obtain ⟨-, hi⟩ := h
  refine List.mem_flatMap.mpr ⟨u / 256, List.mem_range.mpr (unitRange_pos (by omega)), List.mem_map.mpr ⟨u % 256, ?_, ?_⟩⟩
  · exact List.mem_range.mpr hi
  · omega
/-- No unit is named twice. -/
theorem allUnits_nodup : allUnits.Nodup := by
  refine List.nodup_flatMap.mpr ⟨fun k _ => ?_, ?_⟩
  · exact List.nodup_range.map fun i j h => by simpa using h
  · refine List.nodup_range.imp fun {k j} hkj u hk hj => ?_
    obtain ⟨a, ha, rfl⟩ := List.mem_map.mp hk
    obtain ⟨b, hb, hab⟩ := List.mem_map.mp hj
    have hak := (List.mem_range.mp ha).trans_le (unitRange_le k)
    have hbj := (List.mem_range.mp hb).trans_le (unitRange_le j)
    omega

/-! ### An hour of every card (15 R407) -/

/-- A unit's card after its hour. -/
def cardAfterHour (life : List (Nat × Nat)) (u : Nat) (s : State) : Card :=
  { cardOf s u with
    cstate := cardState s u
    hours := if cardState s u = 0 then inc32 (cardOf s u).hours else (cardOf s u).hours
    corrHours := if (cardOf s u).corrHours = [] then [] else (0 :: (cardOf s u).corrHours).take 24
    lifeUsed := ((life.find? (fun p => p.1 == u)).map (fun p => p.2 % 65536)).getD (cardOf s u).lifeUsed }
theorem hourCard_eq (life : List (Nat × Nat)) (u : Nat) (s : State) :
    hourCard life u s = setCard s u (cardAfterHour life u s) := rfl
/-- A unit's state does not lie in a card. -/
theorem cardState_setCard (s : State) (u : Nat) (x : Card) (k : Nat) : cardState (setCard s u x) k = cardState s k := rfl
theorem cardAfterHour_setCard (life : List (Nat × Nat)) {u k : Nat} (h : k ≠ u) (x : Card) (s : State) :
    cardAfterHour life k (setCard s u x) = cardAfterHour life k s := by
  simp only [cardAfterHour, cardState_setCard, cardOf_setCard_other _ _ _ _ h]
theorem cardOf_hours (life : List (Nat × Nat)) {l : List Nat} (hl : l.Nodup) (s : State) (k : Nat) :
    cardOf (l.foldl (fun t u => hourCard life u t) s) k = if k ∈ l then cardAfterHour life k s else cardOf s k := by
  induction l generalizing s with
  | nil => rfl
  | cons u l ih =>
    obtain ⟨hu, hl⟩ := List.nodup_cons.mp hl
    rw [List.foldl_cons, ih hl, hourCard_eq]
    by_cases hk : k = u
    · subst hk; simp [hu]
    · simp [hk, cardAfterHour_setCard]
theorem cardAfterHour_advanceTo (life : List (Nat × Nat)) (n k : Nat) (s : State) :
    cardAfterHour life k (advanceTo n s) = cardAfterHour life k s := by
  unfold advanceTo
  split <;> rfl

/-! ### What ageing and the fence of a tile leave of the cards (15 R401, R408) -/

/-- Every card keeps what its hour noted; a tile's state alone may have changed since. -/
def hourKept (s u : State) : Prop := ∀ k, (cardOf u k).lifeUsed = (cardOf s k).lifeUsed ∧ (cardOf u k).hours = (cardOf s k).hours
  ∧ (k / 256 ≠ 1 → (cardOf u k).cstate = (cardOf s k).cstate)

theorem hourKept.trans {s u v : State} (h : hourKept s u) (g : hourKept u v) : hourKept s v := fun k => by
  obtain ⟨hlife, hhours, hstate⟩ := h k
  obtain ⟨glife, ghours, gstate⟩ := g k
  exact ⟨glife.trans hlife, ghours.trans hhours, fun hk => (gstate hk).trans (hstate hk)⟩
theorem hourKept.of_cards {s u : State} (h : u.fault.cards = s.fault.cards) : hourKept s u := fun k => by
  simp only [cardOf, h, implies_true, and_self]
theorem hourKept.refl (s : State) : hourKept s s := .of_cards rfl
theorem hourKept.of_prefectOnly {s u : State} (h : prefectOnly s u) : hourKept s u := .of_cards (by rw [h])
theorem hourKept.of_settledOnly {s u : State} (h : settledOnly s u) : hourKept s u := .of_cards (by rw [h])
theorem foldl_hourKept {α : Type} {f : State → α → State} {l : List α} (hf : ∀ t, ∀ a ∈ l, hourKept t (f t a)) (s : State) :
    hourKept s (l.foldl f s) :=
  List.foldlRecOn l f (hourKept.refl s) fun t ht a ha => ht.trans (hf t a ha)
/-- A card written with the marks it has, but for a tile's state. -/
theorem setCard_hourKept {s : State} {u : Nat} {x : Card} (hlife : x.lifeUsed = (cardOf s u).lifeUsed)
    (hhours : x.hours = (cardOf s u).hours) (hstate : u / 256 ≠ 1 → x.cstate = (cardOf s u).cstate) :
    hourKept s (setCard s u x) := fun k => by
  by_cases hk : k = u
  · subst hk
    rw [cardOf_setCard]
    exact ⟨hlife, hhours, hstate⟩
  · rw [cardOf_setCard_other _ _ _ _ hk]
    exact ⟨rfl, rfl, fun _ => rfl⟩
/-- A record notes the last fault and the uncorrectable errors of its unit. -/
theorem errRecord_hourKept (b : ErrBody) (s : State) : hourKept s (errRecord b s) := by
  have hnoted : hourKept s (setCard s b.unit { cardOf s b.unit with
      lastFault := s.fault.nextEseq
      uncorr := if b.code = .eccUncorr then inc32 (cardOf s b.unit).uncorr else (cardOf s b.unit).uncorr }) :=
    setCard_hourKept rfl rfl fun _ => rfl
  have htold : ∀ (c : Prop) [Decidable c] (u : State) (vi kind data : Nat),
      hourKept u (if c then event u vi kind data else u) := fun c _ u vi kind data => by
    split
    · exact .of_settledOnly (notifyVi_settled _ _ _ _ _)
    · exact .refl u
  refine hnoted.trans ?_
  unfold errRecord
  generalize stamp s = p
  obtain ⟨t, ok⟩ := p
  exact hourKept.trans (.of_cards rfl) (htold _ _ _ _ _)
theorem detain_cards (d : Detained) (s : State) : (detain d s).fault.cards = s.fault.cards := by
  unfold detain
  split
  · rfl
  · split <;> rfl
theorem listFence_hourKept {unit : Nat} (h : unit / 256 = 1) (ref : Nat) (s : State) : hourKept s (listFence unit ref s) := by
  unfold listFence
  split
  · exact .refl s
  · exact hourKept.trans (.of_cards (detain_cards _ _)) (setCard_hourKept rfl rfl fun hk => absurd h hk)
theorem forceRelease_hourKept (e : Nat) (s : State) : hourKept s (forceRelease e s) :=
  hourKept.trans (.of_cards rfl) (errRecord_hourKept _ _)
theorem releasePassesOfNode_hourKept (n : Nat) (s : State) : hourKept s (releasePassesOfNode n s) :=
  foldl_hourKept (fun t e _ => by
    split
    · exact forceRelease_hourKept e t
    · exact .refl t) _
theorem trapServiceOf_hourKept (decoder : Bool) (p : Nat) (s : State) : hourKept s (trapServiceOf decoder p s) :=
  .of_prefectOnly (foldl_prefectOnly _ (fun t (o : OpRec) => trapOp_only o.opseq t) _ _)
/-- The fence's stop of a tile and of its port lies outside the cards. -/
theorem closePort_modTile_cards (d t : Nat) (f : Tile → Tile) (s : State) :
    (closePort d (modTile s t f)).fault.cards = s.fault.cards := rfl
theorem fenceTile_hourKept {p : Nat} (hp : p < 256) (ref : Nat) (s : State) : hourKept s (fenceTile p ref s) := by
  have htile : unitTile p / 256 = 1 := by unfold unitTile; omega
  unfold fenceTile
  split
  · exact .refl s
  · extract_lets listed released halted closed
    have hlisted : hourKept s listed := (listFence_hourKept htile ref s).trans (.of_cards rfl)
    have hreleased : hourKept s released :=
      (hlisted.trans (trapServiceOf_hourKept false p _)).trans (releasePassesOfNode_hourKept p _)
    have hclosed : hourKept s closed := hreleased.trans (.of_cards (closePort_modTile_cards _ _ _ _))
    clear_value closed
    split
    · exact hclosed.trans (.of_cards rfl)
    · exact hclosed.trans (.of_cards rfl)
theorem islandTiles_lt {s : State} {i p : Nat} (hi : i < 19) (h : p ∈ islandTiles s i) : p < 256 := by
  obtain ⟨k, hk, hkp⟩ := List.mem_filterMap.mp h
  have hk := List.mem_range.mp hk
  split at hkp
  · obtain rfl := Option.some.inj hkp
    omega
  · cases hkp
/-- The tile paced fastest is one of its island's. -/
theorem pacedTile_lt {s : State} {i p : Nat} (hi : i < 19) (h : pacedTile s i = some p) : p < 256 := by
  refine List.foldlRecOn (motive := fun b : Option Nat => ∀ x, b = some x → x < 256) (islandTiles s i) _
    (fun x hx => by cases hx) (fun b hb q hq x hx => ?_) p h
  have hqlt := islandTiles_lt hi hq
  dsimp only at hx
  split at hx
  · split at hx
    · exact Option.some.inj hx ▸ hqlt
    · exact hb _ (by assumption)
  · exact Option.some.inj hx ▸ hqlt
/-- An island's ageing writes its own card's ageing, and may fence its fastest tile. -/
theorem ageIsland_hourKept (dayEnds : Bool) {i : Nat} (hi : i < 19) (s : State) : hourKept s (ageIsland dayEnds i s) := by
  unfold ageIsland
  extract_lets u c x ageMv hours slack days old grade t n
  have ht : hourKept s t := setCard_hourKept rfl rfl fun _ => rfl
  clear_value t
  split
  · split
    case h_1 p hp => exact ht.trans ((errRecord_hourKept _ _).trans (fenceTile_hourKept (pacedTile_lt hi hp) _ _))
    case h_2 => exact ht.trans (errRecord_hourKept _ _)
  · exact ht

/-- The update counted of its day. -/
def hourCounted (dayEnds : Bool) (s : State) : State :=
  { s with fault := { s.fault with hour := if dayEnds then 0 else s.fault.hour + 1 } }
theorem hourCounted_cards (dayEnds : Bool) (s : State) : (hourCounted dayEnds s).fault.cards = s.fault.cards := rfl
/-- The hour of every card, the update's count, and the ageing of the islands. -/
theorem execReportCardUpdate_eq (life : List (Nat × Nat)) (n : Nat) (s : State) :
    let dayEnds := decide (23 ≤ (advanceTo n s).fault.hour)
    execReportCardUpdate life n s = .next (settle ((List.range 19).foldl (fun t i => ageIsland dayEnds i t)
      (hourCounted dayEnds (allUnits.foldl (fun t u => hourCard life u t) (advanceTo n s))))) := rfl
/-- What follows the hour of the cards keeps it. -/
theorem hourAged_hourKept (dayEnds : Bool) (s : State) : hourKept s (settle ((List.range 19).foldl
    (fun t i => ageIsland dayEnds i t) (hourCounted dayEnds s))) :=
  (hourKept.of_cards (hourCounted_cards dayEnds s)).trans
    ((foldl_hourKept (fun t _ hi => ageIsland_hourKept dayEnds (List.mem_range.mp hi) t) _).trans
      (.of_settledOnly (settle_settled _)))
theorem reportCardUpdate_notes (life : List (Nat × Nat)) (n : Nat) (s : State) :
    ∃ u, execReportCardUpdate life n s = .next u ∧ ∀ k, isUnit k = true →
      (k / 256 ≠ 1 → (cardOf u k).cstate = cardState s k)
      ∧ (∀ p, life.find? (fun p => p.1 == k) = some p → (cardOf u k).lifeUsed = p.2 % 65536)
      ∧ (cardOf u k).hours = (if cardState s k = 0 then inc32 (cardOf s k).hours else (cardOf s k).hours) := by
  refine ⟨_, execReportCardUpdate_eq life n s, fun k hk => ?_⟩
  obtain ⟨hlife, hhours, hstate⟩ := hourAged_hourKept (decide (23 ≤ (advanceTo n s).fault.hour))
    (allUnits.foldl (fun t u => hourCard life u t) (advanceTo n s)) k
  rw [cardOf_hours life allUnits_nodup, if_pos (mem_allUnits hk), cardAfterHour_advanceTo] at hlife hhours hstate
  refine ⟨hstate, fun p hp => ?_, hhours⟩
  rw [hlife, cardAfterHour, hp]
  rfl

/-- Settles O49, from what each upkeep command leaves of the Roll, the journal and the cards. -/
theorem rollUpkeep : Obligations.RollUpkeep :=
  ⟨fun s => ⟨fun _ _ _ => grantBudget_added, fun _ _ _ _ => sliceWrite_lone,
      ⟨_, rfl, fun _ => dailySweep_touches, dailySweep_leaves s⟩, fun _ => rfl, fun slot w => rollPoisonRepair_readable slot w s⟩,
    fun s => ⟨fun life n => reportCardUpdate_notes life n s, stagingBufferDrain_drains s⟩⟩

end Sys2Proof.Machine
end

section
/-! What sending and losing leave of the lanes, heads and cages (04). A message sent moves of its lane the next SEQ, the open
commands and the characters that wait; bursts that lose a head send messages besides moving what is not of the lanes. A lane that
loses LOCKED is then followed through the switchover to its head's spare. -/

namespace Sys2Proof.Machine

open Sys2Proof.Safety

/-! ### Records and ends of commands -/

theorem settledOnly.lane {s u : State} (h : settledOnly s u) : u.lane = s.lane := by rw [h]
theorem reportOnly.lane {s u : State} (h : reportOnly s u) : u.lane = s.lane := by rw [h]
theorem prefectOnly.lane {s u : State} (h : prefectOnly s u) : u.lane = s.lane := by rw [h]
section
variable {s u : State} (h : u.lane = s.lane)
include h
theorem laneOf_of_lane (k : Nat) : laneOf u k = laneOf s k := by rw [laneOf, h]; rfl
theorem headOf_of_lane (k : Nat) : headOf u k = headOf s k := by rw [headOf, h]; rfl
theorem cageOf_of_lane (k : Nat) : cageOf u k = cageOf s k := by rw [cageOf, h]; rfl
end
@[simp] theorem laneOf_settle (s : State) (k : Nat) : laneOf (settle s) k = laneOf s k := laneOf_of_lane (settle_settled s).lane k
@[simp] theorem headOf_settle (s : State) (k : Nat) : headOf (settle s) k = headOf s k := headOf_of_lane (settle_settled s).lane k
@[simp] theorem cageOf_settle (s : State) (k : Nat) : cageOf (settle s) k = cageOf s k := cageOf_of_lane (settle_settled s).lane k
@[simp] theorem laneError_lane (l : Nat) (s : State) : (laneError l s).lane = s.lane := (errRecord_report _ s).lane
@[simp] theorem laneOf_modLane (s : State) (l : Nat) (f : Lane → Lane) : laneOf (modLane s l f) l = f (laneOf s l) :=
  laneOf_setLane _ _ _
theorem laneOf_modLane_other (s : State) (f : Lane → Lane) {l k : Nat} (h : k ≠ l) : laneOf (modLane s l f) k = laneOf s k :=
  laneOf_setLane_other _ _ _ _ h
@[simp] theorem headOf_modLane (s : State) (l : Nat) (f : Lane → Lane) (k : Nat) : headOf (modLane s l f) k = headOf s k := rfl
@[simp] theorem cageOf_modLane (s : State) (l : Nat) (f : Lane → Lane) (k : Nat) : cageOf (modLane s l f) k = cageOf s k := rfl
@[simp] theorem headOf_modHead (s : State) (h : Nat) (f : Head → Head) : headOf (modHead s h f) h = f (headOf s h) :=
  headOf_setHead _ _ _
@[simp] theorem laneOf_modHead (s : State) (h : Nat) (f : Head → Head) (k : Nat) : laneOf (modHead s h f) k = laneOf s k := rfl
/-- Which head a lane belongs to is read from the heads and the settings. -/
theorem headOfLane_congr {s u : State} (hh : u.lane.heads = s.lane.heads) (hs : u.settings = s.settings) (l : Nat) :
    headOfLane u l = headOfLane s l := by
  have hhead : ∀ h, headOf u h = headOf s h := fun h => by rw [headOf, hh]; rfl
  have hset : ∀ idx sub el, setting u idx sub el = setting s idx sub el := fun idx sub el => by rw [setting, hs]; rfl
  simp only [headOfLane, hhead, hset]
@[simp] theorem headOfLane_modLane (s : State) (l : Nat) (f : Lane → Lane) (k : Nat) :
    headOfLane (modLane s l f) k = headOfLane s k := headOfLane_congr rfl rfl k

/-! ### What a message sent leaves -/

/-- A lane apart from what messages sent on it move: its next SEQ, its open commands and the characters that wait. -/
def atRest (x : Lane) : Lane := { x with txSeq := 0, cmds := [], txQueue := [] }
/-- What is read of a lane beside those is the same of lanes that are the same at rest. -/
theorem of_atRest {β : Type} (f : Lane → β) (hf : ∀ x, f (atRest x) = f x) {x y : Lane} (h : atRest x = atRest y) : f x = f y := by
  rw [← hf x, h, hf]
/-- The lanes at rest, the heads and the cages. -/
def laneView (s : State) : (Nat → Lane) × Tab Head × Tab Cage := (fun k => atRest (laneOf s k), s.lane.heads, s.lane.cages)

section
variable {s u : State} (h : laneView u = laneView s)
include h
theorem atRest_of_view (k : Nat) : atRest (laneOf u k) = atRest (laneOf s k) := congrFun (congrArg Prod.fst h) k
theorem heads_of_view : u.lane.heads = s.lane.heads := congrArg (fun v => v.2.1) h
theorem cages_of_view : u.lane.cages = s.lane.cages := congrArg (fun v => v.2.2) h
theorem headOf_of_view (k : Nat) : headOf u k = headOf s k := by rw [headOf, heads_of_view h]; rfl
end
theorem laneView_of_lane {s u : State} (h : u.lane = s.lane) : laneView u = laneView s := by
  simp only [laneView, laneOf, h]
theorem laneView_setLane {s : State} {l : Nat} {x : Lane} (h : atRest x = atRest (laneOf s l)) :
    laneView (setLane s l x) = laneView s := by
  refine Prod.ext (funext fun k => ?_) rfl
  by_cases hk : k = l
  · subst hk
    exact (congrArg atRest (laneOf_setLane s k x)).trans h
  · exact congrArg atRest (laneOf_setLane_other s l x k hk)

@[simp] theorem laneView_queueMsg (l type seq body n : Nat) (s : State) : laneView (queueMsg l type seq body n s) = laneView s :=
  laneView_setLane rfl
@[simp] theorem laneView_sendMsg (l type : Nat) (fields : List (Nat × Nat)) (s : State) :
    laneView (sendMsg l type fields s) = laneView s := by
  unfold sendMsg
  dsimp only
  split
  · rw [laneView_queueMsg]
    exact laneView_setLane rfl
  · rfl
@[simp] theorem laneView_sendParamp (l mask slot : Nat) (down now : Bool) (spacing at_ : Nat) (s : State) :
    laneView (sendParamp l mask slot down now spacing at_ s) = laneView s := laneView_sendMsg _ _ _ _
@[simp] theorem laneView_sendRole (l role : Nat) (s : State) : laneView (sendRole l role s) = laneView s := laneView_sendMsg _ _ _ _
@[simp] theorem laneView_sendTime (l seq at_ d : Nat) (s : State) : laneView (sendTime l seq at_ d s) = laneView s :=
  laneView_sendMsg _ _ _ _
@[simp] theorem laneView_sendGain (l mask : Nat) (gain : Int) (at_ : Nat) (s : State) :
    laneView (sendGain l mask gain at_ s) = laneView s := by
  unfold sendGain
  dsimp only
  split
  · exact (laneView_sendMsg _ _ _ _).trans rfl
  · rfl
@[simp] theorem laneView_holdGains (l h : Nat) (s : State) : laneView (holdGains l h s) = laneView s :=
  foldl_view _ (fun _ _ => laneView_sendGain _ _ _ _ _) _ _
@[simp] theorem laneView_bringUpCommands (l h role : Nat) (s : State) : laneView (bringUpCommands l h role s) = laneView s := by
  refine (laneView_sendRole _ _ _).trans ((laneView_holdGains _ _ _).trans ?_)
  exact foldl_view _ (fun _ _ => laneView_sendMsg _ _ _ _) _ _
@[simp] theorem laneView_txenFor (h t : Nat) (s : State) : laneView (txenFor h t s) = laneView s := by
  unfold txenFor
  split
  · exact laneView_sendMsg _ _ _ _
  · rfl
@[simp] theorem laneView_txensFor (h : Nat) (times : List Nat) (s : State) : laneView (txensFor h times s) = laneView s :=
  foldl_view _ (fun t a => laneView_txenFor h a t) _ _
@[simp] theorem laneView_cascadeOut (east : Bool) (type dst body n : Nat) (s : State) :
    laneView (cascadeOut east type dst body n s) = laneView s := laneView_setLane rfl
@[simp] theorem laneView_cascadeSend (dst type : Nat) (fields : List (Nat × Nat)) (s : State) :
    laneView (cascadeSend dst type fields s) = laneView s := by
  unfold cascadeSend
  dsimp only
  split
  · rw [laneView_cascadeOut, laneView_cascadeOut]
  · exact laneView_cascadeOut _ _ _ _ _ _

/-! ### What the bursts leave -/

@[simp] theorem laneView_emit (e : Emission) (s : State) : laneView (emit e s) = laneView s := rfl
@[simp] theorem laneView_giveTokens (h n : Nat) (s : State) : laneView (giveTokens h n s) = laneView s := by
  refine laneView_of_lane ?_
  unfold giveTokens fillBucket
  dsimp only
@[simp] theorem laneView_modBurst (q : Nat) (f : Burst → Burst) (s : State) : laneView (modBurst q f s) = laneView s := rfl
@[simp] theorem laneView_dlBump (vi term : Nat) (s : State) : laneView (dlBump vi term s) = laneView s := rfl
@[simp] theorem laneView_dlDrop (vi term : Nat) (s : State) : laneView (dlDrop vi term s) = laneView s := rfl
@[simp] theorem laneView_commit (cause slot : Nat) (p : Entry × Account) (s : State) :
    laneView (commit cause slot p s) = laneView s := by
  refine laneView_of_lane ?_
  rw [commit, (journalRoll_report _ _ _ _ _).lane, setAccount_lane, setEntry_lane]
@[simp] theorem laneView_modReq (q : Nat) (f : ReqRec → ReqRec) (s : State) : laneView (modReq q f s) = laneView s := by
  unfold modReq; split <;> rfl
@[simp] theorem laneView_trimBlank (h lo hi hi' : Nat) (s : State) : laneView (trimBlank h lo hi hi' s) = laneView s := by
  unfold trimBlank; split <;> rfl
@[simp] theorem laneView_dropBurst (q : Nat) (s : State) : laneView (dropBurst q s) = laneView s := by
  unfold dropBurst
  split
  · exact (laneView_of_lane (raisePort_only _ _ _).lane).trans rfl
  · rfl
@[simp] theorem laneView_sendPrepare (slot : Nat) (s : State) : laneView (sendPrepare slot s) = laneView s := by
  unfold sendPrepare
  dsimp only
  split
  · exact laneView_cascadeSend _ _ _ _
  · rfl
@[simp] theorem laneView_endAttempt (b : Burst) (o : DlOutcome) (st : Status) (bs : BurstState) (endAt n : Nat) (m : Bool)
    (s : State) : laneView (endAttempt b o st bs endAt n m s) = laneView s := by
  simp only [endAttempt, apply_ite laneView, laneView_sendPrepare, laneView_commit, laneView_dlDrop, laneView_dlBump,
    laneView_modReq, ite_self]
@[simp] theorem laneView_removeBurst (b : Burst) (s : State) : laneView (removeBurst b s) = laneView s := by
  refine (laneView_endAttempt ..).trans ?_
  rw [foldl_view laneView (fun t h => laneView_txensFor _ _ t), laneView_dropBurst,
    foldl_view laneView (fun t h => laneView_giveTokens _ _ t)]
@[simp] theorem laneView_stopBurst (b : Burst) (m : Bool) (s : State) : laneView (stopBurst b m s) = laneView s := by
  refine (laneView_endAttempt ..).trans ?_
  rw [foldl_view laneView (fun t h => laneView_txensFor _ _ t), laneView_dropBurst]
  refine Eq.trans (b := laneView ((bitList 12 b.heads).foldl _ ((bitList 12 b.taken).foldl _ s))) rfl ?_
  rw [foldl_view laneView (fun t h => ?_), foldl_view laneView (fun t h => laneView_giveTokens _ _ t)]
  rw [laneView_emit, laneView_trimBlank]
  split
  · exact laneView_sendParamp _ _ _ _ _ _ _ _
  · rfl
@[simp] theorem laneView_dropHead (h : Nat) (s : State) : laneView (dropHead h s) = laneView s := by
  refine foldl_view laneView (fun t b => ?_) _ _
  dsimp only
  split
  case isFalse => rfl
  case isTrue =>
    refine Eq.trans ?_ (laneView_modReq b.rqid (fun r => { r with headLost := true }) t)
    generalize modReq b.rqid (fun r => { r with headLost := true }) t = t
    have hstop : ∀ (c : Prop) [Decidable c] (x : State), laneView (if c then sendParamp (headOf t h).serving (burstMask b h)
        b.rampSlot true true 1 0 x else x) = laneView x := fun c _ x => by
      split
      · exact laneView_sendParamp _ _ _ _ _ _ _ _
      · rfl
    split
    · split
      · exact (laneView_stopBurst _ _ _).trans (hstop _ _)
      · exact (laneView_modBurst _ _ _).trans ((laneView_trimBlank _ _ _ _ _).trans (hstop _ _))
    · split
      · exact laneView_removeBurst _ _
      · exact laneView_modReq _ _ _

/-! ### The spare switchover (04 R111, Table 4.9) -/

theorem openErasure_lane (h : Nat) (s : State) : (openErasure h s).lane = s.lane :=
  foldl_view State.lane (f := fun t a => addErasure a t.time.airTime none causeLane t) (fun _ _ => rfl) _ _
theorem dropGains_lane (l : Nat) (s : State) : (dropGains l s).lane = s.lane :=
  foldl_view State.lane (f := fun t (g : GainChange) => addErasure g.antenna (g.atG - 2) (some t.time.airTime) causeGain t)
    (fun _ _ => rfl) _ { s with rx := { s.rx with gainPending := s.rx.gainPending.filter (fun g => g.lane ≠ l) } }

/-- A head between steps 1 and 5 of its switchover to lane m. -/
def movingTo (m : Nat) (y : Head) : Head := { y with serving := 0xFF, switching := true, target := m, switchOk := false }
/-- Beside the roles it sends, a switchover takes ACTIVE from its lane and marks its head. -/
theorem startSwitch_view (h l m : Nat) (s : State) :
    laneView (startSwitch h l m s) = laneView (modHead (modLane s l (fun x => { x with active := false })) h (movingTo m)) := by
  have herased : ∀ (c : Prop) [Decidable c], (if c then openErasure h s else s).lane = s.lane := fun c _ => by
    split
    · exact openErasure_lane h s
    · rfl
  have hlane : ∀ t : State, t.lane = s.lane → laneView (modHead (modLane t l (fun x => { x with active := false })) h (movingTo m))
      = laneView (modHead (modLane s l (fun x => { x with active := false })) h (movingTo m)) := fun t ht =>
    laneView_of_lane (by simp only [modHead, modLane, setHead, setLane, headOf, laneOf, ht])
  unfold startSwitch
  dsimp only
  rw [laneView_sendRole, apply_ite laneView, laneView_sendRole, ite_self]
  exact hlane _ (herased _)
theorem headOf_startSwitch (h l m : Nat) (s : State) : headOf (startSwitch h l m s) h = movingTo m (headOf s h) := by
  rw [headOf_of_view (startSwitch_view h l m s), headOf_modHead, headOf_modLane]
theorem atRest_startSwitch (h l m : Nat) (s : State) (k : Nat) : atRest (laneOf (startSwitch h l m s) k)
    = atRest (laneOf (modLane s l (fun x => { x with active := false })) k) := atRest_of_view (startSwitch_view h l m s) k
/-- The spare takes a head over by a switchover, or nothing happens. -/
theorem switchToSpare_lane (h l : Nat) (s : State) : (switchToSpare h l s).lane = s.lane
    ∨ ∃ m, (switchToSpare h l s).lane = (startSwitch h l m s).lane := by
  unfold switchToSpare
  split
  case h_1 m _ =>
    split
    · exact .inr ⟨m, by rw [setCard_lane, (listFence_report _ _ _).lane, laneError_lane]⟩
    · exact .inl rfl
  case h_2 => exact .inl rfl
/-- No lane gains ACTIVE by a switchover, and nothing else of a lane at rest changes. -/
theorem atRest_switchToSpare (h l : Nat) (s : State) (k : Nat) : ∃ a, (a = true → (laneOf s k).active = true)
    ∧ atRest (laneOf (switchToSpare h l s) k) = atRest { laneOf s k with active := a } := by
  rcases switchToSpare_lane h l s with e | ⟨m, e⟩
  · exact ⟨(laneOf s k).active, id, by rw [laneOf_of_lane e]⟩
  · rw [laneOf_of_lane e, atRest_startSwitch]
    by_cases hk : k = l
    · subst hk
      exact ⟨false, nofun, by rw [laneOf_modLane]⟩
    · exact ⟨(laneOf s k).active, id, by rw [laneOf_modLane_other _ _ hk]⟩
theorem switchToSpare_cages (h l : Nat) (s : State) : (switchToSpare h l s).lane.cages = s.lane.cages := by
  rcases switchToSpare_lane h l s with e | ⟨m, e⟩
  · rw [e]
  · rw [e, cages_of_view (startSwitch_view h l m s)]
    rfl

/-! ### Loss of LOCKED (04 R103, R104) -/

/-- What lane x reads once it has lost LOCKED, as far as a loss of frame or of signal is judged by it. -/
structure Lost (x y : Lane) : Prop where
  locked : y.locked = false
  active : y.active = false
  los : y.los = x.los
  lol : y.lol = x.lol
  frameLosses : tabGet 0 y.counters 5 = tabGet 0 x.counters 5

/-- A lane that is the same at rest, but for an ACTIVE it may have lost, is as much lost. -/
theorem Lost.of_atRest {x y z : Lane} {a : Bool} (h : Lost x y) (ha : a = true → y.active = true)
    (hz : atRest z = atRest { y with active := a }) : Lost x z where
  locked := (Machine.of_atRest Lane.locked (fun _ => rfl) hz).trans h.locked
  active := (Machine.of_atRest Lane.active (fun _ => rfl) hz).trans
    (eq_false_of_ne_true fun e => by rw [h.active] at ha; exact absurd (ha e) (by decide))
  los := (Machine.of_atRest Lane.los (fun _ => rfl) hz).trans h.los
  lol := (Machine.of_atRest Lane.lol (fun _ => rfl) hz).trans h.lol
  frameLosses := (Machine.of_atRest (fun y => tabGet 0 y.counters 5) (fun _ => rfl) hz).trans h.frameLosses
@[simp] theorem tabGet_bump_self (t : Tab Nat) (k : Nat) : tabGet 0 (bump t k) k = (tabGet 0 t k + 1) % 2 ^ 32 :=
  tabGet_set_self _ _ _ _
theorem tabGet_bumpBy_other (t : Tab Nat) (n : Nat) {k j : Nat} (h : j ≠ k) : tabGet 0 (bumpBy t k n) j = tabGet 0 t j :=
  tabGet_set_other _ _ _ _ h
theorem unlockLane_lost (lossOfFrame : Bool) (l : Nat) (s : State) : Lost (laneOf s l) (laneOf (unlockLane lossOfFrame l s) l) := by
  have hset : ∀ (t : State) (x : Lane), laneOf (dropGains l (setLane t l x)) l = x := fun t x =>
    (laneOf_of_lane (dropGains_lane _ _) _).trans (laneOf_setLane _ _ _)
  have hcount : ∀ (c : Prop) [Decidable c] (t : Tab Nat), tabGet 0 (if c then bump t 6 else t) 5 = tabGet 0 t 5 := fun c _ t => by
    split
    · exact tabGet_bumpBy_other _ _ (by decide)
    · rfl
  unfold unlockLane
  dsimp only
  split
  · rw [laneOf_modHead, hset]
    exact ⟨rfl, rfl, rfl, rfl, hcount _ _⟩
  · rw [hset]
    exact ⟨rfl, rfl, rfl, rfl, hcount _ _⟩
theorem unlockLane_cages (lossOfFrame : Bool) (l : Nat) (s : State) : (unlockLane lossOfFrame l s).lane.cages = s.lane.cages := by
  have hopen : (match (laneOf s l).active, headOfLane s l with
      | true, some h => openErasure h s
      | _, _ => s).lane.cages = s.lane.cages := by
    split
    · rw [openErasure_lane]
    · rfl
  have hset : ∀ (t : State) (x : Lane), (dropGains l (setLane t l x)).lane.cages = t.lane.cages := fun t x => by
    rw [dropGains_lane]; rfl
  unfold unlockLane
  dsimp only
  split
  · exact (hset _ _).trans hopen
  · exact (hset _ _).trans hopen
/-- A lane that fails has lost LOCKED, whatever its head then does. -/
theorem failLane_lost (lossOfFrame : Bool) (l : Nat) (s : State) : Lost (laneOf s l) (laneOf (failLane lossOfFrame l s) l) := by
  have hlost := unlockLane_lost lossOfFrame l s
  unfold failLane
  dsimp only
  split
  case h_2 => exact hlost
  case h_1 h _ _ =>
    obtain ⟨a, ha, hview⟩ := atRest_switchToSpare h l (dropHead h (unlockLane lossOfFrame l s)) l
    have hdrop := atRest_of_view (laneView_dropHead h (unlockLane lossOfFrame l s)) l
    exact (hlost.of_atRest id hdrop).of_atRest ha hview
theorem failLane_cages (lossOfFrame : Bool) (l : Nat) (s : State) : (failLane lossOfFrame l s).lane.cages = s.lane.cages := by
  unfold failLane
  dsimp only
  split
  · exact (switchToSpare_cages _ _ _).trans ((cages_of_view (laneView_dropHead _ _)).trans (unlockLane_cages _ _ _))
  · exact unlockLane_cages _ _ _

end Sys2Proof.Machine
end

section
/-! O38, O39 and O41 (04 R84 to R91, R100 to R103, R108, R110 to R113; 09 R263). A command of the lanes changes the lane it names;
what follows, messages and the end of the command, is read off by the views of the section before. -/

namespace Sys2Proof.Machine

open Sys2Proof.Safety

/-! ### Bring-up (04 R100 to R102, R108) -/

section
variable {l : Fin 20} {s : State}

theorem laneEnable_starts (hrun : lanesRun s l = true) (hp : (cageOf s l).present = true) (hd : (cageOf s l).txDisable = false)
    (he : (laneOf s l).enabled = false) :
    ∃ u, execLaneEnable l s = .next u ∧ (laneOf u l).enabled = true ∧ (laneOf u l).pre = 0 ∧ (laneOf u l).post = 4
      ∧ 300000 ≤ (laneOf u l).txLatency ∧ (laneOf u l).txLatency ≤ 320000 ∧ ∀ k, k ≠ l.val → laneOf u k = laneOf s k := by
  have hlatency : Config.txLatency l % 20001 ≤ 20000 := Nat.le_of_lt_succ (Nat.mod_lt _ (by decide))
  refine ⟨enableLane l s, if_pos (by simp [hrun, hp, hd, he]), ?_⟩
  unfold enableLane
  refine ⟨?_, ?_, ?_, ?_, ?_, fun k hk => laneOf_modLane_other _ _ hk⟩ <;> rw [laneOf_modLane]
  · exact Nat.le_add_right _ _
  · exact Nat.add_le_add_left hlatency 300000
theorem clockRecovered_eq (h : (laneOf s l).los = false) :
    execClockRecovered l s = .next (setLane s l { laneOf s l with lol := false, commas := 0, hunt := none }) :=
  if_neg (by simp [h])
theorem signalRestored_eq (h : (cageOf s l).present = true) :
    execSignalRestored l s = .next (setLane s l { laneOf s l with los := false }) := if_pos h

/-- Lane x in HUNT after 30,720 bits: the candidate comma is confirmed, given up, or newly found (04 R102). -/
def hunted (codes : List Nat) (x : Lane) : Lane :=
  match x.hunt with
  | some p => if commaPositions codes = [p] then { x with commas := min 3 (x.commas + 1) } else { x with hunt := none, commas := 0 }
  | none => { x with hunt := (commaPositions codes).head?, commas := if commaPositions codes = [] then 0 else 1 }
theorem laneOf_huntFrame (k : Nat) (codes : List Nat) (t : State) :
    laneOf (huntFrame k codes t) k = hunted codes (laneOf t k) := by
  rw [huntFrame, laneOf_modLane]
  unfold hunted
  cases (laneOf t k).hunt with
  | none => simp only [List.isEmpty_iff]
  | some p => rfl
theorem laneFrameReceived_hunts (codes : List Nat) (n : Nat) (hlen : codes.length = 3072) (hlos : (laneOf s l).los = false)
    (hlol : (laneOf s l).lol = false) (hlocked : (laneOf s l).locked = false) :
    ∃ u, execLaneFrameReceived l codes n s = .next u ∧ laneOf u l = hunted codes (laneOf s l) := by
  refine ⟨huntFrame l codes (advanceTo (n / 16) s), by simp [execLaneFrameReceived, hlen, hlos, hlol, hlocked], ?_⟩
  rw [laneOf_huntFrame, laneOf_advanceTo]

theorem laneOf_ite_mode (c : Prop) [Decidable c] (m : ModeUnit) (t : State) (k : Nat) :
    laneOf (if c then { t with mode := m } else t) k = laneOf t k := by
  split <;> rfl
theorem commaLock_locks (he : (laneOf s l).enabled = true) (hlos : (laneOf s l).los = false) (hlol : (laneOf s l).lol = false)
    (hlocked : (laneOf s l).locked = false) (hcommas : (laneOf s l).commas = 3) :
    ∃ u, execCommaLock l s = .next u ∧ (laneOf u l).locked = true ∧ (laneOf u l).rxSeen = false
      ∧ (l.val < 12 → s.time.valid = true → u.mode.causeRef = false) ∧ ∀ k, k ≠ l.val → laneOf u k = laneOf s k := by
  refine ⟨_, if_pos (by simp [he, hlos, hlol, hlocked, hcommas]), ?_⟩
  simp only [laneOf_settle, laneOf_ite_mode, laneOf_setLane]
  refine ⟨trivial, trivial, fun hl hv => ?_, fun k hk => laneOf_setLane_other _ _ _ _ hk⟩
  rw [(settle_settled _).mode, if_pos (by simp [hl, hv])]

/-! ### Loss (04 R103, R108) -/

/-- A loss of frame ends LOCKED and ACTIVE and counts in its own counter. -/
theorem loseFrame_lost (s : State) (l : Nat) :
    Lost { laneOf s l with counters := bump (laneOf s l).counters 5 } (laneOf (loseFrame l s) l) := by
  have h := failLane_lost true l (modLane s l (fun x => { x with counters := bump x.counters 5 }))
  rwa [laneOf_modLane] at h
theorem lossOfFrame_loses (hlocked : (laneOf s l).locked = true) (hmissed : 4 ≤ (laneOf s l).missed) :
    ∃ u, execLossOfFrame l s = .next u ∧ (laneOf u l).locked = false ∧ (laneOf u l).active = false
      ∧ tabGet 0 (laneOf u l).counters 5 = (tabGet 0 (laneOf s l).counters 5 + 1) % 2 ^ 32 := by
  have h := loseFrame_lost s l
  refine ⟨_, if_pos ⟨hlocked, hmissed⟩, ?_⟩
  rw [laneOf_settle]
  exact ⟨h.locked, h.active, h.frameLosses.trans (tabGet_bump_self _ _)⟩
/-- A search in HUNT moves nothing else of a lane. -/
theorem hunted_lost {x y : Lane} (codes : List Nat) (h : Lost x y) : Lost x (hunted codes y) := by
  obtain ⟨hlocked, hactive, hlos, hlol, hlosses⟩ := h
  unfold hunted
  split
  · split <;> exact ⟨hlocked, hactive, hlos, hlol, hlosses⟩
  · exact ⟨hlocked, hactive, hlos, hlol, hlosses⟩
theorem laneFrameReceived_loses (codes : List Nat) (n : Nat) (hlen : codes.length = 3072) (hlos : (laneOf s l).los = false)
    (hlol : (laneOf s l).lol = false) (hlocked : (laneOf s l).locked = true) (hmissed : 4 ≤ (laneOf s l).missed) :
    ∃ u, execLaneFrameReceived l codes n s = .next u ∧ (laneOf u l).locked = false ∧ (laneOf u l).active = false
      ∧ tabGet 0 (laneOf u l).counters 5 = (tabGet 0 (laneOf s l).counters 5 + 1) % 2 ^ 32 := by
  have h := hunted_lost codes (loseFrame_lost (advanceTo (n / 16) s) l)
  rw [laneOf_advanceTo] at h
  refine ⟨settle (huntFrame l codes (loseFrame l (advanceTo (n / 16) s))),
    by simp [execLaneFrameReceived, hlen, hlos, hlol, hlocked, Nat.not_lt.mpr hmissed], ?_⟩
  rw [laneOf_settle, laneOf_huntFrame]
  exact ⟨h.locked, h.active, h.frameLosses.trans (tabGet_bump_self _ _)⟩
theorem lossOfSignal_loses (los lol : Bool) (h : (los || lol) = true) :
    ∃ u, execLossOfSignal l los lol s = .next u ∧ (laneOf u l).locked = false
      ∧ (laneOf u l).los = ((laneOf s l).los || los) ∧ (laneOf u l).lol = ((laneOf s l).lol || lol) := by
  refine ⟨_, if_pos h, ?_⟩
  rw [laneOf_settle, laneOf_modLane]
  split
  · obtain ⟨hlocked, -, hlos, hlol, -⟩ := failLane_lost false l s
    exact ⟨hlocked, by rw [hlos], by rw [hlol]⟩
  case isFalse hlocked => exact ⟨eq_false_of_ne_true hlocked, rfl, rfl⟩
end

/-- Settles O38: each command by what it leaves of its lane. -/
theorem laneStates : Obligations.LaneStates := by
  refine ⟨fun l s => ⟨laneEnable_starts, clockRecovered_eq, fun codes n hlen hlos hlol hlocked => ?_, commaLock_locks,
    signalRestored_eq⟩, fun l s => ⟨lossOfFrame_loses, laneFrameReceived_loses, lossOfSignal_loses⟩⟩
  obtain ⟨u, hu, hx⟩ := laneFrameReceived_hunts codes n hlen hlos hlol hlocked
  refine ⟨u, hu, hx.trans ?_⟩
  unfold hunted
  cases (laneOf s l).hunt <;> rfl

end Sys2Proof.Machine
end

section
/-! O41 (04 R110 to R113): spare lanes and cages. -/

namespace Sys2Proof.Machine

open Sys2Proof.Safety

/-! ### Spares (04 R110 to R112) -/

theorem switchoverDeadline_marks {h : Fin 12} {s : State} (hs : (headOf s h).switching = true) :
    ∃ u, execSwitchoverDeadline h s = .next u ∧ headOf u h = { headOf s h with lateSwitch := true } :=
  ⟨_, if_pos hs, (headOf_settle _ _).trans (headOf_modHead _ _ _)⟩
theorem spareRevert_moves {vi : Fin 16} {j v h : Nat} {s : State} (hw : writable s vi 0x3030 2 j 1 v = true)
    (hserves : (List.range 12).find? (fun h => activeLane s h == some (12 + j)) = some h) (hready : canSwitch s (12 + j) h = true) :
    ∃ u, execSpareRevert vi j v s = .next u ∧ u.answer.status = .ok ∧ (headOf u h).target = h
      ∧ (headOf u h).switching = true ∧ (laneOf u (12 + j)).active = false := by
  have hrevert : writeRevert j s = (settle (startSwitch h (12 + j) h (dropHead h s)), .ok) := by
    simp only [writeRevert, hserves, hready, if_true]
  have hhead : headOf (settle (startSwitch h (12 + j) h (dropHead h s))) h = movingTo h (headOf (dropHead h s) h) := by
    rw [headOf_settle, headOf_startSwitch]
  have hlane : (laneOf (settle (startSwitch h (12 + j) h (dropHead h s))) (12 + j)).active = false := by
    rw [laneOf_settle, of_atRest Lane.active (fun _ => rfl) (atRest_startSwitch _ _ _ _ _), laneOf_modLane]
  generalize settle _ = u at hrevert hhead hlane
  exact ⟨_, answered_of_writable hw hrevert, rfl, congrArg Head.target hhead, congrArg Head.switching hhead, hlane⟩
theorem backedHeadWrite_backs {vi : Fin 16} {j v : Nat} {s : State} (hw : writable s vi 0x3030 1 j 1 v = true)
    (hfree : v = 0xFF ∨ spareOf s v = none) :
    execBackedHeadWrite vi j v s = took (startBacking (12 + j) v (putSetting s 0 0x3030 1 j v)) := by
  refine answered_of_writable hw (if_neg ?_)
  rcases hfree with h | h <;> simp [h]

/-! ### Cages (04 R113) -/

/-- The cage that takes a module, and its lane. -/
def cageFilled (c : Nat) (ok : Bool) (identity : Nat) (s : State) : State :=
  let t := setCage s c { cageOf s c with present := true, txDisable := !ok, identity := identity % 256 ^ 256 }
  if c < 20 then modLane t c (fun x => { x with cageEmpty := false, cageBad := !ok }) else t
theorem cageOf_cageFilled (c : Nat) (ok : Bool) (n : Nat) (s : State) : cageOf (cageFilled c ok n s) c
    = { cageOf s c with present := true, txDisable := !ok, identity := n % 256 ^ 256 } := by
  unfold cageFilled
  dsimp only
  split
  · rw [cageOf_modLane, cageOf_setCage]
  · exact cageOf_setCage _ _ _
theorem cageFilled_nextEseq (c : Nat) (ok : Bool) (n : Nat) (s : State) :
    (cageFilled c ok n s).fault.nextEseq = s.fault.nextEseq := by
  unfold cageFilled
  dsimp only
  split <;> rfl
section
variable {c : Fin 22} {s : State}

theorem execCageInsertion_eq (ok : Bool) (n : Nat) (h : (cageOf s c).present = false) :
    execCageInsertion c ok n s = if ok then
        .next (if c.val < 20 ∧ lanesRun (cageFilled c ok n s) c then enableLane c (cageFilled c ok n s) else cageFilled c ok n s)
      else .next (settle (errRecord { unit := cageUnit c, code := .cage, severity := .minor } (cageFilled c ok n s))) :=
  if_neg (by simp [h])
/-- One whose module does not suit leaves an error record. -/
theorem cageInsertion_notes (n : Nat) (ok : Bool) (h : (cageOf s c).present = false) :
    ∃ u, execCageInsertion c ok n s = .next u
      ∧ cageOf u c = { cageOf s c with present := true, txDisable := !ok, identity := n % 256 ^ 256 }
      ∧ (ok = false → u.fault.newest = s.fault.nextEseq) := by
  have hcage := cageOf_cageFilled c ok n s
  have heseq := cageFilled_nextEseq c ok n s
  rw [execCageInsertion_eq ok n h]
  generalize cageFilled c ok n s = t at hcage heseq ⊢
  cases ok with
  | true =>
    refine ⟨_, if_pos rfl, ?_, nofun⟩
    split <;> exact hcage
  | false =>
    refine ⟨_, if_neg Bool.false_ne_true, ?_, fun _ => ?_⟩
    · rw [cageOf_settle, cageOf_of_lane (errRecord_report _ _).lane, hcage]
    · rw [(settle_settled _).newest, errRecord_newest, heseq]
theorem cageRemoval_empties (c : Fin 22) (s : State) :
    ∃ u, execCageRemoval c s = .next u ∧ cageOf u c = { cageOf s c with present := false, txDisable := false }
      ∧ (c.val < 20 → (laneOf u c).locked = false ∧ (laneOf u c).los = true ∧ (laneOf u c).enabled = false)
      ∧ (20 ≤ c.val → tabGet false u.molfen.linkUp (c - 20) = false) := by
  unfold execCageRemoval
  dsimp only
  have hcage := cageOf_setCage s c { cageOf s c with present := false, txDisable := false }
  generalize setCage s c _ = t at hcage ⊢
  split
  case isTrue hc =>
    have hfail : cageOf (if (laneOf t c).locked = true then failLane false c t else t) c = cageOf t c
        ∧ (laneOf (if (laneOf t c).locked = true then failLane false c t else t) c).locked = false := by
      split
      case isTrue => exact ⟨by rw [cageOf, failLane_cages]; rfl, (failLane_lost false c t).locked⟩
      case isFalse hl => exact ⟨rfl, eq_false_of_ne_true hl⟩
    obtain ⟨hkept, hlocked⟩ := hfail
    refine ⟨_, rfl, ?_, fun _ => ?_, fun h => absurd hc (Nat.not_lt.mpr h)⟩
    · rw [cageOf_settle]
      exact hkept.trans hcage
    · rw [laneOf_settle, laneOf_modLane]
      exact ⟨hlocked, rfl, rfl⟩
  case isFalse hc => exact ⟨_, rfl, hcage, fun h => absurd h hc, fun _ => tabGet_set_self false t.molfen.linkUp (c - 20) false⟩
theorem cageDiagnosticsRead_eq (n : Nat) (h : (cageOf s c).present = true) :
    execCageDiagnosticsRead c n s = .next (setCage s c { cageOf s c with diag := n % 256 ^ 10 }) := if_pos h
end

/-- Settles O41. -/
theorem sparesAndCages : Obligations.SparesAndCages :=
  ⟨fun _ _ => switchoverDeadline_marks, fun _ _ _ _ _ => spareRevert_moves, fun _ _ _ _ => backedHeadWrite_backs,
    fun c n s => ⟨cageInsertion_notes n, cageRemoval_empties c s, cageDiagnosticsRead_eq n⟩⟩

end Sys2Proof.Machine
end

section
/-! O39 (04 R84 to R91; 09 R263; 18 R451): lane frames sent and received. -/

namespace Sys2Proof.Machine

open Sys2Proof.Safety

/-! ### The characters of a frame (04 R83, R85, R89) -/

theorem length_encodeChars (rd : Bool) (l : List (Nat × Bool)) : (encodeChars rd l).1.length = l.length := by
  induction l generalizing rd with
  | nil => rfl
  | cons c t ih => simp [encodeChars, ih]
theorem length_octetsBE (n x : Nat) : (octetsBE n x).length = n := by
  induction n with
  | zero => rfl
  | succ n ih => simp [octetsBE, ih]
theorem length_frameChars (samples : List Nat) (seq mask flags : Nat) (queue : List (Nat × Bool)) :
    (frameChars samples seq mask flags queue).length = 3072 := by
  simp [frameChars, length_octetsBE]
/-- A frame leaves with 3,072 codes, and moves of its lane the characters that waited and the disparity. -/
theorem emitFrame_eq (l n : Nat) (s : State) : ∃ codes x, codes.length = 3072
    ∧ emitFrame l n s = emit (.laneFrame l (n / 32 % 256) (b2n (laneOf s l).active + 2 * b2n s.time.valid + 4 * b2n (laneOf s l).locked)
        (sentMask s l) codes) (setLane s l x)
    ∧ x.txFrame = (laneOf s l).txFrame ∧ x.tapPending = (laneOf s l).tapPending := by
  unfold emitFrame
  extract_lets x q flags mask samples
  have hlen : (encodeChars x.txDisp (frameChars samples q mask flags x.txQueue)).1.length = 3072 :=
    (length_encodeChars _ _).trans (length_frameChars _ _ _ _ _)
  generalize encodeChars x.txDisp (frameChars samples q mask flags x.txQueue) = p at hlen ⊢
  exact ⟨p.1, _, hlen, rfl, rfl, rfl⟩

/-! ### What sending leaves beside the lanes -/

/-- The clocks and the stack. -/
def clocksAndStack (s : State) : TimeUnit × StackUnit := (s.time, s.stack)
theorem clocksAndStack_setLane (s : State) (l : Nat) (x : Lane) : clocksAndStack (setLane s l x) = clocksAndStack s := rfl
theorem clocksAndStack_queueMsg (l type seq body n : Nat) (s : State) :
    clocksAndStack (queueMsg l type seq body n s) = clocksAndStack s := rfl
theorem clocksAndStack_sendMsg (l type : Nat) (fields : List (Nat × Nat)) (s : State) :
    clocksAndStack (sendMsg l type fields s) = clocksAndStack s := by
  unfold sendMsg
  dsimp only
  split
  · rw [clocksAndStack_queueMsg, clocksAndStack_setLane]
  · rfl
theorem clocksAndStack_sendBeat (east : Bool) (s : State) : clocksAndStack (sendBeat east s) = clocksAndStack s := rfl
theorem cascadeSend_stack (dst type : Nat) (fields : List (Nat × Nat)) (s : State) :
    (cascadeSend dst type fields s).stack = s.stack := by
  unfold cascadeSend
  dsimp only
  split <;> rfl

/-! ### LANE_FRAME_SEND (04 R86, R87, R105; 18 R453) -/

/-- A tap step that waits is applied: none waits then. -/
theorem applyTap_atRest (l : Nat) (s : State) : ∃ pre post, atRest (laneOf (applyTap l s) l)
    = atRest { laneOf s l with tapPending := none, pre := pre, post := post } := by
  unfold applyTap
  dsimp only
  split
  case h_1 h => exact ⟨(laneOf s l).pre, (laneOf s l).post, by rw [← h]⟩
  case h_2 => exact ⟨_, _, (atRest_of_view (laneView_sendMsg _ _ _ _) l).trans (by rw [laneOf_setLane])⟩
theorem clocksAndStack_applyTap (l : Nat) (s : State) : clocksAndStack (applyTap l s) = clocksAndStack s := by
  unfold applyTap
  dsimp only
  split
  · rfl
  · rw [clocksAndStack_sendMsg, clocksAndStack_setLane]

/-- The sequence of a lane's next frame, the tap step that waits for it, ACTIVE and LOCKED. -/
def frameMarks (x : Lane) : Nat × Option (Nat × Nat × Int) × Bool × Bool := (x.txFrame, x.tapPending, x.active, x.locked)
/-- The messages due at a frame leave the clocks, the stack and what its lane reads at rest. -/
theorem messagesDue_leave (l n d : Nat) (east : Bool) (b t : Prop) [Decidable b] [Decidable t] (s : State) :
    let u := if b then sendBeat east s else s
    laneView (if t then sendTime l 0 n d u else u) = laneView s
      ∧ clocksAndStack (if t then sendTime l 0 n d u else u) = clocksAndStack s := by
  have hbeat : laneView (if b then sendBeat east s else s) = laneView s
      ∧ clocksAndStack (if b then sendBeat east s else s) = clocksAndStack s := by
    split
    · exact ⟨laneView_cascadeOut _ _ _ _ _ _, clocksAndStack_sendBeat _ _⟩
    · exact ⟨rfl, rfl⟩
  dsimp only
  split
  · exact ⟨(laneView_sendTime _ _ _ _ _).trans hbeat.1, (clocksAndStack_sendMsg _ _ _ _).trans hbeat.2⟩
  · exact hbeat
/-- Up to the frame itself, a send leaves the clocks at its air time, the stack and, of its lane, ACTIVE and LOCKED. -/
theorem laneFrameSend_eq {l : Fin 20} {n : Nat} {s : State} (hv : s.time.valid = true) (he : (laneOf s l).enabled = true)
    (hn : n % 32 = 0) (hle : s.time.airTime ≤ n) :
    ∃ t, execLaneFrameSend l n s = .next (emitFrame l n t) ∧ clocksAndStack t = clocksAndStack (advanceTo n s)
      ∧ frameMarks (laneOf t l) = (n / 32 % 256, none, (laneOf s l).active, (laneOf s l).locked) := by
  have hexec : execLaneFrameSend l n s = _ := if_pos ⟨hv, he, hn, hle⟩
  obtain ⟨pre, post, htap⟩ := applyTap_atRest l (advanceTo n s)
  have hclocks := clocksAndStack_applyTap l (advanceTo n s)
  rw [hexec]
  dsimp only
  rw [laneOf_advanceTo] at htap
  generalize applyTap l (advanceTo n s) = t at htap hclocks ⊢
  have hactive : (laneOf t l).active = (laneOf s l).active := (of_atRest Lane.active (fun _ => rfl) htap :)
  have hlocked : (laneOf t l).locked = (laneOf s l).locked := (of_atRest Lane.locked (fun _ => rfl) htap :)
  have hpending : (laneOf t l).tapPending = none := (of_atRest Lane.tapPending (fun _ => rfl) htap :)
  refine ⟨_, rfl, (messagesDue_leave _ _ _ _ _ _ _).2.trans hclocks, ?_⟩
  refine (of_atRest frameMarks (fun _ => rfl) (atRest_of_view (messagesDue_leave _ _ _ _ _ _ _).1 l)).trans ?_
  rw [laneOf_setLane, frameMarks, hactive, hlocked, hpending]

theorem laneFrameSend_sends {l : Fin 20} {n : Nat} {s : State} (hv : s.time.valid = true) (he : (laneOf s l).enabled = true)
    (hn : n % 32 = 0) (hle : s.time.airTime ≤ n) :
    ∃ u, execLaneFrameSend l n s = .next u ∧ u.time.airTime = n ∧ (laneOf u l).txFrame = n / 32 % 256
      ∧ (laneOf u l).tapPending = none
      ∧ ∃ codes, codes.length = 3072 ∧ .laneFrame l (n / 32 % 256)
          ((if (laneOf s l).active then 1 else 0) + 2 + 4 * (if (laneOf s l).locked then 1 else 0))
          (if l.val < 16 then (if (laneOf s l).active then 0xFFFF else 0) else if s.stack.branches = [] then 0 else 0xFFFF)
          codes ∈ u.outbox := by
  obtain ⟨t, hexec, hclocks, hmarks⟩ := laneFrameSend_eq hv he hn hle
  simp only [frameMarks, Prod.mk.injEq] at hmarks
  obtain ⟨hseq, htap, hactive, hlocked⟩ := hmarks
  obtain ⟨codes, x, hlen, hframe, hxseq, hxtap⟩ := emitFrame_eq l n t
  have htime : t.time = (advanceTo n s).time := congrArg Prod.fst hclocks
  have hstack : t.stack = s.stack := (congrArg Prod.snd hclocks).trans (advanceTo_stack s n)
  refine ⟨_, hexec, ?_, ?_, ?_, codes, hlen, ?_⟩
  all_goals rw [hframe]
  · exact (congrArg TimeUnit.airTime htime).trans (advanceTo_airTime_of_le hv hle)
  · rw [laneOf_emit, laneOf_setLane, hxseq, hseq]
  · rw [laneOf_emit, laneOf_setLane, hxtap, htap]
  · have hvalid : t.time.valid = true := by rw [htime, advanceTo_time_valid, hv]
    have hmask : sentMask t l = if l.val < 16 then (if (laneOf s l).active then 0xFFFF else 0)
        else if s.stack.branches = [] then 0 else 0xFFFF := by
      simp only [sentMask, hactive, hstack, List.isEmpty_iff]
    rw [hactive, hlocked, hvalid, hmask]
    exact List.mem_cons_self

/-! ### LANE_FRAME_RECEIVED (04 R84 to R91) -/

theorem tallySample_lane (m : Nat) (i q : Int) (s : State) : (tallySample m i q s).lane = s.lane := by
  unfold tallySample
  dsimp only
  split <;> split <;> rfl
theorem antennaSamples_lane (l : List Taken) (valid h a t96 : Nat) (s : State) :
    (antennaSamples l valid h a t96 s).lane = s.lane := by
  unfold antennaSamples
  dsimp only
  split
  · refine foldl_view State.lane (fun t k => ?_) _ _
    split
    · rfl
    · split
      · rfl
      · exact tallySample_lane _ _ _ _
  · rfl
theorem takeSamples_lane (l : List Taken) (valid h t96 : Nat) (s : State) : (takeSamples l valid h t96 s).lane = s.lane :=
  foldl_view State.lane (fun t a => antennaSamples_lane l valid h a t96 t) _
    { s with rx := { s.rx with
      head := s.rx.head.filter (fun b => b.head ≠ h ∨ t96 ≤ b.t96 + 96 * 16384) ++ [⟨h, t96, headSamples l valid⟩] } }
theorem takeWords_lane (tk : List Taken) (l frame : Nat) (s : State) : (takeWords tk l frame s).lane = s.lane := by
  unfold takeWords
  dsimp only
theorem laneOf_closeErasure (h : Nat) (s : State) (k : Nat) : laneOf (closeErasure h s) k = laneOf s k := rfl
/-- A lane that may come to be ACTIVE: nothing else of it changes. -/
theorem laneOf_activateLane (l : Nat) (s : State) : ∃ a, laneOf (activateLane l s) l = { laneOf s l with active := a } := by
  unfold activateLane
  dsimp only
  split
  case h_2 => exact ⟨(laneOf s l).active, rfl⟩
  case h_1 =>
    split
    · exact ⟨true, by rw [laneOf_closeErasure, laneOf_modHead, laneOf_modLane]⟩
    · exact ⟨(laneOf s l).active, rfl⟩
/-- Lane y is lane x behind a frame received whole, at whose place for it the comma stood or not. -/
structure FrameNoted (comma : Bool) (x y : Lane) : Prop where
  frames : tabGet 0 y.counters 9 = (tabGet 0 x.counters 9 + 1) % 2 ^ 32
  rxSeen : y.rxSeen = true
  missed : y.missed = if comma then 0 else x.missed + 1
/-- The comma of a frame stands at its place. -/
def commaStands (chars : List LaneChar) : Bool := (chars[64]?).any (fun c => c.k && !c.codeErr && c.octet == 0xBC)
theorem receiveFrame_noted (l : Nat) (codes : List Nat) (n : Nat) (s : State) :
    FrameNoted (commaStands (decodeChars (laneOf s l).rxDisp codes).1) (laneOf s l) (laneOf (receiveFrame l codes n s) l) := by
  have hcount : ∀ (c : Prop) [Decidable c] (t : Tab Nat) (k : Nat), k ≠ 9 →
      tabGet 0 (if c then t else bump t k) 9 = tabGet 0 t 9 := fun c _ t k hk => by
    split
    · rfl
    · exact tabGet_bumpBy_other _ _ hk.symm
  unfold receiveFrame
  extract_lets x strays hit next c0
  rcases decodeChars x.rxDisp codes with ⟨chars, disp⟩
  dsimp -zeta only
  extract_lets ix tk count comma mark seq good frame maskBad valid flags covered crcOk p c1 c2 c3 c4 c5 c6 c7 c8 t
  have hframes : tabGet 0 c8 9 = (tabGet 0 x.counters 9 + 1) % 2 ^ 32 := by
    have h7 : tabGet 0 c7 9 = tabGet 0 c4 9 := (tabGet_bumpBy_other _ _ (by decide)).trans
      ((tabGet_bumpBy_other _ _ (by decide)).trans (tabGet_bumpBy_other _ _ (by decide)))
    have h4 : tabGet 0 c4 9 = tabGet 0 c2 9 := (hcount _ _ _ (by decide)).trans (hcount _ _ _ (by decide))
    have h2 : tabGet 0 c2 9 = tabGet 0 x.counters 9 :=
      (tabGet_bumpBy_other _ _ (by decide)).trans (tabGet_bumpBy_other _ _ (by decide))
    rw [← h2, ← h4, ← h7]
    exact tabGet_bump_self _ _
  have hlane : FrameNoted comma x (laneOf t l) := by
    rw [laneOf_setLane]
    exact ⟨hframes, rfl, rfl⟩
  clear_value t
  split
  case isTrue u _ =>
    have hu : laneOf u l = laneOf t l := by
      refine laneOf_of_lane ?_ _
      unfold u
      split
      · exact takeSamples_lane _ _ _ _ _
      · rfl
    obtain ⟨a, ha⟩ := laneOf_activateLane l u
    rw [ha, hu]
    exact ⟨hlane.frames, hlane.rxSeen, hlane.missed⟩
  case isFalse =>
    rw [laneOf_of_lane (takeWords_lane _ _ _ _)]
    exact hlane
theorem laneFrameReceived_notes {l : Fin 20} (codes : List Nat) (n : Nat) {s : State} (hlocked : (laneOf s l).locked = true)
    (hlos : (laneOf s l).los = false) (hlol : (laneOf s l).lol = false) (hmissed : (laneOf s l).missed < 4)
    (hlen : codes.length = 3072) : ∃ u, execLaneFrameReceived l codes n s = .next u
      ∧ FrameNoted (commaStands (decodeChars (laneOf s l).rxDisp codes).1) (laneOf s l) (laneOf u l) := by
  have h := receiveFrame_noted l codes n (advanceTo (n / 16) s)
  rw [laneOf_advanceTo] at h
  refine ⟨settle (receiveFrame l codes n (advanceTo (n / 16) s)),
    by simp [execLaneFrameReceived, hlen, hlos, hlol, hlocked, hmissed], ?_⟩
  rwa [laneOf_settle]

/-- Settles O39. -/
theorem laneFrames : Obligations.LaneFrames := by
  refine ⟨fun l n s => laneFrameSend_sends, fun l codes n s hlocked hlos hlol hmissed hlen => ?_⟩
  obtain ⟨u, hexec, hframes, hseen, hcomma⟩ := laneFrameReceived_notes codes n hlocked hlos hlol hmissed hlen
  refine ⟨u, hexec, hframes, hseen, hcomma.trans ?_⟩
  unfold commaStands
  cases (decodeChars (laneOf s l).rxDisp codes).1[64]? with
  | none => rfl
  | some c => simp [and_assoc]

end Sys2Proof.Machine
end

section
/-! O40 (04 R93 to R97, R105 to R107, R109, Table 4.5; 05 R137; 18 R457): control messages, taps and error counts. A command takes
the message it names from the inbox (`delivered`); what it then sends leaves the marks it has set on the lane. -/

namespace Sys2Proof.Machine

open Sys2Proof.Safety

/-! ### Messages that leave the inbox -/

/-- Message m has left the inbox of lane l. -/
def delivered (l : Nat) (m : Nat × Nat × Nat × Nat) (s : State) : State :=
  modLane s l (fun x => { x with inbox := x.inbox.erase m })
@[simp] theorem laneOf_delivered (l : Nat) (m : Nat × Nat × Nat × Nat) (s : State) :
    laneOf (delivered l m s) l = { laneOf s l with inbox := (laneOf s l).inbox.erase m } := laneOf_modLane _ _ _
section
variable {l type len : Nat} {named : Nat → Nat → Bool} {s : State} {m : Nat × Nat × Nat × Nat}
theorem takeMsg_of_oldest (h : oldestMsg l type len named s = some m) : takeMsg l type len named s = some (delivered l m s) := by
  rw [takeMsg, h]; rfl
theorem takeMsg_advanceTo (h : oldestMsg l type len named s = some m) (n : Nat) :
    takeMsg l type len named (advanceTo n s) = some (delivered l m (advanceTo n s)) :=
  takeMsg_of_oldest (by rw [oldestMsg, laneOf_advanceTo]; exact h)
theorem takeMsg_of_empty (h : (laneOf s l).inbox = []) : takeMsg l type len named s = none := by
  rw [takeMsg, oldestMsg, h]; rfl
end

/-! ### HEADID and HEADSTAT (04 R95, R109) -/

theorem headid_notes {l : Fin 16} {body : Nat} {m : Nat × Nat × Nat × Nat} {s : State}
    (hm : oldestMsg l 0x20 25 (fun _ b => b == body) s = some m) :
    ∃ u, execHeadid l body s = .next u ∧ (laneOf u l).headId = true ∧ (laneOf u l).serial = hidSerial body
      ∧ (laneOf u l).inbox = (laneOf s l).inbox.erase m ∧ ∀ h, headOfLane s l = some h → (headOf u h).identity = body := by
  unfold execHeadid
  rw [takeMsg_of_oldest hm]
  dsimp only
  generalize ht : modLane (answerQuery l 0x20 (delivered l m s)) l _ = t
  have hlane : (laneOf t l).headId = true ∧ (laneOf t l).serial = hidSerial body
      ∧ (laneOf t l).inbox = (laneOf s l).inbox.erase m := by
    rw [← ht, laneOf_modLane, answerQuery, laneOf_modLane, laneOf_delivered]
    exact ⟨rfl, rfl, rfl⟩
  have hhead : headOfLane t l = headOfLane s l := by
    rw [← ht, headOfLane_modLane, answerQuery, headOfLane_modLane, delivered, headOfLane_modLane]
  rw [hhead]
  refine ⟨_, rfl, ?_⟩
  rw [laneOf_settle]
  obtain ⟨hid, hserial, hinbox⟩ := hlane
  cases headOfLane s l with
  | none => exact ⟨hid, hserial, hinbox, nofun⟩
  | some h => exact ⟨hid, hserial, hinbox, fun k hk => by cases hk; rw [headOf_settle, headOf_modHead]⟩
theorem headstat_notes {l : Fin 16} {body : Nat} {m : Nat × Nat × Nat × Nat} {s : State}
    (hm : oldestMsg l 0x21 23 (fun _ b => b == body) s = some m) :
    ∃ u, execHeadstat l body s = .next u ∧ u.rx = s.rx ∧ u.tx = s.tx ∧ (laneOf u l).inbox = (laneOf s l).inbox.erase m
      ∧ ∀ h, headOfLane s l = some h → (headOf u h).headStat = body := by
  unfold execHeadstat
  rw [takeMsg_of_oldest hm]
  dsimp only
  generalize ht : answerQuery l 0x21 (delivered l m s) = t
  have hinbox : (laneOf t l).inbox = (laneOf s l).inbox.erase m := by
    rw [← ht, answerQuery, laneOf_modLane, laneOf_delivered]
  have hrx : t.rx = s.rx := by rw [← ht]; rfl
  have htx : t.tx = s.tx := by rw [← ht]; rfl
  have hhead : headOfLane t l = headOfLane s l := by
    rw [← ht, answerQuery, headOfLane_modLane, delivered, headOfLane_modLane]
  rw [hhead]
  refine ⟨_, rfl, ?_⟩
  cases headOfLane s l with
  | none => exact ⟨hrx, htx, hinbox, nofun⟩
  | some h => exact ⟨hrx, htx, hinbox, fun k hk => by cases hk; rw [headOf_modHead]⟩

/-! ### ALIGN (04 R95 to R97) -/

/-- Whether the one-way delay is known, and the delay. -/
def delayMarks (x : Lane) : Bool × Nat := (x.delayKnown, x.delay)
theorem delayMarks_of_view {s u : State} (h : laneView u = laneView s) (l : Nat) :
    delayMarks (laneOf u l) = delayMarks (laneOf s l) := of_atRest delayMarks (fun _ => rfl) (atRest_of_view h l)
theorem delayMarks_sendTimeNow (l : Nat) (s : State) : delayMarks (laneOf (sendTimeNow l s) l) = delayMarks (laneOf s l) := by
  unfold sendTimeNow
  dsimp only
  rw [laneOf_modLane]
  exact delayMarks_of_view (laneView_sendTime _ _ _ _ _) l
theorem delayMarks_activateLane (l : Nat) (s : State) : delayMarks (laneOf (activateLane l s) l) = delayMarks (laneOf s l) := by
  obtain ⟨a, ha⟩ := laneOf_activateLane l s
  rw [ha]; rfl
/-- An ALIGN that names a frame received gives the delay from that frame's arrival; TIME and bring-up follow it. -/
theorem takeAlign_delay {l q u delta c : Nat} {s : State} (hc : frameCount (laneOf s l) u = some c) :
    delayMarks (laneOf (takeAlign l q u delta s) l) = (true, oneWay q delta (tabGet 0 (laneOf s l).arrivals u)) := by
  unfold takeAlign
  extract_lets x arr16 d
  rw [show frameCount x u = some c from hc]
  dsimp -zeta only
  extract_lets t
  have ht : delayMarks (laneOf t l) = (true, d) := by
    unfold t
    rw [answerQuery, laneOf_modLane, laneOf_modLane]
    rfl
  clear_value t
  have hsent : delayMarks (laneOf (sendTimeNow l t) l) = (true, d) := (delayMarks_sendTimeNow l t).trans ht
  split
  · split
    · exact hsent
    · exact ht
  · split
    · refine (delayMarks_activateLane _ _).trans (Eq.trans ?_ hsent)
      split
      · exact delayMarks_of_view (laneView_bringUpCommands _ _ _ _) l
      · rfl
    · split
      · exact hsent
      · exact ht
theorem takeAlign_unknown {l q u delta : Nat} {s : State} (hc : frameCount (laneOf s l) u = none) : takeAlign l q u delta s = s := by
  unfold takeAlign
  extract_lets x
  rw [show frameCount x u = none from hc]
theorem align_delays {l : Fin 20} {q v : Fin 256} {delta : Fin 3072} (n : Nat) {m : Nat × Nat × Nat × Nat} {s : State}
    (hm : oldestMsg l 0x22 4 (fun _ b => octAt 4 b 0 == q.val && octAt 4 b 1 == v.val && octField 4 b 2 3 == delta.val) s = some m) :
    ∃ u, execAlign l q v delta n s = .next u
      ∧ (∀ c, frameCount (laneOf s l) v = some c →
          delayMarks (laneOf u l) = (true, oneWay q delta (tabGet 0 (laneOf s l).arrivals v)))
      ∧ (frameCount (laneOf s l) v = none → laneOf u l = { laneOf s l with inbox := (laneOf s l).inbox.erase m }) := by
  unfold execAlign
  rw [takeMsg_advanceTo hm n]
  have hlane : laneOf (delivered l m (advanceTo n s)) l = { laneOf s l with inbox := (laneOf s l).inbox.erase m } := by
    rw [laneOf_delivered, laneOf_advanceTo]
  generalize delivered l m (advanceTo n s) = t at hlane ⊢
  have hcount : frameCount (laneOf t l) v = frameCount (laneOf s l) v := by rw [hlane]; rfl
  refine ⟨_, rfl, fun c hc => ?_, fun hc => ?_⟩ <;> rw [laneOf_settle]
  · rw [takeAlign_delay (hcount.trans hc), hlane]
  · rw [takeAlign_unknown (hcount.trans hc), hlane]

/-! ### REPLY (04 R93; 05 R137; 18 R457) -/

/-- No command of a TYPE and SEQ is open on a lane. -/
def noneOpen (l type seq : Nat) (s : State) : Prop := ∀ y ∈ (laneOf s l).cmds, ¬(y.type = type ∧ y.seq = seq)
theorem noneOpen_of_lane {l type seq : Nat} {s u : State} (e : u.lane = s.lane) (h : noneOpen l type seq s) :
    noneOpen l type seq u := by
  unfold noneOpen
  rwa [laneOf_of_lane e]
/-- A message sent opens a command of its own TYPE at most. -/
theorem cmds_sendMsg {k l type : Nat} {fields : List (Nat × Nat)} {s : State} {y : LaneCmd}
    (hy : y ∈ (laneOf (sendMsg k type fields s) l).cmds) : y ∈ (laneOf s l).cmds ∨ y.type = type := by
  unfold sendMsg at hy
  dsimp only at hy
  split at hy
  case isFalse => exact .inl hy
  case isTrue =>
    rw [queueMsg, laneOf_emit] at hy
    by_cases hk : l = k
    · subst hk
      rw [laneOf_modLane, laneOf_setLane] at hy
      dsimp only at hy
      split at hy
      · rcases List.mem_append.mp hy with h | h
        · exact .inl h
        · exact .inr (by rw [List.mem_singleton.mp h])
      · exact .inl hy
    · rw [laneOf_modLane_other _ _ hk, laneOf_setLane_other _ _ _ _ hk] at hy
      exact .inl hy
theorem noneOpen_sendMsg {k l type type' seq : Nat} {fields : List (Nat × Nat)} {s : State} (hne : type' ≠ type)
    (h : noneOpen l type seq s) : noneOpen l type seq (sendMsg k type' fields s) := fun y hy ⟨ht, hs⟩ => by
  rcases cmds_sendMsg hy with hold | hnew
  · exact h y hold ⟨ht, hs⟩
  · exact hne (hnew.symm.trans ht)
theorem noneOpen_sendGain {k l type seq mask at_ : Nat} {gain : Int} {s : State} (hne : 0x01 ≠ type) (h : noneOpen l type seq s) :
    noneOpen l type seq (sendGain k mask gain at_ s) := by
  unfold sendGain
  dsimp only
  split
  · exact noneOpen_sendMsg hne h
  · exact h
/-- The GAINs and TXENs of step 4 of a switchover open none of another TYPE. -/
theorem noneOpen_switchReplied {h k l type seq : Nat} {s : State} (h1 : 0x01 ≠ type) (h2 : 0x02 ≠ type)
    (hs : noneOpen l type seq s) : noneOpen l type seq (switchReplied h k s) := by
  unfold switchReplied
  dsimp only
  refine List.foldlRecOn (motive := noneOpen l type seq) _ _ ?_ fun t ht b _ => ?_
  · exact List.foldlRecOn (motive := noneOpen l type seq) _ _ hs fun t ht a _ => noneOpen_sendGain h1 ht
  · split
    · exact noneOpen_sendMsg h2 ht
    · exact ht

theorem mem_insertStep (g : GainStep) (l : List GainStep) : g ∈ insertStep g l := by
  induction l with
  | nil => exact List.mem_singleton_self g
  | cons x t ih =>
    unfold insertStep
    split
    · exact List.mem_cons_of_mem x ih
    · exact List.mem_cons_self
/-- A change of gain is counted where it moves the antenna's gain. -/
def gainCounted (g : GainChange) (s : State) : State :=
  if gainToCome s g.antenna = g.gain then s
  else { s with rx := { s.rx with gainChanges := bump s.rx.gainChanges g.antenna } }
theorem gainCounted_leaves (g : GainChange) (s : State) : (gainCounted g s).lane = s.lane
    ∧ (gainCounted g s).rx.comp = s.rx.comp ∧ (gainCounted g s).rx.headGain = s.rx.headGain := by
  unfold gainCounted
  split <;> exact ⟨rfl, rfl, rfl⟩
theorem settleGain_lane (l seq : Nat) (st : Status) (s : State) : (settleGain l seq st s).lane = s.lane := by
  unfold settleGain
  extract_lets mine rx t u
  have hu : u.lane = s.lane := by
    refine foldl_view State.lane (fun t g => ?_) mine t
    extract_lets now
    by_cases hst : st = .ok
    · rw [if_pos hst]
      exact (gainCounted_leaves g t).1
    · rw [if_neg hst]
      split <;> rfl
  clear_value u
  split
  · exact hu
  · rw [laneError_lane, hu]
/-- A lone change of gain answered OK is settled from its AT_g on, with its compensation (05 R137). -/
theorem settleGain_step {l seq : Nat} {g : GainChange} {s : State}
    (hg : s.rx.gainPending.filter (fun g => g.lane == l && g.seq == seq) = [g]) :
    (⟨g.antenna, g.atG, g.gain, tabGet 0 s.rx.comp g.antenna + tabGet 0 s.rx.headGain g.antenna - g.gain⟩ : GainStep)
      ∈ (settleGain l seq .ok s).rx.gainSteps := by
  unfold settleGain
  rw [hg]
  extract_lets mine rx t u
  rw [if_pos rfl]
  unfold u mine
  rw [List.foldl_cons, List.foldl_nil, if_pos rfl]
  obtain ⟨-, hcomp, hgain⟩ := gainCounted_leaves g t
  rw [show s.rx.comp = _ from hcomp.symm, show s.rx.headGain = _ from hgain.symm]
  exact mem_insertStep _ _

/-- A command that is answered is open no more. -/
theorem takeReply_settles {l type seq : Nat} {st : Status} {c : LaneCmd} {s : State}
    (hc : (laneOf s l).cmds.find? (fun c => c.type == type && c.seq == seq) = some c) :
    noneOpen l type seq (takeReply l type seq st s) := by
  unfold takeReply
  rw [hc]
  dsimp -zeta only
  extract_lets t
  have ht : noneOpen l type seq t := by
    unfold noneOpen t
    rw [laneOf_modLane]
    rintro y hy ⟨hty, hseq⟩
    simp [hty, hseq] at hy
  clear_value t
  split
  case h_1 => exact ht
  case h_2 h _ =>
    split
    case isTrue => exact noneOpen_of_lane (settleGain_lane _ _ _ _) ht
    case isFalse hgain =>
      split
      case isTrue =>
        dsimp only
        split
        · exact ht
        · exact noneOpen_of_lane (laneError_lane _ _) ht
      case isFalse =>
        split
        case isTrue hrole => exact noneOpen_switchReplied (Ne.symm hgain) (by rw [hrole.1]; decide) ht
        case isFalse => exact ht
theorem takeReply_gain {l seq h : Nat} {c : LaneCmd} {g : GainChange} {s : State}
    (hc : (laneOf s l).cmds.find? (fun c => c.type == 0x01 && c.seq == seq) = some c) (hh : headOfLane s l = some h)
    (hg : s.rx.gainPending.filter (fun g => g.lane == l && g.seq == seq) = [g]) :
    (⟨g.antenna, g.atG, g.gain, tabGet 0 s.rx.comp g.antenna + tabGet 0 s.rx.headGain g.antenna - g.gain⟩ : GainStep)
      ∈ (takeReply l 0x01 seq .ok s).rx.gainSteps := by
  unfold takeReply
  rw [hc]
  dsimp -zeta only
  extract_lets t
  have ht : headOfLane t l = some h := (headOfLane_modLane _ _ _ _).trans hh
  rw [ht]
  exact settleGain_step (s := t) hg
/-- A member's OK counts for the oldest broadcast of the directory (18 R457). -/
theorem ackDirectory_counts {tag home dseq k src : Nat} {t : List (Nat × Nat × Nat × Nat × Nat)} {s : State}
    (h : s.stack.dirPending = (tag, home, dseq, k, src) :: t) :
    (ackDirectory s).stack.dirPending = if k = 1 then t else (tag, home, dseq, k - 1, src) :: t := by
  unfold ackDirectory
  rw [h]
  match k with
  | 0 => rfl
  | 1 => exact congrArg StackUnit.dirPending (cascadeSend_stack _ _ _ _)
  | k + 2 => rfl

section
variable {l : Fin 20} {ty seq : Fin 256} {st : Status} {m : Nat × Nat × Nat × Nat} {s : State}
  (hm : oldestMsg l 0x3D 3 (fun _ b => octAt 3 b 0 == ty.val && octAt 3 b 1 == seq.val && statusOf (octAt 3 b 2) == st) s = some m)
include hm

theorem reply_settles (n : Nat) {c : LaneCmd} (hl : l.val < 16)
    (hc : (laneOf s l).cmds.find? (fun c => c.type == ty.val && c.seq == seq.val) = some c) :
    ∃ u, execReply l ty seq st n s = .next u
      ∧ (∀ y ∈ (laneOf u l).cmds, ¬(y.type = ty.val ∧ y.seq = seq.val))
      ∧ ∀ (h : Nat) (g : GainChange), ty.val = 1 → st = .ok → headOfLane s l = some h →
          s.rx.gainPending.filter (fun g => g.lane == l.val && g.seq == seq.val) = [g] →
          (⟨g.antenna, g.atG, g.gain, tabGet 0 s.rx.comp g.antenna + tabGet 0 s.rx.headGain g.antenna - g.gain⟩ : GainStep)
            ∈ u.rx.gainSteps := by
  unfold execReply
  rw [takeMsg_advanceTo hm n]
  dsimp only
  rw [if_neg (Nat.not_le.mpr hl)]
  have hcmds : (laneOf (delivered l m (advanceTo n s)) l).cmds = (laneOf s l).cmds := by rw [laneOf_delivered, laneOf_advanceTo]
  have hrx : (delivered l m (advanceTo n s)).rx = s.rx := advanceTo_rx s n
  have hhead : headOfLane (delivered l m (advanceTo n s)) l = headOfLane s l :=
    headOfLane_congr (congrArg LaneUnit.heads (advanceTo_lane s n)) (advanceTo_settings s n) l
  generalize delivered l m (advanceTo n s) = t at hcmds hrx hhead ⊢
  rw [← hcmds] at hc
  refine ⟨_, rfl, ?_, fun h g hty hst hh hg => ?_⟩
  · rw [laneOf_settle]
    exact takeReply_settles hc
  · subst hst
    rw [(settle_settled _).rx, ← hrx, hty]
    rw [hty] at hc
    exact takeReply_gain hc (hhead.trans hh) (by rw [hrx, hg])
theorem reply_counts (n : Nat) {tag home dseq k src : Nat} {t : List (Nat × Nat × Nat × Nat × Nat)} (hl : 16 ≤ l.val)
    (hty : ty.val = 0x42) (hst : st = .ok) (hhead : isHead s = true) (hd : s.stack.dirPending = (tag, home, dseq, k, src) :: t) :
    ∃ u, execReply l ty seq st n s = .next u
      ∧ u.stack.dirPending = (if k = 1 then t else (tag, home, dseq, k - 1, src) :: t) := by
  unfold execReply
  rw [takeMsg_advanceTo hm n]
  dsimp only
  rw [if_pos hl]
  have hstack : (delivered l m (advanceTo n s)).stack = s.stack := advanceTo_stack s n
  generalize delivered l m (advanceTo n s) = x at hstack ⊢
  have hx : isHead x = true := by rw [← hhead, isHead, isHead, stacked, stacked, hstack]
  refine ⟨_, rfl, ?_⟩
  rw [if_pos ⟨hty, hx, hst⟩]
  exact ackDirectory_counts (by rw [hstack, hd])
end
theorem emptyInbox_unchanged {l : Fin 20} (ty seq v : Fin 256) (st : Status) (delta : Fin 3072) (n : Nat) (post up : Bool)
    {s : State} (h : (laneOf s l).inbox = []) :
    execAlign l ty v delta n s = .next s ∧ execReply l ty seq st n s = .next s ∧ execTapreq l seq post up s = .next s
      ∧ execTaprep l seq ty v s = .next s ∧ execTime l n delta 0 s = .next s := by
  have hlater : (laneOf (advanceTo n s) l).inbox = [] := by rw [laneOf_advanceTo, h]
  unfold execAlign execReply execTapreq execTaprep execTime
  simp only [takeMsg_of_empty h, takeMsg_of_empty hlater, and_self]

/-! ### Taps (04 R105, R106) -/

section
variable {l : Fin 20} {s : State}

theorem tapreq_waits {seq : Fin 256} {post up : Bool} {m : Nat × Nat × Nat × Nat}
    (hm : oldestMsg l 0x10 2
      (fun q b => q == seq.val && octAt 2 b 0 == b2n post && toSigned 8 (octAt 2 b 1) == (if up then 1 else -1)) s = some m) :
    ∃ u, execTapreq l seq post up s = .next u
      ∧ (laneOf u l).tapPending = some (seq.val, if post then 1 else 0, if up then 1 else -1) := by
  unfold execTapreq
  dsimp only
  rw [takeMsg_of_oldest hm]
  exact ⟨_, rfl, by rw [laneOf_modLane, b2n]⟩
theorem taprep_ends {seq result value : Fin 256} {m : Nat × Nat × Nat × Nat} {r : TapReq}
    (hm : oldestMsg l 0x11 3 (fun _ b => octAt 3 b 0 == seq.val && octAt 3 b 1 == result.val && octAt 3 b 2 == value.val) s = some m)
    (hr : (laneOf s l).tapReq = some r) (hseq : r.seq = seq.val) :
    ∃ u, execTaprep l seq result value s = .next u ∧ (laneOf u l).tapReq = none
      ∧ (laneOf u l).farTaps = (if r.tap = 0 then value * 256 + (laneOf s l).farTaps % 256 else (laneOf s l).farTaps / 256 * 256 + value)
      ∧ (laneOf u l).lastStep = (if result.val = 0 then some (r.tap, r.step) else (laneOf s l).lastStep) := by
  unfold execTaprep
  rw [takeMsg_of_oldest hm]
  dsimp only
  rw [laneOf_delivered]
  dsimp only
  rw [hr]
  dsimp only
  rw [if_pos hseq]
  refine ⟨_, rfl, ?_⟩
  rw [laneOf_setLane]
  exact ⟨rfl, rfl, rfl⟩
/-- A step asked for is open under the SEQ its TAPREQ took. -/
theorem laneOf_sendTapreq (tap : Nat) (step : Int) (he : (laneOf s l).enabled = true) :
    (laneOf (sendTapreq l tap step s) l).tapReq = some { seq := (laneOf s l).txSeq, tap := tap, step := step }
      ∧ (laneOf (sendTapreq l tap step s) l).sinceTap = 0 := by
  unfold sendTapreq
  dsimp only
  rw [if_pos he, laneOf_modLane]
  exact ⟨rfl, rfl⟩
theorem tapAdaptation_asks (post up : Bool) (hlocked : (laneOf s l).locked = true) (he : (laneOf s l).enabled = true)
    (hreq : (laneOf s l).tapReq = none) (hsince : 64 ≤ (laneOf s l).sinceTap) (hset : setting s 0x3000 3 0 = 1) :
    ((laneOf s l).undoStep = false → 64 ≤ (laneOf s l).sinceLock → ∃ u, execTapAdaptation l post up s = .next u
      ∧ (laneOf u l).tapReq = some { seq := (laneOf s l).txSeq, tap := if post then 1 else 0, step := if up then 1 else -1 }
      ∧ (laneOf u l).sinceTap = 0)
    ∧ ∀ (tap : Nat) (step : Int), (laneOf s l).undoStep = true → (laneOf s l).lastStep = some (tap, step) →
        ∃ u, execTapAdaptation l post up s = .next u
          ∧ (laneOf u l).tapReq = some { seq := (laneOf s l).txSeq, tap := tap, step := -step } ∧ (laneOf u l).undoStep = false := by
  unfold execTapAdaptation
  dsimp only
  rw [if_pos (by simp [hlocked, hreq, hsince, hset])]
  refine ⟨fun hundo hlong => ?_, fun tap step hundo hlast => ?_⟩
  · rw [hundo]
    dsimp only
    rw [if_pos hlong]
    exact ⟨_, rfl, laneOf_sendTapreq _ _ he⟩
  · rw [hundo, hlast]
    refine ⟨_, rfl, ?_⟩
    rw [laneOf_modLane]
    exact ⟨(laneOf_sendTapreq _ _ he).1, rfl⟩
theorem tapreqAbandoned_counts {r : TapReq} (hr : (laneOf s l).tapReq = some r) (hw : 64 ≤ r.waited) :
    execTapreqAbandoned l s = .next (setLane s l { laneOf s l with
      tapReq := none, counters := tabSet 0 (laneOf s l).counters 8 ((tabGet 0 (laneOf s l).counters 8 + 1) % 2 ^ 32) }) := by
  unfold execTapreqAbandoned
  dsimp only
  rw [hr]
  exact if_pos hw

/-! ### Resends and the CRC alarm (04 R93, R107, R111) -/

theorem commandResend_resends {k : Fin 16} {seq : Fin 256} {c : LaneCmd}
    (hc : (laneOf s k).cmds.find? (fun c => c.seq == seq.val && decide (8 ≤ c.waited)) = some c) :
    ∃ u, execCommandResend k seq s = .next u
      ∧ (c.resends < 2 → u.outbox = .laneMsg k c.type c.seq c.body c.len :: s.outbox
        ∧ (laneOf u k).cmds = (laneOf s k).cmds.map (fun y => if y.seq = c.seq ∧ y.type = c.type then
            { y with waited := 0, resends := y.resends + 1 } else y))
      ∧ (2 ≤ c.resends → (laneOf u k).cmds = (laneOf s k).cmds.filter (fun y => !(y.seq == c.seq && y.type == c.type))
        ∧ u.fault.newest = s.fault.nextEseq) := by
  unfold execCommandResend
  dsimp only
  rw [hc]
  dsimp only
  split
  case isTrue h =>
    refine ⟨_, rfl, fun _ => ⟨rfl, ?_⟩, fun h' => absurd h (Nat.not_lt.mpr h')⟩
    rw [queueMsg, laneOf_emit, laneOf_modLane, laneOf_setLane]
  case isFalse h =>
    refine ⟨_, rfl, fun h' => absurd h' h, fun _ => ⟨?_, ?_⟩⟩
    · rw [laneOf_settle, laneOf_of_lane (laneError_lane _ _), laneOf_setLane]
    · rw [(settle_settled _).newest, laneError, errRecord_newest, setLane_fault]
/-- CRCALARM, and the CRC errors counted since it was judged. -/
def crcMarks (x : Lane) : Bool × Nat := (x.crcAlarm, x.crcSecond)
/-- The switchover that an alarm may begin leaves the alarm as it was judged. -/
theorem crcMarks_switched (h k l : Nat) (s : State) :
    crcMarks (laneOf (switchToSpare h k (dropHead h s)) l) = crcMarks (laneOf s l) := by
  obtain ⟨a, -, hview⟩ := atRest_switchToSpare h k (dropHead h s) l
  have hdrop : crcMarks (laneOf (dropHead h s) l) = crcMarks (laneOf s l) :=
    of_atRest crcMarks (fun _ => rfl) (atRest_of_view (laneView_dropHead h s) l)
  exact (of_atRest crcMarks (fun _ => rfl) hview).trans hdrop
theorem crcAlarmEvaluation_judges (l : Fin 20) (s : State) :
    ∃ u, execCrcAlarmEvaluation l s = .next u
      ∧ crcMarks (laneOf u l) = (decide (setting s 0x3000 2 0 < (laneOf s l).crcSecond), 0) := by
  unfold execCrcAlarmEvaluation
  extract_lets x alarm t
  have ht : crcMarks (laneOf t l) = (alarm, 0) := by
    unfold t
    rw [laneOf_setLane]
    rfl
  clear_value t
  have hsettled : crcMarks (laneOf (settle t) l) = (alarm, 0) := by rw [laneOf_settle, ht]
  split
  · split
    · split
      · exact ⟨_, rfl, by rw [laneOf_settle, crcMarks_switched, ht]⟩
      · exact ⟨_, rfl, hsettled⟩
    · exact ⟨_, rfl, hsettled⟩
  · exact ⟨_, rfl, hsettled⟩
end

/-- Settles O40: a message named is taken from the inbox; the rest of the command is followed through the views. -/
theorem laneControl : Obligations.LaneControl := by
  refine ⟨fun s => ⟨fun _ _ _ => headid_notes, fun _ _ _ => headstat_notes, fun l q v delta n m hm => ?_,
    fun l ty seq st n m hm => ⟨fun c => reply_settles hm n, fun _ _ _ _ _ _ => reply_counts hm n⟩,
    fun _ ty seq v st delta n post up => emptyInbox_unchanged ty seq v st delta n post up⟩,
    fun l s => ⟨fun _ _ _ _ => tapreq_waits, fun _ _ _ _ _ => taprep_ends, tapAdaptation_asks, fun _ => tapreqAbandoned_counts,
      fun k seq c hk hc => ?_, ?_⟩⟩
  · obtain ⟨u, hexec, hknown, hunknown⟩ := align_delays n hm
    refine ⟨u, hexec, fun c hc => ?_, hunknown⟩
    have hdelay := hknown c hc
    simp only [delayMarks, oneWay, frameTime, Nat.mod_eq_of_lt q.isLt, Prod.mk.injEq] at hdelay
    exact hdelay
  · rw [← hk] at hc ⊢
    exact commandResend_resends hc
  · obtain ⟨u, hexec, hmarks⟩ := crcAlarmEvaluation_judges l s
    exact ⟨u, hexec, congrArg Prod.fst hmarks, congrArg Prod.snd hmarks⟩

end Sys2Proof.Machine
end


section
/-! O42 (05 R115, R123, R125, R131, R135, R136, R142 to R144). A bin sample is followed through the slot of the history store it
enters (`storedAt`), which the streams, hits and floors after it leave alone, as they do the lanes, the Roll and the clocks; the
words that the floor engine finds in error are of the bin sample 500 back, in another slot. The levels of a gain window and the
floors of a period are tables filled by a fold over their keys. -/

namespace Sys2Proof.Machine

open Sys2Proof.Safety

/-! ### Messages sent leave the receive chain and the settings -/

theorem sendMsg_rx (l type : Nat) (fields : List (Nat × Nat)) (s : State) : (sendMsg l type fields s).rx = s.rx := by
  unfold sendMsg
  dsimp only
  split <;> rfl
theorem cascadeSend_rx (dst type : Nat) (fields : List (Nat × Nat)) (s : State) : (cascadeSend dst type fields s).rx = s.rx := by
  unfold cascadeSend
  dsimp only
  split <;> rfl
theorem cascadeSend_settings (dst type : Nat) (fields : List (Nat × Nat)) (s : State) :
    (cascadeSend dst type fields s).settings = s.settings := by
  unfold cascadeSend
  dsimp only
  split <;> rfl
/-- A GAIN is pending until its reply: of the receive chain it moves nothing else (05 R137). -/
theorem sendGain_rx (l mask : Nat) (gain : Int) (at_ : Nat) (s : State) :
    (sendGain l mask gain at_ s).rx = { s.rx with gainPending := (sendGain l mask gain at_ s).rx.gainPending } := by
  unfold sendGain
  dsimp only
  split
  · simp only [sendMsg_rx]
  · rfl

/-! ### A table filled by a fold -/

theorem tabGet_foldl_tabSet {α : Type} [DecidableEq α] (d : α) (f : Nat → α) (l : List Nat) (t : Tab α) (j : Nat) :
    tabGet d (l.foldl (fun t k => tabSet d t k (f k)) t) j = if j ∈ l then f j else tabGet d t j := by
  induction l generalizing t with
  | nil => rfl
  | cons k l ih =>
    rw [List.foldl_cons, ih, tabGet_set]
    by_cases hjk : j = k
    · subst hjk; simp
    · simp [hjk]

/-! ### The slot of a bin sample (05 R125) -/

/-- A slot of the history store with the number of the next bin sample, and the units a bin sample is no matter of. -/
structure Stored where
  row : HistRow
  next : Nat
  lane : LaneUnit
  roll : RollUnit
  time : TimeUnit
/-- The slot that bin sample n has, and the rest. -/
def storedAt (n : Nat) (s : State) : Stored :=
  ⟨tabGet {} s.rx.history (n % 1000), s.rx.histNext, s.lane, s.roll, s.time⟩

section
variable (n : Nat)

theorem storedAt_setStream (k : Nat) (x : Stream) (s : State) : storedAt n (setStream s k x) = storedAt n s := rfl
theorem storedAt_takeMargin (p beam bin m j : Nat) (new : Nat × Nat) (s : State) :
    storedAt n (takeMargin p beam bin m j new s) = storedAt n s := by
  unfold takeMargin
  dsimp only
  split
  · split <;> rfl
  · rfl
theorem storedAt_takeStream (slots : List Nat) (loopSlot beam bin m j : Nat) (s : State) :
    storedAt n (takeStream slots loopSlot beam bin m j s) = storedAt n s :=
  (foldl_view _ (fun _ _ => storedAt_takeMargin n _ _ _ _ _ _ _) _ _).trans (storedAt_setStream n _ _ s)
theorem storedAt_groupStreams (k g : Nat) (s : State) : storedAt n (groupStreams k g s) = storedAt n s := by
  have hbeams : ∀ (slots : List Nat) (p : Nat) (bin m j t), storedAt n ((List.range 32).foldl (fun t k =>
      takeStream slots p k bin m j t) t) = storedAt n t :=
    fun _ _ _ _ _ t => foldl_view _ (fun _ _ => storedAt_takeStream n _ _ _ _ _ _ _) _ t
  refine (foldl_view _ (fun t p => ?_) _ _).trans (foldl_view _ (fun t i => hbeams _ _ _ _ _ t) _ s)
  exact foldl_view _ (fun t i => foldl_view _ (fun t k => foldl_view _
    (fun t q => storedAt_takeStream n _ _ _ _ _ _ t) _ t) _ t) _ t
theorem storedAt_modHit (h : Hit) (f : Hit → Hit) (s : State) : storedAt n (modHit h f s) = storedAt n s := rfl
theorem storedAt_modDetection (d : Nat) (f : Detection → Detection) (s : State) :
    storedAt n (modDetection d f s) = storedAt n s := rfl
theorem storedAt_countSuppressed (h : Hit) (s : State) : storedAt n (countSuppressed h s) = storedAt n s := by
  unfold countSuppressed
  dsimp only
  split
  · exact (storedAt_modDetection n _ _ _).trans rfl
  · exact (storedAt_modHit n _ _ _).trans rfl
theorem storedAt_settleHits (s : State) : storedAt n (settleHits s) = storedAt n s :=
  foldl_view (storedAt n) (fun t h => storedAt_countSuppressed n h t)
    (s.sweep.hits.filter (fun h => !h.done && windowDone s h && (suppressor s h).isSome)) s
theorem storedAt_floorSample (k : Nat) (s : State) : storedAt n (floorSample k s) = storedAt n s := by
  unfold floorSample
  split
  · rfl
  · split <;> rfl
theorem storedAt_pruneReceive (k : Nat) (s : State) : storedAt n (pruneReceive k s) = storedAt n s := rfl
/-- Words found in error mark the rows of their own slots alone (05 R126). -/
theorem storedAt_poisonWords {l : List (Nat × Nat × Nat)} (h : ∀ w ∈ l, n % 1000 ≠ w.1 % 1000) (s : State) :
    storedAt n (poisonWords l s) = storedAt n s := by
  refine List.foldlRecOn (motive := fun t => storedAt n t = storedAt n s) _ _ rfl fun t ht w hw => ?_
  have hslot : n % 1000 ≠ w.1 % 1000 := h w (List.mem_dedup.mp (List.mem_of_mem_filter hw))
  refine Eq.trans ?_ ht
  simp [storedAt, tabMod, hslot]
end

/-- The row a bin sample leaves in the store, its beams formed. -/
def rowStored (n : Nat) (s : State) : HistRow :=
  { histRow s n (binOutputs s n) with beams := formBeams s (histRow s n (binOutputs s n)) }
theorem storedAt_storeBins (n : Nat) (s : State) :
    storedAt n (storeBins n s) = ⟨rowStored n s, n + 1, s.lane, s.roll, s.time⟩ := by
  simp only [storedAt, storeBins, tabGet_set_self]
  rfl
/-- The floor period, where it is over, ends before the bin sample enters (05 R143). -/
def floorsBrought (s : State) : State := if periodOver s then endFloorPeriod s else s
theorem floorsBrought_others (s : State) :
    (floorsBrought s).lane = s.lane ∧ (floorsBrought s).roll = s.roll ∧ (floorsBrought s).time = s.time := by
  unfold floorsBrought
  split
  · simp only [endFloorPeriod, and_self]
  · exact ⟨rfl, rfl, rfl⟩
theorem binSample_stores {s : State} (k : Nat) (poison : List (Nat × Nat × Nat)) (hrun : s.rx.running = true) :
    let n := s.rx.histNext
    let t := advanceTo (max (256 * n) k) s
    ∃ u, execBinSample n k poison s = .next u
      ∧ storedAt n u = ⟨rowStored n (floorsBrought t), n + 1, s.lane, s.roll, t.time⟩ := by
  intro n t
  have hbehind : ∀ w ∈ poison.filter (fun w => w.1 + 500 == n), n % 1000 ≠ w.1 % 1000 := by
    intro w hw
    have hw : w.1 + 500 = n := by simpa using (List.mem_filter.mp hw).2
    omega
  obtain ⟨hlane, hroll, htime⟩ := floorsBrought_others t
  refine ⟨_, if_pos ⟨hrun, rfl⟩, ?_⟩
  rw [storedAt_pruneReceive, storedAt_floorSample, storedAt_poisonWords n hbehind, storedAt_settleHits,
    foldl_view _ (fun t g => storedAt_groupStreams n n g t)]
  refine (storedAt_storeBins n (floorsBrought t)).trans ?_
  rw [hlane, hroll, htime, advanceTo_lane, advanceTo_roll]

/-! ### Gain windows (05 R136) -/

/-- The level that the window in progress gives an antenna: the one it has where no sample arrived good. -/
def windowLevel (s : State) (a : Nat) : Int :=
  let w := tabGet (0, 0) s.rx.wideSum a
  if w.1 = 0 then tabGet 0 s.rx.wideband a else clampInt (-32768) 32767 (levelOf w.2 (w.1 * 32767 ^ 2))
/-- The level of an antenna is noted. -/
def levelNoted (a : Nat) (s : State) : State :=
  { s with rx := { s.rx with wideband := tabSet 0 s.rx.wideband a (windowLevel s a) } }
/-- The end of a window in which samples of the antenna arrived: its level is noted, and a GAIN may leave. -/
theorem gainWindow_of_samples {a : Nat} {s : State} (h : (tabGet (0, 0) s.rx.wideSum a).1 ≠ 0) :
    gainWindow a s = levelNoted a s ∨ ∃ l mask gain at_, gainWindow a s = sendGain l mask gain at_ (levelNoted a s) := by
  unfold gainWindow
  extract_lets w level rx t head target id old new
  have ht : t = levelNoted a s := by
    rw [levelNoted, windowLevel, if_neg h]
  rw [if_neg h, ← ht]
  clear_value t
  split
  · split
    · split
      · exact .inl rfl
      · exact .inr ⟨_, _, _, _, rfl⟩
    · exact .inl rfl
  · exact .inl rfl
/-- The end of a window for an antenna moves of the receive chain its level, and a GAIN that may be pending. -/
theorem gainWindow_rx (a : Nat) (s : State) : ∃ pending levels,
    (gainWindow a s).rx = { s.rx with gainPending := pending, wideband := levels }
      ∧ ∀ i, tabGet 0 levels i = if i = a then windowLevel s a else tabGet 0 s.rx.wideband i := by
  by_cases h : (tabGet (0, 0) s.rx.wideSum a).1 = 0
  · refine ⟨s.rx.gainPending, s.rx.wideband, by rw [gainWindow, if_pos h], fun i => ?_⟩
    split
    case isTrue hi => rw [hi, windowLevel, if_pos h]
    case isFalse => rfl
  · obtain hw | ⟨l, mask, gain, at_, hw⟩ := gainWindow_of_samples h
    · exact ⟨s.rx.gainPending, tabSet 0 s.rx.wideband a (windowLevel s a), congrArg State.rx hw, fun i => tabGet_set _ _ _ i _⟩
    · exact ⟨_, _, (congrArg State.rx hw).trans (sendGain_rx l mask gain at_ _), fun i => tabGet_set _ _ _ i _⟩

/-- What the windows of the antennas leave as it is. -/
def windowRest (s : State) : Tab (Nat × Nat) × Nat × Tab Int × Tab HistRow :=
  (s.rx.wideSum, s.rx.wideFrom, s.rx.headGain, s.rx.history)
theorem windowRest_gainWindow (s : State) (a : Nat) : windowRest (gainWindow a s) = windowRest s := by
  obtain ⟨pending, levels, hrx, -⟩ := gainWindow_rx a s
  simp only [windowRest, hrx]
/-- The end of the window for one antenna gives it its level, and moves neither another's level nor what another is given. -/
theorem wideband_gainWindow (s : State) (a i : Nat) : tabGet 0 (gainWindow a s).rx.wideband i
    = if i = a then windowLevel s a else tabGet 0 s.rx.wideband i := by
  obtain ⟨pending, levels, hrx, hlevels⟩ := gainWindow_rx a s
  rw [hrx]
  exact hlevels i
theorem windowLevel_gainWindow (s : State) (a i : Nat) : windowLevel (gainWindow a s) i = windowLevel s i := by
  have hsum : (gainWindow a s).rx.wideSum = s.rx.wideSum := congrArg Prod.fst (windowRest_gainWindow s a)
  simp only [windowLevel, hsum, wideband_gainWindow]
  by_cases hi : i = a
  · subst hi; simp +contextual
  · simp [hi]
theorem wideband_foldl_gainWindow (l : List Nat) (s : State) (i : Nat) :
    tabGet 0 (l.foldl (fun t a => gainWindow a t) s).rx.wideband i
      = if i ∈ l then windowLevel s i else tabGet 0 s.rx.wideband i := by
  induction l generalizing s with
  | nil => rfl
  | cons a l ih =>
    rw [List.foldl_cons, ih, windowLevel_gainWindow, wideband_gainWindow]
    by_cases hi : i = a
    · subst hi; simp
    · simp [hi]
theorem headGainWindow_notes {s : State} (k : Nat) (hrun : s.rx.running = true) (hon : setting s 0x4005 2 0 = 1) :
    ∃ u, execHeadGainWindow k s = .next u ∧ u.rx.wideSum = [] ∧ u.rx.wideFrom = s.rx.wideFrom + 6400000
      ∧ u.rx.headGain = s.rx.headGain ∧ u.rx.history = s.rx.history
      ∧ ∀ a, a < 192 → tabGet 0 u.rx.wideband a = windowLevel s a := by
  unfold execHeadGainWindow
  rw [if_pos ⟨hrun, hon⟩]
  generalize max (s.rx.wideFrom + 6400000) k = at_
  have hrest : windowRest ((List.range 192).foldl (fun t a => gainWindow a t) (advanceTo at_ s)) = windowRest s := by
    rw [foldl_view _ windowRest_gainWindow, windowRest, advanceTo_rx]
    rfl
  have hlevels := wideband_foldl_gainWindow (List.range 192) (advanceTo at_ s)
  generalize (List.range 192).foldl _ _ = t at hrest hlevels
  refine ⟨_, rfl, rfl, congrArg (·.2.1 + 6400000) hrest, congrArg (·.2.2.1) hrest, congrArg (·.2.2.2) hrest, fun a ha => ?_⟩
  refine (hlevels a).trans ?_
  rw [if_pos (List.mem_range.mpr ha), windowLevel, advanceTo_rx]
  rfl

/-! ### Noise floors (05 R143) -/

section
variable {s : State} {k : Nat}

theorem mem_floorsTaken {total n : Nat} {count : Nat → Nat} (h : k < n) :
    k ∈ floorsTaken total n count ↔ total ≤ 10 * count k := by
  simp [floorsTaken, h]
/-- Of every floor, those that take a mean are fresh, and the others keep their value. -/
theorem floorsTaken_fresh {total n : Nat} {count : Nat → Nat} (h : k < n) :
    tabGet false ((floorsTaken total n count).foldl (fun t k => tabSet false t k true) []) k = decide (total ≤ 10 * count k) := by
  rw [tabGet_foldl_tabSet, Bool.eq_iff_iff]
  simp [mem_floorsTaken h, tabGet]
theorem floorsTaken_means {total n : Nat} {count : Nat → Nat} (h : k < n) (mean : Nat → Int) (t : Tab Int) :
    tabGet 0 ((floorsTaken total n count).foldl (fun t k => tabSet 0 t k (mean k)) t) k
      = if total ≤ 10 * count k then mean k else tabGet 0 t k := by
  rw [tabGet_foldl_tabSet]
  simp only [mem_floorsTaken h]

theorem endFloorPeriod_fraction (h : k < 512) :
    tabGet 0 (endFloorPeriod s).rx.fraction k = beamQualifying s k * 100 / periodLength s := by
  simp only [endFloorPeriod, tabGet_foldl_tabSet, List.mem_range, h, if_true]
theorem endFloorPeriod_antFresh (h : k < 98304) : tabGet false (endFloorPeriod s).rx.antFresh k
    = decide (periodLength s ≤ 10 * antQualifying s (k / 512) (k % 512)) := by
  simp only [endFloorPeriod, floorsTaken_fresh h]
theorem endFloorPeriod_beamFresh (h : k < 16384) : tabGet false (endFloorPeriod s).rx.beamFresh k
    = decide (periodLength s ≤ 10 * beamQualifying s (k / 32)) := by
  simp only [endFloorPeriod, floorsTaken_fresh h]
theorem endFloorPeriod_antFloor (h : k < 98304) : tabGet 0 (endFloorPeriod s).rx.antFloor k
    = if periodLength s ≤ 10 * antQualifying s (k / 512) (k % 512)
      then meanLevel (tabGet 0 s.rx.antSum k) (antQualifying s (k / 512) (k % 512)) else tabGet 0 s.rx.antFloor k := by
  simp only [endFloorPeriod, floorsTaken_means h]
theorem endFloorPeriod_beamFloor (h : k < 16384) : tabGet 0 (endFloorPeriod s).rx.beamFloor k
    = if periodLength s ≤ 10 * beamQualifying s (k / 32)
      then meanLevel (tabGet 0 s.rx.beamSum k) (beamQualifying s (k / 32)) else tabGet 0 s.rx.beamFloor k := by
  simp only [endFloorPeriod, floorsTaken_means h]
theorem endFloorPeriod_restarts (s : State) : (endFloorPeriod s).rx.periodFrom = s.rx.periodFrom + periodLength s
    ∧ (endFloorPeriod s).rx.floorRuns = [] := by
  simp only [endFloorPeriod, and_self]
end

section
variable (n : Nat) (s : State)

@[simp] theorem periodLength_advanceTo : periodLength (advanceTo n s) = periodLength s := by
  simp only [periodLength, setting, advanceTo_settings]
@[simp] theorem antQualifying_advanceTo (a b : Nat) : antQualifying (advanceTo n s) a b = antQualifying s a b := by
  simp only [antQualifying, qualifying, advanceTo_rx]
@[simp] theorem beamQualifying_advanceTo (b : Nat) : beamQualifying (advanceTo n s) b = beamQualifying s b := by
  simp only [beamQualifying, qualifying, advanceTo_rx]
end

theorem floorPeriodEnd_takes {s : State} (k : Nat) (hrun : s.rx.running = true) (hover : periodOver s = true) :
    let total := periodLength s
    ∃ u, execFloorPeriodEnd s.rx.periodFrom total k s = .next u ∧ u.rx.periodFrom = s.rx.periodFrom + total ∧ u.rx.floorRuns = []
      ∧ ∀ b, b < 512 → tabGet 0 u.rx.fraction b = beamQualifying s b * 100 / total
        ∧ (∀ a, a < 192 →
          let q := antQualifying s a b
          tabGet false u.rx.antFresh (512 * a + b) = decide (total ≤ 10 * q)
          ∧ tabGet 0 u.rx.antFloor (512 * a + b) = (if total ≤ 10 * q then meanLevel (tabGet 0 s.rx.antSum (512 * a + b)) q
              else tabGet 0 s.rx.antFloor (512 * a + b)))
        ∧ ∀ k, k < 32 →
          let q := beamQualifying s b
          tabGet false u.rx.beamFresh (32 * b + k) = decide (total ≤ 10 * q)
          ∧ tabGet 0 u.rx.beamFloor (32 * b + k) = (if total ≤ 10 * q then meanLevel (tabGet 0 s.rx.beamSum (32 * b + k)) q
              else tabGet 0 s.rx.beamFloor (32 * b + k)) := by
  intro total
  obtain ⟨hfrom, hruns⟩ := endFloorPeriod_restarts (advanceTo k s)
  refine ⟨endFloorPeriod (advanceTo k s), if_pos ⟨hrun, rfl, rfl, hover⟩, by simpa using hfrom, hruns, fun b hb =>
    ⟨by simpa using endFloorPeriod_fraction (s := advanceTo k s) hb, fun a ha => ?_, fun j hj => ?_⟩⟩
  · have hkey : 512 * a + b < 98304 := by omega
    have hant : (512 * a + b) / 512 = a := by omega
    have hbin : (512 * a + b) % 512 = b := by omega
    rw [endFloorPeriod_antFresh hkey, endFloorPeriod_antFloor hkey, hant, hbin]
    simp [total]
  · have hkey : 32 * b + j < 16384 := by omega
    have hbin : (32 * b + j) / 32 = b := by omega
    rw [endFloorPeriod_beamFresh hkey, endFloorPeriod_beamFloor hkey, hbin]
    simp [total]

/-! ### Settings (05 R131, R135, R144) -/

theorem setting_putSetting (s : State) (idx sub el v : Nat) : setting (putSetting s 0 idx sub el v) idx sub el = v :=
  tabGet_set_self _ _ _ _
theorem averagingPeriodWrite_restarts {vi : Fin 16} {v : Nat} {s : State} (hw : writable s vi 0x4006 1 0 1 v = true) :
    ∃ u, execAveragingPeriodWrite vi v s = .next u ∧ u.answer.status = .ok ∧ setting u 0x4006 1 0 = v
      ∧ u.rx.antFresh = [] ∧ u.rx.beamFresh = [] ∧ u.rx.floorRuns = [] ∧ u.rx.antFloor = s.rx.antFloor :=
  ⟨_, answered_of_writable hw rfl, rfl, setting_putSetting s _ _ _ v, rfl, rfl, rfl, rfl⟩

theorem sendGains_rx (bin : Nat) (s : State) : (sendGains bin s).rx = s.rx := by
  unfold sendGains
  dsimp only
  split
  · exact cascadeSend_rx _ _ _ _
  · rfl
theorem sendGains_settings (bin : Nat) (s : State) : (sendGains bin s).settings = s.settings := by
  unfold sendGains
  dsimp only
  split
  · exact cascadeSend_settings _ _ _ _
  · rfl

/-- Object, and its element's number, that a LOOP_SETTING_WRITE names: the merge width, or a setting of the gain loops. -/
def loopObject (which : Fin 5) : Nat := if which = 0 then 0x4003 else 0x4004
def loopSub (which : Fin 5) : Nat := if which = 0 then 1 else which.val
theorem loopObject_width : ∀ which, loopObject which = 0x4003 ↔ which = 0 := by decide
theorem loopObject_mode : ∀ which, loopObject which = 0x4004 ∧ loopSub which = 1 ↔ which = 1 := by decide
theorem loopObject_gain : ∀ which, loopObject which = 0x4004 ∧ loopSub which = 4 ↔ which = 4 := by decide

/-- A big stack turns away a mode or gain written at a member that follows its head, and mode 0 (05 R135). -/
def turnedAway (s : State) (which : Fin 5) (v : Nat) : Prop :=
  bigStack s = true ∧ (which = 1 ∨ which = 4) ∧ (followsHead s = true ∨ (which = 1 ∧ v = 0))
theorem turnedAway_iff (s : State) (which : Fin 5) (v : Nat) : turnedAway s which v ↔ loopObject which = 0x4004
    ∧ (loopSub which = 1 ∨ loopSub which = 4) ∧ bigStack s = true
    ∧ (followsHead s = true ∨ (loopSub which = 1 ∧ v = 0)) := by
  have hmode := loopObject_mode which
  have hgain := loopObject_gain which
  unfold turnedAway
  tauto

section
variable {vi : Fin 16} {which : Fin 5} {el v : Nat} {s : State}
  (hw : writable s vi (loopObject which) (loopSub which) el (if which = 2 ∨ which = 4 then 2 else 1) v = true)
include hw

theorem loopSettingWrite_refused (h : turnedAway s which v) : ∃ u, execLoopSettingWrite vi which el v s = .next u
    ∧ u.answer.status = .refused ∧ u.rx = s.rx ∧ u.settings = s.settings :=
  ⟨_, answered_of_writable hw (if_pos ((turnedAway_iff s which v).mp h)), rfl, rfl, rfl⟩
theorem loopSettingWrite_waits (h : ¬turnedAway s which v) (hgain : which ≠ 4) : execLoopSettingWrite vi which el v s
    = took (stageSetting s (if which = 0 then el / 2 else el) (loopObject which) (loopSub which) el v) := by
  have hwrite : writeLoop (loopObject which) (loopSub which) el v s
      = (stageSetting s (if which = 0 then el / 2 else el) (loopObject which) (loopSub which) el v, .ok) := by
    rw [writeLoop, if_neg (mt (turnedAway_iff s which v).mpr h), if_neg (mt (loopObject_gain which).mp hgain)]
    simp only [loopObject_width]
  exact answered_of_writable hw hwrite
theorem loopSettingWrite_acts (h : ¬turnedAway s which v) (hgain : which = 4) : ∃ u, execLoopSettingWrite vi which el v s = .next u
    ∧ u.answer.status = .ok ∧ setting u 0x4004 4 el = v ∧ u.rx = s.rx := by
  have hwrite : writeLoop (loopObject which) (loopSub which) el v s
      = (sendGains el (putSetting s 0 (loopObject which) (loopSub which) el v), .ok) := by
    rw [writeLoop, if_neg (mt (turnedAway_iff s which v).mpr h), if_pos ((loopObject_gain which).mpr hgain)]
  refine ⟨_, answered_of_writable hw hwrite, rfl, ?_, sendGains_rx _ _⟩
  subst hgain
  exact (congrArg (fun t => tabGet (dictDefault 0x4004 4 el) t (skey 0 0x4004 4 el)) (sendGains_settings el _)).trans
    (setting_putSetting s 0x4004 4 el v)
end

/-- Settles O42: a bin sample by the slot it enters, a gain window and a floor period by the tables they fill, a setting by the
branch of its owning rule. -/
theorem receiveChain : Obligations.ReceiveChain := by
  refine ⟨fun s k poison hrun => ?_, fun _ => headGainWindow_notes, fun _ => floorPeriodEnd_takes,
    fun _ _ _ => averagingPeriodWrite_restarts,
    fun _ _ _ _ _ hw => ⟨loopSettingWrite_refused hw, loopSettingWrite_waits hw, loopSettingWrite_acts hw⟩⟩
  obtain ⟨u, hexec, hstored⟩ := binSample_stores k poison hrun
  refine ⟨u, hexec, congrArg Stored.next hstored, congrArg Stored.roll hstored, congrArg Stored.lane hstored,
    congrArg Stored.row hstored, fun hv => ?_⟩
  rw [show u.time = _ from congrArg Stored.time hstored, advanceTo_airTime _ _ hv]

end Sys2Proof.Machine
end


section
/-! What a detection, a request or a verdict on its way through tokens, messages and the downlink leaves alone: the verdicts held and
their numbers (`State.verdict`), the Sweep, and of a capture what it has combined (`combinedPart`). -/

namespace Sys2Proof.Machine

/-! ### Messages -/

/-- u differs from s at most in the lanes and what is sent. -/
def sentOnly (s u : State) : Prop := u = { s with outbox := u.outbox, lane := u.lane }

theorem sentOnly.sweep {s u : State} (h : sentOnly s u) : u.sweep = s.sweep := by rw [h]
theorem sentOnly.verdict {s u : State} (h : sentOnly s u) : u.verdict = s.verdict := by rw [h]
theorem sentOnly.trans {s u v : State} (h : sentOnly s u) (g : sentOnly u v) : sentOnly s v := by
  unfold sentOnly at *
  rw [g, h]
theorem setLane_sent (l : Nat) (x : Lane) (s : State) : sentOnly s (setLane s l x) := rfl
theorem queueMsg_sent (l type seq body n : Nat) (s : State) : sentOnly s (queueMsg l type seq body n s) := rfl
theorem cascadeOut_sent (east : Bool) (type dst body n : Nat) (s : State) : sentOnly s (cascadeOut east type dst body n s) := rfl
theorem sendMsg_sent (l type : Nat) (fields : List (Nat × Nat)) (s : State) : sentOnly s (sendMsg l type fields s) := by
  unfold sendMsg
  dsimp only
  split
  · exact (setLane_sent ..).trans (queueMsg_sent ..)
  · rfl
theorem cascadeSend_sent (dst type : Nat) (fields : List (Nat × Nat)) (s : State) :
    sentOnly s (cascadeSend dst type fields s) := by
  unfold cascadeSend
  dsimp only
  split
  · exact (cascadeOut_sent ..).trans (cascadeOut_sent ..)
  · exact cascadeOut_sent ..

/-! ### Tokens, and the end of a command -/

theorem prefectOnly.verdict {s u : State} (h : prefectOnly s u) : u.verdict = s.verdict := by rw [h]
theorem settledOnly.sweep {s u : State} (h : settledOnly s u) : u.sweep = s.sweep := by rw [h]

/-- What capture c has combined: the blocks and samples, the reduced-aperture mark, and its ring (07 R179). -/
structure Combined where
  blocks : Nat
  samples : Nat
  rap : Bool
  ring : Tab Nat
def combinedPart (c : Nat) (s : State) : Combined :=
  ⟨(captureOf s c).blocks, (captureOf s c).samples, (captureOf s c).rap, (captureOf s c).ring⟩

section
variable (c : Nat)

theorem combinedPart_of_sweep {s u : State} (h : u.sweep = s.sweep) : combinedPart c u = combinedPart c s := by
  simp only [combinedPart, captureOf, h]
theorem combinedPart_bufDrop (k : Nat) (s : State) : combinedPart c (bufDrop k s) = combinedPart c s := by
  unfold bufDrop
  dsimp only
  split
  · rfl
  · split <;> rfl
theorem combinedPart_trace (kind opseq level node unit flow : Nat) (s : State) :
    combinedPart c (trace kind opseq level node unit flow s) = combinedPart c s :=
  combinedPart_of_sweep c (trace_traced ..).sweep
theorem combinedPart_newOp (t : Token) (n : Node) (s : State) : combinedPart c (newOp t n s) = combinedPart c s :=
  (combinedPart_of_sweep c (noteBlock_traced _ _).sweep).trans ((combinedPart_trace ..).trans rfl)
theorem combinedPart_setFifo (k : Nat) (l : List Token) (s : State) : combinedPart c (setFifo k l s) = combinedPart c s := by
  unfold setFifo
  split <;> rfl
/-- A capture that is forced to end keeps what it has combined (11 R291). -/
theorem combinedPart_forceEnd (k detail : Nat) (s : State) : combinedPart c (forceEnd k detail s) = combinedPart c s := by
  unfold forceEnd
  dsimp only
  split
  · rfl
  · by_cases hk : c = k
    · subst hk
      simp only [combinedPart, captureOf_setCapture]
    · simp only [combinedPart, captureOf_setCapture_other _ _ _ _ hk]
theorem combinedPart_dropToken (k : Nat) (t : Token) (level : Nat) (s : State) :
    combinedPart c (dropToken k t level s) = combinedPart c s := by
  have hdrop : ∀ x : State, combinedPart c (if isCaptureKey t.flow then forceEnd (t.flow - 0xF000) 4 x else x) = combinedPart c x :=
    fun x => by
      split
      · exact combinedPart_forceEnd c _ _ _
      · rfl
  exact (hdrop _).trans ((combinedPart_bufDrop ..).trans ((combinedPart_trace ..).trans rfl))
theorem combinedPart_intoRecord (k : Nat) (t : Token) (n : Node) (s : State) :
    combinedPart c (intoRecord k t n s) = combinedPart c s := by
  unfold intoRecord
  split
  · exact combinedPart_newOp c _ _ _
  · split
    · exact combinedPart_setFifo c _ _ _
    · exact combinedPart_dropToken c _ _ _ _
theorem combinedPart_deliver (fuel k : Nat) (l : List Token) (s : State) :
    combinedPart c (deliver fuel k l s) = combinedPart c s := by
  induction fuel generalizing l s with
  | zero => cases l <;> rfl
  | succ n ih =>
    cases l with
    | nil => rfl
    | cons t rest =>
      unfold deliver
      split
      · exact (ih _ _).trans (combinedPart_bufDrop c _ _)
      · split
        · exact ih _ _
        · dsimp only
          split
          · exact (ih _ _).trans (foldl_view (combinedPart c) (fun x t => combinedPart_bufDrop c _ _) _ _)
          · exact ih _ _
        · exact (ih _ _).trans (combinedPart_intoRecord c _ _ _ _)
theorem combinedPart_raiseToken (port flow arg : Nat) (s : State) :
    combinedPart c (raiseToken port flow arg s) = combinedPart c s := by
  unfold raiseToken
  split
  · rfl
  · generalize (sourcesOf s port).filter _ = src
    show combinedPart c (if src.isEmpty = true then _ else _) = _
    by_cases h : src.isEmpty = true
    · rw [if_pos h]
      exact (combinedPart_trace ..).trans rfl
    · rw [if_neg h]
      exact combinedPart_deliver ..
end

/-! ### Bursts, requests and attempts -/

theorem verdict_txenFor (h t : Nat) (s : State) : (txenFor h t s).verdict = s.verdict := by
  unfold txenFor
  split
  · exact (sendMsg_sent ..).verdict
  · rfl
theorem verdict_txensFor (h : Nat) (times : List Nat) (s : State) : (txensFor h times s).verdict = s.verdict :=
  foldl_view State.verdict (fun t a => verdict_txenFor h a t) _ _
theorem verdict_sendParamp (l mask slot : Nat) (down now : Bool) (spacing at_ : Nat) (s : State) :
    (sendParamp l mask slot down now spacing at_ s).verdict = s.verdict := (sendMsg_sent ..).verdict
theorem verdict_queueBurst (b : Burst) (s : State) : (queueBurst b s).verdict = s.verdict := by
  refine foldl_view State.verdict (fun t h => ?_) _ _
  dsimp only
  split
  · simp only [verdict_txensFor, verdict_sendParamp, verdict_txenFor]
  · rfl
theorem verdict_modReq (q : Nat) (f : ReqRec → ReqRec) (s : State) : (modReq q f s).verdict = s.verdict := by
  unfold modReq
  split <;> rfl
theorem verdict_dlBump (vi term : Nat) (s : State) : (dlBump vi term s).verdict = s.verdict := rfl
theorem verdict_openReq (r : ReqRec) (s : State) : (openReq r s).verdict = s.verdict := rfl
theorem verdict_dlDrop (vi term : Nat) (s : State) : (dlDrop vi term s).verdict = s.verdict := rfl
theorem verdict_takeTokens (h n : Nat) (s : State) : (takeTokens h n s).verdict = s.verdict := rfl
theorem verdict_putBurst (i : Nat) (b : Burst) (s : State) : (putBurst i b s).verdict = s.verdict := rfl
theorem verdict_placeBurst (p : Placing) (s : State) : (placeBurst p s).verdict = s.verdict := by
  unfold placeBurst
  dsimp only
  rw [(raisePort_only _ _ _).verdict, verdict_queueBurst, verdict_dlBump, verdict_dlBump, verdict_modReq, verdict_putBurst]
  exact foldl_view State.verdict (fun t h => verdict_takeTokens h _ t) _ _
theorem verdict_refuseReq (q vi : Nat) (st : Status) (s : State) : (refuseReq q vi st s).verdict = s.verdict := by
  rw [refuseReq, verdict_dlDrop, verdict_dlBump, verdict_modReq]
theorem verdict_enqueue (d : Deferred) (s : State) : (enqueue d s).verdict = s.verdict := rfl
theorem verdict_deferReq (q : Nat) (a : Ask) (s : State) : (deferReq q a s).verdict = s.verdict := by
  rw [deferReq_eq, verdict_enqueue, verdict_dlBump, verdict_dlDrop, verdict_modReq]
theorem verdict_attemptCommit (a : Ask) (outcome hold : Bool) (f : Entry × Account → Entry × Account) (s : State) :
    (attemptCommit a outcome hold f s).verdict = s.verdict := by
  unfold attemptCommit
  split <;> rfl
theorem verdict_tryPlace (q : Nat) (a : Ask) {refused placed : State → State} (hr : ∀ t, (refused t).verdict = t.verdict)
    (hp : ∀ t, (placed t).verdict = t.verdict) (s : State) : (tryPlace q a refused placed s).1.verdict = s.verdict := by
  unfold tryPlace
  split
  · exact (hr _).trans (verdict_refuseReq ..)
  · exact (verdict_placeBurst ..).trans (hp _)
/-- An attempt at a downlink touches no verdict, whatever its checks say. -/
theorem verdict_attempt (a : Ask) (s : State) : (attempt a s).1.verdict = s.verdict := by
  have hopen : ∀ (r : ReqRec) (term : Nat),
      (dlBump a.vi 4 (dlBump a.vi term (openReq r (takeRqid s).2))).verdict = s.verdict := fun _ _ => by
    rw [verdict_dlBump, verdict_dlBump, verdict_openReq]
    rfl
  unfold attempt
  dsimp only
  specialize hopen { rqid := (takeRqid s).1, slot := a.slot, origin := a.origin, vi := a.vi, profile := a.profile, prev := a.prev,
                     cost := if a.origin == .carried then a.cost else 0 } (if a.origin == .carried then 1 else 0)
  generalize dlBump a.vi 4 _ = t at hopen ⊢
  split
  · split
    · exact (verdict_refuseReq ..).trans hopen
    · exact (verdict_tryPlace _ _ (fun _ => rfl) (fun _ => rfl) _).trans hopen
  · split
    · rw [verdict_attemptCommit, verdict_refuseReq, hopen]
    · split
      · rw [verdict_attemptCommit, verdict_deferReq, verdict_modReq, hopen]
      · refine (verdict_tryPlace _ _ (fun _ => ?_) (fun _ => ?_) _).trans ((verdict_modReq ..).trans hopen) <;>
          exact verdict_attemptCommit ..
theorem verdict_followOns (bin mcode : Nat) (cfo : Int) (l : List Deferred) (end16 : Nat) (s : State) :
    (followOns bin mcode cfo l end16 s).verdict = s.verdict := by
  induction l generalizing end16 s with
  | nil => rfl
  | cons d l ih =>
    unfold followOns
    dsimp only
    generalize hs : ({ s with tx := _ } : State) = t
    generalize ha : attempt _ t = r
    have hr : r.1.verdict = s.verdict := by
      rw [← ha, verdict_attempt, ← hs]
    split
    · exact (ih _ _).trans hr
    · exact hr
    · exact (ih _ _).trans hr
theorem verdict_settleCredits (cause slot : Nat) (f : Entry × Account → Entry × Account) (s : State) :
    (settleCredits cause slot f s).verdict = s.verdict := by
  unfold settleCredits
  split <;> rfl
theorem verdict_endDeferred (d : Deferred) (st : Status) (s : State) : (endDeferred d st s).verdict = s.verdict := by
  unfold endDeferred
  dsimp only
  rw [verdict_settleCredits, verdict_dlBump, verdict_dlBump, verdict_openReq]
  rfl
theorem verdict_raiseAck (slot s16 : Nat) (alarm : Bool) (bin mcode : Nat) (cfo : Int) (s : State) :
    (raiseAck slot s16 alarm bin mcode cfo s).verdict = s.verdict := by
  unfold raiseAck
  dsimp only
  generalize ha : attempt _ s = r
  have hr : r.1.verdict = s.verdict := by rw [← ha, verdict_attempt]
  have hend : ∀ l : List Deferred, (l.foldl (fun u d => endDeferred d .late u) r.1).verdict = s.verdict :=
    fun l => (foldl_view State.verdict (fun t d => verdict_endDeferred d .late t) _ _).trans hr
  split
  · exact (verdict_followOns ..).trans (hend _)
  · exact hend _
theorem verdict_raiseReply (vi profile meter endAt bin mcode : Nat) (cfo : Int) (w : Tab Nat) (s : State) :
    (raiseReply vi profile meter endAt bin mcode cfo w s).verdict = s.verdict := by
  unfold raiseReply
  dsimp only
  generalize (if profile = 0x20 ∨ profile = 0x21 then findReply s vi meter else none) = i
  cases i with
  | none => rfl
  | some i => exact verdict_attempt _ _

end Sys2Proof.Machine
end


section
/-! O43 (06 R152 to R162; 05 R134). A detection is what `raiseDetection` appends; a round with a lone request comes down to that
request's refusal or grant, and what a grant sends for branches leaves the Sweep alone. -/

namespace Sys2Proof.Machine

/-- Time passing moves the clocks alone. -/
theorem advanceTo_eq (n : Nat) (s : State) : advanceTo n s = { s with time := (advanceTo n s).time } := by
  unfold advanceTo
  split <;> rfl

/-! ### Detections (06 R152 to R155; 05 R134) -/

/-- What hits that are counted as suppressed leave: the requests, the number of the next detection, the count of the ring, and the
gain loops. -/
structure Raising where
  requests : List Detection
  nextDseq : Nat
  ringCount : Nat
  streams : Tab Stream
def raising (s : State) : Raising := ⟨s.sweep.requests, s.sweep.nextDseq, s.sweep.ringCount, s.rx.streams⟩

theorem raising_countSuppressed (h : Hit) (s : State) : raising (countSuppressed h s) = raising s := by
  unfold countSuppressed
  dsimp only
  split <;> rfl
theorem raising_followers (l : List Hit) (s : State) : raising (l.foldl (fun t x => countSuppressed x t) s) = raising s :=
  foldl_view raising (fun t x => raising_countSuppressed x t) l s
/-- A term of the frame account moves nothing else of the Sweep, and nothing of the receive chain (06 R173). -/
theorem frameBump_sweep (key : Nat) (s : State) :
    (frameBump key s).sweep = { s.sweep with account := (frameBump key s).sweep.account } := rfl
theorem frameBump_rx (key : Nat) (s : State) : (frameBump key s).rx = s.rx := rfl
/-- A surviving hit becomes a detection with the next DSEQ; its request waits, its loop is frozen. -/
theorem raiseDetection_raises (h : Hit) (s : State) : ∃ d, (raiseDetection h s).sweep.requests = s.sweep.requests ++ [d]
    ∧ d.dseq = s.sweep.nextDseq ∧ d.peakAt = h.peakAt ∧ d.beam = h.beam ∧ d.bin = h.bin ∧ d.slot = h.p
    ∧ d.floor = h.floor ∧ d.measured = h.margin ∧ (raiseDetection h s).sweep.nextDseq = seqNext s.sweep.nextDseq
    ∧ tabGet none (raiseDetection h s).sweep.ring (s.sweep.ringCount % 65536) = some d
    ∧ (raiseDetection h s).sweep.ringCount = s.sweep.ringCount + 1
    ∧ (streamOf (raiseDetection h s) (loopKey h.p h.mcode h.beam h.bin)).frozen
      = (streamOf s (loopKey h.p h.mcode h.beam h.bin)).frozen + 1 := by
  have hview := raising_followers (followers s h) s
  unfold raiseDetection
  generalize (followers s h).foldl _ s = t at hview ⊢
  obtain ⟨hrequests, hdseq, hcount, hstreams⟩ := Raising.mk.inj hview
  simp only [streamOf, ← hrequests, ← hdseq, ← hcount, ← hstreams]
  rw [frameBump_sweep, frameBump_rx]
  refine ⟨_, rfl, rfl, rfl, rfl, rfl, rfl, rfl, rfl, rfl, ?_, rfl, ?_⟩
  · simp only [modHit, setStream, takeDseq, tabGet_set_self]
  · exact congrArg Stream.frozen (tabGet_set_self (α := Stream) ..)
theorem detectionRaised_raises {p : Fin 2} {beam : Fin 32} {bin : Fin 512} {peakAt : Nat} (n : Nat) {s : State} {h : Hit}
    (hfind : s.sweep.hits.find? (fun h => h.p == p.val && h.beam == beam.val && h.bin == bin.val && h.peakAt == peakAt) = some h)
    (hruns : sweepRuns s = true) (hdone : h.done = false) (hwindow : windowDone s h = true) (hsup : suppressor s h = none) :
    execDetectionRaised p beam bin peakAt n s = .next (raiseDetection h (advanceTo n s)) := by
  simp [execDetectionRaised, hfind, hruns, hdone, hwindow, hsup]

/-! ### A round (06 R156 to R162) -/

section
variable {s : State} {d : Detection} {r : Nat}

theorem applyBell_of_none_staged (b : Nat) (h : s.rx.staged = []) : applyBell b s = s := by
  simp only [applyBell, h, List.filter_nil, List.foldl_nil]
  rw [← h]
theorem refusedAtOnce_advanceTo (n : Nat) (s : State) (d : Detection) :
    refusedAtOnce (advanceTo n s) d = refusedAtOnce s d := by
  rw [advanceTo_eq]
  rfl
theorem effectiveCeiling_advanceTo (n : Nat) (s : State) : effectiveCeiling (advanceTo n s) = effectiveCeiling s := by
  rw [advanceTo_eq]
  rfl
theorem runningCount_advanceTo (n : Nat) (s : State) : runningCount (advanceTo n s) = runningCount s := by
  rw [advanceTo_eq]
  rfl
theorem spanFull_advanceTo (n : Nat) (s : State) (d : Detection) : spanFull (advanceTo n s) d = spanFull s d := by
  rw [advanceTo_eq]
  rfl

/-- A round notes its number. -/
def inRound (r : Nat) (s : State) : State := { s with sweep := { s.sweep with lastRound := r % 2 ^ 32 } }

theorem ranked_lone (d : Detection) : ranked [d] = [d] := rfl
/-- The request of a round is gone: what is left of the round has nothing to do. -/
theorem requests_without (d : Detection) : [d].filter (fun x => x.dseq ≠ d.dseq) = [] := by simp
theorem refuseRequest_requests (cause : Refuse) (h : s.sweep.requests = [d]) :
    (refuseRequest d cause r s).sweep.requests = [] := by
  rw [← requests_without d, ← h]
  rfl
theorem refuseRequest_captures (cause : Refuse) : (refuseRequest d cause r s).sweep.captures = s.sweep.captures := rfl
theorem refuseRequest_cRefuse (cause : Refuse) : (refuseRequest d cause r s).sweep.cRefuse = bump s.sweep.cRefuse d.bin := rfl
theorem refuseRequest_lastRound (cause : Refuse) : (refuseRequest d cause r s).sweep.lastRound = s.sweep.lastRound := rfl
theorem admissionRound_refuses {cause : Refuse} (hstaged : s.rx.staged = []) (hlone : s.sweep.requests = [d])
    (hc : refusedAtOnce s d = some cause) : admissionRound r s = refuseRequest d cause r (inRound r s) := by
  have hbell : applyBell 8 (inRound r s) = inRound r s := applyBell_of_none_staged 8 hstaged
  have hc : refusedAtOnce (inRound r s) d = some cause := hc
  have hgone : (refuseRequest d cause r (inRound r s)).sweep.requests = [] := refuseRequest_requests cause hlone
  have hlone : (inRound r s).sweep.requests = [d] := hlone
  unfold admissionRound
  rw [← inRound, hbell]
  simp only [hlone, ranked_lone, List.foldl_cons, List.foldl_nil, hc]
  generalize refuseRequest d cause r (inRound r s) = t at hgone ⊢
  simp [hgone, ranked]

/-- A free capture is found wherever the search begins. -/
theorem freeCapture_of_free {k : Nat} (j : Nat) (hk : k < 4096) (hfree : (captureOf s k).stage = 0) :
    ∃ c, freeCapture s (j % 4096) = some c ∧ c < 4096 ∧ (captureOf s c).stage = 0 := by
  have hmem : k ∈ (List.range 4096).map (fun i => (j % 4096 + i) % 4096) :=
    List.mem_map.mpr ⟨(k + 4096 - j % 4096) % 4096, List.mem_range.mpr (Nat.mod_lt _ (by decide)), by omega⟩
  unfold freeCapture
  generalize hl : (List.range 4096).map _ = l at hmem ⊢
  obtain ⟨c, hc⟩ := Option.isSome_iff_exists.mp
    (List.find?_isSome (p := fun c => (captureOf s c).stage == 0).mpr ⟨k, hmem, beq_iff_eq.mpr hfree⟩)
  obtain ⟨i, -, hi⟩ := List.mem_map.mp (hl ▸ List.mem_of_find?_eq_some hc)
  exact ⟨c, hc, by omega, by simpa using List.find?_some hc⟩

theorem assignBranch_sweep (owner c bin mcode peakAt : Nat) (s : State) :
    (assignBranch owner c bin mcode peakAt s).sweep = s.sweep := by
  unfold assignBranch
  dsimp only
  split
  · rfl
  · exact (cascadeSend_sent ..).sweep.trans rfl
theorem branchRequest_sweep (c : Nat) (d : Detection) (s : State) : (branchRequest c d s).sweep = s.sweep := by
  unfold branchRequest
  split
  · rfl
  · split
    · exact assignBranch_sweep ..
    · exact (cascadeSend_sent ..).sweep

/-- The capture granted to a request, and the record of its detection (06 R168 step 3). -/
def grantedCapture (c r at_ : Nat) (d : Detection) : Capture :=
  { stage := 1, grantAt := at_, rap := d.rap, det := some { d with capid := c, outcome := 1, round := r % 2 ^ 32 } }
theorem grantRequest_grants {k : Nat} (r : Nat) (hk : k < 4096) (hfree : (captureOf s k).stage = 0) (d : Detection) :
    ∃ c, c < 4096 ∧ (captureOf s c).stage = 0 ∧ captureOf (grantRequest d r s) c = grantedCapture c r s.time.airTime d
      ∧ (grantRequest d r s).sweep.requests = s.sweep.requests.filter (fun x => x.dseq ≠ d.dseq)
      ∧ (grantRequest d r s).sweep.lastRound = s.sweep.lastRound := by
  obtain ⟨c, hc, hlt, hstage⟩ := freeCapture_of_free (s := (drawFree s).2) (drawFree s).1 hk hfree
  refine ⟨c, hlt, hstage, ?_⟩
  unfold grantRequest
  dsimp only
  rw [hc]
  dsimp only
  rw [captureOf, branchRequest_sweep, frameBump_sweep]
  refine ⟨?_, rfl, rfl⟩
  show captureOf (setCapture (drawFree s).2 c (grantedCapture c r s.time.airTime d)) c = _
  exact captureOf_setCapture ..
theorem admissionRound_grants {k : Nat} (hstaged : s.rx.staged = []) (hlone : s.sweep.requests = [d])
    (hc : refusedAtOnce s d = none) (hrunning : runningCount s < min 4096 (effectiveCeiling s)) (hspan : spanFull s d = false)
    (hk : k < 4096) (hfree : (captureOf s k).stage = 0) : admissionRound r s = grantRequest d r (inRound r s) := by
  have hbell : applyBell 8 (inRound r s) = inRound r s := applyBell_of_none_staged 8 hstaged
  have hc : refusedAtOnce (inRound r s) d = none := hc
  have hcond : runningCount (inRound r s) < min 4096 (effectiveCeiling (inRound r s)) ∧ spanFull (inRound r s) d = false :=
    ⟨hrunning, hspan⟩
  obtain ⟨-, -, -, -, hgone, -⟩ := grantRequest_grants (s := inRound r s) r hk hfree d
  have hlone : (inRound r s).sweep.requests = [d] := hlone
  rw [hlone, requests_without] at hgone
  unfold admissionRound
  rw [← inRound, hbell]
  simp only [hlone, ranked_lone, List.foldl_cons, List.foldl_nil, hc, if_pos hcond]
  generalize grantRequest d r (inRound r s) = t at hgone ⊢
  simp [hgone, ranked]
end

/-- Settles O43: a raised detection by what `raiseDetection` appends, a round by the one request it has. -/
theorem detections : Obligations.Detections := by
  refine ⟨fun p beam bin peakAt n s h hfind hruns hdone hwindow hsup => ?_,
    fun r s d hvalid hle hstaged hlone => ⟨fun cause hc => ?_, fun k hc hrunning hspan hk hfree => ?_⟩⟩
  · have hkey := List.find?_some hfind
    simp only [Bool.and_eq_true, beq_iff_eq] at hkey
    obtain ⟨⟨⟨hp, hbeam⟩, hbin⟩, hpeak⟩ := hkey
    obtain ⟨d, hd⟩ := raiseDetection_raises h (advanceTo n s)
    rw [hp, hbeam, hbin, hpeak, advanceTo_sweep, streamOf_advanceTo] at hd
    exact ⟨_, d, detectionRaised_raises n hfind hruns hdone hwindow hsup, hd⟩
  · have hround : execAdmissionRound r s = .next (refuseRequest d cause r (inRound r (advanceTo (256 * r) s))) := by
      rw [execAdmissionRound, if_pos ⟨hvalid, hle⟩, admissionRound_refuses (by simpa) (by simpa)
        ((refusedAtOnce_advanceTo ..).trans hc)]
    refine ⟨_, hround, refuseRequest_requests cause (by simpa [inRound]), ?_⟩
    rw [refuseRequest_lastRound, refuseRequest_captures, refuseRequest_cRefuse, tabGet_bump_self, inRound, advanceTo_sweep]
    exact ⟨rfl, rfl, rfl⟩
  · have hfree' : (captureOf (advanceTo (256 * r) s) k).stage = 0 := by simpa
    have hround : execAdmissionRound r s = .next (grantRequest d r (inRound r (advanceTo (256 * r) s))) := by
      rw [execAdmissionRound, if_pos ⟨hvalid, hle⟩, admissionRound_grants (by simpa) (by simpa)
        ((refusedAtOnce_advanceTo ..).trans hc) (by rwa [runningCount_advanceTo, effectiveCeiling_advanceTo])
        ((spanFull_advanceTo ..).trans hspan) hk hfree']
    obtain ⟨c, hlt, hstage, hcapture, hgone, hlast⟩ :=
      grantRequest_grants (s := inRound r (advanceTo (256 * r) s)) r hk hfree' d
    refine ⟨_, c, hround, ?_, hlast, ?_, hlt, ?_⟩
    · rw [hgone, ← requests_without d, ← hlone]
      simp [inRound]
    · exact (congrArg Capture.stage (captureOf_advanceTo (s := s) (256 * r) c)).symm.trans hstage
    · rw [hcapture, show (inRound r (advanceTo (256 * r) s)).time.airTime = 256 * r from advanceTo_airTime_of_le hvalid hle]
      rfl

end Sys2Proof.Machine
end


section
/-! What the commands of a capture that is not yet closed do to it (06 R163 to R170; 07 R179 to R188): its weights and its ring are
tables filled from lists of keys and values, its frame is what `takeDecisions` makes of it, and the early look-up adds what it
found. -/

namespace Sys2Proof.Machine

/-! ### Tables and masks filled from lists -/

section
variable {α : Type} [DecidableEq α] (d : α)

/-- Keys and values are written one after another. -/
def tabFill (l : List (Nat × α)) (t : Tab α) : Tab α := l.foldl (fun t p => tabSet d t p.1 p.2) t

theorem tabGet_tabFill_of_not_mem {l : List (Nat × α)} {j : Nat} (h : ∀ v, (j, v) ∉ l) (t : Tab α) :
    tabGet d (tabFill d l t) j = tabGet d t j := by
  induction l generalizing t with
  | nil => rfl
  | cons p l ih =>
    have hne : j ≠ p.1 := fun e => h p.2 (by rw [e]; exact List.mem_cons_self)
    exact (ih (fun v hv => h v (List.mem_cons_of_mem _ hv)) _).trans (tabGet_set_other _ _ _ _ hne)
theorem tabGet_tabFill_of_mem {l : List (Nat × α)} (hl : (l.map Prod.fst).Nodup) {j : Nat} {v : α} (h : (j, v) ∈ l) (t : Tab α) :
    tabGet d (tabFill d l t) j = v := by
  induction l generalizing t with
  | nil => cases h
  | cons p l ih =>
    obtain ⟨hfresh, hl⟩ := List.nodup_cons.mp hl
    rcases List.mem_cons.mp h with rfl | h
    · have hlater : ∀ w, (j, w) ∉ l := fun w hw => hfresh (List.mem_map.mpr ⟨_, hw, rfl⟩)
      exact (tabGet_tabFill_of_not_mem d hlater _).trans (tabGet_set_self _ _ _ _)
    · exact ih hl h _
/-- The i-th of some keys reads the i-th value, the default where there are fewer values. -/
theorem tabGet_tabFill_zip {keys : List Nat} (hk : keys.Nodup) (vals : List α) {i j : Nat} (hi : keys[i]? = some j) :
    tabGet d (tabFill d (keys.zip vals) []) j = (vals[i]?).getD d := by
  cases hv : vals[i]? with
  | some v =>
    refine tabGet_tabFill_of_mem d ?_ (List.mem_of_getElem? (i := i) ?_) _
    · rw [List.zip_eq_zip_take_min, List.map_fst_zip (by simp)]
      exact hk.sublist (List.take_sublist _ _)
    · exact List.getElem?_zip_eq_some.mpr ⟨hi, hv⟩
  | none =>
    refine (tabGet_tabFill_of_not_mem d (fun v hmem => ?_) _).trans rfl
    obtain ⟨n, hn⟩ := List.mem_iff_getElem?.mp hmem
    obtain ⟨hkey, hval⟩ := List.getElem?_zip_eq_some.mp hn
    have hlt : i < keys.length := (List.getElem?_eq_some_iff.mp hi).1
    have hni : i = n := (List.getElem?_inj hlt hk).mp (hi.trans hkey.symm)
    rw [← hni, hv] at hval
    cases hval
theorem tabGet_tabFill_zip_other {keys : List Nat} (vals : List α) {j : Nat} (hj : j ∉ keys) :
    tabGet d (tabFill d (keys.zip vals) []) j = d :=
  tabGet_tabFill_of_not_mem d (fun _ hmem => hj (List.of_mem_zip hmem).1) _
end

/-- The mask of the numbers below n that are left out. -/
def maskWithout (p : Nat → Bool) (n : Nat) : Nat := (List.range n).foldl (fun m a => if p a then m else m + 2 ^ a) 0
theorem maskWithout_succ (p : Nat → Bool) (n : Nat) :
    maskWithout p (n + 1) = if p n then maskWithout p n else maskWithout p n + 2 ^ n := by
  simp [maskWithout, List.range_succ]
theorem maskWithout_lt (p : Nat → Bool) (n : Nat) : maskWithout p n < 2 ^ n := by
  induction n with
  | zero => exact Nat.one_pos
  | succ n ih =>
    rw [maskWithout_succ]
    split <;> omega
theorem testBit_maskWithout (p : Nat → Bool) (n a : Nat) : (maskWithout p n).testBit a = (decide (a < n) && !p a) := by
  induction n with
  | zero => simp [maskWithout]
  | succ n ih =>
    have hbit : (maskWithout p n + 2 ^ n).testBit a = (decide (n = a) || (maskWithout p n).testBit a) := by
      have hor := Nat.two_pow_add_eq_or_of_lt (maskWithout_lt p n) 1
      rw [Nat.mul_one] at hor
      rw [Nat.add_comm, hor, Nat.testBit_or, Nat.testBit_two_pow]
    have hlt : a < n + 1 ↔ n = a ∨ a < n := by omega
    rw [maskWithout_succ]
    by_cases hn : n = a
    · subst hn
      cases hp : p n <;> simp [hp, hbit, ih]
    · cases hp : p n <;> simp [hbit, ih, hlt, hn]

/-! ### Captures in a state that has moved on -/

section
variable {c : Nat} {s : State} {d : Detection}

theorem poisonWords_sweep (l : List (Nat × Nat × Nat)) (s : State) : (poisonWords l s).sweep = s.sweep :=
  List.foldlRecOn (motive := fun t : State => t.sweep = s.sweep) _ _ rfl fun _ ht _ _ => ht
theorem captureOf_poisonWords (l : List (Nat × Nat × Nat)) (s : State) (c : Nat) : captureOf (poisonWords l s) c = captureOf s c := by
  rw [captureOf, poisonWords_sweep, captureOf]
theorem captureOf_answering (st : Status) (s : State) (c : Nat) : captureOf (answering st s) c = captureOf s c := rfl

/-! ### Weights (06 R163 to R165) -/

theorem hasBranches_advanceTo (n : Nat) (s : State) (c : Nat) : hasBranches (advanceTo n s) c = hasBranches s c := by
  rw [hasBranches, advanceTo_stack, hasBranches]
theorem windowLost_advanceTo (n : Nat) (s : State) (d : Detection) : windowLost (advanceTo n s) d = windowLost s d := by
  rw [windowLost, sampleLost, advanceTo_rx, windowLost, sampleLost]
theorem windowReady_advanceTo (n : Nat) (s : State) (d : Detection) : windowReady (advanceTo n s) d = windowReady s d := by
  rw [windowReady, newestSample, advanceTo_rx, windowReady, newestSample]
theorem captureWeightsReady_eq {c : Fin 4096} (poison : List (Nat × Nat × Nat)) (branches : List (List Nat)) (n : Nat)
    (hdet : (captureOf s c).det = some d) (hstage : (captureOf s c).stage = 1) (hlost : windowLost s d = false)
    (hready : windowReady s d = true) : execCaptureWeightsReady c poison branches n s
      = .next (takeWeights c d (if hasBranches s c then branches else []) (poisonWords poison (advanceTo n s))) := by
  simp only [execCaptureWeightsReady, captureOf_advanceTo, hstage, hdet, windowLost_advanceTo, hlost, Bool.false_eq_true,
    if_false, windowReady_advanceTo, hready, if_true, hasBranches_advanceTo]
theorem includedAntennas_nodup (s : State) (d : Detection) : (includedAntennas s d).Nodup := List.nodup_range.filter _
theorem lt_of_includedAntenna {a : Nat} (h : a ∈ includedAntennas s d) : a < 192 := List.mem_range.mp (List.mem_of_mem_filter h)

/-- The branches that a capture combines. -/
def usedBranches (d : Detection) (branches : List (List Nat)) : List (List Nat) :=
  branches.filter (fun b => !tooFlagged d (branchStream b))
/-- The weights that a capture takes. -/
def takenWeights (s : State) (c : Nat) (d : Detection) (branches : List (List Nat)) : List Cx :=
  captureWeights s c d (includedAntennas s d) (usedBranches d branches)
theorem captureOf_takeWeights (c : Nat) (d : Detection) (branches : List (List Nat)) (s : State) :
    ∃ w, captureOf (takeWeights c d branches s) c = { captureOf s c with
      stage := 2, weights := tabFill (0, 0) ((includedAntennas s d).zip (takenWeights s c d branches)) [], branchW := w
      excluded := maskWithout (includedAntennas s d).contains 192, ant := (includedAntennas s d).length
      rap := (captureOf s c).rap || decide ((includedAntennas s d).length < 192), stacked := !(usedBranches d branches).isEmpty } := by
  unfold takeWeights
  dsimp only
  rw [captureOf_setCapture]
  exact ⟨_, rfl⟩
/-- An antenna that is included has the weight of its place; any other is excluded and has none. -/
theorem takeWeights_weights (c : Nat) (d : Detection) (branches : List (List Nat)) (s : State) :
    let u := takeWeights c d branches s
    (captureOf u c).stage = 2 ∧ (captureOf u c).ant = (includedAntennas s d).length
      ∧ (captureOf u c).stacked = !(usedBranches d branches).isEmpty
      ∧ (∀ i a : Nat, (includedAntennas s d)[i]? = some a → (captureOf u c).excluded.testBit a = false
          ∧ tabGet (0, 0) (captureOf u c).weights a = ((takenWeights s c d branches)[i]?).getD (0, 0))
      ∧ ∀ a, a < 192 → (includedAntennas s d).contains a = false → (captureOf u c).excluded.testBit a = true
          ∧ tabGet (0, 0) (captureOf u c).weights a = (0, 0) := by
  intro u
  obtain ⟨w, hu⟩ := captureOf_takeWeights c d branches s
  simp only [u, hu, testBit_maskWithout]
  refine ⟨trivial, trivial, trivial, fun i a hi => ⟨?_, tabGet_tabFill_zip _ (includedAntennas_nodup s d) _ hi⟩,
    fun a ha hout => ⟨?_, tabGet_tabFill_zip_other _ _ (by simpa using hout)⟩⟩
  · simp [List.mem_of_getElem? hi]
  · rw [hout]
    simp [ha]

/-! ### Blocks (06 R169, R170; 07 R179) -/

/-- The sixteen combined samples of a block. -/
def blockOf (s : State) (x : Capture) (d : Detection) (branches : List (List Nat)) : List (Nat × Bool) :=
  (List.range 16).map (combinedAt s x d branches)
theorem captureBlockComplete_eq {c : Fin 4096} (poison : List (Nat × Nat × Nat)) (branches : List (List Nat))
    (hdet : (captureOf s c).det = some d) (hstage : (captureOf s c).stage = 2)
    (hnew : firstSample d + (captureOf s c).samples + 15 ≤ newestSample s (2 ^ d.mcode))
    (hlost : sampleLost s d.mcode (windowStart d + (captureOf s c).samples * (256 / 2 ^ d.mcode)) = false)
    (hroom : (captureOf s c).blocks < (captureOf s c).released + 32) :
    execCaptureBlockComplete c poison branches s = .next (takeBlock c d branches (poisonWords poison s)) := by
  simp only [execCaptureBlockComplete, hstage, hdet, Nat.not_lt.mpr hnew, hlost, Bool.false_eq_true, if_false,
    Nat.not_le.mpr hroom]
/-- A ring with a block written from one place on: sample i of the block is at its place, modulo 512. -/
theorem tabGet_ring {l : List (Nat × Bool)} (hl : l.length = 16) (b : Nat) (t : Tab Nat) {i : Nat} {w : Nat × Bool}
    (hi : l[i]? = some w) : tabGet 0 ((l.zipIdx).foldl (fun t p => tabSet 0 t ((16 * b + p.2) % 512) p.1.1) t) ((16 * b + i) % 512)
      = w.1 := by
  have hfill : (l.zipIdx).foldl (fun t p => tabSet 0 t ((16 * b + p.2) % 512) p.1.1) t
      = tabFill 0 ((l.zipIdx).map (fun p => ((16 * b + p.2) % 512, p.1.1))) t := by
    rw [tabFill, List.foldl_map]
  have hkeys : ((l.zipIdx).map (fun p => ((16 * b + p.2) % 512, p.1.1))).map Prod.fst
      = (List.range 16).map (fun k => (16 * b + k) % 512) := by
    rw [← hl, List.range_eq_range', ← List.zipIdx_map_snd 0 l, List.map_map, List.map_map]
    rfl
  rw [hfill]
  have hmem : (w, i) ∈ l.zipIdx := List.mem_zipIdx_iff_getElem?.mpr hi
  refine tabGet_tabFill_of_mem 0 ?_ (List.mem_map_of_mem (f := fun p : (Nat × Bool) × Nat => ((16 * b + p.2) % 512, p.1.1)) hmem) t
  rw [hkeys]
  refine List.Nodup.map_on (fun x hx y hy hxy => ?_) List.nodup_range
  have hx := List.mem_range.mp hx
  have hy := List.mem_range.mp hy
  omega
theorem takeBlock_combines (c : Nat) (d : Detection) (branches : List (List Nat)) (s : State) :
    let x := captureOf s c
    let l := blockOf s x d branches
    let u := takeBlock c d branches s
    (captureOf u c).blocks = x.blocks + 1 ∧ (captureOf u c).samples = x.samples + 16
      ∧ (captureOf u c).rap = (x.rap || l.any (·.2))
      ∧ ∀ (i : Nat) (w : Nat × Bool), l[i]? = some w → tabGet 0 (captureOf u c).ring ((16 * x.blocks + i) % 512) = w.1 := by
  intro x l u
  have hcombined := combinedPart_raiseToken c 200 (0xF000 + c) (x.blocks % 32) (setCapture s c { x with
    ring := (l.zipIdx).foldl (fun t p => tabSet 0 t ((16 * x.blocks + p.2) % 512) p.1.1) x.ring
    blocks := x.blocks + 1, samples := x.samples + 16, rap := x.rap || l.any (·.2) })
  rw [combinedPart, combinedPart, captureOf_setCapture] at hcombined
  obtain ⟨hblocks, hsamples, hrap, hring⟩ := Combined.mk.inj hcombined
  refine ⟨hblocks, hsamples, hrap, fun i w hi => ?_⟩
  rw [show (captureOf u c).ring = _ from hring]
  exact tabGet_ring (by simp [l, blockOf]) _ _ hi

end

end Sys2Proof.Machine
end


section
/-! A capture whose weights are recomputed, whose decisions are taken in, and which is closed (06 R166, R168; 07 R181, R183, R188). -/

namespace Sys2Proof.Machine

section
variable {c : Fin 4096} {s : State} {d : Detection} (hdet : (captureOf s c).det = some d) (hstage : (captureOf s c).stage = 2)
include hdet hstage

/-! ### Recomputation (06 R166) -/

theorem weightRecompute_busy {q : Decided}
    (hsoon : (captureOf s c).lastRecompute.any (fun k => decide ((captureOf s c).samples < k + 256)) = true) :
    execWeightRecompute c q s = .next (answering .busy s) := by
  simp only [execWeightRecompute, hstage, hdet, hsoon, if_true]
/-- A window of no sample or of more than 1,024, or one that the capture has not combined or no longer holds. -/
def windowDenied (s : State) (x : Capture) (d : Detection) (n last : Nat) : Prop :=
  n = 0 ∨ 1024 < n ∨ x.samples ≤ last ∨ last + 1 < n
    ∨ sampleLost s d.mcode (windowStart d + (last + 1 - n) * (256 / 2 ^ d.mcode)) = true
theorem weightRecompute_range {q : Decided}
    (hsoon : ¬(captureOf s c).lastRecompute.any (fun k => decide ((captureOf s c).samples < k + 256)) = true)
    (hout : windowDenied s (captureOf s c) d q.symbols.length q.last) :
    execWeightRecompute c q s = .next (answering .range s) := by
  simp only [execWeightRecompute, hstage, hdet]
  rw [if_neg hsoon]
  exact if_pos hout
theorem weightRecompute_takes {q : Decided}
    (hsoon : ¬(captureOf s c).lastRecompute.any (fun k => decide ((captureOf s c).samples < k + 256)) = true)
    (hin : ¬windowDenied s (captureOf s c) d q.symbols.length q.last) : execWeightRecompute c q s
      = .next (answering .ok (setCapture s c
          (recomputed s (captureOf s c) d q.symbols (q.last + 1 - q.symbols.length) q.branches))) := by
  simp only [execWeightRecompute, hstage, hdet]
  rw [if_neg hsoon]
  exact if_neg hin
theorem weightRecompute_answers (symbols : List (Int × Int)) (last : Nat) (branches : List (List Nat)) :
    let x := captureOf s c
    let n := symbols.length
    let soon := x.lastRecompute.any (fun k => decide (x.samples < k + 256)) = true
    let out := n = 0 ∨ 1024 < n ∨ x.samples ≤ last ∨ last + 1 < n
      ∨ sampleLost s d.mcode (windowStart d + (last + 1 - n) * (256 / 2 ^ d.mcode)) = true
    ∃ u, execWeightRecompute c ⟨symbols, last, branches⟩ s = .next u
      ∧ u.answer.status = (if soon then .busy else if out then .range else .ok)
      ∧ captureOf u c = (if soon ∨ out then x else recomputed s x d symbols (last + 1 - n) branches)
      ∧ (¬soon → ¬out → (captureOf u c).refresh = min 255 (x.refresh + 1) ∧ (captureOf u c).lastRecompute = some x.samples) := by
  intro x n soon out
  by_cases hsoon : soon
  · refine ⟨_, weightRecompute_busy hdet hstage hsoon, ?_, ?_, fun hnot => absurd hsoon hnot⟩
    · rw [if_pos hsoon]
      rfl
    · rw [if_pos (Or.inl hsoon), captureOf_answering]
  · by_cases hout : out
    · refine ⟨_, weightRecompute_range hdet hstage hsoon hout, ?_, ?_, fun _ hnot => absurd hout hnot⟩
      · rw [if_neg hsoon, if_pos hout]
        rfl
      · rw [if_pos (Or.inr hout), captureOf_answering]
    · have hneither : ¬(soon ∨ out) := not_or.mpr ⟨hsoon, hout⟩
      refine ⟨_, weightRecompute_takes hdet hstage hsoon hout, ?_, ?_, fun _ _ => ?_⟩
      · rw [if_neg hsoon, if_neg hout]
        rfl
      · rw [if_neg hneither, captureOf_answering, captureOf_setCapture]
      · rw [captureOf_answering, captureOf_setCapture]
        exact ⟨rfl, rfl⟩
end

/-! ### Decisions and the early look-up (07 R181 to R188; 18 R458) -/

/-- Decisions leave the stage of a capture and the marks of its early look-up. -/
theorem takeDecisions_keeps (s : State) (x : Capture) (d : Detection) (q : Decisions) :
    (takeDecisions s x d q).stage = x.stage ∧ (takeDecisions s x d q).tagDone = x.tagDone := by
  unfold takeDecisions
  dsimp only
  split
  · split <;> exact ⟨rfl, rfl⟩
  · exact ⟨rfl, rfl⟩
  · exact ⟨rfl, rfl⟩

/-- Whether the early look-up of a capture is still to come and its TAG and FCNT are committed. -/
def earlyDue (s : State) (x : Capture) (d : Detection) : Bool :=
  !(x.tagDone || !x.frame.tagged || !vendorFormat s d.profile || !headerAccepted s d.profile x.frame)
/-- A capture after its early look-up: the slot of the tag with the identity found there, and whether the counter fails. -/
def lookedUp (s : State) (x : Capture) (d : Detection) : Capture :=
  if earlyDue s x d then { x with
    tagDone := true
    forwarded := (if (slotByTag s x.frame.tag).isNone then homeOf s x.frame.tag else none).isSome
    early := (slotByTag s x.frame.tag).map (fun i => (i, (entryOf s i).identity, replays s i d.dseq x.frame.fcnt)) } else x
theorem lookedUp_keeps (s : State) (x : Capture) (d : Detection) : (lookedUp s x d).stage = x.stage
    ∧ (lookedUp s x d).frame = x.frame ∧ (lookedUp s x d).soft = x.soft ∧ (lookedUp s x d).predicted = x.predicted
    ∧ (lookedUp s x d).search = x.search := by
  unfold lookedUp
  split <;> exact ⟨rfl, rfl, rfl, rfl, rfl⟩

/-- u differs from s at most in the lanes, what is sent, the captures and the detections that shadows wait for. -/
def earlyOnly (s u : State) : Prop :=
  u = { s with outbox := u.outbox, lane := u.lane, sweep := { s.sweep with captures := u.sweep.captures }
               roll := { s.roll with shadows := u.roll.shadows } }
theorem earlyOnly.entries {s u : State} (h : earlyOnly s u) : u.roll.entries = s.roll.entries := by rw [h]
theorem earlyOnly.closes {s u : State} (h : earlyOnly s u) (x : Capture) (d : Detection) : closes u x d = closes s x d := by
  rw [h]
  rfl
theorem earlyOnly.setCapture {s u : State} {c : Nat} {x : Capture} (h : earlyOnly (setCapture s c x) u) : earlyOnly s u := by
  unfold earlyOnly at *
  rw [h]
  rfl

section
variable (c : Nat) (d : Detection) (s : State)

theorem captureOf_of_sentOnly {s u : State} (h : sentOnly s u) (c : Nat) : captureOf u c = captureOf s c := by
  rw [captureOf, h.sweep, captureOf]
theorem earlyWork_of_due (h : earlyDue s (captureOf s c) d = true) :
    sentOnly (setCapture (uncoverElsewhere d.dseq (slotByTag s (captureOf s c).frame.tag) s) c (lookedUp s (captureOf s c) d))
      (earlyWork c d s) := by
  have hskip : ((captureOf s c).tagDone || !(captureOf s c).frame.tagged || !vendorFormat s d.profile
      || !headerAccepted s d.profile (captureOf s c).frame) = false := by
    simpa only [earlyDue, Bool.not_eq_true'] using h
  simp only [earlyWork, hskip, lookedUp, h, Bool.false_eq_true, if_false, if_true]
  generalize (if (slotByTag s (captureOf s c).frame.tag).isNone = true then homeOf s (captureOf s c).frame.tag else none) = away
  cases away with
  | none => rfl
  | some home => exact cascadeSend_sent ..
theorem earlyWork_of_not_due (h : earlyDue s (captureOf s c) d = false) : earlyWork c d s = s := by
  have hskip : ((captureOf s c).tagDone || !(captureOf s c).frame.tagged || !vendorFormat s d.profile
      || !headerAccepted s d.profile (captureOf s c).frame) = true := by
    simpa only [earlyDue, Bool.not_eq_false'] using h
  simp only [earlyWork, hskip, if_true]
theorem captureOf_earlyWork : captureOf (earlyWork c d s) c = lookedUp s (captureOf s c) d := by
  cases h : earlyDue s (captureOf s c) d with
  | true => rw [captureOf_of_sentOnly (earlyWork_of_due c d s h), captureOf_setCapture]
  | false => rw [earlyWork_of_not_due c d s h, lookedUp, h, if_neg Bool.false_ne_true]
/-- The early work changes nothing in the Roll but what shadows wait for (07 R188). -/
theorem earlyWork_early : earlyOnly s (earlyWork c d s) := by
  cases h : earlyDue s (captureOf s c) d with
  | true =>
    rw [earlyOnly, earlyWork_of_due c d s h]
    rfl
  | false =>
    rw [earlyWork_of_not_due c d s h]
    rfl
end

/-- The state in which a capture has taken in decisions and has been looked up. -/
def decided (c : Nat) (d : Detection) (q : Decisions) (s : State) : State :=
  earlyWork c d (setCapture s c (takeDecisions s (captureOf s c) d q))
theorem captureOf_decided (c : Nat) (d : Detection) (q : Decisions) (s : State) :
    captureOf (decided c d q s) c = lookedUp s (takeDecisions s (captureOf s c) d q) d := by
  rw [decided, captureOf_earlyWork, captureOf_setCapture]
  rfl
theorem decided_early (c : Nat) (d : Detection) (q : Decisions) (s : State) : earlyOnly s (decided c d q s) :=
  (earlyWork_early c d _).setCapture
theorem lookedUp_advanceTo (n : Nat) (s : State) (x : Capture) (d : Detection) :
    lookedUp (advanceTo n s) x d = lookedUp s x d := by
  rw [advanceTo_eq]
  rfl
/-- What is looked up of a capture whose TAG and FCNT are newly committed. -/
theorem lookedUp_of_tagged {s : State} {x : Capture} {d : Detection} (hdone : x.tagDone = false) (htag : x.frame.tagged = true)
    (hvendor : vendorFormat s d.profile = true) (hheader : headerAccepted s d.profile x.frame = true) :
    (lookedUp s x d).tagDone = true ∧ (lookedUp s x d).early
      = (slotByTag s x.frame.tag).map (fun i => (i, (entryOf s i).identity, replays s i d.dseq x.frame.fcnt)) := by
  have hdue : earlyDue s x d = true := by simp [earlyDue, hdone, htag, hvendor, hheader]
  rw [lookedUp, if_pos hdue]
  exact ⟨rfl, rfl⟩

/-! ### Close (07 R181, R183) -/

/-- A capture that enters CLOSING: its END_AT is the one predicted, or the value r where there is none. -/
def closedCapture (x : Capture) (abandoned : Bool) (r : Nat) : Capture :=
  { x with stage := 3, closed := !abandoned, forced := if abandoned then 5 else x.forced, endAt := x.predicted.getD r }
theorem captureOf_closeCapture (c : Nat) (abandoned : Bool) (s : State) :
    captureOf (closeCapture c abandoned s) c = closedCapture (captureOf s c) abandoned ((drawFree s).1 % 2 ^ 64) := by
  unfold closeCapture
  dsimp only
  split
  · rw [forwardPart, captureOf_of_sentOnly (cascadeSend_sent ..), captureOf_setCapture]
    rfl
  · rw [captureOf_setCapture]
    rfl
theorem closes_lookedUp (s : State) (x : Capture) (d : Detection) : closes s (lookedUp s x d) d = closes s x d := by
  unfold lookedUp
  split <;> rfl

theorem closes_advanceTo (n : Nat) (s : State) (x : Capture) (d : Detection) : closes (advanceTo n s) x d = closes s x d := by
  rw [advanceTo_eq]
  rfl

/-! ### The commands that bring decisions -/

section
variable {c : Fin 4096} {s : State} {d : Detection} (q : Decisions) (n : Nat) (hdet : (captureOf s c).det = some d)
  (hstage : (captureOf s c).stage = 2)
include hdet hstage

theorem tagAndFcntCommitted_eq : execTagAndFcntCommitted c q n s = .next (decided c d q (advanceTo n s)) := by
  simp only [execTagAndFcntCommitted, captureOf_advanceTo, hstage, hdet, decided]
theorem captureClose_eq (abandoned : Bool) : execCaptureClose c abandoned q n s = .next (
    if abandoned || closes (decided c d q (advanceTo n s)) (captureOf (decided c d q (advanceTo n s)) c) d
    then closeCapture c abandoned (decided c d q (advanceTo n s)) else decided c d q (advanceTo n s)) := by
  simp only [execCaptureClose, captureOf_advanceTo, hstage, hdet, decided]
omit hdet in
/-- The capture that has taken in decisions at an air time, looked up where that is due: it still combines. -/
theorem captureOf_decided_advanceTo :
    let y := takeDecisions (advanceTo n s) (captureOf s c) d q
    captureOf (decided c d q (advanceTo n s)) c = lookedUp s y d ∧ (lookedUp s y d).stage = 2 := by
  intro y
  obtain ⟨hstage', -⟩ := lookedUp_keeps s y d
  obtain ⟨hystage, -⟩ := takeDecisions_keeps (advanceTo n s) (captureOf s c) d q
  exact ⟨by rw [captureOf_decided, lookedUp_advanceTo, captureOf_advanceTo], hstage'.trans (hystage.trans hstage)⟩
theorem tagAndFcntCommitted_commits :
    let x := captureOf s c
    let y := takeDecisions (advanceTo n s) x d q
    ∃ u, execTagAndFcntCommitted c q n s = .next u ∧ u.roll.entries = s.roll.entries ∧ (captureOf u c).stage = 2
      ∧ (captureOf u c).frame = y.frame ∧ (captureOf u c).soft = y.soft ∧ (captureOf u c).predicted = y.predicted
      ∧ (x.tagDone = false → y.frame.tagged = true → vendorFormat s d.profile = true → headerAccepted s d.profile y.frame = true →
        (captureOf u c).tagDone = true ∧ (captureOf u c).early
          = (slotByTag s y.frame.tag).map (fun i => (i, (entryOf s i).identity, replays s i d.dseq y.frame.fcnt))) := by
  intro x y
  obtain ⟨hu, hcombines⟩ := captureOf_decided_advanceTo q n (d := d) hstage
  obtain ⟨-, hydone⟩ := takeDecisions_keeps (advanceTo n s) x d q
  obtain ⟨-, hframe, hsoft, hpredicted, -⟩ := lookedUp_keeps s y d
  refine ⟨_, tagAndFcntCommitted_eq q n hdet hstage, (decided_early ..).entries.trans (by rw [advanceTo_roll]), ?_⟩
  rw [hu]
  exact ⟨hcombines, hframe, hsoft, hpredicted, fun hdone => lookedUp_of_tagged (hydone.trans hdone)⟩
theorem captureClose_closes (abandoned : Bool) :
    let y := takeDecisions (advanceTo n s) (captureOf s c) d q
    ∃ u, execCaptureClose c abandoned q n s = .next u ∧ (captureOf u c).frame = y.frame
      ∧ (captureOf u c).stage = (if abandoned = true ∨ closes s y d = true then 3 else 2)
      ∧ (abandoned = true ∨ closes s y d = true → (captureOf u c).closed = !abandoned
        ∧ ∀ n, y.predicted = some n → (captureOf u c).endAt = n) := by
  intro y
  obtain ⟨hu, hcombines⟩ := captureOf_decided_advanceTo q n (d := d) hstage
  obtain ⟨-, hframe, -, hpredicted, -⟩ := lookedUp_keeps s y d
  have hcloses : closes (decided c d q (advanceTo n s)) (captureOf (decided c d q (advanceTo n s)) c) d = closes s y d := by
    rw [(decided_early ..).closes, closes_advanceTo, hu, closes_lookedUp]
  refine ⟨_, captureClose_eq q n hdet hstage abandoned, ?_⟩
  rw [hcloses]
  by_cases hend : abandoned = true ∨ closes s y d = true
  · rw [if_pos (by simpa using hend), if_pos hend, captureOf_closeCapture, hu]
    refine ⟨hframe, rfl, fun _ => ⟨rfl, fun m hm => ?_⟩⟩
    rw [closedCapture, hpredicted, hm, Option.getD_some]
  · rw [if_neg (by simpa using hend), if_neg hend, hu]
    exact ⟨hframe, hcombines, fun h => absurd h hend⟩
end

end Sys2Proof.Machine
end


section
/-! O44 (06 R162 to R171; 07 R179 to R199). A verdict is the last one its VI holds, under the VI's next VSEQ (`verdictHeld`): that is
followed through the unit of the verdicts, which the release of the capture and the downlink's answers leave alone. -/

namespace Sys2Proof.Machine

/-! ### The VI of an entry that a verdict commits (07 R190, R191; 01 R18) -/

theorem debit_vi (t : Term) (n : Nat) (p : Entry × Account) : (debit t n p).1.vi = p.1.vi := by
  unfold debit
  dsimp only
  split <;> rfl
theorem accrue_vi (rate cap dt : Nat) (p : Entry × Account) : (accrue rate cap dt p).1.vi = p.1.vi := by
  simp only [accrue]
theorem touchBase_vi (m : Model) (rate cap now : Nat) (p : Entry × Account) : (touchBase m rate cap now p).1.vi = p.1.vi := by
  simp only [touchBase, accrue_vi, debit_vi]
theorem touchedPair_vi (s : State) (slot : Nat) : (touchedPair s slot).1.vi = (entryOf s slot).vi := touchBase_vi _ _ _ _ _
theorem heardDebits_vi (s : State) (e : Entry) (id : Nat) (f : FrameInfo) (p : Entry × Account) :
    (heardDebits s e id f p).1.vi = p.1.vi := by
  unfold heardDebits
  dsimp only
  split
  · rw [debit_vi, debit_vi]
  · rw [debit_vi]
theorem commit_vi (cause : Nat) {slot : Nat} {p : Entry × Account} {s : State} (h : p.1.vi = (entryOf s slot).vi) (k : Nat) :
    (entryOf (commit cause slot p s) k).vi = (entryOf s k).vi := by
  rw [entryOf_commit]
  split
  case isTrue hk => exact hk ▸ h
  case isFalse => rfl
/-- A verdict moves no entry to another VI. -/
theorem applyVerdict_vi (j : Judged) (x : Capture) (d : Detection) (s : State) (k : Nat) :
    (entryOf (applyVerdict j x d s) k).vi = (entryOf s k).vi := by
  have hheard : ∀ slot, (heardDebits s (entryOf s slot) d.profile x.frame (touchedPair s slot)).1.vi = (entryOf s slot).vi :=
    fun slot => (heardDebits_vi ..).trans (touchedPair_vi ..)
  unfold applyVerdict
  split
  · rfl
  case h_2 slot _ =>
    dsimp only
    split
    case h_1 =>
      have hcommit : ∀ (b : Bool) (t : State) (vi : Nat), (entryOf (if b then monoBump vi 5 1 t else t) k).vi = (entryOf t k).vi :=
        fun b _ _ => by cases b <;> rfl
      refine (hcommit _ _ _).trans (commit_vi causeVerdict ?_ k)
      split <;> exact hheard slot
    case h_2 =>
      split
      · refine commit_vi causeVerdict (s := storeSignature slot x.weights s) ?_ k
        exact hheard slot
      · split
        · exact commit_vi causeVerdict (s := storeSignature slot x.weights s) rfl k
        · rfl
    case h_3 => rfl
theorem verdictVi_applyVerdict (j : Judged) (x : Capture) (d : Detection) (s : State) :
    verdictVi (applyVerdict j x d s) d j = verdictVi s d j := by
  unfold verdictVi
  split
  · rfl
  · rfl
  · exact applyVerdict_vi ..

/-! ### The unit of the verdicts (07 R189 to R199) -/

theorem verdict_commit (cause slot : Nat) (p : Entry × Account) (s : State) : (commit cause slot p s).verdict = s.verdict := rfl
theorem verdict_storeSignature (slot : Nat) (w : Tab (Int × Int)) (s : State) : (storeSignature slot w s).verdict = s.verdict := rfl
theorem verdict_monoBump (vi term n : Nat) (s : State) : (monoBump vi term n s).verdict = s.verdict := rfl
theorem verdict_applyVerdict (j : Judged) (x : Capture) (d : Detection) (s : State) :
    (applyVerdict j x d s).verdict = s.verdict := by
  unfold applyVerdict
  dsimp only
  split
  · rfl
  · split
    · simp only [apply_ite State.verdict, verdict_monoBump, verdict_commit, verdict_storeSignature, ite_self]
    · simp only [apply_ite State.verdict, verdict_commit, verdict_storeSignature, ite_self]
    · rfl
theorem verdict_recordEnd (j : Judged) (x : Capture) (d : Detection) (s : State) :
    (recordEnd j x d s).1.verdict = s.verdict := by
  unfold recordEnd
  split
  · rfl
  · split <;> rfl
theorem verdict_releaseLoop (d : Detection) (s : State) : (releaseLoop d s).verdict = s.verdict := rfl
theorem verdict_uncover (dseq : Nat) (s : State) : (uncover dseq s).verdict = s.verdict := rfl
theorem verdict_frameBump (key : Nat) (s : State) : (frameBump key s).verdict = s.verdict := rfl
theorem verdict_releaseCapture (c : Nat) (d : Detection) (cls : VClass) (s : State) :
    (releaseCapture c d cls s).verdict = s.verdict := by
  have h : (uncover d.dseq (releaseLoop d (raiseToken 201 (0xF000 + c) (vclassCode cls) s))).verdict = s.verdict := by
    rw [verdict_uncover, verdict_releaseLoop, (raiseToken_only _ _ _ _).verdict]
  unfold releaseCapture
  dsimp only
  generalize uncover d.dseq _ = t at h ⊢
  rw [setCapture_verdict, verdict_frameBump]
  exact h
theorem captureOf_releaseCapture (c : Nat) (d : Detection) (cls : VClass) (s : State) :
    captureOf (releaseCapture c d cls s) c = {} := captureOf_setCapture ..

/-- From v to w a verdict has joined those its VI holds: the last of them, by what was judged, under the VI's next VSEQ. -/
def verdictHeld (v w : VerdictUnit) (vi dseq : Nat) (j : Judged) : Prop :=
  ∃ h, (tabGet [] w.held vi).getLast? = some h ∧ h.record.cls = j.cls ∧ h.record.detail = j.detail ∧ h.record.dseq = dseq
    ∧ h.record.vseq = tabGet 1 v.nextVseq vi ∧ h.octets = (if delivers j then j.plain else [])
    ∧ tabGet 1 w.nextVseq vi = seqNext (tabGet 1 v.nextVseq vi)
theorem countVerdict_nextVseq (r : Verdict) (s : State) :
    tabGet 1 (countVerdict r s).verdict.nextVseq r.vi = seqNext r.vseq := tabGet_set_self _ _ _ _
theorem holdVerdict_nextVseq (vi : Nat) (h : Held) (s : State) :
    (holdVerdict vi h s).verdict.nextVseq = s.verdict.nextVseq := rfl
theorem holdVerdict_held (vi : Nat) (h : Held) (s : State) :
    (tabGet [] (holdVerdict vi h s).verdict.held vi).getLast? = some h := by
  unfold holdVerdict
  dsimp only
  rw [tabGet_set_self, List.getLast?_concat]
theorem issueVerdict_held (c : Nat) (x : Capture) (d : Detection) (j : Judged) (latency : Nat) (crowd : Bool) (s : State) :
    verdictHeld s.verdict (issueVerdict c x d j latency crowd s).verdict (verdictVi s d j) d.dseq j := by
  have hv : (recordEnd j x d (applyVerdict j x d s)).1.verdict = s.verdict :=
    (verdict_recordEnd ..).trans (verdict_applyVerdict ..)
  unfold issueVerdict
  dsimp only
  rw [verdictVi_applyVerdict]
  generalize recordEnd j x d (applyVerdict j x d s) = p at hv ⊢
  obtain ⟨t, endAt⟩ := p
  dsimp only at hv ⊢
  rw [hv]
  generalize hr : verdictRecord t c x d j (tabGet 1 s.verdict.nextVseq (verdictVi s d j)) (verdictVi s d j) endAt latency crowd = r
  generalize hh : holdVerdict (verdictVi s d j) { record := r, octets := if delivers j then j.plain else [] } (countVerdict r t) = u
  have hvi : r.vi = verdictVi s d j := by rw [← hr]; rfl
  have hheld : verdictHeld s.verdict u.verdict (verdictVi s d j) d.dseq j := by
    refine ⟨_, by rw [← hh]; exact holdVerdict_held .., ?_, ?_, ?_, ?_, rfl, ?_⟩
    · rw [← hr]; rfl
    · rw [← hr]; rfl
    · rw [← hr]; rfl
    · rw [← hr]; rfl
    · rw [← hh, holdVerdict_nextVseq, ← hvi, countVerdict_nextVseq, hvi, ← hr]
      rfl
  split
  · rwa [verdict_raiseReply]
  · split
    · rwa [verdict_raiseAck]
    · exact hheld
  · exact hheld

/-! ### Captures that end (06 R171; 07 R179, R199) -/

/-- What is judged of a capture that ends at once. -/
def incomplete (detail : Nat) : Judged := { cls := .incomplete, detail := detail }
/-- The capture c is FREE in u and the verdict on its detection is held. -/
def endedIn (s u : State) (c vi dseq : Nat) (j : Judged) : Prop :=
  captureOf u c = {} ∧ verdictHeld s.verdict u.verdict vi dseq j
theorem endedIn.of_nextVseq {s t u : State} {c vi dseq : Nat} {j : Judged} (h : endedIn t u c vi dseq j)
    (e : t.verdict.nextVseq = s.verdict.nextVseq) : endedIn s u c vi dseq j := by
  rwa [endedIn, verdictHeld, ← e]
theorem releaseCapture_ends (c : Nat) (x : Capture) (d : Detection) (j : Judged) (latency : Nat) (crowd : Bool) (s : State) :
    endedIn s (releaseCapture c d j.cls (issueVerdict c x d j latency crowd s)) c (verdictVi s d j) d.dseq j :=
  ⟨captureOf_releaseCapture .., by rw [verdict_releaseCapture]; exact issueVerdict_held ..⟩
theorem endCapture_ends {c : Nat} {s : State} {d : Detection} (detail : Nat) (hdet : (captureOf s c).det = some d)
    (hstage : (captureOf s c).stage ≠ 0) : endedIn s (endCapture c detail s) c d.vi d.dseq (incomplete detail) := by
  unfold endCapture
  dsimp only
  split
  case h_1 h0 => exact absurd h0 hstage
  case h_2 hnone _ => cases hdet.symm.trans hnone
  case h_3 e he _ =>
    cases hdet.symm.trans he
    have hdrawn : (drawFree s).2.verdict.nextVseq = s.verdict.nextVseq := rfl
    exact (releaseCapture_ends c _ d (incomplete detail) _ false (drawFree s).2).of_nextVseq hdrawn

section
variable {c : Fin 4096} {s : State} {d : Detection} (hdet : (captureOf s c).det = some d)
include hdet

theorem captureRingOverrun_ends (hstage : (captureOf s c).stage = 2)
    (hfull : (captureOf s c).released + 32 ≤ (captureOf s c).blocks) :
    ∃ u, execCaptureRingOverrun c s = .next u ∧ endedIn s u c d.vi d.dseq (incomplete 4) := by
  refine ⟨overrun c s, if_pos ⟨hstage, hfull⟩, ?_⟩
  have hne : (captureOf s c).stage ≠ 0 := by omega
  have hcounted : ∀ v : VerdictUnit, v.nextVseq = s.verdict.nextVseq →
      endedIn s (endCapture c 4 { s with verdict := v }) c d.vi d.dseq (incomplete 4) :=
    fun v hv => (endCapture_ends (s := { s with verdict := v }) 4 hdet hne).of_nextVseq hv
  exact hcounted _ rfl
theorem lifeLimit_ends {n : Nat} (hstage : (captureOf s c).stage = 1 ∨ (captureOf s c).stage = 2)
    (hpred : (captureOf s c).predicted = none) (hvalid : s.time.valid = true) (hle : s.time.airTime ≤ n)
    (hlimit : d.peakAt + lifeLimit s d ≤ n) :
    ∃ u, execLifeLimit c n s = .next u ∧ endedIn s u c d.vi d.dseq (incomplete 1) := by
  have hlife : lifeLimit (advanceTo n s) d = lifeLimit s d := by
    rw [lifeLimit, setting, advanceTo_settings]
    rfl
  have hcond : ((captureOf s c).stage = 1 ∨ (captureOf s c).stage = 2) ∧ (captureOf s c).predicted = none
      ∧ d.peakAt + lifeLimit (advanceTo n s) d ≤ (advanceTo n s).time.airTime :=
    ⟨hstage, hpred, by rw [hlife, advanceTo_airTime_of_le hvalid hle]; exact hlimit⟩
  have hne : (captureOf s c).stage ≠ 0 := by omega
  refine ⟨_, by simp only [execLifeLimit, captureOf_advanceTo, hdet]; exact if_pos hcond, ?_⟩
  refine (endCapture_ends 1 ?_ ?_).of_nextVseq (congrArg VerdictUnit.nextVseq (advanceTo_verdict (s := s) n))
  · exact (congrArg Capture.det (captureOf_advanceTo (s := s) n c)).trans hdet
  · exact fun h => hne ((congrArg Capture.stage (captureOf_advanceTo (s := s) n c)).symm.trans h)
theorem historyOverwritten_ends_waiting (hstage : (captureOf s c).stage = 1) (hlost : windowLost s d = true) :
    ∃ u, execHistoryOverwritten false c s = .next u ∧ endedIn s u c d.vi d.dseq (incomplete 3) := by
  refine ⟨_, ?_, endCapture_ends 3 hdet (by omega)⟩
  simp only [execHistoryOverwritten, Bool.false_eq_true, if_false, hstage, hdet, hlost, if_true]
theorem historyOverwritten_ends_combining (hstage : (captureOf s c).stage = 2)
    (hlost : sampleLost s d.mcode (windowStart d + (captureOf s c).samples * (256 / 2 ^ d.mcode)) = true) :
    ∃ u, execHistoryOverwritten false c s = .next u ∧ endedIn s u c d.vi d.dseq (incomplete 3) := by
  refine ⟨_, ?_, endCapture_ends 3 hdet (by omega)⟩
  simp only [execHistoryOverwritten, Bool.false_eq_true, if_false, hstage, hdet, hlost, if_true]
/-- A closed capture whose verdict is its own, and the earliest of its entry, has it. -/
theorem verdictIssued_ends (latency : Nat) (crowd : Bool) (hstage : (captureOf s c).stage = 3)
    (hown : (captureOf s c).forwarded = false ∨ (captureOf s c).forced ≠ 0) (hfirst : comesAfter s c (captureOf s c) d = false) :
    ∃ u, execVerdictIssued c latency crowd s = .next u
      ∧ endedIn s u c (verdictVi s d (judge s (captureOf s c) d)) d.dseq (judge s (captureOf s c) d) := by
  have hgo : ((captureOf s c).forwarded && (captureOf s c).forced == 0) = false := by
    rcases hown with h | h <;> simp [h]
  refine ⟨settle (releaseCapture c d (judge s (captureOf s c) d).cls
    (issueVerdict c (captureOf s c) d (judge s (captureOf s c) d) latency crowd s)), ?_, ?_⟩
  · simp only [execVerdictIssued, hstage, hdet, hgo, hfirst, Bool.or_self, Bool.false_eq_true, if_false]
  obtain ⟨hfree, hheld⟩ := releaseCapture_ends c (captureOf s c) d (judge s (captureOf s c) d) latency crowd s
  refine ⟨?_, ?_⟩
  · rw [captureOf, (settle_settled _).sweep]
    exact hfree
  · rw [(settle_settled _).verdict]
    exact hheld
end
theorem historyOverwritten_refuses {n : Nat} {s : State} {d : Detection}
    (hfind : s.sweep.requests.find? (fun d => d.dseq == n) = some d) (hlost : windowLost s d = true) :
    ∃ u, execHistoryOverwritten true n s = .next u
      ∧ u.sweep.requests = s.sweep.requests.filter (fun x => x.dseq ≠ d.dseq) := by
  refine ⟨refuseRequest d .history (roundAt s) s, ?_, rfl⟩
  simp only [execHistoryOverwritten, if_true, hfind, hlost]

/-- A capture that ends at once, as the statement says it. -/
theorem incomplete_of_endedIn {s : State} {c vi dseq detail : Nat} {o : Out}
    (h : ∃ u, o = .next u ∧ endedIn s u c vi dseq (incomplete detail)) : ∃ u h, o = .next u ∧ captureOf u c = {}
      ∧ (tabGet [] u.verdict.held vi).getLast? = some h ∧ h.record.cls = .incomplete ∧ h.record.detail = detail
      ∧ h.record.dseq = dseq ∧ h.record.vseq = tabGet 1 s.verdict.nextVseq vi
      ∧ tabGet 1 u.verdict.nextVseq vi = seqNext (tabGet 1 s.verdict.nextVseq vi) := by
  obtain ⟨u, hu, hfree, h, hlast, hcls, hdetail, hdseq, hvseq, -, hnext⟩ := h
  exact ⟨u, h, hu, hfree, hlast, hcls, hdetail, hdseq, hvseq, hnext⟩

/-- Settles O44: each command by the equation that gives its next state, and that state by what it leaves of the capture and
among the verdicts. -/
theorem captures : Obligations.Captures := by
  refine ⟨fun c s d => ?_, fun c s d hdet => ?_, fun _ _ _ => historyOverwritten_refuses⟩
  · intro x hdet
    refine ⟨fun poison branches n hstage hlost hready => ?_, fun poison branches hstage hnew hlost hroom => ?_,
      fun symbols last branches hstage => weightRecompute_answers hdet hstage symbols last branches,
      fun q n hstage => tagAndFcntCommitted_commits q n hdet hstage,
      fun abandoned q n hstage => captureClose_closes q n hdet hstage abandoned⟩
    · exact ⟨_, captureWeightsReady_eq poison branches n hdet hstage hlost hready, takeWeights_weights ..⟩
    · have hblock := takeBlock_combines c d branches (poisonWords poison s)
      rw [captureOf_poisonWords] at hblock
      exact ⟨_, captureBlockComplete_eq poison branches hdet hstage hnew hlost hroom, hblock⟩
  · refine ⟨fun hstage hfull => incomplete_of_endedIn (captureRingOverrun_ends hdet hstage hfull),
      fun n hstage hpred hvalid hle hlimit => incomplete_of_endedIn (lifeLimit_ends hdet hstage hpred hvalid hle hlimit),
      fun hstage hlost => incomplete_of_endedIn (historyOverwritten_ends_waiting hdet hstage hlost),
      fun hstage hlost => incomplete_of_endedIn (historyOverwritten_ends_combining hdet hstage hlost),
      fun latency crowd hstage hown hfirst => ?_⟩
    obtain ⟨u, hu, hfree, h, hheld⟩ := verdictIssued_ends hdet latency crowd hstage hown hfirst
    exact ⟨u, h, hu, hfree, hheld⟩

end Sys2Proof.Machine
end

section
/-! O45 (07 R196, R200; 16 R413, R427). A batch of one verdict is followed through `sendBatch`: no notice leaves before it, the
notification is the one message sent, and the verdict then stands marked as sent with the cursor past it. A collector written
starts at the oldest verdict held, and what the release of acknowledged verdicts moves is not the cursors. -/

namespace Sys2Proof.Machine

open Sys2Proof.Safety

/-! ### Cursors and counters (07 R200; 16 R415) -/

theorem cursorOf_setCursor (vi c v : Nat) (s : State) : cursorOf (setCursor vi c v s) vi c = v := tabGet_set_self _ _ _ _
theorem heldOf_setCursor (vi c v k : Nat) (s : State) : heldOf (setCursor vi c v s) k = heldOf s k := rfl
theorem txCntOf_countSent (vi : Nat) (s : State) : txCntOf (countSent s vi) vi = txCntOf s vi + 1 := by
  simp [txCntOf, countSent]

/-! ### A batch of one verdict (07 R196, R200; 16 R413, R427) -/

theorem sendNotices_none (vi : Nat) (s : State) (h : s.verdict.notices = []) : sendNotices vi s = s := by
  unfold sendNotices
  simp only [h, List.filter_nil, List.foldl_nil]
  rw [← h]
theorem batchOf_lone (h : Held) : batchOf 21 1372 [h] = [h] := by simp [batchOf]

section
variable {vi c l : Nat} {s : State} {h : Held}

theorem notifyOne_sends (type : Nat) (body : List Nat) (mk : Nat → List Nat → Emission)
    (hlane : notifyLane s (collector s vi c / 65536) = some l) (hcnt : txCntOf s vi < txLimit) :
    notifyOne s vi c type body mk
      = emit (mk l (molfenMsg (managementKey s vi) type vi (txCntOf s vi + 1) body)) (countSent s vi) := by
  simp only [notifyOne, hlane, if_pos hcnt]
theorem sendBatch_lone (hcan : canNotify s vi c = true) (hnotices : s.verdict.notices = []) (hheld : heldOf s vi = [h])
    (hlane : notifyLane s (collector s vi c / 65536) = some l) (hcursor : cursorOf s vi c = h.record.vseq) :
    sendBatch vi c s = setCursor vi c 0 (setHeld vi [{ h with sent := true }]
      (emit (.verdicts vi c l h.record.vseq 1
        (molfenMsg (managementKey s vi) 0x10 vi (txCntOf s vi + 1) (verdictsBody h.record.vseq [h]))) (countSent s vi))) := by
  have hcnt : txCntOf s vi < txLimit := by
    simp only [canNotify, Bool.and_eq_true, decide_eq_true_eq] at hcan
    exact hcan.2
  have hrest : heldFrom [h] h.record.vseq = [h] := by simp [heldFrom]
  have hkept : ∀ e, heldOf (emit e (countSent s vi)) vi = [h] := fun _ => hheld
  simp only [sendBatch, if_pos hcan, sendNotices_none vi s hnotices, hheld, hcursor, hrest, batchOf_lone, List.head?_cons,
    notifyOne_sends _ _ _ hlane hcnt, hkept]
  simp
/-- A verdict sent and not acknowledged is where delivery starts again. -/
theorem rewind_lone (hheld : heldOf s vi = [h]) (hsent : h.sent = true)
    (hacked : tabGet 0 s.verdict.acked (4 * vi + c) ≠ h.record.vseq) : rewind vi c s = setCursor vi c h.record.vseq s := by
  have hnone : ackedCount s vi c = 0 := by simp [ackedCount, placeIn, hheld, hacked.symm]
  simp [rewind, hnone, hheld, hsent]

/-! ### What the release of acknowledged verdicts leaves (07 R200; 03 R72) -/

theorem releaseAcked_settings (vi : Nat) (s : State) : (releaseAcked vi s).settings = s.settings := by
  unfold releaseAcked
  split <;> rfl
theorem releaseAcked_acked (vi : Nat) (s : State) : (releaseAcked vi s).verdict.acked = s.verdict.acked := by
  unfold releaseAcked
  split <;> rfl
theorem cursorOf_releaseAcked (vi c : Nat) (s : State) : cursorOf (releaseAcked vi s) vi c = cursorOf s vi c := by
  unfold releaseAcked
  split <;> rfl
theorem collector_of_settings {s u : State} (h : u.settings = s.settings) (vi c : Nat) : collector u vi c = collector s vi c := by
  simp only [collector, settingVi, h]

/-! ### A new collector (07 R200) -/

theorem writeCollector_starts {v : Nat} (hnew : collector s vi c ≠ v) :
    ∃ u, writeCollector vi c v s = (u, .ok) ∧ collector u vi c = v
      ∧ cursorOf u vi c = if v = 0 then 0 else ((heldOf s vi).head?).elim 0 (fun h => h.record.vseq) := by
  refine ⟨_, by rw [writeCollector, if_neg hnew], ?_, ?_⟩
  · rw [collector_of_settings (releaseAcked_settings ..)]
    exact tabGet_set_self _ _ _ _
  · rw [cursorOf_releaseAcked, cursorOf_setCursor]
    rfl
end

/-- Settles O45: both sendings by the batch of one verdict, the second after the cursor has gone back to it. -/
theorem verdictDelivery : Obligations.VerdictDelivery := by
  refine ⟨fun vi c s h l hcan hnotices hheld hlane => ⟨fun hcursor => ?_, fun hsent hacked => ?_⟩,
    fun vi c v s hw hnew => ?_⟩
  · refine ⟨_, rfl, ?_⟩
    rw [sendBatch_lone hcan hnotices hheld hlane hcursor]
    exact ⟨rfl, (heldOf_setCursor ..).trans (heldOf_setHeld ..), cursorOf_setCursor .., txCntOf_countSent vi s⟩
  · refine ⟨_, rfl, ?_⟩
    rw [rewind_lone hheld hsent hacked]
    rw [sendBatch_lone (s := setCursor vi c h.record.vseq s) hcan hnotices hheld hlane (cursorOf_setCursor ..)]
    rfl
  · obtain ⟨u, hu, hcollector, hcursor⟩ := writeCollector_starts hnew
    exact ⟨answering .ok u, answered_of_writable hw hu, rfl, hcollector, hcursor⟩

end Sys2Proof.Machine
end

section
/-! The second half of O54 (07 R200; 16 R427). What one collector takes of an acknowledgement (`ackCollector`) is its own VSEQ and
cursor: the verdicts held stand until `releaseAcked` lets go of those that every collector has acknowledged. -/

namespace Sys2Proof.Machine

/-! ### One collector of an acknowledgement (07 R200) -/

/-- What an acknowledgement of the verdict at place i, with `rest` behind it, does to one collector. -/
def ackCollector (vi i vseq : Nat) (rest : List Held) (t : State) (c : Nat) : State :=
  if ackedCount t vi c ≤ i then
    let t := { t with verdict := { t.verdict with acked := tabSet 0 t.verdict.acked (4 * vi + c) vseq } }
    if (placeIn rest (cursorOf t vi c)).isSome ∨ cursorOf t vi c = 0 then t
    else setCursor vi c ((rest.head?).elim 0 (fun x => x.record.vseq)) t
  else t

section
variable (vi i vseq : Nat) (rest : List Held)

theorem ackCollector_only (t : State) (c : Nat) : ∃ cursors, ackCollector vi i vseq rest t c = { t with verdict := { t.verdict with
    acked := if ackedCount t vi c ≤ i then tabSet 0 t.verdict.acked (4 * vi + c) vseq else t.verdict.acked
    cursor := cursors } } := by
  unfold ackCollector
  dsimp only
  split
  · split <;> exact ⟨_, rfl⟩
  · exact ⟨_, rfl⟩
end
section
variable {vi i vseq : Nat} {rest : List Held}

theorem heldOf_ackCollector (t : State) (c k : Nat) : heldOf (ackCollector vi i vseq rest t c) k = heldOf t k := by
  obtain ⟨_, h⟩ := ackCollector_only vi i vseq rest t c
  rw [h]
  rfl
theorem ackCollector_settings (t : State) (c : Nat) : (ackCollector vi i vseq rest t c).settings = t.settings := by
  obtain ⟨_, h⟩ := ackCollector_only vi i vseq rest t c
  rw [h]
theorem ackCollector_acked (t : State) (c : Nat) : (ackCollector vi i vseq rest t c).verdict.acked
    = if ackedCount t vi c ≤ i then tabSet 0 t.verdict.acked (4 * vi + c) vseq else t.verdict.acked := by
  obtain ⟨_, h⟩ := ackCollector_only vi i vseq rest t c
  rw [h]
theorem tabGet_ackCollector_other (t : State) {c k : Nat} (h : k ≠ 4 * vi + c) :
    tabGet 0 (ackCollector vi i vseq rest t c).verdict.acked k = tabGet 0 t.verdict.acked k := by
  rw [ackCollector_acked]
  split
  · exact tabGet_set_other _ _ _ _ h
  · rfl
theorem tabGet_ackCollector_self {t : State} {c : Nat} (h : ackedCount t vi c ≤ i) :
    tabGet 0 (ackCollector vi i vseq rest t c).verdict.acked (4 * vi + c) = vseq := by
  rw [ackCollector_acked, if_pos h]
  exact tabGet_set_self _ _ _ _
theorem tabGet_ackCollector_keeps {t : State} {k : Nat} (c : Nat) (h : tabGet 0 t.verdict.acked k = vseq) :
    tabGet 0 (ackCollector vi i vseq rest t c).verdict.acked k = vseq := by
  by_cases hk : k = 4 * vi + c
  · rw [ackCollector_acked]
    split
    · rw [hk]
      exact tabGet_set_self _ _ _ _
    · exact h
  · rwa [tabGet_ackCollector_other t hk]

/-! ### Every collector at the address -/

theorem heldOf_ackCollectors (l : List Nat) (t : State) (k : Nat) :
    heldOf (l.foldl (ackCollector vi i vseq rest) t) k = heldOf t k :=
  foldl_view (heldOf · k) (fun t c => heldOf_ackCollector t c k) l t
theorem ackCollectors_settings (l : List Nat) (t : State) : (l.foldl (ackCollector vi i vseq rest) t).settings = t.settings :=
  foldl_view State.settings ackCollector_settings l t
theorem tabGet_ackCollectors_keeps (l : List Nat) {t : State} {k : Nat} (h : tabGet 0 t.verdict.acked k = vseq) :
    tabGet 0 (l.foldl (ackCollector vi i vseq rest) t).verdict.acked k = vseq := by
  induction l generalizing t with
  | nil => exact h
  | cons c l ih => exact ih (tabGet_ackCollector_keeps c h)
theorem ackedCount_ackCollector_other (t : State) {c b : Nat} (h : c ≠ b) :
    ackedCount (ackCollector vi i vseq rest t b) vi c = ackedCount t vi c := by
  rw [ackedCount, heldOf_ackCollector, tabGet_ackCollector_other t (by omega)]
  rfl
/-- A collector among them that had not acknowledged the verdict at place i has now acknowledged it. -/
theorem tabGet_ackCollectors_of_mem {l : List Nat} {t : State} {c : Nat} (hc : c ∈ l) (h : ackedCount t vi c ≤ i) :
    tabGet 0 (l.foldl (ackCollector vi i vseq rest) t).verdict.acked (4 * vi + c) = vseq := by
  induction l generalizing t with
  | nil => cases hc
  | cons b l ih =>
    by_cases hb : c = b
    · subst hb
      exact tabGet_ackCollectors_keeps l (tabGet_ackCollector_self h)
    · exact ih ((List.mem_cons.mp hc).resolve_left hb) ((ackedCount_ackCollector_other t hb).trans_le h)
end

/-! ### The verdicts that leave the ring (07 R200) -/

theorem heldOf_releaseAcked_only {vi c n : Nat} {s : State} (honly : collectors s vi = [c]) (hn : ackedCount s vi c = n)
    (hle : n ≤ (heldOf s vi).length) : heldOf (releaseAcked vi s) vi = (heldOf s vi).drop n := by
  simp only [releaseAcked, honly, List.foldl_cons, List.foldl_nil, hn, heldOf_setHeld, Nat.min_eq_right hle]
theorem collectors_of_settings {s u : State} (h : u.settings = s.settings) (vi : Nat) : collectors u vi = collectors s vi := by
  simp only [collectors, collector_of_settings h]

/-! ### An acknowledgement (07 R200) -/

section
variable {vi addr vseq i c : Nat} {s : State}

theorem takeVack_takes (hc : c ∈ collectors s vi) (haddr : collector s vi c = addr) (hplace : placeIn (heldOf s vi) vseq = some i) :
    takeVack vi addr vseq s = releaseAcked vi (((collectors s vi).filter (fun c => collector s vi c == addr)).foldl
      (ackCollector vi i vseq ((heldOf s vi).drop (i + 1))) s) := by
  have hmem : c ∈ (collectors s vi).filter (fun c => collector s vi c == addr) := List.mem_filter.mpr ⟨hc, by simpa⟩
  have hne : ((collectors s vi).filter (fun c => collector s vi c == addr)).isEmpty = false :=
    List.isEmpty_eq_false_iff_exists_mem.mpr ⟨c, hmem⟩
  simp only [takeVack, hplace, hne]
  rfl
theorem takeVack_acked (hc : c ∈ collectors s vi) (haddr : collector s vi c = addr)
    (hplace : placeIn (heldOf s vi) vseq = some i) (hnew : ackedCount s vi c ≤ i) :
    tabGet 0 (takeVack vi addr vseq s).verdict.acked (4 * vi + c) = vseq := by
  rw [takeVack_takes hc haddr hplace, releaseAcked_acked]
  exact tabGet_ackCollectors_of_mem (List.mem_filter.mpr ⟨hc, by simpa⟩) hnew
/-- The only collector's acknowledgement lets go of the verdicts up to its VSEQ. -/
theorem heldOf_takeVack_only (honly : collectors s vi = [c]) (haddr : collector s vi c = addr)
    (hplace : placeIn (heldOf s vi) vseq = some i) (hnew : ackedCount s vi c ≤ i) :
    heldOf (takeVack vi addr vseq s) vi = (heldOf s vi).drop (i + 1) := by
  have hc : c ∈ collectors s vi := by simp [honly]
  have hlt : i < (heldOf s vi).length := (List.findIdx?_eq_some_iff_findIdx_eq.mp hplace).1
  have hacked := takeVack_acked hc haddr hplace hnew
  rw [takeVack_takes hc haddr hplace, releaseAcked_acked] at hacked
  rw [takeVack_takes hc haddr hplace, heldOf_releaseAcked_only (c := c) (n := i + 1), heldOf_ackCollectors]
  · rw [collectors_of_settings (ackCollectors_settings ..), honly]
  · rw [ackedCount, hacked, heldOf_ackCollectors, hplace]
  · rw [heldOf_ackCollectors]
    exact hlt
/-- An acknowledgement is ignored and counted. -/
def vackIgnored (vi : Nat) (s : State) : State :=
  { s with molfen := { s.molfen with vackIgnored := bump s.molfen.vackIgnored vi } }
theorem takeVack_ignored (h : (∀ c ∈ collectors s vi, collector s vi c ≠ addr) ∨ placeIn (heldOf s vi) vseq = none) :
    takeVack vi addr vseq s = vackIgnored vi s := by
  unfold takeVack
  dsimp only
  split
  · rfl
  case h_2 j hj =>
    have hnone : ∀ c ∈ collectors s vi, collector s vi c ≠ addr := h.resolve_right (by simp [hj])
    have hempty : ((collectors s vi).filter (fun c => collector s vi c == addr)) = [] := by simpa using hnone
    rw [hempty]
    rfl
theorem officeVack_takes {d : Datagram} {m : Msg} (hport : d.port ≠ 2) (hlen : m.body.length = 4) :
    officeVack d m s = takeVack m.vi d.src (fromBE m.body) s := by
  rw [officeVack, if_neg (by simp [hport, hlen])]
theorem officeVack_ignored {d : Datagram} {m : Msg} (h : d.port = 2 ∨ m.body.length ≠ 4
    ∨ (∀ c ∈ collectors s m.vi, collector s m.vi c ≠ d.src) ∨ placeIn (heldOf s m.vi) (fromBE m.body) = none) :
    officeVack d m s = vackIgnored m.vi s := by
  by_cases hform : d.port = 2 ∨ m.body.length ≠ 4
  · rw [officeVack, if_pos hform]
    rfl
  · rw [officeVack, if_neg hform]
    exact takeVack_ignored (by tauto)
end

end Sys2Proof.Machine
end

section
/-! O54 (16 R414, R415, R417 to R421, R434; 07 R200). A message that the Office takes is one `Served` for each of the cases of
`serveItems`; what its reply then leaves is said once, in `finishServe_replies`. -/

namespace Sys2Proof.Machine

/-! ### Messages that the Office takes (16 R414, R421, R434) -/

section
variable {d : Datagram} {m : Msg} {s : State}

theorem takeMessage_office (aid : Aid) (cut : Option Nat) (hm : readMsg d.octets = some m) (hemerg : emergencyOf d m = none)
    (hport : officePort s d.port = true) (hacc : acceptable s d m = true) :
    takeMessage aid d cut s = officeTake aid d m cut s := by
  simp [takeMessage, hm, hemerg, hport, hacc]
/-- An acknowledgement names no emergency object. -/
theorem emergencyOf_vack (h : m.type = 0x12) : emergencyOf d m = none := by
  unfold emergencyOf
  split
  · exact if_neg (by simp [h])
  · rfl

section
variable {token : Nat} {l : List Item} (htype : m.type = 0x01) (hbody : readBody m.body = some (token, l))
include htype hbody

theorem officeTake_waits (aid : Aid) (cut : Option Nat) (hroom : (ofVi s m.vi (aheadOf d s.molfen.inbox)).length < 16)
    (hwait : mustWait s d m = true) : officeTake aid d m cut s = keepWaiting d s := by
  simp [officeTake, htype, hbody, hwait, Nat.not_le.mpr hroom]
theorem officeTake_busy (aid : Aid) (cut : Option Nat) (hfull : 16 ≤ (ofVi s m.vi (aheadOf d s.molfen.inbox)).length) :
    officeTake aid d m cut s = finishServe aid d m.vi token { s := takeCnt m.vi m.cnt (leaveInbox d s), gst := 2, tseq := noTseq,
                                                              out := l.map (fun _ => (.busy, 0, 0)) } := by
  simp [officeTake, htype, hbody, hfull]
theorem officeTake_serves (aid : Aid) (cut : Option Nat) (hroom : (ofVi s m.vi (aheadOf d s.molfen.inbox)).length < 16)
    (hwait : mustWait s d m = false) : officeTake aid d m cut s = finishServe aid d m.vi token
      (serveItems aid false m.vi m.cnt token l cut (takeCnt m.vi m.cnt (leaveInbox d s))) := by
  simp [officeTake, htype, hbody, hwait, Nat.not_le.mpr hroom]
end

theorem officeTake_vack (aid : Aid) (cut : Option Nat) (htype : m.type = 0x12) (hwait : mustWait s d m = false) :
    officeTake aid d m cut s = officeVack d m (takeCnt m.vi m.cnt (leaveInbox d s)) := by
  simp [officeTake, htype, hwait]
end

/-! ### The journal of a request's group (16 R418, R425) -/

/-- u differs from s at most in the transaction journal and the record of it that is staged. -/
def journaledOnly (s u : State) : Prop :=
  u = { s with
    molfen := { s.molfen with nextTseq := u.molfen.nextTseq, newestTseq := u.molfen.newestTseq, journal := u.molfen.journal }
    roll := { s.roll with nextJseq := u.roll.nextJseq, newestJseq := u.roll.newestJseq, staging := u.roll.staging } }

theorem journaledOnly.refl (s : State) : journaledOnly s s := rfl
theorem journaledOnly.trans {s u v : State} (h : journaledOnly s u) (g : journaledOnly u v) : journaledOnly s v := by
  unfold journaledOnly at *
  rw [g, h]
theorem openGroup_journaled (vi cnt token writes : Nat) (s : State) : journaledOnly s (openGroup vi cnt token writes s) := rfl
theorem openGroup_nextTseq (vi cnt token writes : Nat) (s : State) :
    (openGroup vi cnt token writes s).molfen.nextTseq = seqNext s.molfen.nextTseq := rfl
theorem journalMod_journaled (tseq : Nat) (f : TxRec → TxRec) (s : State) : journaledOnly s (journalMod tseq f s) := by
  unfold journalMod
  split
  · split <;> rfl
  · rfl
theorem journalMod_nextTseq (tseq : Nat) (f : TxRec → TxRec) (s : State) :
    (journalMod tseq f s).molfen.nextTseq = s.molfen.nextTseq := by
  unfold journalMod
  split
  · split <;> rfl
  · rfl

/-! ### Checks and results of the items (16 R417, R419, R420) -/

theorem checkAll_length (s : State) (care : Bool) (vi : Nat) (l : List Item) : (checkAll s care vi l).length = l.length := by
  unfold checkAll
  dsimp only
  split
  · exact List.length_map _
  · split <;> exact List.length_map _
theorem serveReads_length (s : State) (vi size : Nat) (l : List (Item × (Status × Nat × Nat))) :
    (serveReads s vi size l).length = l.length := by
  induction l generalizing size with
  | nil => rfl
  | cons p l ih =>
    unfold serveReads
    dsimp only
    split <;> simp [ih]
/-- The result of an item that is no READ is answered as it stands. -/
theorem serveReads_getElem? {s : State} {vi k : Nat} {i : Item} {x : Status × Nat × Nat}
    {l : List (Item × (Status × Nat × Nat))} (size : Nat) (h : l[k]? = some (i, x)) (hop : i.op ≠ 1) :
    (serveReads s vi size l)[k]? = some x := by
  induction l generalizing size k with
  | nil => simp at h
  | cons p l ih =>
    unfold serveReads
    dsimp only
    cases k with
    | zero =>
      cases Option.some.inj h
      simp [hop]
    | succ k =>
      split
      · exact ih _ h
      · exact ih _ h
theorem op_of_isWrite {i : Item} (h : isWrite i = true) : i.op = 2 := by simpa [isWrite] using h

/-! ### A request that is served (16 R415, R417 to R420) -/

section
variable {s : State} {vi : Nat} {l : List Item} (hlim : txCntOf s vi < txLimit)
include hlim

theorem serveItems_reads (aid : Aid) (care : Bool) (cnt token : Nat) (cut : Option Nat) (hreads : l.any isWrite = false) :
    serveItems aid care vi cnt token l cut s =
      { s := s, gst := 0, tseq := noTseq
        out := serveReads s vi (replySize ((checkAll s care vi l).map (fun x => (x.getD .ok, 0, 0))))
          (l.zip ((checkAll s care vi l).map (fun x => (x.getD .ok, 0, 0)))) } := by
  have hnone : l.filter isWrite = [] := by simpa using hreads
  simp [serveItems, Nat.not_le.mpr hlim, hnone]
/-- A group whose check fails: its record is opened and closed, nothing is applied, and each WRITE has its own check's status. -/
theorem serveItems_refused (aid : Aid) (care : Bool) (cnt token : Nat) (cut : Option Nat) (hwrites : l.any isWrite = true)
    (hfails : (checkAll s care vi l).any (·.isSome) = true) :
    ∃ t out, serveItems aid care vi cnt token l cut s = { s := t, gst := 2, tseq := s.molfen.nextTseq, out := out }
      ∧ journaledOnly s t ∧ t.molfen.nextTseq = seqNext s.molfen.nextTseq ∧ out.length = l.length
      ∧ ∀ (k : Nat) (i : Item), l[k]? = some i → isWrite i = true →
          out[k]? = some (((checkAll s care vi l).getD k none).getD .refused, 0, 0) := by
  have hnot : ¬ (txLimit ≤ txCntOf s vi ∧ (!l.all (fun i => isWrite i && i.idx == 0x7011 && i.sub == 2)) = true) :=
    fun h => Nat.not_le.mpr hlim h.1
  have hpos : (l.filter isWrite).length ≠ 0 := by simpa using hwrites
  obtain ⟨k, hk⟩ : ∃ k, (checkAll s care vi l).findIdx? (·.isSome) = some k := by
    simpa [List.findIdx?_isSome, ← Option.isSome_iff_exists] using hfails
  unfold serveItems
  dsimp only
  rw [if_neg hnot, if_neg hpos, hk]
  refine ⟨_, _, rfl, (openGroup_journaled ..).trans (journalMod_journaled ..), journalMod_nextTseq .., ?_, fun k i hi hw => ?_⟩
  · simp [serveReads_length, checkAll_length]
  · refine serveReads_getElem? _ ?_ (by rw [op_of_isWrite hw]; decide)
    have hlt : k < (checkAll s care vi l).length := by
      rw [checkAll_length]
      exact (List.getElem?_eq_some_iff.mp hi).1
    cases hc : (checkAll s care vi l)[k] <;> simp [List.getElem?_zip_eq_some, List.getElem?_eq_getElem hlt, hi, hc, hw]
end

/-- A WRITE of a group under way is answered as its owning rule does. -/
theorem runItem_write (aid : Aid) {vi : Nat} {i : Item} {row : ObjRow} (more : Bool) {r : GroupRun} (hw : isWrite i = true)
    (hidx : i.idx ≠ 0xF000) (hstop : r.stop = false) (hrow : findObj i.idx i.sub = some row) :
    (runItem aid vi i more r).reset = r.reset
      ∧ ∃ data, (runItem aid vi i more r).out = ((objWrite aid row vi i.el i.len i.v r.s).2.1, data) :: r.out := by
  simp [runItem, hw, hidx, hstop, hrow]
/-- The one write of a request, its check passed, is answered as its own rule does. -/
theorem serveItems_write (aid : Aid) {s : State} {vi : Nat} {i : Item} {row : ObjRow} (cnt token : Nat)
    (hlim : txCntOf s vi < txLimit) (hw : isWrite i = true) (hidx : i.idx ≠ 0xF000) (hcheck : checkAll s false vi [i] = [none])
    (hrow : findObj i.idx i.sub = some row) :
    let x := serveItems aid false vi cnt token [i] none s
    x.silent = false ∧ x.reset = false
      ∧ ∃ data, x.out = [((objWrite aid row vi i.el i.len i.v (openGroup vi cnt token 1 s)).2.1, data)] := by
  have hone : [i].filter isWrite = [i] := by simp [hw]
  obtain ⟨hreset, data, hout⟩ :=
    runItem_write aid (vi := vi) false (r := { s := openGroup vi cnt token 1 s }) hw hidx rfl hrow
  have hrun : runItems aid vi none [i] { s := openGroup vi cnt token 1 s }
      = runItem aid vi i false { s := openGroup vi cnt token 1 s } := by simp [runItems]
  simp only [serveItems, Nat.not_le.mpr hlim, false_and, if_false, hone, List.length_singleton, one_ne_zero, hcheck,
    List.findIdx?_cons, List.findIdx?_nil, Option.isSome_none, Bool.false_eq_true, Option.map_none, hrun]
  refine ⟨trivial, hreset, data, ?_⟩
  rw [hout]
  simp [serveReads, op_of_isWrite hw]

/-! ### Replies (16 R413, R415, R420) -/

theorem takeCnt_rxCnt (vi cnt : Nat) (s : State) :
    tabGet 0 (takeCnt vi cnt s).molfen.rxCnt vi = max (tabGet 0 s.molfen.rxCnt vi) cnt := tabGet_set_self _ _ _ _

/-- In u the request of token, of message m in datagram d, has had its reply, no setting and no entry of the Roll has moved, and
the message's CNT is taken. -/
def replied (d : Datagram) (m : Msg) (token : Nat) (s u : State) (gst tseq : Nat) (out : List (Status × Nat × Nat)) : Prop :=
  u.outbox = .reply d.port d.src d.vlan m.vi (txCntOf s m.vi + 1) token gst tseq out
      (wireOf d.port (molfenMsg (managementKey s m.vi) 0x02 m.vi (txCntOf s m.vi + 1) (replyBody token gst tseq out))) :: s.outbox
    ∧ u.settings = s.settings ∧ u.roll.entries = s.roll.entries
    ∧ tabGet 0 u.molfen.rxCnt m.vi = max (tabGet 0 s.molfen.rxCnt m.vi) m.cnt

theorem finishServe_sends (aid : Aid) (d : Datagram) (vi token gst tseq : Nat) (out : List (Status × Nat × Nat)) {s : State}
    (hcnt : txCntOf s vi + 1 < 2 ^ 48) :
    ∃ a, finishServe aid d vi token { s := s, gst := gst, tseq := tseq, out := out } =
      { emit (.reply d.port d.src d.vlan vi (txCntOf s vi + 1) token gst tseq out (wireOf d.port
        (molfenMsg (managementKey s vi) 0x02 vi (txCntOf s vi + 1) (replyBody token gst tseq out)))) (countSent s vi)
        with answer := a } := by
  simp only [finishServe, sendReply, if_pos hcnt, Bool.false_eq_true, if_false]
  split <;> exact ⟨_, rfl⟩
/-- A request that moved nothing but the journal has its reply, and leaves the journal as it was when it was served. -/
theorem finishServe_replies (aid : Aid) {d : Datagram} {m : Msg} (token gst tseq : Nat) (out : List (Status × Nat × Nat))
    {s t : State} (h : journaledOnly (takeCnt m.vi m.cnt (leaveInbox d s)) t) (hcnt : txCntOf s m.vi + 1 < 2 ^ 48) :
    let u := finishServe aid d m.vi token { s := t, gst := gst, tseq := tseq, out := out }
    replied d m token s u gst tseq out ∧ u.molfen.journal = t.molfen.journal ∧ u.molfen.nextTseq = t.molfen.nextTseq := by
  have hkept : txCntOf t m.vi = txCntOf s m.vi ∧ managementKey t m.vi = managementKey s m.vi ∧ t.outbox = s.outbox
      ∧ t.settings = s.settings ∧ t.roll.entries = s.roll.entries
      ∧ tabGet 0 t.molfen.rxCnt m.vi = max (tabGet 0 s.molfen.rxCnt m.vi) m.cnt := by
    rw [h]
    exact ⟨rfl, rfl, rfl, rfl, rfl, takeCnt_rxCnt m.vi m.cnt (leaveInbox d s)⟩
  obtain ⟨htx, hkey, houtbox, hsettings, hentries, hrx⟩ := hkept
  rw [← htx] at hcnt
  obtain ⟨a, hu⟩ := finishServe_sends aid d m.vi token gst tseq out hcnt
  dsimp only
  rw [hu, htx, hkey]
  exact ⟨⟨congrArg _ houtbox, hsettings, hentries, hrx⟩, rfl, rfl⟩
theorem finishServe_status (aid : Aid) (d : Datagram) (vi token : Nat) {x : Served} {y : Status × Nat × Nat}
    (hsilent : x.silent = false) (hreset : x.reset = false) (hout : x.out = [y]) :
    (finishServe aid d vi token x).answer.status = y.1 := by
  simp only [finishServe, hsilent, hreset, hout, List.head?_cons, Bool.false_eq_true, if_false]
  rfl
theorem txLimit_room {n : Nat} (h : n < txLimit) : n + 1 < 2 ^ 48 := by
  unfold txLimit at h
  omega

/-! ### The statement -/

/-- Settles O54: a request by the case of `serveItems` it comes to, an acknowledgement by what it takes or that it is counted. -/
theorem requestsAndAcknowledgements : Obligations.RequestsAndAcknowledgements := by
  refine ⟨fun d aid s m token l hm htype hemerg hport hacc hbody => ?_, fun d s m hm htype hport hacc hwait => ?_⟩
  · have htake : exec (.request d none aid) s = .next (officeTake aid d m none s) :=
      congrArg Host.Outcome.next (takeMessage_office aid none hm hemerg hport hacc)
    rw [htake]
    refine ⟨fun hroom hwait => by rw [officeTake_waits htype hbody aid none hroom hwait], fun hfull hcnt => ?_,
      fun hroom hwait hlim => ?_⟩
    · rw [officeTake_busy htype hbody aid none hfull]
      exact ⟨_, rfl, (finishServe_replies aid token _ _ _ (.refl _) hcnt).1⟩
    · rw [officeTake_serves htype hbody aid none hroom hwait]
      have hroomTx := txLimit_room hlim
      refine ⟨fun hreads => ?_, fun hwrites hfails => ?_, fun i row hl hw hidx hcheck hrow => ?_⟩
      · rw [serveItems_reads (s := takeCnt m.vi m.cnt (leaveInbox d s)) hlim aid false _ _ none hreads]
        obtain ⟨hreplied, hjournal, -⟩ := finishServe_replies aid token 0 noTseq
          (serveReads (takeCnt m.vi m.cnt (leaveInbox d s)) m.vi _ (l.zip _)) (.refl _) hroomTx
        exact ⟨_, rfl, hjournal, hreplied⟩
      · obtain ⟨t, out, hserved, honly, hnext, hlen, hstatus⟩ :=
          serveItems_refused (s := takeCnt m.vi m.cnt (leaveInbox d s)) hlim aid false m.cnt token none hwrites hfails
        rw [hserved]
        obtain ⟨hreplied, -, htseq⟩ := finishServe_replies aid token 2 s.molfen.nextTseq out honly hroomTx
        exact ⟨_, out, rfl, htseq.trans hnext, hreplied, hlen, hstatus⟩
      · subst hl
        obtain ⟨hsilent, hreset, data, hout⟩ :=
          serveItems_write aid (s := takeCnt m.vi m.cnt (leaveInbox d s)) m.cnt token hlim hw hidx hcheck hrow
        exact ⟨_, rfl, finishServe_status aid d m.vi token hsilent hreset hout⟩
  · have htake : exec (.vack d) s = .next (officeVack d m (takeCnt m.vi m.cnt (leaveInbox d s))) := by
      show execVack d s = _
      simp only [execVack, hm, if_pos htype, takeMessage_office {} none hm (emergencyOf_vack htype) hport hacc,
        officeTake_vack {} none htype hwait]
    rw [htake]
    refine ⟨fun c i hether hlen hc haddr hplace hnew => ?_, fun hign => ?_⟩
    · rw [officeVack_takes hether hlen]
      exact ⟨_, rfl, takeVack_acked (s := takeCnt m.vi m.cnt (leaveInbox d s)) hc haddr hplace hnew,
        fun honly => heldOf_takeVack_only (s := takeCnt m.vi m.cnt (leaveInbox d s)) honly haddr hplace hnew⟩
    · rw [officeVack_ignored (s := takeCnt m.vi m.cnt (leaveInbox d s)) hign]
      exact ⟨_, rfl, rfl, tabGet_bump_self ..⟩

end Sys2Proof.Machine
end


section
/-! What a commit and a touch leave (08 R221 to R226): a commit writes one entry and its account and journals them, and a touch moves
of an entry its ledgers alone (`ledgersOnly`). The checks that a station's write makes after its touch then read what they would
have read before it. -/

namespace Sys2Proof.Machine

/-! ### Commits -/

/-- u differs from s at most in the entries, the account records and the Roll journal. -/
def committedOnly (s u : State) : Prop :=
  u = { s with roll := { s.roll with entries := u.roll.entries, accounts := u.roll.accounts, staging := u.roll.staging
                                     nextJseq := u.roll.nextJseq, newestJseq := u.roll.newestJseq } }

section
variable {s u : State} (h : committedOnly s u)
include h
theorem committedOnly.time : u.time = s.time := by rw [h]
theorem committedOnly.cipher : u.cipher = s.cipher := by rw [h]
theorem committedOnly.tx : u.tx = s.tx := by rw [h]
theorem committedOnly.stack : u.stack = s.stack := by rw [h]
theorem committedOnly.settings : u.settings = s.settings := by rw [h]
theorem committedOnly.shadows : u.roll.shadows = s.roll.shadows := by rw [h]
theorem committedOnly.budgetLeft : u.roll.budgetLeft = s.roll.budgetLeft := by rw [h]
end

theorem committedOnly.refl (s : State) : committedOnly s s := rfl
theorem committedOnly.trans {s u v : State} (h : committedOnly s u) (g : committedOnly u v) : committedOnly s v := by
  unfold committedOnly at *
  rw [g, h]
theorem stageJournal_only (cls : Nat) (mk : Nat → StagedItem) (s : State) : committedOnly s (stageJournal cls mk s) := rfl
theorem journalRoll_only (cause slot : Nat) (e : Entry) (body : JBody) (s : State) :
    committedOnly s (journalRoll cause slot e body s) := stageJournal_only _ _ s
theorem setEntry_only (s : State) (slot : Nat) (e : Entry) : committedOnly s (setEntry s slot e) := rfl
theorem setAccount_only (s : State) (slot : Nat) (a : Account) : committedOnly s (setAccount s slot a) := rfl
theorem commit_only (cause slot : Nat) (p : Entry × Account) (s : State) : committedOnly s (commit cause slot p s) :=
  (setEntry_only ..).trans ((setAccount_only ..).trans (journalRoll_only ..))
theorem touch_only (cause slot : Nat) (s : State) : committedOnly s (touch cause slot s) := by
  unfold touch
  split
  · exact .refl s
  · exact commit_only ..
theorem accountOf_commit (cause slot : Nat) (p : Entry × Account) (s : State) (k : Nat) :
    accountOf (commit cause slot p s) k = if k = slot then p.2 else accountOf s k := by
  by_cases h : k = slot
  · subst h
    exact (accountOf_setAccount _ _ _).trans (if_pos rfl).symm
  · exact (accountOf_setAccount_other _ _ _ _ h).trans (if_neg h).symm
/-- An entry with LOWCHARGE as given. -/
def setLow (b : Bool) (e : Entry) : Entry := { e with lowCharge := b }
@[simp] theorem setLow_touch (b : Bool) (e : Entry) : (setLow b e).touch = e.touch := rfl
@[simp] theorem setLow_credits (b : Bool) (e : Entry) : (setLow b e).credits = e.credits := rfl
@[simp] theorem setLow_held (b : Bool) (e : Entry) : (setLow b e).held = e.held := rfl
@[simp] theorem setLow_gen (b : Bool) (e : Entry) : (setLow b e).gen = e.gen := rfl
@[simp] theorem setLow_setLow (b c : Bool) (e : Entry) : setLow b (setLow c e) = setLow b e := rfl
theorem markLow_eq (p : Entry × Account) : (markLow p).1 = setLow (markLow p).1.lowCharge p.1 := by
  unfold markLow
  rfl
/-- The entry a commit leaves, LOWCHARGE as the commit found it. -/
theorem entryOf_commit_self (cause slot : Nat) (p : Entry × Account) (s : State) :
    entryOf (commit cause slot p s) slot = setLow (entryOf (commit cause slot p s) slot).lowCharge p.1 := by
  rw [entryOf_commit, if_pos rfl]
  exact markLow_eq p
theorem entryOf_commit_other (cause : Nat) {slot k : Nat} (h : k ≠ slot) (p : Entry × Account) (s : State) :
    entryOf (commit cause slot p s) k = entryOf s k := by rw [entryOf_commit, if_neg h]
theorem accountOf_commit_other (cause : Nat) {slot k : Nat} (h : k ≠ slot) (p : Entry × Account) (s : State) :
    accountOf (commit cause slot p s) k = accountOf s k := by rw [accountOf_commit, if_neg h]

/-! ### Touches -/

/-- x is e but for the charge and credit ledgers and what is marked of them. -/
def ledgersOnly (e x : Entry) : Prop :=
  x = { e with touch := x.touch, charge := x.charge, chfrac := x.chfrac, overdrawn := x.overdrawn, credits := x.credits
               crfrac := x.crfrac, lowCharge := x.lowCharge }

theorem ledgersOnly.refl (e : Entry) : ledgersOnly e e := rfl
theorem ledgersOnly.trans {e x y : Entry} (h : ledgersOnly e x) (g : ledgersOnly x y) : ledgersOnly e y := by
  unfold ledgersOnly at *
  rw [g, h]
section
variable {e x : Entry} (h : ledgersOnly e x)
include h
theorem ledgersOnly.identity : x.identity = e.identity := by rw [h]
theorem ledgersOnly.tag : x.tag = e.tag := by rw [h]
theorem ledgersOnly.status : x.status = e.status := by rw [h]
theorem ledgersOnly.vi : x.vi = e.vi := by rw [h]
theorem ledgersOnly.keyh : x.keyh = e.keyh := by rw [h]
theorem ledgersOnly.ucnt : x.ucnt = e.ucnt := by rw [h]
theorem ledgersOnly.fresh : x.fresh = e.fresh := by rw [h]
theorem ledgersOnly.gen : x.gen = e.gen := by rw [h]
theorem ledgersOnly.migrating : x.migrating = e.migrating := by rw [h]
end

theorem debit_ledgers (t : Term) (n : Nat) (p : Entry × Account) : ledgersOnly p.1 (debit t n p).1 := by
  unfold debit
  dsimp only
  split <;> rfl
theorem accrue_ledgers (rate cap dt : Nat) (p : Entry × Account) : ledgersOnly p.1 (accrue rate cap dt p).1 := by
  unfold accrue
  rfl
theorem retouched_ledgers (now : Nat) (e : Entry) : ledgersOnly e { e with touch := now } := rfl
theorem touchBase_ledgers (m : Model) (rate cap now : Nat) (p : Entry × Account) :
    ledgersOnly p.1 (touchBase m rate cap now p).1 := by
  unfold touchBase
  exact ((debit_ledgers _ _ _).trans (accrue_ledgers _ _ _ _)).trans (retouched_ledgers _ _)
theorem touchedPair_ledgers (s : State) (slot : Nat) : ledgersOnly (entryOf s slot) (touchedPair s slot).1 :=
  touchBase_ledgers _ _ _ _ _
theorem markLow_ledgers (p : Entry × Account) : ledgersOnly p.1 (markLow p).1 := by
  rw [markLow_eq]
  rfl
theorem touch_of_free (cause : Nat) {slot : Nat} {s : State} (h : (entryOf s slot).status = .free) : touch cause slot s = s :=
  if_pos h
theorem touch_of_live (cause : Nat) {slot : Nat} {s : State} (h : (entryOf s slot).status ≠ .free) :
    touch cause slot s = commit cause slot (touchedPair s slot) s := if_neg h
theorem entryOf_touch_self (cause : Nat) {slot : Nat} {s : State} (h : (entryOf s slot).status ≠ .free) :
    entryOf (touch cause slot s) slot = (markLow (touchedPair s slot)).1 := by
  rw [touch_of_live cause h, entryOf_commit, if_pos rfl]
theorem accountOf_touch_other (cause : Nat) {slot k : Nat} (h : k ≠ slot) (s : State) :
    accountOf (touch cause slot s) k = accountOf s k := by
  unfold touch
  split
  · rfl
  · exact accountOf_commit_other _ h _ _
theorem touch_ledgers (cause slot k : Nat) (s : State) : ledgersOnly (entryOf s k) (entryOf (touch cause slot s) k) := by
  by_cases hk : k = slot
  · subst hk
    by_cases hfree : (entryOf s k).status = .free
    · rw [touch_of_free cause hfree]
      exact .refl _
    · rw [entryOf_touch_self cause hfree]
      exact (touchedPair_ledgers s k).trans (markLow_ledgers _)
  · rw [entryOf_touch_other cause hk]
    exact .refl _

end Sys2Proof.Machine
end


section
/-! O48 (08 R211, R216, R222, R225, R235). Each write commits one change on top of its touch; what such a commit leaves is said once
(`changesEntry_of_commit`). -/

namespace Sys2Proof.Machine

open Sys2Proof.Safety

/-! ### A change committed after the touch -/

/-- A command answers OK, having touched an entry and changed it by f; the keys and the other slots stay. -/
def changesEntry (slot : Nat) (s : State) (o : Out) (f : Entry → Entry) : Prop :=
  ∃ u, o = .next u ∧ u.answer.status = .ok
    ∧ entryOf u slot = setLow (entryOf u slot).lowCharge (f (touchedPair s slot).1)
    ∧ (entryOf u slot).touch = s.time.ledger ∧ u.cipher = s.cipher
    ∧ ∀ k, k ≠ slot → entryOf u k = entryOf s k ∧ accountOf u k = accountOf s k
/-- f keeps TOUCH, and LOWCHARGE does not enter into it. -/
def apartFromMarks (f : Entry → Entry) : Prop :=
  ∀ x b, (f x).touch = x.touch ∧ f (setLow b x) = setLow b (f x)

/-- The credits left to a VI once v of them are granted (08 R225). -/
def drawBudget (vi v : Nat) (s : State) : State :=
  { s with roll := { s.roll with budgetLeft := tabSet 0 s.roll.budgetLeft vi (budgetLeft s vi - v) } }
theorem drawBudget_only (vi v : Nat) (s : State) : (drawBudget vi v s).roll.entries = s.roll.entries
    ∧ (drawBudget vi v s).roll.accounts = s.roll.accounts ∧ (drawBudget vi v s).cipher = s.cipher := ⟨rfl, rfl, rfl⟩

section
variable {slot : Nat} {s : State} (hlive : (entryOf s slot).status ≠ .free)
include hlive

theorem entryWrite_of_live (f : State → State × Status) : entryWrite slot f s = f (touchFirst slot s) := if_neg hlive

/-- A commit of the change, on a state that has the touched Roll and the keys. -/
theorem changesEntry_of_commit {f : Entry → Entry} (hf : apartFromMarks f) {t : State} (a : Account)
    (hentries : t.roll.entries = (touchFirst slot s).roll.entries)
    (haccounts : t.roll.accounts = (touchFirst slot s).roll.accounts) (hcipher : t.cipher = s.cipher) :
    changesEntry slot s (.next (answering .ok (commit causeStation slot (f (entryOf t slot), a) t))) f := by
  have hentry : ∀ k, entryOf t k = entryOf (touchFirst slot s) k := fun k => by rw [entryOf, hentries]; rfl
  have haccount : ∀ k, accountOf t k = accountOf (touchFirst slot s) k := fun k => by rw [accountOf, haccounts]; rfl
  obtain ⟨b, htouched⟩ : ∃ b, f (entryOf t slot) = setLow b (f (touchedPair s slot).1) :=
    ⟨_, by rw [hentry, touchFirst, entryOf_touch_self _ hlive, markLow_eq]; exact (hf _ _).2⟩
  have hself : entryOf (commit causeStation slot (f (entryOf t slot), a) t) slot = setLow _ (f (entryOf t slot)) :=
    entryOf_commit_self ..
  have htouch : (f (touchedPair s slot).1).touch = s.time.ledger := (hf _ true).1.trans rfl
  refine ⟨_, rfl, rfl, ?_, ?_, ?_, fun k hk => ⟨?_, ?_⟩⟩
  · exact hself.trans ((congrArg (setLow _) htouched).trans (setLow_setLow ..))
  · exact (congrArg Entry.touch hself).trans ((congrArg Entry.touch htouched).trans htouch)
  · exact (commit_cipher causeStation slot (f (entryOf t slot), a) t).trans hcipher
  · exact (entryOf_commit_other _ hk _ _).trans ((hentry k).trans (entryOf_touch_other _ hk s))
  · exact (accountOf_commit_other _ hk _ _).trans ((haccount k).trans (accountOf_touch_other _ hk s))

/-- A write that passes its checks and whose owning rule commits the change so. -/
theorem changesEntry_of_write {f : Entry → Entry} (hf : apartFromMarks f) {vi idx sub len v : Nat} {w : State → State × Status}
    (hw : writable s vi idx sub slot len v = true) (t : State)
    (hrule : ∃ a, w s = (commit causeStation slot (f (entryOf t slot), a) t, .ok))
    (hentries : t.roll.entries = (touchFirst slot s).roll.entries)
    (haccounts : t.roll.accounts = (touchFirst slot s).roll.accounts) (hcipher : t.cipher = s.cipher) :
    changesEntry slot s (answered (checkedWrite vi idx sub slot len v w s)) f := by
  obtain ⟨a, hrule⟩ := hrule
  rw [answered_of_writable hw hrule]
  exact changesEntry_of_commit hlive hf a hentries haccounts hcipher
/-- A write whose owning rule is such a change of the touched state. -/
theorem changesEntry_of_changeEntry {f : Entry → Entry} (hf : apartFromMarks f) {vi idx sub len v : Nat} {w : State → State × Status}
    (hw : writable s vi idx sub slot len v = true) (hrule : w s = changeEntry slot f (touchFirst slot s)) :
    changesEntry slot s (answered (checkedWrite vi idx sub slot len v w s)) f :=
  changesEntry_of_write hlive hf hw _ ⟨_, hrule⟩ rfl rfl (touch_only ..).cipher

/-! ### The six writes -/

section
variable {vi : Fin 16} {v : Nat}

theorem statusWrite_changes (hw : writable s vi 0x6010 2 slot 1 v = true) (hnot : (entryOf s slot).status ≠ .exhausted)
    (hv : v = 1 ∨ v = 2) : changesEntry slot s (execStatusWrite vi slot v s)
      (fun x => { x with status := if v = 1 then .active else .suspended }) := by
  have hstatus : (entryOf (touchFirst slot s) slot).status ≠ .exhausted := by rwa [touchFirst, (touch_ledgers ..).status]
  refine changesEntry_of_changeEntry hlive ?_ hw ?_
  · exact fun _ _ => ⟨rfl, rfl⟩
  rw [writeStatus, entryWrite_of_live hlive, if_neg hstatus]
  rcases hv with rfl | rfl
  · rfl
  · rfl
theorem chargeSet_changes (hw : writable s vi 0x6010 4 slot 4 v = true) : changesEntry slot s (execChargeSet vi slot v s)
    (fun x => { x with charge := v, chfrac := 0, overdrawn := x.overdrawn && v == 0 }) := by
  have hwhole : ∀ e, setCu e (v * 65536) = { e with charge := v, chfrac := 0 } := fun e => by simp [setCu]
  refine changesEntry_of_write hlive ?_ hw (touchFirst slot s) ?_ rfl rfl (touch_only ..).cipher
  · exact fun _ _ => ⟨rfl, rfl⟩
  · rw [writeCharge, entryWrite_of_live hlive]
    dsimp only
    rw [hwhole]
    exact ⟨_, rfl⟩
theorem counterRaise_changes (hw : writable s vi 0x6010 5 slot 4 v = true)
    (hraise : (entryOf s slot).fresh = true ∨ (entryOf s slot).ucnt < v) :
    changesEntry slot s (execUplinkCounterRaise vi slot v s) (fun x => { x with ucnt := v, fresh := false }) := by
  have hrises : ¬(!(entryOf s slot).fresh && decide (v ≤ (entryOf s slot).ucnt)) = true := by
    rcases hraise with h | h <;> simp [h]
  refine changesEntry_of_changeEntry hlive ?_ hw ?_
  · exact fun _ _ => ⟨rfl, rfl⟩
  rw [writeRaise, entryWrite_of_live hlive]
  dsimp only
  rw [touchFirst, (touch_ledgers ..).fresh, (touch_ledgers ..).ucnt, if_neg hrises]
theorem modelAssign_changes (hw : writable s vi 0x6010 6 slot 1 v = true) :
    changesEntry slot s (execChargeModelAssign vi slot v s) (fun x => { x with cmodel := v }) :=
  changesEntry_of_changeEntry hlive (by exact fun _ _ => ⟨rfl, rfl⟩) hw (entryWrite_of_live hlive _)
theorem planAssign_changes (hw : writable s vi 0x6010 7 slot 1 v = true) :
    changesEntry slot s (execCreditPlanAssign vi slot v s) (fun x => { x with cplan := v }) :=
  changesEntry_of_changeEntry hlive (by exact fun _ _ => ⟨rfl, rfl⟩) hw (entryWrite_of_live hlive _)
theorem writeGrant_granted {t : State} (ht : touchFirst slot s = t) (hroom : (entryOf t slot).credits + (entryOf t slot).held + v ≤ 65534)
    (hbudget : v ≤ budgetLeft t (entryOf t slot).vi) : ∃ a, writeGrant slot v s = (commit causeStation slot
      ((fun x : Entry => { x with credits := x.credits + v }) (entryOf (drawBudget (entryOf t slot).vi v t) slot), a)
      (drawBudget (entryOf t slot).vi v t), .ok) := by
  have hfits : ¬65534 < (entryOf t slot).credits + (entryOf t slot).held + v := by omega
  have hfunded : ¬budgetLeft t (entryOf t slot).vi < v := by omega
  rw [writeGrant, entryWrite_of_live hlive, ht]
  dsimp only
  rw [if_neg hfits, if_neg hfunded]
  exact ⟨_, rfl⟩
theorem grant_changes (hw : writable s vi 0x6011 5 slot 2 v = true)
    (hroom : (touchedPair s slot).1.credits + (touchedPair s slot).1.held + v ≤ 65534)
    (hbudget : v ≤ budgetLeft s (entryOf s slot).vi) :
    changesEntry slot s (execGrant vi slot v s) (fun x => { x with credits := x.credits + v }) := by
  obtain ⟨hcredits, hheld⟩ : (entryOf (touchFirst slot s) slot).credits = (touchedPair s slot).1.credits
      ∧ (entryOf (touchFirst slot s) slot).held = (touchedPair s slot).1.held := by
    rw [touchFirst, entryOf_touch_self _ hlive, markLow_eq]
    exact ⟨setLow_credits .., setLow_held ..⟩
  have hleft : budgetLeft (touchFirst slot s) (entryOf (touchFirst slot s) slot).vi = budgetLeft s (entryOf s slot).vi := by
    rw [touchFirst, (touch_ledgers ..).vi, budgetLeft, (touch_only ..).budgetLeft, budgetLeft]
  have hrule := writeGrant_granted (v := v) hlive rfl (by rwa [hcredits, hheld]) (by rwa [hleft])
  obtain ⟨hentries, haccounts, hcipher⟩ := drawBudget_only (entryOf (touchFirst slot s) slot).vi v (touchFirst slot s)
  exact changesEntry_of_write hlive (by exact fun _ _ => ⟨rfl, rfl⟩) hw _ hrule hentries haccounts
    (hcipher.trans (touch_only causeStation slot s).cipher)
end
end

/-- Settles O48: each write is one change committed after the touch. -/
theorem entryWrites : Obligations.EntryWrites := fun _ _ _ _ hlive =>
  ⟨statusWrite_changes hlive, chargeSet_changes hlive, counterRaise_changes hlive, modelAssign_changes hlive,
    planAssign_changes hlive, grant_changes hlive⟩

end Sys2Proof.Machine
end


section
/-! Occupancies (08 R209 to R213, R217): what an enrolment block must find (`Enrollable`), that a touch leaves it so, and what taking a
slot and leaving it do to the Roll and the key store. The directory's update sends a message and moves the directory alone. -/

namespace Sys2Proof.Machine

/-! ### The Roll directory (18 R457) -/

/-- u differs from s at most in the lanes, what is sent, and the directory. -/
def directoryOnly (s u : State) : Prop :=
  u = { s with outbox := u.outbox, lane := u.lane
               stack := { s.stack with directory := u.stack.directory, nextDir := u.stack.nextDir } }

section
variable {s u : State} (h : directoryOnly s u)
include h
theorem directoryOnly.roll : u.roll = s.roll := by rw [h]
theorem directoryOnly.cipher : u.cipher = s.cipher := by rw [h]
theorem directoryOnly.time : u.time = s.time := by rw [h]
end

theorem setHome_only (tag home : Nat) (s : State) : directoryOnly s (setHome tag home s) := rfl
theorem dirUpdate_only (tag home : Nat) (s : State) : directoryOnly s (dirUpdate tag home s) := by
  unfold dirUpdate
  split
  · dsimp only
    have hsent := fun dst fields => cascadeSend_sent dst 0x42 fields (setHome tag home s)
    generalize hu : cascadeSend _ _ _ _ = u
    have : sentOnly (setHome tag home s) u := hu ▸ hsent _ _
    unfold sentOnly at this
    rw [this]
    rfl
  · rfl

/-! ### Reading the Roll and the keys -/

section
variable {s u : State}
theorem entryOf_of_roll (h : u.roll = s.roll) (k : Nat) : entryOf u k = entryOf s k := by rw [entryOf, h]; rfl
theorem accountOf_of_roll (h : u.roll = s.roll) (k : Nat) : accountOf u k = accountOf s k := by rw [accountOf, h]; rfl
theorem keyOf_of_cipher (h : u.cipher = s.cipher) (k : Nat) : keyOf u k = keyOf s k := by rw [keyOf, h]; rfl
theorem keyAssigned_of_settings (h : u.settings = s.settings) (vi k : Nat) : keyAssigned u vi k = keyAssigned s vi k := by
  simp only [keyAssigned, setting, h]
theorem inShadow_of_shadows (h : u.roll.shadows = s.roll.shadows) (k : Nat) : inShadow u k = inShadow s k := by
  rw [inShadow, h]; rfl
theorem homedElsewhere_of_stack (h : u.stack = s.stack) (tag : Nat) : homedElsewhere u tag = homedElsewhere s tag := by
  rw [homedElsewhere, homeOf, stackFunction, stacked, h]
  rfl
end

/-! ### The check of an enrolment (08 Table 8.5) -/

theorem mem_tabPut {α : Type} {t : Tab α} {k : Nat} {v : α} {p : Nat × α} (h : p ∈ tabPut t k v) : p = (k, v) ∨ p ∈ t := by
  induction t with
  | nil => exact .inl (List.mem_singleton.mp h)
  | cons q t ih =>
    obtain ⟨k', v'⟩ := q
    unfold tabPut at h
    split at h
    · exact List.mem_cons.mp h
    · split at h
      · exact (List.mem_cons.mp h).imp_right (List.mem_cons_of_mem _)
      · rcases List.mem_cons.mp h with rfl | h
        · exact .inr List.mem_cons_self
        · exact (ih h).imp_right (List.mem_cons_of_mem _)
theorem mem_tabSet {α : Type} [DecidableEq α] {d : α} {t : Tab α} {k : Nat} {v : α} {p : Nat × α} (h : p ∈ tabSet d t k v) :
    p = (k, v) ∨ p ∈ t := by
  unfold tabSet at h
  split at h
  · exact .inr (List.mem_of_mem_filter h)
  · exact mem_tabPut h
/-- What is read of the other keys is as it was. -/
theorem filter_tabPut_away {α : Type} (t : Tab α) (k : Nat) (v : α) (f : Nat × α → Bool) (hf : ∀ x, f (k, x) = false) :
    (tabPut t k v).filter f = t.filter f := by
  induction t with
  | nil => simp [tabPut, hf]
  | cons q t ih =>
    obtain ⟨k', v'⟩ := q
    unfold tabPut
    split
    · rw [List.filter_cons_of_neg (by simp [hf])]
    · split
      case isTrue hk =>
        subst hk
        rw [List.filter_cons_of_neg (by simp [hf]), List.filter_cons_of_neg (by simp [hf])]
      case isFalse => simp only [List.filter_cons, ih]
theorem filter_tabSet_away {α : Type} [DecidableEq α] (d : α) (t : Tab α) (k : Nat) (v : α) (f : Nat × α → Bool)
    (hf : ∀ x, f (k, x) = false) : (tabSet d t k v).filter f = t.filter f := by
  unfold tabSet
  split
  · rw [List.filter_filter]
    refine List.filter_congr fun p _ => ?_
    by_cases hk : p.1 = k
    · obtain ⟨i, x⟩ := p
      subst hk
      simp [hf]
    · simp [hk]
  · exact filter_tabPut_away t k v f hf

theorem commit_entries (cause slot : Nat) (p : Entry × Account) (s : State) :
    (commit cause slot p s).roll.entries = tabSet {} s.roll.entries slot (markLow p).1 := rfl
section
variable {slot : Nat} {s : State} (hlive : (entryOf s slot).status ≠ .free)
include hlive
/-- No entry has what a touch does not move, where none had it before. -/
theorem any_touched (cause : Nat) {f : Nat × Entry → Bool}
    (hf : ∀ x, ledgersOnly (entryOf s slot) x → f (slot, x) = f (slot, entryOf s slot)) (hnone : s.roll.entries.any f = false) :
    (touch cause slot s).roll.entries.any f = false := by
  have hheld : (slot, entryOf s slot) ∈ s.roll.entries := mem_of_tabGet_ne fun h => hlive (congrArg Entry.status h)
  rw [List.any_eq_false] at hnone ⊢
  rw [touch_of_live cause hlive, commit_entries]
  intro p hp
  rcases mem_tabSet hp with rfl | hp
  · rw [hf _ ((touchedPair_ledgers s slot).trans (markLow_ledgers _))]
    exact hnone _ hheld
  · exact hnone p hp
theorem placeableAt_touch (cause tag : Nat) : placeableAt (touch cause slot s) slot tag = placeableAt s slot tag := by
  rw [touch_of_live cause hlive, placeableAt, commit_entries, filter_tabSet_away _ _ _ _ _ (by simp)]
  rfl
end

/-- What checks 3 to 7 of Table 8.5 ask of the state for an enrolment block, the slot's own status apart. -/
structure Enrollable (s : State) (vi slot : Nat) (b : Enrolment) : Prop where
  assigned : keyAssigned s vi b.keyh = true
  loaded : (keyOf s b.keyh).kstate ≠ .empty
  unheld : heldAlready s b = false
  unhomed : homedElsewhere s b.tag = false
  placeable : placeableAt s slot b.tag = true
  settled : (entryOf s slot).migrating = false
  unbound : boundToOther s slot b.keyh = false
  unshadowed : inShadow s b.keyh = false

theorem Enrollable.touch {s : State} {vi slot : Nat} {b : Enrolment} (h : Enrollable s vi slot b) (cause : Nat) :
    Enrollable (touch cause slot s) vi slot b := by
  by_cases hfree : (entryOf s slot).status = .free
  · rwa [touch_of_free cause hfree]
  · have honly := touch_only cause slot s
    exact {
      assigned := (keyAssigned_of_settings honly.settings _ _).trans h.assigned
      loaded := by rw [keyOf_of_cipher honly.cipher]; exact h.loaded
      unheld := any_touched hfree cause (fun x hx => by rw [hx.status, hx.identity, hx.tag]) h.unheld
      unhomed := (homedElsewhere_of_stack honly.stack _).trans h.unhomed
      placeable := (placeableAt_touch hfree _ _).trans h.placeable
      settled := (touch_ledgers ..).migrating.trans h.settled
      unbound := any_touched hfree cause (fun x hx => by rw [hx.status, hx.keyh]) h.unbound
      unshadowed := (inShadow_of_shadows honly.shadows _).trans h.unshadowed }
theorem Enrollable.check {s : State} {vi slot : Nat} {b : Enrolment} (h : Enrollable s vi slot b) {replace : Bool}
    (hreplace : ((entryOf s slot).status == .free) ≠ replace) : enrolCheck vi slot replace b s = none := by
  have hkey : (!(keyAssigned s vi b.keyh && (keyOf s b.keyh).kstate != .empty)) = false := by simp [h.assigned, h.loaded]
  simp [enrolCheck, hkey, hreplace, h.unheld, h.unhomed, h.placeable, h.settled, h.unbound, h.unshadowed]

/-! ### Taking a slot (08 R210) -/

theorem entryOf_bindKey (h : Nat) (s : State) (k : Nat) : entryOf (bindKey h s) k = entryOf s k := rfl
theorem accountOf_bindKey (h : Nat) (s : State) (k : Nat) : accountOf (bindKey h s) k = accountOf s k := rfl
theorem keyOf_bindKey (h : Nat) (s : State) : (keyOf (bindKey h s) h).kstate = .bound :=
  congrArg KeySlot.kstate (keyOf_setKey _ _ _)
/-- The entry as it takes a slot: in the next generation, touched, and not FREE. -/
def occupant (s : State) (slot : Nat) (e : Entry) : Entry :=
  { e with gen := ((entryOf s slot).gen + 1) % 65536, touch := s.time.ledger
           status := if e.status = .free then .active else e.status }
/-- Taking a slot, but for the directory. -/
theorem occupy_only (cause slot : Nat) (e : Entry) (a : Account) (charge : Nat) (s : State) :
    ∃ t a', committedOnly s t ∧ t.roll.entries = s.roll.entries ∧ t.roll.accounts = s.roll.accounts
      ∧ directoryOnly (bindKey e.keyh (commit cause slot (occupant s slot e, a') t)) (occupy cause slot e a charge s) := by
  refine ⟨journalRoll cause slot (occupant s slot e) (.enrol (occupant s slot e) charge) s,
    { a with gen := ((entryOf s slot).gen + 1) % 65536 }, journalRoll_only .., rfl, rfl, ?_⟩
  unfold occupy
  dsimp only
  split
  · exact setHome_only ..
  · exact dirUpdate_only ..
theorem occupy_occupies (cause slot : Nat) (e : Entry) (a : Account) (charge : Nat) (s : State) :
    entryOf (occupy cause slot e a charge s) slot
        = setLow (entryOf (occupy cause slot e a charge s) slot).lowCharge (occupant s slot e)
      ∧ (∀ k, k ≠ slot → entryOf (occupy cause slot e a charge s) k = entryOf s k
        ∧ accountOf (occupy cause slot e a charge s) k = accountOf s k)
      ∧ (keyOf (occupy cause slot e a charge s) e.keyh).kstate = .bound := by
  obtain ⟨t, a', -, hentries, haccounts, hdir⟩ := occupy_only cause slot e a charge s
  generalize occupy cause slot e a charge s = u at hdir ⊢
  have hentry : ∀ k, entryOf u k = entryOf (commit cause slot (occupant s slot e, a') t) k := fun k =>
    (entryOf_of_roll hdir.roll k).trans (entryOf_bindKey _ _ _)
  refine ⟨?_, fun k hk => ⟨?_, ?_⟩, ?_⟩
  · rw [hentry]
    exact entryOf_commit_self ..
  · rw [hentry, entryOf_commit_other cause hk, entryOf, hentries]
    rfl
  · rw [accountOf_of_roll hdir.roll, accountOf_bindKey, accountOf_commit_other cause hk, accountOf, haccounts]
    rfl
  · rw [keyOf_of_cipher hdir.cipher]
    exact keyOf_bindKey _ _

/-! ### Leaving a slot (08 R212) -/

theorem endBurstsOf_none {slot : Nat} {s : State} (h : s.tx.bursts = []) : endBurstsOf slot s = s := by
  simp [endBurstsOf, burstList, h]
theorem endDeferredOf_none {slot : Nat} {st : Status} {s : State} (h : s.tx.deferred = []) : endDeferredOf slot st s = s := by
  simp [endDeferredOf, h]
theorem unbindKey_roll (h : Nat) (s : State) : (unbindKey h s).roll = s.roll := by
  unfold unbindKey
  split <;> rfl
theorem unbindKey_time (h : Nat) (s : State) : (unbindKey h s).time = s.time := by
  unfold unbindKey
  split <;> rfl
theorem keyOf_unbindKey {h : Nat} {s : State} (hs : inShadow s h = false) : (keyOf (unbindKey h s) h).kstate = .loaded := by
  rw [unbindKey, if_neg (by simp [hs])]
  exact congrArg KeySlot.kstate (keyOf_setKey _ _ _)
end Sys2Proof.Machine
end


section
/-! Leaving a slot (08 R212): the account and the retired terms of the VI take over what the entry held, and the slot is FREE in its
generation (`retireEntry_leaves`). -/

namespace Sys2Proof.Machine

/-- t has the entries, accounts, shadows and clocks of s. -/
def sameRoll (s t : State) : Prop :=
  t.roll.entries = s.roll.entries ∧ t.roll.accounts = s.roll.accounts ∧ t.roll.shadows = s.roll.shadows ∧ t.time = s.time
theorem journalRoll_sameRoll (cause slot : Nat) (e : Entry) (body : JBody) (s : State) :
    sameRoll s (journalRoll cause slot e body s) := ⟨rfl, rfl, rfl, rfl⟩
theorem retired_sameRoll (x : Tab Retired) (s : State) : sameRoll s { s with roll := { s.roll with retired := x } } :=
  ⟨rfl, rfl, rfl, rfl⟩
theorem monoBump_sameRoll (vi term n : Nat) (s : State) : sameRoll s (monoBump vi term n s) := ⟨rfl, rfl, rfl, rfl⟩
theorem monoBump_vacated (vi term n slot : Nat) (e : Entry) (a : Account) (s : State) :
    monoBump vi term n (setAccount (setEntry s slot e) slot a) = setAccount (setEntry (monoBump vi term n s) slot e) slot a := rfl
theorem refundCredits_occupancy (c : Nat) (p : Entry × Account) :
    (refundCredits c p).1.gen = p.1.gen ∧ (refundCredits c p).1.keyh = p.1.keyh := ⟨rfl, rfl⟩
theorem sameRoll.trans {s t u : State} (h : sameRoll s t) (g : sameRoll t u) : sameRoll s u := by
  obtain ⟨hentries, haccounts, hshadows, htime⟩ := h
  obtain ⟨gentries, gaccounts, gshadows, gtime⟩ := g
  exact ⟨gentries.trans hentries, gaccounts.trans haccounts, gshadows.trans hshadows, gtime.trans htime⟩
/-- Leaving a slot, but for the key and the directory: the journals and the retired terms of the VI move, then the slot is FREE. -/
theorem retireEntry_only {cause slot : Nat} {transfer : Bool} {s : State} (hbursts : s.tx.bursts = [])
    (hdeferred : s.tx.deferred = []) : ∃ t a, sameRoll s t
      ∧ directoryOnly (unbindKey (entryOf s slot).keyh (setAccount (setEntry t slot { gen := (entryOf s slot).gen }) slot a))
        (retireEntry cause slot transfer s) := by
  unfold retireEntry
  rw [endBurstsOf_none hbursts, endDeferredOf_none hdeferred]
  extract_lets _ q p e out b a retired journaled r roll t vacated counted freed
  have hgen : e.gen = (entryOf s slot).gen :=
    (markLow_ledgers _).gen.trans ((refundCredits_occupancy ..).1.trans (touchedPair_ledgers s slot).gen)
  have hkeyh : e.keyh = (entryOf s slot).keyh :=
    (markLow_ledgers _).keyh.trans ((refundCredits_occupancy ..).2.trans (touchedPair_ledgers s slot).keyh)
  have hjournaled : sameRoll s journaled :=
    ((journalRoll_sameRoll ..).trans (journalRoll_sameRoll ..)).trans (journalRoll_sameRoll ..)
  have ht : sameRoll s t := hjournaled.trans (retired_sameRoll _ journaled)
  obtain ⟨w, hw, hcounted⟩ : ∃ w, sameRoll s w ∧ counted = setAccount (setEntry w slot { gen := (entryOf s slot).gen }) slot a := by
    rw [← hgen]
    by_cases hexhausted : e.status = .exhausted
    · exact ⟨monoBump e.vi 6 1 t, ht.trans (monoBump_sameRoll ..), (if_pos hexhausted).trans (monoBump_vacated ..)⟩
    · exact ⟨t, ht, if_neg hexhausted⟩
  refine ⟨w, a, hw, ?_⟩
  rw [← hcounted, ← hkeyh]
  split <;> exact dirUpdate_only ..
theorem retireEntry_leaves {cause slot : Nat} {transfer : Bool} {s : State} (hbursts : s.tx.bursts = [])
    (hdeferred : s.tx.deferred = []) : (retireEntry cause slot transfer s).time = s.time
      ∧ entryOf (retireEntry cause slot transfer s) slot = { gen := (entryOf s slot).gen }
      ∧ (∀ k, k ≠ slot → entryOf (retireEntry cause slot transfer s) k = entryOf s k
        ∧ accountOf (retireEntry cause slot transfer s) k = accountOf s k)
      ∧ (inShadow s (entryOf s slot).keyh = false →
        (keyOf (retireEntry cause slot transfer s) (entryOf s slot).keyh).kstate = .loaded) := by
  obtain ⟨t, a, ⟨hentries, haccounts, hshadows, htime⟩, hdir⟩ :=
    retireEntry_only (cause := cause) (slot := slot) (transfer := transfer) hbursts hdeferred
  generalize retireEntry cause slot transfer s = u at hdir ⊢
  have hroll := hdir.roll.trans (unbindKey_roll ..)
  refine ⟨(hdir.time.trans (unbindKey_time ..)).trans htime, ?_, fun k hk => ⟨?_, ?_⟩, fun hshadow => ?_⟩
  · rw [entryOf_of_roll hroll, entryOf_setAccount, entryOf_setEntry]
  · rw [entryOf_of_roll hroll, entryOf_setAccount, entryOf_setEntry_other _ _ _ _ hk, entryOf, hentries]
    rfl
  · rw [accountOf_of_roll hroll, accountOf_setAccount_other _ _ _ _ hk, accountOf_setEntry, accountOf, haccounts]
    rfl
  · rw [keyOf_of_cipher hdir.cipher]
    exact keyOf_unbindKey ((inShadow_of_shadows (by exact hshadows) _).trans hshadow)

end Sys2Proof.Machine
end


section
/-! O46 (08 R209 to R213, R217, R218). Enrolment, retirement and replacement by what taking and leaving a slot do; a re-key by what the
bursts it builds first leave of the entry: they move DCNT, the status and the ledgers, and none of them enters the shadow. -/

namespace Sys2Proof.Machine

open Sys2Proof.Safety

/-! ### Enrolment, retirement and replacement (08 R209 to R213) -/

/-- An enrolment block has filled a slot of s, in the next generation, and bound its key. -/
def enrolledAs (s u : State) (vi slot : Nat) (b : Enrolment) : Prop :=
  (entryOf u slot).identity = b.identity ∧ (entryOf u slot).tag = b.tag ∧ (entryOf u slot).status = .active
    ∧ (entryOf u slot).vi = vi ∧ (entryOf u slot).profile = b.profile ∧ (entryOf u slot).keyh = b.keyh
    ∧ (entryOf u slot).ucnt = b.ufloor ∧ (entryOf u slot).dcnt = b.dstart ∧ (entryOf u slot).charge = b.charge
    ∧ (entryOf u slot).fresh = (b.ufloor == 0) ∧ (entryOf u slot).touch = s.time.ledger ∧ (entryOf u slot).credits = 0
    ∧ (entryOf u slot).gen = ((entryOf s slot).gen + 1) % 65536 ∧ (keyOf u b.keyh).kstate = .bound

theorem enrolledAs_monoBump {s u : State} {vi slot : Nat} {b : Enrolment} (h : enrolledAs s u vi slot b) (w term n : Nat) :
    enrolledAs s (monoBump w term n u) vi slot b := h
theorem entryOf_monoBump (w term n : Nat) (s : State) (k : Nat) : entryOf (monoBump w term n s) k = entryOf s k := rfl
theorem enrolEntry_enrols (vi slot : Nat) (b : Enrolment) (s : State) : enrolledAs s (enrolEntry vi slot b s) vi slot b := by
  obtain ⟨hself, -, hkey⟩ := occupy_occupies causeStation slot
    { identity := b.identity, tag := b.tag, vi := vi, profile := b.profile, keyh := b.keyh, cmodel := b.cmodel,
      cplan := b.cplan, ucnt := b.ufloor, dcnt := b.dstart, charge := b.charge, fresh := b.ufloor == 0 }
    { init := b.charge * 65536 } b.charge s
  unfold enrolledAs enrolEntry
  generalize occupy _ _ _ _ _ s = u at hself hkey ⊢
  rw [hself]
  exact ⟨rfl, rfl, rfl, rfl, rfl, rfl, rfl, rfl, rfl, rfl, rfl, rfl, rfl, hkey⟩
theorem enrolEntry_others (vi slot : Nat) (b : Enrolment) (s : State) {k : Nat} (hk : k ≠ slot) :
    entryOf (enrolEntry vi slot b s) k = entryOf s k ∧ accountOf (enrolEntry vi slot b s) k = accountOf s k :=
  (occupy_occupies ..).2.1 k hk

/-- A write that passes its checks answers OK and leaves what its owning rule does. -/
theorem answersOk_of_rule {P : State → Prop} (hP : ∀ u, P u → P (answering .ok u)) {vi idx sub el len v : Nat}
    {w : State → State × Status} {s u : State} (hw : writable s vi idx sub el len v = true) (hrule : w s = (u, .ok)) (h : P u) :
    ∃ u, answered (checkedWrite vi idx sub el len v w s) = .next u ∧ u.answer.status = .ok ∧ P u :=
  ⟨_, answered_of_writable hw hrule, rfl, hP u h⟩

section
variable {vi : Fin 16} {slot v : Nat} {s : State}

theorem enrol_enrols (hw : writable s vi 0x6011 1 slot 32 v = true) (hrange : enrolRange s (enrolmentOf v) = true)
    (hgood : Enrollable s vi slot (enrolmentOf v)) (hfree : (entryOf s slot).status = .free) :
    ∃ u, execEnrol vi slot v s = .next u ∧ u.answer.status = .ok ∧ enrolledAs s u vi slot (enrolmentOf v)
      ∧ ∀ k, k ≠ slot → entryOf u k = entryOf s k ∧ accountOf u k = accountOf s k := by
  have hrule : writeEnrol vi slot v s = (enrolEntry vi slot (enrolmentOf v) s, .ok) := by
    unfold writeEnrol
    dsimp only
    rw [if_neg (by simp [hrange]), touchFirst, touch_of_free _ hfree, hgood.check (by simp [hfree])]
  exact answersOk_of_rule (fun _ h => h) hw hrule ⟨enrolEntry_enrols .., fun k hk => enrolEntry_others _ _ _ _ hk⟩

/-- An entry that was touched leaves its slot. -/
theorem retireEntry_touched (hbursts : s.tx.bursts = []) (hdeferred : s.tx.deferred = []) :
    let u := retireEntry causeStation slot false (touchFirst slot s)
    u.time = s.time ∧ entryOf u slot = { gen := (entryOf s slot).gen }
      ∧ (∀ k, k ≠ slot → entryOf u k = entryOf s k ∧ accountOf u k = accountOf s k)
      ∧ (inShadow s (entryOf s slot).keyh = false → (keyOf u (entryOf s slot).keyh).kstate = .loaded) := by
  have honly := touch_only causeStation slot s
  have htouched := touch_ledgers causeStation slot slot s
  obtain ⟨htime, hself, hothers, hkey⟩ := retireEntry_leaves (cause := causeStation) (slot := slot) (transfer := false)
    (s := touchFirst slot s) (by rw [touchFirst, honly.tx, hbursts]) (by rw [touchFirst, honly.tx, hdeferred])
  rw [touchFirst, htouched.keyh, inShadow_of_shadows honly.shadows] at hkey
  refine ⟨htime.trans honly.time, ?_, fun k hk => ?_, hkey⟩
  · rw [hself, touchFirst, htouched.gen]
  · obtain ⟨hentry, haccount⟩ := hothers k hk
    exact ⟨hentry.trans (entryOf_touch_other _ hk s), haccount.trans (accountOf_touch_other _ hk s)⟩

section
variable (hlive : (entryOf s slot).status ≠ .free) (hbursts : s.tx.bursts = []) (hdeferred : s.tx.deferred = [])
include hlive hbursts hdeferred

theorem retire_retires (hw : writable s vi 0x6011 2 slot 1 v = true) (hstays : (entryOf s slot).migrating = false) :
    ∃ u, execRetire vi slot v s = .next u ∧ u.answer.status = .ok ∧ entryOf u slot = { gen := (entryOf s slot).gen }
      ∧ (inShadow s (entryOf s slot).keyh = false → (keyOf u (entryOf s slot).keyh).kstate = .loaded)
      ∧ ∀ k, k ≠ slot → entryOf u k = entryOf s k ∧ accountOf u k = accountOf s k := by
  have hrule : writeRetire slot s = (retireEntry causeStation slot false (touchFirst slot s), .ok) := by
    unfold writeRetire
    dsimp only
    rw [if_neg hlive, if_neg (by rw [touchFirst, (touch_ledgers ..).migrating, hstays]; exact Bool.false_ne_true)]
  obtain ⟨-, hself, hothers, hkey⟩ := retireEntry_touched hbursts hdeferred
  exact answersOk_of_rule (fun _ h => h) hw hrule ⟨hself, hkey, hothers⟩
theorem replace_enrols (hw : writable s vi 0x6011 3 slot 32 v = true) (hrange : enrolRange s (enrolmentOf v) = true)
    (hgood : Enrollable s vi slot (enrolmentOf v)) :
    ∃ u, execReplace vi slot v s = .next u ∧ u.answer.status = .ok ∧ enrolledAs s u vi slot (enrolmentOf v)
      ∧ ∀ k, k ≠ slot → entryOf u k = entryOf s k := by
  have hstill : ((entryOf (touch causeStation slot s) slot).status == .free) ≠ true := by
    rw [(touch_ledgers ..).status]
    simp [hlive]
  have hrule : writeReplace vi slot v s = (monoBump vi 3 1 (enrolEntry vi slot (enrolmentOf v)
      (retireEntry causeStation slot false (touchFirst slot s))), .ok) := by
    unfold writeReplace
    dsimp only
    rw [if_neg (by simp [hrange]), touchFirst, (hgood.touch causeStation).check hstill]
  obtain ⟨htime, hself, hothers, -⟩ := retireEntry_touched hbursts hdeferred
  have henrolled := enrolEntry_enrols vi slot (enrolmentOf v) (retireEntry causeStation slot false (touchFirst slot s))
  unfold enrolledAs at henrolled
  rw [htime, hself] at henrolled
  refine answersOk_of_rule (fun _ h => h) hw hrule ⟨enrolledAs_monoBump henrolled _ _ _, fun k hk => ?_⟩
  rw [entryOf_monoBump, (enrolEntry_others _ _ _ _ hk).1, (hothers k hk).1]
end
end

end Sys2Proof.Machine
end


section
/-! The re-key of O46 (08 R217, R218): the bursts that it builds first move no part of the entry that its shadow keeps (`keyPart`). -/

namespace Sys2Proof.Machine

open Sys2Proof.Safety

/-! ### What building a burst leaves of an entry (08 R215; 09 R246) -/

/-- What a re-key keeps of an entry as its shadow, with the identity that the entry keeps. -/
def keyPart (e : Entry) : Nat × Nat × Nat × Bool := (e.identity, e.keyh, e.ucnt, e.fresh)
/-- u has the entries of s, but for what one slot's entry has beside its key part. -/
def keyPartKept (slot : Nat) (s u : State) : Prop :=
  (∀ k, k ≠ slot → entryOf u k = entryOf s k) ∧ keyPart (entryOf u slot) = keyPart (entryOf s slot)

theorem keyPartKept.refl (slot : Nat) (s : State) : keyPartKept slot s s := ⟨fun _ _ => rfl, rfl⟩
theorem keyPartKept.trans {slot : Nat} {s t u : State} (h : keyPartKept slot s t) (g : keyPartKept slot t u) :
    keyPartKept slot s u := by
  obtain ⟨hothers, hself⟩ := h
  obtain ⟨gothers, gself⟩ := g
  exact ⟨fun k hk => (gothers k hk).trans (hothers k hk), gself.trans hself⟩
theorem keyPartKept_of_entries {slot : Nat} {s u : State} (h : u.roll.entries = s.roll.entries) : keyPartKept slot s u := by
  simp only [keyPartKept, entryOf, h, implies_true, and_self]
theorem foldl_keyPartKept {α : Type} {slot : Nat} {f : State → α → State} (l : List α)
    (hf : ∀ t, ∀ a ∈ l, keyPartKept slot t (f t a)) (s : State) : keyPartKept slot s (l.foldl f s) := by
  induction l generalizing s with
  | nil => exact .refl slot s
  | cons a l ih =>
    exact (hf s a List.mem_cons_self).trans (ih (fun t b hb => hf t b (List.mem_cons_of_mem _ hb)) _)
theorem keyPart_of_ledgers {e x : Entry} (h : ledgersOnly e x) : keyPart x = keyPart e := by
  rw [keyPart, h.identity, h.keyh, h.ucnt, h.fresh]
  rfl
theorem keyPart_setLow (b : Bool) (e : Entry) : keyPart (setLow b e) = keyPart e := rfl
theorem commit_keyPartKept (cause : Nat) {slot : Nat} {p : Entry × Account} {s : State}
    (h : keyPart p.1 = keyPart (entryOf s slot)) : keyPartKept slot s (commit cause slot p s) :=
  ⟨fun _ hk => entryOf_commit_other cause hk p s, by rw [entryOf_commit_self, keyPart_setLow, h]⟩
theorem settleCredits_keyPartKept (cause slot : Nat) {f : Entry × Account → Entry × Account}
    (hf : ∀ p, keyPart (f p).1 = keyPart p.1) (s : State) : keyPartKept slot s (settleCredits cause slot f s) := by
  unfold settleCredits
  split
  · exact .refl slot s
  · exact commit_keyPartKept _ ((hf _).trans (keyPart_of_ledgers (touchedPair_ledgers s slot)))
theorem dlBump_entries (vi term : Nat) (s : State) : (dlBump vi term s).roll.entries = s.roll.entries := rfl
theorem openReq_entries (r : ReqRec) (s : State) : (openReq r s).roll.entries = s.roll.entries := rfl
theorem endDeferred_keyPartKept (d : Deferred) (st : Status) (s : State) : keyPartKept d.slot s (endDeferred d st s) := by
  unfold endDeferred
  dsimp only
  refine keyPartKept.trans (keyPartKept_of_entries ?_) (settleCredits_keyPartKept _ _ ?_ _)
  · rw [dlBump_entries, dlBump_entries, openReq_entries]
    rfl
  · exact fun _ => rfl
theorem endDeferredOf_keyPartKept (slot : Nat) (st : Status) (s : State) : keyPartKept slot s (endDeferredOf slot st s) := by
  refine foldl_keyPartKept _ (fun t d hd => ?_) s
  obtain rfl : d.slot = slot := by simpa using (List.mem_filter.mp hd).2
  exact endDeferred_keyPartKept d st t
theorem takeDcnt_keyPartKept (slot : Nat) (s : State) : keyPartKept slot s (takeDcnt slot s) := by
  unfold takeDcnt
  extract_lets e last newly t u
  have ht : keyPartKept slot s t := commit_keyPartKept _ rfl
  have hu : keyPartKept slot t u := by
    refine keyPartKept_of_entries ?_
    show (if newly then monoBump e.vi 5 1 t else t).roll.entries = t.roll.entries
    split <;> rfl
  split
  · exact (ht.trans hu).trans (endDeferredOf_keyPartKept ..)
  · exact ht.trans hu
theorem buildBurst_keyPartKept (b : Burst) (s : State) : keyPartKept b.slot s (buildBurst b s) := by
  unfold buildBurst
  split
  · exact .refl _ s
  · exact (takeDcnt_keyPartKept b.slot s).trans (keyPartKept_of_entries rfl)

/-! ### Re-keying (08 R217) -/

/-- The bursts of an entry that its re-key still builds under the old key (09 Table 9.7). -/
def builtFor (slot : Nat) (s : State) : State := ((burstList s).filter (unbuilt s slot)).foldl (fun t b => buildBurst b t) s
theorem builtFor_keyPartKept (slot : Nat) (s : State) : keyPartKept slot s (builtFor slot s) := by
  refine foldl_keyPartKept _ (fun t b hb => ?_) s
  obtain rfl : b.slot = slot := by
    have hunbuilt := (List.mem_filter.mp hb).2
    simp only [unbuilt, Bool.and_eq_true, beq_iff_eq] at hunbuilt
    exact hunbuilt.1.1.1
  exact buildBurst_keyPartKept b t
/-- An entry under a new key and a new DCNT. -/
def rekeyed (keyh dstart : Nat) (e : Entry) : Entry :=
  { e with keyh := keyh, dcnt := dstart, ucnt := 0, fresh := true, lastAt := 0, rekeyShadow := true
           status := if e.status = .exhausted then .active else e.status }
/-- What a re-key keeps as the slot's shadow. -/
def shadowOf (s : State) (slot : Nat) : Shadow :=
  ⟨(entryOf s slot).keyh, (entryOf s slot).ucnt, (entryOf s slot).fresh, coveredBy s (entryOf s slot).tag⟩
def setShadow (slot : Nat) (x : Option Shadow) (s : State) : State :=
  { s with roll := { s.roll with shadows := tabSet none s.roll.shadows slot x } }
theorem setShadow_entries (slot : Nat) (x : Option Shadow) (s : State) : (setShadow slot x s).roll.entries = s.roll.entries := rfl
theorem shadows_setShadow (slot : Nat) (x : Option Shadow) (s : State) : tabGet none (setShadow slot x s).roll.shadows slot = x :=
  tabGet_set_self (none : Option Shadow) _ _ _
theorem bindKey_roll (h : Nat) (s : State) : (bindKey h s).roll = s.roll := rfl
/-- A re-key, but for the counts of the counter monotonicity account. -/
theorem rekeyEntry_only (slot keyh dstart : Nat) (s : State) : ∃ v a,
    committedOnly (setShadow slot (some (shadowOf (builtFor slot s) slot)) (builtFor slot s)) v
    ∧ v.roll.entries = (builtFor slot s).roll.entries
    ∧ let w := bindKey keyh (commit causeStation slot (rekeyed keyh dstart (entryOf (builtFor slot s) slot), a) v)
      sameRoll w (rekeyEntry slot keyh dstart s) ∧ (rekeyEntry slot keyh dstart s).cipher = w.cipher := by
  unfold rekeyEntry builtFor
  extract_lets t e x _ shadowed n v u
  refine ⟨v, accountOf v slot, journalRoll_only .., rfl, ?_⟩
  intro w
  have hcount : sameRoll w u ∧ u.cipher = w.cipher := ⟨monoBump_sameRoll .., rfl⟩
  split
  · exact ⟨hcount.1.trans (monoBump_sameRoll ..), hcount.2⟩
  · exact hcount
theorem rekeyEntry_rekeys (slot keyh dstart : Nat) (s : State) :
    let u := rekeyEntry slot keyh dstart s
    (∃ b, entryOf u slot = setLow b (rekeyed keyh dstart (entryOf (builtFor slot s) slot)))
      ∧ tabGet none u.roll.shadows slot = some (shadowOf (builtFor slot s) slot)
      ∧ (keyOf u keyh).kstate = .bound ∧ ∀ k, k ≠ slot → entryOf u k = entryOf (builtFor slot s) k := by
  obtain ⟨v, a, hv, hentries, ⟨uentries, -, ushadows, -⟩, hcipher⟩ := rekeyEntry_only slot keyh dstart s
  generalize rekeyEntry slot keyh dstart s = u at *
  have hentry : ∀ k, entryOf u k
      = entryOf (commit causeStation slot (rekeyed keyh dstart (entryOf (builtFor slot s) slot), a) v) k := fun k => by
    rw [entryOf, uentries]
    rfl
  refine ⟨⟨_, (hentry slot).trans (entryOf_commit_self ..)⟩, ?_, ?_, fun k hk => ?_⟩
  · rw [ushadows, bindKey_roll, (commit_only ..).shadows, hv.shadows]
    exact shadows_setShadow ..
  · rw [keyOf_of_cipher hcipher]
    exact keyOf_bindKey _ _
  · rw [hentry, entryOf_commit_other _ hk, entryOf, hentries]
    rfl

theorem unbuilt_of_cipher {s u : State} (h : u.cipher = s.cipher) (slot : Nat) (b : Burst) : unbuilt u slot b = unbuilt s slot b := by
  simp only [unbuilt, claimed, engineOf, h]
/-- No burst is left to build, and the touched state is re-keyed as it stands. -/
theorem builtFor_touch_none {slot : Nat} {s : State} (h : (burstList s).filter (unbuilt s slot) = []) (cause : Nat) :
    builtFor slot (touch cause slot s) = touch cause slot s := by
  have honly := touch_only cause slot s
  have hnone : (burstList (touch cause slot s)).filter (unbuilt (touch cause slot s) slot) = [] := by
    rw [burstList, honly.tx, funext (unbuilt_of_cipher honly.cipher slot)]
    exact h
  rw [builtFor, hnone]
  rfl

/-- u has the entry of a slot of s under a new key and DCNT, the old key and counter in its shadow, the other entries as they were. -/
def rekeyedAs (s u : State) (slot keyh dstart : Nat) : Prop :=
  ∃ x, (entryOf u slot).keyh = keyh ∧ (entryOf u slot).dcnt = dstart ∧ (entryOf u slot).ucnt = 0 ∧ (entryOf u slot).fresh = true
    ∧ (entryOf u slot).rekeyShadow = true ∧ (entryOf u slot).identity = (entryOf s slot).identity
    ∧ ((burstList s).filter (unbuilt s slot) = [] →
        (entryOf u slot).status = (if (entryOf s slot).status = .exhausted then .active else (entryOf s slot).status))
    ∧ tabGet none u.roll.shadows slot = some x ∧ x.keyh = (entryOf s slot).keyh ∧ x.ucnt = (entryOf s slot).ucnt
    ∧ x.fresh = (entryOf s slot).fresh ∧ (keyOf u keyh).kstate = .bound ∧ ∀ j, j ≠ slot → entryOf u j = entryOf s j
/-- A re-key of the touched state: the shadow has the key part of the entry as it was before the touch and the builds. -/
theorem rekeyEntry_touched (slot keyh dstart : Nat) (s : State) :
    rekeyedAs s (rekeyEntry slot keyh dstart (touchFirst slot s)) slot keyh dstart := by
  obtain ⟨⟨b, hself⟩, hshadow, hbound, hothers⟩ := rekeyEntry_rekeys slot keyh dstart (touchFirst slot s)
  obtain ⟨hbuiltOthers, hbuilt⟩ := builtFor_keyPartKept slot (touchFirst slot s)
  have hstatus : (burstList s).filter (unbuilt s slot) = [] →
      (entryOf (builtFor slot (touchFirst slot s)) slot).status = (entryOf s slot).status := fun h => by
    rw [touchFirst, builtFor_touch_none h, (touch_ledgers ..).status]
  have hpart := hbuilt.trans (keyPart_of_ledgers (touch_ledgers causeStation slot slot s))
  obtain ⟨hidentity, hkeyh, hucnt, hfresh⟩ := by simpa only [keyPart, Prod.mk.injEq] using hpart
  refine ⟨_, ?_, ?_, ?_, ?_, ?_, ?_, fun h => ?_, hshadow, hkeyh, hucnt, hfresh, hbound, fun j hj => ?_⟩
  iterate 5 rw [hself]; rfl
  · rw [hself, ← hidentity]
    rfl
  · rw [hself, ← hstatus h]
    rfl
  · exact (hothers j hj).trans ((hbuiltOthers j hj).trans (entryOf_touch_other _ hj s))

section
variable {vi : Fin 16} {slot v : Nat} {s : State} (hnotlast : octField 8 v 4 7 ≠ 0xFFFFFFFF)
  (hkey : keyAssigned s vi (octField 8 v 0 3) = true) (hloaded : (keyOf s (octField 8 v 0 3)).kstate = .loaded)
  (hunshadowed : inShadow s (octField 8 v 0 3) = false) (hlive : (entryOf s slot).status ≠ .free)
  (hstays : (entryOf s slot).migrating = false) (hnone : tabGet none s.roll.shadows slot = none) (hroom : shadowCount s < 4096)
include hnotlast hkey hloaded hunshadowed hlive hstays hnone hroom

/-- A re-key that passes its checks is made of the touched state. -/
theorem writeRekey_rekeys :
    writeRekey vi slot v s = (rekeyEntry slot (octField 8 v 0 3) (octField 8 v 4 7) (touchFirst slot s), .ok) := by
  unfold writeRekey
  extract_lets k d t e
  have honly : committedOnly s t := touch_only ..
  have htouched : ledgersOnly (entryOf s slot) e := touch_ledgers ..
  have hassigned : (!(keyAssigned t vi k && (keyOf t k).kstate != .empty)) = false := by
    rw [keyAssigned_of_settings honly.settings, keyOf_of_cipher honly.cipher, hkey, hloaded]
    rfl
  have hunbound : ((keyOf t k).kstate == .bound || inShadow t k) = false := by
    rw [keyOf_of_cipher honly.cipher, inShadow_of_shadows honly.shadows, hloaded, hunshadowed]
    rfl
  have hspace : ((tabGet none t.roll.shadows slot).isSome || decide (4096 ≤ shadowCount t)) = false := by
    rw [shadowCount, honly.shadows, hnone]
    simpa [shadowCount] using hroom
  have hlives : e.status ≠ .free := by rwa [htouched.status]
  have hstill : e.migrating = false := htouched.migrating.trans hstays
  simp only [show d ≠ 0xFFFFFFFF from hnotlast, hassigned, hunbound, hspace, hlives, hstill, if_false, Bool.false_eq_true]
  rfl
theorem rekey_rekeys (hw : writable s vi 0x6011 4 slot 8 v = true) : ∃ u, execRekey vi slot v s = .next u
    ∧ u.answer.status = .ok ∧ rekeyedAs s u slot (octField 8 v 0 3) (octField 8 v 4 7) :=
  answersOk_of_rule (fun _ h => h) hw (writeRekey_rekeys hnotlast hkey hloaded hunshadowed hlive hstays hnone hroom)
    (rekeyEntry_touched ..)
end
/-- A shadow is released: its key is wiped, and the entry is marked in a commit of its own. -/
theorem releaseShadow_eq {slot : Nat} {s : State} {x : Shadow} (hx : tabGet none s.roll.shadows slot = some x)
    (hcovered : x.covered = []) : releaseShadow slot s = if (entryOf s slot).rekeyShadow then
      commit causeVerdict slot ({ entryOf s slot with rekeyShadow := false }, accountOf s slot)
        (wipeKey (setShadow slot none s) x.keyh)
      else wipeKey (setShadow slot none s) x.keyh := by
  unfold releaseShadow
  rw [hx]
  exact if_pos (by simp [hcovered])
theorem wipeKey_roll (h : Nat) (s : State) : (wipeKey s h).roll = s.roll := rfl
theorem keyOf_wipeKey (h : Nat) (s : State) : keyOf (wipeKey s h) h = {} := keyOf_setKey _ _ _
theorem entryOf_setShadow (slot : Nat) (x : Option Shadow) (s : State) (k : Nat) : entryOf (setShadow slot x s) k = entryOf s k := rfl
theorem shadowRelease_releases {slot : Nat} {s : State} {x : Shadow} (hx : tabGet none s.roll.shadows slot = some x)
    (hcovered : x.covered = []) : tabGet none (releaseShadow slot s).roll.shadows slot = none
      ∧ keyOf (releaseShadow slot s) x.keyh = {}
      ∧ entryOf (releaseShadow slot s) slot = setLow (entryOf (releaseShadow slot s) slot).lowCharge
        { entryOf s slot with rekeyShadow := false }
      ∧ ∀ j, j ≠ slot → entryOf (releaseShadow slot s) j = entryOf s j := by
  have hentry : ∀ k, entryOf (wipeKey (setShadow slot none s) x.keyh) k = entryOf s k := fun _ => rfl
  rw [releaseShadow_eq hx hcovered]
  split
  · refine ⟨?_, ?_, ?_, fun j hj => ?_⟩
    · rw [(commit_only ..).shadows, wipeKey_roll, shadows_setShadow]
    · rw [keyOf_of_cipher (commit_only ..).cipher, keyOf_wipeKey]
    · exact entryOf_commit_self ..
    · rw [entryOf_commit_other _ hj, hentry]
  case isFalse hunmarked =>
    refine ⟨?_, keyOf_wipeKey _ _, ?_, fun j _ => hentry j⟩
    · rw [wipeKey_roll, shadows_setShadow]
    · rw [hentry, setLow, ← Bool.eq_false_iff.mpr hunmarked]

/-- Settles O46: enrolment, retirement and replacement by what taking and leaving a slot do, a re-key by the key part that it
keeps, a release by the one commit it makes. -/
theorem enrolments : Obligations.Enrolments := by
  refine ⟨fun vi slot v s => ⟨fun hw hgood hfree => ?_, fun hw hlive hstays hbursts hdeferred => ?_,
      fun hw hgood hlive hbursts hdeferred => ?_⟩,
    fun vi slot v s hw hnotlast hkey hloaded hunshadowed hlive hstays hnone hroom => ?_, fun slot s x hx hcovered => ?_⟩
  · obtain ⟨hrange, hassigned, hloaded, hunheld, hunhomed, hplace, hstays, hunbound, hunshadowed⟩ := hgood
    exact enrol_enrols hw hrange ⟨hassigned, hloaded, hunheld, hunhomed, hplace, hstays, hunbound, hunshadowed⟩ hfree
  · exact retire_retires hlive hbursts hdeferred hw hstays
  · obtain ⟨hrange, hassigned, hloaded, hunheld, hunhomed, hplace, hstays, hunbound, hunshadowed⟩ := hgood
    exact replace_enrols hlive hbursts hdeferred hw hrange
      ⟨hassigned, hloaded, hunheld, hunhomed, hplace, hstays, hunbound, hunshadowed⟩
  · obtain ⟨u, hexec, hok, x, hrekeyed⟩ := rekey_rekeys hnotlast hkey hloaded hunshadowed hlive hstays hnone hroom hw
    exact ⟨u, x, hexec, hok, hrekeyed⟩
  · exact ⟨_, rfl, shadowRelease_releases hx hcovered⟩

end Sys2Proof.Machine
end


section
/-! O47 (08 R467). The item checks of the Roll's objects come down to the slice and the value (`writeCheck_slot`); a write that passes
them is its owning rule's, which meets the FREE slot first. -/

namespace Sys2Proof.Machine

open Sys2Proof.Safety

/-! ### The item checks of the Roll's objects (16 Table 16.3; 08 R207) -/

/-- The row of an object by slot, LEN octets long, with values from lo to hi. -/
def slotRow (idx sub : Nat) (acc : Acc) (len lo hi : Nat) : ObjRow :=
  ⟨idx, sub, acc, true, len, len, false, .below, 262144, 0, lo, hi⟩

section
variable {idx sub len lo hi : Nat} {acc : Acc} (hidx : idx = 0x6010 ∨ idx = 0x6011)
include hidx

theorem valueExtra_slot (sub el len v : Nat) : valueExtra idx sub el len v = true := by
  rcases hidx with rfl | rfl <;> simp [valueExtra]
theorem valueFits_slot (hfits : hi < 256 ^ len) (el v : Nat) :
    (decide (v < 256 ^ len) && valueOk (slotRow idx sub acc len lo hi) el len v) = decide (lo ≤ v ∧ v ≤ hi) := by
  have hextra := valueExtra_slot hidx sub el len v
  simp only [valueOk, objValue, slotRow, hextra, Bool.false_eq_true, if_false, Bool.and_true, Nat.cast_le, Bool.decide_and]
  by_cases h : v ≤ hi
  · simp [h, Nat.lt_of_le_of_lt h hfits]
  · simp [h]
/-- A slot outside the slice, then the value. -/
theorem writeCheck_slot (hrow : findObj idx sub = some (slotRow idx sub acc len lo hi)) (hacc : acc = .rw ∨ acc = .wo)
    (hfits : hi < 256 ^ len) {s : State} {slot : Nat} (hslot : slot < 262144) (hports : portsServe s 0x6010 = true)
    (hgroups : s.molfen.openGroups = []) (vi v : Nat) : writeCheck s vi idx sub slot len v
      = if inSlice s vi slot = false then some .access else if decide (lo ≤ v ∧ v ≤ hi) = false then some .range
        else none := by
  have hserve : portsServe s idx = true := by
    rcases hidx with rfl | rfl
    · exact hports
    · exact hports
  have haccess : writeAccess (slotRow idx sub acc len lo hi) vi = true ∧ acc ≠ .rwq := by
    rcases hacc with rfl | rfl
    · exact ⟨rfl, by decide⟩
    · exact ⟨rfl, by decide⟩
  have hsel : selOk (slotRow idx sub acc len lo hi) slot = true := decide_eq_true hslot
  have hrule : writeRule s vi idx sub slot = inSlice s vi slot := if_pos (hidx.imp_right .inl)
  have hlen : lenOk (slotRow idx sub acc len lo hi) len = true := by
    rcases hidx with rfl | rfl <;> simp [lenOk, slotRow]
  have hkeys : ¬(idx = 0x7010 ∧ sub = 1 ∧ 4 ≤ len ∧ handleOf s vi (octField len v 0 3) = false) := by
    rcases hidx with rfl | rfl <;> simp
  have hlocked : lockedBy s vi idx sub slot = false := by simp [lockedBy, hgroups]
  have hacc' : ¬((slotRow idx sub acc len lo hi).acc = .rwq ∧ isServing s = true) := fun h => haccess.2 h.1
  unfold writeCheck
  rw [hserve, hrow]
  dsimp only
  rw [haccess.1, hsel, hrule, if_neg hkeys, hlen, hlocked, Bool.true_and, Bool.true_and, Bool.true_and,
    valueFits_slot hidx hfits, if_neg hacc']
  cases inSlice s vi slot <;> cases decide (lo ≤ v ∧ v ≤ hi) <;> rfl
theorem ownRule_slot (f : State → State × Status) (s : State) : ownRule idx sub f s = f s := by
  rcases hidx with rfl | rfl <;> simp [ownRule, rimObject]

/-! ### The order of the checks (08 R467) -/

/-- A write by slot answers the slice, then the value, then the FREE slot, and else what its owning rule does. -/
def takesTurns (s : State) (vi slot : Nat) (o : Out) (allowed : Bool) (own : State → State × Status) : Prop :=
  (inSlice s vi slot = false → o = .next (answering .access s))
    ∧ (inSlice s vi slot = true → allowed = false → o = .next (answering .range s))
    ∧ (inSlice s vi slot = true → allowed = true → (entryOf s slot).status = .free → o = .next (answering .unknown s))
    ∧ (inSlice s vi slot = true → allowed = true → (entryOf s slot).status ≠ .free → o = answered (own s))

theorem checkedWrite_slot (hrow : findObj idx sub = some (slotRow idx sub acc len lo hi)) (hacc : acc = .rw ∨ acc = .wo)
    (hfits : hi < 256 ^ len) {s : State} {slot : Nat} (hslot : slot < 262144) (hports : portsServe s 0x6010 = true)
    (hgroups : s.molfen.openGroups = []) (vi v : Nat) (own : State → State × Status) :
    checkedWrite vi idx sub slot len v own s = if inSlice s vi slot = false then (s, .access)
      else if decide (lo ≤ v ∧ v ≤ hi) = false then (s, .range) else own s := by
  rw [checkedWrite, writeCheck_slot hidx hrow hacc hfits hslot hports hgroups]
  cases inSlice s vi slot
  · rfl
  · cases decide (lo ≤ v ∧ v ≤ hi)
    · rfl
    · exact ownRule_slot hidx own s
theorem takesTurns_of_row (hrow : findObj idx sub = some (slotRow idx sub acc len lo hi)) (hacc : acc = .rw ∨ acc = .wo)
    (hfits : hi < 256 ^ len) {s : State} {slot : Nat} (hslot : slot < 262144) (hports : portsServe s 0x6010 = true)
    (hgroups : s.molfen.openGroups = []) (vi : Nat) {v : Nat} {allowed : Bool} (hallowed : allowed = decide (lo ≤ v ∧ v ≤ hi))
    {own : State → State × Status} (hfree : (entryOf s slot).status = .free → own s = (s, .unknown)) :
    takesTurns s vi slot (answered (checkedWrite vi idx sub slot len v own s)) allowed own := by
  rw [checkedWrite_slot hidx hrow hacc hfits hslot hports hgroups, ← hallowed]
  refine ⟨fun hin => ?_, fun hin hv => ?_, fun hin hv h => ?_, fun hin hv _ => ?_⟩
  · rw [hin]
    rfl
  · rw [hin, hv]
    rfl
  · rw [hin, hv]
    exact congrArg answered (hfree h)
  · rw [hin, hv]
    rfl
end

theorem entryWrite_of_free {slot : Nat} {s : State} (h : (entryOf s slot).status = .free) (f : State → State × Status) :
    entryWrite slot f s = (s, .unknown) := if_pos h

section
variable {slot : Nat} {s : State} (hslot : slot < 262144) (hports : portsServe s 0x6010 = true)
  (hgroups : s.molfen.openGroups = []) (vi : Fin 16)
include hslot hports hgroups

theorem statusWrite_takesTurns (v : Nat) :
    takesTurns s vi slot (execStatusWrite vi slot v s) (decide (v < 4)) (writeStatus slot v) :=
  takesTurns_of_row (.inl rfl) (lo := 0) (hi := 3) rfl (.inl rfl) (by decide) hslot hports hgroups vi
    (by rw [decide_eq_decide]; omega) fun h => entryWrite_of_free h _
theorem chargeSet_takesTurns (v : Nat) :
    takesTurns s vi slot (execChargeSet vi slot v s) (decide (v < 2 ^ 32)) (writeCharge slot v) :=
  takesTurns_of_row (.inl rfl) (lo := 0) (hi := 4294967295) rfl (.inr rfl) (by decide) hslot hports hgroups vi
    (by rw [decide_eq_decide]; omega) fun h => entryWrite_of_free h _
theorem counterRaise_takesTurns (v : Nat) :
    takesTurns s vi slot (execUplinkCounterRaise vi slot v s) (decide (v < 2 ^ 32)) (writeRaise slot v) :=
  takesTurns_of_row (.inl rfl) (lo := 0) (hi := 4294967295) rfl (.inr rfl) (by decide) hslot hports hgroups vi
    (by rw [decide_eq_decide]; omega) fun h => entryWrite_of_free h _
theorem modelAssign_takesTurns (v : Nat) :
    takesTurns s vi slot (execChargeModelAssign vi slot v s) (decide (v < 64)) (writeModel slot v) :=
  takesTurns_of_row (.inl rfl) (lo := 0) (hi := 63) rfl (.inl rfl) (by decide) hslot hports hgroups vi
    (by rw [decide_eq_decide]; omega) fun h => entryWrite_of_free h _
theorem planAssign_takesTurns (v : Nat) :
    takesTurns s vi slot (execCreditPlanAssign vi slot v s) (decide (v < 64)) (writePlan slot v) :=
  takesTurns_of_row (.inl rfl) (lo := 0) (hi := 63) rfl (.inl rfl) (by decide) hslot hports hgroups vi
    (by rw [decide_eq_decide]; omega) fun h => entryWrite_of_free h _
theorem retire_takesTurns (v : Nat) : takesTurns s vi slot (execRetire vi slot v s) (v == 1) (writeRetire slot) :=
  takesTurns_of_row (.inr rfl) (lo := 1) (hi := 1) rfl (.inr rfl) (by decide) hslot hports hgroups vi
    (by rw [beq_eq_decide, decide_eq_decide]; omega) fun h => if_pos h
theorem grant_takesTurns (v : Nat) : takesTurns s vi slot (execGrant vi slot v s) (decide (v < 2 ^ 16)) (writeGrant slot v) :=
  takesTurns_of_row (.inr rfl) (lo := 0) (hi := 65535) rfl (.inr rfl) (by decide) hslot hports hgroups vi
    (by rw [decide_eq_decide]; omega) fun h => entryWrite_of_free h _

/-! ### The enrolment family on a FREE slot (08 R467) -/

variable (hin : inSlice s vi slot = true) (hfree : (entryOf s slot).status = .free) {v : Nat}
include hin

/-- Any value of its length passes the item checks. -/
theorem writable_slot {sub len hi : Nat} (hrow : findObj 0x6011 sub = some (slotRow 0x6011 sub .wo len 0 hi))
    (hfits : hi < 256 ^ len) (hv : v ≤ hi) :
    writable s vi 0x6011 sub slot len v = true := by
  rw [writable, writeCheck_slot (.inr rfl) hrow (.inr rfl) hfits hslot hports hgroups, hin]
  simp [rimObject, hv]
include hfree
theorem replace_free_refused (hv : v < 256 ^ 32) (hrange : enrolRange s (enrolmentOf v) = true)
    (hassigned : keyAssigned s vi (enrolmentOf v).keyh = true) (hloaded : (keyOf s (enrolmentOf v).keyh).kstate ≠ .empty) :
    execReplace vi slot v s = .next (answering .refused s) := by
  have hrule : writeReplace vi slot v s = (s, .refused) := by
    have hkey : (!(keyAssigned s vi (enrolmentOf v).keyh && (keyOf s (enrolmentOf v).keyh).kstate != .empty)) = false := by
      simp [hassigned, hloaded]
    unfold writeReplace
    dsimp only
    rw [if_neg (by simp [hrange]), touchFirst, touch_of_free _ hfree]
    simp only [enrolCheck, hkey, hfree, Bool.false_eq_true, if_false, beq_self_eq_true, if_true]
  exact answered_of_writable (writable_slot hslot hports hgroups vi hin (hi := 256 ^ 32 - 1) rfl (by norm_num) (by omega)) hrule
theorem rekey_free_refused (hv : v < 256 ^ 8) (hnotlast : octField 8 v 4 7 ≠ 0xFFFFFFFF)
    (hassigned : keyAssigned s vi (octField 8 v 0 3) = true) (hloaded : (keyOf s (octField 8 v 0 3)).kstate ≠ .empty) :
    execRekey vi slot v s = .next (answering .refused s) := by
  have hrule : writeRekey vi slot v s = (s, .refused) := by
    have hkey : (!(keyAssigned s vi (octField 8 v 0 3) && (keyOf s (octField 8 v 0 3)).kstate != .empty)) = false := by
      simp [hassigned, hloaded]
    unfold writeRekey
    dsimp only
    rw [if_neg hnotlast, touchFirst, touch_of_free _ hfree, hkey, if_pos hfree]
    rfl
  exact answered_of_writable (writable_slot hslot hports hgroups vi hin (hi := 256 ^ 8 - 1) rfl (by norm_num) (by omega)) hrule
theorem enrol_free_enrols (hv : v < 256 ^ 32) (hrange : enrolRange s (enrolmentOf v) = true)
    (hgood : Enrollable s vi slot (enrolmentOf v)) :
    ∃ u, execEnrol vi slot v s = .next u ∧ u.answer.status = .ok ∧ (entryOf u slot).status = .active := by
  have hw := writable_slot hslot hports hgroups vi hin (v := v) (sub := 1) (hi := 256 ^ 32 - 1) rfl (by norm_num) (by omega)
  obtain ⟨u, hexec, hok, ⟨-, -, hactive, -⟩, -⟩ := enrol_enrols hw hrange hgood hfree
  exact ⟨u, hexec, hok, hactive⟩
end

/-! ### Reads of a FREE slot (08 R233, R467) -/

theorem readObject_roll {s : State} (hsnap : snapWithheld s = false) (vi sub el : Nat) {r : ObjRow}
    (hrow : findObj 0x6010 sub = some r) (hlen : r.lenLo = r.lenHi) : readObject s vi 0x6010 sub el
      = match readRoll (snapView s) vi 0x6010 sub el with
        | none => (.unknown, 0, 0)
        | some v => (.ok, r.lenHi, v % 256 ^ r.lenHi) := by
  unfold readObject
  rw [hrow, hsnap]
  simp only [hlen, if_true]
  rfl

/-- A FREE slot is read in the last snapshot: its entry and its status are there, what only an enrolment has is not. -/
theorem read_free_slot {s : State} (hsnap : snapWithheld s = false) (vi slot : Nat)
    (hfree : (entryOf (snapView s) slot).status = .free) :
    readObject s vi 0x6010 3 slot = (.unknown, 0, 0) ∧ readObject s vi 0x6010 6 slot = (.unknown, 0, 0)
      ∧ readObject s vi 0x6010 7 slot = (.unknown, 0, 0) ∧ readObject s vi 0x6010 8 slot = (.unknown, 0, 0)
      ∧ readObject s vi 0x6010 1 slot = (.ok, 64, packEntry (entryOf (snapView s) slot) % 256 ^ 64)
      ∧ readObject s vi 0x6010 2 slot = (.ok, 1, 0) := by
  refine ⟨?_, ?_, ?_, ?_, ?_, ?_⟩
  · rw [readObject_roll hsnap vi 3 slot rfl rfl]
    simp only [readRoll, hfree, if_true]
  · rw [readObject_roll hsnap vi 6 slot rfl rfl]
    simp only [readRoll, hfree, if_true]
  · rw [readObject_roll hsnap vi 7 slot rfl rfl]
    simp only [readRoll, hfree, if_true]
  · rw [readObject_roll hsnap vi 8 slot rfl rfl]
    simp only [readRoll, hfree, true_or, if_true]
  · rw [readObject_roll hsnap vi 1 slot rfl rfl]
    rfl
  · rw [readObject_roll hsnap vi 2 slot rfl rfl]
    simp only [readRoll, hfree]
    rfl

/-- Settles O47: each write comes down to its owning rule by the item checks, and every rule of the family meets the FREE slot first. -/
theorem freeSlots : Obligations.FreeSlots := by
  intro vi slot v s hslot hports hgroups
  refine ⟨statusWrite_takesTurns hslot hports hgroups vi v, chargeSet_takesTurns hslot hports hgroups vi v,
    counterRaise_takesTurns hslot hports hgroups vi v, modelAssign_takesTurns hslot hports hgroups vi v,
    planAssign_takesTurns hslot hports hgroups vi v, retire_takesTurns hslot hports hgroups vi v,
    grant_takesTurns hslot hports hgroups vi v, fun hin hfree => ⟨fun hv hrange hassigned hloaded => ⟨?_, ?_⟩, ?_⟩, ?_⟩
  · exact replace_free_refused hslot hports hgroups vi hin hfree hv hrange hassigned hloaded
  · exact fun hheld hhomed hplace hsettled hbound hshadow => enrol_free_enrols hslot hports hgroups vi hin hfree hv hrange
      ⟨hassigned, hloaded, hheld, hhomed, hplace, hsettled, hbound, hshadow⟩
  · exact rekey_free_refused hslot hports hgroups vi hin hfree
  · exact fun hsnap hfree => read_free_slot hsnap vi slot hfree
end Sys2Proof.Machine
end


section
/-! O58 (18 R459, R460; 08 R221). A member that is addressed by another has heard of it, and no more, as it takes the message
(`receiveCascade_here`); what it sends moves the lanes alone. The rest is what a touch, a commit, and taking or leaving a slot do. -/

namespace Sys2Proof.Machine

open Sys2Proof.Safety

/-! ### Messages between members (18 R449) -/

/-- The member has heard of another. -/
def heard (src : Nat) (s : State) : State :=
  { s with stack := { s.stack with
      present := s.stack.present ||| 2 ^ src
      lostHead := if s.stack.lostHead = src then 0xFF else s.stack.lostHead } }
theorem receiveCascade_here {east : Bool} {src dst : Nat} {s : State} (hstacked : stacked s = true) (hlink : linkUp s (!east) = true)
    (hsrc : src ≠ s.stack.position) (hdst : dst = s.stack.position) (type : Nat) (fields : List (Nat × Nat))
    (take : State → State) :
    receiveCascade east src dst type fields take s = take (heard src s) := by
  subst hdst
  simp [receiveCascade, heard, hstacked, hlink, hsrc]

theorem sentOnly.roll {s u : State} (h : sentOnly s u) : u.roll = s.roll := by rw [h]
theorem sentOnly.stack {s u : State} (h : sentOnly s u) : u.stack = s.stack := by rw [h]
theorem sendXfer_sent (peer phase slot dest atK : Nat) (entry : Option Entry) (s : State) :
    sentOnly s (sendXfer peer phase slot dest atK entry s) := cascadeSend_sent ..
theorem mem_cascadeOut (east : Bool) (type dst body n : Nat) (s : State) :
    .cascade east type dst body n ∈ (cascadeOut east type dst body n s).outbox := List.mem_cons_self
theorem mem_cascadeOut_of_mem {e : Emission} {s : State} (h : e ∈ s.outbox) (east : Bool) (type dst body n : Nat) :
    e ∈ (cascadeOut east type dst body n s).outbox := List.mem_cons_of_mem _ h
/-- A message leaves the way of its destination; a broadcast leaves that way too. -/
theorem mem_cascadeSend (dst type : Nat) (fields : List (Nat × Nat)) (s : State) :
    .cascade (goesEast s dst) type dst (bodyOf fields) (bodyLen fields) ∈ (cascadeSend dst type fields s).outbox := by
  unfold cascadeSend
  dsimp only
  split
  case isTrue hall =>
    simp only [Bool.and_eq_true, decide_eq_true_eq] at hall
    obtain ⟨⟨hdst, heast⟩, hwest⟩ := hall
    have hway : goesEast s dst = true := by simp [goesEast, hdst, heast, hwest]
    rw [hway]
    exact mem_cascadeOut_of_mem (mem_cascadeOut ..) ..
  case isFalse => exact mem_cascadeOut ..

/-! ### The transfer of a slot -/

theorem xferOf_of_stack {s u : State} (h : u.stack = s.stack) (k : Nat) : xferOf u k = xferOf s k := by rw [xferOf, h]; rfl
theorem xferOf_heard (src : Nat) (s : State) (k : Nat) : xferOf (heard src s) k = xferOf s k := rfl
theorem entryOf_heard (src : Nat) (s : State) (k : Nat) : entryOf (heard src s) k = entryOf s k := rfl
/-- A message after a transfer's step leaves the step. -/
theorem xferOf_sent {slot : Nat} {x : Xfer} {s u : State} (h : sentOnly (setXfer slot x s) u) : xferOf u slot = x :=
  (xferOf_of_stack h.stack slot).trans (xferOf_setXfer ..)
theorem entryOf_sent {slot : Nat} {x : Xfer} {s u : State} (h : sentOnly (setXfer slot x s) u) (k : Nat) :
    entryOf u k = entryOf s k := (entryOf_of_roll h.roll k).trans (entryOf_setXfer ..)
theorem xferOpen_of_parts {s u : State} {slot : Nat} (hstack : u.stack = s.stack)
    (hmigrating : (entryOf u slot).migrating = (entryOf s slot).migrating) : xferOpen u slot = xferOpen s slot := by
  rw [xferOpen, xferOpen, xferOf_of_stack hstack, hmigrating]

/-! ### The offer (18 R459 step 1) -/

/-- PREPARE moves of a transfer what it waits for and its state, and nothing of the Roll. -/
theorem sendPrepare_prepares (slot : Nat) (s : State) : (sendPrepare slot s).roll = s.roll
    ∧ ∃ waiting st, xferOf (sendPrepare slot s) slot = { xferOf s slot with waiting := waiting, xstate := st } := by
  unfold sendPrepare
  dsimp only
  split
  · exact ⟨(cascadeSend_sent ..).roll, _, _, xferOf_sent (cascadeSend_sent ..)⟩
  · exact ⟨rfl, _, _, rfl⟩

/-- An entry under way to another member. -/
def migrant (e : Entry) : Entry := { e with migrating := true }
theorem eq_of_setLow_migrant {b : Bool} {e x : Entry} (h : x = setLow b (migrant e)) :
    x = { e with migrating := true, lowCharge := x.lowCharge } := by
  rw [h]
  rfl
theorem migrant_setLow (b : Bool) (e : Entry) : migrant (setLow b e) = setLow b (migrant e) := rfl
/-- The transfer that a write of 0xA020:01 opens. -/
def offered (v vi : Nat) : Xfer :=
  { peer := octAt 12 v 0, otherSlot := octField 12 v 4 7, keyh := octField 12 v 8 11, vi := vi, waiting := true }

theorem entryOf_commit_migrant {slot : Nat} {s : State} (hlive : (entryOf s slot).status ≠ .free) (a : Account) :
    ∃ b, entryOf (commit causeHandover slot (migrant (entryOf (touchFirst slot s) slot), a) (touchFirst slot s)) slot
      = setLow b (migrant (touchedPair s slot).1) := by
  have htouched : entryOf (touchFirst slot s) slot = setLow _ (touchedPair s slot).1 :=
    (entryOf_touch_self _ hlive).trans (markLow_eq _)
  rw [entryOf_commit_self, htouched, migrant_setLow, setLow_setLow]
  exact ⟨_, rfl⟩
/-- u offers the entry of a slot of s to another member: the entry touched and MIGRATING, and in a transfer. -/
def offeredIn (s u : State) (slot v : Nat) : Prop :=
  entryOf u slot = { (touchedPair s slot).1 with migrating := true, lowCharge := (entryOf u slot).lowCharge }
    ∧ (xferOf u slot).peer = octAt 12 v 0 ∧ (xferOf u slot).otherSlot = octField 12 v 4 7
    ∧ (xferOf u slot).keyh = octField 12 v 8 11
theorem offer_offers {slot : Nat} {s : State} (hlive : (entryOf s slot).status ≠ .free) (v vi : Nat) (a : Account) :
    offeredIn s (sendPrepare slot (setXfer slot (offered v vi)
      (commit causeHandover slot (migrant (entryOf (touchFirst slot s) slot), a) (touchFirst slot s)))) slot v := by
  obtain ⟨hroll, waiting, st, hxfer⟩ := sendPrepare_prepares slot (setXfer slot (offered v vi)
    (commit causeHandover slot (migrant (entryOf (touchFirst slot s) slot), a) (touchFirst slot s)))
  obtain ⟨b, hmigrant⟩ := entryOf_commit_migrant hlive a
  have hself := (entryOf_of_roll hroll slot).trans ((entryOf_setXfer ..).trans hmigrant)
  rw [xferOf_setXfer] at hxfer
  refine ⟨eq_of_setLow_migrant hself, ?_⟩
  rw [hxfer]
  exact ⟨rfl, rfl, rfl⟩

section
variable {slot v : Nat} {s : State} (hlive : (entryOf s slot).status ≠ .free) (hmbz : octField 12 v 1 3 = 0)
  (hpeer : octAt 12 v 0 ≤ 7) (hother : octAt 12 v 0 ≠ s.stack.position) (hdest : octField 12 v 4 7 < 262144)
  (hkeyh : octField 12 v 8 11 < 327680) (hstacked : stacked s = true)
  (hmember : s.stack.members.testBit (octAt 12 v 0) = true) (hclosed : xferOpen s slot = false) (hdeferred : s.tx.deferred = [])
include hlive hmbz hpeer hother hdest hkeyh hstacked hmember hclosed hdeferred

theorem writeTransfer_offers :
    writeTransfer slot v s = (sendPrepare slot (setXfer slot (offered v (entryOf (touchFirst slot s) slot).vi)
      (commit causeHandover slot (migrant (entryOf (touchFirst slot s) slot), accountOf (touchFirst slot s) slot)
        (touchFirst slot s))), .ok) := by
  have hrange : ¬(octField 12 v 1 3 ≠ 0 ∨ 7 < octAt 12 v 0 ∨ octAt 12 v 0 = s.stack.position ∨ 262144 ≤ octField 12 v 4 7
      ∨ 327680 ≤ octField 12 v 8 11) := by omega
  have honly : committedOnly s (touchFirst slot s) := touch_only ..
  have hreach : (!stacked (touchFirst slot s) || !(touchFirst slot s).stack.members.testBit (octAt 12 v 0)) = false := by
    rw [stacked, honly.stack, hmember, Bool.not_true, Bool.or_false]
    exact congrArg not hstacked
  have hopen : xferOpen (touchFirst slot s) slot = false :=
    (xferOpen_of_parts honly.stack (touch_ledgers ..).migrating).trans hclosed
  have hnone : endDeferredOf slot .locked (touchFirst slot s) = touchFirst slot s :=
    endDeferredOf_none (honly.tx ▸ hdeferred)
  unfold writeTransfer
  dsimp only
  rw [if_neg hrange, entryWrite_of_live hlive, hreach, hopen, hnone]
  rfl
theorem transferWrite_offers {vi : Fin 16} (hw : writable s vi 0xA020 1 slot 12 v = true) :
    ∃ u, execTransferWrite vi slot v s = .next u ∧ u.answer.status = .ok ∧ offeredIn s u slot v :=
  answersOk_of_rule (fun _ h => h) hw
    (writeTransfer_offers hlive hmbz hpeer hother hdest hkeyh hstacked hmember hclosed hdeferred) (offer_offers hlive ..)
end

/-! ### The answers of the two members (18 R459 steps 2 and 3, R460) -/

theorem aheadAt_mod (s : State) : aheadAt s % 256 = 0 := Nat.mul_mod_left ..
theorem le_aheadAt (s : State) : s.time.airTime + 2560 ≤ aheadAt s := by
  unfold aheadAt ceilDiv
  omega
theorem clearMigrating_clears (slot : Nat) (s : State) :
    (entryOf (clearMigrating slot s) slot).migrating = false ∧ (clearMigrating slot s).stack = s.stack := by
  unfold clearMigrating
  dsimp only
  split
  · exact ⟨by rw [entryOf_commit_self]; rfl, (commit_only ..).stack⟩
  · exact ⟨Bool.eq_false_iff.mpr ‹_›, rfl⟩

section
variable {east : Bool} {src dst : Fin 256} {s : State} (hstacked : stacked s = true) (hlink : linkUp s (!east) = true)
  (hsrc : src.val ≠ s.stack.position) (hdst : dst.val = s.stack.position) (slot dest : Fin 262144)
include hstacked hlink hsrc hdst

theorem xferPrepare_answers (vi : Fin 16) (k : Nat) : ∃ u, execXferPrepare east src dst slot dest vi k s = .next u
    ∧ (prepareOk s vi dest k = true → xferOpen s dest = false → (xferOf u dest).xstate = .ready
      ∧ (xferOf u dest).receiver = true ∧ (xferOf u dest).peer = src.val ∧ (xferOf u dest).keyh = k)
    ∧ (prepareOk s vi dest k = false ∨ xferOpen s dest = true → u.stack.xfers = s.stack.xfers) := by
  refine ⟨_, congrArg Host.Outcome.next (receiveCascade_here hstacked hlink hsrc hdst ..), fun hok hclosed => ?_,
    fun hrefused => ?_⟩
  · have hready : (prepareOk (heard src s) vi dest k && !xferOpen (heard src s) dest) = true := by
      rw [show prepareOk (heard src s) vi dest k = _ from hok, show xferOpen (heard src s) dest = _ from hclosed]
      rfl
    rw [if_pos hready, xferOf_sent (sendXfer_sent ..)]
    exact ⟨rfl, rfl, rfl, rfl⟩
  · have habort : ¬(prepareOk (heard src s) vi dest k && !xferOpen (heard src s) dest) = true := by
      rcases hrefused with h | h
      · simp [show prepareOk (heard src s) vi dest k = _ from h]
      · simp [show xferOpen (heard src s) dest = _ from h]
    rw [if_neg habort, (sendXfer_sent ..).stack]
    rfl
theorem xferReady_commits (hprepared : (xferOf s slot).xstate = .prepared) (hsender : (xferOf s slot).receiver = false)
    (hpeer : (xferOf s slot).peer = src.val) : ∃ u, execXferReady east src dst slot dest s = .next u
      ∧ (xferOf u slot).xstate = .committed ∧ (xferOf u slot).atK % 256 = 0 ∧ s.time.airTime + 2560 ≤ (xferOf u slot).atK
      ∧ (xferOf u slot).entry = some (entryOf u slot) := by
  have hready : (xferOf (heard src s) slot).xstate = .prepared ∧ (!(xferOf (heard src s) slot).receiver) = true
      ∧ (xferOf (heard src s) slot).peer = src.val := by
    simp only [xferOf_heard]
    exact ⟨hprepared, by rw [hsender]; rfl, hpeer⟩
  refine ⟨_, congrArg Host.Outcome.next ((receiveCascade_here hstacked hlink hsrc hdst ..).trans (if_pos hready)), ?_⟩
  rw [xferOf_sent (sendXfer_sent ..), entryOf_sent (sendXfer_sent ..)]
  have htime : (touch causeHandover slot (heard src s)).time = s.time := (touch_only ..).time
  exact ⟨rfl, aheadAt_mod _, htime ▸ le_aheadAt (touch causeHandover slot (heard src s)), rfl⟩
theorem xferAbort_aborts (hprepared : (xferOf s slot).xstate = .prepared) (hsender : (xferOf s slot).receiver = false)
    (hpeer : (xferOf s slot).peer = src.val) : ∃ u, execXferAbort east src dst slot dest s = .next u
      ∧ (xferOf u slot).xstate = .aborted ∧ (entryOf u slot).migrating = false := by
  have hready : (!(xferOf (heard src s) slot).receiver) = true ∧ (xferOf (heard src s) slot).xstate = .prepared
      ∧ (xferOf (heard src s) slot).peer = src.val := by
    simp only [xferOf_heard]
    exact ⟨by rw [hsender]; rfl, hprepared, hpeer⟩
  refine ⟨_, congrArg Host.Outcome.next ((receiveCascade_here hstacked hlink hsrc hdst ..).trans (if_pos hready)), ?_⟩
  obtain ⟨hcleared, hstack⟩ := clearMigrating_clears slot
    (setXfer slot { xferOf (heard src s) slot with xstate := .aborted, waiting := false } (heard src s))
  exact ⟨congrArg Xfer.xstate ((xferOf_of_stack hstack _).trans (xferOf_setXfer ..)), hcleared⟩
theorem xferCommit_commits (n e : Nat) (hwaits : (xferOf s dest).xstate = .ready ∨ (xferOf s dest).xstate = .inDoubt)
    (hreceiver : (xferOf s dest).receiver = true) (hpeer : (xferOf s dest).peer = src.val) :
    ∃ u, execXferCommit east src dst slot dest n e s = .next u ∧ (xferOf u dest).xstate = .committed
      ∧ (xferOf u dest).atK = n % 2 ^ 64 ∧ (xferOf u dest).entry = some (unpackEntry e) := by
  refine ⟨_, congrArg Host.Outcome.next ((receiveCascade_here hstacked hlink hsrc hdst ..).trans
    (if_pos ⟨hwaits, hreceiver, hpeer⟩)), ?_⟩
  rw [xferOf_setXfer]
  exact ⟨rfl, rfl, rfl⟩
theorem xferQuery_answers : ∃ u b k, execXferQuery east src dst slot dest s = .next u
    ∧ .cascade (goesEast s src) 0x43 src b k ∈ u.outbox ∧ u.stack.xfers = s.stack.xfers := by
  obtain ⟨phase, atK, entry, hanswer⟩ : ∃ phase atK entry, execXferQuery east src dst slot dest s
      = .next (sendXfer src phase slot dest atK entry (heard src s)) := by
    unfold execXferQuery
    dsimp only
    rw [receiveCascade_here hstacked hlink hsrc hdst]
    split
    · exact ⟨_, _, _, rfl⟩
    · exact ⟨_, _, _, rfl⟩
  have hstack : (sendXfer src phase slot dest atK entry (heard src s)).stack = (heard src s).stack := (sendXfer_sent ..).stack
  exact ⟨_, _, _, hanswer, mem_cascadeSend .., by rw [hstack]; rfl⟩
end

/-! ### AT_k (18 R459 step 4, R460) -/

theorem takeOver_takes (slot : Nat) (e : Entry) (s : State) : ∃ b, entryOf (takeOver slot e s) slot
    = setLow b (occupant s slot (receivedEntry s (xferOf s slot) e).1) := by
  obtain ⟨hself, -, -⟩ := occupy_occupies causeHandover slot (receivedEntry s (xferOf s slot) e).1
    (receivedEntry s (xferOf s slot) e).2 (receivedEntry s (xferOf s slot) e).1.charge s
  refine ⟨_, Eq.trans ?_ hself⟩
  unfold takeOver
  dsimp only
  rw [entryOf_setXfer]
  split
  · exact entryOf_monoBump ..
  · rfl

section
variable {slot : Fin 262144} {n : Nat} {s : State} (hvalid : s.time.valid = true)
include hvalid

theorem xferAtK_sends {e : Entry} (hstate : (xferOf s slot).xstate = .committed) (hentry : (xferOf s slot).entry = some e)
    (hdue : (xferOf s slot).atK ≤ n) (hsender : (xferOf s slot).receiver = false) (hmigrating : (entryOf s slot).migrating = true)
    (hbursts : s.tx.bursts = []) (hdeferred : s.tx.deferred = []) :
    ∃ u, execXferAtK slot n s = .next u ∧ entryOf u slot = { gen := (entryOf s slot).gen } := by
  have hexec : execXferAtK slot n s = .next (sendAway slot (advanceTo n s)) := by
    simp only [execXferAtK, hvalid, hstate, hentry, hsender, hdue, hmigrating, if_true, and_self]
  obtain ⟨-, hself, -, -⟩ := retireEntry_leaves (cause := causeHandover) (slot := slot) (transfer := true) (s := advanceTo n s)
    (by rw [advanceTo_tx]; exact hbursts) (by rw [advanceTo_tx]; exact hdeferred)
  rw [entryOf_advanceTo] at hself
  exact ⟨_, hexec, (entryOf_setXfer ..).trans hself⟩
theorem xferAtK_receives {e : Entry} (hstate : (xferOf s slot).xstate = .committed) (hentry : (xferOf s slot).entry = some e)
    (hdue : (xferOf s slot).atK ≤ n) (hreceiver : (xferOf s slot).receiver = true) (hfree : (entryOf s slot).status = .free) :
    ∃ u, execXferAtK slot n s = .next u ∧ (entryOf u slot).identity = e.identity ∧ (entryOf u slot).tag = e.tag
      ∧ (entryOf u slot).ucnt = e.ucnt ∧ (entryOf u slot).keyh = (xferOf s slot).keyh ∧ (entryOf u slot).vi = (xferOf s slot).vi
      ∧ (entryOf u slot).gen = ((entryOf s slot).gen + 1) % 65536 := by
  have hexec : execXferAtK slot n s = .next (takeOver slot e (advanceTo n s)) := by
    simp only [execXferAtK, hvalid, hstate, hentry, hreceiver, hdue, hfree, if_true, and_self]
  obtain ⟨b, hself⟩ := takeOver_takes slot e (advanceTo n s)
  rw [occupant, xferOf_advanceTo, entryOf_advanceTo] at hself
  refine ⟨_, hexec, ?_⟩
  rw [hself]
  exact ⟨rfl, rfl, rfl, rfl, rfl, rfl⟩
theorem xferAtK_doubts (hstate : (xferOf s slot).xstate = .ready) (hreceiver : (xferOf s slot).receiver = true) :
    ∃ u, execXferAtK slot n s = .next u ∧ (xferOf u slot).xstate = .inDoubt ∧ (xferOf u slot).atK = n ∧ u.roll = s.roll := by
  have hexec : execXferAtK slot n s = .next (sendXfer (xferOf s slot).peer 5 (xferOf s slot).otherSlot slot n none
      (setXfer slot { xferOf s slot with xstate := .inDoubt, atK := n } (advanceTo n s))) := by
    simp only [execXferAtK, hvalid, hstate, hreceiver, if_true]
  have hsent := sendXfer_sent (xferOf s slot).peer 5 (xferOf s slot).otherSlot slot n none
    (setXfer slot { xferOf s slot with xstate := .inDoubt, atK := n } (advanceTo n s))
  refine ⟨_, hexec, ?_, ?_, hsent.roll.trans (advanceTo_roll ..)⟩
  · rw [xferOf_sent hsent]
  · rw [xferOf_sent hsent]
end

/-- Settles O58: the offer by the touch and the one commit it makes, the messages by what the member that is addressed takes, AT_k
by what leaving and taking a slot do. -/
theorem transfers : Obligations.Transfers := by
  refine ⟨?_, ?_, ?_⟩
  · intro vi slot v s hw hmbz hpeer hother hdest hkeyh hlive hstacked hmember hclosed hdeferred
    exact transferWrite_offers hlive hmbz hpeer hother hdest hkeyh hstacked hmember hclosed hdeferred hw
  · intro east src dst slot dest s hstacked hlink hsrc hdst
    refine ⟨xferPrepare_answers hstacked hlink hsrc hdst slot dest, fun hprepared hsender hpeer => ⟨?_, ?_⟩,
      xferCommit_commits hstacked hlink hsrc hdst slot dest, xferQuery_answers hstacked hlink hsrc hdst slot dest⟩
    · exact xferReady_commits hstacked hlink hsrc hdst slot dest hprepared hsender hpeer
    · exact xferAbort_aborts hstacked hlink hsrc hdst slot dest hprepared hsender hpeer
  · intro slot n s hvalid
    refine ⟨fun e hstate hentry hdue => ⟨?_, ?_⟩, xferAtK_doubts hvalid⟩
    · exact xferAtK_sends hvalid hstate hentry hdue
    · exact xferAtK_receives hvalid hstate hentry hdue
end Sys2Proof.Machine
end


section
/-! O51 (09 R248, R251, R255, R261). Each write is its owning rule's, of which the checks met leave the one branch that sets the
setting. After a ramp profile the RAMPDEFs move the lanes alone (`sentOnly`); after RATE or DEPTH the bucket is cut to DEPTH. -/

namespace Sys2Proof.Machine

open Sys2Proof.Safety

theorem sentOnly.settings {s u : State} (h : sentOnly s u) : u.settings = s.settings := by rw [h]
theorem sentOnly.tx {s u : State} (h : sentOnly s u) : u.tx = s.tx := by rw [h]
theorem setting_of_settings {s u : State} (h : u.settings = s.settings) (idx sub el : Nat) :
    setting u idx sub el = setting s idx sub el := by rw [setting, setting, h]

/-! ### Staged replies (R248) and coefficient sets (R251) -/

/-- The octets beyond the length are cleared. -/
theorem writeReply_stages {v : Nat} (hlo : 1 ≤ replyLength v) (hhi : replyLength v ≤ 255) (vi i : Nat) (s : State) :
    writeReply vi i v s = (putSetting s vi 0x5030 2 i (v - v % 256 ^ (255 - replyLength v)), .ok) := by
  have hlength : ¬(replyLength v = 0 ∨ 255 < replyLength v) := by omega
  exact if_neg hlength
theorem writeCoefficients_set {v : Nat} (h : tapSum v = 32768) (el : Nat) (s : State) :
    writeCoefficients 1 el v s = (putSetting s 0 0x5010 1 el v, .ok) := if_pos h
theorem writeCoefficients_selection {v : Nat} {s : State} (h : tapSum (setting s 0x5010 1 v) = 32768) (el : Nat) :
    writeCoefficients 2 el v s = (putSetting s 0 0x5010 2 el v, .ok) := if_pos h

/-! ### Ramp profiles (R255) -/

theorem sendRampdef_sent (l slot profile : Nat) (s : State) : sentOnly s (sendRampdef l slot profile s) := sendMsg_sent ..
/-- RAMPDEF to head h: by its ACTIVE lane, else by its own lane where that is LOCKED. -/
def sendRampdefHead (slot v : Nat) (t : State) (h : Nat) : State :=
  match activeLane t h with
  | some l => sendRampdef l slot v t
  | none => if (laneOf t h).locked then sendRampdef h slot v t else t
theorem sendRampdefHead_sent (slot v : Nat) (t : State) (h : Nat) : sentOnly t (sendRampdefHead slot v t h) := by
  unfold sendRampdefHead
  split
  · exact sendRampdef_sent ..
  · split
    · exact sendRampdef_sent ..
    · rfl
theorem sendRampdefHeads_sent (slot v : Nat) (l : List Nat) (s : State) : sentOnly s (l.foldl (sendRampdefHead slot v) s) :=
  List.foldlRecOn (motive := sentOnly s) l _ rfl fun t ht h _ => ht.trans (sendRampdefHead_sent slot v t h)
theorem writeRamp_sends {slot v : Nat} {s : State} (hok : rampOk v = true) (hfree : rampBusy s slot = false) :
    ∃ u, writeRamp slot v s = (u, .ok) ∧ sentOnly (putSetting s 0 0x5020 1 slot v) u := by
  refine ⟨_, ?_, sendRampdefHeads_sent slot v (List.range 12) _⟩
  unfold writeRamp
  rw [hok, hfree]
  rfl
theorem rampProfileWrite_writes {vi : Fin 16} {slot v : Nat} {s : State} (hw : writable s vi 0x5020 1 slot 66 v = true)
    (hok : rampOk v = true) (hfree : rampBusy s slot = false) :
    ∃ u, execRampProfileWrite vi slot v s = .next u ∧ u.answer.status = .ok ∧ setting u 0x5020 1 slot = v ∧ u.tx = s.tx := by
  obtain ⟨u, hwrite, hsent⟩ := writeRamp_sends hok hfree
  have hsetting : setting u 0x5020 1 slot = v :=
    (setting_of_settings hsent.settings 0x5020 1 slot).trans (setting_putSetting s 0x5020 1 slot v)
  exact ⟨_, answered_of_writable hw hwrite, rfl, hsetting, hsent.tx⟩

/-! ### The duty settings (R261) -/

theorem setting_writeDuty (sub h v : Nat) (s : State) : setting (writeDuty sub h v s).1 0x5022 sub h = v :=
  setting_putSetting (fillBucket h s) 0x5022 sub h v
/-- After either write the bucket holds no more than its DEPTH. -/
theorem tokens_writeDuty_le (sub h v : Nat) (s : State) :
    tabGet 0 (writeDuty sub h v s).1.tx.tokens h ≤ dutyDepth (writeDuty sub h v s).1 h := by
  simp only [writeDuty, tabMod, tabGet_set_self]
  exact Nat.min_le_right _ _
theorem dutyDepth_writeDuty (h v : Nat) (s : State) : dutyDepth (writeDuty 2 h v s).1 h = v * 65536 := by
  rw [dutyDepth, setting_writeDuty]

section
variable {vi : Fin 16} {h v : Nat} {s : State}

theorem dutyDepthWrite_cuts (hw : writable s vi 0x5022 2 h 4 v = true) :
    ∃ u, execDutyBucketWrite vi true h v s = .next u ∧ u.answer.status = .ok ∧ setting u 0x5022 2 h = v
      ∧ tabGet 0 u.tx.tokens h ≤ v * 65536 := by
  refine ⟨_, answered_of_writable hw rfl, rfl, setting_writeDuty 2 h v s, ?_⟩
  exact (tokens_writeDuty_le 2 h v s).trans_eq (dutyDepth_writeDuty h v s)
theorem dutyRateWrite_writes (hw : writable s vi 0x5022 1 h 2 v = true) :
    ∃ u, execDutyBucketWrite vi false h v s = .next u ∧ u.answer.status = .ok ∧ setting u 0x5022 1 h = v :=
  ⟨_, answered_of_writable hw rfl, rfl, setting_writeDuty 1 h v s⟩
end

/-- Settles O51: each write by the branch of its owning rule, the ramp profile and the bucket by what that branch moves besides. -/
theorem downlinkSettings : Obligations.DownlinkSettings := by
  refine fun vi i v s => ⟨fun hw hlo hhi => ?_, fun hw hok hfree => ?_, fun hw hgain => ?_, fun hw hgain => ?_,
    fun hw => ?_, fun hw => ?_⟩
  · exact answered_of_writable hw (writeReply_stages hlo hhi vi i s)
  · exact rampProfileWrite_writes hw hok hfree
  · exact answered_of_writable hw (writeCoefficients_set hgain i s)
  · exact answered_of_writable hw (writeCoefficients_selection hgain i)
  · exact dutyDepthWrite_cuts hw
  · exact dutyRateWrite_writes hw

end Sys2Proof.Machine
end

section
/-! O37 (10 R281 to R283). A wrapped block that opens puts its key into the slot it names, said once in `loadInto_opens`; the three
loads differ in the slot alone, and the erasure and the owner write in the check that they pass. -/

namespace Sys2Proof.Machine

open Sys2Proof.Safety

/-! ### Loads, erasures and owners -/

/-- Checks 2 to 5 of R282 met, the slot holds the key, LOADED. -/
theorem loadInto_opens {vi target len v : Nat} {s : State} {k : List Nat} (hload : (keyOf s (loadKeyOf vi)).kstate ≠ .empty)
    (hfree : (keyOf s target).kstate ≠ .bound)
    (hopen : aesUnwrap (keyOf s (loadKeyOf vi)).key (wrappedOf len v) = some k) :
    loadInto vi target len v s = (setKey s target { kstate := .loaded, wide := decide (k.length = 32), key := k }, .ok) := by
  rw [loadInto, if_neg hload, if_neg hfree, hopen]
theorem writeKeyLoad_assigned {vi len v : Nat} {s : State} (h : keyAssigned s vi (octField len v 0 3) = true) :
    writeKeyLoad vi len v s = loadInto vi (octField len v 0 3) len v s := by
  simp [writeKeyLoad, h]
theorem writeKeyErase_unbound {h : Nat} {s : State} (hfree : (keyOf s h).kstate ≠ .bound) :
    writeKeyErase h s = (setKey s h {}, .ok) := by
  unfold writeKeyErase
  split
  · exact absurd ‹_› hfree
  · rfl
theorem writeBlockOwner_unused {blk v : Nat} {s : State}
    (h : s.cipher.keys.any (fun p => p.1 / 1024 == blk && p.2.kstate ≠ .empty) = false) :
    writeBlockOwner blk v s = (putSetting s 0 0x7000 1 blk v, .ok) := by
  rw [writeBlockOwner, h]
  rfl

/-! ### Management keys (R283) -/

/-- Both replay counters of a VI, and what they are read against, begin again. -/
def restartReplay (el : Nat) (s : State) : State :=
  { s with molfen := { s.molfen with
      rxCnt := tabSet 0 s.molfen.rxCnt el 0, rxWindow := tabSet 0 s.molfen.rxWindow el 0
      txCnt := tabSet 0 s.molfen.txCnt el 0, txReserved := tabSet 0 s.molfen.txReserved el 0 } }
theorem keyOf_restartReplay (el : Nat) (s : State) (k : Nat) : keyOf (restartReplay el s) k = keyOf s k := rfl
theorem rxCnt_restartReplay (el : Nat) (s : State) : tabGet 0 (restartReplay el s).molfen.rxCnt el = 0 :=
  tabGet_set_self 0 s.molfen.rxCnt el 0
theorem txCnt_restartReplay (el : Nat) (s : State) : tabGet 0 (restartReplay el s).molfen.txCnt el = 0 :=
  tabGet_set_self 0 s.molfen.txCnt el 0
theorem writeManagementKey_loaded {vi el len v : Nat} {s u : State}
    (h : loadInto vi (managementKeyOf el) len v s = (u, .ok)) :
    writeManagementKey vi el len v s = (restartReplay el u, .ok) := by
  rw [writeManagementKey, h]
  rfl

/-- Settles O37: the loads by `loadInto_opens`, the erasure and the owner write by the branch that their check leaves. -/
theorem keyWrites : Obligations.KeyWrites := by
  intro vi el len v s k
  refine ⟨fun hw hassigned hopens => ?_, fun hw hfree => ?_, fun hw hopens => ?_, fun hw hopens => ?_, fun hw hunused => ?_⟩
  · obtain ⟨-, hload, hfree, hopen⟩ := hopens
    exact answered_of_writable hw ((writeKeyLoad_assigned hassigned).trans (loadInto_opens hload hfree hopen))
  · exact answered_of_writable hw (writeKeyErase_unbound hfree)
  · obtain ⟨-, hload, hfree, hopen⟩ := hopens
    exact answered_of_writable hw (loadInto_opens hload hfree hopen)
  · obtain ⟨-, hload, hfree, hopen⟩ := hopens
    refine ⟨_, answered_of_writable hw (writeManagementKey_loaded (loadInto_opens hload hfree hopen)), rfl, ?_, ?_, ?_, ?_⟩
    · exact (keyOf_restartReplay el _ _).trans (keyOf_setKey ..)
    · exact rxCnt_restartReplay ..
    · exact txCnt_restartReplay ..
    · exact fun j hj => (keyOf_restartReplay el _ _).trans (keyOf_setKey_other _ _ _ j hj)
  · exact answered_of_writable hw (writeBlockOwner_unused hunused)

end Sys2Proof.Machine
end

section
/-! O36 (10 R276, R277; 07 R187), with the reads of PASS that O35 speaks of (10 R275). What a read of PASS answers depends on the
engine it finds; of the writes, the one that `releases` the pass is answered BUSY or wipes, and every other is refused. -/

namespace Sys2Proof.Machine

open Sys2Proof.Safety

section
variable {who e v : Nat} {s : State}

/-! ### Reads of PASS (R275, R277) -/

theorem readPass_free (hwipe : (engineOf s e).wiping = false) (hfence : (engineOf s e).fenced = false)
    (hfree : (engineOf s e).pass = 0) :
    readPass who e s = (setEngine s e { engineOf s e with pass := who, cmdWritten := false }, 0) := by
  simp [readPass, hwipe, hfence, hfree]
theorem readPass_held (hwipe : (engineOf s e).wiping = false) (hfence : (engineOf s e).fenced = false)
    (hheld : (engineOf s e).pass ≠ 0) : readPass who e s = (s, (engineOf s e).pass) := by
  simp [readPass, hwipe, hfence, hheld]
theorem readPass_closed (h : (engineOf s e).wiping = true ∨ (engineOf s e).fenced = true) :
    readPass who e s = (s, 0xFFFF) := by
  simp [readPass, h]

/-! ### Writes of PASS (R276; 07 R187) -/

/-- The write that may release a pass: the owner's own identity, by the owner, who is not the Marker. -/
def releases (s : State) (who e v : Nat) : Prop :=
  (engineOf s e).pass = who ∧ v % 65536 = who ∧ who ≠ 0 ∧ who ≠ markerIdentity
theorem writePass_refused (h : ¬ releases s who e v) :
    writePass who e v s = (setEngine s e { engineOf s e with refusedWrite := true }, .ok) := by
  refine if_pos (not_not.mp fun hcond => h ?_)
  simp only [not_or, not_not] at hcond
  obtain ⟨hheld, hwho, hv, hmarker⟩ := hcond
  subst hwho
  exact ⟨rfl, hv, hheld, hmarker⟩
theorem writePass_releases (h : releases s who e v) :
    writePass who e v s = if (engineOf s e).run.isSome then (s, .busy)
      else (setEngine s e { beginWipe (engineOf s e) with pass := 0, cmdWritten := false }, .ok) := by
  obtain ⟨rfl, hv, hheld, hmarker⟩ := h
  refine if_neg ?_
  simp [hheld, hv, hmarker]
end

/-- Settles O36: a write that `releases` the pass by BUSY, any other by the refused write. -/
theorem passRelease : Obligations.PassRelease := by
  intro e who v s hwho hlt hv x
  have hmod : v % 65536 = v := Nat.mod_eq_of_lt hv
  refine ⟨fun hmarker hown hval hidle => ?_, fun hmarker hown hval hbusy => ?_, fun h => ?_⟩
  · have hrel : releases s who e v := ⟨hown, hmod.trans hval, hwho, hmarker⟩
    exact congrArg answered ((writePass_releases hrel).trans (if_neg (Option.not_isSome_iff_eq_none.mpr hidle)))
  · have hrel : releases s who e v := ⟨hown, hmod.trans hval, hwho, hmarker⟩
    exact congrArg answered ((writePass_releases hrel).trans (if_pos (Option.isSome_iff_ne_none.mpr hbusy)))
  · have hnot : ¬ releases s who e v := by
      rintro ⟨hown, hval, -, hmarker⟩
      rw [hmod] at hval
      rcases h with h | h | h <;> contradiction
    exact congrArg answered (writePass_refused hnot)

end Sys2Proof.Machine
end

section
/-! O35 (10 R268, R271 to R278). A forced release is read off each engine it leaves. A write of CMD whose checks are met sets its
engine last, over a state that has the entries it found or, for OP 1, the entry's DCNT taken (`writeCmd_starts`); what ends the
requests of an entry at its last DCNT moves none of the DCNTs. -/

namespace Sys2Proof.Machine

open Sys2Proof.Safety

/-! ### Forced releases (R278) -/

/-- An engine that is force-released. -/
def releasedEngine (x : Engine) : Engine :=
  { beginWipe x with
    status := if x.run.isSome then .aborted else x.status
    pass := 0, cmdWritten := false, forcedCount := inc32 x.forcedCount }
theorem forceRelease_cipher (e : Nat) (s : State) :
    (forceRelease e s).cipher = (setEngine s e (releasedEngine (engineOf s e))).cipher := (errRecord_report _ _).cipher
theorem engineOf_of_cipher {s u : State} (h : u.cipher = s.cipher) (k : Nat) : engineOf u k = engineOf s k := by
  rw [engineOf, engineOf, h]
theorem engineOf_forceRelease (e : Nat) (s : State) : engineOf (forceRelease e s) e = releasedEngine (engineOf s e) :=
  (engineOf_of_cipher (forceRelease_cipher e s) e).trans (engineOf_setEngine ..)
theorem engineOf_forceRelease_other {e k : Nat} (h : k ≠ e) (s : State) : engineOf (forceRelease e s) k = engineOf s k :=
  (engineOf_of_cipher (forceRelease_cipher e s) k).trans (engineOf_setEngine_other _ _ _ k h)

/-! ### The word of CMD (Table 10.3) -/

section
variable {op tlen : Nat} (evt : Bool)

theorem cmdWord_op (hop : op < 16) : cmdWord op tlen evt % 16 = op := by
  unfold cmdWord
  omega
theorem cmdWord_tlen (hop : op < 16) (htlen : tlen < 16) : cmdWord op tlen evt / 16 % 16 = tlen := by
  unfold cmdWord
  omega
theorem cmdWord_evt (hop : op < 16) : (cmdWord op tlen evt).testBit 8 = evt := by
  have hbit : cmdWord op tlen evt / 2 ^ 8 = b2n evt := by
    unfold cmdWord
    omega
  rw [Nat.testBit_eq_decide_div_mod_eq, hbit]
  cases evt <;> rfl
end

/-! ### DCNT (R273; 08 R215) -/

theorem ledgersOnly.dcnt {e x : Entry} (h : ledgersOnly e x) : x.dcnt = e.dcnt := by rw [h]
theorem dcnt_commit_self (cause slot : Nat) (p : Entry × Account) (s : State) :
    (entryOf (commit cause slot p s) slot).dcnt = p.1.dcnt := by
  rw [entryOf_commit_self]
  rfl
theorem dcnt_settleCredits (cause slot k : Nat) {f : Entry × Account → Entry × Account}
    (hf : ∀ p, (f p).1.dcnt = p.1.dcnt) (s : State) :
    (entryOf (settleCredits cause slot f s) k).dcnt = (entryOf s k).dcnt := by
  unfold settleCredits
  split
  · rfl
  · by_cases hk : k = slot
    · subst hk
      rw [dcnt_commit_self, hf, (touchedPair_ledgers s k).dcnt]
    · rw [entryOf_commit_other _ hk]
theorem dcnt_endDeferred (d : Deferred) (st : Status) (k : Nat) (s : State) :
    (entryOf (endDeferred d st s) k).dcnt = (entryOf s k).dcnt := by
  unfold endDeferred
  dsimp only
  refine (dcnt_settleCredits _ _ k ?_ _).trans ?_
  · exact fun _ => rfl
  · simp only [entryOf, dlBump_entries, openReq_entries, takeRqid]
theorem dcnt_endDeferredOf (slot : Nat) (st : Status) (k : Nat) (s : State) :
    (entryOf (endDeferredOf slot st s) k).dcnt = (entryOf s k).dcnt :=
  foldl_view (fun t => (entryOf t k).dcnt) (fun t d => dcnt_endDeferred d st k t) _ s
theorem dcnt_takeDcnt (slot : Nat) (s : State) : (entryOf (takeDcnt slot s) slot).dcnt = (entryOf s slot).dcnt + 1 := by
  unfold takeDcnt
  extract_lets e last newly t u
  have hcommit : (entryOf t slot).dcnt = e.dcnt + 1 := dcnt_commit_self ..
  have hmono : entryOf u slot = entryOf t slot := by
    show entryOf (if newly then monoBump e.vi 5 1 t else t) slot = entryOf t slot
    split <;> rfl
  split
  · rw [dcnt_endDeferredOf, hmono, hcommit]
  · rw [hmono, hcommit]

/-! ### Operations that start (R271) -/

theorem meshRead_entries (addr n : Nat) (s : State) : (meshRead addr n s).1.roll.entries = s.roll.entries := by
  have hasleep : (countAsleep addr s).roll.entries = s.roll.entries := by
    unfold countAsleep
    split <;> rfl
  unfold meshRead
  split
  · exact hasleep
  · split_ifs <;> rfl
theorem meshRead_memory {addr n : Nat} {s : State} (hport : portClosedAt s addr = false) (hmem : inMemory addr n = true)
    (hpoison : readPoison s addr n = false) : meshRead addr n s = (s, .ok, gBytes s addr n) := by
  simp [meshRead, hport, hmem, hpoison]
theorem reportOnly.entries {s u : State} (h : reportOnly s u) : u.roll.entries = s.roll.entries := by rw [h]

section
variable {who e w : Nat} {s : State}

/-- The counter that an operation uses, of the octets d that it has read (R273). -/
def usedCount (s : State) (e op : Nat) (d : List Nat) : Nat :=
  if op = 1 then (entryOf s (engineOf s e).keysel).dcnt
  else if op = 2 then fromBE ((d.drop 4).take 4) else (engineOf s e).cntUsed
/-- An engine on which the operation r has started. -/
def startedEngine (x : Engine) (cnt : Nat) (r : CipherOp) : Engine :=
  { x with cmdWritten := true, cntUsed := cnt, run := some r }

/-- CMD with its checks met: whatever the read of SRC and a poisoned key record, the entries are those found until OP 1 takes
the DCNT, and the engine is written last. -/
theorem writeCmd_starts (h : cmdCheck s who e w = none) :
    ∃ v d r, v.roll.entries = s.roll.entries ∧ r.op = w % 16 ∧ r.tlen = w / 16 % 16 ∧ r.evt = w.testBit 8
      ∧ writeCmd who e w s = setEngine (if w % 16 = 1 then takeDcnt (engineOf s e).keysel v else v) e
          (startedEngine (engineOf s e) (usedCount s e (w % 16) d) r) := by
  unfold writeCmd
  rw [h]
  dsimp only
  refine ⟨_, _, _, ?_, ?_, ?_, ?_, rfl⟩
  · exact ((errRecord_report _ _).ite (.refl _)).entries.trans (meshRead_entries ..)
  all_goals rfl
/-- A CMAC over octets that can be read, under a key that is sound (R268). -/
theorem writeCmd_cmac {bs : List (BitVec 8)} (h : cmdCheck s who e w = none) (hop : w % 16 = 4)
    (hread : meshRead (engineOf s e).src (engineOf s e).len s = (s, .ok, bs))
    (hkey : (keyOf s (engineOf s e).keysel).poison = false) :
    writeCmd who e w s = setEngine s e (startedEngine (engineOf s e) (engineOf s e).cntUsed
      { op := 4, tlen := w / 16 % 16, evt := w.testBit 8, out := [], result := .ok
        tag := (aesCmac (keyOf s (engineOf s e).keysel).key (octetsOf bs)).take (4 * (w / 16 % 16)) }) := by
  simp [writeCmd, h, hop, sourceLen, hread, hkey, cipherResult, startedEngine]
theorem runCmd_of_check (h : cmdCheck s who e w = none) : runCmd e who w s = took (writeCmd who e w s) := by
  rw [runCmd, h]
  rfl

variable {op tlen : Nat} {evt : Bool}

/-- Every operation whose checks are met has started on its engine, which keeps its pass. -/
theorem runCmd_starts (hop : op < 16) (htlen : tlen < 16) (h : cmdCheck s who e (cmdWord op tlen evt) = none) :
    ∃ u r, runCmd e who (cmdWord op tlen evt) s = .next u ∧ u.answer.status = .ok ∧ (engineOf u e).run = some r
      ∧ r.op = op ∧ r.tlen = tlen ∧ r.evt = evt ∧ (engineOf u e).cmdWritten = true
      ∧ (engineOf u e).pass = (engineOf s e).pass := by
  obtain ⟨v, d, r, -, hrop, hrtlen, hrevt, hwrite⟩ := writeCmd_starts h
  have hengine : engineOf (answering .ok (writeCmd who e (cmdWord op tlen evt) s)) e = startedEngine (engineOf s e) _ r :=
    hwrite ▸ engineOf_setEngine ..
  refine ⟨_, r, runCmd_of_check h, rfl, ?_⟩
  rw [hengine]
  exact ⟨rfl, hrop.trans (cmdWord_op evt hop), hrtlen.trans (cmdWord_tlen evt hop htlen), hrevt.trans (cmdWord_evt evt hop),
    rfl, rfl⟩
/-- A downlink build takes the entry's DCNT and uses the value it had (R273). -/
theorem runCmd_takes_dcnt (h : cmdCheck s who e (cmdWord 1 tlen evt) = none) :
    ∃ u, runCmd e who (cmdWord 1 tlen evt) s = .next u
      ∧ (entryOf u (engineOf s e).keysel).dcnt = (entryOf s (engineOf s e).keysel).dcnt + 1
      ∧ (engineOf u e).cntUsed = (entryOf s (engineOf s e).keysel).dcnt := by
  obtain ⟨v, d, r, hentries, -, -, -, hwrite⟩ := writeCmd_starts h
  rw [cmdWord_op evt (by decide), if_pos rfl] at hwrite
  have hentry : entryOf v (engineOf s e).keysel = entryOf s (engineOf s e).keysel := by rw [entryOf, entryOf, hentries]
  rw [runCmd_of_check h, hwrite]
  refine ⟨_, rfl, ?_, ?_⟩
  · exact (dcnt_takeDcnt (engineOf s e).keysel v).trans (by rw [hentry])
  · exact congrArg Engine.cntUsed (engineOf_setEngine ..)
/-- The tag of a CMAC under the engine's key (R268). -/
theorem runCmd_cmac (htlen : tlen < 16) (h : cmdCheck s who e (cmdWord 4 tlen evt) = none)
    (hport : portClosedAt s (engineOf s e).src = false) (hmem : inMemory (engineOf s e).src (engineOf s e).len = true)
    (hpoison : readPoison s (engineOf s e).src (engineOf s e).len = false)
    (hkey : (keyOf s (engineOf s e).keysel).poison = false) :
    ∃ u r, runCmd e who (cmdWord 4 tlen evt) s = .next u ∧ (engineOf u e).run = some r ∧ r.result = .ok ∧ r.out = []
      ∧ r.tag = (aesCmac (keyOf s (engineOf s e).keysel).key
          (octetsOf (gBytes s (engineOf s e).src (engineOf s e).len))).take (4 * tlen) := by
  have hwrite := writeCmd_cmac h (cmdWord_op evt (by decide)) (meshRead_memory hport hmem hpoison) hkey
  rw [cmdWord_tlen evt (by decide) htlen] at hwrite
  rw [runCmd_of_check h, hwrite]
  exact ⟨_, _, rfl, congrArg Engine.run (engineOf_setEngine ..), rfl, rfl, rfl⟩
end

/-! ### Operations that complete (R271) -/

/-- An operation with no output, no token and no burst to build writes its tag and status alone. -/
theorem completeCipher_silent {e : Nat} {s : State} {r : CipherOp} (hrun : (engineOf s e).run = some r) (hout : r.out = [])
    (hevt : r.evt = false) (hbuild : r.build = none) :
    completeCipher e s = setEngine s e { engineOf s e with
      status := r.result, run := none
      tagOut := if r.tag.isEmpty then (engineOf s e).tagOut else r.tag ++ zeros (16 - r.tag.length) } := by
  have hresult : (if r.result = .ok then .ok else r.result) = r.result := by
    split
    · exact Eq.symm ‹_›
    · rfl
  simp [completeCipher, hrun, hout, hevt, hbuild, hresult]

/-! ### The statement -/

section
variable {e : Fin 8} {who : Nat} {s : State}

theorem execHallPassRead_of_identity (h : isIdentity who = true) {u : State} {v : Nat} (hread : readPass who e s = (u, v)) :
    exec (.hallPassRead e who) s = .next (answerOf .ok v u) := by
  show execHallPassRead e who s = _
  rw [execHallPassRead, if_pos h, hread]
theorem execForcedRelease_of_caretaker (h : isCaretaker who = true) :
    exec (.forcedRelease e who) s = took (forceRelease e s) := if_pos h
theorem execHoldLimitExpiry_of_unused (he : 4 ≤ e.val) (hheld : (engineOf s e).pass ≠ 0)
    (hunused : (engineOf s e).cmdWritten = false) : exec (.holdLimitExpiry e) s = .next (forceRelease e s) :=
  if_pos ⟨he, hheld, hunused⟩
end

/-- Settles O35: the passes by `readPass` and `forceRelease`, the commands by `runCmd_starts` and, for DCNT and tag, the lemma
of their operation. -/
theorem cipherEngines : Obligations.CipherEngines := by
  refine ⟨fun e who s => ?_, fun e who tlen evt s htlen => ?_⟩
  · refine ⟨fun hwho hwipe hfence hfree => ?_, fun hwho hclosed => ?_, fun hwho hwipe hfence hheld => ?_,
      fun hcaretaker => ?_, fun he hheld hunused => ?_, rfl⟩
    · exact execHallPassRead_of_identity hwho (readPass_free hwipe hfence hfree)
    · exact execHallPassRead_of_identity hwho (readPass_closed hclosed)
    · exact execHallPassRead_of_identity hwho (readPass_held hwipe hfence hheld)
    · have hengine : engineOf (answering .ok (forceRelease e s)) e = releasedEngine (engineOf s e) := engineOf_forceRelease e s
      refine ⟨_, execForcedRelease_of_caretaker hcaretaker, rfl, ?_⟩
      rw [hengine]
      exact ⟨rfl, rfl, rfl, rfl, fun k hk => engineOf_forceRelease_other hk s⟩
    · refine ⟨_, execHoldLimitExpiry_of_unused he hheld hunused, ?_⟩
      rw [engineOf_forceRelease]
      exact ⟨rfl, rfl, rfl⟩
  · refine ⟨fun h => ⟨?_, ?_⟩, fun h => ?_, fun h => ?_, fun h => ?_, fun h hport hmem hpoison hkey => ?_,
      fun r hrun hout hevt hbuild => ?_⟩
    · exact runCmd_starts (by decide) htlen h
    · exact runCmd_takes_dcnt h
    · exact runCmd_starts (by decide) htlen h
    · exact runCmd_starts (by decide) htlen h
    · exact runCmd_starts (by decide) htlen h
    · exact runCmd_cmac htlen h hport hmem hpoison hkey
    · exact congrArg Host.Outcome.next (completeCipher_silent hrun hout hevt hbuild)

end Sys2Proof.Machine
end

section
/-! O15, O16, O17 and O19: what a step comes to. The queue's front command is `exec` of it, an empty queue one tick; what holds of
every command (`exec_keeps`) is carried to a step. -/

namespace Sys2Proof.Machine

open Sys2Proof.Safety

/-- A step with a command in front is that command, on the rest of the queue. -/
theorem step_cons (c : Instr) (rest : List Instr) (s : State) :
    step { s with pending := c :: rest } = exec c { s with pending := rest } := rfl
theorem step_nil {s : State} (h : s.pending = []) : step s = .next (tick s) := by
  simp only [step, h]
/-- A tick adds 5/32 microseconds to the Caretaker's clock. -/
theorem careAfter_sum (x : TimeUnit) (n : Nat) :
    32 * (careAfter x n).careUs + (careAfter x n).careFrac = 32 * x.careUs + x.careFrac + 5 * n := by
  simp only [careAfter]
  omega
/-- A step keeps what every command and a tick keep. -/
theorem canonical_of_step {s u : State} (h : canonical s) (e : step s = .next u) : canonical u := by
  unfold step at e
  split at e
  case h_1 =>
    cases e
    exact h
  case h_2 c _ _ =>
    obtain ⟨v, ev, hv⟩ := exec_keeps c s.dequeue
    cases ev.symm.trans e
    exact hv.mem h

/-- Settles O19: the front command by `exec_keeps`; a tick writes no memory. -/
theorem stepKeepsCanonical : Obligations.StepKeepsCanonical := fun _ _ => canonical_of_step

/-- Settles O17: `exec_keeps` holds of every command. -/
theorem everyCommandAnswers : Obligations.EveryCommandAnswers := fun c s =>
  have ⟨u, e, h⟩ := exec_keeps c s
  ⟨u, e, h.pending⟩

/-- Settles O15. -/
theorem stepRunsFront : Obligations.StepRunsFront := step_cons

/-- Settles O16: the step is a tick, whose clocks `careAfter_sum` counts. -/
theorem idleTick : Obligations.IdleTick := fun s h =>
  ⟨tick s, step_nil h, rfl, careAfter_sum s.time 1, rfl⟩

end Sys2Proof.Machine
end

section
/-! O1 and O2 (12 R313, R314, R319, R322): the scalar operations. One lemma per form of a slot says what the bundle leaves; the
operations of a statement are its instances. -/

namespace Sys2Proof.Machine

open Sys2Proof.Safety

section
variable {t : Fin 52} {s : State} (hr : ready s t = true) (second : Bool)
include hr

/-- Major 0x01: the result of FN to sd, VSAT where it saturated. -/
theorem runScalar_scalarAct (fn : Nat) (sd sa sb : Fin 32) :
    runScalar t (alone second) (scalarAct fn sd sa sb) s
      = .next (done s t (flagV (scalarFn fn (sReg (tileOf s t) sa) (sReg (tileOf s t) sb)).2
          (setS sd (scalarFn fn (sReg (tileOf s t) sa) (sReg (tileOf s t) sb)).1 (tileOf s t)))) :=
  runScalar_registers hr rfl rfl rfl rfl rfl rfl second
/-- Majors 0x02 to 0x0A. -/
theorem runScalar_immAct {major : Nat} {sd sa : Nat} {imm : BitVec 16} (hl : (immAct major sd sa imm).illegal = false) :
    runScalar t (alone second) (immAct major sd sa imm) s
      = .next (done s t (setS sd (immFn major (sReg (tileOf s t) sa) (sReg (tileOf s t) sd) imm) (tileOf s t))) :=
  runScalar_registers hr hl rfl rfl rfl rfl rfl second
/-- A shift by a count below 32. -/
theorem runScalar_shiftImm {major : Nat} {sd sa : Nat} {imm : BitVec 16} (hm : 0x06 ≤ major ∧ major ≤ 0x08) (hi : imm.toNat < 32) :
    runScalar t (alone second) (immAct major sd sa imm) s
      = .next (done s t (setS sd (immFn major (sReg (tileOf s t) sa) (sReg (tileOf s t) sd) imm) (tileOf s t))) := by
  refine runScalar_immAct hr second ?_
  have : major ≠ 9 := by omega
  simp [immAct, this, Nat.not_le.mpr hi]
theorem runScalar_paddAct (pd pa : Nat) (imm : BitVec 16) :
    runScalar t (alone second) (paddAct pd pa imm) s
      = .next (done s t (setP pd (pReg (tileOf s t) pa + imm.signExtend 32) (tileOf s t))) :=
  runScalar_registers hr rfl rfl rfl rfl rfl rfl second
end

/-- A result saturated to 32 bits and flagged is its bound with VSAT set, or itself. -/
theorem flagV_satSym (sd : Nat) (v : Int) (x : Tile) :
    flagV (wordOf (satSym 32 v)).2 (setS sd (wordOf (satSym 32 v)).1 x)
      = if (2 ^ 31 - 1 : Int) < v then { setS sd (BitVec.ofInt 32 (2 ^ 31 - 1)) x with vsat := true }
        else if v < -(2 ^ 31 - 1 : Int) then { setS sd (BitVec.ofInt 32 (-(2 ^ 31 - 1))) x with vsat := true }
        else setS sd (BitVec.ofInt 32 v) x := by
  simp only [satSym, wordOf, flagV]
  split
  · rfl
  · split <;> rfl

/-- Settles O1: FN by FN, the saturating ones by `flagV_satSym`. -/
theorem scalarOperations : Obligations.ScalarOperations := by
  refine ⟨fun t second sd sa sb s hr => ?_, fun t second sd sa sb s hr => ?_, fun t second sd sa sb s hr => ?_⟩
  · have run (fn : Nat) := runScalar_scalarAct hr second fn sd sa sb
    exact ⟨run 0x00, run 0x01, run 0x02, run 0x03, run 0x04, run 0x05, run 0x06, run 0x07, run 0x08⟩
  · have run (fn : Nat) := runScalar_scalarAct hr second fn sd sa sb
    exact ⟨run 0x0A, run 0x0B, run 0x0C, run 0x0D, run 0x10⟩
  · have run (fn : Nat) := runScalar_scalarAct hr second fn sd sa sb
    have sat (v : Int) := congrArg (fun y => (.next (done s t y) : Out)) (flagV_satSym sd v (tileOf s t))
    exact ⟨(run 0x0E).trans (sat _), (run 0x0F).trans (sat _), (run 0x09).trans (sat _), run 0x11⟩

/-- MOVX between kinds that name a register each. -/
theorem runScalar_movxAct {t : Fin 52} {s : State} (hr : ready s t = true) (second : Bool) {dst src : Fin 32} {dk sk : Fin 8}
    (hdk : dk.val ≤ 2) (hsk : sk.val ≤ 2) (hdst : dk.val ≠ 0 → dst.val < 8) (hsrc : sk.val ≠ 0 → src.val < 8) :
    runScalar t (alone second) (movxAct dst src dk sk) s
      = .next (done s t ((movxAct dst src dk sk).run (tileOf s t) { state := s } (tileOf s t))) := by
  refine runScalar_registers hr ?_ rfl rfl rfl rfl rfl second
  simp only [movxAct, Bool.or_eq_false_iff, Bool.and_eq_false_iff, decide_eq_false_iff_not, not_lt, ne_eq, not_not]
  omega
/-- The register MOVX writes and the one it reads, by their kinds. -/
theorem movxAct_run (dst src : Nat) (dk sk : Fin 8) (pre : Tile) (m : Access) (x : Tile) :
    (movxAct dst src dk sk).run pre m x
      = (let v := if sk.val = 0 then sReg pre src else if sk.val = 1 then pReg pre src else mReg pre src
         if dk.val = 0 then setS dst v x else if dk.val = 1 then setP dst v x else setM dst v x) := by
  obtain ⟨_ | _ | dk, -⟩ := dk <;> obtain ⟨_ | _ | sk, -⟩ := sk <;> rfl

/-- Settles O2. -/
theorem immediatesAndMoves : Obligations.ImmediatesAndMoves := by
  refine ⟨fun t second sd sa imm s hr => ?_, fun t second pd pa imm s hr => runScalar_paddAct hr second pd pa imm,
    fun t second dst src dk sk s hr hdk hsk hdst hsrc => ?_⟩
  · have run (major : Nat) (a : Fin 32) (hl : (immAct major sd a imm).illegal = false) := runScalar_immAct hr second hl
    refine ⟨run 0x02 sa rfl, run 0x03 sa rfl, run 0x04 sa rfl, run 0x05 sa rfl, run 0x09 0 rfl, run 0x0A sa rfl, fun hi => ?_⟩
    have shift {major : Nat} (hm : 0x06 ≤ major ∧ major ≤ 0x08) :=
      runScalar_shiftImm (sd := sd) (sa := sa) hr second hm hi
    have hmod : imm.toNat % 32 = imm.toNat := Nat.mod_eq_of_lt hi
    have hl := shift (major := 0x06) (by decide)
    have hs := shift (major := 0x07) (by decide)
    have ha := shift (major := 0x08) (by decide)
    simp only [immFn, hmod] at hl hs ha
    exact ⟨hl, hs, ha⟩
  · exact (runScalar_movxAct hr second hdk hsk hdst hsrc).trans
      (congrArg (fun y => (.next (done s t y) : Out)) (movxAct_run dst src dk sk _ _ _))

end Sys2Proof.Machine
end

section
/-! O6, O7 and O8 (12 R318 to R322): the vector operations. An operation whose elements are computed and finished one by one
(`elementwise`) is what most of major 0x20, the shifts of major 0x21 and the complex products come to. -/

namespace Sys2Proof.Machine

open Sys2Proof.Safety

/-! ### Major 0x20 and the shifts of major 0x21 (Table 12.6) -/

/-- The results l, finished under SAT, packed into vd, with VSAT where one saturated. -/
def elementwise (vd ew : Nat) (sat : Bool) (l : List Int) (x : Tile) : Tile :=
  flagV (finishAll sat (ewWidth ew) l).2 (setV (physV x vd) (packElems ew (finishAll sat (ewWidth ew) l).1 (vReg x vd)) x)

/-- Below VCONJ every operation of major 0x20 goes element by element, or pair by pair. -/
theorem vectorAct_run {fn : Nat} (hfn : fn < 18) (vd va vb ew : Nat) (sat : Bool) (x : Tile) (m : Access) :
    (vectorAct fn vd va vb ew sat).run x m x
      = elementwise vd ew sat (vectorFn fn ew (elems ew (vReg x va)) (elems ew (vReg x vb))) x := by
  have h18 : (fn == 18) = false := by simp; omega
  simp only [vectorAct, if_neg (show fn ≠ 19 by omega), if_neg (show fn ≠ 20 by omega), conjSats, h18, Bool.false_and,
    Bool.or_false, elementwise]
/-- VSEL saturates what it takes of va. -/
theorem vselAct_run (vd va vb ew : Nat) (sat : Bool) (x : Tile) (m : Access) :
    (vectorAct 20 vd va vb ew sat).run x m x
      = (let r := selectAll sat (ewWidth ew) (elems ew (vReg x va)) (elems ew (vReg x vb)) (elems ew (vReg x vd))
         flagV r.2 (setV (physV x vd) (packElems ew r.1 (vReg x vd)) x)) := by
  simp [vectorAct, conjSats]

section
variable {t : Fin 52} {s : State} (hr : ready s t = true)
include hr

/-- An operation of the V slot that is legal leaves what it writes. -/
theorem runSlot_vector {fn vd va vb ew : Nat} {sat : Bool} (hl : vectorIllegal fn ew vb vd = false) :
    runSlot t 2 (alone false) (vectorAct fn vd va vb ew sat) s
      = .next (done s t ((vectorAct fn vd va vb ew sat).run (tileOf s t) { state := s } (tileOf s t))) := by
  by_cases h : fn = 19
  · subst h
    exact runSlot_registers hr (by decide) hl rfl rfl rfl rfl rfl false
  · simp only [vectorAct, if_neg h]
    exact runSlot_registers hr (by decide) hl rfl rfl rfl rfl rfl false
theorem runSlot_elementwise {fn vd va vb ew : Nat} {sat : Bool} (hfn : fn < 18) (hl : vectorIllegal fn ew vb vd = false) :
    runSlot t 2 (alone false) (vectorAct fn vd va vb ew sat) s
      = .next (done s t (elementwise vd ew sat (vectorFn fn ew (elems ew (vReg (tileOf s t) va)) (elems ew (vReg (tileOf s t) vb)))
          (tileOf s t))) := by
  rw [runSlot_vector hr hl, vectorAct_run hfn]
theorem runSlot_shift {fn : Nat} (hfn : fn ≤ 3) (vd va count ew : Nat) (sat : Bool) :
    runSlot t 2 (alone false) (shiftAct fn vd va count ew sat) s
      = .next (done s t (elementwise vd ew sat ((elems ew (vReg (tileOf s t) va)).map (shiftFn fn (ewWidth ew) count)) (tileOf s t))) :=
  runSlot_registers hr (by decide) (decide_eq_false (Nat.not_lt.mpr hfn)) rfl rfl rfl rfl rfl false
end

/-- Settles O6: each operation is `elementwise` of its function. -/
theorem vectorElements : Obligations.VectorElements := by
  refine ⟨fun t vd va vb ew sat s hr => ?_, fun t vd va vb n ew sat s hr => ?_⟩
  · have two {fn : Nat} (hfn : fn < 18) (hl : vectorIllegal fn ew vb vd = false) :=
      runSlot_elementwise (va := va) (sat := sat) hr hfn hl
    have one {fn : Nat} (hfn : fn < 18) (hl : vectorIllegal fn ew 0 vd = false) :=
      runSlot_elementwise (va := va) (sat := sat) hr hfn hl
    refine ⟨two (fn := 0) (by decide) rfl, two (fn := 1) (by decide) rfl, two (fn := 3) (by decide) rfl,
      two (fn := 4) (by decide) rfl, two (fn := 5) (by decide) rfl, two (fn := 6) (by decide) rfl,
      two (fn := 7) (by decide) rfl, one (fn := 8) (by decide) rfl, one (fn := 9) (by decide) rfl,
      two (fn := 13) (by decide) rfl, two (fn := 14) (by decide) rfl, two (fn := 15) (by decide) rfl, fun hew => ?_⟩
    exact two (fn := 2) (by decide) (by simp [vectorIllegal, hew])
  · have two {fn : Nat} (hfn : fn < 18) (hl : vectorIllegal fn ew vb vd = false) :=
      runSlot_elementwise (va := va) (sat := sat) hr hfn hl
    have shift {fn : Nat} (hfn : fn ≤ 3) := runSlot_shift hr hfn vd va n ew sat
    exact ⟨two (fn := 10) (by decide) rfl, two (fn := 11) (by decide) rfl, two (fn := 12) (by decide) rfl,
      shift (fn := 0) (by decide), shift (fn := 1) (by decide), shift (fn := 2) (by decide), shift (fn := 3) (by decide)⟩

/-! ### Complex pairs, selection and block exponent (R318, R320, R322) -/

/-- EW 0 and 3 hold the 16-bit pairs that complex operations take. -/
theorem vectorIllegal_complex {fn ew vb vd : Nat} (hfn : fn = 16 ∨ fn = 17 ∨ fn = 18 ∧ vb = 0) (hew : ew = 0 ∨ ew = 3) :
    vectorIllegal fn ew vb vd = false := by
  rcases hfn with rfl | rfl | ⟨rfl, rfl⟩ <;> rcases hew with rfl | rfl <;> rfl
/-- Settles O7. -/
theorem vectorComplex : Obligations.VectorComplex := by
  intro t vd va vb sa ew sat s hr
  refine ⟨runSlot_vector (fn := 19) (vd := 0) (vb := 0) hr rfl, ?_, ?_, fun hew => ⟨?_, ?_, ?_⟩⟩
  · exact runSlot_registers hr (by decide) rfl rfl rfl rfl rfl rfl false
  · exact (runSlot_vector (fn := 20) hr rfl).trans
      (congrArg (fun y => (.next (done s t y) : Out)) (vselAct_run vd va vb ew sat (tileOf s t) _))
  · exact runSlot_elementwise (fn := 16) hr (by decide) (vectorIllegal_complex (.inl rfl) hew)
  · exact runSlot_elementwise (fn := 17) hr (by decide) (vectorIllegal_complex (.inr (.inl rfl)) hew)
  · exact runSlot_vector (fn := 18) hr (vectorIllegal_complex (.inr (.inr ⟨rfl, rfl⟩)) hew)

/-! ### Accumulators (R321) -/

/-- An operation of major 0x22 that is legal. -/
theorem runSlot_mac {t : Fin 52} {s : State} (hr : ready s t = true) {fn ad va vb sk : Nat}
    (hl : (macAct fn ad va vb sk).illegal = false) :
    runSlot t 2 (alone false) (macAct fn ad va vb sk) s
      = .next (done s t ((macAct fn ad va vb sk).run (tileOf s t) { state := s } (tileOf s t))) :=
  runSlot_registers hr (by decide) hl rfl rfl rfl rfl rfl false

/-- Settles O8. -/
theorem accumulators : Obligations.Accumulators := by
  refine ⟨fun t ad va vb sk s hr => ?_, fun t vd acc shift sat s hr =>
    runSlot_registers hr (by decide) rfl rfl rfl rfl rfl rfl false⟩
  have run (fn : Nat) (hl : (macAct fn ad va vb 0).illegal = false) := runSlot_mac hr hl
  refine ⟨run 0 rfl, run 1 rfl, run 2 rfl, run 3 rfl, run 5 rfl, run 6 rfl, fun hvb => ?_,
    runSlot_registers hr (by decide) rfl rfl rfl rfl rfl rfl false⟩
  exact runSlot_mac (fn := 4) hr (by simp [macAct, hvb])

end Sys2Proof.Machine
end

section
/-! Entry to Host and traps (12 R329, R333 to R337): what a trap leaves of the tile that takes it. A trap's entry writes the tile
(`hostEntry`); the end of its operation, the release of its passes and, where it halts or holds an uncorrectable word, its fence
write no more than `haltOnly` says. -/

namespace Sys2Proof.Machine

open Sys2Proof.Safety

/-! ### Releases of hall passes (10 R278) -/

/-- u differs from s at most in the engines and in what records of their release change. -/
def passesOnly (s u : State) : Prop :=
  u = { s with
    cipher := u.cipher, fault := u.fault, outbox := u.outbox
    molfen := { s.molfen with txCnt := u.molfen.txCnt, txReserved := u.molfen.txReserved, nextTseq := u.molfen.nextTseq,
                              newestTseq := u.molfen.newestTseq, journal := u.molfen.journal }
    roll := { s.roll with nextJseq := u.roll.nextJseq, newestJseq := u.roll.newestJseq, staging := u.roll.staging }
    mode := { s.mode with lastTransition := u.mode.lastTransition } }

theorem passesOnly.refl (s : State) : passesOnly s s := rfl
theorem passesOnly.trans {s u v : State} (h : passesOnly s u) (g : passesOnly u v) : passesOnly s v := by
  unfold passesOnly at *; rw [g, h]
theorem reportOnly.passes {s u : State} (h : reportOnly s u) : passesOnly s u := by
  unfold reportOnly passesOnly at *; rw [h]
theorem forceRelease_passes (e : Nat) (s : State) : passesOnly s (forceRelease e s) :=
  passesOnly.trans (by rfl) (errRecord_report _ _).passes
theorem releasePassesOfNode_passes (n : Nat) (s : State) : passesOnly s (releasePassesOfNode n s) :=
  List.foldlRecOn (motive := passesOnly s) _ _ (passesOnly.refl s) fun u hu e _ => by
    split
    · exact hu.trans (forceRelease_passes e u)
    · exact hu
@[simp] theorem releasePassesOfNode_tiles (n : Nat) (s : State) : (releasePassesOfNode n s).tiles = s.tiles := by
  rw [releasePassesOfNode_passes n s]
@[simp] theorem releasePassesOfNode_prefect (n : Nat) (s : State) : (releasePassesOfNode n s).prefect = s.prefect := by
  rw [releasePassesOfNode_passes n s]
@[simp] theorem tileOf_releasePassesOfNode (n k : Nat) (s : State) : tileOf (releasePassesOfNode n s) k = tileOf s k := by
  simp only [tileOf, releasePassesOfNode_tiles]

/-! ### The end of an operation in service (11 R301; 12 R335) -/

@[simp] theorem tileOf_modTile (s : State) (t : Nat) (f : Tile → Tile) : tileOf (modTile s t f) t = f (tileOf s t) := by
  rw [modTile_eq, tileOf_setTile]
@[simp] theorem tileOf_modTile_other (s : State) {t k : Nat} (f : Tile → Tile) (h : k ≠ t) :
    tileOf (modTile s t f) k = tileOf s k := by
  rw [modTile_eq, tileOf_setTile_other _ _ _ _ h]
/-- The Prefect ends the operation; of the tiles, its own names no operation any more. -/
theorem trapService_tiles (t : Nat) (s : State) :
    (trapService t s).tiles = (modTile s t (fun x => { x with curOpseq := 0 })).tiles := by
  unfold trapService
  split
  · exact (trapOp_only _ _).tiles
  · rfl
@[simp] theorem tileOf_trapService (t : Nat) (s : State) : tileOf (trapService t s) t = { tileOf s t with curOpseq := 0 } := by
  rw [tileOf, trapService_tiles]
  exact tileOf_modTile _ _ _
@[simp] theorem tileOf_trapService_other (s : State) {t k : Nat} (h : k ≠ t) : tileOf (trapService t s) k = tileOf s k := by
  rw [tileOf, trapService_tiles]
  exact tileOf_modTile_other _ _ h

/-! ### Entry to Host (R329, R334) -/

@[simp] theorem tileOf_undefineCx_other (s : State) {t k : Nat} (h : k ≠ t) : tileOf (undefineCx t s) k = tileOf s k :=
  tileOf_modTile_other _ _ h
theorem tileOf_undefineCx (t : Nat) (s : State) : ∃ c e, tileOf (undefineCx t s) t = { tileOf s t with c := c, cxerr := e } :=
  ⟨_, _, tileOf_modTile _ _ _⟩

/-- What an entry to Host by w writes of a tile, the c registers apart. -/
def hostEntry (w : Trap) (tpc : Word) (x : Tile) : Tile :=
  { x with
    tcause := tcauseWord w.code w.slot x.task w.status, tpc := tpc, taddr := w.addr
    lastTrap := if w.code = 0 then x.lastTrap
                else bodyOf [(4, (tcauseWord w.code w.slot x.task w.status).toNat), (4, tpc.toNat), (4, w.addr.toNat),
                             (4, x.tstat.toNat)]
    ptask := x.task, task := false, tstate := .host, pc := x.tvec, cx := [], waiting := false }
theorem tileOf_enterHost (t : Nat) (w : Trap) (tpc : Word) (s : State) :
    ∃ c e, tileOf (enterHost t w tpc s) t = { hostEntry w tpc (tileOf s t) with c := c, cxerr := e } := by
  obtain ⟨c, e, h⟩ := tileOf_undefineCx t (modTile s t (hostEntry w tpc))
  refine ⟨c, e, ?_⟩
  rw [tileOf_modTile] at h
  exact h

/-! ### Traps (R333 to R336) -/

/-- y is x but for what the end of an operation, a halt or a fence writes, and for the c registers. -/
def haltOnly (x y : Tile) : Prop :=
  y = { x with tstate := y.tstate, accept := y.accept, waiting := y.waiting, curOpseq := y.curOpseq, c := y.c, cxerr := y.cxerr }
theorem haltOnly.refl (x : Tile) : haltOnly x x := rfl
theorem haltOnly.trans {x y z : Tile} (h : haltOnly x y) (g : haltOnly y z) : haltOnly x z := by
  unfold haltOnly at *; rw [g, h]
theorem trapServiceOf_tiles (decoder : Bool) (p : Nat) (s : State) : (trapServiceOf decoder p s).tiles = s.tiles :=
  (foldl_prefectOnly _ (fun u (o : OpRec) => trapOp_only o.opseq u) _ _).tiles
@[simp] theorem tileOf_trapServiceOf (decoder : Bool) (p k : Nat) (s : State) :
    tileOf (trapServiceOf decoder p s) k = tileOf s k := by
  simp only [tileOf, trapServiceOf_tiles]
@[simp] theorem tileOf_listFence (unit ref k : Nat) (s : State) : tileOf (listFence unit ref s) k = tileOf s k :=
  (listFence_report _ _ _).tileOf k
@[simp] theorem tileOf_errRecord (b : ErrBody) (k : Nat) (s : State) : tileOf (errRecord b s) k = tileOf s k :=
  (errRecord_report _ _).tileOf k
@[simp] theorem tileOf_settle (k : Nat) (s : State) : tileOf (settle s) k = tileOf s k := by
  simp only [tileOf, (settle_settled s).tiles]
theorem tileOf_closePort (d k : Nat) (s : State) : tileOf (closePort d s) k = tileOf s k := rfl
/-- A tile that is fenced takes no operation any more; its registers and memories stay. -/
theorem tileOf_fenceTile (p ref : Nat) (s : State) : haltOnly (tileOf s p) (tileOf (fenceTile p ref s) p) := by
  unfold fenceTile
  split
  · exact .refl _
  · extract_lets listed released halted closed
    have hreleased : tileOf released p = tileOf s p := by
      simp only [released, listed, tileOf_releasePassesOfNode, tileOf_trapServiceOf, tileOf_emit, tileOf_listFence]
    have hclosed : haltOnly (tileOf s p) (tileOf closed p) := by
      rw [tileOf_closePort, tileOf_modTile, hreleased]
      rfl
    clear_value closed
    split <;> exact hclosed
theorem tileOf_fenceEcc (t : Nat) (a : Word) (s : State) : haltOnly (tileOf s t) (tileOf (fenceEcc t a s) t) := by
  unfold fenceEcc
  dsimp only
  rw [tileOf_settle]
  refine haltOnly.trans ?_ (tileOf_fenceTile _ _ _)
  rw [tileOf_errRecord]
  exact .refl _

/-- The tile as a trap finds it, the trap counted, after its entry to Host. -/
def trapEntry (w : Trap) (x : Tile) : Tile := hostEntry w x.pc { x with traps := bump x.traps w.code }
/-- The tile entered Host, its operation ended and its passes released. -/
theorem tileOf_trapEntered (t : Nat) (w : Trap) (s : State) :
    ∃ c e, tileOf (releasePassesOfNode t (trapService t (enterHost t w (tileOf s t).pc (countTrap t w.code s)))) t
      = { trapEntry w (tileOf s t) with c := c, cxerr := e, curOpseq := 0 } := by
  obtain ⟨c, e, h⟩ := tileOf_enterHost t w (tileOf s t).pc (countTrap t w.code s)
  refine ⟨c, e, ?_⟩
  rw [tileOf_releasePassesOfNode, tileOf_trapService, h]
  simp only [countTrap, tileOf_modTile]
  rfl
/-- A trap at Task level with no uncorrectable word leaves the tile at Host level. -/
theorem tileOf_takeTrap_task {t : Nat} {w : Trap} {s : State} (htask : (tileOf s t).task = true) (hecc : w.ecc = false) :
    ∃ c e, tileOf (takeTrap t w s) t = { trapEntry w (tileOf s t) with c := c, cxerr := e, curOpseq := 0 } := by
  simp only [takeTrap, htask, hecc, if_true, Bool.false_eq_true, if_false]
  exact tileOf_trapEntered t w s
/-- Whatever the level, a trap leaves of the tile what its entry to Host wrote. -/
theorem tileOf_takeTrap (t : Nat) (w : Trap) (s : State) :
    haltOnly (trapEntry w (tileOf s t)) (tileOf (takeTrap t w s) t) := by
  obtain ⟨c, e, h⟩ := tileOf_trapEntered t w s
  have hentered : haltOnly (trapEntry w (tileOf s t)) (tileOf
      (releasePassesOfNode t (trapService t (enterHost t w (tileOf s t).pc (countTrap t w.code s)))) t) := by
    rw [h]; rfl
  unfold takeTrap
  dsimp only
  split
  · split
    · exact hentered.trans (tileOf_fenceEcc _ _ _)
    · exact hentered
  · generalize releasePassesOfNode t _ = u at hentered
    rw [tileOf_settle]
    refine hentered.trans ((haltOnly.trans ?_) (tileOf_fenceTile _ _ _))
    rw [tileOf_errRecord]
    split
    · rw [tileOf_errRecord, tileOf_modTile]; rfl
    · rw [tileOf_modTile]; rfl

/-! ### A bundle of one operation that traps -/

section
variable {t k : Nat} {a : SlotAct} {s : State} (hr : ready s t = true) (hk : k < 4) (hi : a.illegal = false)
include hr hk hi

/-- A cause found before any access. -/
theorem runSlot_trap {w : Trap} (hw : worstTrap (a.traps s (tileOf s t) ++ branchTrap (tileOf s t) (a.jump (tileOf s t))) = some w)
    (sec : Bool) : runSlot t k (alone sec) a s = .next (takeTrap t w s) := by
  obtain ⟨hruns, hfetch⟩ := ready_parts hr
  unfold runSlot slotsOf alone
  simp only [show (0 : Word).toNat = 0 from rfl, decodeS0_zero, decodeS1_zero, decodeV_zero, decodeM_zero]
  match k, hk with
  | 0, _ | 1, _ | 2, _ | 3, _ =>
    cases hj : a.jump (tileOf s t) <;>
    simp_all [issue, illegalTrap, nopAct, clash, List.zipIdx, List.find?, issued]
/-- The access of the M slot finds a trap. -/
theorem runSlot_accessTrap (ht : a.traps s (tileOf s t) = []) (hj : a.jump (tileOf s t) = none)
    (hw : a.waits s (tileOf s t) = false) {w : Trap} (hm : (a.access s).trap = some w) (sec : Bool) :
    runSlot t k (alone sec) a s = .next (takeTrap t w (a.access s).state) := by
  obtain ⟨hruns, hfetch⟩ := ready_parts hr
  unfold runSlot slotsOf alone
  simp only [show (0 : Word).toNat = 0 from rfl, decodeS0_zero, decodeS1_zero, decodeV_zero, decodeM_zero]
  match k, hk with
  | 0, _ | 1, _ | 2, _ | 3, _ =>
    simp_all [issue, illegalTrap, nopAct, clash, List.zipIdx, List.find?, worstTrap, branchTrap, issued]
end

end Sys2Proof.Machine
end

section
/-! O3 and O4 (12 R310 to R317, R324 to R326): branches and loops, and two operations in one bundle. -/

namespace Sys2Proof.Machine

open Sys2Proof.Safety

/-! ### Branches (R313, R317, R326) -/

section
variable {t : Fin 52} {s : State} (hr : ready s t = true)
include hr

/-- BR outside the last bundle of a loop. -/
theorem runSlot_br (hl : atLend (tileOf s t) = false) (sa sb : Fin 32) {cond : Fin 8} (hc : cond.val ≤ 5) (off : BitVec 13) :
    runSlot t 0 (alone false) (brAct sa sb cond off) s
      = .next (if condHolds cond (sReg (tileOf s t) sa) (sReg (tileOf s t) sb)
          then jumped s t (branchTarget (tileOf s t).pc off) (tileOf s t) else done s t (tileOf s t)) := by
  have hi : (brAct sa sb cond off).illegal = false := decide_eq_false (Nat.not_lt.mpr hc)
  by_cases h : condHolds cond (sReg (tileOf s t) sa) (sReg (tileOf s t) sb) = true
  · rw [if_pos h]
    exact runSlot_branch hr (by decide) hi rfl (if_pos h) hl rfl rfl rfl false
  · rw [if_neg h]
    exact runSlot_registers hr (by decide) hi rfl (if_neg h) rfl rfl rfl false
theorem runSlot_jr (hl : atLend (tileOf s t) = false) {sa : Fin 32} (ha : (sReg (tileOf s t) sa).toNat % 16 = 0) :
    runSlot t 0 (alone false) (jrAct sa) s = .next (jumped s t (sReg (tileOf s t) sa) (tileOf s t)) :=
  runSlot_branch hr (by decide) rfl (if_neg (not_not.mpr ha)) rfl hl rfl rfl rfl false

/-! ### LOOP (R324) -/

/-- LOOP sets its level's registers; with a count of 0 the bundle after it is the one after the loop. -/
theorem runSlot_loop {level : Bool} {rot : BitVec 2} {sc : Fin 32} {len : Fin 4096} (hlen : len.val ≠ 0)
    (hgood : loopBad (tileOf s t) level (pc16 (tileOf s t) 1) (pc16 (tileOf s t) len) = false) :
    let y := (loopAct t level rot sc len).run (tileOf s t) { state := s } (tileOf s t)
    runSlot t 0 (alone false) (loopAct t level rot sc len) s
      = .next (if sReg (tileOf s t) sc = 0
          then modTile (done s t y) t (fun z => { z with pc := pc16 (tileOf s t) len + 16 }) else done s t y) :=
  runSlot_alone hr (by decide) (beq_eq_false_iff_ne.mpr hlen) (if_neg (by simp [hgood])) rfl rfl rfl false
end

/-! ### The end of an iteration (R325) -/

/-- A bundle of four NOP words. -/
def nops : List (Option SlotAct) := [some nopAct, some nopAct, some nopAct, some nopAct]
theorem slotsOf_alone (t : Nat) (second : Bool) : slotsOf t (alone second) = nops := rfl
/-- A bundle of NOPs goes on to the next. -/
theorem issue_nops {t : Nat} {s : State} (hr : ready s t = true) : issue t nops s = .done (done s t (tileOf s t)) := by
  obtain ⟨hruns, hfetch⟩ := ready_parts hr
  simp [issue, hruns, hfetch, nops, illegalTrap, nopAct, clash, List.zipIdx, List.find?, worstTrap, branchTrap, done]
/-- The bundle at the end of an active loop ends an iteration of it, and of no other. -/
theorem execLoopEnd_ready {t : Fin 52} {s : State} (hr : ready s t = true) (hl : atLend (tileOf s t) = true) :
    exec (.loopEnd t (alone false)) s = .next (done s t (tileOf s t)) := by
  show execLoopEnd t (alone false) s = _
  rw [execLoopEnd, if_pos hl, slotsOf_alone, issue_nops hr, issued]
theorem tileOf_done (s : State) (t : Nat) (y : Tile) : tileOf (done s t y) t = countBundle (advance (tileOf s t) y) := by
  simp only [done, tileOf_setTile]
/-- RRB after an iteration that rotates by rot. -/
theorem rotate_eq (x : Tile) (rot : BitVec 2) :
    rotate x rot = if rot = 0 then x.rrb else x.rrb - BitVec.ofNat 4 (2 ^ (rot.toNat - 1)) := by
  by_cases h : rot = 0
  · subst h; rfl
  · have h' : rot.toNat ≠ 0 := fun e => h (BitVec.eq_of_toNat_eq e)
    obtain ⟨k, hk⟩ := Nat.exists_eq_succ_of_ne_zero h'
    simp only [rotate, hk, if_neg h]

/-- Settles O3. -/
theorem branchesAndLoops : Obligations.BranchesAndLoops := by
  refine ⟨fun t sd sa sb cond off s hr hl hc => ⟨?_, ?_, fun ha => runSlot_jr hr hl ha⟩,
    fun t level rot sc len s hr hlen hgood => ?_, fun t s hr => ⟨fun hact hend => ?_, fun hzero hact hend => ?_⟩⟩
  · have hcond (a b : Word) : condHolds cond a b = (match cond.val with
        | 0 => a == b
        | 1 => a != b
        | 2 => decide (a.toInt < b.toInt)
        | 3 => decide (b.toInt ≤ a.toInt)
        | 4 => decide (a.toNat < b.toNat)
        | _ => decide (b.toNat ≤ a.toNat)) := by
      unfold condHolds
      split <;> simp_all [bne, Bool.beq_eq_decide_eq]
    have h := runSlot_br hr hl sa sb hc off
    rw [hcond] at h
    exact h
  · exact runSlot_branch hr (by decide) rfl rfl rfl hl rfl rfl rfl false
  · have h := runSlot_loop (rot := rot) (sc := sc) hr hlen hgood
    exact h
  · have hlend : atLend (tileOf s t) = true := by simp [atLend, hact, hend]
    refine ⟨_, execLoopEnd_ready hr hlend, ?_⟩
    rw [tileOf_done, advance, if_pos (by simp [hact, hend])]
    simp [endIteration, rotate_eq, hact, hend]
  · have hoff : ((tileOf s t).l0.act && (tileOf s t).l0.end_ == (tileOf s t).pc) = false := by
      rcases hzero with h | h <;> simp [h]
    have hlend : atLend (tileOf s t) = true := by simp [atLend, hact, hend]
    refine ⟨_, execLoopEnd_ready hr hlend, ?_⟩
    rw [tileOf_done, advance, if_neg (by simp [hoff]), if_pos (by simp [hact, hend])]
    have hother : ¬((tileOf s t).l0.end_ = (tileOf s t).pc ∧ (tileOf s t).l0.act = true) := by simpa [and_comm] using hoff
    simp [endIteration, rotate_eq, hend, hother]

/-! ### Two scalar operations in one bundle (R310, R311, R315) -/

theorem bitsOf_eq (x hi lo : Nat) : bitsOf x hi lo = x / 2 ^ lo % 2 ^ (hi + 1 - lo) := by
  rw [bitsOf, Nat.shiftRight_eq_div_pow]
/-- The word of ADD in S1 (Table 12.5). -/
theorem decodeS1_add (d a b : Fin 32) :
    decodeS1 (BitVec.ofNat 32 (2 ^ 26 + d.val * 2 ^ 21 + a.val * 2 ^ 16 + b.val * 2 ^ 11)).toNat = some (scalarAct 0 d a b) := by
  obtain ⟨d, hd⟩ := d
  obtain ⟨a, ha⟩ := a
  obtain ⟨b, hb⟩ := b
  rw [BitVec.toNat_ofNat, Nat.mod_eq_of_lt (by norm_num; omega)]
  dsimp only
  generalize hw : 2 ^ 26 + d * 2 ^ 21 + a * 2 ^ 16 + b * 2 ^ 11 = w
  norm_num at hw
  have hmajor : bitsOf w 31 26 = 1 := by rw [bitsOf_eq]; norm_num; omega
  have hsd : bitsOf w 25 21 = d := by rw [bitsOf_eq]; norm_num; omega
  have hsa : bitsOf w 20 16 = a := by rw [bitsOf_eq]; norm_num; omega
  have hsb : bitsOf w 15 11 = b := by rw [bitsOf_eq]; norm_num; omega
  have hfn : bitsOf w 10 5 = 0 := by rw [bitsOf_eq]; norm_num; omega
  have hlow : bitsOf w 4 0 = 0 := by rw [bitsOf_eq]; norm_num; omega
  have hne : w ≠ 0 := by omega
  simp [decodeS1, decodeScalar, need, hne, hmajor, hsd, hsa, hsb, hfn, hlow]

section
variable {t : Nat} {s : State} (hr : ready s t = true) {fn fn' d a b d' a' b' : Nat}
include hr

/-- Two scalar operations that write different registers both read the tile as it was. -/
theorem issue_scalars (hd : d ≠ d' ∨ d = 0) :
    issue t [some (scalarAct fn d a b), some (scalarAct fn' d' a' b'), some nopAct, some nopAct] s
      = .done (done s t ((scalarAct fn' d' a' b').run (tileOf s t) { state := s }
          ((scalarAct fn d a b).run (tileOf s t) { state := s } (tileOf s t)))) := by
  obtain ⟨hruns, hfetch⟩ := ready_parts hr
  have hclash : ¬(d ≠ 0 ∧ d = d') := fun h => hd.elim (absurd h.2) h.1
  simp [issue, hruns, hfetch, illegalTrap, scalarAct, nopAct, clash, keyS, hclash, List.zipIdx, worstTrap, branchTrap, done]
/-- Two that write one register make the bundle ILLEGAL, S0 the slot named. -/
theorem issue_scalars_clash (hd : d = d') (hzero : d ≠ 0) :
    issue t [some (scalarAct fn d a b), some (scalarAct fn' d' a' b'), some nopAct, some nopAct] s
      = .trapped (takeTrap t { code := 2 } s) := by
  obtain ⟨hruns, hfetch⟩ := ready_parts hr
  subst hd
  simp [issue, hruns, hfetch, illegalTrap, scalarAct, nopAct, clash, keyS, hzero, List.zipIdx, List.findIdx, List.findIdx.go]
end

/-- What an ILLEGAL bundle leaves of the tile. -/
theorem takeTrap_illegal (t : Nat) (s : State) :
    (tileOf (takeTrap t { code := 2 } s) t).tcause = tcauseWord 2 0 (tileOf s t).task .ok
      ∧ (tileOf (takeTrap t { code := 2 } s) t).tpc = (tileOf s t).pc
      ∧ (tileOf (takeTrap t { code := 2 } s) t).s = (tileOf s t).s := by
  rw [tileOf_takeTrap t { code := 2 } s]
  exact ⟨rfl, rfl, rfl⟩

/-- Settles O4: S1 holds ADD by `decodeS1_add`; whether the two destinations clash decides the rest. -/
theorem parallelBundles : Obligations.ParallelBundles := by
  intro t d a b d' a' b' s hr
  have hslots (fn : Nat) : runScalar t { s1 := BitVec.ofNat 32 (2 ^ 26 + d'.val * 2 ^ 21 + a'.val * 2 ^ 16 + b'.val * 2 ^ 11) }
      (scalarAct fn d a b) s
        = .next (issued s (issue t [some (scalarAct fn d a b), some (scalarAct 0 d' a' b'), some nopAct, some nopAct] s)) := by
    simp only [runScalar, runSlot, slotsOf, decodeS1_add]
    rfl
  refine ⟨fun hd => ?_, fun hd hzero => ⟨_, ?_, takeTrap_illegal t s⟩⟩
  · have hd : d.val ≠ d'.val ∨ d.val = 0 := hd.imp Fin.val_ne_of_ne (congrArg Fin.val)
    have run (fn : Nat) := (hslots fn).trans (congrArg (fun i => (.next (issued s i) : Out)) (issue_scalars hr hd))
    exact ⟨run 0, run 1⟩
  · exact (hslots 0).trans (congrArg (fun i => (.next (issued s i) : Out))
      (issue_scalars_clash hr (congrArg Fin.val hd) (Fin.val_ne_of_ne hzero)))

end Sys2Proof.Machine
end

section
/-! O5 (12 R308, R329, R332 to R339; 11 R301): the system operations. What follows the bundle is what moves the tile between its
levels; the operation's own writes and the next bundle come before it. -/

namespace Sys2Proof.Machine

open Sys2Proof.Safety

/-- The next bundle moves the pc and the loops, and nothing else of the tile. -/
theorem advance_only (pre x : Tile) :
    advance pre x = { x with pc := (advance pre x).pc, l0 := (advance pre x).l0, l1 := (advance pre x).l1, rrb := (advance pre x).rrb } := by
  unfold advance
  split
  · rfl
  · split <;> rfl
@[simp] theorem tileOf_castVote (d client : Nat) (v : Bool) (s : State) (k : Nat) : tileOf (castVote d client v s) k = tileOf s k := rfl

section
variable {t : Fin 52} {s : State} (hr : ready s t = true)
include hr

/-- A system operation that does no more than what follows its bundle. -/
theorem runSlot_after {a : SlotAct} (hi : a.illegal = false) (ht : a.traps s (tileOf s t) = [])
    (hj : a.jump (tileOf s t) = none) (hw : a.waits s (tileOf s t) = false) (hm : a.access s = { state := s })
    (hrun : ∀ m y, a.run (tileOf s t) m y = y) :
    runSlot t 0 (alone false) a s = .next (a.after s (done s t (tileOf s t))) := by
  rw [runSlot_alone hr (by decide) hi ht (by simp [hj, branchTrap]) hw (by simp [hm]) false, hm]
  simp only [oneOperation, hj, hrun, done]
/-- CSRR of a register that exists and that the level may read. -/
theorem runSlot_csrr {sd : Fin 32} {n : Fin 4096} (hn : csrExists n = true) (hl : (tileOf s t).task = false ∨ csrHostOnly n = false) :
    runSlot t 0 (alone false) (csrrAct t sd n) s = .next (done s t (setS sd (csrRead t (tileOf s t) n) (tileOf s t))) := by
  refine runSlot_registers hr (by decide) (by simp [csrrAct, hn]) ?_ rfl rfl rfl rfl false
  rcases hl with h | h <;> simp [csrrAct, csrTraps, privTrap, h]
/-- CSRW of a register that exists and that the level may write. -/
theorem runSlot_csrw {sa : Fin 32} {n : Fin 4096} (hn : csrExists n = true) (hl : (tileOf s t).task = false ∨ csrTaskWrites n = true) :
    runSlot t 0 (alone false) (csrwAct sa n) s = .next (done s t (csrWrite n (sReg (tileOf s t) sa) (tileOf s t))) := by
  refine runSlot_registers hr (by decide) (by simp [csrwAct, hn]) ?_ rfl rfl rfl rfl false
  rcases hl with h | h <;> simp [csrwAct, csrTraps, privTrap, h]
theorem runSlot_fence {sd : Fin 32} (hp : (tileOf s t).posted = 0) :
    runSlot t 0 (alone false) (fenceAct sd) s
      = .next (done s t (setS sd (tileOf s t).tstat { tileOf s t with tstat := 0 })) :=
  runSlot_registers hr (by decide) rfl rfl rfl (by simp [fenceAct, hp]) rfl rfl false
theorem execNop_ready : execNop t s = .next (done s t (tileOf s t)) := by
  have h := issue_nops hr
  simp only [nops] at h
  simp only [execNop, h, issued]

/-- RTE at Host level returns to PLEVEL and TPC (R332). -/
theorem rte_host (hh : (tileOf s t).task = false) :
    ∃ u, runSlot t 0 (alone false) (rteAct t) s = .next u ∧ (tileOf u t).task = (tileOf s t).ptask ∧ (tileOf u t).pc = (tileOf s t).tpc
      ∧ (tileOf u t).tstate = (if (tileOf s t).ptask then .task else .host) ∧ (tileOf u t).s = (tileOf s t).s := by
  refine ⟨_, runSlot_after hr rfl (if_neg (by simp [hh])) rfl rfl rfl fun _ _ => rfl, ?_⟩
  obtain ⟨c, e, h⟩ := tileOf_undefineCx t (modTile (done s t (tileOf s t)) t (fun x =>
    { x with task := x.ptask, tstate := if x.ptask then .task else .host, pc := x.tpc }))
  simp only [rteAct]
  rw [h, tileOf_modTile, tileOf_done, advance_only]
  exact ⟨rfl, rfl, rfl, rfl⟩
/-- WAITOP at Host level leaves the tile waiting for a dispatch (R332; 11 R301). -/
theorem waitop_host (hh : (tileOf s t).task = false) (sd : Fin 32) :
    ∃ u, runSlot t 0 (alone false) (waitopAct t sd) s = .next u ∧ (tileOf u t).waiting = true ∧ (tileOf u t).waitSd = sd := by
  refine ⟨_, runSlot_after hr rfl (if_neg (by simp [hh])) rfl rfl rfl fun _ _ => rfl, ?_⟩
  simp only [waitopAct, tileOf_castVote, tileOf_modTile, and_self]
theorem halt_host (hh : (tileOf s t).task = false) :
    ∃ u, runSlot t 0 (alone false) (haltAct t) s = .next u ∧ (tileOf u t).tstate = .halted := by
  refine ⟨_, runSlot_after hr rfl (if_neg (by simp [hh])) rfl rfl rfl fun _ _ => rfl, ?_⟩
  simp only [haltAct, tileOf_modTile]
/-- YIELD enters Host at TVEC (R332, R334). -/
theorem yield_enters :
    ∃ u, runSlot t 0 (alone false) (yieldAct t) s = .next u ∧ (tileOf u t).task = false ∧ (tileOf u t).ptask = (tileOf s t).task
      ∧ (tileOf u t).tstate = .host ∧ (tileOf u t).pc = (tileOf s t).tvec := by
  refine ⟨_, runSlot_after hr rfl rfl rfl rfl rfl fun _ _ => rfl, ?_⟩
  simp only [yieldAct]
  obtain ⟨c, e, h⟩ := tileOf_enterHost t { code := 0 } (tileOf (done s t (tileOf s t)) t).pc (done s t (tileOf s t))
  rw [tileOf_trapService, h, tileOf_done, advance_only]
  exact ⟨rfl, rfl, rfl, rfl⟩
end

/-- Settles O5. -/
theorem systemOperations : Obligations.SystemOperations :=
  ⟨fun _ _ _ _ hr => ⟨execNop_ready hr, runSlot_csrr hr, runSlot_csrw hr, runSlot_fence hr⟩,
    fun _ sd _ hr => ⟨fun hh => ⟨rte_host hr hh, waitop_host hr hh sd, halt_host hr hh⟩, yield_enters hr⟩⟩

end Sys2Proof.Machine
end

section
/-! O9 (12 R316, R317, R323, R338): loads from a tile's own memories. A first-fault load is followed element by element; each lies
in the region and the words that the whole load was found good in. -/

namespace Sys2Proof.Machine

open Sys2Proof.Safety

/-! ### Parts of an access -/

theorem regionOf_dmem (x : Tile) (a n : Nat) : regionOf x a n = some .dmem ↔
    0x100000 ≤ a ∧ a + n ≤ 0x140000 ∧ (x.task = true → x.tbase.toNat ≤ a ∧ a + n ≤ x.tlimit.toNat) := by
  unfold regionOf
  by_cases h1 : a + n ≤ 0x10000
  · rw [if_pos h1]
    refine ⟨fun h => ?_, fun h => by omega⟩
    split at h <;> cases h
  rw [if_neg h1]
  by_cases h2 : 0x100000 ≤ a ∧ a + n ≤ 0x140000
  · rw [if_pos h2]
    cases x.task <;> simp [h2]
  · rw [if_neg h2]
    refine ⟨fun h => ?_, fun h => absurd ⟨h.1, h.2.1⟩ h2⟩
    repeat' split at h
    all_goals cases h
theorem localPoison_eq_false {x : Tile} {a n : Nat} :
    localPoison x a n = false ↔ ∀ w ∈ wordsOf a n, tabGet false x.poison w = false := by
  simp [localPoison]
/-- Part of a span that holds no poison holds none. -/
theorem localPoison_part {x : Tile} {a n b m : Nat} (h : localPoison x a n = false) (hlo : a ≤ b) (hhi : b + m ≤ a + n) :
    localPoison x b m = false := by
  rw [localPoison_eq_false] at h ⊢
  refine fun w hw => h w ?_
  rw [mem_wordsOf] at hw ⊢
  omega
theorem localBytes_add (x : Tile) (a m n : Nat) : localBytes x a (m + n) = localBytes x a m ++ localBytes x (a + m) n := by
  simp only [localBytes, List.range_add, List.map_append, List.map_map, Function.comp_def, Nat.add_assoc]

/-- A first-fault load of n elements that are all good. -/
theorem loadFirst_good {t w : Nat} {s : State} (hw : w < 2 ^ 32) (n i : Nat) {a : Word}
    (hr : regionOf (tileOf s t) a.toNat (w * n) = some .dmem) (hp : localPoison (tileOf s t) a.toNat (w * n) = false) :
    loadFirst t w none n i a s = { state := s, bytes := localBytes (tileOf s t) a.toNat (w * n), good := n } := by
  induction n generalizing i a with
  | zero => rfl
  | succ n ih =>
    rw [regionOf_dmem] at hr
    obtain ⟨hlo, hhi, htask⟩ := hr
    have hspan : w * (n + 1) = w + w * n := by ring
    rw [hspan] at hhi hp htask
    have hnext : (a + BitVec.ofNat 32 w).toNat = a.toNat + w := by
      rw [BitVec.toNat_add, BitVec.toNat_ofNat, Nat.mod_eq_of_lt hw, Nat.mod_eq_of_lt (by omega)]
    have hfirst : loadBytes t a w false none s = { state := s, bytes := localBytes (tileOf s t) a.toNat w, good := 1 } :=
      loadBytes_local (.inl ((regionOf_dmem _ _ _).mpr ⟨hlo, by omega, fun h => by have := htask h; omega⟩))
        (localPoison_part hp (le_refl _) (by omega))
    have hrest := ih (i + 1) (a := a + BitVec.ofNat 32 w)
      (by rw [hnext, regionOf_dmem]; exact ⟨by omega, by omega, fun h => by have := htask h; omega⟩)
      (by rw [hnext]; exact localPoison_part hp (by omega) (by omega))
    simp only [loadFirst, ite_self, hfirst, hrest, hnext, hspan, localBytes_add]

/-! ### Loads -/

section
variable {t : Fin 52} {s : State} (hr : ready s t = true) {r : Fin 32} {p : Fin 8} {am : Fin 4} {f : BitVec 16}
  (hl : amLegal am f = true)
include hr hl

theorem runSlot_loadAct {major : Nat} {a : Word} (ha : amAddr (tileOf s t) p am f = a)
    (hregion : regionOf (tileOf s t) a.toNat (loadWidth major) = some .dmem ∨ regionOf (tileOf s t) a.toNat (loadWidth major) = some .imem)
    (hpoison : localPoison (tileOf s t) a.toNat (loadWidth major) = false) (halign : a.toNat % loadWidth major = 0) :
    runSlot t 3 (alone false) (loadAct t major r p am f none) s
      = .next (done s t (postModify (tileOf s t) p am f
          (setS r (loadValue major (localBytes (tileOf s t) a.toNat (loadWidth major))) (tileOf s t)))) := by
  subst ha
  exact runSlot_load hr (by decide) (by simp [loadAct, hl]) (if_neg (by simp [halign])) rfl rfl
    (loadBytes_local hregion hpoison) rfl false
theorem runSlot_vldAct {a : Word} (ha : amAddr (tileOf s t) p am f = a)
    (hregion : regionOf (tileOf s t) a.toNat 16 = some .dmem ∨ regionOf (tileOf s t) a.toNat 16 = some .imem)
    (hpoison : localPoison (tileOf s t) a.toNat 16 = false) (halign : a.toNat % 2 = 0) :
    runSlot t 3 (alone false) (vldAct t r p am f none) s
      = .next (done s t (postModify (tileOf s t) p am f (setV (physV (tileOf s t) r)
          (BitVec.ofNat 128 (valueLE (localBytes (tileOf s t) a.toNat 16))) (tileOf s t)))) := by
  subst ha
  exact runSlot_load hr (by decide) (by simp [vldAct, hl]) (if_neg (by simp [halign])) rfl rfl
    (loadBytes_local hregion hpoison) rfl false
theorem runSlot_vldffAct {w : Nat} (hw : w = 2 ∨ w = 4) {a : Word} (ha : amAddr (tileOf s t) p am f = a)
    (hregion : regionOf (tileOf s t) a.toNat 16 = some .dmem) (hpoison : localPoison (tileOf s t) a.toNat 16 = false)
    (halign : a.toNat % w = 0) :
    runSlot t 3 (alone false) (vldffAct t w r p am f none) s
      = .next (done s t (postModify (tileOf s t) p am f (setV (physV (tileOf s t) r)
          (BitVec.ofNat 128 (valueLE (localBytes (tileOf s t) a.toNat 16)))
          { tileOf s t with ffm := BitVec.ofNat 8 (2 ^ (16 / w) - 1) }))) := by
  subst ha
  have hspan : w * (16 / w) = 16 := by rcases hw with rfl | rfl <;> rfl
  have hload := loadFirst_good (t := t) (w := w) (s := s) (by omega) (16 / w) 0 (hspan.symm ▸ hregion) (hspan.symm ▸ hpoison)
  rw [hspan] at hload
  exact runSlot_load hr (by decide) (by simp [vldffAct, hl]) (if_neg (by simp [halign])) rfl rfl hload rfl false
theorem runSlot_pmodAct (ham : am.val = 1 ∨ am.val = 2) :
    runSlot t 3 (alone false) (pmodAct p am f) s
      = .next (done s t (setP p (amPointer (tileOf s t) p am f) (tileOf s t))) := by
  rw [runSlot_registers (a := pmodAct p am f) hr (by decide) (by rcases ham with h | h <;> simp [pmodAct, h, h ▸ hl])
    rfl rfl rfl rfl rfl false]
  simp only [pmodAct, postModify_eq, if_pos ham]
end

/-- Settles O9. -/
theorem localLoads : Obligations.LocalLoads := by
  refine ⟨fun t r p am f n s hr => ?_, fun t r p am f s hr => ?_⟩
  · intro b x a post bytes put hl hregion hpoison
    have hpost (y : Tile) : postModify x p am f y = post y := postModify_eq _ _ _ _ _
    have scalar (major : Nat) (hn : loadWidth major = n) (halign : a.toNat % n = 0) :
        runSlot t 3 b (loadAct t major r p am f none) s = put (loadValue major bytes) := by
      subst hn
      rw [runSlot_loadAct hr hl rfl hregion hpoison halign, hpost]
    refine ⟨fun hn halign => scalar 0x30 hn.symm (hn ▸ halign), fun hn halign => ?_, fun hn => ?_, fun hn halign => ?_⟩
    · exact ⟨scalar 0x31 hn.symm (hn ▸ halign), scalar 0x32 hn.symm (hn ▸ halign)⟩
    · have halign : a.toNat % n = 0 := by rw [hn, Nat.mod_one]
      exact ⟨scalar 0x33 hn.symm halign, scalar 0x34 hn.symm halign⟩
    · subst hn
      exact (runSlot_vldAct hr hl rfl hregion hpoison halign).trans (by rw [hpost])
  · intro b x a post bytes hl
    have hpost (y : Tile) : postModify x p am f y = post y := postModify_eq _ _ _ _ _
    refine ⟨fun ham => runSlot_pmodAct hr hl ham, fun hregion hpoison => ⟨fun halign => ?_, fun halign => ?_⟩⟩
    · exact (runSlot_vldffAct hr hl (.inl rfl) rfl hregion hpoison halign).trans (by rw [hpost]; rfl)
    · exact (runSlot_vldffAct hr hl (.inr rfl) rfl hregion hpoison halign).trans (by rw [hpost]; rfl)

end Sys2Proof.Machine
end

section
/-! O10 and O12 (12 R316, R317, R323, R338): stores into a tile's own memories, and the accesses that trap. What a store leaves is
`StoresBytes`; a masked store is one of its runs, all of which lie in the span it accesses. -/

namespace Sys2Proof.Machine

open Sys2Proof.Safety

/-! ### Stores -/

/-- An outcome is a store of the n bytes of v at a whose place `here` admits: those bytes of tile t change, its pointer p is
post-modified, and nothing else of its registers, of the other tiles or of the mesh changes. -/
def StoresBytes (s : State) (t : Nat) (p : Tab Word) (a : Nat) (o : Out) (n v : Nat) (here : Nat → Bool) : Prop :=
  ∃ u, o = .next u ∧ (tileOf u t).p = p ∧ (tileOf u t).s = (tileOf s t).s ∧ (tileOf u t).v = (tileOf s t).v
    ∧ (∀ k, localByte (tileOf u t) k = if a ≤ k ∧ k < a + n ∧ here (k - a) = true then BitVec.ofNat 8 (v >>> (8 * (k - a)))
                                        else localByte (tileOf s t) k)
    ∧ (∀ k, k ≠ t → tileOf u k = tileOf s k) ∧ u.mesh = s.mesh
/-- The pointers after an access in an addressing mode. -/
def pointersAfter (x : Tile) (p : Fin 8) (am : Fin 4) (f : BitVec 16) : Tab Word :=
  if am.val = 1 ∨ am.val = 2 then tabSet 0 x.p p (amPointer x p am f) else x.p

/-- The span of a masked store is made of whole elements. -/
theorem ffSpan_even (m a : Nat) : ∃ lo len, ffSpan m a = (a + 2 * lo, 2 * len) := by
  unfold ffSpan
  split
  · exact ⟨_, _, rfl⟩
  · exact ⟨0, 0, rfl⟩
theorem ffRuns_inSpan {v m a : Nat} (hm : m < 256) (hspan : (ffSpan m a).2 ≠ 0) :
    ∀ r ∈ ffRuns v m a 8 0, (ffSpan m a).1 ≤ r.1 ∧ r.1 + r.2.length ≤ (ffSpan m a).1 + (ffSpan m a).2 := by
  obtain ⟨-, hbits⟩ := ffSpan_bits m a hm
  obtain ⟨lo, len, he⟩ := ffSpan_even m a
  simp only [he] at hspan hbits ⊢
  intro r hr
  have h := ffRuns_between v m a lo (lo + len - 1) 8 0 (fun j _ hj hb => by have := hbits j (by omega) hb; omega) r hr
  omega
/-- The words of runs that lie in a span clear of poison are clear of it. -/
theorem storeWords_clear {x : Tile} {runs : List Run} {b n : Nat} (hp : localPoison x b n = false)
    (hin : ∀ r ∈ runs, b ≤ r.1 ∧ r.1 + r.2.length ≤ b + n) : ∀ w ∈ storeWords runs, tabGet false x.poison w = false := by
  intro w hw
  obtain ⟨r, hr, hwr⟩ := List.mem_flatMap.mp (List.mem_dedup.mp hw)
  obtain ⟨hlo, hhi⟩ := hin r hr
  exact poison_words (localPoison_part hp hlo hhi) w hwr

section
variable {t : Fin 52} {s : State} (hr : ready s t = true) {r : Fin 32} {p : Fin 8} {am : Fin 4} {f : BitVec 16}
  (hl : amLegal am f = true)
include hr hl

/-- A store of n bytes in one run. -/
theorem runSlot_store_one {act : SlotAct} {n v : Nat} {sc : Bool} {a : Word} (ha : amAddr (tileOf s t) p am f = a)
    (hregion : regionOf (tileOf s t) a.toNat n = some .dmem ∨ regionOf (tileOf s t) a.toNat n = some .imem)
    (hpoison : localPoison (tileOf s t) a.toNat n = false)
    (hi : act.illegal = !amLegal am f) (ht : act.traps s (tileOf s t) = []) (hj : act.jump (tileOf s t) = none)
    (haft : act.after s = id) (hw : act.waits s (tileOf s t) = storeWaits a.toNat n [(a.toNat, bytesLE n v)] (tileOf s t))
    (hacc : act.access s = storeBytes t a n sc [(a.toNat, bytesLE n v)] s)
    (hrun : ∀ m y, act.run (tileOf s t) m y = postModify (tileOf s t) p am f y) :
    StoresBytes s t (pointersAfter (tileOf s t) p am f) a.toNat (runSlot t 3 (alone false) act s) n v (fun _ => true) := by
  subst ha
  obtain ⟨u, hu, hp, hs, hv, hbytes, hrest⟩ := runSlot_store hr hl hregion hi ht hj haft hw hacc hrun
    (storeWords_clear hpoison (by simp [bytesLE_length]))
  exact ⟨u, hu, hp, hs, hv, fun k => (hbytes k).trans (localByte_oneRun _ _ _ _ k), hrest⟩
theorem runSlot_storeAct {major : Nat} {a : Word} (ha : amAddr (tileOf s t) p am f = a)
    (hregion : regionOf (tileOf s t) a.toNat (storeWidth major) = some .dmem ∨ regionOf (tileOf s t) a.toNat (storeWidth major) = some .imem)
    (hpoison : localPoison (tileOf s t) a.toNat (storeWidth major) = false) (halign : a.toNat % storeWidth major = 0) :
    StoresBytes s t (pointersAfter (tileOf s t) p am f) a.toNat (runSlot t 3 (alone false) (storeAct t major r p am f) s)
      (storeWidth major) (sReg (tileOf s t) r).toNat (fun _ => true) := by
  subst ha
  exact runSlot_store_one hr hl rfl hregion hpoison rfl (if_neg (not_not.mpr halign)) rfl rfl rfl rfl fun _ _ => rfl
theorem runSlot_vstAct {a : Word} (ha : amAddr (tileOf s t) p am f = a)
    (hregion : regionOf (tileOf s t) a.toNat 16 = some .dmem ∨ regionOf (tileOf s t) a.toNat 16 = some .imem)
    (hpoison : localPoison (tileOf s t) a.toNat 16 = false) (halign : a.toNat % 2 = 0) :
    StoresBytes s t (pointersAfter (tileOf s t) p am f) a.toNat (runSlot t 3 (alone false) (vstAct t r p am f) s)
      16 (vReg (tileOf s t) r).toNat (fun _ => true) := by
  subst ha
  exact runSlot_store_one hr hl rfl hregion hpoison rfl (if_neg (not_not.mpr halign)) rfl rfl rfl rfl fun _ _ => rfl

/-! ### Masked stores (R323) -/

/-- VSTF with no element to store. -/
theorem runSlot_vstf_none {a : Word} (ha : amAddr (tileOf s t) p am f = a)
    (hspan : (ffSpan (tileOf s t).ffm.toNat a.toNat).2 = 0) (halign : a.toNat % 2 = 0) :
    runSlot t 3 (alone false) (vstfAct t r p am f) s = .next (done s t (postModify (tileOf s t) p am f (tileOf s t))) := by
  subst ha
  refine runSlot_registers hr (by decide) (by simp [vstfAct, hl]) (if_neg (not_not.mpr halign)) rfl ?_ ?_ rfl false
  · simp [vstfAct, hspan]
  · simp only [vstfAct, storeMasked, hspan, if_true]
/-- VSTF whose elements lie in the tile's own memories. -/
theorem runSlot_vstfAct {a : Word} (ha : amAddr (tileOf s t) p am f = a) {span : Nat × Nat}
    (hs : ffSpan (tileOf s t).ffm.toNat a.toNat = span)
    (hown : span.2 = 0 ∨ (regionOf (tileOf s t) span.1 span.2 = some .dmem ∨ regionOf (tileOf s t) span.1 span.2 = some .imem)
      ∧ localPoison (tileOf s t) span.1 span.2 = false) (halign : a.toNat % 2 = 0) :
    StoresBytes s t (pointersAfter (tileOf s t) p am f) a.toNat (runSlot t 3 (alone false) (vstfAct t r p am f) s)
      16 (vReg (tileOf s t) r).toNat (fun k => (tileOf s t).ffm.getLsbD (k / 2)) := by
  have hm : (tileOf s t).ffm.toNat < 256 := (tileOf s t).ffm.isLt
  subst hs ha
  by_cases hzero : (ffSpan (tileOf s t).ffm.toNat (amAddr (tileOf s t) p am f).toNat).2 = 0
  · have hffm : (tileOf s t).ffm.toNat = 0 := (ffSpan_bits _ _ hm).1.mp hzero
    refine ⟨_, runSlot_vstf_none hr hl rfl hzero halign, ?_⟩
    rw [tileOf_done, advance_only, postModify_eq, pointersAfter]
    refine ⟨?_, ?_, ?_, fun k => ?_, fun k hk => tileOf_setTile_other _ _ _ _ hk, rfl⟩
    · split <;> rfl
    · split <;> rfl
    · split <;> rfl
    · refine Eq.trans ?_ (if_neg (by simp [BitVec.getLsbD, hffm])).symm
      split <;> rfl
  · obtain ⟨hregion, hpoison⟩ := hown.resolve_left hzero
    obtain ⟨u, hu, hp, hsc, hv, hbytes, hrest⟩ := runSlot_storeLocal (act := vstfAct t r p am f)
      (a := amAddr (tileOf s t) p am f)
      (runs := ffRuns (vReg (tileOf s t) r).toNat (tileOf s t).ffm.toNat (amAddr (tileOf s t) p am f).toNat 8 0)
      hr hl rfl (if_neg (not_not.mpr halign)) rfl rfl
      (by rcases hregion with h | h <;> simp [vstfAct, storeWaits, h])
      (by rcases hregion with h | h <;> simp only [vstfAct, storeMasked, if_neg hzero, h])
      (fun _ _ => rfl) (storeWords_clear hpoison (ffRuns_inSpan hm hzero))
    exact ⟨u, hu, hp, hsc, hv, fun k => (hbytes k).trans (ffRuns_byte _ _ _ _ _ _ k), hrest⟩
/-- VSTF of a span that no region open to the level holds. -/
theorem runSlot_vstf_access {a : Word} (ha : amAddr (tileOf s t) p am f = a) {span : Nat × Nat}
    (hs : ffSpan (tileOf s t).ffm.toNat a.toNat = span) (hspan : span.2 ≠ 0)
    (hregion : regionOf (tileOf s t) span.1 span.2 = none) (halign : a.toNat % 2 = 0) :
    runSlot t 3 (alone false) (vstfAct t r p am f) s = .next (takeTrap t (accessTrap 3 a) s) := by
  subst hs ha
  have hacc : (vstfAct t r p am f).access s = { state := s, trap := some (accessTrap 3 (amAddr (tileOf s t) p am f)) } := by
    simp only [vstfAct, storeMasked, if_neg hspan, hregion]
  rw [runSlot_accessTrap hr (by decide) (by simp [vstfAct, hl]) (if_neg (not_not.mpr halign)) rfl
    (by simp [vstfAct, storeWaits, hregion]) (by rw [hacc]) false, hacc]
end

/-- What a trap in the M slot leaves of the tile: its cause and address noted, its registers and data as they were. -/
theorem takeTrap_slot3 (t : Nat) (code : Nat) (a : Word) (s : State) :
    (tileOf (takeTrap t { code := code, slot := 3, addr := a } s) t).tcause = tcauseWord code 3 (tileOf s t).task .ok
      ∧ (tileOf (takeTrap t { code := code, slot := 3, addr := a } s) t).taddr = a
      ∧ (tileOf (takeTrap t { code := code, slot := 3, addr := a } s) t).p = (tileOf s t).p
      ∧ (tileOf (takeTrap t { code := code, slot := 3, addr := a } s) t).s = (tileOf s t).s
      ∧ (tileOf (takeTrap t { code := code, slot := 3, addr := a } s) t).v = (tileOf s t).v
      ∧ (tileOf (takeTrap t { code := code, slot := 3, addr := a } s) t).dmem = (tileOf s t).dmem := by
  rw [tileOf_takeTrap t { code := code, slot := 3, addr := a } s]
  exact ⟨rfl, rfl, rfl, rfl, rfl, rfl⟩

/-- Settles O10. -/
theorem localStores : Obligations.LocalStores := by
  intro t r p am f s hr b x a own ptr span stores hl
  refine ⟨fun ⟨hregion, hpoison⟩ halign => runSlot_storeAct (major := 0x35) hr hl rfl hregion hpoison halign,
    fun ⟨hregion, hpoison⟩ halign => runSlot_storeAct (major := 0x36) hr hl rfl hregion hpoison halign,
    fun ⟨hregion, hpoison⟩ => runSlot_storeAct (major := 0x37) hr hl rfl hregion hpoison (Nat.mod_one _),
    fun ⟨hregion, hpoison⟩ halign => runSlot_vstAct hr hl rfl hregion hpoison halign,
    fun hown halign => runSlot_vstfAct hr hl rfl rfl hown halign, fun hspan hregion halign => ?_⟩
  obtain ⟨hcause, -, hp, -, -, hdmem⟩ := takeTrap_slot3 t 7 (amAddr x p am f) s
  exact ⟨_, runSlot_vstf_access hr hl rfl rfl hspan hregion halign, hcause, hp, hdmem⟩

/-! ### Alignment and regions (R317) -/

/-- A load or store of an operation on n bytes with an alignment: misaligned it raises ALIGN, outside every open region ACCESS. -/
structure Accesses (s : State) (t : Nat) (a : Word) (act : SlotAct) (align n : Nat) : Prop where
  legal : act.illegal = false
  traps : act.traps s (tileOf s t) = alignTrap a align
  jump : act.jump (tileOf s t) = none
  waits : regionOf (tileOf s t) a.toNat n = none → act.waits s (tileOf s t) = false
  access : regionOf (tileOf s t) a.toNat n = none → act.access s = { state := s, trap := some (accessTrap 3 a) }

section
variable {t : Fin 52} {s : State} (hr : ready s t = true) {act : SlotAct} {a : Word}
include hr

theorem runSlot_align {align : Nat} (hi : act.illegal = false) (ht : act.traps s (tileOf s t) = alignTrap a align)
    (hj : act.jump (tileOf s t) = none) (halign : a.toNat % align ≠ 0) :
    runSlot t 3 (alone false) act s = .next (takeTrap t { code := 6, slot := 3, addr := a } s) := by
  refine runSlot_trap hr (by decide) hi ?_ false
  rw [ht, hj, alignTrap, if_pos halign]
  rfl
theorem runSlot_access {align n : Nat} (h : Accesses s t a act align n) (halign : a.toNat % align = 0)
    (hregion : regionOf (tileOf s t) a.toNat n = none) :
    runSlot t 3 (alone false) act s = .next (takeTrap t (accessTrap 3 a) s) := by
  have ht : act.traps s (tileOf s t) = [] := by rw [h.traps, alignTrap, if_neg (by simp [halign])]
  rw [runSlot_accessTrap hr (by decide) h.legal ht h.jump (h.waits hregion) (by rw [h.access hregion]) false, h.access hregion]
end

section
variable {s : State} {t : Nat} {r : Fin 32} {p : Fin 8} {am : Fin 4} {f : BitVec 16} (hl : amLegal am f = true)
include hl
theorem loadAct_accesses (major : Nat) :
    Accesses s t (amAddr (tileOf s t) p am f) (loadAct t major r p am f none) (loadWidth major) (loadWidth major) :=
  ⟨by simp [loadAct, hl], rfl, rfl, fun _ => rfl, fun h => by simp only [loadAct, loadBytes, h]⟩
theorem storeAct_accesses (major : Nat) :
    Accesses s t (amAddr (tileOf s t) p am f) (storeAct t major r p am f) (storeWidth major) (storeWidth major) :=
  ⟨by simp [storeAct, hl], rfl, rfl, fun h => by simp [storeAct, storeWaits, h], fun h => by simp only [storeAct, storeBytes, h]⟩
theorem vldAct_accesses : Accesses s t (amAddr (tileOf s t) p am f) (vldAct t r p am f none) 2 16 :=
  ⟨by simp [vldAct, hl], rfl, rfl, fun _ => rfl, fun h => by simp only [vldAct, loadBytes, h]⟩
theorem vstAct_accesses : Accesses s t (amAddr (tileOf s t) p am f) (vstAct t r p am f) 2 16 :=
  ⟨by simp [vstAct, hl], rfl, rfl, fun h => by simp [vstAct, storeWaits, h], fun h => by simp only [vstAct, storeBytes, h]⟩
end

/-- With every ffm bit set VSTF accesses all 16 bytes. -/
theorem ffSpan_full (a : Nat) : ffSpan 0xFF a = (a, 16) := rfl

/-- Settles O12: each operation is an access with its alignment and length; VSTF and first-fault loads apart, both causes. -/
theorem accessRules : Obligations.AccessRules := by
  intro t r p am f s hr hl x b a meets rules
  have met {c : Instr} {code : Nat} (h : exec c s = .next (takeTrap t { code := code, slot := 3, addr := a } s)) : meets c code := by
    obtain ⟨hcause, haddr, hkept⟩ := takeTrap_slot3 t code a s
    exact ⟨_, h, hcause, haddr, hkept⟩
  have rule {c : Instr} {act : SlotAct} {align n : Nat} (hc : exec c s = runSlot t 3 b act s) (h : Accesses s t a act align n) :
      rules c align n :=
    ⟨fun halign => met (hc.trans (runSlot_align hr h.legal h.traps h.jump halign)),
      fun halign hregion => met (hc.trans (runSlot_access hr h halign hregion))⟩
  refine ⟨rule rfl (loadAct_accesses hl 0x30), rule rfl (loadAct_accesses hl 0x31), rule rfl (loadAct_accesses hl 0x32),
    rule rfl (loadAct_accesses hl 0x33), rule rfl (loadAct_accesses hl 0x34), rule rfl (storeAct_accesses hl 0x35),
    rule rfl (storeAct_accesses hl 0x36), rule rfl (storeAct_accesses hl 0x37), rule rfl (vldAct_accesses hl),
    rule rfl (vstAct_accesses hl), fun h => ?_, fun hffm halign hregion => ?_, fun h => ?_, fun h => ?_⟩
  · exact met (runSlot_align (act := vstfAct t r p am f) hr (by simp [vstfAct, hl]) rfl rfl h)
  · have hspan : ffSpan x.ffm.toNat a.toNat = (a.toNat, 16) := by rw [hffm]; exact ffSpan_full _
    exact met (runSlot_vstf_access hr hl rfl hspan (Nat.succ_ne_zero 15) hregion halign)
  · exact met (runSlot_align (act := vldffAct t 2 r p am f none) hr (by simp [vldffAct, hl]) rfl rfl h)
  · exact met (runSlot_align (act := vldffAct t 4 r p am f none) hr (by simp [vldffAct, hl]) rfl rfl h)

end Sys2Proof.Machine
end

section
/-! O13 and O14 (12 R326, R333 to R341; 11 R341): traps at Task level, the load of a tile's image, and the response to a posted
store. A packet that passes back moves the mesh's counts and traces alone. -/

namespace Sys2Proof.Machine

open Sys2Proof.Safety

/-! ### Traps at Task level (R333 to R335) -/

/-- Task level, where a trap without an uncorrectable word enters Host with its cause, its address and its count. -/
theorem takeTrap_enters {t : Fin 52} {s : State} (htask : (tileOf s t).task = true) (w : Trap) (hecc : w.ecc = false) :
    (tileOf (takeTrap t w s) t).task = false ∧ (tileOf (takeTrap t w s) t).ptask = true
      ∧ (tileOf (takeTrap t w s) t).tstate = .host
      ∧ (tileOf (takeTrap t w s) t).tcause = tcauseWord w.code w.slot true w.status ∧ (tileOf (takeTrap t w s) t).taddr = w.addr
      ∧ (tileOf (takeTrap t w s) t).tpc = (tileOf s t).pc ∧ (tileOf (takeTrap t w s) t).pc = (tileOf s t).tvec
      ∧ (tileOf (takeTrap t w s) t).s = (tileOf s t).s ∧ (tileOf (takeTrap t w s) t).v = (tileOf s t).v
      ∧ (tileOf (takeTrap t w s) t).dmem = (tileOf s t).dmem
      ∧ tabGet 0 (tileOf (takeTrap t w s) t).traps w.code = (tabGet 0 (tileOf s t).traps w.code + 1) % 2 ^ 32 := by
  obtain ⟨c, e, h⟩ := tileOf_takeTrap_task htask hecc
  rw [h]
  exact ⟨rfl, htask, rfl, congrArg (fun b => tcauseWord w.code w.slot b w.status) htask, rfl, rfl, rfl, rfl, rfl, rfl,
    tabGet_bump_self _ _⟩
/-- A bundle whose first word does not decode. -/
theorem trapOnly_undecoded {t : Nat} {c : Beside} {s : State} (hr : ready s t = true) (hc : decodeS0 t c.s0.toNat = none) :
    trapOnly t c s s = takeTrap t { code := 2 } s := by
  obtain ⟨hruns, hfetch⟩ := ready_parts hr
  simp [trapOnly, issue, hruns, hfetch, slotsOf, hc, illegalTrap, List.zipIdx]

/-- Settles O13: each bundle takes the trap its one operation raises. -/
theorem trapsEnterHost : Obligations.TrapsEnterHost := by
  intro t s hr htask x b enters
  have entered {o : Out} (w : Trap) (hecc : w.ecc = false) (hst : w.status = .ok) (ho : o = .next (takeTrap t w s)) :
      enters o w.code w.slot w.addr := by
    have h := takeTrap_enters htask w hecc
    rw [hst] at h
    exact ⟨_, ho, h⟩
  have hpriv (slot : Nat) : privTrap x slot = [{ code := 3, slot := slot }] := if_pos htask
  have priv {a : SlotAct} (hi : a.illegal = false) (ht : a.traps s x = privTrap x 0) (hj : a.jump x = none) :
      enters (runSlot t 0 b a s) 3 0 0 :=
    entered { code := 3 } rfl rfl (runSlot_trap hr (by decide) hi (by rw [ht, hj, hpriv]; rfl) false)
  refine ⟨fun c hc => ?_, fun sd n hn hhost => ?_, fun sd => ⟨?_, ?_, ?_⟩, fun sd off hlend => ?_, fun sa ha hlend => ?_,
    fun cd ca hcx => ?_⟩
  · exact entered { code := 2 } rfl rfl (congrArg Host.Outcome.next (trapOnly_undecoded hr hc))
  · exact priv (a := csrrAct t sd n) (by simp [csrrAct, hn]) (by simp [csrrAct, csrTraps, hhost]) rfl
  · exact priv (a := rteAct t) rfl rfl rfl
  · exact priv (a := waitopAct t sd) rfl rfl rfl
  · exact priv (a := haltAct t) rfl rfl rfl
  · have hbranch : branchTrap x ((jalAct sd off).jump x) = [{ code := 5 }] := by simp [branchTrap, hlend, jalAct]
    exact entered { code := 5 } rfl rfl (runSlot_trap (a := jalAct sd off) hr (by decide) rfl
      (by rw [hbranch]; rfl) false)
  · have hbranch : branchTrap x ((jrAct sa).jump x) = [] := by simp [branchTrap, hlend]
    have htraps : (jrAct sa).traps s x = [{ code := 6, addr := sReg x sa }] := if_pos ha
    exact entered { code := 6, addr := sReg x sa } rfl rfl (runSlot_trap (a := jrAct sa) hr (by decide) rfl
      (by rw [hbranch, htraps]; rfl) false)
  · have hcxt : cxTrap x 1 = [{ code := 4, slot := 1 }] := by simp [cxTrap, hcx, x, htask]
    exact entered { code := 4, slot := 1 } rfl rfl (runSlot_trap (a := cxAct 4 cd ca 0) hr (by decide) rfl
      (by rw [show (cxAct 4 cd ca 0).traps s (tileOf s t) = _ from hcxt]; rfl) false)

/-! ### Packets that pass (13 R347, R357 to R359) -/

/-- u differs from s at most in the mesh's credits, its probes' counts and their trace. -/
def probedOnly (s u : State) : Prop :=
  u = { s with mesh := { s.mesh with sent := u.mesh.sent, returned := u.mesh.returned, probeCount := u.mesh.probeCount,
                                     trace := u.mesh.trace, traceWritten := u.mesh.traceWritten } }
theorem probedOnly.refl (s : State) : probedOnly s s := rfl
theorem probedOnly.trans {s u v : State} (h : probedOnly s u) (g : probedOnly u v) : probedOnly s v := by
  unfold probedOnly at *; rw [g, h]
theorem foldl_probedOnly {α : Type} {f : State → α → State} (hf : ∀ u a, probedOnly u (f u a)) (l : List α) (s : State) :
    probedOnly s (l.foldl f s) :=
  List.foldlRecOn (motive := probedOnly s) l f (.refl s) fun u hu a _ => hu.trans (hf u a)
theorem traceFlit_probed (i hdr : Nat) (s : State) : probedOnly s (traceFlit i hdr s) := by
  unfold traceFlit
  dsimp only
  split <;> rfl
theorem probeHop_probed (hdr vc : Nat) (h : Hop) (i : Nat) (s : State) : probedOnly s (probeHop hdr vc h i s) := by
  have counted (c : Prop) [Decidable c] (u : State) : probedOnly s u →
      probedOnly s (if c then traceFlit i hdr u else u) := fun hu => by
    split
    · exact hu.trans (traceFlit_probed i hdr u)
    · exact hu
  unfold probeHop
  dsimp only
  split
  · exact .refl s
  · refine counted _ _ ?_
    split <;> rfl
theorem passPacket_probed (path : List Hop) (hdr vc flits : Nat) (s : State) : probedOnly s (passPacket path hdr vc flits s) := by
  unfold passPacket
  dsimp only
  split
  · exact probedOnly.trans (by rfl) (foldl_probedOnly (fun u h => foldl_probedOnly (fun v i => probeHop_probed hdr vc h i v) _ u) _ _)
  · rfl
theorem passResponse_probed (f : Flit) (st : Status) (s : State) : probedOnly s (passResponse f st s) := passPacket_probed _ _ _ _ _
theorem passRequest_probed (f : Flit) (good : Bool) (s : State) : probedOnly s (passRequest f good s) := passPacket_probed _ _ _ _ _
section
variable {s u : State} (h : probedOnly s u)
include h
theorem probedOnly.tiles : u.tiles = s.tiles := by rw [h]
theorem probedOnly.tileOf (t : Nat) : tileOf u t = tileOf s t := by simp only [Machine.tileOf, h.tiles]
theorem probedOnly.mem : u.mesh.mem = s.mesh.mem := by rw [h]
theorem probedOnly.quarantine : u.mesh.quarantine = s.mesh.quarantine := by rw [h]
theorem probedOnly.outstanding : u.mesh.outstanding = s.mesh.outstanding := by rw [h]
theorem probedOnly.responses : u.mesh.responses = s.mesh.responses := by rw [h]
theorem probedOnly.channels : u.mesh.channels = s.mesh.channels := by rw [h]
theorem probedOnly.poison : u.mesh.poison = s.mesh.poison := by rw [h]
end

/-! ### The load of an image (R341) -/

/-- A tile that an image was loaded into, the c registers apart. -/
def loadedTile (l : Nat) (img : Image) (old : Tile) : Tile :=
  { tstate := .host
    tvec := img.tvec &&& 0xFFFFFFF0, tbase := img.tbase &&& 0xFFFFFFF0, tlimit := img.tlimit &&& 0xFFFFFFF0
    gseg := img.gseg &&& 0x3FF
    cxeh := img.cxeh, cxet := img.cxet, tglobal := img.tglobal
    imem := putCode (img.code.take 4096) 0 []
    dmem := putData (img.data.take 65536) 0x100000 []
    logical := l, image := img
    traps := old.traps, lastTrap := old.lastTrap, bundlesAll := old.bundlesAll, storeFails := old.storeFails
    corrected := old.corrected }
theorem tileOf_loadImage (p l : Nat) (img : Image) (s : State) :
    ∃ c e, tileOf (loadImage p l img s) p = { loadedTile l img (tileOf s p) with c := c, cxerr := e } := by
  obtain ⟨c, e, h⟩ := tileOf_undefineCx p (setTile s p (loadedTile l img (tileOf s p)))
  rw [tileOf_setTile] at h
  exact ⟨c, e, h⟩
theorem tileOf_loadImage_other (l : Nat) (img : Image) (s : State) {p k : Nat} (h : k ≠ p) :
    tileOf (loadImage p l img s) k = tileOf s k := by
  rw [loadImage, tileOf_undefineCx_other _ h, tileOf_setTile_other _ _ _ _ h]
theorem execTileImageLoad_loads {t : Fin 52} {s : State} (hf : isFenced s (unitTile t) = false) (hserve : serviceOf s t = none)
    (img : Image) : ∃ v, execTileImageLoad t img s = .next (loadImage t ((logicalOfTile v t).getD 0x3F) img v)
      ∧ ∀ k, k ≠ t.val → tileOf v k = tileOf s k := by
  refine ⟨releasePassesOfNode t (trapService t s), ?_, fun k hk => ?_⟩
  · simp [execTileImageLoad, loadTile, hf, hserve]
  · rw [tileOf_releasePassesOfNode, tileOf_trapService_other _ hk]

/-! ### The response to a posted store (R339) -/

theorem initNode_identityOf {n sub : Nat} (hn : n < 128) (hs : sub < 256) : initNode (identityOf n sub) = n := by
  unfold initNode identityOf
  omega
/-- No Mover channel is a tile. -/
theorem failDesc_tile (t : Fin 52) (elem : Nat) (w : Bool) (st : Status) (s : State) : failDesc (identityOf t 0) elem w st s = s := by
  have hnone : (List.range 64).find? (fun c => channelIdentity c == identityOf t 0) = none := by
    refine List.find?_eq_none.mpr fun c hc => ?_
    have hc := List.mem_range.mp hc
    have ht := t.isLt
    simp only [channelIdentity, identityOf, beq_iff_eq]
    split <;> omega
  simp only [failDesc, hnone]
/-- The tile's count of posted stores falls; a first failure goes to TSTAT. -/
theorem postedResponse_tile (t : Nat) (st : Status) (addr : Nat) (s : State) :
    tileOf (postedResponse t st addr s) t = { tileOf s t with
      posted := (tileOf s t).posted - 1
      tstat := if st ≠ .ok ∧ (tileOf s t).tstat = 0 then BitVec.ofNat 32 (statusCode st) else (tileOf s t).tstat
      storeFails := if st ≠ .ok then inc32 (tileOf s t).storeFails else (tileOf s t).storeFails } := by
  unfold postedResponse
  dsimp only
  split
  · rw [tileOf_setTile]
  · rw [tileOf_errRecord, tileOf_setTile]
/-- A tile takes the response to a store it posted. -/
theorem takeResponse_posted {t : Fin 52} {s : State} (hp : (tileOf s t).posted ≠ 0) (elem : Nat) (st : Status) (addr : Nat) :
    takeResponse (identityOf t 0) elem false st addr s = postedResponse t st addr s := by
  have hnode : initNode (identityOf t 0) = t.val := initNode_identityOf (by omega) (by decide)
  simp [takeResponse, tileOfInit, hnode, failDesc_tile, hp]

theorem postedStoreResponse_taken {t : Fin 52} {tid : Nat} {s : State} {r : Resp}
    (hfind : s.mesh.responses.find? (fun x => x.init == identityOf t 0 && x.tid == tid && !x.isRead) = some r)
    (hq : s.mesh.quarantine.contains (r.init, r.tid) = false) (hp : (tileOf s t).posted ≠ 0) :
    ∃ u, execPostedStoreResponse t tid s = .next u ∧ tileOf u t = { tileOf s t with
      posted := (tileOf s t).posted - 1
      tstat := if r.status ≠ .ok ∧ (tileOf s t).tstat = 0 then BitVec.ofNat 32 (statusCode r.status) else (tileOf s t).tstat
      storeFails := if r.status ≠ .ok then inc32 (tileOf s t).storeFails else (tileOf s t).storeFails } := by
  have hr := List.find?_some hfind
  simp only [Bool.and_eq_true, beq_iff_eq, Bool.not_eq_eq_eq_not, Bool.not_true] at hr
  obtain ⟨⟨hinit, -⟩, hwrite⟩ := hr
  refine ⟨_, by rw [execPostedStoreResponse, hfind], ?_⟩
  unfold deliverResponse
  extract_lets st v
  have hv : probedOnly (dropResponse r.init r.tid s) v := passResponse_probed _ _ _
  have hst : st = r.status := by simp [st]
  have htile : tileOf (dropOutstanding r.init r.tid v) t = tileOf s t := hv.tileOf t
  rw [if_neg (by rw [hv.quarantine]; simpa [dropResponse] using hq), hst, hinit, hwrite, tileOf_answerOf,
    takeResponse_posted (by rw [← hinit, htile]; exact hp), postedResponse_tile, ← hinit, htile]

/-- Settles O14. -/
theorem imageAndResponses : Obligations.ImageAndResponses := by
  refine ⟨fun t img s hf hserve => ?_, fun t tid s r hfind hq hp => ?_⟩
  · obtain ⟨v, hexec, hother⟩ := execTileImageLoad_loads hf hserve img
    obtain ⟨c, e, hloaded⟩ := tileOf_loadImage t ((logicalOfTile v t).getD 0x3F) img v
    refine ⟨_, hexec, ?_⟩
    rw [hloaded]
    exact ⟨rfl, rfl, rfl, rfl, rfl, rfl, fun k hk => (tileOf_loadImage_other _ _ _ hk).trans (hother k hk)⟩
  · obtain ⟨u, hexec, htile⟩ := postedStoreResponse_taken hfind hq hp
    refine ⟨u, hexec, ?_⟩
    rw [htile]
    exact ⟨rfl, rfl, rfl⟩

end Sys2Proof.Machine
end

section
/-! O21 to O23 (11): the Prefect. A token that finds a free record, the unit that takes an operation, the window's writes, the ends
of operations and the dispatch map. -/

namespace Sys2Proof.Machine

open Sys2Proof.Safety

/-! ### A token becomes a record -/

/-- The record a token becomes, under the next number. -/
def recordOf (s : State) (t : Token) (n : Node) : OpRec :=
  { opseq := s.prefect.nextOpseq, node := t.dest, level := n.level, cls := n.cls, flow := t.flow, buf := t.buf, arg := t.arg
    held := if t.buf = 0xFFFF then [] else [t.buf] }
/-- A state that holds one record more than another: only the trace, the marks of blocking and the account differ besides. -/
def tookRecord (s u : State) (o : OpRec) : Prop :=
  ∃ account, tracedOnly { s with prefect := { s.prefect with
    ops := s.prefect.ops ++ [o], nextOpseq := (s.prefect.nextOpseq + 1) % 2 ^ 32, account := account } } u
theorem newOp_took (t : Token) (n : Node) (s : State) : tookRecord s (newOp t n s) (recordOf s t n) :=
  ⟨_, (trace_traced ..).trans (noteBlock_traced ..)⟩
theorem intoRecord_took {k : Nat} {t : Token} {n : Node} {s : State} (hroom : recordFree s n.level = true) (hf : fifoOf s k = []) :
    tookRecord s (intoRecord k t n s) (recordOf s t n) := by
  have h : intoRecord k t n s = newOp t n (pfBump 6 s) := by simp [intoRecord, hroom, hf]
  obtain ⟨a, ha⟩ := newOp_took t n (pfBump 6 s)
  exact ⟨a, h ▸ ha⟩
/-- A token at a TASK or ACCEL node goes into a record. -/
theorem deliver_record {fuel k : Nat} {t : Token} {n : Node} {s : State} (hn : nodeOf s t.dest = some n)
    (hk : n.kind = .task ∨ n.kind = .accel) : deliver (fuel + 2) k [t] s = intoRecord k t n s := by
  rcases hk with hk | hk <;> simp [deliver, hn, hk]

/-- The tokens of a port with one SOURCE node, which has one successor. -/
theorem raiseToken_single {port flow arg i j : Nat} {src n : Node} {s : State} (hv : port < 128 → s.time.valid = true)
    (hp : (port = 200 ∨ port = 201) → ∀ d, (captureOf s (flow - 0xF000)).det = some d → src.package = d.profile)
    (hs : sourcesOf s port = [(i, src)]) (hj : src.succ = [j]) (hn : nodeOf s j = some n) (hk : n.kind = .task ∨ n.kind = .accel) :
    raiseToken port flow arg s = intoRecord port { flow := flow, dest := j, arg := arg % 2 ^ 64, from_ := i } n s := by
  rw [raiseToken, if_neg (by rintro ⟨h, h'⟩; simp [hv h] at h')]
  simp only [hs]
  rw [List.filter_eq_self.2 fun p hmem => ?_]
  · simp only [List.isEmpty_cons, Bool.false_eq_true, if_false, List.flatMap_cons, List.flatMap_nil, hj, List.map_cons, List.map_nil,
      List.append_nil]
    exact deliver_record (fuel := 4094) (t := { flow := flow, dest := j, arg := arg % 2 ^ 64, from_ := i }) hn hk
  · obtain rfl := List.mem_singleton.1 hmem
    split
    · rename_i h
      split
      · rename_i d hd
        exact beq_iff_eq.2 (hp h d hd)
      · rfl
    · rfl

/-- The flow key a port's token has (R290; Table 11.1). -/
def tokenFlow (s : State) (port flow : Nat) : Nat :=
  if port < 200 then setting s 0x8010 2 port else if port < 202 then 0xF000 + flow % 4096 else flow % 65536
theorem execTokenArrival_eq (port : Fin 256) (flow arg : Nat) (s : State) :
    execTokenArrival port flow arg s = .next (raiseToken port (tokenFlow s port flow) arg s) := by
  unfold execTokenArrival tokenFlow raisePort
  split
  · rfl
  · split <;> rfl

/-- R289 to R292: a token at a port becomes a record. -/
theorem tokenArrival_record {port : Fin 256} {flow arg : Nat} {s : State} {i j : Nat} {src n : Node}
    (hv : port.val < 128 → s.time.valid = true)
    (hp : (port.val = 200 ∨ port.val = 201) → ∀ d, (captureOf s (flow % 4096)).det = some d → src.package = d.profile)
    (hs : sourcesOf s port = [(i, src)]) (hj : src.succ = [j]) (hn : nodeOf s j = some n) (hk : n.kind = .task ∨ n.kind = .accel)
    (hroom : recordFree s n.level = true) (hf : fifoOf s port = []) :
    ∃ u, exec (.tokenArrival port flow arg) s = .next u ∧ tookRecord s u
      (recordOf s { flow := tokenFlow s port flow, dest := j, arg := arg % 2 ^ 64, from_ := i } n) := by
  refine ⟨_, execTokenArrival_eq port flow arg s, ?_⟩
  rw [raiseToken_single hv (fun h d hd => hp h d ?_) hs hj hn hk]
  · exact intoRecord_took hroom hf
  · have hflow : tokenFlow s port flow = 0xF000 + flow % 4096 := by
      rw [tokenFlow, if_neg (by omega), if_pos (by omega)]
    rwa [hflow, Nat.add_sub_cancel_left] at hd

/-! ### A free unit takes an operation -/

/-- An operation goes into service on a unit. -/
theorem serve_ops (o : OpRec) (l p : Nat) (s : State) :
    (serve o l p s).prefect.ops = s.prefect.ops.map (fun x => if x.opseq = o.opseq then
      { x with stage := .inService, lunit := l, punit := p
               ordpos := if runsInOrder s o then tabGet 0 s.prefect.nextOrd o.cls else 0 } else x) := by
  simp only [serve]
  rw [((trace_traced ..).trans (noteBlocks_traced _)).ops]
  split <;> rfl
theorem serve_only (o : OpRec) (l p : Nat) (s : State) : prefectOnly s (serve o l p s) := by
  simp only [serve]
  refine prefectOnly.trans ?_ ((trace_only ..).trans (noteBlocks_only _))
  split <;> rfl
@[simp] theorem completeWaitop_prefect (t opseq : Nat) (s : State) : (completeWaitop t opseq s).prefect = s.prefect := rfl
theorem tileOf_completeWaitop (t opseq : Nat) (s : State) : tileOf (completeWaitop t opseq s) t
    = setS (tileOf s t).waitSd (BitVec.ofNat 32 opseq) { tileOf s t with waiting := false, curOpseq := opseq, done := false } := by
  simp only [completeWaitop, tileOf_castVote, tileOf_modTile]
theorem domainOf_completeWaitop (t opseq : Nat) (s : State) : (domainOf (completeWaitop t opseq s) t).vSelf = true := by
  simp [completeWaitop, castVote, putVote]
/-- A dispatch of a unit that serves a logical unit which is not drained and has an operation to take. -/
theorem execDispatch_takes {p : Fin 60} {s : State} {l : Nat} {o : OpRec} (hf : freeUnit s p = some l) (hd : drained s l = false)
    (ho : chooseOp s l = some o) : execDispatch p s
      = if p.val < 52 then .next (completeWaitop p o.opseq (serve o l p s)) else .next (serve o l (p - 52) s) := by
  simp [execDispatch, hf, hd, ho]
theorem setS_s (r : Nat) (v : Word) {x y : Tile} (h : x.s = y.s) : (setS r v x).s = (setS r v y).s := by
  unfold setS
  split
  · exact h
  · simp only [h]
theorem setS_window (r : Nat) (v : Word) (x : Tile) : (setS r v x).curOpseq = x.curOpseq ∧ (setS r v x).waiting = x.waiting
    ∧ (setS r v x).done = x.done := by
  unfold setS
  split <;> exact ⟨rfl, rfl, rfl⟩

/-- Settles O21. -/
theorem tokensAndDispatch : Obligations.TokensAndDispatch := by
  refine ⟨fun port flow arg s i j src n hv hp hs hj hn hk hroom hf => ?_, fun p s l o hf hd ho => ?_⟩
  · obtain ⟨u, hu, account, h⟩ := tokenArrival_record (arg := arg) hv hp hs hj hn hk hroom hf
    refine ⟨u, hu, h.ops, h.nextOpseq, h.tiles, ?_, ?_, h.sweep⟩
    · rw [h]
    · rw [h]
  · have hx : exec (.dispatch p) s = execDispatch p s := rfl
    rw [hx, execDispatch_takes hf hd ho]
    by_cases hp : p.val < 52
    · simp only [if_pos hp]
      refine ⟨_, rfl, serve_ops .., fun _ => ?_, fun h => absurd hp (by omega)⟩
      rw [tileOf_completeWaitop, (serve_only ..).tileOf]
      obtain ⟨hc, hw, hdone⟩ := setS_window (tileOf s p).waitSd (BitVec.ofNat 32 o.opseq)
        { tileOf s p with waiting := false, curOpseq := o.opseq, done := false }
      exact ⟨hc, hw, hdone, setS_s _ _ rfl, domainOf_completeWaitop ..⟩
    · simp only [if_neg hp]
      exact ⟨_, rfl, serve_ops .., fun h => absurd h hp, fun _ => (serve_only ..).tiles⟩

/-! ### The window's writes (R301, R302) -/

@[simp] theorem setPstatus_prefect (t : Nat) (st : Status) (s : State) : (setPstatus t st s).prefect = s.prefect := rfl
@[simp] theorem tileOf_setPstatus (t : Nat) (st : Status) (s : State) : tileOf (setPstatus t st s) t = { tileOf s t with pstatus := st } :=
  tileOf_modTile ..
@[simp] theorem bufAddRef_ops (h : Nat) (s : State) : (bufAddRef h s).prefect.ops = s.prefect.ops := by
  unfold bufAddRef
  split <;> rfl
theorem bufAddRef_refs {h : Nat} (hh : h ≠ 0xFFFF) (s : State) :
    (bufAddRef h s).prefect.bufRefs = tabSet 0 s.prefect.bufRefs h (tabGet 0 s.prefect.bufRefs h + 1) := by
  rw [bufAddRef, if_neg hh]
  rfl
theorem bufDrop_refs {h : Nat} {s : State} (hh : h ≠ 0xFFFF) (hn : tabGet 0 s.prefect.bufRefs h ≠ 0) :
    (bufDrop h s).prefect.bufRefs = tabSet 0 s.prefect.bufRefs h (tabGet 0 s.prefect.bufRefs h - 1) := by
  simp only [bufDrop]
  rw [if_neg (by simp [hh, hn])]
  split <;> rfl

/-- An EMIT that passes its checks. -/
theorem emitToken_passes {t : Nat} {s : State} {o : OpRec} (ho : serviceOf s t = some o)
    (hc : emitCheck s o ((tileOf s t).emitDst.toNat % 2 ^ 14) ((tileOf s t).emitDst.toNat / 2 ^ 14 % 65536) (tileOf s t).emitBuf = .ok) :
    emitToken t s = setPstatus t .ok (emitInto o ((tileOf s t).emitDst.toNat % 2 ^ 14)
      ((tileOf s t).emitDst.toNat / 2 ^ 14 % 65536) (tileOf s t).emitArg (tileOf s t).emitBuf s) := by
  simp only [emitToken, ho]
  rw [hc]
  rfl
theorem emitInto_ops (o : OpRec) (dest flow arg buf : Nat) (s : State) : (emitInto o dest flow arg buf s).prefect.ops
    = s.prefect.ops.map (fun r => if r.opseq = o.opseq then
        { r with emits := r.emits + 1
                 out := r.out ++ [{ flow := flow, dest := dest, arg := arg, buf := buf, from_ := o.node }] } else r) := by
  simp only [emitInto, modOp, bufAddRef_ops]
/-- A BUFFREE of a buffer that has a reference. -/
theorem bufFree_drops {t h : Nat} {s : State} {o : OpRec} (ho : serviceOf s t = some o) (hh : h < 16384)
    (hn : tabGet 0 s.prefect.bufRefs h ≠ 0) :
    bufFree t h s = setPstatus t .ok (modOp o.opseq (fun x => { x with held := x.held.erase h }) (bufDrop h s)) := by
  simp only [bufFree, ho]
  rw [if_neg (by omega)]

/-! ### A free buffer is found (R302) -/

/-- The search round the pool ends at a free buffer. -/
theorem nextFree_free {refs : Tab Nat} {n h k : Nat} (hk : nextFree refs n h = some k) : k < 16384 ∧ tabGet 0 refs k = 0 := by
  induction n generalizing h with
  | zero => simp [nextFree] at hk
  | succ n ih =>
    rw [nextFree] at hk
    split at hk
    · cases hk
      exact ⟨Nat.mod_lt _ (by decide), ‹_›⟩
    · exact ih hk
/-- It finds one, where one of those it passes is free. -/
theorem nextFree_isSome {refs : Tab Nat} {n h i : Nat} (hi : i < n) (hfree : tabGet 0 refs ((h + i) % 16384) = 0) :
    ∃ k, nextFree refs n h = some k := by
  induction n generalizing h i with
  | zero => omega
  | succ n ih =>
    rw [nextFree]
    split
    · exact ⟨_, rfl⟩
    · cases i with
      | zero => exact absurd hfree ‹_›
      | succ i => exact ih (h := h + 1) (i := i) (by omega) (by rwa [Nat.add_right_comm, Nat.add_assoc])
/-- Every buffer of the pool is passed. -/
theorem nextFree_pool {refs : Tab Nat} {h k : Nat} (hk : k < 16384) (hh : h < 16384) (hfree : tabGet 0 refs k = 0) :
    ∃ j, nextFree refs 16384 h = some j := by
  refine nextFree_isSome (i := (k + 16384 - h) % 16384) (Nat.mod_lt _ (by decide)) ?_
  rwa [show (h + (k + 16384 - h) % 16384) % 16384 = k by omega]
/-- A BUFALLOC while a buffer is free. -/
theorem bufAlloc_free {t k : Nat} {s : State} {o : OpRec} (ho : serviceOf s t = some o) (hk : k < 16384)
    (hfree : tabGet 0 s.prefect.bufRefs k = 0) :
    ∃ h, h < 16384 ∧ tabGet 0 s.prefect.bufRefs h = 0
      ∧ bufAlloc t s = (pfBump 3 (modOp o.opseq (fun x => { x with held := x.held ++ [h] }) (bufAddRef h (drawFree s).2)), h) := by
  obtain ⟨h, hh⟩ := nextFree_pool (h := (drawFree s).1 % 16384) hk (Nat.mod_lt _ (by decide)) hfree
  obtain ⟨hlt, hz⟩ := nextFree_free hh
  refine ⟨h, hlt, hz, ?_⟩
  simp only [bufAlloc, ho, drawFree_prefect]
  rw [hh]

/-! ### A command of profile code on a tile that executes -/

theorem onTile_runs {t : Nat} {s : State} (f : State → State) (hr : tileRuns s t = true) : onTile t s f = .next (f s) := by
  simp [onTile, hr]
theorem execBufalloc_runs {t : Fin 52} {s : State} (hr : tileRuns s t = true) :
    execBufalloc t s = .next (answerOf .ok (bufAlloc t s).2 (bufAlloc t s).1) := onTile_runs _ hr
@[simp] theorem tileOf_answering (st : Status) (s : State) (t : Nat) : tileOf (answering st s) t = tileOf s t := rfl
/-- HOSTCTL at Host level. -/
theorem execHostctlWrite_host {t : Fin 52} {v : Word} {s : State} (hr : tileRuns s t = true) (hh : (tileOf s t).task = false) :
    execHostctlWrite t v s = .next (answering .ok (modTile s t (fun x => { x with accept := n2b v.toNat }))) := by
  simp [execHostctlWrite, hr, hh, windowWrite]

/-- Settles O22. -/
theorem windowAndBuffers : Obligations.WindowAndBuffers := by
  refine ⟨fun t h v s o hr ho => ⟨fun hc => ?_, fun hh => ?_, fun hlt hn => ?_⟩, fun t s o k hr ho hk hfree => ?_⟩
  · refine ⟨_, onTile_runs _ hr, ?_⟩
    rw [emitToken_passes ho hc]
    exact ⟨by simp, by simp [emitInto_ops]⟩
  · refine ⟨_, execHostctlWrite_host hr hh, ?_, rfl, ?_⟩
    · simp only [tileOf_answering, tileOf_modTile, n2b, Nat.testBit_zero]
    · simp only [tileOf_answering, tileOf_modTile]
  · refine ⟨_, onTile_runs _ hr, ?_⟩
    rw [Nat.mod_eq_of_lt (show h < 65536 by omega), bufFree_drops ho hlt hn]
    refine ⟨by simp, ?_⟩
    simp only [setPstatus_prefect, modOp, bufDrop_refs (show h ≠ 0xFFFF by omega) hn]
    exact ⟨tabGet_set_self .., fun k hk => tabGet_set_other _ _ _ _ hk⟩
  · obtain ⟨h, hlt, hz, he⟩ := bufAlloc_free ho hk hfree
    refine ⟨_, h, execBufalloc_runs hr, ?_⟩
    rw [he]
    refine ⟨rfl, hlt, hz, ?_⟩
    have hrefs : (answerOf .ok h (pfBump 3 (modOp o.opseq (fun x => { x with held := x.held ++ [h] })
        (bufAddRef h (drawFree s).2)))).prefect.bufRefs = tabSet 0 s.prefect.bufRefs h 1 := by
      show (bufAddRef h (drawFree s).2).prefect.bufRefs = _
      rw [bufAddRef_refs (by omega), drawFree_prefect, hz]
    rw [hrefs]
    exact ⟨tabGet_set_self .., fun j hj => tabGet_set_other _ _ _ _ hj⟩

end Sys2Proof.Machine
end

section
/-! O23 (11 R297, R301, R303): the end of an operation, the dispatch map and substitution. -/

namespace Sys2Proof.Machine

open Sys2Proof.Safety

/-! ### The records, the FIFOs and the classes that run in order -/

/-- What the end of an operation turns on: the records, the two kinds of FIFO and the ordered classes. -/
structure Records where
  ops : List OpRec
  ports : Tab (List Token)
  tiles : Tab (List Token)
  ordered : Tab Bool
def recordsOf (s : State) : Records := ⟨s.prefect.ops, s.prefect.portFifo, s.prefect.tileFifo, s.prefect.ordered⟩

theorem tracedOnly.records {s u : State} (h : tracedOnly s u) : recordsOf u = recordsOf s := by rw [h]; rfl
theorem recordsOf_bufDrop (h : Nat) (s : State) : recordsOf (bufDrop h s) = recordsOf s := by
  unfold bufDrop
  dsimp only
  split
  · rfl
  · split <;> rfl
theorem recordsOf_releaseBlock (o : OpRec) (s : State) : recordsOf (releaseBlock o s) = recordsOf s := by
  unfold releaseBlock
  dsimp only
  split <;> rfl
theorem recordsOf_modTile (s : State) (t : Nat) (f : Tile → Tile) : recordsOf (modTile s t f) = recordsOf s := rfl

/-- With nothing in a FIFO no token enters a record. -/
theorem refill_empty {fuel : Nat} {s : State} (hp : s.prefect.portFifo = []) (ht : s.prefect.tileFifo = []) : refill fuel s = s := by
  cases fuel with
  | zero => rfl
  | succ n => simp [refill, hp, ht]
/-- With no operation held back none is released. -/
theorem releaseHeld_none {fuel cls flow : Nat} {s : State} (h : s.prefect.ops.all (fun x => x.stage ≠ .doneHeld) = true) :
    releaseHeld fuel cls flow s = s := by
  cases fuel with
  | zero => rfl
  | succ n =>
    rw [releaseHeld]
    split
    · rename_i o ho
      have hstage := List.all_eq_true.1 h o (List.mem_of_find?_eq_some ho)
      rw [if_neg (by simpa using hstage)]
    · rfl
/-- The record of an operation that emitted nothing is freed. -/
theorem releaseOp_records {o : OpRec} (hout : o.out = []) (s : State) : recordsOf (releaseOp o s)
    = { recordsOf s with ops := s.prefect.ops.filter (fun x => x.opseq ≠ o.opseq) } := by
  have h : releaseOp o s = trace 3 o.opseq o.level o.node 0 o.flow (freeRecord o.opseq s) := by simp [releaseOp, hout, deliver]
  rw [h, (trace_traced ..).records]
  rfl

/-- DONE of an operation that emitted nothing and does not run in order, with nothing waiting anywhere (R297, R298). -/
theorem completeOp_frees {s : State} {o : OpRec} (ho : findOp s o.opseq = some o) (hout : o.out = []) (hord : runsInOrder s o = false)
    (hp : s.prefect.portFifo = []) (ht : s.prefect.tileFifo = [])
    (hh : s.prefect.ops.all (fun x => x.stage ≠ .doneHeld) = true) :
    (completeOp o.opseq s).prefect.ops = s.prefect.ops.filter (fun x => x.opseq ≠ o.opseq) := by
  simp only [completeOp, ho]
  have hkeep : recordsOf (releaseBlock o (trace 2 o.opseq o.level o.node 0 o.flow (o.held.foldl (fun u h => bufDrop h u) s)))
      = recordsOf s :=
    (recordsOf_releaseBlock ..).trans ((trace_traced ..).records.trans (foldl_view recordsOf (fun _ _ => recordsOf_bufDrop ..) _ _))
  generalize releaseBlock o (trace 2 o.opseq o.level o.node 0 o.flow (o.held.foldl (fun u h => bufDrop h u) s)) = v at hkeep ⊢
  have hvord : runsInOrder v o = false := by
    rwa [runsInOrder, isOrdered, show v.prefect.ordered = s.prefect.ordered from congrArg Records.ordered hkeep]
  have hw := releaseOp_records hout v
  rw [hkeep, show v.prefect.ops = s.prefect.ops from congrArg Records.ops hkeep] at hw
  rw [hvord, Bool.false_and, if_neg Bool.false_ne_true, (noteBlocks_traced _).ops]
  generalize releaseOp o v = w at hw ⊢
  have hops : w.prefect.ops = s.prefect.ops.filter (fun x => x.opseq ≠ o.opseq) := congrArg Records.ops hw
  have hheld : w.prefect.ops.all (fun x => x.stage ≠ .doneHeld) = true := by
    rw [hops, List.all_eq_true]
    exact fun x hx => List.all_eq_true.1 hh x (List.mem_filter.1 hx).1
  rw [releaseHeld_none hheld, refill_empty ((congrArg Records.ports hw).trans hp) ((congrArg Records.tiles hw).trans ht), hops]

/-! ### DONE of a tile and of a Decoder unit -/

/-- The tile DONE leaves. -/
theorem doneOp_serves {t : Nat} {s : State} {o : OpRec} (ho : serviceOf s t = some o) :
    doneOp t s = completeOp o.opseq (modTile s t (fun x => { x with pstatus := .ok, curOpseq := 0, done := true })) := by
  simp only [doneOp, ho]
/-- The tokens a Decoder unit emits change the Prefect only. -/
theorem accelDone_only (u : Fin 8) (out : List (Nat × Nat × Nat)) (s : State) :
    ∃ w, execAccelOperationDone u out s = .next w ∧ prefectOnly s w := by
  unfold execAccelOperationDone
  split
  · exact ⟨_, rfl, .refl s⟩
  · refine ⟨_, rfl, (foldl_prefectOnly _ (fun t x => ?_) _ _).trans (completeOp_only ..)⟩
    split
    · split
      · exact (bufAddRef_only ..).trans (modOp_only ..)
      · exact .refl t
    · exact .refl t
theorem accelDone_silent {u : Fin 8} {s : State} {o : OpRec}
    (ho : s.prefect.ops.find? (fun x => x.stage == .inService && decide (48 ≤ x.lunit) && x.punit == u.val) = some o) :
    execAccelOperationDone u [] s = .next (completeOp o.opseq s) := by
  simp only [execAccelOperationDone, ho, List.foldl_nil]

/-! ### The dispatch map (R303) -/

/-- A map entry written that keeps its unit. -/
theorem writeMap_sameUnit {s : State} {l v : Nat} (hp : v % 64 = physOf s l) (hh : heldElsewhere s l (v % 64) = false)
    (hf : isFenced s (physUnit l (v % 64)) = false) (ht : l < 48 → v % 64 ≤ 51) (hd : 48 ≤ l → v % 64 ≤ 7) :
    writeMap l v s = (noteBlocks (setDrain l (v.testBit 6) s), .ok) := by
  simp only [writeMap, hh, hf]
  rw [if_neg (by omega), if_neg (by simp), if_pos hp]
theorem execDispatchMapWrite_writable {s : State} {vi : Fin 16} {l v : Nat} (hw : writable s vi 0x8020 1 l 4 v = true) :
    execDispatchMapWrite vi l v s = .next (settle (answering (writeMap l v s).2 (writeMap l v s).1)) := by
  simp only [execDispatchMapWrite, checkedWrite_of_writable hw]
theorem settledOnly.prefect {s u : State} (h : settledOnly s u) : u.prefect = s.prefect := by rw [h]
theorem settledOnly.answer {s u : State} (h : settledOnly s u) : u.answer = s.answer := by rw [h]
theorem settledOnly.tileOf {s u : State} (h : settledOnly s u) (t : Nat) : Machine.tileOf u t = Machine.tileOf s t := by rw [h]; rfl
theorem mapWrite_drains {vi : Fin 16} {l v : Nat} {s : State} (hw : writable s vi 0x8020 1 l 4 v = true) (hp : v % 64 = physOf s l)
    (hh : heldElsewhere s l (v % 64) = false) (hf : isFenced s (physUnit l (v % 64)) = false) (ht : l < 48 → v % 64 ≤ 51)
    (hd : 48 ≤ l → v % 64 ≤ 7) :
    ∃ u, execDispatchMapWrite vi l v s = .next u ∧ u.answer.status = .ok
      ∧ tabGet false u.prefect.drain l = v.testBit 6 ∧ u.prefect.phys = s.prefect.phys ∧ u.prefect.ops = s.prefect.ops := by
  refine ⟨_, execDispatchMapWrite_writable hw, ?_⟩
  rw [writeMap_sameUnit hp hh hf ht hd]
  have hs := settle_settled (answering .ok (noteBlocks (setDrain l (v.testBit 6) s)))
  have hn := noteBlocks_traced (setDrain l (v.testBit 6) s)
  rw [hs.answer, hs.prefect]
  refine ⟨rfl, ?_, hn.phys, hn.ops⟩
  show tabGet false (noteBlocks (setDrain l (v.testBit 6) s)).prefect.drain l = _
  rw [hn.drain]
  exact tabGet_set_self ..

/-! ### The drain limit (R303): no operation's end writes the counts of the drains -/

section
/-- The counts of the drains that ended by the limit. -/
def drainEnds (s : State) : Tab Nat := s.prefect.drainEnded

theorem tracedOnly.drainEnds {s u : State} (h : tracedOnly s u) : Machine.drainEnds u = Machine.drainEnds s := by rw [h]; rfl
theorem drainEnds_bufDrop (h : Nat) (s : State) : drainEnds (bufDrop h s) = drainEnds s := by
  unfold bufDrop
  dsimp only
  split
  · rfl
  · split <;> rfl
theorem drainEnds_newOp (t : Token) (n : Node) (s : State) : drainEnds (newOp t n s) = drainEnds s :=
  ((trace_traced ..).trans (noteBlock_traced ..)).drainEnds
theorem drainEnds_setFifo (k : Nat) (l : List Token) (s : State) : drainEnds (setFifo k l s) = drainEnds s := by
  unfold setFifo
  split <;> rfl
theorem drainEnds_forceEnd (c detail : Nat) (s : State) : drainEnds (forceEnd c detail s) = drainEnds s := by
  unfold forceEnd
  dsimp only
  split <;> rfl
/-- A capture's forced end, where the flow is a capture's. -/
theorem drainEnds_forceEndOf (flow detail : Nat) (s : State) :
    drainEnds (if isCaptureKey flow then forceEnd (flow - 0xF000) detail s else s) = drainEnds s := by
  split
  · exact drainEnds_forceEnd ..
  · rfl
theorem drainEnds_dropToken (k : Nat) (t : Token) (level : Nat) (s : State) : drainEnds (dropToken k t level s) = drainEnds s :=
  (drainEnds_forceEndOf ..).trans ((drainEnds_bufDrop ..).trans (trace_traced ..).drainEnds)
theorem drainEnds_intoRecord (k : Nat) (t : Token) (n : Node) (s : State) : drainEnds (intoRecord k t n s) = drainEnds s := by
  unfold intoRecord
  split
  · exact drainEnds_newOp ..
  · split
    · exact drainEnds_setFifo ..
    · exact drainEnds_dropToken ..
theorem drainEnds_deliver (fuel k : Nat) (l : List Token) (s : State) : drainEnds (deliver fuel k l s) = drainEnds s := by
  induction fuel generalizing l s with
  | zero => cases l <;> rfl
  | succ n ih =>
    cases l with
    | nil => rfl
    | cons t rest =>
      unfold deliver
      split
      · exact (ih ..).trans (drainEnds_bufDrop ..)
      · split
        · exact ih ..
        · dsimp only
          split
          · exact (ih ..).trans (foldl_view drainEnds (fun _ _ => drainEnds_bufDrop ..) _ _)
          · exact ih ..
        · exact (ih ..).trans (drainEnds_intoRecord ..)
theorem drainEnds_refill (fuel : Nat) (s : State) : drainEnds (refill fuel s) = drainEnds s := by
  induction fuel generalizing s with
  | zero => rfl
  | succ n ih =>
    unfold refill
    dsimp only
    split
    · exact (ih _).trans ((drainEnds_newOp ..).trans (drainEnds_setFifo ..))
    · rfl
theorem drainEnds_releaseOp (o : OpRec) (s : State) : drainEnds (releaseOp o s) = drainEnds s :=
  (drainEnds_deliver ..).trans (trace_traced ..).drainEnds
theorem drainEnds_releaseHeld (fuel cls flow : Nat) (s : State) : drainEnds (releaseHeld fuel cls flow s) = drainEnds s := by
  induction fuel generalizing s with
  | zero => rfl
  | succ n ih =>
    unfold releaseHeld
    split
    · split
      · exact (ih _).trans (drainEnds_releaseOp ..)
      · rfl
    · rfl
theorem drainEnds_dropAll (l : List Nat) (s : State) : drainEnds (l.foldl (fun u h => bufDrop h u) s) = drainEnds s :=
  foldl_view drainEnds (fun _ _ => drainEnds_bufDrop ..) l s
theorem drainEnds_trapOp (q : Nat) (s : State) : drainEnds (trapOp q s) = drainEnds s := by
  unfold trapOp
  split
  · rfl
  · rename_i o ho
    refine ((noteBlocks_traced _).drainEnds.trans ((drainEnds_refill ..).trans (drainEnds_releaseHeld ..))).trans
      ((drainEnds_forceEndOf ..).trans ?_)
    have hout : drainEnds (o.out.foldl (fun u t => bufDrop t.buf u) (trace 5 o.opseq o.level o.node 0 o.flow (freeRecord q s)))
        = drainEnds s := (foldl_view drainEnds (fun _ _ => drainEnds_bufDrop ..) _ _).trans (trace_traced ..).drainEnds
    split
    · exact (drainEnds_deliver ..).trans ((drainEnds_dropAll ..).trans hout)
    · exact (drainEnds_dropAll ..).trans hout
theorem drainEnds_trapService (t : Nat) (s : State) : drainEnds (trapService t s) = drainEnds s := by
  unfold trapService
  split
  · exact drainEnds_trapOp ..
  · rfl
theorem drainEnds_takeStop (t : Nat) (s : State) : drainEnds (takeStop t s) = drainEnds s := by
  unfold takeStop
  dsimp only
  split
  · rw [drainEnds, releasePassesOfNode_prefect]
    exact drainEnds_trapService ..
  · rfl
end
theorem drainLimit_counts {l : Fin 52} {s : State} {o : OpRec}
    (ho : s.prefect.ops.find? (fun x => x.stage == .inService && x.lunit == l.val) = some o)
    (hd : tabGet false s.prefect.drain l = true) :
    ∃ u, execDrainLimitExpiry l s = .next u ∧ u.prefect.drainEnded = bump s.prefect.drainEnded l := by
  simp only [execDrainLimitExpiry, ho, hd, if_true]
  refine ⟨_, rfl, ?_⟩
  split
  · exact drainEnds_takeStop ..
  · exact drainEnds_trapOp ..

/-! ### Substitution (R303; 15 R402) -/

/-- The free tiles are those the fences and the map leave. -/
theorem freeTiles_congr {s u : State} (hf : u.fault = s.fault) (hp : u.prefect.phys = s.prefect.phys)
    (hi : u.prefect.invalid = s.prefect.invalid) : freeTiles u = freeTiles s := by
  simp only [freeTiles, isFenced, logicalOfTile, physOf, hf, hp, hi]
theorem tracedOnly.tileOf {s u : State} (h : tracedOnly s u) (t : Nat) : Machine.tileOf u t = Machine.tileOf s t := by rw [h]; rfl
theorem tracedOnly.fault {s u : State} (h : tracedOnly s u) : u.fault = s.fault := by rw [h]


@[simp] theorem refreshPaces_prefect (s : State) : (refreshPaces s).prefect = s.prefect := by
  unfold refreshPaces
  refine foldl_view (fun u : State => u.prefect) ?_ _ _
  exact fun _ _ => rfl
@[simp] theorem refreshPaces_tiles (s : State) : (refreshPaces s).tiles = s.tiles := by
  unfold refreshPaces
  refine foldl_view (fun u : State => u.tiles) ?_ _ _
  exact fun _ _ => rfl
/-- A logical unit bound to a unit, VALID and not draining. -/
def boundTo (l p : Nat) (v : State) : State := refreshPaces (setInvalid l false (setDrain l false (setPhys v l p)))
theorem bindUnit_bound (l p : Nat) (s : State) : ∃ v, bindUnit l p s = boundTo l p v ∧ v.tiles = s.tiles := by
  refine ⟨_, rfl, ?_⟩
  dsimp only
  split <;> rfl
theorem bindUnit_map (l p : Nat) (s : State) : physOf (bindUnit l p s) l = p
    ∧ tabGet false (bindUnit l p s).prefect.drain l = false ∧ tabGet false (bindUnit l p s).prefect.invalid l = false := by
  obtain ⟨v, hv, _⟩ := bindUnit_bound l p s
  simp only [hv, physOf, boundTo, refreshPaces_prefect, setInvalid, setDrain, setPhys, tabGet_set_self, and_self]
theorem tileOf_bindUnit (l p t : Nat) (s : State) : tileOf (bindUnit l p s) t = tileOf s t := by
  obtain ⟨v, hv, ht⟩ := bindUnit_bound l p s
  rw [hv, tileOf, boundTo, refreshPaces_tiles]
  exact congrArg (tabGet ({} : Tile) · t) ht
theorem moveTile_map (l p : Nat) (img : Image) (s : State) : physOf (moveTile l p img s) l = p
    ∧ tabGet false (moveTile l p img s).prefect.drain l = false ∧ tabGet false (moveTile l p img s).prefect.invalid l = false := by
  unfold moveTile
  exact bindUnit_map ..
/-- The tile a logical tile leaves. -/
def vacated (old : Nat) (s : State) : State :=
  modTile (releasePassesOfNode old s) old (fun x => { x with tstate := .reset, logical := 0x3F, accept := false, waiting := false })
theorem tileOf_vacated_other {old t : Nat} (h : t ≠ old) (s : State) : tileOf (vacated old s) t = tileOf s t := by
  rw [vacated, tileOf_modTile_other _ _ h, tileOf_releasePassesOfNode]
/-- The tile a logical tile moves to has its image loaded. -/
theorem tileOf_moveTile (l p : Nat) (img : Image) (s : State) : tileOf (moveTile l p img s) p = tileOf (loadImage p l img s) p := by
  unfold moveTile
  generalize loadImage p l img s = w
  refine (tileOf_bindUnit ..).trans ?_
  show tileOf (if isFenced w (unitTile (physOf s l)) || physOf s l == p then w else vacated (physOf s l) w) p = _
  split
  · rfl
  · rename_i h
    exact tileOf_vacated_other (fun he => h (by simp [← he])) w

/-- A substitution begins: the logical tile drains and stands in the list. -/
def substituting (l : Nat) (s : State) : State :=
  let u := noteBlocks (setDrain l true s)
  { u with prefect := { u.prefect with subst := [(l, 0)] } }
/-- A substitution of a logical tile with nothing in service, where a tile is free and no other substitution waits. -/
theorem substitute_moves {l q : Nat} {rest : List Nat} {s : State} (hs : s.prefect.subst = []) (hi : inServiceOf s l = false)
    (hf : freeTiles s = q :: rest) :
    substitute l [] s = noteBlocks (moveTile l q (tileOf s (physOf s l)).image (substituting l s)) := by
  have hn := noteBlocks_traced (setDrain l true s)
  have hsubst : (noteBlocks (setDrain l true s)).prefect.subst = [] := by
    rw [hn]
    exact hs
  have hidle : inServiceOf (substituting l s) l = false := by
    rw [inServiceOf, substituting, hn.ops]
    exact hi
  have hfree : freeTiles (substituting l s) = q :: rest := (freeTiles_congr hn.fault hn.phys hn.invalid).trans hf
  rw [substituting] at hidle hfree ⊢
  simp only [substitute, hsubst, List.any_nil, Bool.false_eq_true, if_false, List.nil_append, hidle, failSubstitutes, hfree, ne_eq,
    not_true_eq_false, decide_false, Bool.false_and, List.head?_cons]
theorem substitution_moves {l : Fin 48} {n q : Nat} {rest : List Nat} {s : State} (hs : s.prefect.subst = [])
    (hi : inServiceOf s l = false) (hf : freeTiles s = q :: rest) :
    ∃ u, execSubstitution l [] n s = .next u
      ∧ physOf u l = q ∧ tabGet false u.prefect.drain l = false ∧ tabGet false u.prefect.invalid l = false
      ∧ (tileOf u q).tstate = .host ∧ (tileOf u q).pc = 0 ∧ (tileOf u q).logical = l := by
  refine ⟨_, rfl, ?_⟩
  have h := substitute_moves (s := advanceTo n s) (l := l) (by simpa using hs) (by simpa [inServiceOf] using hi)
    ((freeTiles_congr (by simp) (by simp) (by simp)).trans hf)
  generalize (tileOf (advanceTo n s) (physOf (advanceTo n s) l)).image = img at h
  have hset := settle_settled (substitute l [] (advanceTo n s))
  have hn := noteBlocks_traced (moveTile l q img (substituting l (advanceTo n s)))
  obtain ⟨hphys, hdrain, hvalid⟩ := moveTile_map l q img (substituting l (advanceTo n s))
  obtain ⟨c, e, hloaded⟩ := tileOf_loadImage q l img (substituting l (advanceTo n s))
  rw [← tileOf_moveTile] at hloaded
  rw [physOf, hset.prefect, hset.tileOf, h, hn.phys, hn.drain, hn.invalid, hn.tileOf, hloaded]
  exact ⟨hphys, hdrain, hvalid, rfl, rfl, rfl⟩

/-- Settles O23. -/
theorem operationEndsAndMap : Obligations.OperationEndsAndMap := by
  refine ⟨fun s o ho hout hord hp ht hh => ⟨fun t hr hserve => ?_, fun p hfind => ?_⟩, ?_, fun l s o ho hd => ?_, ?_⟩
  · refine ⟨_, onTile_runs _ hr, ?_⟩
    rw [doneOp_serves hserve]
    refine ⟨completeOp_frees ho hout hord hp ht hh, ?_⟩
    rw [(completeOp_only ..).tileOf, tileOf_modTile]
    exact ⟨rfl, rfl, rfl⟩
  · refine ⟨_, accelDone_silent hfind, completeOp_frees ho hout hord hp ht hh, fun out => ?_⟩
    obtain ⟨w, hw, honly⟩ := accelDone_only p out s
    exact ⟨w, hw, honly.tiles, honly.mesh, by rw [honly]⟩
  · exact fun vi l v s hw hp hh hf ht hd => mapWrite_drains hw hp hh hf ht hd
  · obtain ⟨u, hu, h⟩ := drainLimit_counts ho hd
    exact ⟨u, hu, by rw [h, tabGet_bump_self]⟩
  · exact fun l n s q rest hs hi hf => substitution_moves hs hi hf

end Sys2Proof.Machine
end

section
/-! The memories behind the mesh: what a write of bytes leaves, and how a READ or WRITE of a memory ends (13 R345, R348). -/

namespace Sys2Proof.Machine

open Sys2Proof.Safety

/-! ### Bytes of the global space -/

theorem gByte_gPut_self (addr : Nat) (b : BitVec 8) (s : State) : gByte (gPut addr b s) addr = b := by
  unfold gByte gPut
  split
  · rw [tileOf_modTile, memByte_put_self]
  · rw [memByte_put_self]
/-- An address is its node and its offset there. -/
theorem address_ext {a b : Nat} (ha : a < 2 ^ 40) (hb : b < 2 ^ 40) (hn : nodeNum a = nodeNum b) (ho : nodeOff a = nodeOff b) : a = b := by
  simp only [nodeNum, nodeOff] at hn ho
  omega
theorem gByte_gPut_other {a addr : Nat} (ha : a < 2 ^ 40) (haddr : addr < 2 ^ 40) (h : a ≠ addr) (b : BitVec 8) (s : State) :
    gByte (gPut addr b s) a = gByte s a := by
  unfold gByte gPut
  by_cases hd : nodeNum addr < 52
  · rw [if_pos hd]
    by_cases hn : nodeNum a = nodeNum addr
    · have ho : nodeOff a ≠ nodeOff addr := fun ho => h (address_ext ha haddr hn ho)
      rw [hn, if_pos hd, if_pos hd, tileOf_modTile, memByte_put_other _ _ ho]
    · rw [tileOf_modTile_other _ _ hn]
      rfl
  · rw [if_neg hd, memByte_put_other _ _ h]
    rfl
theorem gByte_gPutAll {bs : List (BitVec 8)} {addr a : Nat} (ha : a < 2 ^ 40) (hend : addr + bs.length ≤ 2 ^ 40) (s : State) :
    gByte (gPutAll bs addr s) a = if addr ≤ a ∧ a < addr + bs.length then bs.getD (a - addr) 0 else gByte s a := by
  induction bs generalizing addr s with
  | nil => simp [gPutAll]
  | cons b bs ih =>
    rw [List.length_cons] at hend ⊢
    rw [gPutAll, ih (by omega)]
    rcases Nat.lt_trichotomy a addr with h | rfl | h
    · rw [if_neg (by omega), if_neg (by omega), gByte_gPut_other ha (by omega) (by omega)]
    · rw [if_neg (by omega), if_pos (by omega), gByte_gPut_self, Nat.sub_self, List.getD_cons_zero]
    · rw [gByte_gPut_other ha (by omega) (by omega), show a - addr = (a - (addr + 1)) + 1 by omega, List.getD_cons_succ]
      exact if_congr (by omega) rfl rfl
theorem gByte_setWordPoison (w : Nat) (p : Bool) (s : State) (a : Nat) : gByte (setWordPoison w p s) a = gByte s a := by
  unfold setWordPoison
  split
  · unfold gByte
    by_cases hn : nodeNum a = nodeNum (8 * w)
    · rw [hn, tileOf_modTile]
      rfl
    · rw [tileOf_modTile_other _ _ hn]
      rfl
  · rfl
/-- A write of bytes changes those of its span and no others. -/
theorem gByte_memWrite {bs : List (BitVec 8)} {addr a : Nat} (ha : a < 2 ^ 40) (hend : addr + bs.length ≤ 2 ^ 40) (s : State) :
    gByte (memWrite addr bs s) a = if addr ≤ a ∧ a < addr + bs.length then bs.getD (a - addr) 0 else gByte s a := by
  unfold memWrite
  dsimp only
  rw [gByte_gPutAll ha hend]
  refine if_congr Iff.rfl rfl ?_
  exact foldl_view (gByte · a) (fun _ _ => gByte_setWordPoison ..) _ s

/-! ### The memory of the nodes that are not tiles -/

theorem memByte_gPutAll {bs : List (BitVec 8)} {addr : Nat} (hn : ∀ i, i < bs.length → 52 ≤ nodeNum (addr + i)) (s : State) (a : Nat) :
    memByte (gPutAll bs addr s).mesh.mem a
      = if addr ≤ a ∧ a < addr + bs.length then bs.getD (a - addr) 0 else memByte s.mesh.mem a := by
  induction bs generalizing addr s with
  | nil => simp [gPutAll]
  | cons b bs ih =>
    rw [List.length_cons] at hn ⊢
    have hput : (gPut addr b s).mesh.mem = memPut s.mesh.mem addr b := by
      have h0 : ¬ nodeNum addr < 52 := Nat.not_lt.2 (hn 0 (by omega))
      rw [gPut, if_neg h0]
    rw [gPutAll, ih (fun i hi => by simpa only [Nat.add_assoc, Nat.add_comm 1] using hn (i + 1) (by omega)), hput]
    rcases Nat.lt_trichotomy a addr with h | rfl | h
    · rw [if_neg (by omega), if_neg (by omega), memByte_put_other _ _ (by omega)]
    · rw [if_neg (by omega), if_pos (by omega), memByte_put_self, Nat.sub_self, List.getD_cons_zero]
    · rw [memByte_put_other _ _ (by omega), show a - addr = (a - (addr + 1)) + 1 by omega, List.getD_cons_succ]
      exact if_congr (by omega) rfl rfl
theorem setWordPoison_mem (w : Nat) (p : Bool) (s : State) : (setWordPoison w p s).mesh.mem = s.mesh.mem := by
  unfold setWordPoison
  split <;> rfl
theorem memByte_memWrite {bs : List (BitVec 8)} {addr : Nat} (hn : ∀ i, i < bs.length → 52 ≤ nodeNum (addr + i)) (s : State) (a : Nat) :
    memByte (memWrite addr bs s).mesh.mem a
      = if addr ≤ a ∧ a < addr + bs.length then bs.getD (a - addr) 0 else memByte s.mesh.mem a := by
  unfold memWrite
  dsimp only
  rw [memByte_gPutAll hn]
  refine if_congr Iff.rfl rfl ?_
  exact foldl_view (fun u => memByte u.mesh.mem a) (fun t w => by rw [setWordPoison_mem]) _ s
/-- A span within a block of 256 bytes lies at one node. -/
theorem nodeNum_span {addr i n : Nat} (h : addr % 256 + n ≤ 256) (hi : i < n) : nodeNum (addr + i) = nodeNum addr := by
  have hq : (addr + i) / 256 = addr / 256 := by omega
  have hdiv (x : Nat) : x / 2 ^ 33 = x / 256 / 2 ^ 25 := by rw [Nat.div_div_eq_div_mul]; rfl
  rw [nodeNum, nodeNum, hdiv, hdiv, hq]

/-! ### A memory's span is read and written (13 R345, R348) -/

/-- The memories lie at tiles or above the nodes of the rim. -/
theorem inMemory_node {addr n : Nat} (h : inMemory addr n = true) : nodeNum addr < 52 ∨ 80 ≤ nodeNum addr := by
  unfold inMemory nodeBuffers nodeMram at h
  dsimp only at h
  by_contra hc
  rw [if_neg (by omega), if_neg (by omega), if_neg (by omega), if_neg (by omega)] at h
  simp only [Bool.and_eq_true, decide_eq_true_eq] at h
  omega
theorem serveRead_memory {who addr n : Nat} {s : State} (hm : inMemory addr n = true) (hp : portClosedAt s addr = false)
    (hr : readPoison s addr n = false) : serveRead who addr n s = (s, .ok, gBytes s addr n) := by
  have hn := inMemory_node hm
  simp only [serveRead, hp, Bool.false_eq_true, if_false, meshRead, hm, hr, if_true, nodeCipher]
  rw [if_neg (by omega), if_neg (by omega)]
theorem serveWrite_memory {who addr : Nat} {bs : List (BitVec 8)} {s : State} (hm : inMemory addr bs.length = true)
    (hp : portClosedAt s addr = false) (hw : writePoison s addr bs.length = false) :
    serveWrite who addr bs s = (memWrite addr bs s, .ok) := by
  have hn := inMemory_node hm
  simp only [serveWrite, hp, Bool.false_eq_true, if_false, meshWrite, hm, hw, if_true, nodeCipher]
  rw [if_neg (by omega), if_neg (by omega)]

/-! ### A packet that passes leaves the memories, their poison and the ports -/

section
variable {s u : State} (h : probedOnly s u)
include h
theorem probedOnly.gByte (a : Nat) : gByte u a = gByte s a := by rw [Machine.gByte, h.tileOf, h.mem, Machine.gByte]
theorem probedOnly.gBytes (a n : Nat) : gBytes u a n = gBytes s a n := by simp only [Machine.gBytes, h.gByte]
theorem probedOnly.wordPoison : wordPoison u = wordPoison s := by
  funext w
  rw [Machine.wordPoison, h.tileOf, h.poison, Machine.wordPoison]
theorem probedOnly.readPoison (a n : Nat) : readPoison u a n = readPoison s a n := by simp only [Machine.readPoison, h.wordPoison]
theorem probedOnly.writePoison (a n : Nat) : writePoison u a n = writePoison s a n := by simp only [Machine.writePoison, h.wordPoison]
theorem probedOnly.portClosedAt (a : Nat) : portClosedAt u a = portClosedAt s a := by rw [h]; rfl
end

/-! ### What a write of a memory's bytes leaves -/

/-- u differs from s at most in the memories, their poison and the count of words whose poison a write cleared. -/
def memoryOnly (s u : State) : Prop :=
  u = { s with tiles := u.tiles, mesh := { s.mesh with mem := u.mesh.mem, poison := u.mesh.poison }
               fault := { s.fault with poisonCleared := u.fault.poisonCleared } }
theorem memoryOnly.refl (s : State) : memoryOnly s s := rfl
theorem memoryOnly.trans {s u v : State} (h : memoryOnly s u) (g : memoryOnly u v) : memoryOnly s v := by
  unfold memoryOnly at *; rw [g, h]
theorem gPut_memory (addr : Nat) (b : BitVec 8) (s : State) : memoryOnly s (gPut addr b s) := by
  unfold gPut
  split <;> rfl
theorem gPutAll_memory (bs : List (BitVec 8)) (addr : Nat) (s : State) : memoryOnly s (gPutAll bs addr s) := by
  induction bs generalizing addr s with
  | nil => rfl
  | cons b bs ih => exact (gPut_memory addr b s).trans (ih _ _)
theorem setWordPoison_memory (w : Nat) (p : Bool) (s : State) : memoryOnly s (setWordPoison w p s) := by
  unfold setWordPoison
  split <;> rfl
theorem memWrite_memory (addr : Nat) (bs : List (BitVec 8)) (s : State) : memoryOnly s (memWrite addr bs s) := by
  refine memoryOnly.trans ?_ (gPutAll_memory bs addr _)
  exact memoryOnly.trans (List.foldlRecOn (motive := memoryOnly s) _ _ (.refl s) fun u hu w _ => hu.trans (setWordPoison_memory w false u))
    (by rfl)
section
variable {s u : State} (h : memoryOnly s u)
include h
theorem memoryOnly.responses : u.mesh.responses = s.mesh.responses := by rw [h]
theorem memoryOnly.outstanding : u.mesh.outstanding = s.mesh.outstanding := by rw [h]
theorem memoryOnly.channels : u.mesh.channels = s.mesh.channels := by rw [h]
end

end Sys2Proof.Machine
end

section
/-! O24 (13 R345 to R359): mesh requests and responses, timeouts, lost packets, the spare column and the probes. -/

namespace Sys2Proof.Machine

open Sys2Proof.Safety

/-! ### A request of a memory (R345, R347, R348) -/

/-- The packet of a request, and the octets it brings. -/
def requestFlit (type : Fin 8) (init tid addr : Nat) (len : Fin 256) (age : Fin 64) : Flit :=
  { addr := addr % 2 ^ 40, init := init, tid := tid % 256, type := type, age := age, len := len }
def requestOctets (data : List Nat) (n : Nat) : List (BitVec 8) := (List.range n).map (fun i => BitVec.ofNat 8 (data.getD i 0))
@[simp] theorem requestOctets_length (data : List Nat) (n : Nat) : (requestOctets data n).length = n := by simp [requestOctets]
theorem requestOctets_getD {data : List Nat} {n i : Nat} (h : i < n) :
    (requestOctets data n).getD i 0 = BitVec.ofNat 8 (data.getD i 0) := by
  simp [requestOctets, List.getD_eq_getElem?_getD, h]

/-- A READ or WRITE of a memory is served at once: no memory lies at the loop-timed rim. -/
theorem execMeshRequest_serves {type : Fin 8} {init tid addr : Nat} {len : Fin 256} {age : Fin 64} {data : List Nat} {s : State}
    (ht : type.val < 2) (hi : isIdentity init = true) (hn : nodeExists (initNode init) = true) (htid : tid < 256) (ha : addr < 2 ^ 40)
    (hmay : mayIssue s init tid = true) (hspan : addr % 256 + (len.val + 1) ≤ 256) (hm : inMemory addr (len.val + 1) = true) :
    ∃ f : Flit, f.addr = addr ∧ f.init = init ∧ f.tid = tid ∧ f.type = type ∧ f.len = len
      ∧ execMeshRequest type init tid addr len age data false [] s
        = .next (serveRequest f (requestOctets data (len + 1)) false true (passRequest f true s)) := by
  refine ⟨requestFlit type init tid addr len age, Nat.mod_eq_of_lt ha, rfl, Nat.mod_eq_of_lt htid, rfl, rfl, ?_⟩
  have hgood : goodSpan type addr (len + 1) = true := by simp [goodSpan, hspan]; omega
  have hrim : rimNode (nodeNum addr) = false := by
    have := inMemory_node hm
    simp only [rimNode, Bool.or_eq_false_iff, beq_eq_false_iff_ne]
    omega
  simp only [execMeshRequest, requestFlit, Nat.mod_eq_of_lt ha, Nat.mod_eq_of_lt htid]
  simp [hi, hn, hmay, hgood, hrim, countCorrected, requestOctets]
  rw [if_neg (by omega), if_neg (by omega)]
/-- The READ's octets and its response, which wait for the initiator. -/
theorem serveRequest_read {f : Flit} {bs : List (BitVec 8)} {s : State} (ht : f.type = 0)
    (hr : serveRead f.init f.addr (f.len + 1) s = (s, .ok, gBytes s f.addr (f.len + 1))) :
    serveRequest f bs false true s = answerOf .ok (valueLE (gBytes s f.addr (f.len + 1)))
      (addResponse ⟨f.init, f.tid, f.addr, f.len, true, .ok, gBytes s f.addr (f.len + 1)⟩ (addOutstanding f.init f.tid true s)) := by
  simp only [serveRequest, ht, hr, Bool.not_true, Bool.false_eq_true, if_false, if_true, beq_self_eq_true]
theorem serveRequest_write {f : Flit} {bs : List (BitVec 8)} {s : State} (ht : f.type = 1)
    (hw : serveWrite f.init f.addr bs s = (memWrite f.addr bs s, .ok)) :
    serveRequest f bs false true s = answerOf .ok (valueLE [])
      (addResponse ⟨f.init, f.tid, f.addr, f.len, false, .ok, []⟩ (addOutstanding f.init f.tid false (memWrite f.addr bs s))) := by
  simp [serveRequest, ht, hw]

section
variable {init tid addr : Nat} {len : Fin 256} {age : Fin 64} {data : List Nat} {s : State}
  (hi : isIdentity init = true) (hn : nodeExists (initNode init) = true) (htid : tid < 256) (ha : addr < 2 ^ 40)
  (hmay : mayIssue s init tid = true) (hspan : addr % 256 + (len.val + 1) ≤ 256) (hm : inMemory addr (len.val + 1) = true)
  (hport : portClosedAt s addr = false)
include hi hn htid ha hmay hspan hm hport

theorem meshRequest_reads (hr : readPoison s addr (len.val + 1) = false) :
    ∃ u, exec (.meshRequest 0 init tid addr len age data false []) s = .next u
      ∧ u.answer = ⟨.ok, valueLE (gBytes s addr (len.val + 1))⟩
      ∧ u.mesh.responses = s.mesh.responses ++ [⟨init, tid, addr, len, true, .ok, gBytes s addr (len.val + 1)⟩]
      ∧ u.mesh.outstanding = s.mesh.outstanding ++ [(init, tid, true)]
      ∧ u.mesh.mem = s.mesh.mem ∧ u.tiles = s.tiles := by
  obtain ⟨f, rfl, rfl, rfl, ht, hl, hexec⟩ := execMeshRequest_serves (type := 0) (age := age) (data := data) (by decide) hi hn htid ha hmay hspan hm
  have hv := passRequest_probed f true s
  refine ⟨_, hexec, ?_⟩
  generalize passRequest f true s = v at hv
  rw [serveRequest_read ht]
  · rw [hl, hv.gBytes]
    exact ⟨rfl, congrArg (· ++ _) hv.responses, congrArg (· ++ _) hv.outstanding, hv.mem, hv.tiles⟩
  · rw [hl]
    exact serveRead_memory hm (by rwa [hv.portClosedAt]) (by rwa [hv.readPoison])
theorem meshRequest_writes (hw : writePoison s addr (len.val + 1) = false) :
    ∃ u, exec (.meshRequest 1 init tid addr len age data false []) s = .next u
      ∧ u.answer.status = .ok
      ∧ u.mesh.responses = s.mesh.responses ++ [⟨init, tid, addr, len, false, .ok, []⟩]
      ∧ u.mesh.outstanding = s.mesh.outstanding ++ [(init, tid, false)]
      ∧ ∀ a, a < 2 ^ 40 → gByte u a = if addr ≤ a ∧ a ≤ addr + len.val then BitVec.ofNat 8 (data.getD (a - addr) 0) else gByte s a := by
  obtain ⟨f, rfl, rfl, rfl, ht, hl, hexec⟩ := execMeshRequest_serves (type := 1) (age := age) (data := data) (by decide) hi hn htid ha hmay hspan hm
  have hv := passRequest_probed f true s
  refine ⟨_, hexec, ?_⟩
  generalize passRequest f true s = v at hv
  have hmem := memWrite_memory f.addr (requestOctets data (len + 1)) v
  rw [serveRequest_write ht]
  · rw [hl]
    refine ⟨rfl, congrArg (· ++ _) (hmem.responses.trans hv.responses), congrArg (· ++ _) (hmem.outstanding.trans hv.outstanding),
      fun a h => ?_⟩
    refine (gByte_memWrite (bs := requestOctets data (len + 1)) h (by rw [requestOctets_length]; omega) v).trans ?_
    rw [requestOctets_length, hv.gByte]
    by_cases hin : f.addr ≤ a ∧ a ≤ f.addr + len.val
    · rw [if_pos hin, if_pos (by omega), requestOctets_getD (by omega)]
    · rw [if_neg hin, if_neg (by omega)]
  · exact serveWrite_memory (by rwa [requestOctets_length]) (by rwa [hv.portClosedAt]) (by rwa [requestOctets_length, hv.writePoison])
end

/-! ### Responses and timeouts (R347, R352, R353) -/

/-- The mesh apart from its channels: packets, memories, counts. -/
def packetsOf (s : State) : MeshUnit := { s.mesh with channels := [] }
theorem failDesc_packets (init elem : Nat) (w : Bool) (st : Status) (s : State) : packetsOf (failDesc init elem w st s) = packetsOf s := by
  unfold failDesc
  split
  · rfl
  · dsimp only
    split
    · split <;> rfl
    · rfl
theorem postedResponse_packets (t : Nat) (st : Status) (addr : Nat) (s : State) :
    packetsOf (postedResponse t st addr s) = packetsOf s := by
  unfold postedResponse
  dsimp only
  split
  · rfl
  · rw [packetsOf, (errRecord_report ..).mesh]
    rfl
/-- The end of a request at its initiator moves no packet. -/
theorem takeResponse_packets (init elem : Nat) (rd : Bool) (st : Status) (addr : Nat) (s : State) :
    packetsOf (takeResponse init elem rd st addr s) = packetsOf s := by
  unfold takeResponse
  extract_lets v
  have hv : packetsOf v = packetsOf s := by
    show packetsOf (if st = .ok then s else failDesc init elem (!rd) st s) = _
    split
    · rfl
    · exact failDesc_packets ..
  split
  · split
    · exact (postedResponse_packets ..).trans hv
    · exact hv
  · exact hv

/-- A response whose TID is not quarantined reaches its initiator. -/
theorem deliverResponse_reaches {r : Resp} {s : State} (hq : s.mesh.quarantine.contains (r.init, r.tid) = false) (elem : Nat) :
    ∃ v, probedOnly (dropResponse r.init r.tid s) v ∧ deliverResponse r false elem s
      = answerOf r.status (if r.status = .ok then valueLE r.data else 0)
          (takeResponse r.init elem r.isRead r.status r.addr (dropOutstanding r.init r.tid v)) := by
  unfold deliverResponse
  extract_lets st v
  have hv : probedOnly (dropResponse r.init r.tid s) v := passResponse_probed _ _ _
  have hst : st = r.status := by simp [st]
  refine ⟨v, hv, ?_⟩
  rw [if_neg (by rw [hv.quarantine]; simpa [dropResponse] using hq), hst]
theorem meshResponse_reaches {init tid elem : Nat} {s : State} {r : Resp}
    (hr : s.mesh.responses.find? (fun x => x.init == init && x.tid == tid) = some r)
    (hq : s.mesh.quarantine.contains (r.init, r.tid) = false) :
    ∃ u, exec (.meshResponse init tid false elem []) s = .next u
      ∧ u.answer = ⟨r.status, if r.status = .ok then valueLE r.data else 0⟩
      ∧ u.mesh.outstanding = s.mesh.outstanding.filter (fun x => !(x.1 == init && x.2.1 == tid))
      ∧ u.mesh.responses = s.mesh.responses.filter (fun x => !(x.init == init && x.tid == tid))
      ∧ u.mesh.mem = s.mesh.mem := by
  have hid := List.find?_some hr
  simp only [Bool.and_eq_true, beq_iff_eq] at hid
  obtain ⟨rfl, rfl⟩ := hid
  have hexec : exec (.meshResponse r.init r.tid false elem []) s = .next (deliverResponse r false elem s) := by
    show execMeshResponse _ _ _ _ _ s = _
    rw [execMeshResponse, hr]
    rfl
  obtain ⟨v, hv, h⟩ := deliverResponse_reaches hq elem
  have hp := takeResponse_packets r.init elem r.isRead r.status r.addr (dropOutstanding r.init r.tid v)
  refine ⟨_, hexec, ?_⟩
  rw [h]
  refine ⟨rfl, (congrArg MeshUnit.outstanding hp).trans ?_, (congrArg MeshUnit.responses hp).trans hv.responses,
    (congrArg MeshUnit.mem hp).trans hv.mem⟩
  exact congrArg (List.filter _) hv.outstanding
/-- A request that timed out: counted at its initiator, no longer outstanding, its TID quarantined. -/
def quarantined (init tid : Nat) (s : State) : State :=
  let u := dropOutstanding init tid (countTimeout init s)
  { u with mesh := { u.mesh with quarantine := u.mesh.quarantine ++ [(init, tid)] } }
theorem meshTimeout_quarantines {init tid elem : Nat} {w : Bool} {s : State}
    (h : (s.mesh.outstanding.any (fun x => x.1 == init && x.2.1 == tid)) = true) :
    ∃ u, exec (.meshTimeout init tid elem w) s = .next u ∧ u.answer.status = .timeout
      ∧ u.mesh.outstanding = s.mesh.outstanding.filter (fun x => !(x.1 == init && x.2.1 == tid))
      ∧ u.mesh.quarantine = s.mesh.quarantine ++ [(init, tid)]
      ∧ tabGet 0 u.mesh.timeouts (initNode init) = (tabGet 0 s.mesh.timeouts (initNode init) + 1) % 2 ^ 32 := by
  obtain ⟨x, hx⟩ := Option.isSome_iff_exists.1 (List.find?_isSome.2 (List.any_eq_true.1 h))
  have hexec : execMeshTimeout init tid elem w s = .next (answering .timeout (takeResponse init elem x.2.2 .timeout
      (((s.mesh.responses.find? (fun r => r.init == init && r.tid == tid)).map (·.addr)).getD 0) (quarantined init tid s))) := by
    rw [execMeshTimeout, hx]
    rfl
  generalize ((s.mesh.responses.find? (fun r => r.init == init && r.tid == tid)).map (·.addr)).getD 0 = addr at hexec
  have hp := takeResponse_packets init elem x.2.2 .timeout addr (quarantined init tid s)
  refine ⟨_, hexec, rfl, congrArg MeshUnit.outstanding hp, congrArg MeshUnit.quarantine hp, ?_⟩
  refine (congrArg (fun m => tabGet 0 (MeshUnit.timeouts m) (initNode init)) hp).trans ?_
  exact tabGet_bump_self ..

/-! ### Lost packets (R349) -/

theorem lostRequest_only (init tid : Nat) (rd : Bool) (s : State) : (lostRequest init tid rd s).mesh
    = { s.mesh with outstanding := (lostRequest init tid rd s).mesh.outstanding } := by
  unfold lostRequest
  split <;> rfl
theorem lostRequest_stays {init tid : Nat} {rd : Bool} {s : State} (hi : isIdentity init = true)
    (hn : nodeExists (initNode init) = true) (ht : tid < 256) (hmay : mayIssue s init tid = true) :
    lostRequest init tid rd s = addOutstanding init tid rd s := by
  simp [lostRequest, hi, hn, hmay, Nat.mod_eq_of_lt ht]
/-- A packet lost at a router. -/
theorem headerLost (r : Fin 72) (init tid : Nat) (packet : LostPacket) (s : State) :
    ∃ u, exec (.headerFlitUncorrectable r init packet) s = .next u
      ∧ tabGet 0 u.mesh.discards r = (tabGet 0 s.mesh.discards r + 1) % 2 ^ 32
      ∧ u.mesh.mem = s.mesh.mem
      ∧ (packet = .response tid → u.mesh.outstanding = s.mesh.outstanding
          ∧ ∀ x, x ∈ u.mesh.responses ↔ x ∈ s.mesh.responses ∧ ¬(x.init = init ∧ x.tid = tid))
      ∧ ∀ rd, packet = (if rd = true then .read tid else .write tid) → isIdentity init = true → nodeExists (initNode init) = true →
          tid < 256 → mayIssue s init tid = true →
          u.mesh.outstanding = s.mesh.outstanding ++ [(init, tid, rd)] ∧ u.mesh.responses = s.mesh.responses := by
  let v : State := { s with mesh := { s.mesh with discards := bump s.mesh.discards r } }
  have issued (rd : Bool) (hi : isIdentity init = true) (hn : nodeExists (initNode init) = true) (ht : tid < 256)
      (hmay : mayIssue s init tid = true) : (lostRequest init tid rd v).mesh.outstanding = s.mesh.outstanding ++ [(init, tid, rd)]
      ∧ (lostRequest init tid rd v).mesh.responses = s.mesh.responses := by
    rw [lostRequest_stays hi hn ht (s := v) hmay]
    exact ⟨rfl, rfl⟩
  cases packet with
  | read id =>
    refine ⟨lostRequest init id true v, rfl, ?_, ?_, nofun, fun rd h hi hn ht hmay => ?_⟩
    · rw [lostRequest_only]
      exact tabGet_bump_self ..
    · rw [lostRequest_only]
    · cases rd with
      | false => cases h
      | true => cases h; exact issued true hi hn ht hmay
  | write id =>
    refine ⟨lostRequest init id false v, rfl, ?_, ?_, nofun, fun rd h hi hn ht hmay => ?_⟩
    · rw [lostRequest_only]
      exact tabGet_bump_self ..
    · rw [lostRequest_only]
    · cases rd with
      | false => cases h; exact issued false hi hn ht hmay
      | true => cases h
  | response id =>
    refine ⟨dropResponse init id v, rfl, tabGet_bump_self .., rfl, fun h => ?_, fun rd h => ?_⟩
    · cases h
      exact ⟨rfl, fun x => by simp [dropResponse, v, imp_iff_not_or]⟩
    · cases rd <;> cases h

/-! ### The spare column (R356, Table 13.4) -/

/-- What the loss of a column's packets leaves: no response, no router's count. -/
def columnView (s : State) : Nat × Nat × Nat × List Host.Cell := (s.mesh.failedColumn, s.mesh.sent, s.mesh.retired, s.mesh.mem)
/-- The packets inside the column are lost, and their credits retired. -/
theorem loseColumn_view (lost : List (Nat × Nat × Nat)) (credits : Nat) (s : State) : columnView (loseColumn lost credits s)
    = (s.mesh.failedColumn, (s.mesh.sent + credits) % 2 ^ 64, (s.mesh.retired + credits) % 2 ^ 64, s.mesh.mem) := by
  have h := foldl_view columnView (f := fun (t : State) (x : Nat × Nat × Nat) => dropResponse x.2.1 x.2.2
    { t with mesh := { t.mesh with discards := bump t.mesh.discards (x.1 % 72) } }) (fun _ _ => rfl) lost s
  exact congrArg (fun c : Nat × Nat × Nat × List Host.Cell => (c.1, (c.2.1 + credits) % 2 ^ 64, (c.2.2.1 + credits) % 2 ^ 64, c.2.2.2)) h
theorem settledOnly.mesh {s u : State} (h : settledOnly s u) : u.mesh = s.mesh := by rw [h]
/-- A column declared failed, and the event on its card. -/
def columnFailed (f : Fin 9) (s : State) : State :=
  let c := cardOf s (unitColumn f)
  let v := setCard s (unitColumn f) { c with events := (c.events + 1) % 65536 }
  { v with mesh := { v.mesh with failedColumn := f } }
theorem columnSwitchover_retires {f : Fin 9} {lost : List (Nat × Nat × Nat)} {credits : Nat} {s : State}
    (hs : s.mesh.failedColumn = 0xFF) (hf : f.val ≠ 8) :
    ∃ u, exec (.columnSwitchover f lost credits) s = .next u ∧ u.mesh.failedColumn = f.val
      ∧ u.mesh.sent = (s.mesh.sent + credits) % 2 ^ 64 ∧ u.mesh.retired = (s.mesh.retired + credits) % 2 ^ 64
      ∧ u.mesh.mem = s.mesh.mem := by
  have hne : ¬ f = 8 := fun h => hf (congrArg Fin.val h)
  let w := loseColumn lost credits (columnFailed f s)
  have hexec : execColumnSwitchover f lost credits s = .next (settle (listFence (unitColumn f) (nextEseq w)
      (errRecord { unit := unitColumn f, code := .mesh, severity := .minor, detail := f } w))) := by
    simp only [execColumnSwitchover, hs, ne_eq, not_true_eq_false, if_false, hne]
    rfl
  have h := loseColumn_view lost credits (columnFailed f s)
  simp only [columnView, Prod.mk.injEq] at h
  refine ⟨_, hexec, ?_⟩
  rw [(settle_settled _).mesh, (listFence_report ..).mesh, (errRecord_report ..).mesh]
  exact h

/-! ### Probes (R358, R359) -/

theorem traceModeWrite_clears {vi : Fin 16} {v : Nat} {s : State} (hw : writable s vi 0x8061 3 0 1 v = true) :
    ∃ u, exec (.traceModeWrite vi v) s = .next u ∧ u.answer.status = .ok ∧ u.mesh.trace = [] ∧ setting u 0x8061 3 0 = v
      ∧ u.mesh.mem = s.mesh.mem := by
  have hexec : execTraceModeWrite vi v s = answered (writeTraceMode v s) := by
    rw [execTraceModeWrite, checkedWrite_of_writable hw]
  exact ⟨_, hexec, rfl, rfl, setting_putSetting .., rfl⟩

/-- Settles O24. -/
theorem meshPackets : Obligations.MeshPackets := by
  refine ⟨fun init tid addr len age data s hi hn ht ha hmay hspan hm hport =>
      ⟨meshRequest_reads hi hn ht ha hmay hspan hm hport, meshRequest_writes hi hn ht ha hmay hspan hm hport⟩,
    ⟨fun init tid elem s r => meshResponse_reaches, fun init tid elem w s => meshTimeout_quarantines,
      fun init tid s => ⟨_, rfl, fun x => by simp, rfl⟩, headerLost⟩, ?_, ?_, ?_⟩
  · exact fun f lost credits s => columnSwitchover_retires
  · intro vi i v s hw
    show answered _ = _
    rw [checkedWrite_of_writable hw]
    rfl
  · exact fun vi v s => traceModeWrite_clears

end Sys2Proof.Machine
end

section
/-! O25 (13 R360 to R362): the registers of a Mover channel, its events and the pace timers. -/

namespace Sys2Proof.Machine

open Sys2Proof.Safety

/-! ### A register of a channel is written (R360) -/

/-- The octets of a 32-bit register's write. -/
def wordOctets (w : Nat) : List (BitVec 8) := (octetsLE 4 w).map (BitVec.ofNat 8)
theorem wordsAt_word {off : Nat} (h : off % 4 = 0) : wordsAt off 4 = [off] := by
  have h1 : (off + 4 - 1) / 4 + 1 - off / 4 = 1 := by omega
  have h2 : 4 * (off / 4 + 0) = off := by omega
  simp only [wordsAt, h1, List.range_one, List.map_cons, List.map_nil, h2]
  rfl
/-- A whole register written is the value written. -/
theorem mergeWord_wordOctets {w : Nat} (img off : Nat) (hw : w < 2 ^ 32) : mergeWord img off off (wordOctets w) = w := by
  have h : (List.range 4).map (fun k => if off ≤ off + k ∧ off + k < off + (wordOctets w).length
      then (((wordOctets w)[off + k - off]?).getD 0).toNat else (img >>> (8 * (off + k))) % 256) = octetsLE 4 w := by
    simp [List.range_succ, wordOctets, octetsLE]
  rw [mergeWord, h]
  simp only [octetsLE, fromLE]
  omega
/-- A register write of an allowed identity that the register does not refuse. -/
theorem channelCommand_writes {who c off w : Nat} {s : State} (hi : isIdentity who = true) (hmay : mayWriteChannel s who c = true)
    (hw : w < 2 ^ 32) (hoff : off % 4 = 0) (howner : off = 0x30 → isOffice who = true)
    (hr : wordRefused (channelOf s c) c off w = false) : channelCommand who c off w s = took (writeChannelWord c off w s) := by
  have hlen : (wordOctets w).length = 4 := rfl
  have hown : ([off].contains 0x30 && !isOffice who) = false := by
    by_cases h : off = 0x30
    · simp [howner h]
    · simp [show ¬(0x30 = off) from fun e => h e.symm]
  have hwrite : channelWrite who c off (wordOctets w) s = (writeChannelWord c off w s, .ok) := by
    simp only [channelWrite, hlen, wordsAt_word hoff, hmay, hown, List.any_cons, List.any_nil, mergeWord_wordOctets _ off hw, hr,
      List.foldl_cons, List.foldl_nil, Bool.not_true, Bool.or_false, Bool.false_eq_true, if_false]
  rw [channelCommand, if_pos hi]
  exact congrArg answered hwrite

/-! ### CTRL, KICK and OWNER (R360, R361, Table 13.6) -/

/-- CTRL with its fields written; a channel disabled discards its pending events into OVERRUN. -/
theorem writeCtrl_allowed {c w : Nat} {s : State} (hr : ctrlRefused (channelOf s c) c w = false) :
    writeCtrl c w s = setChannel s c { channelOf s c with
      enable := w.testBit 0, evkind := w / 2 % 8, evsrc := w / 16 % 64, porten := w.testBit 10
      pending := if w.testBit 0 then (channelOf s c).pending else 0
      overrun := if w.testBit 0 then (channelOf s c).overrun else ((channelOf s c).overrun + (channelOf s c).pending) % 2 ^ 32
      waitReady := w.testBit 0 && (channelOf s c).waitReady } := by
  have hon : n2b w = w.testBit 0 := by rw [n2b, Nat.testBit_zero]
  simp only [writeCtrl, hr, hon, bitsOf_eq]
  rfl
theorem ctrlRefused_idle {x : Channel} {c w : Nat} (hrun : x.run = none) (hk : w / 2 % 8 ≤ 2) (ht : w / 2 % 8 = 1 → w / 16 % 64 ≤ 15)
    (hc : w / 2 % 8 = 2 → w / 16 % 64 ≠ c) : ctrlRefused x c w = false := by
  have hk' : bitsOf w 3 1 = w / 2 % 8 := bitsOf_eq ..
  have hs' : bitsOf w 9 4 = w / 16 % 64 := bitsOf_eq ..
  have hreserved : ctrlReserved c w = false := by
    simp only [ctrlReserved, hk', hs', decide_eq_false_iff_not]
    omega
  simp [ctrlRefused, hreserved, hrun]
/-- One event more at a channel, or one overrun more. -/
def oneMore (x : Channel) : Channel :=
  if x.enable = true ∧ x.pending < 255 then { x with pending := x.pending + 1 } else { x with overrun := inc32 x.overrun }
theorem channelEvent_eq (c : Nat) (s : State) : channelEvent c s = setChannel s c (oneMore (channelOf s c)) := by
  unfold channelEvent oneMore
  by_cases he : (channelOf s c).enable = true
  · by_cases hp : (channelOf s c).pending < 255
    · simp [he, hp, Nat.not_le.2 hp]
    · simp [he, hp, Nat.not_lt.1 hp]
  · simp [he]
theorem oneMore_pending (x : Channel) : (oneMore x).pending = x.pending + (if x.enable = true ∧ x.pending < 255 then 1 else 0) := by
  unfold oneMore
  split <;> rfl

/-! ### Pace timers (R362) -/

/-- The events of a timer's firing, one for each of its channels. -/
theorem foldl_channelEvent {l : List Nat} (hl : l.Nodup) (s : State) (c : Nat) :
    channelOf (l.foldl (fun u k => channelEvent k u) s) c = if c ∈ l then oneMore (channelOf s c) else channelOf s c := by
  induction l generalizing s with
  | nil => simp
  | cons k l ih =>
    obtain ⟨hk, hl⟩ := List.nodup_cons.1 hl
    rw [List.foldl_cons, ih hl, channelEvent_eq]
    by_cases hck : c = k
    · subst hck
      simp [hk]
    · simp [hck]
theorem foldl_channelEvent_time (l : List Nat) (s : State) : (l.foldl (fun u k => channelEvent k u) s).time = s.time :=
  foldl_view (fun u : State => u.time) (fun u k => by rw [channelEvent_eq]; rfl) l s

/-- A running timer at an air time of its phase. -/
theorem execPaceTimerFire_fires {t : Fin 16} {n : Nat} {s : State} (hv : s.time.valid = true) (hle : s.time.airTime ≤ n)
    (hp : (timerOf s t).period ≠ 0) (hn : n % (timerOf s t).period = (timerOf s t).phase) (hf : hasFired (64 + t) n s = false) :
    ∃ v, execPaceTimerFire t n s = .next ((timerChannels v t).foldl (fun u c => channelEvent c u) v)
      ∧ v.mesh = s.mesh ∧ v.time.airTime = n
      ∧ timerOf v t = { timerOf s t with
          period := (timerOf s t).newPeriod.getD (timerOf s t).period, phase := (timerOf s t).newPhase.getD (timerOf s t).phase
          newPeriod := none, newPhase := none } := by
  refine ⟨_, if_pos ⟨hv, hle, hp, hn, hf⟩, ?_, ?_, timerOf_setTimer ..⟩
  · simp [setTimer, markFired]
  · exact advanceTo_airTime_of_le hv hle
theorem writeTimer_period (t v : Nat) (s : State) : writeTimer t false v s = (setTimer s t
    (if (timerOf s t).period = 0 then { timerOf s t with period := v } else { timerOf s t with newPeriod := some v }), .ok) := by
  simp only [writeTimer, Bool.false_eq_true, false_and, if_false]
  split <;> rfl
theorem writeTimer_phase {t v : Nat} {s : State} (hlt : v < (timerOf s t).newPeriod.getD (timerOf s t).period) :
    writeTimer t true v s = (setTimer s t
      (if (timerOf s t).period = 0 then { timerOf s t with phase := v } else { timerOf s t with newPhase := some v }), .ok) := by
  simp only [writeTimer, if_true]
  rw [if_neg (by omega)]
  split <;> rfl

/-- Settles O25. -/
theorem moverRegisters : Obligations.MoverRegisters := by
  refine ⟨fun c who w s hi hmay hw => ⟨fun hrun hk ht hc => ?_, ?_, fun e => ?_, rfl, fun t => ?_, fun k => ?_, fun ho hv => ?_⟩,
    fun t n s hv hle hp hn hf => ?_, fun vi t v s => ⟨fun hw => ?_, fun hw hlt => ?_⟩⟩
  · have hr := ctrlRefused_idle hrun hk ht hc
    exact (channelCommand_writes (off := 0) hi hmay hw rfl nofun hr).trans (congrArg took (writeCtrl_allowed hr))
  · exact (channelCommand_writes (off := 4) hi hmay (by decide) rfl nofun rfl).trans (congrArg took (channelEvent_eq ..))
  · show Host.Outcome.next _ = _
    rw [channelEvent_eq]
    rfl
  · simp [takesEvent]
  · simp [takesEvent]
  · have hr : wordRefused (channelOf s c) c 0x30 w = false := by
      simp only [wordRefused, decide_eq_false_iff_not]
      omega
    refine (channelCommand_writes (off := 0x30) hi hmay hw rfl (fun _ => ho) hr).trans (congrArg took ?_)
    exact if_neg (by omega)
  · obtain ⟨v, hexec, hmesh, hat, htimer⟩ := execPaceTimerFire_fires hv hle hp hn hf
    have hch (k : Nat) : channelOf v k = channelOf s k := by rw [channelOf, hmesh, channelOf]
    have htime := foldl_channelEvent_time (timerChannels v t) v
    refine ⟨_, hexec, by rw [htime, hat], ?_, fun k hk => ?_⟩
    · rw [timerOf, htime]
      exact htimer
    · have hmem : k ∈ timerChannels v t ↔ (channelOf s k).evkind = 1 ∧ (channelOf s k).evsrc = t.val := by
        simp [timerChannels, hch, hk]
      have hnodup : (timerChannels v t).Nodup := List.nodup_range.filter _
      rw [foldl_channelEvent hnodup, hch]
      by_cases hnames : (channelOf s k).evkind = 1 ∧ (channelOf s k).evsrc = t.val
      · rw [if_pos (hmem.2 hnames), oneMore_pending]
        simp [hnames]
      · rw [if_neg (mt hmem.1 hnames), if_neg (fun h => hnames ⟨h.1, h.2.1⟩), Nat.add_zero]
  · refine (congrArg answered (checkedWrite_of_writable hw _)).trans ?_
    rw [writeTimer_period]
    rfl
  · refine (congrArg answered (checkedWrite_of_writable hw _)).trans ?_
    rw [writeTimer_phase hlt]
    rfl

end Sys2Proof.Machine
end

section
/-! O26 (13 R364 to R366): a Mover's descriptor starts, and the copy of one element completes it. -/

namespace Sys2Proof.Machine

open Sys2Proof.Safety

/-! ### Transactions with a memory -/

/-- u differs from s at most in the count of free values and in what packets that pass move. -/
def passedOnly (s u : State) : Prop := probedOnly { s with freeCount := u.freeCount } u
section
variable {s u : State} (h : passedOnly s u)
include h
theorem passedOnly.tiles : u.tiles = s.tiles := probedOnly.tiles (s := { s with freeCount := u.freeCount }) h
theorem passedOnly.mem : u.mesh.mem = s.mesh.mem :=
  probedOnly.mem (s := { s with freeCount := u.freeCount }) h
theorem passedOnly.channelOf (c : Nat) : channelOf u c = channelOf s c :=
  congrArg (tabGet ({} : Channel) · c) (probedOnly.channels (s := { s with freeCount := u.freeCount }) h)
theorem passedOnly.gBytes (a n : Nat) : gBytes u a n = gBytes s a n := probedOnly.gBytes h a n
theorem passedOnly.wordPoison : wordPoison u = wordPoison s :=
  probedOnly.wordPoison (s := { s with freeCount := u.freeCount }) h
theorem passedOnly.readPoison (a n : Nat) : readPoison u a n = readPoison s a n := probedOnly.readPoison h a n
theorem passedOnly.writePoison (a n : Nat) : writePoison u a n = writePoison s a n := probedOnly.writePoison h a n
theorem passedOnly.portClosedAt (a : Nat) : portClosedAt u a = portClosedAt s a := probedOnly.portClosedAt h a
end
theorem passedOnly.refl (s : State) : passedOnly s s := rfl
theorem passedOnly.trans {s u v : State} (h : passedOnly s u) (g : passedOnly u v) : passedOnly s v := by
  unfold passedOnly probedOnly at *
  rw [g, h]
theorem passedOnly.of_probed {s u : State} (h : probedOnly s u) : passedOnly s u := by
  unfold passedOnly probedOnly at *
  rw [h]
theorem chooseTid_passed (who : Nat) (s : State) : passedOnly s (chooseTid who s).2 := rfl

/-- A read of a memory within a block of 256 bytes. -/
theorem readTxn_memory {addr n : Nat} {s : State} (who : Nat) (hspan : addr % 256 + n ≤ 256) (hm : inMemory addr n = true)
    (hp : portClosedAt s addr = false) (hr : readPoison s addr n = false) :
    ∃ u, readTxn who addr n s = (u, .ok, gBytes s addr n) ∧ passedOnly s u := by
  have hgood : goodSpan 0 addr n = true := by simp [goodSpan, hspan]
  let f : Flit := { addr := addr, init := who, tid := (chooseTid who s).1, type := 0, len := n - 1 }
  have hv : passedOnly s (passRequest f true (chooseTid who s).2) :=
    (chooseTid_passed who s).trans (.of_probed (passRequest_probed ..))
  have hserve : serveRead who addr n (passRequest f true (chooseTid who s).2) = (_, .ok, gBytes s addr n) :=
    (serveRead_memory hm (by rwa [hv.portClosedAt]) (by rwa [hv.readPoison])).trans (by rw [hv.gBytes])
  refine ⟨passResponse f .ok (passRequest f true (chooseTid who s).2), ?_, hv.trans (.of_probed (passResponse_probed ..))⟩
  simp only [readTxn, hgood, if_true, f] at hserve ⊢
  rw [hserve]

/-- What a write of bytes at an address leaves: those bytes, no new poison, no port and no channel. -/
structure Wrote (s u : State) (addr : Nat) (bs : List (BitVec 8)) : Prop where
  bytes : ∀ a, memByte u.mesh.mem a = if addr ≤ a ∧ a < addr + bs.length then bs.getD (a - addr) 0 else memByte s.mesh.mem a
  clean : ∀ w, wordPoison u w = true → wordPoison s w = true
  ports : ∀ a, portClosedAt u a = portClosedAt s a
  channels : ∀ c, channelOf u c = channelOf s c

theorem wordPoison_gPutAll (bs : List (BitVec 8)) (addr : Nat) (s : State) (w : Nat) :
    wordPoison (gPutAll bs addr s) w = wordPoison s w := by
  induction bs generalizing addr s with
  | nil => rfl
  | cons b bs ih =>
    refine (ih ..).trans ?_
    unfold gPut
    split
    · unfold wordPoison
      by_cases hn : nodeNum (8 * w) = nodeNum addr
      · rw [hn, tileOf_modTile]
        rfl
      · rw [tileOf_modTile_other _ _ hn]
        rfl
    · rfl
theorem tabGet_clear {p : Tab Bool} {k j : Nat} (h : tabGet false (tabSet false p k false) j = true) : tabGet false p j = true := by
  rw [tabGet_set] at h
  split at h
  · exact absurd h Bool.false_ne_true
  · exact h
/-- Clearing a word's poison leaves no other word poisoned that was not. -/
theorem wordPoison_clear {k w : Nat} {s : State} (h : wordPoison (setWordPoison k false s) w = true) : wordPoison s w = true := by
  unfold setWordPoison at h
  split at h
  · rename_i hk
    unfold wordPoison at h ⊢
    by_cases hn : nodeNum (8 * w) = nodeNum (8 * k)
    · rw [hn, if_pos hk, tileOf_modTile] at h
      rw [hn, if_pos hk]
      exact tabGet_clear h
    · rwa [tileOf_modTile_other _ _ hn] at h
  · unfold wordPoison at h ⊢
    split
    · rename_i hw
      rwa [if_pos hw] at h
    · rename_i hw
      rw [if_neg hw] at h
      exact tabGet_clear h
theorem memWrite_wrote {bs : List (BitVec 8)} {addr : Nat} (hn : ∀ i, i < bs.length → 52 ≤ nodeNum (addr + i)) (s : State) :
    Wrote s (memWrite addr bs s) addr bs where
  bytes := memByte_memWrite hn s
  clean w h := by
    unfold memWrite at h
    dsimp only at h
    rw [wordPoison_gPutAll] at h
    exact List.foldlRecOn (motive := fun u => wordPoison u w = true → wordPoison s w = true) _ _ id
      (fun u hu k _ hk => hu (wordPoison_clear hk)) h
  ports a := by rw [memWrite_memory]; rfl
  channels c := congrArg (tabGet ({} : Channel) · c) (memWrite_memory ..).channels
theorem Wrote.after {s v u w : State} {addr : Nat} {bs : List (BitVec 8)} (hv : passedOnly s v) (h : Wrote v u addr bs)
    (hw : passedOnly u w) : Wrote s w addr bs where
  bytes a := by rw [hw.mem, h.bytes, hv.mem]
  clean k hk := hv.wordPoison ▸ h.clean k (hw.wordPoison ▸ hk)
  ports a := by rw [hw.portClosedAt, h.ports, hv.portClosedAt]
  channels c := by rw [hw.channelOf, h.channels, hv.channelOf]
theorem Wrote.writePoison {s u : State} {addr a n : Nat} {bs : List (BitVec 8)} (h : Wrote s u addr bs)
    (hp : writePoison s a n = false) : writePoison u a n = false := by
  unfold Machine.writePoison at *
  rw [List.any_eq_false] at *
  intro w hw
  simp only [Bool.and_eq_true, not_and] at hp ⊢
  exact fun hc => hp w hw (h.clean w hc)

/-- A write of a memory that is no tile's, within a block of 256 bytes. -/
theorem writeTxn_memory {addr : Nat} {bs : List (BitVec 8)} {s : State} (who : Nat) (hspan : addr % 256 + bs.length ≤ 256)
    (hn : 52 ≤ nodeNum addr) (hm : inMemory addr bs.length = true) (hp : portClosedAt s addr = false)
    (hw : writePoison s addr bs.length = false) : ∃ u, writeTxn who addr bs s = (u, .ok) ∧ Wrote s u addr bs := by
  have hgood : goodSpan 1 addr bs.length = true := by simp [goodSpan, hspan]
  let f : Flit := { addr := addr, init := who, tid := (chooseTid who s).1, type := 1, len := bs.length - 1 }
  have hv : passedOnly s (passRequest f true (chooseTid who s).2) :=
    (chooseTid_passed who s).trans (.of_probed (passRequest_probed ..))
  have hserve : serveWrite who addr bs (passRequest f true (chooseTid who s).2) = (memWrite addr bs _, .ok) :=
    serveWrite_memory hm (by rwa [hv.portClosedAt]) (by rwa [hv.writePoison])
  refine ⟨passResponse f .ok (memWrite addr bs (passRequest f true (chooseTid who s).2)), ?_, ?_⟩
  · simp only [writeTxn, hgood, if_true, f] at hserve ⊢
    rw [hserve]
  · exact Wrote.after hv (memWrite_wrote (fun i hi => by rwa [nodeNum_span hspan hi]) _) (.of_probed (passResponse_probed ..))

/-! ### The start of a descriptor (R364) -/

theorem startDesc_starts {c : Nat} {s : State} (ha : (((channelOf s c).ring + 32 * (channelOf s c).next) % 2 ^ 40) % 32 = 0)
    (hm : inMemory (((channelOf s c).ring + 32 * (channelOf s c).next) % 2 ^ 40) 32 = true)
    (hp : portClosedAt s (((channelOf s c).ring + 32 * (channelOf s c).next) % 2 ^ 40) = false)
    (hr : readPoison s (((channelOf s c).ring + 32 * (channelOf s c).next) % 2 ^ 40) 32 = false) (d : Desc)
    (hd : descOf (channelOf s c).next (((channelOf s c).ring + 32 * (channelOf s c).next) % 2 ^ 40)
      (valueLE (gBytes s (((channelOf s c).ring + 32 * (channelOf s c).next) % 2 ^ 40) 32)) = d)
    (hready : d.raw.testBit 16 = true) (hok : malformed d = false) :
    ∃ v, passedOnly s v ∧ startDesc c s = setChannel v c { channelOf s c with
      pending := (channelOf s c).pending - 1, started := inc32 (channelOf s c).started, waitReady := false, run := some d } := by
  obtain ⟨v, hread, hv⟩ := readTxn_memory (channelIdentity c) (by omega) hm hp hr
  refine ⟨v, hv, ?_⟩
  simp only [startDesc, hread, hd, hready, hok, hv.channelOf]
  rfl

/-! ### The copy of one element (R365) -/

theorem readSplit_block {who addr n : Nat} {s : State} (ha : addr < 2 ^ 40) (hspan : addr % 256 + n ≤ 256) :
    readSplit who addr n s = readTxn who addr n s := by
  have hk : min n (256 - addr % 256) = n := by omega
  simp only [readSplit, Nat.mod_eq_of_lt ha, hk, or_true, if_true]
theorem writeSplit_block {who addr : Nat} {bs : List (BitVec 8)} {s : State} (ha : addr < 2 ^ 40)
    (hspan : addr % 256 + bs.length ≤ 256) : writeSplit who addr bs s = writeTxn who addr bs s := by
  have hk : min bs.length (256 - addr % 256) = bs.length := by omega
  simp only [writeSplit, Nat.mod_eq_of_lt ha, hk, List.take_length, or_true, if_true]
/-- The one element of a LINEAR descriptor is read and written. -/
theorem moveElems_one {who : Nat} {d : Desc} {s v u : State} {bs : List (BitVec 8)} (hkind : d.kind = 0) (hcls : d.cls = .ok)
    (hsrc : d.src < 2 ^ 40) (hdst : d.dst < 2 ^ 40) (hread : readSplit who d.src d.esize s = (v, .ok, bs))
    (hwrite : writeSplit who d.dst bs v = (u, .ok)) : moveElems who d 1 0 s = (u, .ok, false, 1) := by
  have haddr (off : Nat) : elemAddrs d 0 off = (d.src, d.dst) := by
    simp only [elemAddrs, hkind, OfNat.zero_ne_ofNat, Nat.zero_ne_one, if_false, Nat.zero_mul, Nat.add_zero,
      Nat.mod_eq_of_lt hsrc, Nat.mod_eq_of_lt hdst]
  simp [moveElems, readElem, hkind, hcls, haddr, hread, hwrite]

/-! ### The end of a descriptor (R366) -/

/-- What events leave of a state: the memories, and the channels but for the events they count. -/
def eventsOnly (s u : State) : Prop :=
  u.mesh.mem = s.mesh.mem ∧ ∀ k, ∃ p o, channelOf u k = { channelOf s k with pending := p, overrun := o }
theorem eventsOnly.refl (s : State) : eventsOnly s s := ⟨rfl, fun _ => ⟨_, _, rfl⟩⟩
theorem eventsOnly.trans {s u v : State} (h : eventsOnly s u) (g : eventsOnly u v) : eventsOnly s v := by
  refine ⟨g.1.trans h.1, fun k => ?_⟩
  obtain ⟨_, _, hk⟩ := h.2 k
  obtain ⟨p, o, gk⟩ := g.2 k
  exact ⟨p, o, by rw [gk, hk]⟩
theorem channelEvent_events (c : Nat) (s : State) : eventsOnly s (channelEvent c s) := by
  rw [channelEvent_eq]
  refine ⟨rfl, fun k => ?_⟩
  by_cases hk : k = c
  · subst hk
    rw [channelOf_setChannel, oneMore]
    split <;> exact ⟨_, _, rfl⟩
  · rw [channelOf_setChannel_other _ _ _ _ hk]
    exact ⟨_, _, rfl⟩
theorem raisePort_events (port arg : Nat) (s : State) : eventsOnly s (raisePort port arg s) := by
  have hmesh := (raisePort_only port arg s).mesh
  refine ⟨by rw [hmesh], fun k => ⟨(channelOf s k).pending, (channelOf s k).overrun, ?_⟩⟩
  rw [channelOf, hmesh]
  rfl
theorem pulse_events (c index : Nat) (s : State) : eventsOnly s (pulse c index s) := by
  have hport : eventsOnly s (if (channelOf s c).porten then raisePort (128 + c) index s else s) := by
    split
    · exact raisePort_events ..
    · exact .refl s
  exact List.foldlRecOn (motive := eventsOnly s) _ _ hport fun u hu k _ => hu.trans (channelEvent_events k u)
/-- A descriptor that ends good, its write-back done. -/
theorem endDesc_good {c failIdx : Nat} {d : Desc} {s v : State}
    (hw : writeTxn (channelIdentity c) d.addr ((octetsLE 32 (finalDesc d.raw .ok failIdx)).map (BitVec.ofNat 8)) s = (v, .ok)) :
    ∃ u, endDesc c d true .ok failIdx s = u ∧ u.mesh.mem = v.mesh.mem ∧ ∃ p o, channelOf u c = { channelOf v c with
      run := none, next := if (channelOf v c).ringSize ≤ d.index + 1 then 0 else d.index + 1, good := inc32 (channelOf v c).good
      pending := p, overrun := o } := by
  refine ⟨_, rfl, ?_⟩
  simp only [endDesc, hw, if_true]
  have h := pulse_events c d.index (setChannel v c { channelOf v c with
    run := none, next := if (channelOf v c).ringSize ≤ d.index + 1 then 0 else d.index + 1, good := inc32 (channelOf v c).good })
  obtain ⟨p, o, hc⟩ := h.2 c
  exact ⟨h.1, p, o, by rw [hc, channelOf_setChannel]⟩

theorem gBytes_getD {s : State} {a n k : Nat} (h : k < n) : (gBytes s a n).getD k 0 = gByte s (a + k) := by
  simp [gBytes, List.getD_eq_getElem?_getD, h]
/-- The copy of one element between memories, and the descriptor's end. -/
theorem descriptorComplete_copies {c : Fin 64} {s : State} {d : Desc} (hrun : (channelOf s c).run = some d) (hkind : d.kind = 0)
    (hone : d.nelem = 1) (hcls : d.cls = .ok) (hasrc : d.src < 2 ^ 40) (hadst : d.dst < 2 ^ 40)
    (hsrc : d.src % 256 + d.esize ≤ 256) (hdst : d.dst % 256 + d.esize ≤ 256) (haddr : d.addr % 32 = 0)
    (hndst : 52 ≤ nodeNum d.dst) (hnaddr : 52 ≤ nodeNum d.addr)
    (hmsrc : inMemory d.src d.esize = true) (hmdst : inMemory d.dst d.esize = true) (hmaddr : inMemory d.addr 32 = true)
    (hpsrc : portClosedAt s d.src = false) (hpdst : portClosedAt s d.dst = false) (hpaddr : portClosedAt s d.addr = false)
    (hrsrc : readPoison s d.src d.esize = false) (hwdst : writePoison s d.dst d.esize = false)
    (hwaddr : writePoison s d.addr 32 = false) :
    ∃ v w u, Wrote s v d.dst (gBytes s d.src d.esize)
      ∧ Wrote v w d.addr ((octetsLE 32 (finalDesc d.raw .ok 1)).map (BitVec.ofNat 8))
      ∧ exec (.descriptorComplete c) s = .next u ∧ u.mesh.mem = w.mesh.mem ∧ ∃ p o, channelOf u c = { channelOf s c with
          run := none, next := if (channelOf s c).ringSize ≤ d.index + 1 then 0 else d.index + 1
          good := inc32 (channelOf s c).good, pending := p, overrun := o } := by
  obtain ⟨r, hread, hr⟩ := readTxn_memory (channelIdentity c) hsrc hmsrc hpsrc hrsrc
  have hlen : (gBytes s d.src d.esize).length = d.esize := by simp [gBytes]
  obtain ⟨v, hwrite, hv⟩ := writeTxn_memory (bs := gBytes s d.src d.esize) (s := r) (channelIdentity c) (by rwa [hlen]) hndst
    (by rwa [hlen]) (by rwa [hr.portClosedAt]) (by rwa [hlen, hr.writePoison])
  have hsv : Wrote s v d.dst (gBytes s d.src d.esize) := hv.after hr (.refl v)
  obtain ⟨w, hback, hw⟩ := writeTxn_memory (bs := (octetsLE 32 (finalDesc d.raw .ok 1)).map (BitVec.ofNat 8)) (s := v)
    (channelIdentity c) (show d.addr % 256 + 32 ≤ 256 by omega) hnaddr hmaddr (by rwa [hsv.ports]) (hsv.writePoison hwaddr)
  obtain ⟨u, hend, hmem, p, o, hc⟩ := endDesc_good hback
  refine ⟨v, w, u, hsv, hw, ?_, hmem, p, o, ?_⟩
  · rw [← readSplit_block hasrc hsrc] at hread
    rw [← writeSplit_block hadst (by rwa [hlen])] at hwrite
    show execDescriptorComplete c s = _
    simp only [execDescriptorComplete, hrun, completeDesc, hone, moveElems_one hkind hcls hasrc hadst hread hwrite, hend]
  · rw [hc, hw.channels, hsv.channels]

/-- Settles O26. -/
theorem moverDescriptors : Obligations.MoverDescriptors := by
  refine ⟨fun c s hen hpend hrun ha hm hp hr hready hok => ?_, fun c s d hrun hkind hone hcls hlt hsrc hdst hsize hbsrc hbdst
    haddr hnsrc hndst hnaddr hmsrc hmdst hmaddr hpsrc hpdst hpaddr hrsrc hwdst hwaddr hdisj => ?_⟩
  · obtain ⟨v, hv, h⟩ := startDesc_starts ha hm hp hr _ rfl hready hok
    refine ⟨startDesc c s, ?_, ?_⟩
    · show execDescriptorStart c s = _
      have hstart : ((channelOf s c).enable && decide ((channelOf s c).pending ≠ 0) && (channelOf s c).run.isNone) = true := by
        simp [hen, hpend, hrun]
      rw [execDescriptorStart, if_pos hstart]
    · rw [h]
      exact ⟨channelOf_setChannel .., hv.mem, hv.tiles, fun k hk => (channelOf_setChannel_other _ _ _ _ hk).trans (hv.channelOf k)⟩
  · obtain ⟨v, w, u, hv, hw, hexec, hmem, p, o, hc⟩ := descriptorComplete_copies hrun hkind hone hcls (by omega) (by omega) hbsrc hbdst
      haddr hndst hnaddr hmsrc hmdst hmaddr hpsrc hpdst hpaddr hrsrc hwdst hwaddr
    have hlen : (gBytes s d.src d.esize).length = d.esize := by simp [gBytes]
    have hback : ((octetsLE 32 (finalDesc d.raw .ok 1)).map (BitVec.ofNat 8)).length = 32 := rfl
    have hbytes (a : Nat) (h : a < d.addr ∨ d.addr + 32 ≤ a) : memByte u.mesh.mem a = memByte v.mesh.mem a := by
      rw [hmem, hw.bytes, hback, if_neg (by omega)]
    refine ⟨u, hexec, by rw [hc], by rw [hc], by rw [hc], by rw [hc], fun k hk => ?_, fun a h h' => ?_⟩
    · rw [hbytes _ (by omega), hv.bytes, hlen, if_pos (by omega), Nat.add_sub_cancel_left, gBytes_getD hk,
        gByte, if_neg (by rw [nodeNum_span hbsrc hk]; omega)]
    · rw [hbytes _ h', hv.bytes, hlen, if_neg (by omega)]

end Sys2Proof.Machine
end

section
/-! O27 (14 R385 to R388; 13 R355): the votes of a power domain, its idle delay, its port and its wake. -/

namespace Sys2Proof.Machine

open Sys2Proof.Safety

/-- A vote is one bit of the domain (Table 14.7). -/
theorem putVote_keeps (client : Nat) (v : Bool) (x : Domain) :
    (putVote client v x).dstate = x.dstate ∧ (putVote client v x).port = x.port ∧ (putVote client v x).wake = x.wake := by
  unfold putVote
  split <;> exact ⟨rfl, rfl, rfl⟩
theorem execDomainVote_eq (d : Fin 65) (client : Fin 5) (v : Bool) (s : State) :
    execDomainVote d client v s = .next (setDomain s d { putVote client v (domainOf s d) with
      delay := !anyVote (putVote client v (domainOf s d)) && (domainOf s d).dstate == .run && (domainOf s d).port == .opened
      wake := (domainOf s d).wake || (v && (domainOf s d).dstate ≠ .run) }) := by
  obtain ⟨hstate, hport, hwake⟩ := putVote_keeps client v (domainOf s d)
  simp only [execDomainVote, castVote, hstate, hport, hwake]

section
variable {d : Fin 65} {s : State}

/-- The port closes with no request of the domain open: RECESS, or SLEEP where IDLE says so (R386). -/
theorem execPortClosed_closes (hp : (domainOf s d).port = .closing) (ho : s.mesh.outstanding = []) :
    execPortClosed d s = .next (if (domainOf s d).idle = 2
      then sleepDomain d (setDomain s d { domainOf s d with port := .closed, dstate := .sleep })
      else setDomain s d { domainOf s d with port := .closed, dstate := .recess }) := by
  simp only [execPortClosed, hp, ho, List.any_nil, and_self, if_true]
  split <;> rfl
/-- SLEEP of a tile's domain loses the tile's registers and memories (R388). -/
theorem sleepDomain_tile (hd : d.val < 52) (hs : (domainOf s d).dstate = .sleep) (hp : (domainOf s d).port = .closed) :
    (domainOf (sleepDomain d s) d).dstate = .sleep ∧ (domainOf (sleepDomain d s) d).port = .closed
      ∧ (tileOf (sleepDomain d s) d).tstate = .reset ∧ (tileOf (sleepDomain d s) d).dmem = []
      ∧ (tileOf (sleepDomain d s) d).imem = [] := by
  have htile : tileOf (sleepDomain d s) d = { tstate := .reset, logical := (tileOf s d).logical, traps := (tileOf s d).traps
                                              lastTrap := (tileOf s d).lastTrap, image := (tileOf s d).image
                                              bundlesAll := (tileOf s d).bundlesAll, storeFails := (tileOf s d).storeFails
                                              corrected := (tileOf s d).corrected } := by
    rw [sleepDomain, if_pos hd]
    exact tileOf_setTile ..
  have hdomain : domainOf (sleepDomain d s) d = { domainOf s d with saved := some (savedList (tileOf s d)) } := by
    rw [sleepDomain, if_pos hd]
    exact domainOf_setDomain ..
  rw [htile, hdomain]
  exact ⟨hs, hp, rfl, rfl, rfl⟩
/-- A domain in RECESS that a vote wakes (R387). -/
theorem execWakeComplete_recess {poison : Bool} {n : Nat} (hw : (domainOf s d).wake = true) (hp : (domainOf s d).port = .closed)
    (hs : (domainOf s d).dstate = .recess) (hf : isFenced s (domainUnit d) = false) :
    execWakeComplete d poison n s = .next (setDomain (advanceTo n s) d { domainOf s d with
      wake := false, dstate := .run, port := .opened, delay := !anyVote (domainOf s d) }) := by
  have hfenced : isFenced (advanceTo n s) (domainUnit d) = false := by rwa [isFenced, advanceTo_fault]
  have hsleep : (DomState.recess == DomState.sleep) = false := rfl
  simp only [execWakeComplete, domainOf_advanceTo, hw, hp, hs, hfenced, hsleep, beq_self_eq_true, Bool.and_false, Bool.and_self,
    Bool.true_or, Bool.not_false, Bool.false_eq_true, if_true, if_false, reduceCtorEq, anyVote]
end

/-- Settles O27. -/
theorem powerDomains : Obligations.PowerDomains := by
  refine fun d s => ⟨fun client v => execDomainVote_eq d client v s, fun hdelay hvote hrun => ?_, fun hp ho hi => ?_, fun hp ho hi hd => ?_,
    fun poison n hw hp hs hf => execWakeComplete_recess hw hp hs hf⟩
  · show execIdleDelayExpiry d s = _
    simp [execIdleDelayExpiry, hdelay, hvote, hrun]
  · exact (execPortClosed_closes hp ho).trans (by rw [if_neg hi])
  · refine ⟨_, execPortClosed_closes hp ho, ?_⟩
    rw [if_pos hi]
    exact sleepDomain_tile hd (by rw [domainOf_setDomain]) (by rw [domainOf_setDomain])

end Sys2Proof.Machine
end

section
/-! O59 (14 R380; 16 R417): a command that writes one object is its owning rule behind the item checks and the stopped clock. -/

namespace Sys2Proof.Machine

open Sys2Proof.Safety

/-- A write that fails an item check answers it. -/
theorem checkedWrite_fails {vi idx sub el n w : Nat} {s : State} {st : Status} (h : writeCheck s vi idx sub el n w = some st)
    (f : State → State × Status) : answered (checkedWrite vi idx sub el n w f s) = .next (answering st s) := by
  rw [checkedWrite, h]
  rfl
/-- A write of an object whose clock is stopped answers BUSY, or RANGE where its rule does. -/
theorem checkedWrite_stopped {vi idx sub el n w : Nat} {s : State} (h : writeCheck s vi idx sub el n w = none)
    (hs : s.time.rimStop = true) (ho : rimObject idx sub = true) (f : State → State × Status) :
    answered (checkedWrite vi idx sub el n w f s) = .next (answering .busy s)
      ∨ answered (checkedWrite vi idx sub el n w f s) = .next (answering .range s) := by
  have heq : checkedWrite vi idx sub el n w f s = (s, if (f s).2 = .range then .range else .busy) := by
    simp only [checkedWrite, h, ownRule, hs, ho, Bool.and_self, if_true]
  rw [heq]
  split
  · exact .inr rfl
  · exact .inl rfl
/-- So does every command that is such a write. -/
theorem failedWrite_answers {c : Instr} {vi idx sub el n w : Nat} {s : State} {f : State → State × Status}
    (hc : exec c s = answered (checkedWrite vi idx sub el n w f s)) :
    (∀ st, writeCheck s vi idx sub el n w = some st → exec c s = .next (answering st s))
      ∧ (writeCheck s vi idx sub el n w = none → s.time.rimStop = true → rimObject idx sub = true →
          exec c s = .next (answering .busy s) ∨ exec c s = .next (answering .range s)) := by
  rw [hc]
  exact ⟨fun st h => checkedWrite_fails h f, fun h hs ho => checkedWrite_stopped h hs ho f⟩

/-- Settles O59: each of the commands is a write behind the checks. -/
theorem failedWrites : Obligations.FailedWrites := by
  intro vi k len v b x s away
  repeat refine ⟨failedWrite_answers rfl, ?_⟩
  exact failedWrite_answers rfl

end Sys2Proof.Machine
end

section
/-! O32 (14 R371 to R374, Table 14.2): the loss of the reference, its qualification, the validity of the timebase and its restart. -/

namespace Sys2Proof.Machine

open Sys2Proof.Safety

/-! ### The loss of the reference (R371, R372) -/

theorem standing_moveSupply (i mv : Nat) (s : State) : standing (moveSupply i mv s) = standing s := by
  unfold moveSupply
  dsimp only
  split <;> rfl
/-- The clock of a module that has lost its reference. -/
def lostClock (t : TimeUnit) : TimeUnit :=
  { t with refLost := true, valid := false, loopLock := false, qualified := false, atX := t.airTime, usX := t.careUs, careSince := true }
def clockLost (s : State) : State := { s with time := lostClock s.time }
/-- The rim stands still, and REF is a cause. -/
def rimStopped (s : State) : State :=
  { s with time := { s.time with rimStop := true }, mode := { s.mode with causeRef := true } }
theorem loseReference_eq (s : State) : loseReference s = (List.range 19).foldl (fun t i => moveSupply i 850 t)
    (rimStopped (stopReceive (dropLanes (clockLost (stopBursts s))))) := by
  simp only [loseReference, rimStopped, clockLost, lostClock]
theorem standing_rimStopped (s : State) : standing (rimStopped s) = { standing s with
    mode := { (standing s).mode with causeRef := true }, time := { (standing s).time with rimStop := true } } := rfl
theorem standing_clockLost (s : State) : standing (clockLost s) = { standing s with time := lostClock (standing s).time } := rfl
theorem standing_lanesDropped (s : State) : standing (dropLanes s) = standing s := by
  unfold dropLanes
  exact standing_dropLanes _ s
/-- The loss of a reference moves the clock and a cause, and leaves the mode, the records and the settings. -/
theorem loseReference_standing (s : State) : standing (loseReference s) = { standing s with
    mode := { (standing s).mode with causeRef := true }, time := { lostClock (standing s).time with rimStop := true } } := by
  rw [loseReference_eq, foldl_view standing (fun t i => standing_moveSupply i 850 t), standing_rimStopped, standing_stopReceive,
    standing_lanesDropped, standing_clockLost, standing_stopBursts]
theorem standing_fillBucket (h : Nat) (s : State) : standing (fillBucket h s) = standing s := rfl
/-- A loss from a valid timebase: a cause is set but during BOOT (R466). -/
theorem losing_standing (s : State) : standing (losing s) = { standing s with
    mode := { s.mode with causeRef := if s.mode.mode = .boot then s.mode.causeRef else true }
    time := { lostClock s.time with rimStop := true } } := by
  have h := loseReference_standing ((List.range 12).foldl (fun u h => fillBucket h u) s)
  rw [foldl_view standing (fun u h => standing_fillBucket h u)] at h
  unfold losing
  generalize loseReference _ = v at h ⊢
  by_cases hb : s.mode.mode = .boot
  · have hv : standing { v with mode := { v.mode with causeRef := s.mode.causeRef } }
        = { standing v with mode := { (standing v).mode with causeRef := s.mode.causeRef } } := rfl
    rw [if_pos hb]
    dsimp only
    rw [if_pos (beq_iff_eq.2 hb), hv, h]
    rfl
  · simp only [beq_iff_eq, if_neg hb, h]
    rfl

/-- The module falls SILENT (02 R40, R41), and a record says why. -/
theorem referenceLost_silences {s : State} (hm : s.mode.mode = .standby ∨ s.mode.mode = .service ∨ s.mode.mode = .degraded)
    (hv : s.time.valid = true) : ∃ u, exec .referenceLost s = .next u ∧ u.mode.mode = .silent ∧ u.mode.causeRef = true
      ∧ u.time = { lostClock s.time with rimStop := true, refLosses := inc32 s.time.refLosses, restart := false }
      ∧ u.fault.newest = s.fault.nextEseq := by
  let w : State := { losing s with time := { (losing s).time with refLosses := inc32 (losing s).time.refLosses, restart := false } }
  let b : ErrBody := { unit := unitCaretaker, code := .timing, severity := .minor }
  have hexec : execReferenceLost s = .next (settle (errRecord b w)) := by
    unfold execReferenceLost
    rcases hm with h | h | h <;> simp only [h, hv, if_true, w, b]
  have hst := losing_standing s
  have hboot : ¬ s.mode.mode = .boot := by rcases hm with h | h | h <;> simp [h]
  rw [if_neg hboot] at hst
  have hmode : w.mode = { s.mode with causeRef := true } := congrArg Standing.mode hst
  have htime : (losing s).time = { lostClock s.time with rimStop := true } := congrArg Standing.time hst
  have hfault : w.fault = s.fault := congrArg Standing.fault hst
  have hset := settle_settled (errRecord b w)
  have hrep := errRecord_report b w
  have hcause : (errRecord b w).mode.causeRef = true := by rw [hrep.mode, hmode]
  refine ⟨_, hexec, settle_mode_of_cause ?_ (by simp [silentCause, hcause]), ?_, ?_, ?_⟩
  · rwa [errRecord_mode_mode, hmode]
  · rw [hset.mode]
    exact hcause
  · rw [hset.time, show (errRecord b w).time = w.time by rw [hrep]]
    show ({ (losing s).time with refLosses := inc32 (losing s).time.refLosses, restart := false } : TimeUnit) = _
    rw [htime]
    rfl
  · rw [hset.newest, errRecord_newest, hfault]

/-! ### The restart (R374) -/

theorem timebaseRestart_stops {vi : Fin 16} {s : State} (hw : writable s vi 0x2010 5 0 1 1 = true) (hs : isServing s = false)
    (hf : followsHead s = false) : ∃ u, exec (.timebaseRestart vi 1) s = .next u ∧ u.answer.status = .ok ∧ u.time.restart = true
      ∧ u.time.qualified = false ∧ (s.time.valid = true → u.time.valid = false) := by
  let w : State := if s.time.valid then losing s else { s with time := { s.time with qualified := false } }
  have hexec : execTimebaseRestart vi 1 s = .next (answering .ok (settle { w with time := { w.time with restart := true } })) := by
    rw [execTimebaseRestart, checkedWrite_of_writable hw]
    simp only [writeRestart, hs, hf, ne_eq, not_true_eq_false, if_false, Bool.or_self, Bool.false_eq_true]
    rfl
  have htime : (answering .ok (settle { w with time := { w.time with restart := true } })).time = { w.time with restart := true } :=
    (settle_settled _).time
  refine ⟨_, hexec, rfl, ?_⟩
  rw [htime]
  by_cases hv : s.time.valid = true
  · have hlost : w.time = { lostClock s.time with rimStop := true } := by
      simp only [w, hv, if_true]
      exact congrArg Standing.time (losing_standing s)
    rw [hlost]
    exact ⟨rfl, rfl, fun _ => rfl⟩
  · refine ⟨rfl, ?_, fun h => absurd h hv⟩
    simp only [w, hv, Bool.false_eq_true, if_false]

/-! ### The timebase becomes valid (R373) -/

/-- The clock but for the bells. -/
def clockOf (s : State) : TimeUnit := { s.time with bells := [] }
theorem clockOf_of_time {s u : State} (h : u.time = s.time) : clockOf u = clockOf s := by rw [clockOf, h, clockOf]
theorem setSwapTable_time (b : Nat) (t : SwapTable) (s : State) : (setSwapTable b t s).time = s.time := by
  unfold setSwapTable
  split
  · rfl
  · split <;> rfl
/-- Cancelled bells move no other part of the clock. -/
theorem clockOf_missBells (s : State) : clockOf (missBells s) = clockOf s := by
  refine foldl_view clockOf (fun t p => ?_) _ _
  dsimp only
  refine (clockOf_of_time (by rw [missRecord, errRecord_report])).trans ?_
  split
  · exact (clockOf_of_time (s := setBell t p.1 _) (setSwapTable_time ..)).trans rfl
  · rfl
/-- The clock of a timebase that is valid from an air time on. -/
def validClock (n : Nat) (ex : Bool) (t : TimeUnit) : TimeUnit :=
  { t with valid := true, loopLock := true, refLost := false, rimStop := false, qualified := false, restart := false, airTime := n
           extrap := ex, pendingEpoch := 0, rimHeld := [], fired := [] }
def clockStarted (n : Nat) (ex : Bool) (s : State) : State :=
  { s with time := validClock n ex s.time
           tx := { s.tx with filledAt := (List.range 12).foldl (fun t h => tabSet 0 t h n) s.tx.filledAt } }
theorem clockOf_validTimebaseAt (n : Nat) (ex : Bool) (s : State) :
    clockOf (validTimebaseAt n ex s) = clockOf (clockStarted n ex s) := by
  have hlanes (u : State) : (enableLanes u).time = u.time := time_of_standing (standing_enableLanes u)
  have hstart (u : State) : (startReceive u).time = u.time := time_of_standing (standing_startReceive u)
  refine Eq.trans ?_ (clockOf_missBells _)
  simp only [validTimebaseAt, clockStarted, validClock]
  generalize missBells _ = v
  split
  · rfl
  · exact clockOf_of_time (hlanes v)
  · exact clockOf_of_time ((hstart _).trans (hlanes v))
theorem clockOf_validTimebase (s : State) : clockOf (validTimebase s)
    = { validClock (startAirTime s.time).1 (startAirTime s.time).2 s.time with bells := [] } := by
  rw [validTimebase, clockOf_validTimebaseAt]
  simp only [clockOf, clockStarted]
theorem timebaseValid_starts {s : State} (ho : s.mode.mode ≠ .off) (hg : s.mode.mode ≠ .lastGasp) (hq : s.time.qualified = true)
    (hf : followsHead s = false) : ∃ u, exec .timebaseValid s = .next u
      ∧ clockOf u = { validClock (startAirTime s.time).1 (startAirTime s.time).2 s.time with bells := [] } := by
  have hexec : execTimebaseValid s = .next (settle (validTimebase s)) := by
    unfold execTimebaseValid
    split
    · exact absurd ‹_› ho
    · exact absurd ‹_› hg
    · simp [hq, hf]
  exact ⟨_, hexec, (clockOf_of_time (settle_settled _).time).trans (clockOf_validTimebase s)⟩

/-- Settles O32. -/
theorem timebase : Obligations.Timebase := by
  refine fun s => ⟨fun hm hv => ?_, fun ho hl => ?_, fun ho hg hq hf => ?_, fun vi hw hs hf => timebaseRestart_stops hw hs hf⟩
  · obtain ⟨u, hexec, hmode, hcause, htime, hnewest⟩ := referenceLost_silences hm hv
    refine ⟨u, hexec, hmode, hcause, ?_⟩
    rw [htime]
    exact ⟨rfl, rfl, rfl, rfl, hnewest⟩
  · exact if_pos ⟨ho, hl⟩
  · obtain ⟨u, hexec, hclock⟩ := timebaseValid_starts ho hg hq hf
    have hat : u.time.airTime = (startAirTime s.time).1 := congrArg TimeUnit.airTime hclock
    have hex : u.time.extrap = (startAirTime s.time).2 := congrArg TimeUnit.extrap hclock
    refine ⟨u, hexec, congrArg TimeUnit.valid hclock, congrArg TimeUnit.refLost hclock, congrArg TimeUnit.rimStop hclock,
      congrArg TimeUnit.qualified hclock, congrArg TimeUnit.pendingEpoch hclock, fun h => ?_, fun h => ?_⟩
    · rw [hat, hex, startAirTime, if_pos h]
      exact ⟨rfl, rfl⟩
    · rw [hat, hex, startAirTime, if_neg (not_not.2 h)]
      split <;> exact ⟨Nat.mul_mod_left .., rfl⟩

end Sys2Proof.Machine
end

section
/-! O52 (15 R391 to R393, R398 to R400, R412; 17 R445): corrections counted on cards, the limits that escalate, acknowledgements and
the relays' test. -/

namespace Sys2Proof.Machine

open Sys2Proof.Safety

/-! ### What a record and a fence leave of the counts of corrections, and of the memories -/

/-- The corrections every card counts, and the memories behind the mesh. -/
def corrections (s : State) : (Nat → Nat) × List Host.Cell := (fun k => (cardOf s k).corr, s.mesh.mem)

theorem corrections_of_parts {s u : State} (hc : u.fault.cards = s.fault.cards) (hm : u.mesh = s.mesh) :
    corrections u = corrections s := by
  simp only [corrections, cardOf, hc, hm]
theorem corrections_setCard {u : Nat} {x : Card} {s : State} (h : x.corr = (cardOf s u).corr) :
    corrections (setCard s u x) = corrections s := by
  refine Prod.ext (funext fun k => ?_) rfl
  by_cases hk : k = u
  · subst hk
    simp only [corrections, cardOf_setCard, h]
  · simp only [corrections, cardOf_setCard_other _ _ _ _ hk]
theorem corrections_errRecord (b : ErrBody) (s : State) : corrections (errRecord b s) = corrections s := by
  have hnoted : corrections (setCard s b.unit { cardOf s b.unit with
      lastFault := s.fault.nextEseq
      uncorr := if b.code = .eccUncorr then inc32 (cardOf s b.unit).uncorr else (cardOf s b.unit).uncorr }) = corrections s :=
    corrections_setCard rfl
  have htold (c : Prop) [Decidable c] (u : State) (vi kind data : Nat) :
      corrections (if c then event u vi kind data else u) = corrections u := by
    split
    · have h := notifyVi_settled u vi 0x13 (eventBody kind data) (fun c l => .event vi c l kind data)
      exact corrections_of_parts (by rw [event, h]) h.mesh
    · rfl
  refine Eq.trans ?_ hnoted
  unfold errRecord
  generalize stamp s = p
  obtain ⟨t, ok⟩ := p
  exact htold _ _ _ _ _
theorem corrections_listFence (unit ref : Nat) (s : State) : corrections (listFence unit ref s) = corrections s := by
  have hdetain (d : Detained) : corrections (detain d s) = corrections s :=
    corrections_of_parts (detain_cards d s) (detain_report d s).mesh
  unfold listFence
  split
  · rfl
  · refine (corrections_setCard (s := detain (.unit unit ref) s) ?_).trans (hdetain _)
    rfl
theorem corrections_releasePasses (n : Nat) (s : State) : corrections (releasePassesOfNode n s) = corrections s :=
  foldl_view corrections (fun t e => by
    split
    · exact corrections_errRecord ..
    · rfl) _ s
theorem corrections_prefectOnly {s u : State} (h : prefectOnly s u) : corrections u = corrections s :=
  corrections_of_parts (by rw [h]) h.mesh
theorem corrections_fenceTile (p ref : Nat) (s : State) : corrections (fenceTile p ref s) = corrections s := by
  unfold fenceTile
  split
  · rfl
  · extract_lets listed released halted closed
    have hlisted : corrections listed = corrections s := corrections_listFence ..
    have hreleased : corrections released = corrections s :=
      (corrections_releasePasses p (trapServiceOf false p listed)).trans
        ((corrections_prefectOnly (foldl_prefectOnly _ (fun t (o : OpRec) => trapOp_only o.opseq t) _ _)).trans hlisted)
    clear_value released
    have hclosed : corrections closed = corrections s :=
      (corrections_of_parts (closePort_modTile_cards _ _ _ _) rfl).trans hreleased
    clear_value closed
    split
    · exact hclosed
    · exact hclosed

/-! ### Corrections are counted (R391 to R393) -/

/-- A rate of corrections above its limit is recorded, and may fence a tile. -/
theorem corrections_eccRate (u : Nat) (s : State) : corrections (eccRate u s) = corrections s := by
  have hrec (b : ErrBody) (x : List Nat) : corrections (setCard (errRecord b s) u { cardOf (errRecord b s) u with rateAt := x })
      = corrections s := by
    refine (corrections_setCard ?_).trans (corrections_errRecord b s)
    rfl
  unfold eccRate
  extract_lets c again tile n v w x
  have hx : corrections x = corrections s := hrec ..
  clear_value x
  split
  · rename_i h
    have htile : u / 256 = 1 := by simpa [tile] using (Bool.and_eq_true_iff.1 h).2
    rw [fenceUnit, htile]
    exact (corrections_fenceTile ..).trans hx
  · exact hx
theorem countCorr_counts (u n : Nat) (s : State) : (cardOf (countCorr u n s) u).corr = ((cardOf s u).corr + n) % 2 ^ 32
    ∧ (countCorr u n s).mesh.mem = s.mesh.mem := by
  unfold countCorr
  extract_lets c limit v w
  have hw : (cardOf w u).corr = (c.corr + n) % 2 ^ 32 ∧ w.mesh.mem = s.mesh.mem := by
    have hv : (cardOf v u).corr = (c.corr + n) % 2 ^ 32 := by rw [cardOf_setCard]
    unfold w
    split
    · exact ⟨hv, rfl⟩
    · exact ⟨hv, rfl⟩
  clear_value w
  split
  · have h := corrections_eccRate u w
    exact ⟨(congrFun (congrArg Prod.fst h) u).trans hw.1, (congrArg Prod.snd h).trans hw.2⟩
  · exact hw
theorem scrub_counts {unit n : Nat} {b : Bool} {s : State} (hu : isUnit unit = true) :
    ∃ u, exec (.scrub unit b n []) s = .next u ∧ (n ≠ 0 → (cardOf u unit).corr = ((cardOf s unit).corr + n) % 2 ^ 32)
      ∧ u.mesh.mem = s.mesh.mem := by
  refine ⟨_, if_pos hu, ?_⟩
  have hset := settle_settled (scrub unit b n [] s)
  have hcard : cardOf (settle (scrub unit b n [] s)) unit = cardOf (scrub unit b n [] s) unit := by rw [hset]; rfl
  rw [hcard, hset.mesh, scrub, List.foldl_nil]
  split
  · exact ⟨fun h => absurd ‹_› h, rfl⟩
  · exact ⟨fun _ => (countCorr_counts ..).1, (countCorr_counts ..).2⟩

/-! ### Limits that escalate (R398, R400) -/

/-- An escalation during operation takes the module to SAFE, its record the newest. -/
theorem settle_escalateWith (b : ErrBody) {s : State} (ho : s.mode.mode ≠ .off) (hg : s.mode.mode ≠ .lastGasp) :
    (settle (escalateWith b s)).mode.mode = .safe ∧ (settle (escalateWith b s)).fault.newest = s.fault.nextEseq := by
  have hsafe := escalateWith_mode b s ho hg
  exact ⟨by rw [settle_mode_of_safe hsafe, hsafe], by rw [(settle_settled _).newest, escalateWith_newest]⟩
theorem handlingLimit_escalates {q : Nat} {r : ErrRec} {s : State} (hr : s.fault.queue.find? (fun r => r.eseq == q) = some r)
    (h0 : r.handled = 0) (ho : s.mode.mode ≠ .off) (hg : s.mode.mode ≠ .lastGasp) :
    ∃ u, exec (.errorRecordHandlingLimit q) s = .next u ∧ u.mode.mode = .safe ∧ u.fault.newest = s.fault.nextEseq := by
  refine ⟨_, ?_, settle_escalateWith { unit := r.unit, code := .watchdog, severity := .safe, parent := q } (s := closeErr s q 2) ho hg⟩
  show execErrorRecordHandlingLimit q s = _
  simp only [execErrorRecordHandlingLimit, hr, h0, true_or, if_true]

/-! ### Acknowledgements and the relays' test (R399, R412) -/

theorem mem_acknowledge {v : Nat} {l : List ErrRec} {r : ErrRec} : r ∈ l.filter (fun r => !acknowledged v r) ↔
    r ∈ l ∧ (if r.severity = .safe then r.eseq ≠ v else eseqAbove r.eseq v = true) := by
  rw [List.mem_filter, acknowledged]
  refine and_congr_right fun _ => ?_
  split <;> simp
theorem errorAcknowledge_takes {vi : Fin 16} {v : Nat} {s : State} (hw : writable s vi 0x9000 6 0 4 v = true)
    (hv : eseqAbove v s.fault.newest = false) :
    ∃ u, exec (.errorAcknowledge vi v) s = .next u ∧ u.answer.status = .ok ∧ u.fault.lastAck = v
      ∧ (∀ r, r ∈ u.fault.queue ↔ r ∈ s.fault.queue ∧
          (if r.severity = .safe then r.eseq ≠ v else eseqAbove r.eseq v = true)) :=
  ⟨_, answered_of_writable hw (by rw [writeAck, if_neg (by simp [hv])]), rfl, rfl, fun _ => mem_acknowledge⟩
theorem relayTest_holds {vi : Fin 16} {v : Nat} {s : State} (hw : writable s vi 0x9030 2 0 1 v = true) (hv : v ≠ 0) :
    ∃ u, exec (.relayTest vi v) s = .next u ∧ u.answer.status = .ok ∧ u.fault.relayTest = v ∧ u.fault.major = false
      ∧ u.fault.minor = false := by
  have hheld : relaysHeld { s with fault := { s.fault with relayTest := v } } = true := by
    unfold relaysHeld
    split <;> simp [hv]
  refine ⟨_, answered_of_writable hw rfl, rfl, rfl, ?_, ?_⟩
  · show (!relaysHeld _ && !majorAlarm _) = false
    rw [hheld]
    rfl
  · show (!relaysHeld _ && !minorAlarm _) = false
    rw [hheld]
    rfl

/-- Settles O52. -/
theorem errorRecords : Obligations.ErrorRecords := by
  intro s running
  have hup (h : running) : s.mode.mode ≠ .off ∧ s.mode.mode ≠ .lastGasp := by
    rcases h with h | h | h | h | h <;> simp [h]
  refine ⟨fun unit n b hu => scrub_counts hu, fun q r hr h0 h => handlingLimit_escalates hr h0 (hup h).1 (hup h).2, fun hw h => ?_,
    fun vi v hw hv => errorAcknowledge_takes hw hv, fun vi v hw hv => relayTest_holds hw hv, ⟨_, rfl, rfl, rfl⟩, fun vi a v hw => ?_⟩
  · exact ⟨_, if_pos hw, (settle_escalateWith _ (hup h).1 (hup h).2).1⟩
  · exact ⟨_, answered_of_writable hw rfl, rfl, tabGet_set_self false s.fault.unsealed a false,
      tabGet_set_self false s.fault.unverified a false, tabGet_set_self 0 s.fault.lost a 0,
      fun k hk => tabGet_set_other false false s.fault.unsealed false hk⟩

end Sys2Proof.Machine
end

section
/-! O53 (15 R401 to R406): the Office pairs, a substitute that passes its test, and what leaves the detention list. -/

namespace Sys2Proof.Machine

open Sys2Proof.Safety

/-! ### An Office pair is fenced (R401) -/

/-- The two Office pairs and the newest record. -/
def officesOf (s : State) : OfficeState × OfficeState × Nat := (s.fault.officeA, s.fault.officeB, s.fault.newest)

theorem officePair_eq (s : State) (p : Nat) : officePair s p = if p = 0 then (officesOf s).1 else (officesOf s).2.1 := rfl
theorem officePair_congr {s u : State} (h : officesOf u = officesOf s) (p : Nat) : officePair u p = officePair s p := by
  rw [officePair_eq, h, officePair_eq]
theorem officePair_setOffice (s : State) (p : Nat) (x : OfficeState) : officePair (setOffice s p x) p = x := by
  by_cases h : p = 0 <;> simp [officePair, setOffice, h]
theorem officesOf_settled {s u : State} (h : settledOnly s u) : officesOf u = officesOf s := by rw [h]; rfl
theorem officesOf_detain (d : Detained) (s : State) : officesOf (detain d s) = officesOf s := by
  unfold detain
  split
  · rfl
  · split <;> rfl
theorem officesOf_listFence (unit ref : Nat) (s : State) : officesOf (listFence unit ref s) = officesOf s := by
  unfold listFence
  split
  · rfl
  · exact officesOf_detain ..
theorem officesOf_enterSafe (cause : Nat) (s : State) : officesOf (enterSafe cause s) = officesOf s := by
  have h (x : State) : (stopTiles (stopReceive (stopBursts x))).fault = x.fault := by
    rw [stopTiles_fault]
    exact fault_of_standing ((standing_stopReceive _).trans (standing_stopBursts _))
  unfold enterSafe
  rw [officesOf, h]
  refine (officesOf_settled (transition_settled cause .safe _)).trans ?_
  rfl
theorem officesOf_escalate (s : State) : officesOf (escalate s) = officesOf s := by
  unfold escalate
  split
  · rfl
  · rfl
  · rfl
  · exact officesOf_enterSafe ..
theorem officesOf_markSafeCause (n : Nat) (s : State) : officesOf (markSafeCause n s) = officesOf s := by
  unfold markSafeCause
  split <;> rfl
/-- A record takes the next number; it leaves the pairs. -/
theorem officesOf_errRecord (b : ErrBody) (s : State) :
    officesOf (errRecord b s) = (s.fault.officeA, s.fault.officeB, s.fault.nextEseq) := by
  have htold (c : Prop) [Decidable c] (u : State) (vi kind data : Nat) :
      officesOf (if c then event u vi kind data else u) = officesOf u := by
    split
    · exact officesOf_settled (notifyVi_settled _ _ _ _ _)
    · rfl
  unfold errRecord
  generalize stamp s = p
  obtain ⟨t, ok⟩ := p
  exact htold _ _ _ _ _
/-- The pair as it is fenced, before an escalation that its loss may call for. -/
theorem officesOf_fencePair (p ref : Nat) (s : State) : ∃ v, officesOf v = officesOf s ∧ officesOf (fencePair p ref s) = officesOf (setOffice v p .fenced) := by
  unfold fencePair
  extract_lets before twice noted marked kept fenced
  have hkept : officesOf kept = officesOf s := by
    unfold kept
    split <;> rfl
  refine ⟨listFence (unitPair p) ref kept, (officesOf_listFence ..).trans hkept, ?_⟩
  split
  · rfl
  · exact (officesOf_escalate _).trans (officesOf_markSafeCause ..)
theorem pairFails_fences {p : Nat} (detail : Nat) {s : State} (hp : officePair s p ≠ .fenced) :
    officePair (settle (pairFails p detail s)) p = .fenced ∧ (settle (pairFails p detail s)).fault.newest = s.fault.nextEseq := by
  have hset := officesOf_settled (settle_settled (pairFails p detail s))
  rw [pairFails, if_neg hp] at *
  obtain ⟨v, hv, h⟩ := officesOf_fencePair p (nextEseq s) (errRecord { unit := unitPair p, code := .lockstep, severity := .major, detail := detail } s)
  have hall := hset.trans h
  refine ⟨(officePair_congr hall p).trans (officePair_setOffice ..), (congrArg (fun x => x.2.2) hall).trans ?_⟩
  have hnewest : (setOffice v p .fenced).fault.newest = v.fault.newest := by
    unfold setOffice
    split <;> rfl
  exact hnewest.trans ((congrArg (fun x => x.2.2) hv).trans (congrArg (fun x => x.2.2) (officesOf_errRecord ..)))
theorem activePair_active {s : State} {p : Nat} (h : activePair s = some p) : officePair s p = .active := by
  unfold activePair at h
  split at h
  · cases h
    assumption
  · split at h
    · cases h
      assumption
    · cases h

/-! ### The standby pair takes over (R403) -/

/-- Pair A and the open write groups. -/
def officeGroups (s : State) : OfficeState × List (Nat × Nat) := (s.fault.officeA, s.molfen.openGroups)
theorem officeGroups_settled {s u : State} (h : settledOnly s u) : officeGroups u = officeGroups s := by rw [h]; rfl
theorem officeGroups_event (vi kind data : Nat) (s : State) : officeGroups (event s vi kind data) = officeGroups s := by
  rw [event, officeGroups, notifyVi_settled]
  rfl
theorem officeGroups_rewind (vi c : Nat) (s : State) : officeGroups (rewind vi c s) = officeGroups s := by
  unfold rewind
  split
  · split <;> rfl
  · rfl
theorem failover_takes (s : State) : officeGroups (failover 0 s) = (.active, []) := by
  unfold failover
  extract_lets c v w
  have hw : officeGroups w = (.active, []) := foldl_view officeGroups (fun t r => officeGroups_event ..) _ _
  clear_value w
  refine (foldl_view officeGroups (fun t vi => ?_) _ _).trans hw
  exact (foldl_view officeGroups (fun u c => officeGroups_rewind ..) _ _).trans rfl

/-! ### The detention list (R403, R405, R406) -/

/-- The detention list and the unit named last for release. -/
def detentionOf (s : State) : List Detained × Nat := (s.fault.detention, s.fault.released)
theorem detentionOf_settled {s u : State} (h : settledOnly s u) : detentionOf u = detentionOf s := by rw [h]; rfl
theorem isFenced_congr {s u : State} (h : detentionOf u = detentionOf s) (unit : Nat) : isFenced u unit = isFenced s unit := by
  rw [isFenced, show u.fault.detention = s.fault.detention from congrArg Prod.fst h, isFenced]
theorem isFenced_undetain (u : Nat) (s : State) : isFenced (undetain u s) u = false := by
  unfold isFenced
  rw [List.any_eq_false]
  intro d hd
  have hd := (List.mem_filter.1 hd).2
  cases d with
  | unit x r => simpa using hd
  | desc c i st f => simp
theorem detentionOf_bindUnit (l p : Nat) (s : State) : detentionOf (bindUnit l p s) = detentionOf s := by
  have hpaces (u : State) : detentionOf (refreshPaces u) = detentionOf u := by
    unfold refreshPaces
    refine foldl_view detentionOf ?_ _ _
    exact fun _ _ => rfl
  unfold bindUnit
  refine (hpaces _).trans ?_
  dsimp only
  split <;> rfl
theorem detentionOf_takeOrphan (u : Nat) (s : State) : detentionOf (takeOrphan u s) = detentionOf s := by
  unfold takeOrphan
  split
  · exact detentionOf_bindUnit ..
  · rfl
/-- A unit that comes back has left the list. -/
theorem detentionOf_releaseUnit (u : Nat) (s : State) : detentionOf (releaseUnit u s) = detentionOf (undetain u s) := by
  unfold releaseUnit
  extract_lets i v
  have hv : detentionOf v = detentionOf (undetain u s) := rfl
  clear_value v
  refine Eq.trans ?_ hv
  split
  · rfl
  · exact detentionOf_takeOrphan ..
  · split <;> rfl
  · unfold setOffice refreshCard
    split <;> rfl
  · rfl
  · rfl
  · rfl

section
variable {s : State}
theorem officeFailover_takes (ho : officeInService s = false) (ha : s.fault.officeA = .standby) :
    ∃ u, exec .officeFailover s = .next u ∧ u.fault.officeA = .active ∧ u.molfen.openGroups = [] := by
  have hfind : (List.range 2).find? (fun p => officePair s p == .standby) = some 0 := by
    simp [List.range_succ, officePair, ha]
  have hexec : execOfficeFailover s = .next (settle (failover 0 s)) := by
    simp only [execOfficeFailover, ho, hfind]
  have h := (officeGroups_settled (settle_settled (failover 0 s))).trans (failover_takes s)
  generalize settle (failover 0 s) = u at hexec h
  exact ⟨u, hexec, congrArg Prod.fst h, congrArg Prod.snd h⟩
theorem reloadedPair_stands {p : Fin 2} (hp : officePair s p = .fenced) (ht : tabGet 0 s.fault.officeTwice (p + 2) = 0) :
    ∃ u, exec (.officePairReloadAndTest p true) s = .next u ∧ officePair u p = .standby ∧ isFenced u (unitPair p) = false := by
  let w := refreshCard (unitPair p) (undetain (unitPair p) (setOffice s p .standby))
  have hexec : execOfficePairReloadAndTest p true s = .next (settle w) := by
    simp [execOfficePairReloadAndTest, hp, ht, w]
  have hset := settle_settled w
  have hpairs : officesOf w = officesOf (setOffice s p .standby) := rfl
  have hlist : detentionOf w = detentionOf (undetain (unitPair p) (setOffice s p .standby)) := rfl
  exact ⟨_, hexec, (officePair_congr ((officesOf_settled hset).trans hpairs) p).trans (officePair_setOffice s p .standby),
    (isFenced_congr ((detentionOf_settled hset).trans hlist) _).trans (isFenced_undetain ..)⟩
theorem fenceRelease_releases {vi : Fin 16} {v : Nat} (hw : writable s vi 0x9020 3 0 2 v = true) (hf : isFenced s v = true) :
    ∃ u, exec (.fenceRelease vi v true) s = .next u ∧ u.answer.status = .ok ∧ isFenced u v = false ∧ u.fault.released = v := by
  let w : State := { s with fault := { s.fault with released := v } }
  have hrule : writeRelease v true s = (settle (releaseUnit v w), .ok) := by
    rw [writeRelease, hf]
    rfl
  have hd : detentionOf (answering .ok (settle (releaseUnit v w))) = detentionOf (undetain v w) :=
    (detentionOf_settled (settle_settled _)).trans (detentionOf_releaseUnit v w)
  exact ⟨_, answered_of_writable hw hrule, rfl, (isFenced_congr hd v).trans (isFenced_undetain ..), congrArg Prod.snd hd⟩
end

/-- Settles O53. -/
theorem fencesAndPairs : Obligations.FencesAndPairs := by
  refine fun s => ⟨fun p hp => ?_, fun p hp => ?_, fun ho ha => officeFailover_takes ho ha, fun p hp ht => reloadedPair_stands hp ht,
    fun p l t hs hf => ?_, fun vi v hw hf => fenceRelease_releases hw hf, fun vi v hw => ?_⟩
  · have hact := activePair_active hp
    refine ⟨_, ?_, pairFails_fences 1 (by simp [hact])⟩
    show execOfficeHeartbeatLoss s = _
    rw [execOfficeHeartbeatLoss, hp]
  · exact ⟨_, rfl, (pairFails_fences 0 hp).1⟩
  · show execSubstituteTest p true s = _
    simp only [execSubstituteTest, hs, hf, if_true]
  · refine ⟨_, answered_of_writable hw rfl, rfl, fun d => ?_⟩
    refine List.mem_filter.trans (and_congr_right fun _ => ?_)
    cases d <;> simp

end Sys2Proof.Machine
end

section
/-! O55 (16 R427, R432 to R434; 17 R446 to R448): the ports, and the emergency objects that the Caretaker serves. QUIET is followed
through a warm BOOT as `bootMarks` follows the mode. -/

namespace Sys2Proof.Machine

open Sys2Proof.Safety

/-! ### QUIET through a warm BOOT (17 R448; 02 R50) -/

def quietOf (s : State) : Bool := s.mode.causeQuiet
theorem quietOf_mk {p fc a o st m pw t l r sw v ro tx ci pf ti me pa f mo sk sn sa} :
    quietOf (State.mk p fc a o st m pw t l r sw v ro tx ci pf ti me pa f mo sk sn sa) = m.causeQuiet := rfl
theorem quietOf_of_standing {s u : State} (h : standing u = standing s) : quietOf u = quietOf s := by
  rw [quietOf, mode_of_standing h]; rfl
theorem quietOf_report {s u : State} (h : reportOnly s u) : quietOf u = quietOf s := by rw [h]; rfl
theorem quietOf_putSetting (s : State) (vi idx sub el v : Nat) : quietOf (putSetting s vi idx sub el v) = quietOf s := rfl
theorem quietOf_applyStaged (s : State) : quietOf (applyStaged s) = quietOf s := by
  unfold applyStaged
  rw [foldl_view quietOf (fun t x => quietOf_putSetting t _ _ _ _ _)]
  rfl
theorem quietOf_closePort (d : Nat) (s : State) : quietOf (closePort d s) = quietOf s := rfl
theorem quietOf_modTile (s : State) (t : Nat) (f : Tile → Tile) : quietOf (modTile s t f) = quietOf s := rfl
theorem quietOf_bootUnits (warm : Bool) (s : State) : quietOf (bootUnits warm s) = quietOf s := by
  have h : quietOf (applyStaged (dropTimebase s)) = quietOf s := quietOf_applyStaged _
  unfold bootUnits
  dsimp only
  generalize applyStaged (dropTimebase s) = x at h ⊢
  rw [foldl_view quietOf (fun t d => ?_), quietOf_mk]
  · exact h
  · cases d with
    | unit u ref => simp only [apply_ite quietOf, quietOf_closePort, quietOf_modTile, ite_self]
    | desc => rfl
theorem quietOf_cancelArmed (armed : List Nat) (s : State) : quietOf (cancelArmed armed s) = quietOf s := by
  unfold cancelArmed
  rw [foldl_view quietOf (fun t b => ?_)]
  rw [missRecord, quietOf_report (errRecord_report _ _)]
  rfl
theorem quietOf_refreshCard (u : Nat) (s : State) : quietOf (refreshCard u s) = quietOf s := rfl
theorem quietOf_selfTest {warm : Bool} {f : BootFacts} (hf : f.failed = []) (s : State) :
    quietOf (selfTest warm f s) = quietOf s := by
  simp only [selfTest, hf, List.filter_nil, List.foldl_nil]
  exact foldl_view quietOf (fun t u => quietOf_refreshCard u t) _ _
theorem quietOf_settleRelays (s : State) : quietOf (settleRelays s) = quietOf s := rfl
theorem quietOf_bootTested (cause : Nat) {f : BootFacts} (hf : f.failed = []) (s : State) :
    quietOf (bootTested true cause f s) = quietOf s := by
  rw [bootTested, quietOf_selfTest hf, quietOf_settleRelays, quietOf_cancelArmed, quietOf_bootUnits, quietOf, transition_mode]
  rfl
theorem quietOf_setOffice (s : State) (p : Nat) (x : OfficeState) : quietOf (setOffice s p x) = quietOf s := by
  unfold setOffice
  split <;> rfl
theorem quietOf_startPairs (b : Nat) (s : State) : quietOf (startPairs b s) = quietOf s := by
  unfold startPairs
  dsimp only
  simp only [apply_ite quietOf, quietOf_setOffice, ite_self]
  rfl
theorem quietOf_wipeKey (s : State) (h : Nat) : quietOf (wipeKey s h) = quietOf s := rfl
theorem quietOf_restoreRoll (lost : List (Nat × Nat × Nat)) (s : State) : quietOf (restoreRoll lost s) = quietOf s := by
  unfold restoreRoll
  dsimp only
  rw [foldl_view quietOf (fun t h => quietOf_wipeKey t h), quietOf_mk]
  rfl
theorem quietOf_markUnsealed (s : State) : quietOf (markUnsealed s) = quietOf s := rfl
theorem quietOf_sealCheck (f : BootFacts) (found : Nat) (s : State) : quietOf (sealCheck f found s) = quietOf s := by
  unfold sealCheck
  dsimp only
  split
  · rfl
  · split
    · rfl
    · rw [quietOf_markUnsealed]; rfl
theorem quietOf_exhaustionWritten (s : State) : quietOf (exhaustionWritten s) = quietOf s := by
  unfold exhaustionWritten
  split
  · have h := quietOf_report (recordTransition_report .lastGasp .off 0x12 s)
    generalize recordTransition .lastGasp .off 0x12 s = x at h ⊢
    exact h
  · rfl
theorem quietOf_markLost (l : List (Nat × Nat × Nat)) (s : State) : quietOf (markLost l s) = quietOf s :=
  foldl_view quietOf (f := fun t (x : Nat × Nat × Nat) => { t with fault := { t.fault with
    unverified := tabSet false t.fault.unverified (x.1 % 8) true
    lost := tabSet 0 t.fault.lost (x.1 % 8) (x.2.1 % 2 ^ 32 * 2 ^ 32 + x.2.2 % 2 ^ 32) } }) (fun _ _ => rfl) l s
theorem quietOf_endAllDeferred (s : State) : quietOf (endAllDeferred s) = quietOf s :=
  quietOf_of_standing (foldl_view standing (fun t d => standing_endDeferred d .incomplete t) _ _)
theorem quietOf_restoreVerdicts (s : State) : quietOf (restoreVerdicts s) = quietOf s :=
  foldl_view quietOf (f := fun t vi => restoreHeld vi t) (fun _ _ => rfl) _ s
theorem quietOf_bootRestored (f : BootFacts) (found : Nat) (s : State) : quietOf (bootRestored f found s) = quietOf s := by
  rw [bootRestored, quietOf_restoreVerdicts, quietOf_endAllDeferred, quietOf_markLost, quietOf_exhaustionWritten,
    quietOf_sealCheck, quietOf_restoreRoll]
theorem quietOf_stepSixReached (s : State) : quietOf (stepSixReached s) = quietOf s := by
  unfold stepSixReached
  split <;> rfl
/-- A warm BOOT that finds nothing failing leaves QUIET as it was. -/
theorem quietOf_startBoot (cause : Nat) {f : BootFacts} (hfatal : f.fatal = none) (hfailed : f.failed = [])
    (hkey : f.keyStore = true) (s : State) : quietOf (startBoot true cause f s) = quietOf s := by
  rw [startBoot_warm_eq cause hfatal hkey, quietOf_stepSixReached, quietOf_bootRestored, quietOf_startPairs,
    quietOf_bootTested cause hfailed]

theorem quietOf_drained (s : State) : quietOf (drainStaging (drainPrefect (closeGroups s))) = quietOf s :=
  quietOf_of_standing ((standing_drainStaging _).trans rfl)
/-- An emergency reset ends in a warm BOOT at step 6 with QUIET clear. -/
theorem emergencyReset_leaves {f : BootFacts} (hfatal : f.fatal = none) (hfailed : f.failed = []) (hkey : f.keyStore = true)
    (s : State) : (emergencyReset f s).mode.mode = .boot ∧ (emergencyReset f s).mode.bootWarm = true
      ∧ (emergencyReset f s).mode.causeQuiet = false ∧ (emergencyReset f s).mode.bootStep = 6 := by
  unfold emergencyReset
  dsimp only
  generalize hx : stopReceive _ = x
  have hquiet : quietOf x = false := by
    rw [← hx, quietOf_of_standing ((standing_stopReceive _).trans (standing_stopBursts _))]
    rfl
  obtain ⟨hmarks, hstep⟩ := startBoot_warm_leaves 0x10 hfatal hfailed hkey (drainStaging (drainPrefect (closeGroups x)))
  simp only [bootMarks, BootMarks.mk.injEq] at hmarks
  obtain ⟨hmode, hwarm, -, -, -⟩ := hmarks
  have hkept := quietOf_startBoot 0x10 hfatal hfailed hkey (drainStaging (drainPrefect (closeGroups x)))
  rw [quietOf_drained, hquiet] at hkept
  exact ⟨hmode, hwarm, hkept, hstep⟩

/-! ### Ports (16 R427, R432, R433) -/

section
variable {s : State}

theorem rs485_arrives {octets : List Nat} (hm : s.mode.mode ≠ .off) (ho : octets ≠ [])
    (hlen : 2 < (unstuff octets).length)
    (hcrc : crc16 ((unstuff octets).take ((unstuff octets).length - 2)) = fromBE ((unstuff octets).drop ((unstuff octets).length - 2))) :
    execRs485FrameReceived octets s
      = .next (arrive { port := 2, octets := (unstuff octets).take ((unstuff octets).length - 2) } s) := by
  simp only [execRs485FrameReceived, hm, ho, or_self, if_false]
  exact if_pos ⟨hlen, hcrc⟩
theorem rs485_broken {octets : List Nat} (hm : s.mode.mode ≠ .off) (ho : octets ≠ [])
    (hbad : (unstuff octets).length ≤ 2
      ∨ crc16 ((unstuff octets).take ((unstuff octets).length - 2)) ≠ fromBE ((unstuff octets).drop ((unstuff octets).length - 2))) :
    execRs485FrameReceived octets s = .next (discardFrame s) := by
  simp only [execRs485FrameReceived, hm, ho, or_self, if_false]
  refine if_neg fun ⟨hlen, hcrc⟩ => ?_
  rcases hbad with h | h
  · omega
  · exact h hcrc
theorem ethernet_answers {l : Fin 2} {k : Fin 5} (hup : ethernetUp s l = true) (hk : k.val < 3) (src dport vlan : Nat)
    (octets : List Nat) : execEthernetFrameReceived l k src dport vlan false octets s = .next (emit (.ethernet l k) s) := by
  simp [execEthernetFrameReceived, hup, hk]
theorem ethernet_arrives {l : Fin 2} (hup : ethernetUp s l = true) (src vlan : Nat) (octets : List Nat) :
    execEthernetFrameReceived l 3 src (setting s 0x1020 4 0) vlan false octets s
      = .next (arrive { port := ⟨l.val, by omega⟩, src := src, vlan := vlan, octets := octets } s) := by
  simp [execEthernetFrameReceived, hup]
/-- The link comes up in each mode that runs the lanes. -/
theorem ethernetLinkUp_runs (l : Fin 2) (h : s.mode.mode = .standby ∨ s.mode.mode = .service ∨ s.mode.mode = .degraded
      ∨ s.mode.mode = .silent ∨ s.mode.mode = .safe) :
    execEthernetLinkUp l s = .next { s with molfen := { s.molfen with linkUp := tabSet false s.molfen.linkUp l true } } := by
  rcases h with h | h | h | h | h <;> simp only [execEthernetLinkUp, h]
theorem addressChange_effective {l : Fin 2} {a : Nat} (h : s.molfen.addrPending.find? (fun p => p.1 == l.val) = some (l.val, a)) :
    ∃ u, execAddressChangeEffective l s = .next u ∧ tabGet 0 u.molfen.addr l = a ∧ ∀ p ∈ u.molfen.addrPending, p.1 ≠ l.val := by
  simp only [execAddressChangeEffective, h]
  refine ⟨_, rfl, tabGet_set_self 0 s.molfen.addr l a, fun p hp => ?_⟩
  simpa using (List.mem_filter.mp hp).2
end

/-! ### The emergency objects (16 R434; 17 R446 to R448) -/

/-- The items of the three emergency commands. -/
def statusItem : Item := ⟨1, 0xF000, 1, 0, 0, 0, true⟩
def silentItem (v : Nat) : Item := ⟨2, 0xF000, 2, 0, 1, v, true⟩
def resetItem (v : Nat) : Item := ⟨2, 0xF000, 3, 0, 2, v, true⟩

section
variable {s : State}

/-- A request of one READ has one result and moves nothing. -/
theorem serveItems_oneRead (aid : Aid) (care : Bool) {vi : Nat} {i : Item} (cnt token : Nat) (hlim : txCntOf s vi < txLimit)
    (hread : isWrite i = false) :
    ∃ x, serveItems aid care vi cnt token [i] none s = { s := s, gst := 0, tseq := noTseq, out := [x] } := by
  have hserved := serveItems_reads hlim aid care cnt token none (l := [i]) (by simp [hread])
  obtain ⟨x, hx⟩ : ∃ x, (serveItems aid care vi cnt token [i] none s).out = [x] := by
    rw [hserved, ← List.length_eq_one_iff]
    simp [serveReads_length, checkAll_length]
  rw [hserved] at hx
  exact ⟨x, hserved.trans (congrArg (Served.mk s 0 noTseq · false none false) hx)⟩
/-- The status is answered without a MAC. -/
theorem emergencyStatusRead_replies (token : Fin 65536) (hm : s.mode.mode ≠ .off) (hlim : txCntOf s 0 < txLimit) :
    ∃ u x o, execEmergencyStatusRead token s = .next u
      ∧ u.outbox = .reply 2 0 0 0 (txCntOf s 0 + 1) token 0 0xFFFFFFFF [x] o :: s.outbox
      ∧ o = wireOf 2 (molfenMsg (managementKey s 0) 0x02 0 (txCntOf s 0 + 1) (replyBody token 0 0xFFFFFFFF [x]))
      ∧ u.molfen.emergAnswered = inc32 s.molfen.emergAnswered ∧ u.mode = s.mode := by
  obtain ⟨x, hserved⟩ := serveItems_oneRead (s := bumpAnswered s) (vi := 0) (i := statusItem) {} true 0 token hlim rfl
  have hexec : execEmergencyStatusRead token s = .next (finishServe {} { port := 2, octets := [] } 0 token
      (serveItems {} true 0 0 token [statusItem] none (bumpAnswered s))) := by
    simp [execEmergencyStatusRead, careServe, hm, isStatusRead, statusItem]
  obtain ⟨a, hu⟩ := finishServe_sends {} { port := 2, octets := [] } 0 token 0 noTseq [x] (s := bumpAnswered s) (txLimit_room hlim)
  rw [hexec, hserved, hu]
  exact ⟨_, x, _, rfl, rfl, rfl, rfl, rfl⟩
/-- A write under another VI, or that is not accepted, is refused and counted. -/
theorem careServe_refuses (aid : Aid) (d : Datagram) {ok : Bool} {vi : Nat} (cnt token : Nat) {i : Item} (hm : s.mode.mode ≠ .off)
    (hi : isStatusRead i = false) (hbad : vi ≠ 0 ∨ ok = false) :
    (careServe aid d ok vi cnt token [i] s).molfen.emergRefused = inc32 s.molfen.emergRefused
      ∧ (careServe aid d ok vi cnt token [i] s).mode = s.mode := by
  have hnot : (ok && vi == 0) = false := by rcases hbad with h | h <;> simp [h]
  simp only [careServe, hm, if_false, List.all_cons, hi, Bool.false_and, hnot, Bool.or_self, Bool.false_eq_true]
  exact ⟨rfl, rfl⟩

/-- The rows of the two objects that the Caretaker writes. -/
theorem findObj_silent : findObj 0xF000 2 = some ⟨0xF000, 0x02, .rwa, false, 1, 1, false, .one, 1, 0, 1, 1⟩ := by decide +kernel
theorem findObj_reset : findObj 0xF000 3 = some ⟨0xF000, 0x03, .rwa, false, 2, 2, false, .one, 1, 0, 165, 165⟩ := by decide +kernel
theorem portsServe_emergency (hoff : s.mode.mode ≠ .off) (hgasp : s.mode.mode ≠ .lastGasp) : portsServe s 0xF000 = true := by
  unfold portsServe
  split
  · contradiction
  · contradiction
  · rfl
theorem itemCheck_silent (hoff : s.mode.mode ≠ .off) (hgasp : s.mode.mode ≠ .lastGasp) (hg : s.molfen.openGroups = []) :
    itemCheck s true 0 (silentItem 1) = none := by
  simp [itemCheck, silentItem, hgasp, writeCheck, portsServe_emergency hoff hgasp, findObj_silent, writeAccess, selOk, writeRule,
    lenOk, valueOk, valueExtra, objValue, lockedBy, hg]
theorem itemCheck_reset (hoff : s.mode.mode ≠ .off) (hgasp : s.mode.mode ≠ .lastGasp) (hg : s.molfen.openGroups = []) :
    itemCheck s true 0 (resetItem 165) = none := by
  simp [itemCheck, resetItem, hgasp, writeCheck, portsServe_emergency hoff hgasp, findObj_reset, writeAccess, selOk, writeRule,
    lenOk, valueOk, valueExtra, objValue, lockedBy, hg]
/-- The group check speaks of slice writes alone. -/
theorem checkAll_single {care : Bool} {vi : Nat} {i : Item} (h : itemCheck s care vi i = none) (hi : isSlice i = false) :
    checkAll s care vi [i] = [none] := by
  simp only [checkAll, List.map_cons, List.map_nil, h, hi]
  split
  · rfl
  · split <;> rfl

/-- One write that passes its checks: its rule's state is journaled, and the reset object ends the group in a reset. -/
theorem serveItems_single (aid : Aid) {care : Bool} {vi : Nat} {i : Item} {row : ObjRow} (cnt token : Nat) (hlim : txCntOf s vi < txLimit)
    (hw : isWrite i = true) (hkey : i.idx ≠ 0x7011) (hcheck : checkAll s care vi [i] = [none]) (hrow : findObj i.idx i.sub = some row) :
    ∃ t data gst, journaledOnly (objWrite aid row vi i.el i.len i.v (openGroup vi cnt token 1 s)).1 t
      ∧ serveItems aid care vi cnt token [i] none s =
        { s := t, gst := gst, tseq := s.molfen.nextTseq,
          out := [((objWrite aid row vi i.el i.len i.v (openGroup vi cnt token 1 s)).2.1, data)],
          reset := decide (i.idx = 0xF000 ∧ i.sub = 3) } := by
  have hone : [i].filter isWrite = [i] := by simp [hw]
  have hrun : runItems aid vi none [i] { s := openGroup vi cnt token 1 s }
      = runItem aid vi i false { s := openGroup vi cnt token 1 s } := by simp [runItems]
  simp only [serveItems, Nat.not_le.mpr hlim, false_and, if_false, hone, List.length_singleton, one_ne_zero, hcheck,
    List.findIdx?_cons, List.findIdx?_nil, Option.isSome_none, Bool.false_eq_true, Option.map_none, hrun]
  simp only [runItem, hw, hrow, hkey, Bool.not_true, Bool.false_eq_true, if_false, false_and, and_false, Bool.false_or,
    List.reverse_singleton, List.zip_cons_cons, List.zip_nil_right, serveReads, op_of_isWrite hw]
  exact ⟨_, _, _, journalMod_journaled .., rfl⟩

/-- A reply moves no mode. -/
theorem sendReply_mode (d : Datagram) (vi token : Nat) (x : Served) : (sendReply d vi token x).mode = x.s.mode := by
  unfold sendReply
  dsimp only
  split
  · rfl
  · split <;> rfl
theorem finishServe_mode (aid : Aid) (d : Datagram) (vi token : Nat) {x : Served} (hsilent : x.silent = false)
    (hreset : x.reset = false) : (finishServe aid d vi token x).mode = x.s.mode := by
  simp only [finishServe, hsilent, hreset, Bool.false_eq_true, if_false]
  split <;> exact sendReply_mode d vi token x
theorem finishServe_resets (aid : Aid) (d : Datagram) (vi token : Nat) {x : Served} (hsilent : x.silent = false)
    (hreset : x.reset = true) : ∃ t, finishServe aid d vi token x = emergencyReset aid.boot t := by
  simp only [finishServe, hsilent, hreset, Bool.false_eq_true, if_false, if_true]
  exact ⟨_, rfl⟩

/-- SILENT stands while a cause is set. -/
theorem settle_silent_stays (h : s.mode.mode = .silent) (hc : silentCause s = true) : (settle s).mode.mode = .silent := by
  rw [settle_mode]
  simp only [settleOnce, h, hc, if_true]
/-- An accepted request of VI 0, taken and counted as answered. -/
def emergencyTaken (cnt : Nat) (s : State) : State := bumpAnswered (takeCnt 0 cnt s)
theorem careServe_accepted (aid : Aid) (d : Datagram) (cnt token : Nat) (l : List Item) (hm : s.mode.mode ≠ .off) :
    careServe aid d true 0 cnt token l s
      = finishServe aid d 0 token (serveItems aid true 0 cnt token l none (emergencyTaken cnt s)) := by
  simp [careServe, hm, emergencyTaken]

section
variable (hoff : s.mode.mode ≠ .off) (hgasp : s.mode.mode ≠ .lastGasp) (hg : s.molfen.openGroups = [])
  (hlim : txCntOf s 0 < txLimit)
include hoff hgasp hg hlim

theorem careServe_silences (aid : Aid) (d : Datagram) (cnt token : Nat)
    (h : s.mode.mode = .standby ∨ s.mode.mode = .service ∨ s.mode.mode = .degraded ∨ s.mode.mode = .silent) :
    let u := careServe aid d true 0 cnt token [silentItem 1] s
    u.answer.status = .ok ∧ u.mode.mode = .silent ∧ u.mode.causeQuiet = true := by
  have hcheck := checkAll_single (itemCheck_silent (s := emergencyTaken cnt s) hoff hgasp hg) rfl
  obtain ⟨t, data, gst, honly, hserved⟩ :=
    serveItems_single (s := emergencyTaken cnt s) aid cnt token hlim rfl (by decide) hcheck findObj_silent
  have hown : objWrite aid ⟨0xF000, 0x02, .rwa, false, 1, 1, false, .one, 1, 0, 1, 1⟩ 0 0 1 1 (openGroup 0 cnt token 1 (emergencyTaken cnt s))
      = (settle (setQuiet (openGroup 0 cnt token 1 (emergencyTaken cnt s))), .ok, none) := by
    simp [objWrite, ownRule, rimObject, writeHigh]
  simp only [silentItem] at honly hserved
  rw [hown] at honly hserved
  have hq := setQuiet_causeQuiet (openGroup 0 cnt token 1 (emergencyTaken cnt s))
  have hmode := setQuiet_mode_mode (openGroup 0 cnt token 1 (emergencyTaken cnt s))
  have ht : t.mode = (settle (setQuiet (openGroup 0 cnt token 1 (emergencyTaken cnt s)))).mode := by rw [honly]
  dsimp only
  rw [careServe_accepted aid d cnt token _ hoff, silentItem, hserved]
  generalize hx : (Served.mk t gst _ _ _ _ _) = x
  have hstatus := finishServe_status aid d 0 token (x := x) (y := (.ok, data)) (by rw [← hx]) (by rw [← hx]; rfl) (by rw [← hx])
  have hkept : (finishServe aid d 0 token x).mode = t.mode := by
    rw [finishServe_mode aid d 0 token (x := x) (by rw [← hx]) (by rw [← hx]; rfl), ← hx]
  rw [hkept, ht]
  refine ⟨hstatus, ?_, (settle_causeQuiet _).trans hq⟩
  have hcause := silentCause_of_causeQuiet hq
  rcases h with h | h | h | h
  · exact settle_mode_of_cause (.inl (hmode.trans h)) hcause
  · exact settle_mode_of_cause (.inr (.inl (hmode.trans h))) hcause
  · exact settle_mode_of_cause (.inr (.inr (hmode.trans h))) hcause
  · exact settle_silent_stays (hmode.trans h) hcause
theorem careServe_restarts {f : BootFacts} (hfatal : f.fatal = none) (hfailed : f.failed = []) (hstore : f.keyStore = true)
    (d : Datagram) (cnt token : Nat) :
    let u := careServe { boot := f } d true 0 cnt token [resetItem 165] s
    u.mode.mode = .boot ∧ u.mode.bootWarm = true ∧ u.mode.causeQuiet = false ∧ u.mode.bootStep = 6 := by
  have hcheck := checkAll_single (itemCheck_reset (s := emergencyTaken cnt s) hoff hgasp hg) rfl
  obtain ⟨t, data, gst, -, hserved⟩ :=
    serveItems_single (s := emergencyTaken cnt s) { boot := f } cnt token hlim rfl (by decide) hcheck findObj_reset
  dsimp only
  rw [careServe_accepted _ d cnt token _ hoff, hserved]
  generalize hx : (Served.mk t gst _ _ _ _ _) = x
  obtain ⟨v, hv⟩ := finishServe_resets { boot := f } d 0 token (x := x) (by rw [← hx]) (by rw [← hx]; rfl)
  rw [hv]
  exact emergencyReset_leaves hfatal hfailed hstore v
end
end

/-! ### The statement -/

/-- Settles O55: each port event by the branch it takes; the emergency commands by what the Caretaker serves of their one item. -/
theorem portsAndEmergency : Obligations.PortsAndEmergency := by
  refine ⟨fun s => ⟨fun octets hm ho hlen hcrc => rs485_arrives hm ho hlen hcrc, fun octets hm ho hbad => rs485_broken hm ho hbad,
    fun hm => if_neg hm, fun l k src dport vlan octets hup => ⟨fun hk => ethernet_answers hup hk src dport vlan octets, ?_⟩,
    fun _ => rfl, fun l h => ethernetLinkUp_runs l h, fun l a h => addressChange_effective h⟩,
    fun token cnt s hm => ⟨emergencyStatusRead_replies token hm, fun vi v f hbad => ?_, ?_⟩⟩
  · intro hk hport
    subst hk hport
    exact ⟨_, ethernet_arrives hup src vlan octets, rfl⟩
  · have hrefused : vi.val ≠ 0 ∨ (viEnabled s vi && freshCnt s vi cnt) = false := by
      rcases hbad with h | h | h
      · exact .inl fun h0 => h (Fin.ext h0)
      · exact .inr (by simp [h])
      · exact .inr (by simp [h])
    exact ⟨⟨_, rfl, careServe_refuses _ _ cnt token hm rfl hrefused⟩, _, rfl, careServe_refuses _ _ cnt token hm rfl hrefused⟩
  · intro hlim henabled hfresh hg hgasp
    have hok : (viEnabled s (0 : Fin 16) && freshCnt s (0 : Fin 16) cnt) = true := by simp [henabled, hfresh]
    exact ⟨fun h => ⟨_, congrArg (fun ok => Host.Outcome.next (careServe {} _ ok _ cnt token _ s)) hok,
        careServe_silences hm hgasp hg hlim {} _ cnt token h⟩, fun f hfatal hfailed hstore =>
      ⟨_, congrArg (fun ok => Host.Outcome.next (careServe { boot := f } _ ok _ cnt token _ s)) hok,
        careServe_restarts hm hgasp hg hlim hfatal hfailed hstore _ cnt token⟩⟩

end Sys2Proof.Machine
end

section
/-! O56 (16 R428 to R430): each stage of an update is one branch of its command; what a stage leaves of the updates is said once, in
`updatesOf_fwStage` and `updatesOf_pkgStage`. -/

namespace Sys2Proof.Machine

open Sys2Proof.Safety

/-! ### What the updates are judged by -/

/-- The firmware's update, the banks and the packages. -/
def updatesOf (s : State) : Update × Nat × Nat × Tab Update :=
  (s.molfen.firmware, s.molfen.bank, s.molfen.selected, s.molfen.packages)
theorem updatesOf_settled {s u : State} (h : settledOnly s u) : updatesOf u = updatesOf s := by rw [h]; rfl
theorem updatesOf_report {s u : State} (h : reportOnly s u) : updatesOf u = updatesOf s := by rw [h]; rfl
theorem firmware_of_updates {s : State} {x : Update} {b n : Nat} {l : Tab Update} (h : updatesOf s = (x, b, n, l)) :
    s.molfen.firmware = x ∧ s.molfen.bank = b ∧ s.molfen.selected = n := by
  simp only [updatesOf, Prod.mk.injEq] at h
  exact ⟨h.1, h.2.1, h.2.2.1⟩
theorem packageOf_eq (s : State) (id : Nat) : packageOf s id = tabGet {} (updatesOf s).2.2.2 id := rfl
theorem packageOf_congr {s u : State} (h : updatesOf u = updatesOf s) (id : Nat) : packageOf u id = packageOf s id := by
  rw [packageOf_eq, h, packageOf_eq]
theorem journalStage_settled (cmd st : Nat) (s : State) : settledOnly s (journalStage cmd st s) :=
  (show settledOnly s (journalPut _ s) from rfl).trans (notifyVi_settled ..)
theorem updatesOf_fwStage (cmd : Nat) (u : UpdState) (s : State) : updatesOf (fwStage cmd u s)
    = ({ s.molfen.firmware with ustate := u }, s.molfen.bank, s.molfen.selected, s.molfen.packages) :=
  updatesOf_settled (journalStage_settled ..)
theorem packageOf_pkgStage (cmd id : Nat) (x : Update) (s : State) : packageOf (pkgStage cmd id x s) id = x :=
  (packageOf_congr (updatesOf_settled (journalStage_settled ..)) id).trans (packageOf_setPackage s id x)

/-! ### The firmware (R428) -/

/-- A command that its rule takes is noted as the last one written. -/
theorem writeFirmware_ok {cmd : Nat} {pass : Bool} {s t : State} (h : firmwareCommand cmd pass s = (t, .ok)) :
    writeFirmware cmd pass s = (putSetting t 0 0x8070 1 0 cmd, .ok) := by
  simp only [writeFirmware, h]
/-- The state that a noted command answers. -/
def noted (idx el cmd : Nat) (t : State) : State := answering .ok (putSetting t 0 idx 1 el cmd)
theorem noted_status (idx el cmd : Nat) (t : State) : (noted idx el cmd t).answer.status = .ok := rfl
theorem updatesOf_noted (idx el cmd : Nat) (t : State) : updatesOf (noted idx el cmd t) = updatesOf t := rfl
theorem firmware_answers {vi : Fin 16} {cmd : Nat} {pass : Bool} {s t : State} (hw : writable s vi 0x8070 1 0 1 cmd = true)
    (h : firmwareCommand cmd pass s = (t, .ok)) :
    answered (checkedWrite vi 0x8070 1 0 1 cmd (writeFirmware cmd pass) s) = .next (noted 0x8070 0 cmd t) :=
  answered_of_writable hw (writeFirmware_ok h)

section
variable {s : State}

theorem firmwareCommand_open (pass : Bool) (h : s.molfen.firmware.ustate ≠ .probation)
    (hf : isFenced s (unitFlash (otherBank s)) = false) : firmwareCommand 1 pass s
      = (fwStage 1 .staging (setVersion (otherBank s) 0 (setFirmware { s.molfen.firmware with chunks := [] } s)), .ok) := by
  cases hx : s.molfen.firmware.ustate <;> simp_all [firmwareCommand]
theorem firmwareCommand_verify (pass : Bool) (h : s.molfen.firmware.ustate = .staging) :
    ∃ t, firmwareCommand 2 pass s = (fwStage 2 (if Config.firmwareGood s.molfen.firmware.chunks (setting s 0x8070 4 0) then .verified else .bad) t, .ok)
      ∧ updatesOf t = updatesOf s := by
  simp only [firmwareCommand, h]
  split
  · exact ⟨_, rfl, rfl⟩
  · exact ⟨s, rfl, rfl⟩
theorem firmwareCommand_abandon (pass : Bool)
    (h : s.molfen.firmware.ustate = .staging ∨ s.molfen.firmware.ustate = .verified ∨ s.molfen.firmware.ustate = .bad) :
    firmwareCommand 5 pass s
      = (fwStage 5 .idle (setVersion (otherBank s) 0 (setFirmware { s.molfen.firmware with chunks := [] } s)), .ok) := by
  rcases h with h | h | h <;> simp only [firmwareCommand, h]

/-! The rotation of the Office pairs. -/

theorem updatesOf_setOffice (p : Nat) (x : OfficeState) (s : State) : updatesOf (setOffice s p x) = updatesOf s := by
  unfold setOffice
  split <;> rfl
theorem updatesOf_rewind (vi c : Nat) (s : State) : updatesOf (rewind vi c s) = updatesOf s := by
  unfold rewind
  split
  · split <;> rfl
  · rfl
/-- The running bank is the other one; the update and the bank to start from stay. -/
theorem updatesOf_rotateOffice (s : State) :
    updatesOf (rotateOffice s) = (s.molfen.firmware, otherBank s, s.molfen.selected, s.molfen.packages) := by
  unfold rotateOffice
  extract_lets m v
  have hv : updatesOf v = (s.molfen.firmware, otherBank s, s.molfen.selected, s.molfen.packages) := rfl
  clear_value v
  split
  · split
    · refine (foldl_view updatesOf (fun t vi => foldl_view updatesOf (fun u c => updatesOf_rewind ..) _ _) _ _).trans ?_
      rw [updatesOf_setOffice, updatesOf_setOffice]
      exact hv
    · exact hv
  · exact hv
theorem updateRecord_report (s : State) : reportOnly { s with freeCount := s.freeCount + 1 } (updateRecord s) := errRecord_report _ _
theorem updatesOf_updateRecord (s : State) : updatesOf (updateRecord s) = updatesOf s :=
  (updatesOf_report (updateRecord_report s)).trans rfl
theorem updateRecord_newest (s : State) : (updateRecord s).fault.newest = s.fault.nextEseq := errRecord_newest _ _

theorem firmwareActivate_probation {vi : Fin 16} (hw : writable s vi 0x8070 1 0 1 3 = true)
    (h : s.molfen.firmware.ustate = .verified) (hp : standbyPresent s = true) :
    ∃ u, execFirmwareActivate vi true s = .next u ∧ u.answer.status = .ok ∧ u.molfen.firmware.ustate = .probation
      ∧ u.molfen.bank = otherBank s ∧ u.molfen.selected = s.molfen.selected := by
  have hcmd : firmwareCommand 3 true s = (settle (fwStage 3 .probation (rotateOffice s)), .ok) := by
    simp only [firmwareCommand, h, hp, Bool.and_self, if_true]
  have hall := updatesOf_fwStage 3 .probation (rotateOffice s)
  obtain ⟨-, hbank, hselected⟩ := firmware_of_updates (updatesOf_rotateOffice s)
  rw [hbank, hselected, ← updatesOf_settled (settle_settled _), ← updatesOf_noted 0x8070 0 3] at hall
  obtain ⟨hx, hb, hn⟩ := firmware_of_updates hall
  exact ⟨_, firmware_answers hw hcmd, rfl, congrArg Update.ustate hx, hb, hn⟩
theorem firmwareActivate_fails {vi : Fin 16} {pass : Bool} (hw : writable s vi 0x8070 1 0 1 3 = true)
    (h : s.molfen.firmware.ustate = .verified) (hp : (pass && standbyPresent s) = false) :
    ∃ u, execFirmwareActivate vi pass s = .next u ∧ u.answer.status = .ok ∧ u.molfen.firmware.ustate = .verified
      ∧ u.molfen.bank = s.molfen.bank ∧ u.fault.newest = s.fault.nextEseq := by
  have hcmd : firmwareCommand 3 pass s = (settle (fwStage 3 .verified (updateRecord s)), .ok) := by
    simp only [firmwareCommand, h, hp, Bool.false_eq_true, if_false]
  have hstage := journalStage_settled 3 (fwStateCode .verified)
    (setFirmware { (updateRecord s).molfen.firmware with ustate := .verified } (updateRecord s))
  have hsettled := hstage.trans (settle_settled (fwStage 3 .verified (updateRecord s)))
  have hall := updatesOf_settled hsettled
  rw [← updatesOf_noted 0x8070 0 3] at hall
  obtain ⟨-, hbank, -⟩ := firmware_of_updates (updatesOf_updateRecord s)
  obtain ⟨hx, hb, -⟩ := firmware_of_updates hall
  exact ⟨_, firmware_answers hw hcmd, rfl, congrArg Update.ustate hx, hb.trans hbank, hsettled.newest.trans (updateRecord_newest s)⟩
theorem firmwareCommit_commits {vi : Fin 16} (hw : writable s vi 0x8070 1 0 1 4 = true) (h : s.molfen.firmware.ustate = .probation) :
    ∃ u, execFirmwareCommit vi s = .next u ∧ u.answer.status = .ok ∧ u.molfen.firmware.ustate = .committed
      ∧ u.molfen.selected = s.molfen.bank := by
  have hcmd : firmwareCommand 4 true s
      = (fwStage 4 .committed { s with molfen := { s.molfen with selected := s.molfen.bank } }, .ok) := by
    simp only [firmwareCommand, h]
  have hall := updatesOf_fwStage 4 .committed { s with molfen := { s.molfen with selected := s.molfen.bank } }
  rw [← updatesOf_noted 0x8070 0 4] at hall
  obtain ⟨hx, -, hn⟩ := firmware_of_updates hall
  exact ⟨_, firmware_answers hw hcmd, rfl, congrArg Update.ustate hx, hn⟩
theorem firmwareAbandon_staged {vi : Fin 16} (hw : writable s vi 0x8070 1 0 1 5 = true)
    (h : s.molfen.firmware.ustate = .staging ∨ s.molfen.firmware.ustate = .verified ∨ s.molfen.firmware.ustate = .bad) :
    ∃ u, execFirmwareAbandon vi s = .next u ∧ u.answer.status = .ok
      ∧ u.molfen.firmware = { s.molfen.firmware with ustate := .idle, chunks := [] } ∧ u.molfen.bank = s.molfen.bank := by
  have hall := updatesOf_fwStage 5 .idle (setVersion (otherBank s) 0 (setFirmware { s.molfen.firmware with chunks := [] } s))
  rw [← updatesOf_noted 0x8070 0 5] at hall
  obtain ⟨hx, hb, -⟩ := firmware_of_updates hall
  exact ⟨_, firmware_answers hw (firmwareCommand_abandon true h), rfl, hx, hb⟩
/-- An ABANDON in probation goes back to the bank before. -/
theorem firmwareAbandon_probation {vi : Fin 16} (hw : writable s vi 0x8070 1 0 1 5 = true) (h : s.molfen.firmware.ustate = .probation) :
    ∃ u, execFirmwareAbandon vi s = .next u ∧ u.answer.status = .ok ∧ u.molfen.firmware.ustate = .idle
      ∧ u.molfen.bank = otherBank s := by
  have hcmd : ∃ b, firmwareCommand 5 true s
      = (settle (fwStage 5 .idle (setVersion b 0 (rotateOffice (setFirmware { s.molfen.firmware with chunks := [] } s)))), .ok) := by
    simp only [firmwareCommand, h]
    exact ⟨_, rfl⟩
  obtain ⟨b, hcmd⟩ := hcmd
  have hall := updatesOf_fwStage 5 .idle (setVersion b 0 (rotateOffice (setFirmware { s.molfen.firmware with chunks := [] } s)))
  obtain ⟨-, hbank, -⟩ := firmware_of_updates (updatesOf_rotateOffice (setFirmware { s.molfen.firmware with chunks := [] } s))
  rw [← updatesOf_settled (settle_settled _), ← updatesOf_noted 0x8070 0 5] at hall
  obtain ⟨hx, hb, -⟩ := firmware_of_updates hall
  exact ⟨_, firmware_answers hw hcmd, rfl, congrArg Update.ustate hx, hb.trans hbank⟩
theorem probationExpiry_verified (h : s.molfen.firmware.ustate = .probation) :
    ∃ u, execProbationExpiry s = .next u ∧ u.molfen.firmware.ustate = .verified ∧ u.molfen.bank = otherBank s := by
  have hexec : execProbationExpiry s
      = .next (settle (updateRecord (setFirmware { s.molfen.firmware with ustate := .verified } (rotateOffice s)))) := if_pos h
  have hall := (updatesOf_settled (settle_settled _)).trans
    (updatesOf_updateRecord (setFirmware { s.molfen.firmware with ustate := .verified } (rotateOffice s)))
  obtain ⟨-, hbank, -⟩ := firmware_of_updates (updatesOf_rotateOffice s)
  obtain ⟨hx, hb, -⟩ := firmware_of_updates hall
  exact ⟨_, hexec, congrArg Update.ustate hx, hb.trans hbank⟩
theorem firmwareVerify_judges {vi : Fin 16} (hw : writable s vi 0x8070 1 0 1 2 = true) (h : s.molfen.firmware.ustate = .staging) :
    ∃ u, execFirmwareVerify vi s = .next u ∧ u.answer.status = .ok ∧ u.molfen.firmware = { s.molfen.firmware with
      ustate := if Config.firmwareGood s.molfen.firmware.chunks (setting s 0x8070 4 0) then .verified else .bad } := by
  obtain ⟨t, hcmd, ht⟩ := firmwareCommand_verify true h
  obtain ⟨hfirmware, -, -⟩ := firmware_of_updates ht
  have hall := updatesOf_fwStage 2 (if Config.firmwareGood s.molfen.firmware.chunks (setting s 0x8070 4 0) then .verified else .bad) t
  rw [hfirmware, ← updatesOf_noted 0x8070 0 2] at hall
  exact ⟨_, firmware_answers hw hcmd, rfl, (firmware_of_updates hall).1⟩
theorem firmwareOpen_stages {vi : Fin 16} (hw : writable s vi 0x8070 1 0 1 1 = true) (h : s.molfen.firmware.ustate ≠ .probation)
    (hf : isFenced s (unitFlash (otherBank s)) = false) :
    ∃ u, execFirmwareOpen vi s = .next u ∧ u.answer.status = .ok
      ∧ u.molfen.firmware = { s.molfen.firmware with ustate := .staging, chunks := [] } := by
  have hall := updatesOf_fwStage 1 .staging (setVersion (otherBank s) 0 (setFirmware { s.molfen.firmware with chunks := [] } s))
  rw [← updatesOf_noted 0x8070 0 1] at hall
  exact ⟨_, firmware_answers hw (firmwareCommand_open true h hf), rfl, (firmware_of_updates hall).1⟩
theorem firmwareChunk_takes {vi : Fin 16} {o n v : Nat} (hw : writable s vi 0x8070 3 o n v = true)
    (h : s.molfen.firmware.ustate = .staging) : execFirmwareChunk vi o n v s
      = took (setFirmware { s.molfen.firmware with chunks := tabSet (0, 0) s.molfen.firmware.chunks o (n, v) } s) :=
  answered_of_writable hw (if_pos h)
end

/-! ### The packages (R429, R430) -/

theorem package_answers {vi : Fin 16} {id cmd : Nat} {found : Package} {s t : State} (hw : writable s vi 0x8080 1 id 1 cmd = true)
    (h : packageCommand id cmd found s = (t, .ok)) :
    answered (checkedWrite vi 0x8080 1 id 1 cmd (writePackage id cmd found) s) = .next (noted 0x8080 id cmd t) :=
  answered_of_writable hw (by simp only [writePackage, h])
theorem packageOf_noted (idx el cmd : Nat) (t : State) (id : Nat) : packageOf (noted idx el cmd t) id = packageOf t id := rfl

section
variable {s : State} {id : Nat}

theorem packageCommand_open (found : Package) (h : (packageOf s id).ustate ≠ .rotating) (hl : isLicensed s id = true) :
    packageCommand id 1 found s = (pkgStage 1 id
      { packageOf s id with ustate := .staging, chunks := [], wasInstalled := (packageOf s id).wasInstalled || (packageOf s id).ustate == .installed }
      s, .ok) := by
  cases hx : (packageOf s id).ustate <;> simp_all [packageCommand]
theorem packageCommand_abandon (found : Package) (h : (packageOf s id).ustate = .staging ∨ (packageOf s id).ustate = .verified
      ∨ (packageOf s id).ustate = .bad) :
    packageCommand id 5 found s = (pkgStage 5 id { packageOf s id with ustate := .idle, chunks := [] } s, .ok) := by
  rcases h with h | h | h <;> simp only [packageCommand, h]

theorem packageOpen_stages {vi : Fin 16} (hw : writable s vi 0x8080 1 id 1 1 = true) (h : (packageOf s id).ustate ≠ .rotating)
    (hl : isLicensed s id = true) :
    ∃ u, execPackageOpen vi id s = .next u ∧ u.answer.status = .ok ∧ (packageOf u id).ustate = .staging
      ∧ (packageOf u id).chunks = [] ∧ (packageOf u id).inst = (packageOf s id).inst := by
  refine ⟨_, package_answers hw (packageCommand_open {} h hl), rfl, ?_⟩
  rw [packageOf_noted, packageOf_pkgStage]
  exact ⟨rfl, rfl, rfl⟩
theorem packageAbandon_staged {vi : Fin 16} (hw : writable s vi 0x8080 1 id 1 5 = true) (h : (packageOf s id).ustate = .staging
      ∨ (packageOf s id).ustate = .verified ∨ (packageOf s id).ustate = .bad) :
    ∃ u, execPackageAbandon vi id s = .next u ∧ u.answer.status = .ok
      ∧ packageOf u id = { packageOf s id with ustate := .idle, chunks := [] } :=
  ⟨_, package_answers hw (packageCommand_abandon {} h), rfl, packageOf_pkgStage ..⟩
theorem packageChunk_takes {vi : Fin 16} {el n v : Nat} (hw : writable s vi 0x8080 3 el n v = true) (hid : el / 2 ^ 24 = id)
    (h : (packageOf s id).ustate = .staging) : execPackageChunk vi el n v s
      = took (setPackage s id { packageOf s id with chunks := tabSet (0, 0) (packageOf s id).chunks (el % 2 ^ 24) (n, v) }) := by
  subst hid
  exact answered_of_writable hw (if_pos h)

/-- The signature of the staged chunks, as VERIFY finds it. -/
def packageSigned (s : State) (id : Nat) : Bool :=
  Config.packageGood id (packageOf s id).chunks (setting s 0x8080 4 id) (if isCustomer id then setting s 0x8080 5 0 else 0)
section
variable {vi : Fin 16} {p : Package} (hw : writable s vi 0x8080 1 id 1 2 = true) (h : (packageOf s id).ustate = .staging)
include hw h

/-- A signed package whose node table fails is refused, and stays as it was. -/
theorem packageVerify_badTable (hg : packageSigned s id = true) (ht : tableOk s id p = false) :
    execPackageVerify vi id p s = .next (answering .range s) := by
  have hcmd : packageCommand id 2 p s = (s, .range) := by
    unfold packageSigned at hg
    simp only [packageCommand, h, hg, ht, if_true, Bool.false_eq_true, if_false]
  exact answered_of_writable hw (by simp only [writePackage, hcmd])
theorem packageVerify_judges (ht : packageSigned s id = false ∨ tableOk s id p = true) :
    ∃ u, execPackageVerify vi id p s = .next u ∧ u.answer.status = .ok
      ∧ (packageOf u id).ustate = if packageSigned s id then .verified else .bad := by
  cases hg : packageSigned s id with
  | false =>
    have hcmd : packageCommand id 2 p s = (pkgStage 2 id { packageOf s id with ustate := .bad } s, .ok) := by
      unfold packageSigned at hg
      simp only [packageCommand, h, hg, Bool.false_eq_true, if_false]
    exact ⟨_, package_answers hw hcmd, rfl, congrArg Update.ustate (packageOf_pkgStage ..)⟩
  | true =>
    have hcmd : packageCommand id 2 p s = (pkgStage 2 id { packageOf s id with ustate := .verified, staged := p } s, .ok) := by
      have hok : tableOk s id p = true := ht.resolve_left (by simp [hg])
      unfold packageSigned at hg
      simp only [packageCommand, h, hg, hok, if_true]
    exact ⟨_, package_answers hw hcmd, rfl, congrArg Update.ustate (packageOf_pkgStage ..)⟩
end

/-! ACTIVATE and the rotation of the last tile. -/

theorem prefectOnly.molfen {s u : State} (h : prefectOnly s u) : u.molfen = s.molfen := by rw [h]
theorem packageOf_drainTile (l : Nat) (s : State) (id : Nat) : packageOf (drainTile l s) id = packageOf s id := by
  rw [drainTile, packageOf, (noteBlocks_only _).molfen]
  rfl
/-- A rotation starts with the drain of its first tile. -/
theorem nextTile_of_rest {l : Nat} {rest : List Nat} (h : (packageOf s id).toRotate = l :: rest) : nextTile id s = drainTile l s := by
  simp only [nextTile, h]
/-- The update of a package whose rotation begins. -/
def rotating (x : Update) : Update :=
  { x with ustate := .rotating, toRotate := x.staged.images.map (·.1), rotated := [], back := false }
/-- No tile of another package, none invalid, and a format the module is free to change: the rotation begins. -/
theorem activatePackage_rotates
    (hformat : (packageOf s id).wasInstalled = false ∨ ((packageOf s id).staged.bufFormat = (packageOf s id).inst.bufFormat
      ∧ (packageOf s id).staged.raw = (packageOf s id).inst.raw ∧ freeTiles s ≠ []))
    (htaken : (packageOf s id).staged.images.any (fun i => tileTaken s id i.1 || tabGet false s.prefect.invalid i.1) = false) :
    activatePackage id s = (settle (nextTile id (pkgStage 3 id (rotating (packageOf s id)) s)), .ok) := by
  have hbuf : ¬ ((packageOf s id).wasInstalled && decide ((packageOf s id).staged.bufFormat ≠ (packageOf s id).inst.bufFormat)) = true := by
    rcases hformat with h | ⟨h, -, -⟩ <;> simp [h]
  have hraw : ¬ ((packageOf s id).wasInstalled && decide ((packageOf s id).staged.raw ≠ (packageOf s id).inst.raw)) = true := by
    rcases hformat with h | ⟨-, h, -⟩ <;> simp [h]
  have hfree : ¬ (((packageOf s id).staged.images.any (fun i => (packageOf s id).wasInstalled && hasTile (packageOf s id).inst i.1)) = true
      ∧ (freeTiles s).isEmpty = true) := by
    rcases hformat with h | ⟨-, -, h⟩ <;> simp [h]
  unfold activatePackage
  simp only [Bool.and_eq_true] at hbuf hraw ⊢
  rw [if_neg (fun h => hbuf h.1), if_neg (fun h => hraw h.1), htaken, if_neg Bool.false_ne_true, if_neg hfree, rotating]
theorem packageActivate_rotates {vi : Fin 16} (hw : writable s vi 0x8080 1 id 1 3 = true) (h : (packageOf s id).ustate = .verified)
    (himages : (packageOf s id).staged.images ≠ [])
    (hformat : (packageOf s id).wasInstalled = false ∨ ((packageOf s id).staged.bufFormat = (packageOf s id).inst.bufFormat
      ∧ (packageOf s id).staged.raw = (packageOf s id).inst.raw ∧ freeTiles s ≠ []))
    (htaken : (packageOf s id).staged.images.any (fun i => tileTaken s id i.1 || tabGet false s.prefect.invalid i.1) = false) :
    ∃ u, execPackageActivate vi id s = .next u ∧ u.answer.status = .ok ∧ (packageOf u id).ustate = .rotating
      ∧ (packageOf u id).toRotate = (packageOf s id).staged.images.map (·.1) := by
  have hcmd : packageCommand id 3 {} s = (settle (nextTile id (pkgStage 3 id (rotating (packageOf s id)) s)), .ok) := by
    rw [← activatePackage_rotates hformat htaken]
    simp only [packageCommand, h]
  obtain ⟨l, rest, hrest⟩ := List.exists_cons_of_ne_nil (l := (packageOf s id).staged.images.map (·.1)) (by simpa using himages)
  have hx := packageOf_pkgStage 3 id (rotating (packageOf s id)) s
  refine ⟨_, package_answers hw hcmd, rfl, ?_⟩
  rw [packageOf_noted, packageOf_congr (updatesOf_settled (settle_settled _)),
    nextTile_of_rest ((congrArg Update.toRotate hx).trans hrest), packageOf_drainTile, hx]
  exact ⟨rfl, rfl⟩

theorem packageOf_refreshPaces (s : State) (id : Nat) : packageOf (refreshPaces s) id = packageOf s id := by
  unfold refreshPaces
  refine foldl_view (fun u => packageOf u id) ?_ _ _
  exact fun _ _ => rfl
theorem tileOf_pkgStage (cmd id : Nat) (x : Update) (s : State) (t : Nat) : tileOf (pkgStage cmd id x s) t = tileOf s t :=
  (journalStage_settled ..).tileOf t
/-- A package that was not installed before replaces no tile: it becomes INSTALLED with what was staged, and no tile moves. -/
theorem installPackage_first (h : (packageOf s id).wasInstalled = false) :
    (packageOf (installPackage id s) id).ustate = .installed
      ∧ (packageOf (installPackage id s) id).inst = (packageOf s id).staged
      ∧ ∀ t, tileOf (installPackage id s) t = tileOf s t := by
  have hgone : ((packageOf s id).inst.images.map (·.1)).filter
      (fun l => (packageOf s id).wasInstalled && !hasTile (packageOf s id).staged l) = [] := by simp [h]
  simp only [installPackage, hgone, List.foldl_nil, packageOf_refreshPaces, packageOf_pkgStage, true_and]
  intro t
  rw [tileOf, refreshPaces_tiles]
  exact tileOf_pkgStage ..
/-- After the last tile of a rotation the package is installed. -/
theorem nextTile_installs (hrest : (packageOf s id).toRotate = []) (hback : (packageOf s id).back = false) :
    nextTile id s = installPackage id s := by
  simp only [nextTile, hrest, hback]
/-- The last tile of a package that was not installed before is loaded where it is, and the package is INSTALLED. -/
theorem rotationStep_last {l : Nat} (h : (packageOf s id).ustate = .rotating) (hrest : (packageOf s id).toRotate = [l])
    (hback : (packageOf s id).back = false) (hwas : (packageOf s id).wasInstalled = false) (hidle : inServiceOf s l = false)
    (hfence : isFenced s (unitTile (physOf s l)) = false) :
    (packageOf (rotationStep id s) id).ustate = .installed ∧ (packageOf (rotationStep id s) id).inst = (packageOf s id).staged
      ∧ ∃ c e, tileOf (rotationStep id s) (physOf s l)
          = { loadedTile l (imageFor (packageOf s id).staged l) (tileOf s (physOf s l)) with c := c, cxerr := e } := by
  have hplace : placeTile false l (imageFor (packageOf s id).staged l) s
      = some (setDrain l false (loadImage (physOf s l) l (imageFor (packageOf s id).staged l) s)) := by simp [placeTile, hidle, hfence]
  obtain ⟨y, hstep, hyrest, hyback, hywas, hystaged⟩ : ∃ y, rotationStep id s
        = nextTile id (setPackage (setDrain l false (loadImage (physOf s l) l (imageFor (packageOf s id).staged l) s)) id y)
      ∧ y.toRotate = [] ∧ y.back = false ∧ y.wasInstalled = false ∧ y.staged = (packageOf s id).staged := by
    simp only [rotationStep, h, hrest, hwas, Bool.false_and, hplace, hback, Bool.false_eq_true, if_false]
    exact ⟨_, rfl, rfl, rfl, rfl, rfl⟩
  obtain ⟨c, e, htile⟩ := tileOf_loadImage (physOf s l) l (imageFor (packageOf s id).staged l) s
  generalize loadImage (physOf s l) l (imageFor (packageOf s id).staged l) s = v at hstep htile
  have hy : packageOf (setPackage (setDrain l false v) id y) id = y := packageOf_setPackage ..
  obtain ⟨hstate, hinst, htiles⟩ := installPackage_first (s := setPackage (setDrain l false v) id y) (id := id) (by rw [hy, hywas])
  rw [hstep, nextTile_installs (by rw [hy, hyrest]) (by rw [hy, hyback])]
  exact ⟨hstate, hinst.trans (by rw [hy, hystaged]), c, e, (htiles _).trans htile⟩
end

/-! ### The statement -/

/-- Settles O56: each command by the branch of its rule that the stage before it selects. -/
theorem liveUpdate : Obligations.LiveUpdate := by
  refine ⟨fun vi s => ⟨firmwareOpen_stages, fun o n v => firmwareChunk_takes, firmwareVerify_judges, firmwareActivate_probation,
    fun pass => firmwareActivate_fails, firmwareCommit_commits, firmwareAbandon_staged, firmwareAbandon_probation,
    probationExpiry_verified⟩, fun vi id s => ⟨packageOpen_stages, fun el n v => packageChunk_takes, fun p hw h => ?_,
    packageActivate_rotates, packageAbandon_staged, ?_⟩⟩
  · cases hg : packageSigned s id with
    | false =>
      obtain ⟨u, hu, hok, hstate⟩ := packageVerify_judges (p := p) hw h (.inl hg)
      refine ⟨u, hu, fun hgood => ?_, fun _ => ⟨hok, hstate⟩⟩
      exact absurd (hg.symm.trans hgood) Bool.false_ne_true
    | true =>
      cases ht : tableOk s id p with
      | false =>
        refine ⟨_, packageVerify_badTable hw h hg ht, fun _ _ => ⟨rfl, rfl⟩, fun hor => ?_⟩
        rcases hor with hbad | hbad
        · exact absurd (hg.symm.trans hbad) Bool.noConfusion
        · exact absurd hbad Bool.false_ne_true
      | true =>
        obtain ⟨u, hu, hok, hstate⟩ := packageVerify_judges (p := p) hw h (.inr ht)
        exact ⟨u, hu, fun _ hbad => absurd hbad Bool.noConfusion, fun _ => ⟨hok, hstate⟩⟩
  · intro l hid h hrest hback hwas hidle hfence
    have hval : (Fin.ofNat 256 id).val = id := Nat.mod_eq_of_lt hid
    obtain ⟨hstate, hinst, c, e, htile⟩ := rotationStep_last h hrest hback hwas hidle hfence
    refine ⟨_, congrArg (fun k => Host.Outcome.next (settle (rotationStep k s))) hval, ?_⟩
    rw [packageOf_congr (updatesOf_settled (settle_settled _)), (settle_settled _).tileOf, htile]
    exact ⟨hstate, hinst, rfl, rfl⟩

end Sys2Proof.Machine
end

section
/-! O57 (18 R455). A BRANCHMAP without positions is a member's request to the head: another member that hears it notes nothing, and
the statement asks of every list of positions that it be noted, of the empty one too. -/

namespace Sys2Proof.Machine

open Sys2Proof.Safety

/-- A BRANCHMAP without positions leaves the branches of a member that is not the head. -/
theorem branchmap_withoutPositions {east : Bool} {src dst : Fin 256} {s : State} (hstacked : stacked s = true)
    (hlink : linkUp s (!east) = true) (hsrc : src.val ≠ s.stack.position) (hdst : dst.val = s.stack.position)
    (hhead : isHead s = false) (capid : Fin 4096) (owner : Fin 8) (bin : Fin 512) (mcode : Fin 6) (peakAt : Nat) :
    ∃ u, execBranchmap east src dst capid owner bin mcode peakAt [] s = .next u ∧ u.stack.branches = s.stack.branches := by
  have hother : isHead (heard src s) = false := hhead
  refine ⟨_, congrArg Host.Outcome.next (receiveCascade_here hstacked hlink hsrc hdst ..), ?_⟩
  simp only [hother, List.isEmpty_nil, Bool.false_eq_true, false_and, if_true, if_false, ite_self]
  rfl

/-- Member 1 of a stack of two, under WIDEN, with no branch: its head is member 0, and its west link and its timebase are up. -/
def westMember : State :=
  { setLane State.reset 18 { locked := true } with
    time := { valid := true }, stack := { position := 1, members := 3, head := 0, functions := 1 } }

/-- Refutes O57: in the BRANCHMAP clause the positions may be none. Member 1 of a stack, which holds no branch, hears one without
positions from the head; the statement then asks for the branch (0, 0, []) among its branches, of which there are none. -/
theorem not_stackMessages : ¬ Obligations.StackMessages := by
  intro h
  obtain ⟨-, hmessages, -⟩ := h.1 westMember
  obtain ⟨-, -, -, hbranchmap⟩ := hmessages true 0 1 (by decide +kernel) (by decide +kernel) (by decide +kernel) (by decide +kernel)
    (by decide +kernel)
  obtain ⟨u, hu, hnoted⟩ := hbranchmap 0 0 0 0 0 [] (by decide +kernel) (by decide +kernel)
  obtain ⟨v, hv, hbranches⟩ := branchmap_withoutPositions (s := westMember) (east := true) (src := 0) (dst := 1) (by decide +kernel)
    (by decide +kernel) (by decide +kernel) (by decide +kernel) (by decide +kernel) 0 0 0 0 0
  have huv : u = v := Host.Outcome.next.inj (hu.symm.trans hv)
  rw [huv, hbranches] at hnoted
  exact absurd hnoted (by decide +kernel)

end Sys2Proof.Machine
end
